-- ==== Sys2Proof/Word.lean ====
section
/-! DEFINITION. The word types of the block and the sparse tables that hold per-unit state. -/

namespace Sys2Proof

/-- One byte. -/
abbrev Byte := BitVec 8
/-- A 32-bit word (also the bits of an FP32 number). -/
abbrev W32 := BitVec 32
/-- A 64-bit word: a general register of a lamp sequencer (R117), a bus word. -/
abbrev W64 := BitVec 64
/-- A 64-byte line; byte i of the line is bits [8i+7:8i] (R13). -/
abbrev Line := BitVec 512

/-- A sparse table: key and value pairs. A key that is not listed has its reset value. -/
abbrev Tab (α : Type) := List (Nat × α)

end Sys2Proof
end

