-- ==== Sys2Proof/Machine/Types.lean ====
section
/-! DEFINITION. The named alternatives that the records of the block use: modes, statuses, event names. -/

namespace Sys2Proof.Machine

/-- The three parts of R1. -/
inductive Part where | a4t | a2t | g4t
deriving DecidableEq, Repr

/-- Readiness levels of R327. -/
inductive Ready where | dark | tended | charted | lit
deriving DecidableEq, Repr

/-- Service states of R424. -/
inductive Svc where | inService | draining | condemned
deriving DecidableEq, Repr

/-- Chain-link states of R34. -/
inductive LinkSt where | up | half | down
deriving DecidableEq, Repr

/-- Loss states of a lantern (`20.0nn.070 LossState`, R412). -/
inductive Loss where | alive | fencing | lost | relighting
deriving DecidableEq, Repr

/-- States of an accumulator set (R52). -/
inductive SetSt where | free | opn | busy | draining
deriving DecidableEq, Repr

/-- States of a lane-file half (R45, R130). -/
inductive HalfSt where | empty | loading | full
deriving DecidableEq, Repr

/-- States of a context (`02.0cc.001 ContextState`, R115). -/
inductive CtxSt where | free | active | extinguished | destroying
deriving DecidableEq, Repr

/-- States of a light group (`22.0gg.001 GroupState`, R164). -/
inductive GroupSt where | free | formed | bound | stopped | degraded
deriving DecidableEq, Repr

/-- Sinker issue throttle (R180). -/
inductive Throttle where | full | half | quarter | stopped
deriving DecidableEq, Repr

/-- Berth states of the backing map (R191). -/
inductive BerthSt where | vacant | steady | copying | window | failed
deriving DecidableEq, Repr

/-- Tier states of a domain (`32.0dd.001 TierState`, R210). -/
inductive TierSt where | normal | evacuating | evacuated | repairing | returning | deferred | offline
deriving DecidableEq, Repr

/-- Region policies (R193). -/
inductive Policy where | auto | stack | bulk | streamed
deriving DecidableEq, Repr

/-- Memory channel states (`30.0ss.001`, `31.0cc.001`, R210). -/
inductive ChanSt where | up | held | evacuated | offline | lost
deriving DecidableEq, Repr

/-- Service states of a DDR5 channel (`31.0cc.020`, R447). -/
inductive ChanSvc where | inUse | evacuating | out | training | returning
deriving DecidableEq, Repr

/-- Keeper cluster states (`40.2cc.001`, R289). -/
inductive ClusterSt where | running | reset | lost
deriving DecidableEq, Repr

/-- Lamp cartridge states (R306). -/
inductive CartSt where | empty | checking | shared | sole | standby | fault
deriving DecidableEq, Repr

/-- Guest site states (R455). -/
inductive GuestSt where | empty | admitting | running | suspended | held
deriving DecidableEq, Repr

/-- Cache line states of an agent (R254). -/
inductive CState where | m | e | s
deriving DecidableEq, Repr

/-- Directory states of a line (R254); BUSY is the presence of a transaction. -/
inductive Dir where
  | untracked
  | shared (sharers : List Nat)
  | owned (owner : Nat)
deriving DecidableEq, Repr

/-- Requests that agents send to a home (R256). -/
inductive ReqKind where | rdS | rdX | upg | rdOnce | wrLine | wrPart | atom | watch | unwatch
deriving DecidableEq, Repr

/-- WATCH and UNWATCH, whose `agent` is a watcher identity (R260). -/
def ReqKind.watches : ReqKind → Bool
  | .watch | .unwatch => true
  | _ => false

/-- Snoops that a home sends (R257). -/
inductive Snoop where | inv | fwdS | fwdX | peek | recall
deriving DecidableEq, Repr

/-- Far atomic operations (R139). -/
inductive AtomOp where | add | and | or | xor | min | max | minu | maxu | swap | cas
deriving DecidableEq, Repr

/-- Range operations (R263). -/
inductive RangeOp where | clean | invalidate | cleanInvalidate
deriving DecidableEq, Repr

/-- Privilege levels of a keeper hart as R283 names them. -/
inductive Priv where | m | hs | vs | vu | u
deriving DecidableEq, Repr

/-- Roles of the light list in ascending order (R348). -/
inductive Role where | observer | operator | service | vendor
deriving DecidableEq, Repr

/-- Light-list statuses (R361). -/
inductive Sts where
  | ok | accepted | notFound | denied | notWritable | badType | outOfRange | busy | notFitted | notNow
  | badState | badSignature | persistFailed | tooLarge | levelReject | rsvNonzero | noSlot | badQueue
  | badRegion | quota | badStreamDesc | badMember | badGroupDesc | badTable | noSpace | pathDown
  | badContext | badRange
deriving DecidableEq, Repr

/-- Kinds of port completion status (R300). -/
inductive WcSts where
  | ok | localLength | localProtection | localPoison | localTierFail | remoteAccess | remoteOperation
  | retryExceeded | rnrRetryExceeded | flushed | rsvNonzero | badDesc | linkDown
deriving DecidableEq, Repr

/-- Names of events, as the manual spells them in upper case with underscores (R370). -/
inductive Ev where
  | bulkPopulationMismatch
  | linkHalf
  | linkDown
  | flashPathDown
  | linkPartition
  | spareCandidate
  | quietLayer
  | selftestFail
  | contextTableUnreadable
  | completionUnreachable
  | queueRecordUnreadable
  | queueOverrun
  | msiUndelivered
  | groupRefused
  | memberDropped
  | groupTorn
  | groupStall
  | groupOverbudget
  | stackHot
  | tierNoFrame
  | writebackDropped
  | streamReplicaUsed
  | berthFailed
  | stackEvacuate
  | stackOffline
  | repairDeferred
  | tablePoison
  | tableUnreadable
  | deviceWriteLost
  | faultRingFull
  | faultRingBad
  | unmappedAccess
  | withdrawAckLost
  | deviceTimeout
  | arrayUncorrectable
  | rangeCompletionUnreachable
  | keeperClusterLost
  | portHang
  | portPoison
  | cqOverrun
  | cartridgeUnverified
  | cartridgeWear
  | cartridgeReplace
  | cartridgeSilent
  | cartridgePulled
  | supplyHigh
  | supplyOvervoltage
  | coolantWarm
  | coolantHot
  | coolantLeak
  | flowLost
  | flowGlitch
  | trayPowerWarn
  | slotIdInvalid
  | slotIdChanged
  | sensorInvalid
  | serviceBusNoBeacon
  | dimmHot
  | dimmUnapproved
  | flashDeviceFailed
  | scanSetUnavailable
  | flashObjectBad
  | readinessChanged
  | startHeld
  | sparePromoted
  | bootScanFail
  | configStoreNone
  | repairMapNone
  | railFail
  | siteSilent
  | clockLockFail
  | bulkOffline
  | frameRetired
  | startIncomplete
  | commandDone
  | configEntryBad
  | configStoreUnwritable
  | seqBlock
  | seqResumed
  | eventsSuppressed
  | powerLimitChanged
  | estimateLow
  | estimateHigh
  | estimateBroken
  | powerLimitUnmet
  | thermalLimit
  | thermalTrip
  | charStoreError
  | watchResync
  | berthMapError
  | correctedRate
  | memUncorrectable
  | poisonConsumed
  | contextExtinguished
  | failedBerthWrite
  | sinkerLost
  | hubLost
  | dieLost
  | errorBankOverflow
  | bankDump
  | offwatchSkipped
  | scanFail
  | sinkerEngineRetired
  | keeperScanDue
  | tileScanDue
  | checkRecipeBad
  | checkExpired
  | checkInputsChanged
  | checkUnresolved
  | bearingMismatch
  | beamChecksumTransient
  | beamChecksumFail
  | moduleSuspect
  | moduleCondemned
  | firmwareSwitchSkipped
  | firmwareReverted
  | bootSlotFallback
  | spareNone
  | bypassApplied
  | ageingLimit
  | floorRecordNone
  | debugEnabled
  | guestAttestFail
  | guestPower
  | guestAccessDenied
  | guestBreach
  | guestPoison

deriving DecidableEq, Repr

/-- How a BEAM's column checksum came out (R422, R423): an input of the world, since a silent error is one. -/
inductive BeamChk where | clean | transient | persistent
deriving DecidableEq, Repr

/-- What the ECC or SECDED code finds at an access (R185, R262): an input of the world. -/
inductive Ecc where | clean | corrected | uncorrectable | tagDouble
deriving DecidableEq, Repr

/-- An uncorrectable error that a structure of R393 meets, or more corrected ones than it may: a lens line, a half, the A buffer of
an operation, an entry of an accumulator set, the sequencer state of a hardware context, the resident vectors, an entry of the
TLB (0), of the range entries (1) or of the walk cache (2), of the watch table, of the berth store; 1,001 corrections of one code in
an hour. -/
inductive ArrayErr where
  | lensLine (i : Nat)
  | laneHalf (n : Nat)
  | aBuffer (id : Nat)
  | accEntry (set i : Nat)
  | sequencer (h : Nat)
  | vectors
  | chartEntry (which i : Nat)
  | watchEntry
  | berthEntry
  | rate (code : Nat)
deriving DecidableEq, Repr

/-- What a background scrub finds in one line of a cache (R262), or an error in another structure of R393 (log entry 93). -/
inductive Scrub where
  | clean
  | dataParity
  | tagSingle
  | tagDouble
  | array (e : ArrayErr)
deriving DecidableEq, Repr

/-- A flash at a member: its number, and whether the entries that it reads there meet an uncorrectable error of the
characteristic store (R158, R393). -/
structure Arrival where
  member : Nat
  storeBad : Bool := false
deriving DecidableEq, Repr

/-- How the admission of a guest die ends: the step of R456 that fails, none where it passes, and the digest of what was measured. -/
structure Admission where
  fail : Option Nat := none
  digest : Nat := 0
deriving DecidableEq, Repr

/-- The doors through which a range engine takes a command (R264, R266, R282). -/
inductive Door where
  | slot (k : Nat)
  | ring (i : Nat)
  | hart
deriving DecidableEq, Repr

/-- The outcome of training one chain link (R32): data lanes found failed in each direction, whether half width and the sideband train. -/
structure LinkTrain where
  failed0 : Nat
  failed1 : Nat
  halfOk : Bool
  sbOk : Bool
deriving DecidableEq, Repr

/-- The header fields of a Light List Protocol message that the hub checks (R354, R357). -/
structure Msg where
  /-- reserved bits zero, LENGTH agrees and the HMAC tag verifies -/
  wellFormed : Bool
  enc : Bool
  counter : Nat
  request : Nat
  more : Bool
  /-- VERSION of the header -/
  version : Nat := 1
deriving DecidableEq, Repr

/-- The body of a SESSION_INIT: whether its client certificate chain verifies, and its length in bytes (R355, R356). -/
structure InitBody where
  chainOk : Bool
  bytes : Nat := 1024
deriving DecidableEq, Repr

/-- A RoCEv2 request packet as a port receives it (R292, R298). -/
structure RoceReq where
  qpn : Nat
  psn : Nat
  /-- the OP code of the requester's descriptor (R297) -/
  op : Nat
  rkey : Nat
  va : Nat
  len : Nat
  data : List Byte
  imm : Option W32
  operand1 : W64
  operand2 : W64
  ce : Bool
deriving DecidableEq, Repr

/-- A RoCEv2 response packet as a requester receives it (R299, R303). -/
structure RoceResp where
  qpn : Nat
  psn : Nat
  /-- 0 ACK, 1 read response, 2 atomic response, 3 RNR NAK, 4 remote access NAK, 5 remote operational NAK -/
  kind : Nat
  data : List Byte
deriving DecidableEq, Repr

/-- A received Ethernet frame (R292, R297): its bytes as they came, tag included, without its FCS; or an uncorrectable FEC codeword. -/
structure EthFrame where
  bytes : List Byte
  fecBad : Bool
deriving DecidableEq, Repr

/-- What expires of a QP's congestion control (R301): the timer period, telling whether a CNP came in it; the byte counter; the responder's
CnpInterval. -/
inductive CcEvent where
  | timer (cnpSince : Bool)
  | bytes
  | cnpInterval
deriving DecidableEq, Repr

/-- A port reset: by RESET of the register region, or by the object PortReset with the caller's role (R294, R302). -/
structure PortResetReq where
  port : Nat
  role : Option Role
deriving DecidableEq, Repr

/-- What one poll of a lamp cartridge reads (R307). -/
structure CartRead where
  hours : Nat
  soleHours : Nat
  caseMilliC : Int
  /-- bias drift of each output in units of 0.1 % -/
  drift : List Nat
  /-- outputs that cannot reach their set power (R306) -/
  outFaults : List Nat
deriving DecidableEq, Repr

/-- Inputs of steps 1 to 4 of a start (R331, R332, R365): what the flash devices hold and how signatures verify. -/
structure ColdIn where
  /-- the PUF key is derived and a boot header verifies -/
  pufOk : Bool
  /-- the device SF0, SF1, identifies -/
  sf0Ok : Bool
  sf1Ok : Bool
  /-- the hub image in the slot on SF0, on SF1, verifies and is not below its floor -/
  hubA : Bool
  hubB : Bool
  /-- the repair map copy on SF0, on SF1, verifies (R332) -/
  mapA : Bool
  mapB : Bool
  /-- slots of store copy A, of copy B, that are not valid although a read-back verified them (R365) -/
  badSlotsA : List Nat
  badSlotsB : List Nat
  floorOk : Bool
  /-- guest sites, 0 and 1, whose presence strap reads fitted (R2) -/
  straps : List Nat := []
  /-- the input in mV as it rises on BB1 and BB2 (R312) -/
  inputMv : Nat := 54000
  /-- flash objects that fail their digest, by device; 0 boot header, 1 repair map, 2 vectors, 3 firmware slot, 4 event log, 5 scan
  sets; the store slots are badSlotsA and badSlotsB (R323, R324) -/
  badObjects0 : List Nat := []
  badObjects1 : List Nat := []
deriving DecidableEq, Repr

/-- The checks of a DIMM at memory training (R322): the capacity that its SPD gives, 0 when none answers; on the approved-memory list and
rated; trained and initialised; the identity of the SPD. -/
structure DimmTrain where
  gib : Nat
  approved : Bool
  trained : Bool
  identity : List Byte := []
deriving DecidableEq, Repr

/-- The verdict of a SELFTEST (R97). -/
inductive SelfVerdict where
  | pass
  | mismatch (case : Nat)
  | unreadable
deriving DecidableEq, Repr

/-- The module's status indicator (R310, R324, R339). -/
inductive Indicator where
  | off
  | green
  | amber
  | amberBlinks
  | blue
deriving DecidableEq, Repr

/-- A record of a Vizal V3 ageing file (R443): powered hours in the four junction bands, and the measured slowdown in 0.1 %. -/
structure V3Record where
  h0 : Nat
  h1 : Nat
  h2 : Nat
  h3 : Nat
  slowdown : Nat
deriving DecidableEq, Repr

/-- What a repair map holds of the module's repairs (R332, R334): site of each logical lantern, spare site of each tile,
retired sites, bypass masks and hosts by beam, chain-link lane spares, and remapped rows by channel. -/
structure RepairMap where
  sites : List (Nat × Nat)
  spares : List (Nat × Option Nat)
  retired : List Nat
  masks : List (Nat × Line)
  hosts : List (Nat × Nat)
  /-- link, and its spared data lanes in each direction -/
  linkSpares : List (Nat × Nat × Nat)
  rows : List (Nat × Nat)
  /-- the condemnation record is kept -/
  condemned : Bool
deriving DecidableEq, Repr

/-- Inputs of steps 5 to 11 of a start (R333 to R339). -/
structure RailsIn where
  flowOk : Bool
  pwrOk : Bool
  railsOk : Bool
  /-- every base tile, keeper die and hub-side clock locks -/
  clocksOk : Bool
  /-- lantern sites, tile × 16 + site, that do not lock or give no heartbeat -/
  silentSites : List Nat
  /-- lantern sites that fail their boot scan -/
  badSites : List Nat
  /-- unit classes other than the hub whose boot slot fails verification while the other slot verifies (R434) -/
  badSlots : List Nat
  links : List LinkTrain
  /-- capacity in GiB of the DIMM in each socket, 0 when none answers -/
  dimms : List Nat
  /-- channels whose DIMM is not on the approved-memory list or not rated -/
  unapproved : List Nat
  /-- stack channels, stack × 16 + channel, that fail calibration three times -/
  badStackCh : List Nat
  badBulkCh : List Nat
  badFrames : List (Nat × Nat × Nat)
  badSinkers : List Nat
  badClusters : List Nat
  badPorts : List Nat
  badTiles : List Nat
  /-- lanterns whose resident vectors fail their digest -/
  badVectors : List Nat
  /-- how the admission of the die at each guest site ends -/
  guests : List Admission
  /-- release of the resident vectors that the hub loads (R97) -/
  release : Nat := 1
  /-- what the SPD of each DIMM identifies it by (R322) -/
  identities : List (List Byte) := []
deriving DecidableEq, Repr

/-- The header of a firmware image (R431). -/
structure FwHdr where
  magic : Nat
  level : Nat
  reservedZero : Bool
  cls : Nat
  version : Nat
  ifMin : Nat
  ifMax : Nat
  levels : Nat
  length : Nat
  secVersion : Nat
  digest : Nat
deriving DecidableEq, Repr

/-- What the hub's cryptography answers of an image: DIGEST is that of its bytes, SIGNATURE verifies (R431, R449). -/
structure ImageSeal where
  digestOk : Bool
  sigOk : Bool
deriving DecidableEq, Repr

/-- A debug token's fields (R453) and what its signature gives. -/
structure Token where
  levelOk : Bool
  reservedZero : Bool
  scope : BitVec 6
  deviceOk : Bool
  nonce : Nat
  startLimit : Nat
  sigOk : Bool
deriving DecidableEq, Repr

/-- One guest window (R457). -/
structure GuestWin where
  v : Bool
  r : Bool
  w : Bool
  signal : Bool
  rsvZero : Bool
  ctx : Nat
  gbase : Nat
  length : Nat
  paBase : Nat
deriving DecidableEq, Repr

/-- Activity of one lantern in a 4 µs window: the ten counters of R377, in its order. -/
structure Activity where
  lantern : Nat
  counts : List Nat
deriving DecidableEq, Repr

/-- A register access of a hart that has not been performed in time: its oldest posted write, or the ACKED access that it makes
(R243). -/
inductive LateAccess where
  | posted (hart : Nat)
  | acked (hart pa : Nat) (store : Bool)
deriving DecidableEq, Repr

/-- How a load of a hart treats its value and its address: sign extension, and Svpbmt's NC or IO on main memory (R275). -/
structure LoadKind where
  signed : Bool
  nc : Bool := false
deriving DecidableEq, Repr

/-- What a store of a hart writes, and whether Svpbmt makes its page NC or IO (R275). -/
structure StoreKind where
  value : BitVec 64
  nc : Bool := false
deriving DecidableEq, Repr

/-- A hart with the privilege level it runs at and that level's envcfg CBIE (R277). -/
structure HartLevel where
  hart : Nat
  priv : Priv
  cbie : Nat
deriving DecidableEq, Repr

/-- A berth whose move flips, and the lines of it that the copy met uncorrectable, by number in the berth (R196). -/
structure MovedBerth where
  berth : Nat
  bad : List Nat := []
deriving DecidableEq, Repr

/-- One site's boot result, or a unit's heartbeat loss cause (R400). -/
inductive LossCause where | heartbeat | cacheTags | port | commanded
deriving DecidableEq, Repr

end Sys2Proof.Machine
end

