-- ==== Sys2Proof/Syntax.lean ====
section
/-! DEFINITION. The commands of the block: one constructor per row of spec/opcode_table.json. A lantern program's
instruction carries the logical lantern, the hardware context and the instruction word of R116; a light-list command
carries the role of its session (R348); an event carries what the world outside the block gives it. -/

namespace Sys2Proof

open Sys2Proof.Machine

/-- The commands of the GSV-7480. -/
inductive Instr where
  /-- PART_NUMBER_WRITE (R2): A vendor write of PartNumber is checked against the three part numbers and the guest presence straps, then persisted to take effect at the next start. -/
  | partNumberWrite (role : Role) (part : Option Part)
  /-- FLIT_REPLAY (R32): A receiver reports an uncorrectable flit and the sender replays it and all later flits from its retry buffer. -/
  | flitReplay (link dir : Nat) (ok : Bool)
  /-- RETRAIN (R32): Sixteen failed replays or an excessive lane-error rate hold the chain link and start its training. -/
  | retrain (link : Nat) (laneErrors : Bool)
  /-- LINK_TRAINING_DONE (R32): Link training ends, the hold is released, pending replays complete and waiting flashes are sent. -/
  | linkTrainingDone (link : Nat) (out : LinkTrain)
  /-- SIDEBAND_LANE_FAIL (R33): A flash sideband lane fails and is spared, or the sideband goes down and the groups that use it are torn down. -/
  | sidebandLaneFail (link dir : Nat)
  /-- A_STAGE (R46): The beam copies a queued BEAM's A operand from the lens into a free A buffer once its lens lines are valid. -/
  | aStage (l b : Nat)
  /-- BEAM_ISSUE (R56): A queued BEAM issues on its beam once every condition of the issue rule holds. -/
  | beamIssue (l b : Nat)
  /-- BEAM_COMPLETE (R54): A BEAM ends after its exact cycle count, writes the set and frees its A buffer and half. -/
  | beamComplete (l b : Nat) (chk : BeamChk) (verdict : SelfVerdict)
  /-- VECTOR_RELOAD (R97): At a lantern's quiescent point the hub reloads resident SELFTEST vectors that failed their digest. -/
  | vectorReload (l : Nat) (digestOk : Bool)
  /-- NOP (R123): Does nothing. -/
  | nop (l h : Nat) (w : W64)
  /-- END (R123): Finishes the program; the lantern joins with OK once its tallies are zero. -/
  | endProg (l h : Nat) (w : W64)
  /-- RAISE (R123): Ends the request with EXCEPTION and a program-defined DETAIL. -/
  | raise (l h : Nat) (w : W64)
  /-- J (R123): Jumps to PC + OFF × 8. -/
  | j (l h : Nat) (w : W64)
  /-- JR (R123): Jumps to gA + OFF × 8; a bad target faults at its fetch. -/
  | jr (l h : Nat) (w : W64)
  /-- CALL (R123): Writes PC + 8 into gA and jumps. -/
  | call (l h : Nat) (w : W64)
  /-- BR_EQ (R123): Branches when gA equals gB. -/
  | brEq (l h : Nat) (w : W64)
  /-- BR_NE (R123): Branches when gA differs from gB. -/
  | brNe (l h : Nat) (w : W64)
  /-- BR_LT (R123): Branches when gA is less than gB, signed. -/
  | brLt (l h : Nat) (w : W64)
  /-- BR_GE (R123): Branches when gA is greater than or equal to gB, signed. -/
  | brGe (l h : Nat) (w : W64)
  /-- BR_LTU (R123): Branches when gA is less than gB, unsigned. -/
  | brLtu (l h : Nat) (w : W64)
  /-- BR_GEU (R123): Branches when gA is greater than or equal to gB, unsigned. -/
  | brGeu (l h : Nat) (w : W64)
  /-- LOOP (R123): Decrements gA and branches if the result is nonzero. -/
  | loop (l h : Nat) (w : W64)
  /-- ADD (R124): Integer addition into gD. -/
  | add (l h : Nat) (w : W64)
  /-- SUB (R124): Integer subtraction into gD. -/
  | sub (l h : Nat) (w : W64)
  /-- AND (R124): Bitwise AND into gD. -/
  | and (l h : Nat) (w : W64)
  /-- OR (R124): Bitwise OR into gD. -/
  | or (l h : Nat) (w : W64)
  /-- XOR (R124): Bitwise XOR into gD. -/
  | xor (l h : Nat) (w : W64)
  /-- SHL (R124): Shift left by operand B[5:0]. -/
  | shl (l h : Nat) (w : W64)
  /-- SHR (R124): Logical shift right by operand B[5:0]. -/
  | shr (l h : Nat) (w : W64)
  /-- SRA (R124): Arithmetic shift right by operand B[5:0]. -/
  | sra (l h : Nat) (w : W64)
  /-- MUL (R124): Low 64 bits of the product. -/
  | mul (l h : Nat) (w : W64)
  /-- MULHU (R124): High 64 bits of the unsigned product. -/
  | mulhu (l h : Nat) (w : W64)
  /-- DIVU (R124): Unsigned division, all ones on division by zero. -/
  | divu (l h : Nat) (w : W64)
  /-- REMU (R124): Unsigned remainder, gA on division by zero. -/
  | remu (l h : Nat) (w : W64)
  /-- SLT (R124): Sets gD to 1 if gA is less than operand B, signed. -/
  | slt (l h : Nat) (w : W64)
  /-- SLTU (R124): Sets gD to 1 if gA is less than operand B, unsigned. -/
  | sltu (l h : Nat) (w : W64)
  /-- LIH (R124): Loads gA[31:0] plus IMM32 shifted into the upper half. -/
  | lih (l h : Nat) (w : W64)
  /-- MAXU (R124): Unsigned maximum into gD. -/
  | maxu (l h : Nat) (w : W64)
  /-- FADD (R125): FP32 addition. -/
  | fadd (l h : Nat) (w : W64)
  /-- FSUB (R125): FP32 subtraction. -/
  | fsub (l h : Nat) (w : W64)
  /-- FMUL (R125): FP32 multiplication. -/
  | fmul (l h : Nat) (w : W64)
  /-- FDIV (R125): FP32 division. -/
  | fdiv (l h : Nat) (w : W64)
  /-- FSQRT (R125): FP32 square root of gA. -/
  | fsqrt (l h : Nat) (w : W64)
  /-- FMA (R125): FP32 fused multiply-add into gD. -/
  | fma (l h : Nat) (w : W64)
  /-- FMIN (R125): FP32 minimum, returning the non-NaN operand and ordering −0 below +0. -/
  | fmin (l h : Nat) (w : W64)
  /-- FMAX (R125): FP32 maximum, returning the non-NaN operand and ordering −0 below +0. -/
  | fmax (l h : Nat) (w : W64)
  /-- FCVT_F_I (R125): Converts a signed 64-bit integer to FP32. -/
  | fcvtFI (l h : Nat) (w : W64)
  /-- FCVT_I_F (R125): Converts FP32 to a signed 64-bit integer with saturation. -/
  | fcvtIF (l h : Nat) (w : W64)
  /-- FLT (R125): FP32 less-than compare. -/
  | flt (l h : Nat) (w : W64)
  /-- FEQ (R125): FP32 equality compare. -/
  | feq (l h : Nat) (w : W64)
  /-- TSCALE (R125): Computes the per-tensor scale of R74 from an amax. -/
  | tscale (l h : Nat) (w : W64)
  /-- LD (R126): Scalar load through the chart unit and the die cache. -/
  | ld (l h : Nat) (w : W64)
  /-- ST (R126): Scalar store through the chart unit and the die cache. -/
  | st (l h : Nat) (w : W64)
  /-- LD_ACQ (R126): Acquire load. -/
  | ldAcq (l h : Nat) (w : W64)
  /-- ST_REL (R126): Release store. -/
  | stRel (l h : Nat) (w : W64)
  /-- TLD (R126): Loads a 64-byte tile descriptor from memory. -/
  | tld (l h : Nat) (w : W64)
  /-- TST (R126): Stores a tile descriptor to memory. -/
  | tst (l h : Nat) (w : W64)
  /-- TSET (R126): Writes one field of a tile descriptor. -/
  | tset (l h : Nat) (w : W64)
  /-- TGET (R126): Reads one field of a tile descriptor. -/
  | tget (l h : Nat) (w : W64)
  /-- TADV (R126): Advances a descriptor's BASE and INDEX_BASE. -/
  | tadv (l h : Nat) (w : W64)
  /-- LDL (R126): Scalar load from the lens. -/
  | ldl (l h : Nat) (w : W64)
  /-- STL (R126): Scalar store to the lens. -/
  | stl (l h : Nat) (w : W64)
  /-- MOVE_M2L (R129): Checks the footprint of a memory tile and moves it into the lens, converting if asked. -/
  | moveM2L (l h : Nat) (w : W64)
  /-- MOVE_L2M (R129): Checks the footprint and moves a lens tile to memory. -/
  | moveL2M (l h : Nat) (w : W64)
  /-- MOVE_L2F (R128): Loads a lens tile into a claimed lane-file half and tags it. -/
  | moveL2F (l h : Nat) (w : W64)
  /-- MOVE_DONE (R122): A MOVE, SINK or SEND has performed all its writes and its tally is decremented. -/
  | moveDone (id : Nat)
  /-- BEAM (R131): Checks a BEAM instruction and enters it into its beam's queue. -/
  | beam (l h : Nat) (w : W64)
  /-- CLAIM (R130): Claims a set of lane-file halves, waiting until all are free. -/
  | claim (l h : Nat) (w : W64)
  /-- CLAIM_GRANT (R130): A waiting CLAIM is granted once every named half is free. -/
  | claimGrant (l : Nat)
  /-- RELEASE (R130): Releases claimed lane-file halves, which free once their queued BEAMs end. -/
  | release (l h : Nat) (w : W64)
  /-- POST (R132): Runs a post-unit function over a set or lens tile and writes the result into the lens. -/
  | post (l h : Nat) (w : W64)
  /-- REDUCE_SUM (R134): Tree sum over Q lens planes. -/
  | reduceSum (l h : Nat) (w : W64)
  /-- REDUCE_MAX (R134): Exact maximum over lens planes. -/
  | reduceMax (l h : Nat) (w : W64)
  /-- REDUCE_MIN (R134): Exact minimum over lens planes. -/
  | reduceMin (l h : Nat) (w : W64)
  /-- AMAX (R134): Writes the amax and nonfinite count of a lens tile. -/
  | amax (l h : Nat) (w : W64)
  /-- AMAX_ACC (R134): Accumulates a tile's amax and nonfinite count into registers. -/
  | amaxAcc (l h : Nat) (w : W64)
  /-- OPT_STEP (R90): Applies the optimiser update to a tile and adds to the layer's pending counts. -/
  | optStep (l h : Nat) (w : W64)
  /-- OPT_CLOSE (R92): Closes a layer's step atomically, adjusts SHIFT and runs the quiet-layer monitor. -/
  | optClose (l h : Nat) (w : W64)
  /-- SINK (R136): Reads and checks a sinker descriptor and passes it to its sinker. -/
  | sink (l h : Nat) (w : W64)
  /-- SEND (R137): Carries a lens tile into another lantern's lens. -/
  | send (l h : Nat) (w : W64)
  /-- SEND_ARRIVAL (R137): Bytes of a SEND land at the receiver and add to its TAG counter, or are discarded. -/
  | sendArrival (id k : Nat)
  /-- RECV (R137): Waits until a TAG counter reaches the expected bytes, then subtracts them. -/
  | recv (l h : Nat) (w : W64)
  /-- RECV_TIMEOUT (R137): A RECV's time-out elapses before its bytes arrive. -/
  | recvTimeout (l h : Nat)
  /-- WAITFLASH (R138): Declares lit if asked, binds the group if free, and waits for the flash count. -/
  | waitflash (l h : Nat) (w : W64)
  /-- WAITSTREAM (R199): Waits until a stream layer is resident, moving the consumer's mark. -/
  | waitstream (l h : Nat) (w : W64)
  /-- WAIT_LINE (R138): Registers a line watch and waits until the word meets its condition. -/
  | waitLine (l h : Nat) (w : W64)
  /-- WAIT_LINE_TIMEOUT (R138): A WAIT.LINE time-out elapses and the last value read is returned. -/
  | waitLineTimeout (l h : Nat)
  /-- WATCH_POLL (R260): A refused WAIT.LINE or chart watch re-reads its line every 2 µs. -/
  | watchPoll (l h : Nat)
  /-- WAIT_TALLY (R138): Waits until a tally is zero. -/
  | waitTally (l h : Nat) (w : W64)
  /-- ATOM_ADD (R139): Far atomic add at the home. -/
  | atomAdd (l h : Nat) (w : W64)
  /-- ATOM_AND (R139): Far atomic AND at the home. -/
  | atomAnd (l h : Nat) (w : W64)
  /-- ATOM_OR (R139): Far atomic OR at the home. -/
  | atomOr (l h : Nat) (w : W64)
  /-- ATOM_XOR (R139): Far atomic XOR at the home. -/
  | atomXor (l h : Nat) (w : W64)
  /-- ATOM_MIN (R139): Far atomic signed minimum. -/
  | atomMin (l h : Nat) (w : W64)
  /-- ATOM_MAX (R139): Far atomic signed maximum. -/
  | atomMax (l h : Nat) (w : W64)
  /-- ATOM_MINU (R139): Far atomic unsigned minimum. -/
  | atomMinu (l h : Nat) (w : W64)
  /-- ATOM_MAXU (R139): Far atomic unsigned maximum. -/
  | atomMaxu (l h : Nat) (w : W64)
  /-- ATOM_SWAP (R139): Far atomic swap. -/
  | atomSwap (l h : Nat) (w : W64)
  /-- ATOM_CAS (R139): Far atomic compare-and-swap. -/
  | atomCas (l h : Nat) (w : W64)
  /-- FENCE (R242): Lantern fence of CORE, CLUSTER or SYSTEM scope. -/
  | fence (l h : Nat) (w : W64)
  /-- SETOP (R140): Records the hardware context's preferred operating point. -/
  | setop (l h : Nat) (w : W64)
  /-- CHECK (R418): Offers a lens tile for a sampled bearing check. -/
  | check (l h : Nat) (w : W64)
  /-- SELFTEST (R97): Runs resident test vectors through a beam and reports the first mismatch. -/
  | selftest (l h : Nat) (w : W64)
  /-- CREATE (R100): Reads and checks a context-table entry and makes the context ACTIVE. -/
  | create (role : Role) (c : Nat)
  /-- REGISTER_QUEUE (R104): Checks a queue descriptor and registers watches for its watchers. -/
  | registerQueue (role : Role) (c d : Nat)
  /-- UNREGISTER_QUEUE (R100): Releases a queue's watch slots. -/
  | unregisterQueue (role : Role) (q : Nat)
  /-- DESTROY (R100): Unregisters queues, cancels requests and issues a WITHDRAW_ALL for the context. -/
  | destroy (role : Role) (c : Nat)
  /-- DESTROY_DONE (R100): Every hardware context of the context is free and its withdrawal acknowledged, so it becomes FREE. -/
  | destroyDone (c : Nat)
  /-- WATCH_NOTICE (R106): A watch notice makes a lantern read TAIL and walk the queue records from its position. -/
  | watchNotice (l slot : Nat)
  /-- TAKE (R108): A lantern takes a record when a hardware context and resources are free, checks it and starts the program. -/
  | take (l : Nat)
  /-- QUEUE_HEAD_WAIT (R106): A queue head that cannot be taken for 1 ms stops the lantern taking anything else. -/
  | queueHeadWait (l slot : Nat)
  /-- JOIN (R110): A lantern joins the completion record; the last joiner writes DONE and sends the MSI. -/
  | join (l h : Nat)
  /-- ABANDON (R112): A completion-record notice with a nonzero STATUS makes a running lantern stop and join ABANDONED. -/
  | abandon (l h : Nat)
  /-- LATENESS_EXPIRY (R113): A wait on a lower tier passes the lateness limit and the request ends with TIER_LATE. -/
  | latenessExpiry (l h : Nat)
  /-- FORM (R149): Reads and checks a group descriptor and loads the characteristic tables. -/
  | form (role : Role) (g d : Nat)
  /-- REFORM (R149): Reloads a FORMED or DEGRADED group from its descriptor. -/
  | reform (role : Role) (g : Nat)
  /-- DISSOLVE (R149): Frees a group's stores and flash paths. -/
  | dissolve (role : Role) (g : Nat)
  /-- FLASH_FIRE (R154): With every member lit and the period elapsed, the leader fires the next flash. -/
  | flashFire (g : Nat) (held : Nat)
  /-- FLASH_ARRIVAL (R158): A flash reaches a member, which launches its table entries for that flash. -/
  | flashArrival (g : Nat) (member : Machine.Arrival)
  /-- FLASH_ACTION_DONE (R158): A launched table action completes, which may make the member lit and return its declaration. -/
  | flashActionDone (g member idx : Nat)
  /-- GROUP_STALL (R156): A group's stall timer reaches the limit and the request ends with GROUP_STALL. -/
  | groupStall (g : Nat)
  /-- SINK_ADMIT (R169): A waiting descriptor is admitted to the sinker's queue when room appears. -/
  | sinkAdmit (s : Nat)
  /-- GATHER_POOL (R172): A sinker pools bags of table rows into output rows. -/
  | gatherPool (s id : Nat)
  /-- SCORE_TOPK (R174): A sinker scores queries against every row and keeps the best K. -/
  | scoreTopk (s id : Nat)
  /-- STATS (R175): A sinker passes over a region and writes amax, sums and an optional census. -/
  | stats (s id : Nat)
  /-- FILL (R176): A sinker writes a byte pattern over a region and clears poison. -/
  | fill (s id : Nat)
  /-- CHECKSUM (R176): A sinker computes the GF(2^64) checksum of a region. -/
  | checksum (s id : Nat)
  /-- COPY (R176): A sinker copies the rows of a region to a destination. -/
  | copy (s id : Nat)
  /-- SINK_DONE (R169): A descriptor has written all results and its status record, so its tally or action completes. -/
  | sinkDone (s id : Nat)
  /-- STACK_TEMP_SAMPLE (R180): Every 4 µs the stack's hottest sensor is read and the sinker throttle state updated. -/
  | stackTempSample (s : Nat) (milliC : Int)
  /-- SINKER_LOST (R404): A sinker die gives no heartbeat for 8 µs, its descriptors end with TIER_FAIL and its stack channels become LOST. -/
  | sinkerLost (s : Nat)
  /-- REGION_ADD (R194): Creates a region with an owner and a policy, moving berths as the policy needs. -/
  | regionAdd (role : Role) (d base n c policy : Nat)
  /-- REGION_REMOVE (R194): Returns a region's berths to system memory. -/
  | regionRemove (role : Role) (r : Nat)
  /-- RELEASE_BERTHS (R194): Makes berths VACANT and returns or retires their frames. -/
  | releaseBerths (role : Role) (base n : Nat)
  /-- RELOAD (R194): Makes FAILED berths VACANT and retires their failed frames. -/
  | reload (role : Role) (base n : Nat)
  /-- STREAM_ADD (R197): Checks and registers a stream descriptor and reserves its window frames. -/
  | streamAdd (role : Role) (pa : Nat)
  /-- STREAM_REMOVE (R194): Returns a stream's window berths and drops the stream. -/
  | streamRemove (role : Role) (s : Nat)
  /-- EVACUATE (R206): Starts the evacuation of a domain's stack tier by hand. -/
  | evacuate (role : Role) (d : Nat)
  /-- RETURN (R206): Starts the return of a domain's stack tier by hand. -/
  | tierReturn (role : Role) (d : Nat)
  /-- BERTH_QUERY (R194): Returns a berth's backing-map entry and counter. -/
  | berthQuery (role : Role) (pa : Nat)
  /-- MIGRATION_EPOCH (R195): At the end of an epoch the migration engine promotes hot berths, demotes cold ones and halves the counters. -/
  | migrationEpoch (d : Nat)
  /-- BERTH_MOVE_FLIP (R196): A berth copy completes and FRAME and TIER flip at the home in one step. -/
  | berthMoveFlip (d : Nat) (berth : MovedBerth)
  /-- LAYER_RESIDENT (R200): A streamed layer's copy into window frames completes, waking its WAITSTREAMs. -/
  | layerResident (d s layer : Nat) (errs : List (Nat × Bool))
  /-- FRAME_ZEROED (R190): A freed frame finishes background zeroing and rejoins the free pool. -/
  | frameZeroed (d tier frame : Nat)
  /-- CHANNEL_RETRAIN (R205): A stack or DDR5 channel is held and retrained, entering the repair path if it retrains too often. -/
  | channelRetrain (ch : Nat) (tooOften unreadable : Bool)
  /-- CHANNEL_RETRAIN_DONE (R205): A channel retrain ends and the held requests proceed. -/
  | channelRetrainDone (ch : Nat)
  /-- EVACUATION_DONE (R206): Every stack-backed berth is in bulk, the domain is EVACUATED and repair starts. -/
  | evacuationDone (d : Nat)
  /-- REPAIR_DONE (R206): The stack channel repair passes or fails, leading to return or OFFLINE. -/
  | repairDone (d : Nat) (pass : Bool)
  /-- RETURN_DONE (R206): Pinned berths are back in the stack tier and the domain is NORMAL. -/
  | returnDone (d : Nat)
  /-- EVACUATION_RETRY (R207): A deferred evacuation is tried again every 10 s. -/
  | evacuationRetry (d : Nat)
  /-- ROW_REMAP (R208): A row that trips its error trigger is remapped, deferred, or its frame retired. -/
  | rowRemap (ch bank row : Nat) (frames uncorrectable : List Nat)
  /-- RD_S (R256): A shared read at the home, granted E or S or forwarded from the owner. -/
  | rdS (a pa : Nat) (ecc : Ecc)
  /-- RD_X (R256): An exclusive read at the home, invalidating or forwarding, granted M. -/
  | rdX (a pa : Nat)
  /-- UPG (R256): An upgrade of an S line to M, invalidating the other sharers. -/
  | upg (a pa : Nat)
  /-- RD_ONCE (R256): A read of the current value with no copy left. -/
  | rdOnce (a pa : Nat)
  /-- WR_LINE (R256): A whole-line write into the slice, invalidating every copy and clearing poison. -/
  | wrLine (a pa : Nat) (data : Line)
  /-- WR_PART (R256): A byte-masked partial write merged into the slice. -/
  | wrPart (a pa : Nat) (mask : W64) (data : Line)
  /-- HOME_ATOM (R258): A far atomic recalls or invalidates copies and is applied in the slice's atomic unit. -/
  | homeAtom (a pa : Nat) (op : AtomOp) (w64 : Bool) (x cmp : W64)
  /-- WATCH (R260): Registers a watcher on a line, or is refused with NO_WATCH. -/
  | watch (id pa : Nat)
  /-- UNWATCH (R260): Removes a watcher from a line. -/
  | unwatch (id pa : Nat)
  /-- WB (R256): An eviction of an M line writes its data into the slice. -/
  | wb (a pa : Nat)
  /-- EVICT_CLEAN (R256): An eviction of an E line clears the owner. -/
  | evictClean (a pa : Nat)
  /-- SNP_INV (R256): An agent drops its copy and answers INV_ACK. -/
  | snpInv (a pa : Nat)
  /-- SNP_FWD_S (R256): The owner forwards data to the requester and keeps S. -/
  | snpFwdS (a pa : Nat) (parity : Bool)
  /-- SNP_FWD_X (R256): The owner forwards data to the requester and drops its copy. -/
  | snpFwdX (a pa : Nat) (parity : Bool)
  /-- SNP_PEEK (R256): The owner returns the current value without changing state. -/
  | snpPeek (a pa : Nat) (parity : Bool)
  /-- SNP_RECALL (R258): The owner returns its data to the home and drops its copy. -/
  | snpRecall (a pa : Nat) (parity : Bool)
  /-- GRANT (R256): A requester receives permission without data. -/
  | grant (a pa : Nat)
  /-- DATA (R256): A requester receives line data. -/
  | data (a pa : Nat)
  /-- INV_ACK (R256): The home or requester counts an invalidation acknowledgement. -/
  | invAck (a pa : Nat)
  /-- DOWNGRADE_ACK (R256): The home counts an owner's downgrade acknowledgement. -/
  | downgradeAck (a pa : Nat)
  /-- COMPLETE (R255): The requester's completion ends the transaction and the line leaves BUSY. -/
  | complete (a pa : Nat)
  /-- RECALL_DATA (R261): A lent line returns to the home, which notifies every watcher. -/
  | recallData (a pa : Nat)
  /-- MOVED (R259): The keep cache or an L3 reports a line moving between them. -/
  | moved (a b pa : Nat)
  /-- CACHE_SCRUB (R262): Every 30 min each cache reads its lines and refetches or poisons those with parity errors. -/
  | cacheScrub (cache pa : Nat) (found : Scrub)
  /-- CLEAN (R263): The range engine writes back the dirty lines of a range. -/
  | clean (t : Nat) (door : Door)
  /-- INVALIDATE (R263): The range engine drops every copy of a range's lines. -/
  | invalidate (t : Nat) (door : Door)
  /-- CLEAN_INVALIDATE (R263): The range engine cleans then invalidates a range. -/
  | cleanInvalidate (t : Nat) (door : Door)
  /-- RANGE_COMMAND_DONE (R265): Every line of a range command is handled and the completion word is written with release. -/
  | rangeCommandDone (t id : Nat)
  /-- REGISTER_RING (R266): Registers a range-engine command ring for a context. -/
  | registerRing (role : Role) (t c header ring log2 : Nat)
  /-- REMOVE_RING (R266): Removes a range-engine command ring. -/
  | removeRing (role : Role) (t i : Nat)
  /-- CHART_RESUME (R225): A notice on the driver line shows RESUME_GEN has reached a batch and its held instructions retry or fail. -/
  | chartResume (l c : Nat)
  /-- FAULT_BATCH_TIMER (R224): A batch closes 100 µs after its first record, sets LAST, CLOSED and sends the MSI. -/
  | faultBatchTimer (c : Nat)
  /-- FAULT_RING_ROOM (R224): HEAD advances on a full fault ring and held records are written. -/
  | faultRingRoom (c : Nat)
  /-- WITHDRAW (R228): Drops a context's translations over a range and advances the chart epochs. -/
  | withdraw (role : Role) (c va length ack : Nat)
  /-- WITHDRAW_ALL (R228): Drops every translation of a context. -/
  | withdrawAll (role : Role) (c ack : Nat)
  /-- WITHDRAW_ACK (R228): Older-epoch references drain and the sequence number is written to the ack word. -/
  | withdrawAck (seq : Nat)
  /-- WITHDRAW_LIMIT (R229): The withdraw limit expires and requests holding old references end with XLATE_FAULT. -/
  | withdrawLimit (seq : Nat)
  /-- BUFFERED_STORE_PERFORM (R236): A committed store leaves the store buffer and performs at its home. -/
  | bufferedStorePerform (l : Nat)
  /-- POSTED_WRITE_PERFORM (R243): A posted device-register write reaches its target. -/
  | postedWritePerform (hart : Nat)
  /-- DEVICE_TIMEOUT (R243): A device-register access is not performed within 1 ms. -/
  | deviceTimeout (access : LateAccess)
  /-- KEEPER_LOAD (R238): A keeper hart load, ordered by RVWMO. -/
  | keeperLoad (hart rd pa size : Nat) (kind : LoadKind)
  /-- KEEPER_STORE (R238): A keeper hart store, ordered by RVWMO. -/
  | keeperStore (hart pa size : Nat) (v : StoreKind)
  /-- KEEPER_AMO (R258): A keeper AMO performed as a far atomic at the home. -/
  | keeperAmo (hart rd pa : Nat) (op : AtomOp) (size : Nat) (x cmp : BitVec 128)
  /-- LR (R244): Load-reserved taking a reservation on a 64-byte granule. -/
  | lr (hart rd pa size : Nat)
  /-- SC (R244): Store-conditional that succeeds only while the reservation holds. -/
  | sc (hart rd pa size : Nat) (v : W64)
  /-- KEEPER_FENCE (R242): A standard RISC-V FENCE on a keeper hart. -/
  | keeperFence (hart : Nat) (io : Bool)
  /-- CBO_CLEAN (R277): Cleans one block at its home. -/
  | cboClean (hart pa : Nat)
  /-- CBO_FLUSH (R277): Cleans and invalidates one block at its home. -/
  | cboFlush (hart pa : Nat)
  /-- CBO_INVAL (R277): Invalidates one block at its home. -/
  | cboInval (hart : HartLevel) (pa : Nat)
  /-- CBO_ZERO (R277): Writes a block of zeros as WR_LINE. -/
  | cboZero (hart pa : Nat)
  /-- WRS_NTO (R287): Stalls the hart until its reservation is lost or an interrupt is pending. -/
  | wrsNto (hart : Nat) (traps : Option Bool)
  /-- WRS_STO (R287): Stalls the hart for at most 1 µs waiting on its reservation. -/
  | wrsSto (hart : Nat)
  /-- WRS_TIMEOUT (R287): A WRS wait reaches its time limit or traps. -/
  | wrsTimeout (hart : Nat)
  /-- GSV_FENCE (R280): Scoped Xgsv fence over predecessor and successor sets. -/
  | gsvFence (hart : Nat) (priv : Priv) (w : W32)
  /-- GSV_LD_AQ (R281): Xgsv load-acquire. -/
  | gsvLdAq (hart : Nat) (priv : Priv) (w : W32)
  /-- GSV_SD_RL (R281): Xgsv store-release. -/
  | gsvSdRl (hart : Nat) (priv : Priv) (w : W32)
  /-- GSV_RANGE (R282): Issues a range command to the keep tile's engine and returns ACCEPTED, FULL or BAD_RANGE. -/
  | gsvRange (hart : Nat) (priv : Priv) (w : W32)
  /-- PERF_WRITE (R273): A write of a cluster's requested clock, granted within the power limits. -/
  | perfWrite (cl : Nat) (v : W64)
  /-- PLL_RELOCK_DONE (R273): A cluster's PLL relocks after a GRANT change and the cluster resumes. -/
  | pllRelockDone (cl : Nat)
  /-- KEEPER_CLUSTER_LOST (R272): A cluster's heartbeat is missing for 100 µs and its monitor resets it. -/
  | keeperClusterLost (cl : Nat)
  /-- INTERRUPT_WRITE (R284): A 4-byte write to a seteipnum_le register makes an interrupt identity pending. -/
  | interruptWrite (pa size : Nat) (v : W32) (fromHart : Bool)
  /-- PORT_ENABLE (R294): ENABLE starts or stops the port engine's fetching and delivery. -/
  | portEnable (p : Nat) (on : Bool)
  /-- PORT_RESET (R302): A port reset stops fetching, flushes descriptors, puts QPs in ERROR and brings the MACs up. -/
  | portReset (r : PortResetReq)
  /-- PORT_HANG (R302): A port engine that makes no progress for 10 ms is reset. -/
  | portHang (p : Nat)
  /-- RELOAD_QP (R294): Drops the engine's copy of a QP record. -/
  | reloadQp (p i : Nat)
  /-- RELOAD_CQ (R294): Drops the engine's copy of a CQ entry. -/
  | reloadCq (p i : Nat)
  /-- RELOAD_MR (R294): Drops an MR entry and acknowledges once DMA under it has performed. -/
  | reloadMr (p i : Nat)
  /-- RELOAD_POST_RING (R294): Drops the engine's copy of a post-ring entry. -/
  | reloadPostRing (p i : Nat)
  /-- RELOAD_ETH_QUEUE (R294): Drops the engine's copy of an Ethernet queue entry. -/
  | reloadEthQueue (p i : Nat)
  /-- POST_QP_SEND (R296): A post-ring entry advances a QP's send producer count. -/
  | postQpSend (p ring : Nat)
  /-- POST_QP_RECEIVE (R296): A post-ring entry advances a QP's receive producer count. -/
  | postQpReceive (p ring : Nat)
  /-- POST_ETH_SEND (R296): A post-ring entry advances an Ethernet send queue. -/
  | postEthSend (p ring : Nat)
  /-- POST_ETH_RECEIVE (R296): A post-ring entry advances an Ethernet receive queue. -/
  | postEthReceive (p ring : Nat)
  /-- CQ_ARM (R299): Arms a CQ so that its next completion sends an MSI. -/
  | cqArm (p ring : Nat)
  /-- ETH_SEND (R297): Sends an Ethernet frame with optional checksum, segmentation and VLAN tag. -/
  | ethSend (p q : Nat)
  /-- ROCE_SEND (R297): RoCEv2 SEND on a QP. -/
  | roceSend (p qpn : Nat)
  /-- SEND_IMM (R297): RoCEv2 SEND with immediate data. -/
  | sendImm (p qpn : Nat)
  /-- ROCE_WRITE (R297): RoCEv2 RDMA WRITE. -/
  | roceWrite (p qpn : Nat)
  /-- WRITE_IMM (R297): RoCEv2 RDMA WRITE with immediate data. -/
  | writeImm (p qpn : Nat)
  /-- ROCE_READ (R297): RoCEv2 RDMA READ. -/
  | roceRead (p qpn : Nat)
  /-- FETCH_ADD (R297): RoCEv2 8-byte fetch-and-add. -/
  | fetchAdd (p qpn : Nat)
  /-- CMP_SWAP (R297): RoCEv2 8-byte compare-and-swap. -/
  | cmpSwap (p qpn : Nat)
  /-- ETH_FRAME_RX (R297): A received Ethernet frame is steered, written to a receive buffer and completed. -/
  | ethFrameRx (p mac : Nat) (f : EthFrame)
  /-- ROCE_REQUEST_RX (R298): An incoming RoCEv2 request is checked against its MR and performed as responder. -/
  | roceRequestRx (p : Nat) (r : RoceReq)
  /-- ROCE_RESPONSE_RX (R299): An incoming ACK, NAK or read response advances or completes a QP's requests. -/
  | roceResponseRx (p : Nat) (r : RoceResp)
  /-- ACK_TIMEOUT (R299): A QP's ACK time-out expires and it retransmits by go-back-N. -/
  | ackTimeout (p qpn : Nat)
  /-- CNP_RX (R301): A received CNP cuts a QP's current rate. -/
  | cnpRx (p qpn : Nat)
  /-- CC_TIMER (R301): A congestion-control timer period or byte counter expires and the rate recovers. -/
  | ccTimer (p qpn : Nat) (e : CcEvent)
  /-- MAC_LINK_LOSS (R303): A MAC loses signal or FEC lock and LINK_UP is cleared. -/
  | macLinkLoss (p mac : Nat)
  /-- CARTRIDGE_INSERT (R305): A seated cartridge begins its identity check. -/
  | cartridgeInsert (c : Nat)
  /-- CARTRIDGE_CHECK_DONE (R305): A cartridge's identity check ends VERIFIED or UNVERIFIED and its lasers ramp per policy. -/
  | cartridgeCheckDone (c : Nat) (verified : Bool)
  /-- PREPARE_SWAP (R307): Makes the partner sole and puts a cartridge in STANDBY. -/
  | prepareSwap (role : Role) (c : Nat)
  /-- LATCH_OPEN (R308): A cartridge latch opens, its lasers cut and the partner goes sole. -/
  | latchOpen (c : Nat)
  /-- CARTRIDGE_FAULT (R306): A cartridge reports a laser fault or overheats and goes to FAULT. -/
  | cartridgeFault (c : Nat)
  /-- CARTRIDGE_POLL (R307): Every second the hub reads cartridge telemetry and raises wear events. -/
  | cartridgePoll (c : Nat) (r : CartRead)
  /-- CARTRIDGE_SILENT (R307): A cartridge management bus silent for 5 s marks its telemetry stale. -/
  | cartridgeSilent (c : Nat)
  /-- SUPPLY_HIGH (R313): Input above 58 V for 10 ms raises the alert cause. -/
  | supplyHigh
  /-- SUPPLY_HIGH_CLEAR (R313): Input below 57.5 V for 10 ms clears the SUPPLY_HIGH cause. -/
  | supplyHighClear
  /-- SUPPLY_OVERVOLTAGE (R313): Input above 61 V for 10 µs opens and latches the input disconnect. -/
  | supplyOvervoltage
  /-- COOLANT_WARM (R315): Inlet above 40 °C for 1 s derates the module power limit. -/
  | coolantWarm
  /-- COOLANT_DERATE_CLEAR (R315): Inlet below 39 °C for 10 s clears the derating. -/
  | coolantDerateClear
  /-- COOLANT_HOT (R315): Inlet above 50 °C for 1 s causes a dark stop. -/
  | coolantHot
  /-- COOLANT_LEAK (R315): A wet leak trace for 100 ms causes a dark stop. -/
  | coolantLeak (trace : Nat)
  /-- FLOW_LOST (R317): Filtered TRAY_FLOW_OK false for 20 ms causes a dark stop. -/
  | flowLost (returned : Bool)
  /-- TRAY_POWER_WARN (R317): Filtered TRAY_PWR_OK false with the main rails on starts an orderly dark. -/
  | trayPowerWarn
  /-- TRAY_RESET (R317): TRAY_RESET_N low for at least 10 µs abruptly resets the module. -/
  | trayReset (lowNs : Nat)
  /-- SLOT_ID_SAMPLE (R317): SLOT_ID is sampled and checked, raising SLOT_ID_INVALID or SLOT_ID_CHANGED. -/
  | slotIdSample (samples : List Nat) (atStart : Bool)
  /-- SENSOR_SAMPLE (R320): Board sensors are sampled at 1 kHz and checked against their valid ranges. -/
  | sensorSample (sensor : Nat) (reading : Int)
  /-- SENSOR_INVALID (R320): A sensor with no valid reading for 1 s is replaced by its substitute. -/
  | sensorInvalid (sensor : Nat)
  /-- SERVICE_BUS_NO_BEACON (R321): No PLCA beacon for 100 ms stops service-bus transmission. -/
  | serviceBusNoBeacon
  /-- COLD_START (R330): A cold start runs the hub ROM, image verification, configuration store and repair map to TENDED. -/
  | coldStart (kind : Nat) (inp : ColdIn)
  /-- HUB_ROM_RETRY (R339): Every 10 s the hub ROM retries a start that failed at step 1 or 2. -/
  | hubRomRetry (inp : ColdIn)
  /-- MAIN_RAILS_START (R333): Once the tray conditions hold, rails, clocks, links, memory and boot scan bring the module to LIT. -/
  | mainRailsStart (inp : RailsIn)
  /-- WARM (R340): An orderly warm restart keeping hub firmware and rails, re-running steps 3 to 11. -/
  | warm (role : Role) (inp : RailsIn) (cold : ColdIn)
  /-- DARK (R341): An orderly dark destroys every context, stops, logs and switches the rails off. -/
  | dark (role : Role)
  /-- SESSION_INIT (R356): Starts an SM2 key exchange, verifying the client chain and taking its role. -/
  | sessionInit (mailbox : Option Nat) (slot : Nat) (multicast : Bool) (body : Machine.InitBody) (role : Role)
  /-- SESSION_CONFIRM (R356): Checks the client's confirmation and opens the session. -/
  | sessionConfirm (sid : Nat) (ok : Bool)
  /-- SESSION_CLOSE (R356): Closes a session at once. -/
  | sessionClose (sid : Nat)
  /-- SESSION_TIMEOUT (R356): A session with no valid message for 60 s is closed. -/
  | sessionTimeout (sid : Nat)
  /-- READ (R355): A Light List Protocol READ of an object value from an offset. -/
  | read (sid : Nat) (m : Msg) (obj off maxlen : Nat)
  /-- WRITE (R350): A Light List Protocol WRITE, checked in order, applied and persisted for RWP objects without a row of their own. -/
  | write (sid : Nat) (m : Msg) (obj off : Nat) (v : List Byte)
  /-- SUBSCRIBE (R358): Replaces a session's event subscription and pushes logged records from FROM. -/
  | subscribe (sid : Nat) (m : Msg) (minsev from_ : Nat) (areas : List Nat)
  /-- MAILBOX_SEND (R363): SEND hands the mailbox request window's message to the hub. -/
  | mailboxSend (mb len : Nat) (hart : Nat)
  /-- REPLY_DONE (R363): Frees the mailbox reply window. -/
  | replyDone (mb : Nat)
  /-- EVENT_DONE (R363): Frees the mailbox event window for the next push. -/
  | eventDone (mb : Nat)
  /-- STORE_WRITE (R366): Once its slot is erased, the hub programs and verifies a new configuration-store record. -/
  | storeWrite (readbacks : List Bool)
  /-- SLOT_ERASE_DONE (R366): A background erase of the next store slot completes. -/
  | slotEraseDone (dev : Nat)
  /-- STORE_IMAGE (R368): A signed store record is written to both copies and replaces the persisted set. -/
  | storeImage (role : Role) (sigOk : Bool) (seq : Nat) (entries : List (Nat × List Byte))
  /-- STORE_RESET (R368): Writes a record that keeps only vendor-role objects. -/
  | storeReset (role : Role)
  /-- REPAIR_MAP_IMAGE (R369): A vendor-signed repair map is written to both copies for the next start. -/
  | repairMapImage (role : Role) (sigOk bound rsvZero : Bool) (map : RepairMap)
  /-- ALERT_ACKNOWLEDGE (R352): Clears acknowledgeable alert-cause bits 16 to 18. -/
  | alertAcknowledge (role : Role) (mask : W32)
  /-- EVENT_FETCH (R372): Returns logged event records from a sequence number. -/
  | eventFetch (role : Role) (from_ count : Nat)
  /-- EVENTS_SUPPRESSED (R372): At the end of a second a unit's suppressed repeats of one event are logged as one record. -/
  | eventsSuppressed (unit : Nat) (ev : Ev)
  /-- EVENT_LOG_WRITE (R372): A raised event record is written to both flash log rings and pushed to subscribers. -/
  | eventLogWrite
  /-- POWER_WINDOW (R382): Every 4 µs the controller estimates power and sets each lantern's issue-rate limit and boost. -/
  | powerWindow (acts : List Activity)
  /-- ESTIMATOR_REFIT (R379): Every 1 ms the estimator weights are re-fitted against measured power. -/
  | estimatorRefit
  /-- DISAGREEMENT_CHECK (R380): Every 1 ms measured and estimated power are compared and the correction factor updated. -/
  | disagreementCheck (m e : Nat) (persisted : Bool)
  /-- THERMAL_SAMPLE (R387): Every 4 µs on-die sensors are read and thermal ceilings stepped. -/
  | thermalSample (unit : Nat) (milliC : Int)
  /-- THERMAL_TRIP (R387): A reading at trip temperature for 1 ms causes a dark stop. -/
  | thermalTrip (unit : Nat)
  /-- DIM_STEP_ENTER (R389): The input falls past a dim threshold for 200 µs and the step's shedding begins. -/
  | dimStepEnter (step : Nat)
  /-- DIM_STEP_EXIT (R389): Both readings stay above a step's exit level for 200 µs and its actions are restored. -/
  | dimStepExit (step : Nat)
  /-- LANTERN_LOST (R405): A lantern's heartbeat or clock is lost and its tile fences, sweeps and joins for it. -/
  | lanternLost (l : Nat) (cause : LossCause)
  /-- HUB_LOST (R404): The standby watchdog sees no hub heartbeat for 10 ms and resets the module. -/
  | hubLost
  /-- UNIT_RESET_LANTERN (R409): Relights a lantern at its quiescent point, or forces its loss. -/
  | unitResetLantern (role : Role) (l mode : Nat)
  /-- UNIT_RESET_KEEPER_CLUSTER (R409): Resets a keeper cluster orderly or as its monitor would. -/
  | unitResetKeeperCluster (role : Role) (cl mode : Nat)
  /-- UNIT_RESET_PORT (R409): Resets a port engine. -/
  | unitResetPort (role : Role) (p mode : Nat)
  /-- UNIT_RESET_STACK_CHANNEL (R409): Retrains a stack channel on command. -/
  | unitResetStackChannel (role : Role) (ch mode : Nat)
  /-- UNIT_RESET_BULK_CHANNEL (R409): Retrains a DDR5 channel on command. -/
  | unitResetBulkChannel (role : Role) (ch mode : Nat)
  /-- UNIT_RESET_TILE (R409): Resets an empty outer tile and re-runs steps 6 to 9 for it. -/
  | unitResetTile (role : Role) (t mode : Nat)
  /-- ERROR_BANK_READ (R412): Returns up to 16 error records of a unit. -/
  | errorBankRead (role : Role) (unit idx : Nat)
  /-- ERROR_BANK_CLEAR (R412): Clears a unit's error bank. -/
  | errorBankClear (role : Role) (unit : Nat)
  /-- OFFWATCH_SLOT (R414): An off-watch slot falls due and a lantern and spare are chosen and drained. -/
  | offwatchSlot
  /-- OFFWATCH_DRAIN_LIMIT (R415): The off-watch drain limit expires and the step is abandoned. -/
  | offwatchDrainLimit
  /-- OFFWATCH_SWAP (R415): The drained lantern's spare takes its logical number and the old site is scanned. -/
  | offwatchSwap (vectorsOk : Bool)
  /-- OFFWATCH_SCAN_DONE (R415): The full scan of the old site ends and it becomes the spare or is retired. -/
  | offwatchScanDone (pass : Bool) (slowdown : Nat)
  /-- SINKER_SCAN (R416): Periodically one sinker engine is taken out and scanned. -/
  | sinkerScan (s eng : Nat) (pass : Bool)
  /-- KEEPER_SCAN (R416): Resets a stopped keeper cluster, scans it and releases it. -/
  | keeperScan (role : Role) (cl : Nat) (pass : Bool)
  /-- TILE_SCAN (R416): Scans an empty base tile. -/
  | tileScan (role : Role) (t : Nat) (pass : Bool)
  /-- KEEPER_SCAN_DUE (R416): A cluster exceeds its scan interval and the event is raised. -/
  | keeperScanDue (cl : Nat)
  /-- TILE_SCAN_DUE (R416): A tile exceeds its scan interval and the event is raised. -/
  | tileScanDue (t : Nat)
  /-- CHECK_CAPTURE (R420): A selected check reads and checksums the tile and its inputs and dispatches the checker. -/
  | checkCapture (l id : Nat)
  /-- CHECKER_DONE (R420): The checker's program ends and its result is compared with the capture. -/
  | checkerDone (id : Nat)
  /-- VOTER_DONE (R421): The voter's result and re-checksummed inputs decide the verdict. -/
  | voterDone (id : Nat)
  /-- CHECK_EXPIRED (R420): A check not concluded within CheckWindow is dropped. -/
  | checkExpired (id : Nat)
  /-- DRAIN (R424): Puts the module into DRAINING by operator command. -/
  | drain (role : Role)
  /-- RESUME (R425): Returns an operator-drained module to IN SERVICE. -/
  | resume (role : Role)
  /-- DRAIN_LIMIT (R425): The drain limit expires and remaining requests end CANCELLED. -/
  | drainLimit
  /-- MODULE_CONDEMNED (R426): A fault-drained module with no request running is condemned and falls to CHARTED. -/
  | moduleCondemned
  /-- SLOT_WINDOW (R432): A chunk of a firmware image is programmed into the candidate slot. -/
  | slotWindow (role : Role) (cls : Nat) (bytes : List Byte)
  /-- VERIFY (R432): Checks the candidate image and marks it VALID. -/
  | verify (role : Role) (cls : Nat) (img : ImageSeal)
  /-- ACTIVATE (R432): Switches named units to the candidate slot at their switch points. -/
  | activate (role : Role) (cls : Nat) (mask : W64)
  /-- REVERT (R432): Switches named units back to the boot slot. -/
  | revert (role : Role) (cls : Nat) (mask : W64)
  /-- COMMIT (R432): Makes the candidate slot the boot slot. -/
  | commit (role : Role) (cls : Nat)
  /-- UNIT_SWITCH (R433): A unit reaches its switch point and loads the other slot's image. -/
  | unitSwitch (cls unit : Nat)
  /-- FIRMWARE_SWITCH_SKIPPED (R433): A switch drain reaches its limit and is retried after 1 s. -/
  | firmwareSwitchSkipped (cls unit : Nat)
  /-- FIRMWARE_REVERTED (R433): A new image fails to start within 10 s and the unit returns to the boot slot. -/
  | firmwareReverted (cls unit : Nat)
  /-- PROMOTE (R435): Moves a logical lantern onto its tile's spare site. -/
  | promote (role : Role) (l : Nat)
  /-- RELIGHT (R435): Brings a lost or out-of-service lantern die back through reset and scan. -/
  | relight (role : Role) (l : Nat) (ok : Bool)
  /-- BYPASS (R437): Requests a new bypass mask for a beam. -/
  | bypass (role : Role) (l b : Nat) (mask : BitVec 512)
  /-- BYPASS_APPLIED (R437): At the quiescent point the mask is recorded, W recomputed and beams retired or re-hosted. -/
  | bypassApplied (l : Nat)
  /-- LINK_RETRAIN (R438): Retrains a chain link on command. -/
  | linkRetrain (role : Role) (link : Nat)
  /-- TAKE_OUT (R440): Checks and starts evacuating a DDR5 channel into single-channel mode. -/
  | takeOut (role : Role) (ch : Nat)
  /-- CHANNEL_EVACUATED (R440): A channel's halves are moved and the socket is powered off. -/
  | channelEvacuated (ch : Nat)
  /-- BRING_IN (R440): Trains and initialises a new DIMM on a channel that is OUT. -/
  | bringIn (role : Role) (ch : Nat)
  /-- CHANNEL_TRAINED (R440): The channel passes its checks and training and is initialised. -/
  | channelTrained (ch : Nat) (dimm : DimmTrain)
  /-- CHANNEL_RETURNED (R440): Relocated halves are copied back and the domain returns to DUAL. -/
  | channelReturned (ch : Nat)
  /-- MEASURE (R442): Reads a lantern's ring oscillator at its quiescent point and re-plans its guard. -/
  | measure (role : Role) (l slowdown : Nat)
  /-- REPLAN (R442): Recomputes a lantern's voltage guard. -/
  | replan (role : Role) (l : Nat)
  /-- RESET_GUARD (R442): Vendor command lowering a lantern's ageing guard. -/
  | resetGuard (role : Role) (l : Nat)
  /-- AGEING_IMPORT (R443): Fits the ageing model from signed Vizal V3 records and re-plans every lantern. -/
  | ageingImport (role : Role) (sigOk : Bool) (records : List V3Record)
  /-- AGEING_MODE_WRITE (R442): Turning the ageing-margin mode on re-plans every guard; turning it off keeps them. -/
  | ageingModeWrite (role : Role) (on : Bool)
  /-- SPDM_EXCHANGE (R452): Answers one SPDM 1.3 request. -/
  | spdmExchange (role : Role) (code version : Nat) (algsOffered : Bool)
  /-- DEBUG_AUTHORISE (R453): Checks a debug token and opens the debug ports of its scope. -/
  | debugAuthorise (role : Role) (tok : Token)
  /-- HOLD (R455): Holds a guest die in reset. -/
  | hold (role : Role) (g : Nat)
  /-- GUEST_RELEASE (R455): Releases a held guest die into admission. -/
  | guestRelease (role : Role) (g : Nat) (a : Admission)
  /-- ATTEST (R456): Runs guest admission again without stopping the die. -/
  | attest (role : Role) (g : Nat) (a : Admission)
  /-- GUEST_WINDOWS_WRITE (R457): Checks and installs a guest's firewall windows. -/
  | guestWindowsWrite (role : Role) (g idx : Nat) (win : GuestWin)
  /-- GUEST_READ (R459): A guest read passes or is refused by the die firewall. -/
  | guestRead (g addr : Nat)
  /-- GUEST_WRITE (R459): A guest write passes or is refused by the die firewall. -/
  | guestWrite (g addr : Nat) (mask : W64) (data : Line) (poison : Bool)
  /-- GUEST_POWER_SAMPLE (R458): The guest rail is sampled and the die throttled or held over budget. -/
  | guestPowerSample (g milliW avg10 : Nat) (above100ms above90 : Bool)
  /-- GUEST_LOST (R459): A guest heartbeat missing for 8 µs or an uncorrectable link holds the die. -/
  | guestLost (g : Nat)
  /-- OPERATING_POINT_CHANGE_DONE (R37): A lantern's operating-point change completes within 2 µs, its vertical-port crossing restarts and BEAM issue condition 5 is met again. -/
  | operatingPointChangeDone (l : Nat)
  /-- MAC_LINK_UP (R308): A MAC reacquires signal and FEC lock, LINK_UP is set and APLIC source 6 or 7 is raised. -/
  | macLinkUp (p mac : Nat)
  /-- SERVICE_BUS_BEACON (R321): A PLCA beacon arrives after a beacon loss and the module resumes transmitting on the service bus. -/
  | serviceBusBeacon
  /-- PORT_HEARTBEAT_LOST (R403): A port engine's heartbeat stops for 8 µs and the engine is reset as for a hang. -/
  | portHeartbeatLost (p : Nat)
  /-- ILLEGAL (R116): An instruction word whose OPCODE is not listed raises the exception ILLEGAL and ends the request. -/
  | illegal (l h : Nat) (w : W64)
deriving DecidableEq, Repr

end Sys2Proof
end

