-- ==== Sys2Proof/Config.lean ====
section
/-! DEFINITION. Free values: constants without a body for what the manual leaves open (log entries 5, 20 to 32, 90
and 94). -/

namespace Sys2Proof.Config

/-- Where the search for a free frame starts, by domain, tier and count of picks: R192 says "a free frame". -/
opaque framePick : Nat → Nat → Nat → Nat
/-- Hash that chooses the TLB set from context, page-size class and page number (R211). -/
opaque tlbHash : Nat → Nat → Nat → Nat
/-- Bits of the post-unit functions whose coefficients R64 leaves to published test vectors: function code and input. -/
opaque postFn : Nat → BitVec 32 → BitVec 32
/-- Bits of LAYERNORM and RMSNORM (R64): function code, row, ε, γ, β and column. -/
opaque normRow : Nat → List (BitVec 32) → BitVec 32 → List (BitVec 32) → List (BitVec 32) → Nat → BitVec 32
/-- Severity of an event record (R370 gives the codes, no chapter the severity of each event). -/
opaque severity : Machine.Ev → Nat
/-- Bytes of ARGS of an event record from its arguments: each chapter names them, none gives their places (R370). -/
opaque argBytes : Machine.Ev → List Nat → List (BitVec 8)
/-- Bytes of records that the manual names without their layout, by object and what they depend on (weights, operating points,
signatures, the repair map, measurements, nonces). -/
opaque recBytes : Nat → List Nat → List (BitVec 8)
/-- Milliseconds of a step of a start, by start count and step (R330, R344): time is left out of the model. -/
opaque startMs : Nat → Nat → Nat
/-- Words of the reply and event windows of a mailbox, by mailbox, offset and messages sent: the tag and the encryption of a
message are the session's secrets (R357, R363). -/
opaque mailWord : Nat → Nat → Nat → BitVec 64
/-- Words of the registers of a guest die, by site and address: the die defines them (R457). -/
opaque guestReg : Nat → Nat → BitVec 64
/-- Leakage S in mW by operating point and junction temperature in m°C (R377: calibrated table). -/
opaque leakage : Nat → Int → Nat
/-- Calibrated voltage in mV of an operating point, without its guard (R384: "each module's voltages are calibrated"). -/
opaque voltage : Nat → Nat
/-- Weights in femtojoule of the ten counters of R377, by counter and number of re-fits (R377, R379). -/
opaque weight : Nat → Nat → Int
/-- Estimate in mW of every block but the lanterns by window count (R378: fixed terms and traffic weights not given). -/
opaque otherPower : Nat → Nat
/-- Conversion efficiency η in per mille by power in W and input in mV (R378: calibrated). -/
opaque eta : Nat → Nat → Nat
/-- The value x that the hub draws at each start for the sampling of CHECKs (R418), by start count. -/
opaque checkDraw : Nat → BitVec 64
/-- DebugNonce by number of draws (R453). -/
opaque debugNonce : Nat → Nat
/-- Serial numbers, device identity, certificates and other manufacturing data, by object number (R374, R448, R461). -/
opaque factory : Nat → List (BitVec 8)
/-- Lantern cycles of a SELFTEST by suite mask (R97 bounds them by 262,144 and does not give them). -/
opaque selftestCycles : Nat → Nat
/-- REVISION of a port engine (R294 gives the field, no value). -/
opaque revision : Nat → BitVec 8
/-- Chain links of the path that the hub gives a pair of tiles around links that are DOWN (R32: the rerouting is the
hub's), by the mask of DOWN links and the two tiles. -/
opaque detour : Nat → Nat → Nat → List Nat
/-- Post-package repairs that the DRAM of a DDR5 channel can make (R208: "the device's PPR resources"). -/
opaque pprResources : Nat → Nat
/-- Check value of a line in a tier: R185 names the codes' sizes and what they correct, not their polynomials. -/
opaque eccCheck : Nat → BitVec 512 → BitVec 32
/-- HWCTX in the fault record of a take that is held without a hardware context, by lantern (R223 gives such a take none). -/
opaque takeHwctx : Nat → Nat
/-- A byte that flash holds in a firmware slot where SlotWindow has programmed none, by class, slot and offset (R430, R432). -/
opaque slotByte : Nat → Nat → Nat → BitVec 8

end Sys2Proof.Config
end

