-- ==== Sys2Proof/Machine/StateEvent.lean ====
section
/-! DEFINITION. State records of events, error banks and light-list commands (16 R362, R370 to R372; 18 R410). Each
field's comment reads: meaning; width; file and rule; reset. -/

namespace Sys2Proof.Machine

/-- An event record (R370); its SEQ is given when it is written to the log. -/
structure EvRec where
  /-- SEQ, 0 before it is written; 64 bits; 16 R370; reset none -/
  seq : Nat := 0
  /-- UNIT, object number with item 0; 32 bits; 16 R370; reset none -/
  unit : Nat
  /-- LOCAL; 32 bits; 16 R370; reset none -/
  loc : Nat
  /-- NAME; 24 bytes; 16 R370; reset none -/
  ev : Ev
  /-- SEVERITY; 8 bits; 16 R370; reset none -/
  sev : Nat
  /-- CLEARS; 1 bit; 16 R370; reset none -/
  clears : Bool := false
  /-- START; 32 bits; 16 R370; reset none -/
  start : Nat
  /-- ARGS; 16 bytes; 16 R370; reset none -/
  args : List Nat
deriving DecidableEq, Repr

/-- Events of the module (R370 to R372). -/
structure Events where
  /-- records raised and not yet written to the log, oldest first; list; 16 R372; reset none -/
  pend : List EvRec := []
  /-- log ring of the flash devices, oldest first; 262,144 records; 16 R372; reset kept over starts -/
  log : List EvRec := []
  /-- EventSequence: next number to be assigned; 64 bits; 16 R371; reset kept over starts, first 0 (DESIGN CHOICE) -/
  next : Nat := 0
  /-- numbers of the reserved block not yet used; 9 bits; 16 R371; reset 0 -/
  left : Nat := 0
  /-- first number of the block after the highest reserved; 64 bits; 16 R371; reset 0 (DESIGN CHOICE) -/
  blockEnd : Nat := 0
  /-- events raised per unit since its counting domain last started; 32 bits each; 16 R370; reset 0 -/
  locals : Tab Nat := []
  /-- instances of an event by a unit in the current second (unit, event, count); list; 16 R372; reset none -/
  second : List (Nat × Ev × Nat) := []
  /-- EventsSuppressed; 64 bits; 16 R374; reset 0 -/
  suppressed : Nat := 0
deriving DecidableEq, Repr

/-- An error record of a unit's bank (R410). -/
structure ErrRec where
  /-- SEQ of the event raised; 64 bits; 18 R410; reset 0 -/
  seq : Nat
  /-- CLASS; 8 bits; 18 R410; reset 0 -/
  cls : Nat
  /-- SOURCE; 8 bits; 18 R410; reset 0 -/
  source : Nat
  /-- COUNT, saturating at 0xFFFF; 16 bits; 18 R410; reset 0 -/
  count : Nat
  /-- ADDRESS; 64 bits; 18 R410; reset 0 -/
  address : Nat
  /-- SYNDROME; 64 bits; 18 R410; reset 0 -/
  syndrome : Nat
  /-- CONTEXT; 8 bits; 18 R410; reset 0 -/
  ctx : Nat
  /-- STATUS; 8 bits; 18 R410; reset 0 -/
  status : Nat
  /-- DETAIL; 16 bits; 18 R410; reset 0 -/
  detail : Nat
  /-- LOCAL of the event raised, until its SEQ is known; 32 bits; the model's link to 16 R370; reset 0 -/
  loc : Nat := 0
deriving DecidableEq, Repr

/-- Error banks and totals (R410, R412). -/
structure Errors where
  /-- banks of 32 records by unit (object number, item 0), oldest first; 32 × 64 bytes each; 18 R410; reset empty -/
  banks : Tab (List ErrRec) := []
  /-- BankOverflows; 64 bits; 18 R412; reset 0 -/
  overflows : Nat := 0
  /-- ContextsExtinguished; 64 bits; 18 R412; reset 0 -/
  extinguished : Nat := 0
  /-- KeeperErrorTarget MSI_ADDR; 64 bits; 18 R412; reset 0 -/
  targetAddr : Nat := 0
  /-- KeeperErrorTarget EIID; 16 bits; 18 R412; reset 0 -/
  targetId : Nat := 0
  /-- PoisonMade per point of R395, 1 to 5; 5 × 64 bits; 18 R412; reset 0 -/
  made : Tab Nat := []
  /-- PoisonConsumed by lanterns 0, sinkers 1, harts 2, ports 3, guests 4; 5 × 64 bits; 18 R412; reset 0 -/
  consumed : Tab Nat := []
deriving DecidableEq, Repr

/-- The record that a READ of a CMD object returns (R362). -/
structure CmdRec where
  /-- COMMAND; 32 bits; 16 R362; reset 0 -/
  command : Nat := 0
  /-- STATE RUNNING; 8 bits; 16 R362; reset IDLE -/
  running : Bool := false
  /-- RESULT; 8 bits; 16 R362; reset OK (0) -/
  result : Sts := .ok
  /-- RETURN; 128 bits; 16 R362; reset 0 -/
  ret : Nat := 0
deriving DecidableEq, Repr

/-- A reply to a light-list command (R355, R362). -/
structure Reply where
  /-- STATUS; 8 bits; 16 R361; reset OK -/
  status : Sts := .ok
  /-- command number, 0 for READ and WRITE; 32 bits; 16 R362; reset 0 -/
  command : Nat := 0
  /-- return value; 128 bits; 16 R362; reset 0 -/
  ret : Nat := 0
  /-- body of a READ or EVENT_FETCH; bytes; 16 R355; reset none -/
  body : List Byte := []
  /-- flags of a cartridge's telemetry: bit 0 stale, bit 1 untrusted; 2 bits; 13 R305, R307; reset 0 -/
  flags : Nat := 0
deriving DecidableEq, Repr

/-- Light-list commands (R362). -/
structure Commands where
  /-- module-wide count of commands; 32 bits; 16 R362; reset 0, restarts at 1 at each start -/
  count : Nat := 0
  /-- record of each CMD object by object number; records; 16 R362; reset IDLE -/
  recs : Tab CmdRec := []
  /-- reply to the last command or message; record; 16 R355, R361; reset OK -/
  reply : Reply := {}
deriving DecidableEq, Repr

end Sys2Proof.Machine
end

