-- ==== Sys2Proof/Machine/StateKeeper.lean ====
section
/-! DEFINITION. State records of the keeper dies (10, 12): harts, clusters, interrupt files. Each field's comment reads:
meaning; width; file and rule; reset. -/

namespace Sys2Proof.Machine

/-- Why a hart is stalled (R287): WRS.NTO without a limit, WRS.NTO that is to trap after 50 µs by mstatus.TW (false) or by
hstatus.VTW (true), WRS.STO. -/
inductive Wrs where
  | none
  | nto
  | ntoTrap (virt : Bool)
  | sto
deriving DecidableEq, Repr

/-- The last exception a hart was given by a command (R243, R279, R283, R396, R402): RISC-V cause and trap value. -/
structure Trap where
  /-- exception cause: 2 illegal instruction, 4 and 6 misaligned, 5 and 7 access fault, 19 hardware error, 22 virtual
  instruction; 6 bits; 12 R279 to R283, 18 R396, R402; reset none -/
  cause : Nat
  /-- trap value: the address, or the instruction word; 64 bits; 18 R396; reset none -/
  tval : Nat
deriving DecidableEq, Repr

/-- A keeper hart (R271, R238, R244, R282). -/
structure Hart where
  /-- integer registers x1 to x31, x0 reads zero; 64 bits each; 12 R274 (RVA23); reset DESIGN CHOICE 0 -/
  x : Tab W64 := []
  /-- floating-point registers f0 to f31; 64 bits each; 12 R274 (RVA23); reset DESIGN CHOICE 0 -/
  f : Tab W64 := []
  /-- vector registers v0 to v31, VLEN 256; 256 bits each; 12 R274; reset DESIGN CHOICE 0 -/
  v : Tab (BitVec 256) := []
  /-- reservation: reserved line; 46 bits; 10 R244; reset none -/
  res : Option Nat := none
  /-- gsvrcw [51:3]; 64 bits; 12 R282; reset DESIGN CHOICE 0 -/
  gsvrcw : W64 := 0
  /-- gsvrtok [31:0]; 32 bits; 12 R282; reset DESIGN CHOICE 0 -/
  gsvrtok : W32 := 0
  /-- stalled in WRS; 2 bits; 12 R287; reset none -/
  wrs : Wrs := .none
  /-- accepted POSTED writes not yet performed (address, size, value), oldest first; list; 10 R243; reset none -/
  posted : List (Nat × Nat × W64) := []
  /-- last exception; record; 12 R279, 18 R402; reset none -/
  trap : Option Trap := none
deriving DecidableEq, Repr

/-- One domain of the APLIC (R285); its registers PRESUMED from the AIA (log entry 49). -/
structure Aplic where
  /-- domaincfg.IE; 1 bit; 12 R285; reset PRESUMED false -/
  ie : Bool := false
  /-- sourcecfg of sources 1 to 9: D in bit 10, SM in [2:0]; 11 bits each; 12 R285; reset PRESUMED 0 (inactive) -/
  sourcecfg : Tab Nat := []
  /-- target of sources 1 to 9: hart [31:18], guest [17:12], identity [10:0]; 32 bits each; 12 R285; reset PRESUMED 0 -/
  target : Tab Nat := []
  /-- enabled sources; 9 bits; 12 R285; reset PRESUMED none -/
  enabled : List Nat := []
  /-- pending sources; 9 bits; 12 R285; reset PRESUMED none -/
  pending : List Nat := []
deriving DecidableEq, Repr

/-- A keeper cluster (R271 to R273, R289). -/
structure Cluster where
  /-- ClusterState; 2 bits; 12 R289; reset RUNNING -/
  st : ClusterSt := .running
  /-- REQ; 6 bits; 12 R273; reset 34 -/
  req : Nat := 34
  /-- GRANT; 6 bits; 12 R273; reset 34 -/
  grant : Nat := 34
  /-- limit of the power controller in units of 100 MHz; 6 bits; 12 R273, 17 R388; reset 34 -/
  limit : Nat := 34
  /-- PLL relocks and the cluster is stopped; 1 bit; 12 R273; reset false -/
  relocking : Bool := false
  /-- CappedTime in µs; 64 bits; 12 R289; reset 0 -/
  cappedTime : Nat := 0
  /-- KeeperParity: clean refetches, dirty losses; 2 × 64 bits; 12 R289; reset 0 -/
  refetches : Nat := 0
  dirtyLosses : Nat := 0
  /-- single-bit tag errors corrected by SECDED; 64 bits; 11 R262; reset 0 -/
  corrections : Nat := 0
  /-- HeartbeatResets; 64 bits; 12 R289; reset 0 -/
  heartbeatResets : Nat := 0
  /-- stopped by the keeper OS for a scan or reset; 1 bit; 19 R416; reset false -/
  stopped : Bool := false
  /-- number and object of the command that resets it; 32 bits each; 16 R362; reset none -/
  cmd : Option (Nat × Nat) := none
  /-- scans passed and failed; 32 bits each; 19 R416; reset 0 -/
  scanPasses : Nat := 0
  scanFails : Nat := 0
deriving DecidableEq, Repr

end Sys2Proof.Machine
end

