-- ==== Sys2Proof/Machine/StateMemory.lean ====
section
/-! DEFINITION. State records of memory: the backing map and tiers (08), homes, caches and watches (11), range engines
(11 R263 to R266), chart units and withdrawals (09). Each field's comment reads: meaning; width; file and rule; reset. -/

namespace Sys2Proof.Machine

/-- One entry of the backing map (R191); `own` is the bulk frame that a WINDOW berth keeps, `dest` the copy target. -/
structure Berth where
  /-- STATE of the entry; 3 bits; 08 R191; reset VACANT -/
  st : BerthSt := .vacant
  /-- TIER, 0 stack and 1 bulk; 1 bit; 08 R191; reset 0 -/
  tier : Nat := 0
  /-- FRAME; 23 bits; 08 R191; reset 0 -/
  frame : Nat := 0
  /-- whether a FAILED berth has a frame; 1 bit; 08 R191, 18 R393; reset false -/
  hasFrame : Bool := false
  /-- PIN; 1 bit; 08 R191; reset 0 -/
  pin : Bool := false
  /-- RETRIED; 1 bit; 08 R191; reset 0 -/
  retried : Bool := false
  /-- WDIRTY; 1 bit; 08 R191; reset 0 -/
  wdirty : Bool := false
  /-- bulk frame a WINDOW berth keeps; 23 bits; 08 R200; reset 0 -/
  own : Nat := 0
  /-- tier of a COPYING berth's destination frame; 1 bit; 08 R196; reset 0 -/
  destTier : Nat := 0
  /-- a COPYING berth's destination frame; 23 bits; 08 R196; reset 0 -/
  dest : Nat := 0
  /-- access counter, saturating at 255; 8 bits; 08 R195; reset 0 -/
  counter : Nat := 0
  /-- stream whose layer holds the berth in its window; 5 bits; 08 R197; reset none -/
  stream : Option Nat := none
deriving DecidableEq, Repr

/-- A region (R193). -/
structure Region where
  /-- region number, domain × 1,024 + index; 13 bits; 08 R193; reset none exist -/
  num : Nat
  /-- first berth (global berth number); 36 bits; 08 R193; reset none exist -/
  base : Nat
  /-- berths; 24 bits; 08 R193; reset none exist -/
  count : Nat
  /-- owning context; 8 bits; 08 R193; reset none exist -/
  owner : Nat
  /-- policy; 2 bits; 08 R193; reset none exist -/
  policy : Policy
deriving DecidableEq, Repr

/-- A registered stream: the device's copy of its descriptor and its progress (R197, R198). -/
structure Stream where
  /-- stream number, domain × 32 + index; 8 bits; 08 R197; reset none exist -/
  num : Nat
  /-- physical address of the descriptor; 52 bits; 08 R197; reset none exist -/
  pa : Nat
  /-- CONTEXT; 8 bits; 08 R197; reset none exist -/
  ctx : Nat
  /-- WRAP; 1 bit; 08 R197; reset none exist -/
  wrap : Bool
  /-- AHEAD; 8 bits; 08 R197; reset none exist -/
  ahead : Nat
  /-- WINDOW; 32 bits; 08 R197; reset none exist -/
  window : Nat
  /-- REPLICA_DELTA; 64 bits signed; 08 R197; reset none exist -/
  replica : Int
  /-- layer table: first berth and berths of each layer; 64 and 24 bits each; 08 R197; reset none exist -/
  layers : List (Nat × Nat)
  /-- least mark of the consumers; 64 bits; 08 R198; reset 0 -/
  mark : Nat := 0
  /-- marks per consumer, a lantern: the layer it last waited for; 64 bits each; 08 R198; reset none -/
  marks : Tab Nat := []
  /-- hardware context of each consumer whose request set its mark; 2 bits each; 08 R198; reset none -/
  markHw : Tab Nat := []
  /-- layer numbers now resident; 64 bits each; 08 R198; reset none -/
  resident : List Nat := []
  /-- layer numbers that failed; 64 bits each; 08 R199, R201; reset none -/
  failed : List Nat := []
  /-- window frames reserved for the stream and not in use; stack frame indices; 08 R194, R200; reset none -/
  frames : List Nat := []
deriving DecidableEq, Repr

/-- A tier command that runs until its moves are made (R194). -/
structure TierWait where
  /-- what it waits for: 0 the moves of a region, 1 window frames to reserve, 2 window frames to be zeroed, 3 an evacuation,
  4 a return; 3 bits; 08 R194; reset none -/
  what : Nat
  /-- command number; 32 bits; 16 R362; reset none -/
  cmd : Nat
  /-- region or stream number; 13 bits; 08 R194; reset none -/
  key : Nat
  /-- window frames not yet zeroed; list; 08 R194; reset none -/
  frames : List Nat := []
deriving DecidableEq, Repr

/-- A placement domain (R35, R190, R210). -/
structure Domain where
  /-- TierState; 3 bits; 08 R206, R210; reset NORMAL -/
  tier : TierSt := .normal
  /-- freed frames that wait for background zeroing (tier, frame); list; 08 R190; reset none -/
  zeroing : List (Nat × Nat) := []
  /-- retired frames (tier, frame); list; 08 R194, R208; reset none -/
  retired : List (Nat × Nat) := []
  /-- frames that retire once their berth is copied away (tier, frame); list; 08 R208, R209; reset none -/
  retiring : List (Nat × Nat) := []
  /-- berths that are to be moved and the tier they go to, oldest first; list; 08 R194 to R196, R206; reset none -/
  moveQueue : List (Nat × Nat) := []
  /-- tier commands that run; list; 08 R194; reset none -/
  waits : List TierWait := []
  /-- frames that a berth-store error took out of the pool until the next start; list; 18 R393; reset none -/
  orphans : List (Nat × Nat) := []
  /-- regions of the domain; up to 1,024; 08 R193; reset none -/
  regions : List Region := []
  /-- streams of the domain; up to 32; 08 R197; reset none -/
  streams : List Stream := []
  /-- Moves: promotions, demotions, streamed berths, returned berths; 4 × 64 bits; 08 R210; reset 0 -/
  promotions : Nat := 0
  demotions : Nat := 0
  streamed : Nat := 0
  returned : Nat := 0
  /-- LateWaits; 64 bits; 08 R210; reset 0 -/
  lateWaits : Nat := 0
  /-- requests sent to memory, of which each 64th is sampled; per slice, 64 bits; 08 R195; reset 0 -/
  samples : Tab Nat := []
  /-- stack channel under repair; 5 bits; 08 R206; reset none -/
  repairing : Option Nat := none
deriving DecidableEq, Repr

/-- A memory channel: a stack channel (stack × 16 + channel) or a DDR5 channel (256 + channel) (R205, R210). -/
structure Channel where
  /-- StackChannelState or BulkChannelState; 3 bits; 08 R210; reset UP -/
  st : ChanSt := .up
  /-- service state of a DDR5 channel; 3 bits; 20 R447; reset IN_USE -/
  svc : ChanSvc := .inUse
  /-- retrains since the repair path was last entered; 8 bits; 08 R205; reset 0 -/
  retrains : Nat := 0
  /-- spare rows used per bank; 6 bits each; 08 R208, R210; reset 0 -/
  spareRows : Tab Nat := []
  /-- rows remapped, bank × 4,194,304 + row, and how often; list; 08 R208; reset none -/
  remapped : Tab Nat := []
  /-- corrections counted per row, tier × 2^23 + frame of the line corrected; list; 08 R208; reset none -/
  rowCounts : Tab Nat := []
  /-- remaps deferred to the next start, bank and row; list; 08 R208; reset none -/
  deferredRows : List (Nat × Nat) := []
  /-- PprUsed; 16 bits; 08 R210; reset 0 -/
  ppr : Nat := 0
  /-- number and object of the command that retrains it or takes it out or brings it in; 32 bits each; 16 R362; reset none -/
  cmd : Option (Nat × Nat) := none
  /-- a DDR5 channel goes out for repair, without a command; 1 bit; 20 R440; reset false -/
  repair : Bool := false
deriving DecidableEq, Repr

/-- A line in a cache with its poison bit (R254, R394). -/
structure Copy where
  /-- agent state; 2 bits; 11 R254; reset I (no copy) -/
  st : CState
  /-- data; 512 bits; 11 R254; reset no copy -/
  data : Line
  /-- poison bit; 1 bit; 18 R394; reset no copy -/
  poison : Bool
deriving DecidableEq, Repr

/-- A line in its shared-cache slice (R252). -/
structure SliceLine where
  /-- data; 512 bits; 11 R252; reset absent -/
  data : Line
  /-- dirty with respect to memory; 1 bit; 11 R252; reset absent -/
  dirty : Bool
  /-- poison bit; 1 bit; 18 R394; reset absent -/
  poison : Bool
deriving DecidableEq, Repr

/-- A request at a home (R256, R258). -/
structure HomeReq where
  /-- request; 4 bits; 11 R256; reset none queued -/
  kind : ReqKind
  /-- requesting agent, 0 to 72, or watcher identity, 0 to 74; 7 bits; 11 R251, R260; reset none queued -/
  agent : Nat
  /-- line data of WR_LINE and WR_PART; 512 bits; 11 R256; reset none queued -/
  data : Line := 0
  /-- byte mask of WR_PART; 64 bits; 11 R256; reset none queued -/
  mask : W64 := 0
  /-- byte offset of an ATOM in the line; 6 bits; 11 R258; reset none queued -/
  off : Nat := 0
  /-- operation of an ATOM; 4 bits; 11 R258; reset none queued -/
  op : AtomOp := .add
  /-- 64-bit ATOM; 1 bit; 05 R139; reset none queued -/
  w64 : Bool := false
  /-- operand of an ATOM; 64 bits; 05 R139; reset none queued -/
  x : W64 := 0
  /-- compare value of an ATOM.CAS; 64 bits; 05 R139; reset none queued -/
  cmp : W64 := 0
deriving DecidableEq, Repr

/-- A transaction in flight on a BUSY line (R255, R256): the messages that have been sent and not yet taken. -/
structure Txn where
  /-- the request served; record; 11 R255; reset none -/
  req : HomeReq
  /-- snoops sent and not yet answered (agent, snoop); list; 11 R257; reset none -/
  snoops : List (Nat × Snoop) := []
  /-- INV_ACKs on their way; agents; 11 R257; reset none -/
  acks : List Nat := []
  /-- DOWNGRADE_ACKs on their way; agents; 11 R257; reset none -/
  downs : List Nat := []
  /-- DATA on its way to the requester, with its poison flag; 513 bits; 11 R257; reset none -/
  data : Option (Line × Bool) := none
  /-- state the requester is granted; 2 bits; 11 R256; reset none -/
  gives : Option CState := none
  /-- GRANT on its way; 1 bit; 11 R257; reset none -/
  grant : Bool := false
  /-- the requester's DATA or GRANT has arrived; 1 bit; 11 R255; reset none -/
  got : Bool := false
  /-- the line is lent and the owner has yet to return it; 1 bit; 11 R261; reset none -/
  lent : Bool := false
deriving DecidableEq, Repr

/-- Everything above memory that concerns one line (R250 to R261). -/
structure LineSt where
  /-- directory state; 2 bits and 73 sharer bits or an owner; 11 R254; reset UNTRACKED -/
  dir : Dir := .untracked
  /-- the line in its slice; 514 bits; 11 R252; reset absent -/
  slice : Option SliceLine := none
  /-- copies by agent identity 0 to 72; 515 bits each; 11 R251, R254; reset none -/
  copies : Tab Copy := []
  /-- watcher identities; 80 bits; 11 R260; reset none -/
  watchers : List Nat := []
  /-- transaction in flight (BUSY); record; 11 R255; reset none -/
  busy : Option Txn := none
  /-- requests waiting in the slice's queue; list; 11 R255; reset none -/
  queue : List HomeReq := []
  /-- old value of the last far atomic, on its way in ATOM_DATA; 64 bits; 11 R258; reset 0 -/
  atomOld : W64 := 0
deriving DecidableEq, Repr

/-- One set of a 16-way tree-PLRU cache (R253): a die cache, an L3, a keep-cache slice, a home slice, a directory. -/
structure PSet where
  /-- line in each valid way; 16 ways; 11 R252; reset all invalid -/
  ways : Tab Nat := []
  /-- tree bits b[0] to b[14]; 15 bits; 11 R253; reset 0 -/
  bits : BitVec 15 := 0
  /-- ways disabled by a double-bit tag error; 1 bit; 11 R262; reset false -/
  disabled : Bool := false
deriving DecidableEq, Repr

/-- A register slot of a range engine (R264). -/
structure RangeSlot where
  /-- BASE; 52 bits; 11 R264; reset 0 -/
  base : Nat := 0
  /-- LENGTH; 41 bits; 11 R264; reset 0 -/
  length : Nat := 0
  /-- COMPLETION; 64 bits; 11 R264; reset 0 -/
  completion : Nat := 0
  /-- TOKEN written for the next command; 32 bits; 11 R264; reset 0 -/
  token : Nat := 0
  /-- BUSY; 1 bit; 11 R264; reset 0 -/
  busy : Bool := false
  /-- LAST_RESULT; 4 bits; 11 R264; reset 0 -/
  lastResult : Nat := 0
  /-- LAST_TOKEN; 32 bits; 11 R264; reset 0 -/
  lastToken : Nat := 0
deriving DecidableEq, Repr

/-- A range command accepted by an engine (R263, R265). -/
structure RangeCmd where
  /-- number of the command in this model; 64 bits; 11 R267; reset none -/
  id : Nat
  /-- operation; 2 bits; 11 R263; reset none -/
  op : RangeOp
  /-- BASE; 52 bits; 11 R264; reset none -/
  base : Nat
  /-- LENGTH; 41 bits; 11 R264; reset none -/
  length : Nat
  /-- COMPLETION; 52 bits; 11 R264; reset none -/
  completion : Nat
  /-- TOKEN; 32 bits; 11 R264; reset none -/
  token : Nat
  /-- RESULT to be written; 4 bits; 11 R265; reset none -/
  result : Nat := 0
  /-- POISON_SEEN; 1 bit; 11 R265; reset 0 -/
  poisonSeen : Bool := false
  /-- DATA_DROPPED; 1 bit; 11 R265; reset 0 -/
  dropped : Bool := false
  /-- register slot the command came from; 4 bits; 11 R264; reset none -/
  slot : Option Nat := none
deriving DecidableEq, Repr

/-- A range command that a door offers and the engine has not yet run: a slot, or the hart queue of R282. -/
structure RangeAsk where
  /-- the asking slot, none for the hart queue; 4 bits; 11 R264, 12 R282; reset none -/
  slot : Option Nat
  /-- operation; 2 bits; 11 R263; reset none -/
  op : RangeOp
  /-- BASE, LENGTH, COMPLETION, TOKEN; 52, 41, 52 and 32 bits; 11 R264; reset none -/
  base : Nat
  length : Nat
  completion : Nat
  token : Nat
deriving DecidableEq, Repr

/-- A command ring of a range engine (R266). -/
structure Ring where
  /-- ring number; 6 bits; 11 R266; reset none -/
  num : Nat
  /-- context; 8 bits; 11 R266; reset none -/
  ctx : Nat
  /-- header line address; 52 bits; 11 R266; reset none -/
  header : Nat
  /-- ring base; 52 bits; 11 R266; reset none -/
  ring : Nat
  /-- LOG2_SIZE; 5 bits; 11 R266; reset none -/
  log2 : Nat
  /-- position; 32 bits; 11 R266; reset TAIL at registration -/
  pos : Nat
  /-- a notice on the header line is pending; 1 bit; 11 R266; reset false at registration -/
  notice : Bool := false
deriving DecidableEq, Repr

/-- A base tile: its counters of R270 and its range engine (R263 to R267). -/
structure Tile where
  /-- DirectoryEvictions; 64 bits; 11 R270; reset 0 -/
  evictions : Nat := 0
  /-- ParityRefetches; 64 bits; 11 R270; reset 0 -/
  refetches : Nat := 0
  /-- DirtyParityLosses; 64 bits; 11 R270; reset 0 -/
  dirtyLosses : Nat := 0
  /-- ArrayCorrections; 64 bits; 11 R270; reset 0 -/
  corrections : Nat := 0
  /-- WatchRefusals; 64 bits; 11 R270; reset 0 -/
  watchRefusals : Nat := 0
  /-- AtomicsPerformed; 64 bits; 11 R270; reset 0 -/
  atomics : Nat := 0
  /-- RangeCommandsDone by RESULT; 5 × 64 bits; 11 R270; reset 0 -/
  done : Tab Nat := []
  /-- register slots 0 to 15; records; 11 R264; reset 0 -/
  slots : Tab RangeSlot := []
  /-- commands offered and not yet running, oldest first; list; 11 R264, 12 R282; reset none -/
  asks : List RangeAsk := []
  /-- running commands, at most four; list; 11 R267; reset none -/
  running : List RangeCmd := []
  /-- registered rings, at most 64; list; 11 R266; reset none -/
  rings : List Ring := []
  /-- next command number; 64 bits; 11 R267; reset 0 -/
  nextId : Nat := 0
  /-- scans that the tile passed; 32 bits; 19 R416; reset 0 -/
  scanPasses : Nat := 0
  /-- scan failures of the tile; 32 bits; 19 R416; reset 0 -/
  scanFails : Nat := 0
deriving DecidableEq, Repr

/-- A translation the chart holds: a TLB entry, run or range entry (R211, R216, R217). -/
structure Xl where
  /-- context tag; 8 bits; 09 R211; reset invalid -/
  ctx : Nat
  /-- base VA; 57 bits; 09 R211; reset invalid -/
  va : Nat
  /-- bytes mapped; 46 bits; 09 R211; reset invalid -/
  len : Nat
  /-- physical base; 52 bits; 09 R211; reset invalid -/
  pa : Nat
  /-- R; 1 bit; 09 R215; reset invalid -/
  r : Bool
  /-- W; 1 bit; 09 R215; reset invalid -/
  w : Bool
  /-- X; 1 bit; 09 R215; reset invalid -/
  x : Bool
deriving DecidableEq, Repr

/-- One set of the chart TLB: 8 ways, 7 tree bits (R211). -/
structure TlbSet where
  /-- entries by way; 8 ways; 09 R211; reset invalid -/
  ways : Tab Xl := []
  /-- tree bits; 7 bits; 09 R211; reset 0 -/
  bits : BitVec 7 := 0
deriving DecidableEq, Repr

/-- A non-leaf entry of the walk cache (R211). -/
structure WalkEntry where
  /-- context tag; 8 bits; 09 R211; reset invalid -/
  ctx : Nat
  /-- level of the table that the entry points to; 2 bits; 09 R214; reset invalid -/
  level : Nat
  /-- base VA covered; 57 bits; 09 R214; reset invalid -/
  va : Nat
  /-- physical base of the next table; 52 bits; 09 R215; reset invalid -/
  table : Nat
deriving DecidableEq, Repr

/-- A chart unit (R211, R227, R232). -/
structure Chart where
  /-- TLB sets, 512; records; 09 R211; reset invalid -/
  tlb : Tab TlbSet := []
  /-- range entries, most recent first, at most 64; records; 09 R211; reset none -/
  ranges : List Xl := []
  /-- walk cache, most recent first, at most 64; records; 09 R211; reset none -/
  walks : List WalkEntry := []
  /-- ChartEpoch; 32 bits; 09 R227; reset 0 -/
  epoch : Nat := 0
  /-- references held per epoch: epoch, holder (hardware context, transfer or descriptor number); list; 09 R227; reset none -/
  refs : List (Nat × Nat) := []
  /-- contexts whose driver line this chart watches and whether a notice is pending; list; 09 R225; reset none -/
  resume : Tab Bool := []
  /-- TlbMisses; 64 bits; 09 R232; reset 0 -/
  tlbMisses : Nat := 0
  /-- Walks; 64 bits; 09 R232; reset 0 -/
  nwalks : Nat := 0
  /-- RangeLoads; 64 bits; 09 R232; reset 0 -/
  rangeLoads : Nat := 0
  /-- RunMerges; 64 bits; 09 R232; reset 0 -/
  runMerges : Nat := 0
  /-- RunMismatches; 64 bits; 09 R232; reset 0 -/
  runMismatches : Nat := 0
deriving DecidableEq, Repr

/-- A fault record not yet written, or being written (R223). -/
structure FaultRec where
  /-- LANTERN; 6 bits; 09 R223; reset none -/
  lantern : Nat
  /-- HWCTX; 2 bits; 09 R223; reset none -/
  hw : Nat
  /-- CAUSE; 4 bits; 09 R223; reset none -/
  cause : Nat
  /-- ACCESS; 4 bits; 09 R223; reset none -/
  access : Nat
  /-- VA; 64 bits; 09 R223; reset none -/
  va : Nat
  /-- PC; 32 bits; 09 R223; reset none -/
  pc : Nat
  /-- RECORD; 32 bits; 09 R223; reset none -/
  record : Nat
  /-- QUEUE; 10 bits; 09 R223; reset none -/
  queue : Nat
  /-- watch slot of a take held without a hardware context; 4 bits; 04 R106; reset none -/
  slot : Option Nat := none
deriving DecidableEq, Repr

/-- A queued withdrawal (R228). -/
structure Withdrawal where
  /-- sequence number s; 64 bits; 09 R228; reset none -/
  seq : Nat
  /-- context; 8 bits; 09 R228; reset none -/
  ctx : Nat
  /-- ack word, none for DESTROY's own; 52 bits; 09 R228; reset none -/
  ack : Option Nat
  /-- epoch of each chart at Drop: references up to it must drain; 32 bits each; 09 R228; reset none -/
  epochs : Tab Nat := []
  /-- withdrawn range (va, length), none for WITHDRAW_ALL; 57 bits each; 09 R228; reset none -/
  range : Option (Nat × Nat) := none
  /-- Drop is done; 1 bit; 09 R228; reset false -/
  dropped : Bool := false
  /-- the limit has expired and Drain was forced; 1 bit; 09 R229; reset false -/
  forced : Bool := false
deriving DecidableEq, Repr

end Sys2Proof.Machine
end

