-- ==== Sys2Proof/Machine/StateLantern.lean ====
section
/-! DEFINITION. State records of the accelerator: lanterns, hardware contexts, beams and accumulator sets (02, 04, 05),
queues and contexts (04), light groups (06), sinkers (07), bearing checks (19). Each field's comment reads: meaning;
width; file and rule; reset. -/

namespace Sys2Proof.Machine

/-- What a hardware context is doing (R101, R106, R110, R119, R129). -/
inductive Phase where
  /-- no request -/
  | free
  /-- its program runs -/
  | running
  /-- held on a translation fault: an instruction (0), a take on its completion record (1), a join (2), a take on its
  header or arguments (3) (R129, R225) -/
  | held (what : Nat)
  /-- a CLAIM waits (R130) -/
  | claiming
  /-- the program is over; the join follows once the tallies are zero (R110, R119) -/
  | ended (status detail : Nat)
deriving DecidableEq, Repr

/-- One hardware context of a lamp sequencer (R101, R109, R117, R122). -/
structure Hw where
  /-- phase of the hardware context; enumeration; 04 R101; reset free -/
  phase : Phase := .free
  /-- context of the request; 8 bits; 04 R107; reset 0 -/
  ctx : Nat := 0
  /-- queue number; 10 bits; 04 R104; reset 0 -/
  queue : Nat := 0
  /-- dispatch record number r; 32 bits; 04 R105; reset 0 -/
  record : Nat := 0
  /-- LANTERN_MASK; 64 bits; 04 R107; reset 0 -/
  mask : W64 := 0
  /-- ENTRY; 64 bits; 04 R107; reset 0 -/
  entry : Nat := 0
  /-- COMPLETION, virtual; 64 bits; 04 R107; reset 0 -/
  comp : Nat := 0
  /-- physical address of COMPLETION as the take found it; 52 bits; 04 R108, R112; reset 0 -/
  compPa : Nat := 0
  /-- MSI_EN; 1 bit; 04 R107; reset 0 -/
  msiEn : Bool := false
  /-- MSI_ADDR; 64 bits; 04 R107; reset 0 -/
  msiAddr : Nat := 0
  /-- MSI_EIID; 11 bits; 04 R107; reset 0 -/
  msiId : Nat := 0
  /-- TAG; 64 bits; 04 R107; reset 0 -/
  tag : W64 := 0
  /-- SEED; 64 bits; 04 R107; reset 0 -/
  seed : W64 := 0
  /-- lateness limit in units of 10 µs; 16 bits; 04 R113; reset 0 -/
  late : Nat := 0
  /-- CODE_BYTES; 32 bits; 04 R103; reset 0 -/
  codeBytes : Nat := 0
  /-- program counter, a byte offset; 32 bits; 05 R116; reset 0 -/
  pc : Nat := 0
  /-- general registers g1 to g31, g0 reads zero; 64 bits each; 05 R117; reset 0 -/
  g : Tab W64 := []
  /-- tile descriptors t0 to t15; 512 bits each; 05 R117, R120; reset 0 -/
  t : Tab Line := []
  /-- a poisoned tile descriptor (sequencer state), by number; 16 bits; 18 R393; reset none -/
  tPoison : List Nat := []
  /-- granule table: lens granules of the share in order; up to 112 × 7 bits; 04 R102; reset none -/
  granules : List Nat := []
  /-- sets received, acc0 upwards; up to 32 × 5 bits; 04 R102; reset none -/
  sets : List Nat := []
  /-- tallies 0 to 3; 4 counts; 05 R122; reset 0 -/
  tallies : Tab Nat := []
  /-- scoreboard of ranges in flight: transfer id, first and last line, writes; up to 64; 05 R122; reset none -/
  board : List (Nat × Nat × Nat × Bool) := []
  /-- SEND byte counters TAG 0 to 15; 32 bits each; 05 R137; reset 0 -/
  tags : Tab Nat := []
  /-- lane-file halves held, beam × 2 + half; 32 bits; 05 R130; reset none -/
  claims : List Nat := []
  /-- mask of a waiting CLAIM; 32 bits; 05 R130; reset none -/
  claimWant : List Nat := []
  /-- line watch of WAIT.LINE (line number); 46 bits; 05 R138; reset none -/
  watch : Option Nat := none
  /-- the WATCH of WAIT.LINE was refused and the line is polled; 1 bit; 11 R260; reset false -/
  polled : Bool := false
  /-- a notice for the line watch is pending; 1 bit; 11 R261; reset false -/
  notice : Bool := false
  /-- last value read by WAIT.LINE; 64 bits; 05 R138; reset 0 -/
  lastRead : W64 := 0
  /-- a notice for the completion record is pending; 1 bit; 04 R112; reset false -/
  cnotice : Bool := false
  /-- preferred operating point; 3 bits; 05 R140; reset none -/
  op : Option Nat := none
  /-- pending RUN code offsets by group; 24 bits each; 06 R155; reset none -/
  runs : Tab Nat := []
  /-- census counts SATURATED, FLUSHED, NAN_DROPPED, NONFINITE; 4 × 64 bits; 03 R86; reset 0 -/
  saturated : Nat := 0
  flushed : Nat := 0
  nanDropped : Nat := 0
  nonfinite : Nat := 0
  /-- STATUS and DETAIL of the program's end while its join is held; 8 and 16 bits; 04 R110, 09 R225; reset 0 -/
  endStatus : Nat := 0
  endDetail : Nat := 0
  /-- batch that a held instruction waits on; 32 bits; 09 R225; reset 0 -/
  batch : Nat := 0
  /-- numbers of the fault records of a held instruction; list of 32 bits; 09 R225; reset none -/
  slots : List Nat := []
  /-- faults of the instruction now at the program counter; 8 bits; 09 R226; reset 0 -/
  tries : Nat := 0
  /-- the waiting lower tier, for the DETAIL of TIER_LATE (1 stream, 2 flip or evacuation, 3 channel, 4 sinker); 08 R202; reset 0 -/
  lateKind : Nat := 0
  /-- domain on whose memory the wait stands; 3 bits; 08 R210; reset 0 -/
  lateDomain : Nat := 0
  /-- stream and layer that a WAITSTREAM waits for; 8 and 64 bits; 08 R199; reset 0 -/
  lateStream : Nat := 0
  lateLayer : Nat := 0
  /-- beams on which this request has issued a BEAM or SELFTEST, and 16 + post units on which it has run a POST; list; 17 R381; reset none -/
  issued : List Nat := []
  /-- number of the bearing check whose recompute program it runs; 64 bits; 19 R420; reset none -/
  check : Option Nat := none
  /-- start of the current wait was recorded (RECV, WAIT.LINE, WAITSTREAM); 1 bit; 05 R137, R138; reset false -/
  waiting : Bool := false
deriving DecidableEq, Repr

/-- A take that a translation fault holds without a hardware context: a record that the queue's lowest watcher handles alone
(R106, R108, R225). -/
structure TakeHold where
  /-- times the take has faulted; 8 bits; 09 R226; reset none -/
  tries : Nat := 0
  /-- slots of its fault records; list; 09 R225; reset none -/
  slots : List Nat := []
  /-- batch of its last record; 32 bits; 09 R225; reset none -/
  batch : Nat := 0
deriving DecidableEq, Repr

/-- One watch slot of a lantern (R104, R106). -/
structure Slot where
  /-- queue number; 10 bits; 04 R104; reset free -/
  queue : Nat
  /-- private position; 32 bits; 04 R106; reset TAIL at registration -/
  pos : Nat
  /-- TAIL last read; 32 bits; 04 R106; reset TAIL at registration -/
  tail : Nat
  /-- a watch notice is pending; 1 bit; 04 R106; reset false -/
  notice : Bool := false
  /-- the head has waited 1 ms; 1 bit; 04 R106; reset false -/
  starved : Bool := false
  /-- its head is held on a translation fault without a hardware context; record; 04 R106, R108; reset none -/
  hold : Option TakeHold := none
deriving DecidableEq, Repr

/-- A committed store in a die's store buffer (R236). -/
structure Buffered where
  /-- hardware context that made it; 2 bits; 10 R236; reset none -/
  hw : Nat
  /-- physical address; 52 bits; 10 R236; reset none -/
  pa : Nat
  /-- size in bytes; 7 bits; 10 R236; reset none -/
  size : Nat
  /-- bytes; up to 512 bits; 10 R236; reset none -/
  data : Line
  /-- epoch of the chart reference it holds until it performs; 32 bits; 09 R227; reset none -/
  epoch : Nat
deriving DecidableEq, Repr

/-- A logical lantern (R18, R42, R50, R59, R101). -/
structure Lantern where
  /-- lens bytes by lens offset, sorted, zeros left out; 32 MiB; 02 R59; reset 0 -/
  lens : List Host.Cell := []
  /-- poisoned lens lines, sorted; 524,288 bits; 18 R393, R394; reset none -/
  lensPoison : List Nat := []
  /-- watch slots 0 to 15; records; 04 R104; reset free -/
  slots : Tab Slot := []
  /-- slot of the last take, for the round robin; 4 bits; 04 R106; reset 0 -/
  lastSlot : Nat := 0
  /-- die store buffer, oldest first; list; 10 R236; reset empty -/
  stores : List Buffered := []
  /-- hardware contexts whose CLAIM waits, oldest first; list; 05 R130; reset none -/
  claimers : List Nat := []
  /-- site of the die, tile × 16 + site; 8 bits; 00 R18, 01 R25; reset ascending site, the spare site 8 left out -/
  site : Option Nat := none
  /-- LossState; 2 bits; 18 R412; reset ALIVE -/
  loss : Loss := .alive
  /-- DETAIL of DIE_LOST; 16 bits; 18 R400; reset 0 -/
  lossDetail : Nat := 0
  /-- taken out of service by a failed scan or relight; 1 bit; 02 R50, 18 R406; reset false -/
  out : Bool := false
  /-- resident SELFTEST vectors fail their digest; 1 bit; 03 R97; reset false -/
  vectorsBad : Bool := false
  /-- StrayLensWrites; 64 bits; 05 R145; reset 0 -/
  stray : Nat := 0
  /-- DieCacheParity: clean refetches, dirty losses; 2 × 64 bits; 11 R270; reset 0 -/
  refetches : Nat := 0
  dirtyLosses : Nat := 0
  /-- single-bit tag errors corrected by SECDED; 64 bits; 11 R262; reset 0 -/
  corrections : Nat := 0
  /-- operating point in force; 3 bits; 01 R36, 17 R384; reset OP0 (no program runs) -/
  op : Nat := 0
  /-- an operating-point change is pending; 1 bit; 01 R37; reset none -/
  opPending : Option Nat := none
  /-- issue-rate limit r in sixteenths; 5 bits; 17 R376; reset 16 -/
  rate : Nat := 16
  /-- boosted to 2.35 GHz; 1 bit; 17 R385; reset false -/
  boost : Bool := false
  /-- relight or bypass waits for the quiescent point; 1 bit; 02 R51, 18 R409; reset false -/
  relightWaits : Bool := false
  /-- spare site of its tile that it moves to at its quiescent point; 4 bits; 20 R435; reset none -/
  promoteTo : Option Nat := none
  /-- number and object of the command that relights it at its quiescent point; 32 bits each; 16 R362; reset none -/
  cmd : Option (Nat × Nat) := none
  /-- a MEASURE waits for the quiescent point: the slowdown it will read and the number of the command; 32 bits; 20 R442; reset none -/
  measureWaits : Option (Nat × Nat) := none
deriving DecidableEq, Repr

/-- A BEAM in a beam's queue (R46, R56, R58). -/
structure BeamOp where
  /-- transfer number; 64 bits; 05 R122; reset none -/
  id : Nat
  /-- issuing hardware context; 2 bits; 02 R58; reset none -/
  hw : Nat
  /-- logical beam; 4 bits; 05 R131; reset none -/
  beam : Nat
  /-- half; 1 bit; 05 R131; reset none -/
  half : Nat
  /-- accumulator set of the lantern; 5 bits; 05 R131; reset none -/
  set : Nat
  /-- MODE ADD; 1 bit; 05 R131; reset none -/
  add : Bool
  /-- A operand descriptor; 512 bits; 05 R131; reset none -/
  a : Line
  /-- first and last lens line of A; 19 bits each; 02 R58; reset none -/
  aFirst : Nat
  aLast : Nat
  /-- a SELFTEST: its destination register and suite mask; 5 and 64 bits; 03 R97; reset none -/
  selftest : Option (Nat × W64) := none
  /-- A operand staged: row bytes and scales; 34 KiB; 02 R46; reset not staged -/
  staged : Option (List (List Byte) × List (List Byte)) := none
  /-- the staged operand carries poison; 1 bit; 18 R394; reset false -/
  aPoison : Bool := false
deriving DecidableEq, Repr

/-- A lane-file half with its overflow half and scale stores (R45, R46, R128, R130). -/
structure Half where
  /-- EMPTY, being loaded, or loaded; 2 bits; 02 R45, 05 R130; reset EMPTY -/
  st : HalfSt := .empty
  /-- hardware context of the request that holds it; 2 bits; 05 R130; reset free -/
  owner : Option Nat := none
  /-- released and waiting for its queued BEAMs; 1 bit; 05 R130; reset false -/
  releasing : Bool := false
  /-- tag FMT; 4 bits; 05 R128; reset 0 -/
  fmt : Nat := 0
  /-- tag SCALE; 2 bits; 05 R128; reset 0 -/
  scale : Nat := 0
  /-- tag TSCALE; 32 bits; 05 R128; reset 0 -/
  tscale : W32 := 0
  /-- tag N; 10 bits; 05 R128; reset 0 -/
  n : Nat := 0
  /-- tag K; 12 bits; 05 R128; reset 0 -/
  k : Nat := 0
  /-- column segments, row bytes of column n; up to 512 × 1 KiB; 02 R45, R46; reset none -/
  cols : List (List Byte) := []
  /-- E8M0 scales of each column; up to 512 × 64 B; 02 R45; reset none -/
  xs : List (List Byte) := []
  /-- poison bit of the half; 1 bit; 18 R394; reset false -/
  poison : Bool := false
deriving DecidableEq, Repr

/-- A logical beam (R42 to R58, R66). -/
structure Beam where
  /-- bypass mask; 512 bits; 02 R47; reset 0 -/
  mask : Line := 0
  /-- bypass mask requested and not yet in force; 512 bits; 20 R437; reset none -/
  want : Option Line := none
  /-- number of the BYPASS command that asked for it; 32 bits; 16 R362; reset none -/
  wantCmd : Option Nat := none
  /-- physical beam that carries a retired beam; 4 bits; 02 R49; reset itself -/
  host : Option Nat := none
  /-- logical beam whose lane files a host holds; 4 bits; 02 R49; reset itself -/
  loaded : Option Nat := none
  /-- queue of up to four BEAMs, oldest first; list; 02 R58; reset empty -/
  queue : List BeamOp := []
  /-- the BEAM that runs; record; 02 R56; reset none -/
  run : Option BeamOp := none
  /-- halves H0 and H1; records; 02 R45; reset EMPTY -/
  halves : Tab Half := []
  /-- BeamIssues; 64 bits; 02 R66; reset 0 -/
  issues : Nat := 0
  /-- BeamBusy in cycles; 64 bits; 02 R66; reset 0 -/
  busyCycles : Nat := 0
  /-- stall counters 012 StallLensA to 017 StallHostSwap; 6 × 64 bits; 02 R57; reset 0 -/
  stalls : Tab Nat := []
  /-- zero-gated lane products; 64 bits; 02 R66; reset 0 -/
  zeroGated : Nat := 0
  /-- SelftestRuns; 64 bits; 03 R97; reset 0 -/
  selftestRuns : Nat := 0
  /-- SelftestFails; 64 bits; 03 R97; reset 0 -/
  selftestFails : Nat := 0
  /-- issue credit c of the rate limiter, −16 × 65,536 to 16 × 4,096; 21 bits signed; 17 R381; reset 0 -/
  credit : Int := 0
  /-- credit of the post unit beside the beam; 21 bits signed; 17 R381; reset 0 -/
  postCredit : Int := 0
deriving DecidableEq, Repr

/-- One 192-bit entry of an accumulator set (R52). -/
structure Acc where
  /-- EXACT; 96 bits; 02 R52; reset 0 -/
  exact : BitVec 96 := 0
  /-- TS0, or the special accumulator of a narrow panel; 32 bits; 02 R52, 03 R79; reset 0 -/
  ts0 : W32 := 0
  /-- TS1; 32 bits; 02 R52; reset 0 -/
  ts1 : W32 := 0
  /-- TS2; 32 bits; 02 R52; reset 0 -/
  ts2 : W32 := 0
  /-- poison bit; 1 bit; 18 R394; reset 0 -/
  poison : Bool := false
deriving DecidableEq, Repr

/-- An accumulator set (R52, R53). -/
structure AccSet where
  /-- STATE; 2 bits; 02 R52; reset FREE -/
  st : SetSt := .free
  /-- FMT_A; 4 bits; 02 R52; reset 0 -/
  fmtA : Nat := 0
  /-- FMT_B; 4 bits; 02 R52; reset 0 -/
  fmtB : Nat := 0
  /-- SCALE; 2 bits; 02 R52; reset 0 -/
  scale : Nat := 0
  /-- M; 6 bits; 02 R52; reset 0 -/
  m : Nat := 0
  /-- N; 10 bits; 02 R52; reset 0 -/
  n : Nat := 0
  /-- PRODUCTS; 14 bits; 02 R52; reset 0 -/
  products : Nat := 0
  /-- TREE_OCC; 3 bits; 02 R52; reset 0 -/
  occ : BitVec 3 := 0
  /-- the two per-tensor scales of the panel; 64 bits; 05 R131; reset 0 -/
  ta : W32 := 0
  tb : W32 := 0
  /-- beam that ran the last BEAM into the set; 4 bits; 02 R63; reset 0 -/
  beam : Nat := 0
  /-- entries by row × 512 + column; 16,384 × 192 bits; 02 R52; reset 0 -/
  entries : Tab Acc := []
  /-- hardware context that received the set; 2 bits; 04 R102; reset none -/
  owner : Option Nat := none
deriving DecidableEq, Repr

/-- A context (R98 to R100, R115, R222 to R232). -/
structure Context where
  /-- ContextState; 2 bits; 04 R115; reset FREE -/
  st : CtxSt := .free
  /-- TMODE offset; 1 bit; 04 R99; reset 0 -/
  offset : Bool := false
  /-- PRIORITY; 2 bits; 04 R99; reset 0 -/
  priority : Nat := 0
  /-- XROOT; 64 bits; 04 R99; reset 0 -/
  xroot : Nat := 0
  /-- LANTERN_SET; 64 bits; 04 R99; reset 0 -/
  lanterns : W64 := 0
  /-- FAULT_RING; 64 bits; 04 R99; reset 0 -/
  ring : Nat := 0
  /-- Q_STACK; 32 bits; 08 R203; reset 0 -/
  qStack : Nat := 0
  /-- Q_BULK; 32 bits; 08 R203; reset 0 -/
  qBulk : Nat := 0
  /-- Q_WINDOW; 32 bits; 08 R203; reset 0 -/
  qWindow : Nat := 0
  /-- TAIL of the device line as counted by the tile; 32 bits; 09 R222; reset 0 -/
  tail : Nat := 0
  /-- CLOSED; 32 bits; 09 R222; reset 0 -/
  closed : Nat := 0
  /-- records in the open batch; 7 bits; 09 R224; reset 0 -/
  openCount : Nat := 0
  /-- records held while the ring is full; list; 09 R224; reset none -/
  heldRecs : List FaultRec := []
  /-- a DESTROY waits for room in the withdrawal queue; 1 bit; 09 R228; reset false -/
  destroyWaits : Bool := false
  /-- sequence number of DESTROY's withdrawal; 64 bits; 09 R228; reset none -/
  destroySeq : Option Nat := none
  /-- command number of the DESTROY that runs; 32 bits; 16 R362; reset 0 -/
  destroyCmd : Nat := 0
  /-- RequestsEnded per status; 64 bits each; 04 R115; reset 0 -/
  ended : Tab Nat := []
  /-- CompletionsUnreachable; 64 bits; 04 R115; reset 0 -/
  unreachable : Nat := 0
  /-- FaultBatches; 64 bits; 09 R232; reset 0 -/
  batches : Nat := 0
  /-- FaultRecords; 64 bits; 09 R232; reset 0 -/
  records : Nat := 0
  /-- Withdrawals; 64 bits; 09 R232; reset 0 -/
  withdrawals : Nat := 0
  /-- LastWithdrawAck; 64 bits; 09 R232; reset 0 -/
  lastAck : Nat := 0
deriving DecidableEq, Repr

/-- A registered queue (R104). -/
structure Queue where
  /-- registered; 1 bit; 04 R104; reset false -/
  live : Bool := false
  /-- CONTEXT; 8 bits; 04 R104; reset 0 -/
  ctx : Nat := 0
  /-- LOG2_SIZE; 5 bits; 04 R104; reset 0 -/
  log2 : Nat := 0
  /-- HEADER_PA; 52 bits; 04 R104; reset 0 -/
  header : Nat := 0
  /-- RING_PA; 52 bits; 04 R104; reset 0 -/
  ring : Nat := 0
  /-- WATCHERS; 64 bits; 04 R104; reset 0 -/
  watchers : W64 := 0
deriving DecidableEq, Repr

/-- What the module keeps of a taken request until DONE (R108, R110, R398): queue × 2^32 + record. -/
structure Request where
  /-- lanterns that have joined or left the request; 64 bits; 04 R110, 09 R226; reset 0 -/
  left : W64 := 0
  /-- LANTERN_MASK; 64 bits; 04 R107; reset 0 -/
  mask : W64 := 0
  /-- a join could not reach the completion record; 1 bit; 09 R226; reset false -/
  unreachable : Bool := false
  /-- context; 8 bits; 04 R107; reset 0 -/
  ctx : Nat := 0
  /-- physical address of COMPLETION as the first take found it; 52 bits; 18 R398; reset 0 -/
  compPa : Nat := 0
deriving DecidableEq, Repr

/-- One entry of a characteristic table as its store holds it (R157). -/
structure TableEntry where
  /-- REL; 12 bits; 06 R157; reset none loaded -/
  rel : Nat
  /-- ACTION; 4 bits; 06 R157; reset none loaded -/
  action : Nat
  /-- TAG; 4 bits; 06 R157; reset none loaded -/
  tag : Nat
  /-- PEER; 6 bits; 06 R157; reset none loaded -/
  peer : Nat
  /-- BUDGET; 32 bits; 06 R157; reset none loaded -/
  budget : Nat
  /-- SRC; 25 bits; 06 R157; reset none loaded -/
  src : Nat
  /-- DST; 25 bits; 06 R157; reset none loaded -/
  dst : Nat
  /-- LEN; 25 bits; 06 R157; reset none loaded -/
  len : Nat
  /-- Q; 13 bits; 06 R157; reset none loaded -/
  q : Nat
  /-- PSTRIDE; 19 bits; 06 R157; reset none loaded -/
  pstride : Nat
  /-- ARG; 64 bits; 06 R157; reset none loaded -/
  arg : Nat
deriving DecidableEq, Repr

/-- A member of a light group: a lantern 0 to 63, or 64 + stack (R148, R153). -/
structure Member where
  /-- the member's table; up to 4,096 entries; 06 R150; reset none -/
  table : List TableEntry := []
  /-- highest flash below which the program has declared lit (gF); 32 bits; 06 R153; reset 0 -/
  declared : Nat := 0
  /-- indices of launched actions not yet complete; list; 06 R158; reset none -/
  open_ : List Nat := []
  /-- indices of the actions of the flash now here not yet launched; list; 06 R158; reset none -/
  toLaunch : List Nat := []
  /-- flash count that has reached the member; 32 bits; 06 R155, R158; reset 0 -/
  seen : Nat := 0
  /-- flashes below this number whose lit declaration had returned to the leader's tile when a link was held; 32 bits; 06 R152;
  reset 0 -/
  returned : Nat := 0
  /-- hardware context attached; 2 bits; 06 R151; reset none -/
  hw : Option Nat := none
deriving DecidableEq, Repr

/-- A light group (R146 to R164). -/
structure Group where
  /-- GroupState; 3 bits; 06 R164; reset FREE -/
  st : GroupSt := .free
  /-- descriptor address; 52 bits; 06 R149; reset 0 -/
  desc : Nat := 0
  /-- CONTEXT; 8 bits; 06 R147; reset 0 -/
  ctx : Nat := 0
  /-- LEADER; 6 bits; 06 R147; reset 0 -/
  leader : Nat := 0
  /-- GCAP; 1 bit; 06 R147; reset 0 -/
  gcap : Bool := false
  /-- MIN_PERIOD; 16 bits; 06 R147; reset 0 -/
  period : Nat := 0
  /-- STALL_LIMIT; 16 bits; 06 R147; reset 0 -/
  stall : Nat := 0
  /-- CYCLE; 12 bits; 06 R147; reset 0 -/
  cycle : Nat := 0
  /-- LanternMembers; 64 bits; 06 R164; reset 0 -/
  lanterns : W64 := 0
  /-- SinkerMembers; 16 bits; 06 R164; reset 0 -/
  sinkers : BitVec 16 := 0
  /-- members by number; records; 06 R148; reset none -/
  members : Tab Member := []
  /-- FlashCount; 32 bits; 06 R164; reset 0 -/
  count : Nat := 0
  /-- bound request, queue × 2^32 + record; 42 bits; 06 R151; reset none -/
  bound : Option Nat := none
  /-- requests waiting to bind, oldest first; list; 06 R151; reset none -/
  waiters : List Nat := []
  /-- FlashesFired; 64 bits; 06 R164; reset 0 -/
  fired : Nat := 0
  /-- HoldCycles; 64 bits; 06 R164; reset 0 -/
  hold : Nat := 0
  /-- Stalls; 64 bits; 06 R164; reset 0 -/
  stalls : Nat := 0
  /-- BudgetOverruns; 64 bits; 06 R164; reset 0 -/
  overruns : Nat := 0
  /-- LastStallLanterns; 64 bits; 06 R164; reset 0 -/
  lastStall : W64 := 0
  /-- OverBudget; 1 bit; 06 R164; reset 0 -/
  overBudget : Bool := false
  /-- RunsReplaced; 64 bits; 06 R164; reset 0 -/
  runsReplaced : Nat := 0
  /-- its characteristic store met an error: DEGRADED once its request has joined, until REFORM; 1 bit; 18 R393; reset false -/
  storeBad : Bool := false
deriving DecidableEq, Repr

/-- A descriptor at a sinker (R166, R169). -/
structure SinkOp where
  /-- number of the operation; 64 bits; 07 R169; reset none -/
  id : Nat
  /-- descriptor words; 512 bits; 07 R166; reset none -/
  desc : Line
  /-- issuing lantern and hardware context; 8 bits; 07 R167; reset none -/
  lantern : Nat
  hw : Nat
  /-- request, queue × 2^32 + record; 42 bits; 07 R178; reset none -/
  req : Nat := 0
  /-- context; 8 bits; 07 R178; reset none -/
  ctx : Nat
  /-- tally of a SINK instruction; 2 bits; 05 R136; reset none -/
  tally : Option Nat
  /-- group, member and table index of a flash-launched SINK; 06 R158; reset none -/
  group : Option (Nat × Nat × Nat)
  /-- addresses are physical (sinker member's table); 1 bit; 07 R167; reset none -/
  physical : Bool
  /-- translated regions (virtual base, length, physical base); 52 bits each; 07 R167; reset none -/
  xls : List (Nat × Nat × Nat) := []
  /-- admitted to the queue; 1 bit; 07 R169; reset false -/
  admitted : Bool := false
  /-- its results are written, or it has ended in an error; 1 bit; 07 R169, R178; reset false -/
  ran : Bool := false
  /-- it has ended in an error; 1 bit; 07 R178, R182; reset false -/
  failed : Bool := false
  /-- epoch of the chart reference; 32 bits; 09 R227; reset 0 -/
  epoch : Nat := 0
deriving DecidableEq, Repr

/-- A sinker die (R165, R169, R180, R182). -/
structure Sinker where
  /-- queue of up to 256 descriptors and those waiting for room, oldest first; list; 07 R169; reset empty -/
  ops : List SinkOp := []
  /-- SinkerThrottle; 2 bits; 07 R182; reset FULL -/
  throttle : Throttle := .full
  /-- refresh of the stack is doubled; 1 bit; 07 R180; reset false -/
  refresh2 : Bool := false
  /-- last lantern admitted, for the round robin; 6 bits; 07 R169; reset 0 -/
  last : Nat := 0
  /-- lost; 1 bit; 18 R404; reset false -/
  lost : Bool := false
  /-- engines in service; 4 bits; 07 R165, 19 R416; reset 0b1111 -/
  engines : BitVec 4 := 15
  /-- SinkDescriptors; 64 bits; 07 R182; reset 0 -/
  descriptors : Nat := 0
  /-- SinkRowsRead; 64 bits; 07 R182; reset 0 -/
  rowsRead : Nat := 0
  /-- SinkBytesWritten; 64 bits; 07 R182; reset 0 -/
  bytesWritten : Nat := 0
  /-- SinkQueueFullCycles; 64 bits; 07 R182; reset 0 -/
  fullCycles : Nat := 0
  /-- SinkStoppedCycles; 64 bits; 07 R182; reset 0 -/
  stoppedCycles : Nat := 0
  /-- StackHotEvents; 64 bits; 07 R182; reset 0 -/
  hotEvents : Nat := 0
deriving DecidableEq, Repr

/-- A MOVE or SEND whose completion has yet to be seen (R122, R137). -/
structure Xfer where
  /-- number of the transfer; 64 bits; 05 R122; reset none -/
  id : Nat
  /-- lantern and hardware context that issued it; 8 bits; 05 R122; reset none -/
  lantern : Nat
  hw : Nat
  /-- request, queue × 2^32 + record; 42 bits; 05 R137; reset none -/
  req : Nat
  /-- tally, none for a table SEND; 2 bits; 05 R122; reset none -/
  tally : Option Nat
  /-- memory-side stores that have not performed: (line, mask, data, poison); list; 05 R129; reset none -/
  writes : List (Nat × W64 × Line × Bool) := []
  /-- SEND: destination lantern; 6 bits; 05 R137; reset none -/
  peer : Option Nat := none
  /-- SEND: byte counter; 4 bits; 05 R137; reset 0 -/
  tag : Nat := 0
  /-- SEND: chunks of up to 64 bytes not yet landed: (chunk number, lens offset, bytes, poison); list; 05 R137; reset none -/
  chunks : List (Nat × Nat × List Byte × Bool) := []
  /-- lane-file half that a MOVE.L2F loads, beam × 2 + half; 5 bits; 05 R128; reset none -/
  half : Option Nat := none
  /-- table SEND: group, member and index; 06 R158; reset none -/
  group : Option (Nat × Nat × Nat) := none
  /-- home tiles of the lines that a MOVE crosses to; list; 01 R32, R39; reset none -/
  homes : List Nat := []
  /-- KEEP of the destination descriptor: the lines are also allocated in the die cache; 1 bit; 05 R120; reset false -/
  keep : Bool := false
deriving DecidableEq, Repr

/-- A bearing check that has been selected (R418 to R421). -/
structure Check where
  /-- number of the check; 64 bits; 19 R420; reset none -/
  id : Nat
  /-- lantern and hardware context checked; 8 bits; 19 R418; reset none -/
  lantern : Nat
  hw : Nat
  /-- context; 8 bits; 19 R419; reset none -/
  ctx : Nat
  /-- check key; 64 bits; 19 R418; reset none -/
  key : W64
  /-- tile descriptor; 512 bits; 19 R418; reset none -/
  tile : Line
  /-- progress: 0 selected, 1 checker runs, 2 voter runs; 2 bits; 19 R420, R421; reset none -/
  stage : Nat := 0
  /-- captured checksum of the tile; 64 bits; 19 R420; reset none -/
  sum : W64 := 0
  /-- row bytes and rows of the tile; 32 bits each; 19 R419, R420; reset none -/
  rowBytes : Nat := 0
  rows : Nat := 0
  /-- input regions: virtual address, bytes, captured checksum; list of at most 4; 19 R419, R420; reset none -/
  inputs : List (Nat × Nat × W64) := []
  /-- ENTRY, ARGS and RESULT of the recipe; 64, 64 and 25 bits; 19 R419; reset none -/
  entry : Nat := 0
  args : Nat := 0
  result : Nat := 0
  /-- site of the origin at the capture; 8 bits; 19 R420, R428; reset none -/
  site : Nat := 0
  /-- checker and voter lanterns; 6 bits each; 19 R420, R421; reset none -/
  checker : Option Nat := none
  voter : Option Nat := none
  /-- checksum of the checker's result; 64 bits; 19 R420; reset none -/
  checkerSum : W64 := 0
deriving DecidableEq, Repr

end Sys2Proof.Machine
end

