-- ==== Sys2Proof/Machine/StateModule.lean ====
section
/-! DEFINITION. State records of the module as a whole: links (01), tray, sensors and flash (14), start (15), sessions
and configuration store (16), power (17), silent errors (19), firmware and service (20), security and guests (21).
Each field's comment reads: meaning; width; file and rule; reset. -/

namespace Sys2Proof.Machine

/-- A chain link (R27, R32 to R34). -/
structure Link where
  /-- LinkState; 2 bits; 01 R34; reset UP (DESIGN CHOICE before the first training) -/
  st : LinkSt := .up
  /-- held while it trains; 1 bit; 01 R32; reset false -/
  held : Bool := false
  /-- spared data lanes of each direction; 4 bits each; 01 R28, R34; reset 0 -/
  spared0 : Nat := 0
  spared1 : Nat := 0
  /-- replay count; 64 bits; 01 R34; reset 0 -/
  replays : Nat := 0
  /-- retrain count; 64 bits; 01 R34; reset 0 -/
  retrains : Nat := 0
  /-- consecutive failed replays of the same flit, per direction; 5 bits each; 01 R32; reset 0 -/
  fails0 : Nat := 0
  fails1 : Nat := 0
  /-- a replay is pending in the retry buffer of a direction; 1 bit each; 01 R32; reset false -/
  pending0 : Bool := false
  pending1 : Bool := false
  /-- sideband spare used, per direction; 2 bits; 01 R33; reset false -/
  sbSpare0 : Bool := false
  sbSpare1 : Bool := false
  /-- sideband down; 1 bit; 01 R33; reset false -/
  sbDown : Bool := false
  /-- flashes waiting on the sideband (group, member); list; 01 R32; reset none -/
  waiting : List (Nat × Nat) := []
deriving DecidableEq, Repr

/-- A board sensor (R320): 0, 1 input voltage (mV); 2 input current (mA); 3 inlet, 4 outlet (m°C); 5, 6 leak traces
(Ω, −1 OPEN); 16 + c DIMM temperature (m°C). -/
structure Sensor where
  /-- last valid reading; 32 bits; 14 R320; reset 0 (DESIGN CHOICE), 54,000 mV for sensors 0 and 1 -/
  value : Int := 0
  /-- the last reading was valid; 1 bit; 14 R320; reset true -/
  valid : Bool := true
  /-- the substitute is in use; 1 bit; 14 R320; reset false -/
  substituted : Bool := false
  /-- consecutive valid samples while the substitute is in use, 1,000 ending it; 10 bits; 14 R320; reset 0 -/
  good : Nat := 0
  /-- SensorInvalids count; 64 bits; 14 R326; reset 0 -/
  invalids : Nat := 0
deriving DecidableEq, Repr

/-- Tray connections, part and flash devices (R2, R316 to R326). -/
structure Tray where
  /-- part number in force; STR; 00 R2; reset GSV-7480-A-4T (DESIGN CHOICE) -/
  part : Part := .a4t
  /-- guest sites, 0 and 1, whose presence strap the hub has read as fitted; 2 bits; 00 R2; reset none (DESIGN CHOICE), sensed at each
  start of the hub -/
  guestFitted : List Nat := []
  /-- filtered TRAY_FLOW_OK; 1 bit; 14 R316; reset low -/
  flowOk : Bool := false
  /-- filtered TRAY_PWR_OK; 1 bit; 14 R316; reset low -/
  pwrOk : Bool := false
  /-- SlotId, none while SLOT_ID_INVALID stands; 8 bits; 14 R318; reset 0xFF -/
  slotId : Option Nat := none
  /-- SLOT_ID as last sampled, none for an unequal set or 0x3F; 6 bits; 14 R317; reset none -/
  slotNow : Option Nat := none
  /-- SLOT_ID has been sampled since the hub started; 1 bit; 14 R317; reset false -/
  slotTaken : Bool := false
  /-- ResetRunts; 64 bits; 14 R317; reset 0 -/
  runts : Nat := 0
  /-- AlertCauses; 32 bits; 14 R319, 16 R352; reset 0 -/
  alerts : W32 := 0
  /-- the input disconnect is latched open; 1 bit; 14 R313; reset false -/
  latched : Bool := false
  /-- samples in a row with the lower reading below 58 V, 1,000 of them for 1 s; 10 bits; 14 R313; reset 0 -/
  below58 : Nat := 0
  /-- main rails on; 1 bit; 15 R330; reset false -/
  rails : Bool := false
  /-- flash device FAILED, SF0 and SF1; 2 bits; 14 R324; reset GOOD -/
  sf0Failed : Bool := false
  sf1Failed : Bool := false
  /-- flash objects found uncorrectable per device; 2 bits each; 14 R324; reset 0 -/
  sf0Bad : Nat := 0
  sf1Bad : Nat := 0
  /-- service-bus transmitter enabled; 1 bit; 14 R321; reset false -/
  busTx : Bool := false
  /-- no PLCA beacon; 1 bit; 14 R321; reset false -/
  noBeacon : Bool := false
  /-- capacity of the DIMM in each socket as the last training read it, GiB; 16 × 16 bits; 14 R322; reset none -/
  dimms : List Nat := []
  /-- DimmIdentity of each socket; 16 × BLOB; 14 R322; reset none -/
  dimmIds : Tab (List Byte) := []
deriving DecidableEq, Repr

/-- Readiness and start (R327 to R344). -/
structure Start where
  /-- ReadinessLevel; 2 bits; 15 R327; reset DARK -/
  level : Ready := .dark
  /-- StartStep: step in progress, 0 between the commands of the model, each of which runs its steps whole; 4 bits; 15 R344; reset 0 -/
  step : Nat := 0
  /-- StartFailure: step; 4 bits; 15 R339; reset 0 -/
  failStep : Nat := 0
  /-- StartFailure: event; 24 bytes; 15 R339; reset none -/
  failEv : Option Ev := none
  /-- StartKind: 0 cold, 1 warm; 8 bits; 15 R344; reset 0 -/
  kind : Nat := 0
  /-- StartCount; 64 bits; 15 R344; reset 0 -/
  count : Nat := 0
  /-- a start that failed at step 1 or 2 is retried by the hub ROM; 1 bit; 15 R329; reset false -/
  retry : Bool := false
  /-- START_HELD was raised for the condition that holds; 1 bit; 15 R333; reset false -/
  heldRaised : Bool := false
  /-- the module was reset by the hub's watchdog; 1 bit; 18 R404; reset false -/
  hubLost : Bool := false
  /-- SUPPLY_OVERVOLTAGE is to be recorded at the next start; 1 bit; 14 R313; reset false -/
  overvoltage : Bool := false
  /-- TRAY_RESET_N has risen after a reset, or the watchdog has reset the hub: a cold start follows; 1 bit; 15 R329; reset false -/
  woken : Bool := false
  /-- only a cold start continues; 1 bit; 15 R339; reset false -/
  stuck : Bool := false
  /-- NumericsRelease: release of the resident vectors; 32 bits; 03 R97; reset 0 (DESIGN CHOICE), recorded at each start -/
  release : Nat := 0
deriving DecidableEq, Repr

/-- A session of the Light List Protocol (R354 to R360): 0 to 7 service bus, 8 to 11 mailboxes. -/
structure Session where
  /-- session number; 32 bits; 16 R354; reset none -/
  number : Nat := 0
  /-- role; 2 bits; 16 R356; reset free -/
  role : Role
  /-- opened by the client's confirmation; 1 bit; 16 R356; reset false -/
  opened : Bool := false
  /-- highest COUNTER accepted from the client; 64 bits; 16 R357; reset 0 -/
  counter : Nat := 0
  /-- its last request was encrypted, and so is the reply; 1 bit; 16 R357; reset false -/
  enc : Bool := false
  /-- COUNTER of the module's last message; 64 bits; 16 R357; reset 0 -/
  sent : Nat := 0
  /-- kept replies to the last 16 REQUEST values, oldest first; list; 16 R360; reset none -/
  kept : List (Nat × Sts × List Byte) := []
  /-- value being staged: object and bytes; up to 1 MiB; 16 R359; reset none -/
  staged : Option (Nat × List Byte) := none
  /-- sequence numbers of the records of the last EVENT message to the client; list of at most 20; 16 R355, R358; reset none -/
  pushed : List Nat := []
  /-- subscription MINSEV and AREAS; 8 and 256 bits; 16 R358; reset none -/
  minsev : Nat := 0
  areas : List Nat := []
  /-- sequence numbers of records waiting to be pushed, at most 256; list; 16 R358; reset none -/
  waiting : List Nat := []
deriving DecidableEq, Repr

/-- A keeper mailbox control block (R363). -/
structure Mailbox where
  /-- BUSY; 1 bit; 16 R363; reset 0 -/
  busy : Bool := false
  /-- REPLY_READY; 1 bit; 16 R363; reset 0 -/
  replyReady : Bool := false
  /-- EVENT_PENDING; 1 bit; 16 R363; reset 0 -/
  eventPending : Bool := false
  /-- REQ_LEN; 16 bits; 16 R363; reset 0 -/
  reqLen : Nat := 0
  /-- REPLY_LEN; 16 bits; 16 R363; reset 0 -/
  replyLen : Nat := 0
  /-- EVENT_LEN; 16 bits; 16 R363; reset 0 -/
  eventLen : Nat := 0
  /-- sequence numbers of the records in the event window; list; 16 R363; reset none -/
  event : List Nat := []
  /-- request window by 8-byte word; 256 × 64 bits; 16 R363; reset 0 (DESIGN CHOICE) -/
  request : Tab W64 := []
deriving DecidableEq, Repr

/-- The record that both store copies hold when the module is first powered: PartNumber GSV-7480-A-4T (DESIGN CHOICE: the
manual does not say what manufacture leaves in the store). -/
def factoryRecord : Tab (List Byte) :=
  [(0x01000001, [13, 0, 71, 83, 86, 45, 55, 52, 56, 48, 45, 65, 45, 52, 84].map (BitVec.ofNat 8))]

/-- A slot of a store copy: the record that a verified or a failed programming left in it (R364, R366). -/
structure StoreSlot where
  /-- SEQ; 64 bits; 16 R364; reset blank -/
  seq : Nat
  /-- entries: object and value; list; 16 R364; reset blank -/
  record : Tab (List Byte)
  /-- its read-back failed, so that it is never selected; 1 bit; 16 R365, R367; reset blank -/
  torn : Bool := false
deriving DecidableEq, Repr

/-- A copy of the configuration store on one flash device (R364 to R367). -/
structure StoreCopy where
  /-- slots 0 to 47 that are not blank; records; 16 R364; reset kept over starts, first slot 0 with SEQ 1 and factoryRecord (DESIGN CHOICE) -/
  slots : Tab StoreSlot := [(0, { seq := 1, record := factoryRecord })]
  /-- slot last programmed; 6 bits; 16 R366; reset kept over starts, first 0 (DESIGN CHOICE) -/
  last : Nat := 0
  /-- the slot after it is being erased; 1 bit; 16 R366; reset false -/
  erasing : Bool := false
deriving DecidableEq, Repr

/-- The configuration store and the values in force (R364 to R369). -/
structure Store where
  /-- copy A on SF0; record; 16 R364; reset as StoreCopy -/
  a : StoreCopy := {}
  /-- copy B on SF1; record; 16 R364; reset as StoreCopy -/
  b : StoreCopy := {}
  /-- persisted set; list of object and value; 16 R366; reset taken at each start -/
  persist : Tab (List Byte) := []
  /-- values in force that differ from the defaults (RWP and RW objects); list; 16 R347; reset none -/
  inForce : Tab (List Byte) := []
  /-- StoreSequence; 64 bits; 16 R366; reset that of the record selected -/
  seq : Nat := 0
  /-- StoreWrites; 64 bits; 16 R374; reset 0 -/
  writes : Nat := 0
  /-- changes are waiting for the next store write; 1 bit; 16 R366; reset false -/
  dirty : Bool := false
  /-- sequence number of the repair map in use; 64 bits; 16 R369; reset 0 -/
  mapSeq : Nat := 0
  /-- sequence number of the repair-map copy on SF0 and on SF1; 64 bits each; 15 R332, 16 R369; reset 0 -/
  mapA : Nat := 0
  mapB : Nat := 0
  /-- repair map written by RepairMapImage for the next start; record; 16 R369; reset none -/
  mapNext : Option RepairMap := none
deriving DecidableEq, Repr

/-- What thermal control holds of a unit (R387): 0x100 + lantern, 0x200 + tile, 0x300 + stack, 0x400 + keeper die,
0x500 hub, 0x510 + port, 0x600 + channel. -/
structure Thermal where
  /-- hottest reading in m°C; 32 bits; 17 R387; reset 0 (DESIGN CHOICE) -/
  milliC : Int := 0
  /-- steps by which its ceiling is lowered: sixteenths of the issue rate, or 100 MHz for a keeper die; 5 bits; 17 R387; reset 0 -/
  lowered : Nat := 0
  /-- at or above its limit and not yet released; 1 bit; 17 R387; reset false -/
  limited : Bool := false
deriving DecidableEq, Repr

/-- Power and supply (R375 to R392). -/
structure Power where
  /-- EffectiveLimit in W; 16 bits; 17 R375; reset 6,000 -/
  limit : Nat := 6000
  /-- LimitSource; 2 bits; 17 R375; reset 0 -/
  source : Nat := 0
  /-- coolant limit in W, none without derating; 16 bits; 14 R315; reset none -/
  coolant : Option Nat := none
  /-- correction factor k; rational; 17 R380; reset 1 -/
  k : Rat := 1
  /-- ESTIMATE_BROKEN holds every lantern at 8/16; 1 bit; 17 R380; reset false -/
  broken : Bool := false
  /-- Disagreements; 64 bits; 17 R380; reset 0 -/
  disagreements : Nat := 0
  /-- last measured m and estimated e in W; 32 bits each; 17 R380; reset 0 -/
  measured : Nat := 0
  estimated : Nat := 0
  /-- corrected estimate p of the last window in mW; 32 bits; 17 R382; reset 0 -/
  p : Int := 0
  /-- corrected estimate of each lantern in mW; 32 bits; 17 R392; reset 0 -/
  lanterns : Tab Int := []
  /-- p of the last windows, newest first, at most 250; 17 R383; reset none -/
  history : List Int := []
  /-- consecutive windows with p below L − 100 W; 4 bits; 17 R382; reset 0 -/
  lowWindows : Nat := 0
  /-- consecutive windows with p above L and nothing left to cut; 16 bits; 17 R382; reset 0 -/
  unmet : Nat := 0
  /-- windows since boost was withdrawn, per lantern; 8 bits; 17 R385; reset 250 -/
  sinceBoost : Tab Nat := []
  /-- LimitedWindows per lantern; 64 bits; 17 R392; reset 0 -/
  limited : Tab Nat := []
  /-- FillerCycles per lantern; 64 bits; 17 R392; reset 0 -/
  filler : Tab Nat := []
  /-- re-fits made since the start: the fitted weights are a free value of this count; 64 bits; 17 R379; reset 0 -/
  refits : Nat := 0
  /-- milliseconds for which the re-fit time constant stays 100 ms; 10 bits; 17 R380; reset 0 -/
  fast : Nat := 0
  /-- windows of 4 µs since the start: the argument of free values of R378; 64 bits; 17 R377; reset 0 -/
  windows : Nat := 0
  /-- DimStep; 3 bits; 17 R389; reset 0 -/
  dim : Nat := 0
  /-- DimStepEntries; 4 × 64 bits; 17 R392; reset 0 -/
  dimEntries : Tab Nat := []
  /-- thermal state by unit; records; 17 R387; reset none -/
  thermal : Tab Thermal := []
  /-- ThermalEvents: THERMAL_LIMIT, THERMAL_TRIP; 2 × 64 bits; 17 R392; reset 0 -/
  limits : Nat := 0
  trips : Nat := 0
  /-- VoltageGuard of the die at a site in mV; 8 bits; 20 R442; reset 25 -/
  guard : Tab Nat := []
  /-- a guard waiting for the quiescent point, by site; 8 bits; 20 R442; reset none -/
  guardNext : Tab Nat := []
  /-- measured slowdown by site in 0.1 %; 16 bits; 20 R442; reset 0 -/
  slowdown : Tab Nat := []
  /-- powered time per (site × 4 + band), site as tile × 16 + site, in windows of 4 µs; 64 bits; 20 R443; reset 0 -/
  hours : Tab Nat := []
  /-- AgeingModel: coefficients a(b) in 0.001 % per 1,000 h; 4 × 32 bits; 20 R443; reset none -/
  model : List Nat := []
  /-- OP6 and OP7 withdrawn, by site; list; 20 R442; reset none -/
  noBoost : List Nat := []
deriving DecidableEq, Repr

/-- The off-watch step that runs (R415). -/
inductive WatchStep where
  | idle
  | drain (l spare : Nat)
  | scan (l site : Nat)
deriving DecidableEq, Repr

/-- The condemnation record (R426). -/
structure Condemned where
  /-- cause event; event name; 19 R426; reset none exists -/
  cause : Ev
  /-- SEQ of MODULE_CONDEMNED as the event count; 64 bits; 19 R426; reset none exists -/
  seq : Nat
  /-- the faults since the module became suspect: cause, SEQ and the units named; list; 19 R426, R428; reset none exists -/
  faults : List (Ev × Nat × List Nat)
deriving DecidableEq, Repr

/-- Silent errors, tests and service state (R413 to R429). -/
structure Silent where
  /-- ServiceState; 2 bits; 19 R424; reset IN SERVICE -/
  svc : Svc := .inService
  /-- the module drains for a fault, not only by DRAIN; 1 bit; 19 R425; reset false -/
  fault : Bool := false
  /-- cause of the first fault that drained the module; event name; 19 R424; reset none -/
  cause : Option Ev := none
  /-- the faults since the module became suspect: cause, SEQ and the units named; list; 19 R424, R428; reset none -/
  faults : List (Ev × Nat × List Nat) := []
  /-- Condemnation; record; 19 R426; reset none -/
  condemned : Option Condemned := none
  /-- off-watch step; record; 19 R415; reset idle -/
  watch : WatchStep := .idle
  /-- next logical lantern of the rotation; 6 bits; 19 R414; reset 0 -/
  next : Nat := 0
  /-- lanterns at the head of the order; list; 19 R414; reset none -/
  head : List Nat := []
  /-- spare site of each tile; 4 bits; 00 R18; reset site 8 (DESIGN CHOICE) -/
  spares : Tab (Option Nat) := []
  /-- bypass masks and hosts of the dies at sites that carry no logical lantern: beam, mask, host; records; 02 R47, R49; reset none -/
  siteMarks : Tab (List (Nat × Line × Option Nat)) := []
  /-- retired sites, tile × 16 + site; list; 15 R337, 19 R417; reset none -/
  retired : List Nat := []
  /-- LastScanPass per site, as the event count; 0x200 + cluster, 0x300 + tile, 0x400 + sinker engine for the other dies (R417); 64 bits; 19 R429; reset 0 -/
  lastPass : Tab Nat := []
  /-- OffWatchSteps completed per lantern; 64 bits; 19 R429; reset 0 -/
  completed : Tab Nat := []
  /-- OffWatchSteps skipped per lantern; 64 bits; 19 R429; reset 0 -/
  skipped : Tab Nat := []
  /-- BeamChecksumFails transient per lantern; 64 bits; 19 R429; reset 0 -/
  transient : Tab Nat := []
  /-- BeamChecksumFails persistent per lantern; 64 bits; 19 R429; reset 0 -/
  persistent : Tab Nat := []
  /-- beams to be retired at the quiescent point (lantern × 16 + beam); list; 19 R423; reset none -/
  retireBeams : List Nat := []
  /-- CheckVerdicts PASS, INPUTS_CHANGED, MISMATCH_CONFIRMED, UNRESOLVED, expired; 5 × 64 bits; 19 R429; reset 0 -/
  verdicts : Tab Nat := []
  /-- ChecksIgnored; 64 bits; 19 R429; reset 0 -/
  ignored : Nat := 0
  /-- ChecksDropped; 64 bits; 19 R429; reset 0 -/
  dropped : Nat := 0
  /-- CHECKs issued per lantern; 64 bits; 19 R418; reset 0 -/
  issued : Tab Nat := []
  /-- QuietLayerEvents; 64 bits; 03 R94; reset 0 -/
  quietEvents : Nat := 0
  /-- clusters and tiles whose scan is due; lists; 19 R416; reset none -/
  dueClusters : List Nat := []
  dueTiles : List Nat := []
deriving DecidableEq, Repr

/-- Firmware of a unit class (R430 to R434). -/
structure Firmware where
  /-- BootSlot: 0 A, 1 B; 1 bit; 20 R447; reset 0 (DESIGN CHOICE, persisted) -/
  boot : Nat := 0
  /-- CandidateState: 0 INVALID, 1 WRITTEN, 2 VALID; 2 bits; 20 R447; reset 0 -/
  cand : Nat := 0
  /-- SlotVersions; 2 × 32 bits; 20 R447; reset 0 -/
  verA : Nat := 0
  verB : Nat := 0
  /-- SECURITY_VERSION of the candidate image; 32 bits; 20 R431; reset 0 -/
  candSec : Nat := 0
  /-- IF_MIN and IF_MAX of the running image; 16 bits each; 20 R431; reset 0 (DESIGN CHOICE) -/
  ifMin : Nat := 0
  ifMax : Nat := 0
  /-- IF_MIN and IF_MAX of the candidate image; 16 bits each; 20 R431; reset 0 -/
  candIfMin : Nat := 0
  candIfMax : Nat := 0
  /-- bytes of the slots programmed, by slot × 2^24 + offset; 2 × slot size; 20 R430, R432; reset none -/
  bytes : Tab Byte := []
  /-- units that run the other slot than the boot slot; list; 20 R430; reset none -/
  onCand : List Nat := []
  /-- units SWITCHING and the slot they go to; list; 20 R433; reset none -/
  switching : List (Nat × Nat) := []
  /-- units whose switch was skipped and waits to be tried again; list; 20 R433; reset none -/
  paused : List Nat := []
  /-- times the switch of a unit was skipped; 5 bits each; 20 R433; reset 0 -/
  tries : Tab Nat := []
  /-- number of the ACTIVATE or REVERT that runs; 32 bits; 16 R362; reset none -/
  cmd : Option Nat := none
  /-- result the running command will complete with; 8 bits; 20 R433; reset OK -/
  result : Sts := .ok
  /-- security floor; 32 bits; 21 R451; reset 0 -/
  floor : Nat := 0
deriving DecidableEq, Repr

/-- Security of the hub (R448 to R453). -/
structure Security where
  /-- measurement log: register index and what was measured (a number for the object); list; 21 R450; reset empty -/
  measured : List (Nat × Nat) := []
  /-- times a DebugNonce has been drawn: the nonce is a free value of this count; 64 bits; 21 R453; reset 0 -/
  nonces : Nat := 0
  /-- DebugScope; 6 bits; 21 R453; reset 0 -/
  scope : BitVec 6 := 0
  /-- AuthFailures; 64 bits; 16 R374; reset 0 -/
  authFailures : Nat := 0
  /-- next session number; 32 bits; 16 R354; reset 1 -/
  nextSession : Nat := 1
  /-- last SPDM response: 0 none, else the response code; 8 bits; 21 R452; reset 0 -/
  spdm : Nat := 0
deriving DecidableEq, Repr

/-- A guest site (R454 to R460). -/
structure Guest where
  /-- GuestSiteState; 3 bits; 21 R455; reset EMPTY -/
  st : GuestSt := .empty
  /-- windows 0 to 15; 256 bits each; 21 R457; reset closed -/
  windows : Tab GuestWin := []
  /-- GuestDenials; 64 bits; 21 R459; reset 0 -/
  denials : Nat := 0
  /-- refusals in the current second; 10 bits; 21 R459; reset 0 -/
  denialsNow : Nat := 0
  /-- GuestPower in mW, the 10 ms average; 32 bits; 21 R461; reset 0 -/
  power : Nat := 0
  /-- a throttle request stands; 1 bit; 21 R458; reset false -/
  throttled : Bool := false
  /-- last answer to the guest: none refused, else data of a read; 512 bits; 21 R459; reset none -/
  answer : Option Line := none
deriving DecidableEq, Repr

end Sys2Proof.Machine
end

