-- ==== Sys2Proof/Machine/StatePort.lean ====
section
/-! DEFINITION. State records of the Ethernet ports and lamp cartridges (13). Each field's comment reads: meaning;
width; file and rule; reset. -/

namespace Sys2Proof.Machine

/-- A request that a QP has sent and that is not yet acknowledged (R299). -/
structure Sent where
  /-- first PSN of its packets; 24 bits; 13 R299; reset none -/
  psn : Nat
  /-- PSNs it takes; 24 bits; 13 R299; reset none -/
  psns : Nat
  /-- descriptor; 512 bits; 13 R297; reset none -/
  desc : Line
  /-- response bytes received so far; 13 R299; reset none -/
  got : List Byte := []
deriving DecidableEq, Repr

/-- What the engine holds of a QP or an Ethernet queue: its copy of the record and its progress (R294, R296, R299). -/
structure PortQueue where
  /-- engine's copy of the record; 1,024 bits; 13 R294; reset not loaded -/
  copy : Option (BitVec 1024) := none
  /-- STATE of the QP as the engine holds it; 4 bits; 13 R299; reset 0 -/
  st : Nat := 0
  /-- descriptors posted to the send queue; 32 bits; 13 R296; reset 0 -/
  sqProd : Nat := 0
  /-- descriptors taken from the send queue; 32 bits; 13 R296; reset 0 -/
  sqCons : Nat := 0
  /-- descriptors posted to the receive queue; 32 bits; 13 R296; reset 0 -/
  rqProd : Nat := 0
  /-- descriptors taken from the receive queue; 32 bits; 13 R296; reset 0 -/
  rqCons : Nat := 0
  /-- next send PSN; 24 bits; 13 R299; reset SQ_PSN at load -/
  psn : Nat := 0
  /-- next expected PSN; 24 bits; 13 R299; reset RQ_PSN at load -/
  epsn : Nat := 0
  /-- requests sent and not acknowledged, oldest first; list; 13 R299; reset none -/
  sent : List Sent := []
  /-- transport retries made since progress; 3 bits; 13 R299; reset 0 -/
  retries : Nat := 0
  /-- RNR retries made since progress; 3 bits; 13 R299; reset 0 -/
  rnrRetries : Nat := 0
  /-- result of the last responder atomic, for duplicates; 24 and 64 bits; 13 R298; reset none -/
  lastAtomic : Option (Nat × W64) := none
  /-- current rate Rc in Mbit/s, a rational; 13 R301; reset line rate -/
  rc : Option Rat := none
  /-- target rate Rt in Mbit/s, a rational; 13 R301; reset line rate -/
  rt : Option Rat := none
  /-- α, a rational; 13 R301; reset 1 -/
  alpha : Rat := 1
  /-- stage; 32 bits; 13 R301; reset 0 -/
  stage : Nat := 0
  /-- a CNP is owed to the sender; 1 bit; 13 R301; reset false -/
  cnpDue : Bool := false
deriving DecidableEq, Repr

/-- What the engine holds of a CQ (R299, R300). -/
structure Cq where
  /-- engine's copy of the entry; 512 bits; 13 R294; reset not loaded -/
  copy : Option Line := none
  /-- completion entries produced; 32 bits; 13 R300; reset 0 -/
  prod : Nat := 0
  /-- last armed consumer count; 32 bits; 13 R296; reset 0 -/
  cons : Nat := 0
  /-- armed; 1 bit; 13 R299; reset false -/
  armed : Bool := false
deriving DecidableEq, Repr

/-- What the engine holds of a post ring (R296). -/
structure PostRing where
  /-- engine's copy of the entry; 512 bits; 13 R294; reset not loaded -/
  copy : Option Line := none
  /-- position; 32 bits; 13 R296; reset TAIL at load -/
  pos : Nat := 0
  /-- a notice on the header line is pending; 1 bit; 13 R296; reset false -/
  notice : Bool := false
deriving DecidableEq, Repr

/-- What the headers of an outgoing packet carry of its QP's record (R299). -/
structure WireHdr where
  /-- IEEE 802.1p priority and PFC class; 3 bits; 13 R299; reset none -/
  prio : Nat := 0
  /-- DSCP, sent with ECT(0); 6 bits; 13 R299; reset none -/
  dscp : Nat := 0
  /-- ECT(0) is set; 1 bit; 13 R299; reset none -/
  ect0 : Bool := false
  /-- DEST_QPN; 24 bits; 13 R299; reset none -/
  destQpn : Nat := 0
  /-- DEST_IP; 128 bits; 13 R299; reset none -/
  destIp : Nat := 0
  /-- SRC_IP; 128 bits; 13 R299; reset none -/
  srcIp : Nat := 0
  /-- DEST_MAC; 48 bits; 13 R299; reset none -/
  destMac : Nat := 0
deriving DecidableEq, Repr

/-- A completion entry but for its PHASE (R300). -/
structure Wc where
  /-- WR_ID; 64 bits; 13 R300; reset none -/
  wrId : Nat
  /-- OP; 8 bits; 13 R300; reset none -/
  op : Nat
  /-- STATUS; 8 bits; 13 R300; reset none -/
  st : WcSts
  /-- QUEUE; 16 bits; 13 R300; reset none -/
  queue : Nat
  /-- KIND; 1 bit; 13 R300; reset none -/
  eth : Bool
  /-- BYTES; 32 bits; 13 R300; reset none -/
  bytes : Nat := 0
  /-- IMM; 32 bits; 13 R300; reset none -/
  imm : Nat := 0
  /-- CSUM_OK; 1 bit; 13 R300; reset none -/
  csumOk : Bool := false
  /-- ECN_CE; 1 bit; 13 R300; reset none -/
  ce : Bool := false
  /-- HASH; 32 bits; 13 R300; reset none -/
  hash : Nat := 0
  /-- VLAN_TCI; 16 bits; 13 R300; reset none -/
  vlan : Nat := 0
deriving DecidableEq, Repr

/-- A frame or packet that the port has put on the wire (R292, R297): kind 0 Ethernet, 1 RoCE request, 2 RoCE response. -/
structure WireOut where
  /-- MAC; 3 bits; 13 R290; reset none -/
  mac : Nat
  /-- kind; 2 bits; 13 R292; reset none -/
  kind : Nat
  /-- queue or QPN; 16 bits; 13 R297; reset none -/
  queue : Nat
  /-- OP or response kind; 8 bits; 13 R297; reset none -/
  op : Nat
  /-- PSN; 24 bits; 13 R299; reset none -/
  psn : Nat
  /-- bytes; list; 13 R297; reset none -/
  bytes : List Byte
  /-- inserted VLAN TCI; 16 bits; 13 R297; reset none -/
  vlan : Option Nat
  /-- descriptor of a RoCE request: RVA, R_KEY, LENGTH, IMM and operands; 512 bits; 13 R297; reset none -/
  desc : Line := 0
  /-- headers; record; 13 R299; reset none -/
  hdr : WireHdr := {}
deriving DecidableEq, Repr

/-- A write through the home that a port engine owes: a completion entry with its MSI, or a STATE field (R298, R299). -/
structure PortOwed where
  /-- physical address; 52 bits; 13 R299; reset none -/
  pa : Nat
  /-- bytes; 6 bits; 13 R300; reset none -/
  n : Nat
  /-- value; 256 bits; 13 R300; reset none -/
  v : BitVec 256
  /-- MSI_ADDR and MSI_EIID sent after the write; 64 and 11 bits; 13 R299; reset none -/
  msi : Option (Nat × Nat) := none
deriving DecidableEq, Repr

/-- A port engine (R290 to R303). -/
structure Port where
  /-- ENABLE; 1 bit; 13 R294; reset 0 -/
  enable : Bool := false
  /-- RESETTING; 1 bit; 13 R294; reset 0 -/
  resetting : Bool := false
  /-- LINK_UP; 8 bits; 13 R294; reset 0 -/
  linkUp : BitVec 8 := 0
  /-- QP_TABLE; 52 bits; 13 R294; reset 0 -/
  qpTable : Nat := 0
  /-- CQ_TABLE; 52 bits; 13 R294; reset 0 -/
  cqTable : Nat := 0
  /-- MR_TABLE; 52 bits; 13 R294; reset 0 -/
  mrTable : Nat := 0
  /-- MR_LOG2; 5 bits; 13 R294; reset 0 -/
  mrLog2 : Nat := 0
  /-- ETH_TABLE; 52 bits; 13 R294; reset 0 -/
  ethTable : Nat := 0
  /-- POST_TABLE; 52 bits; 13 R294; reset 0 -/
  postTable : Nat := 0
  /-- mode in force; 2 bits; 13 R290, R291; reset 0 -/
  mode : Nat := 0
  /-- queue pairs 0 to 16,383 as the engine holds them; records; 13 R292; reset none -/
  qps : Tab PortQueue := []
  /-- Ethernet queues 0 to 255 as the engine holds them; records; 13 R292; reset none -/
  eths : Tab PortQueue := []
  /-- completion queues 0 to 4,095 as the engine holds them; records; 13 R292; reset none -/
  cqs : Tab Cq := []
  /-- post rings 0 to 63 as the engine holds them; records; 13 R292; reset none -/
  rings : Tab PostRing := []
  /-- engine's copies of MR entries; 256 bits each; 13 R294, R295; reset none -/
  mrs : Tab (BitVec 256) := []
  /-- frames and packets sent, oldest first; list; 13 R292; reset none -/
  wire : List WireOut := []
  /-- writes through the home that wait for their line, oldest first; list; 13 R298; reset none -/
  owed : List PortOwed := []
  /-- completion entries whose CQ table entry lies on a held channel: CQ and entry, oldest first; list; 05 R205, 13 R300; reset none -/
  wcWait : List (Nat × Wc) := []
  /-- post rings whose table entry or header lies on a held channel, to be read when the hold ends; list; 13 R294, R296; reset none -/
  ringsDue : List Nat := []
  /-- priorities of each MAC that its peer has paused; 8 × 8 bits; 13 R292; reset none -/
  paused : Tab (BitVec 8) := []
  /-- FecUncorrectable; 64 bits; 13 R303; reset 0 -/
  fecBad : Nat := 0
  /-- frames dropped for want of a buffer, a FAILED berth or an error; 64 bits; 13 R297, R303; reset 0 -/
  dropped : Nat := 0
  /-- port resets made; 64 bits; 13 R302; reset 0 -/
  resets : Nat := 0
deriving DecidableEq, Repr

/-- A lamp cartridge bay (R304 to R308). -/
structure Cart where
  /-- CartridgeState; 3 bits; 13 R306; reset EMPTY -/
  st : CartSt := .empty
  /-- VERIFIED; 1 bit; 13 R305; reset false -/
  verified : Bool := false
  /-- powered hours; 32 bits; 13 R307; reset 0 -/
  hours : Nat := 0
  /-- hours with any output sole; 32 bits; 13 R307; reset 0 -/
  soleHours : Nat := 0
  /-- case temperature in m°C; 32 bits; 13 R307; reset 0 -/
  caseMilliC : Int := 0
  /-- bias drift of each output in 0.1 %; 8 × 16 bits; 13 R307; reset none -/
  drift : List Nat := []
  /-- OutputFaults; 8 bits; 13 R306; reset none -/
  outFaults : List Nat := []
  /-- PrepareSwap has put it to STANDBY; 1 bit; 13 R307; reset false -/
  swap : Bool := false
  /-- its check ended UNVERIFIED, so that its telemetry is flagged untrusted; 1 bit; 13 R305; reset false -/
  untrusted : Bool := false
  /-- telemetry is stale; 1 bit; 13 R307; reset false -/
  stale : Bool := false
  /-- CARTRIDGE_WEAR was raised; 1 bit; 13 R307; reset false -/
  wear : Bool := false
  /-- CARTRIDGE_REPLACE was raised and holds MOD_ALERT_N; 1 bit; 13 R307; reset false -/
  replace : Bool := false
deriving DecidableEq, Repr

end Sys2Proof.Machine
end

