-- ==== Sys2Proof/Machine/State.lean ====
section
/-! DEFINITION. The state of the block: everything the manual gives the GSV-7480, as plain data, and the queue of
waiting commands. A sparse table lists the units that differ from their reset record. -/

namespace Sys2Proof.Machine

/-- Reasons a step could stop with a fault. No meaning of this model raises one: every command has an effect, no effect,
or a refusal status of its own (log entry 4). -/
inductive Fault where
  /-- raised by no command; kept so that the type has a value; safe -/
  | none
deriving DecidableEq, Repr

/-- Reasons a step could be refused. -/
inductive Refusal where
  /-- a command without a meaning in this model, by its mnemonic; raised by no command once all are modelled; safe -/
  | notModelled (mnemonic : String)
deriving DecidableEq, Repr

/-- The hardware of the block: all of the state but the queue of waiting commands. -/
structure Block where
  /-- memory of both tiers: key of tier, domain, frame and offset, and byte; sorted list; 08 R184, R190; reset empty, every byte reads 0 (15 R336) -/
  mem : List Host.Cell := []
  /-- poisoned memory lines by key; sorted list; 08 R185, 18 R394; reset none -/
  memPoison : List Nat := []
  /-- backing map by berth number (physical address / 64 KiB); records; 08 R190; reset VACANT -/
  berths : Tab Berth := []
  /-- placement domains 0 to 7; records; 08 R210; reset as Domain -/
  domains : Tab Domain := []
  /-- memory channels: stack × 16 + channel, 256 + bulk channel; records; 08 R210; reset as Channel -/
  channels : Tab Channel := []
  /-- lines by line number (physical address / 64); records; 11 R254; reset UNTRACKED -/
  lines : Tab LineSt := []
  /-- cache and directory sets: cache number × 65,536 + set; records; 11 R252, R253; reset invalid -/
  psets : Tab PSet := []
  /-- base tiles 0 to 8; records; 11 R270; reset as Tile -/
  tiles : Tab Tile := []
  /-- chart units by lantern; records; 09 R211; reset as Chart -/
  charts : Tab Chart := []
  /-- withdrawals, oldest first, at most 16; list; 09 R228; reset none -/
  withdrawals : List Withdrawal := []
  /-- next withdrawal sequence number; 64 bits; 09 R228; reset 1 (DESIGN CHOICE) -/
  nextWithdrawal : Nat := 1
  /-- contexts 0 to 255; records; 04 R98; reset FREE -/
  contexts : Tab Context := []
  /-- registered queues 0 to 1,023; records; 04 R104; reset none -/
  queues : Tab Queue := []
  /-- requests taken and not closed, by queue × 2^32 + record; records; 04 R110; reset none -/
  requests : Tab Request := []
  /-- lanterns 0 to 63; records; 02, 20; reset as Lantern -/
  lanterns : Tab Lantern := []
  /-- hardware contexts by lantern × 4 + number; records; 04 R101; reset free -/
  hws : Tab Hw := []
  /-- logical beams by lantern × 16 + beam; records; 02 R42; reset as Beam -/
  beams : Tab Beam := []
  /-- accumulator sets by lantern × 32 + set; records; 02 R52; reset FREE -/
  sets : Tab AccSet := []
  /-- transfers whose completion has yet to be seen, oldest first; list; 05 R122; reset none -/
  xfers : List Xfer := []
  /-- next number of a transfer or operation; 64 bits; 05 R122; reset 0 -/
  nextId : Nat := 0
  /-- light groups 0 to 15; records; 06 R146; reset FREE -/
  groups : Tab Group := []
  /-- sinker dies by stack 0 to 15; records; 07 R165; reset as Sinker -/
  sinkers : Tab Sinker := []
  /-- bearing checks that run; list; 19 R420; reset none -/
  checks : List Check := []
  /-- keeper harts 0 to 127; records; 12 R271; reset as Hart -/
  harts : Tab Hart := []
  /-- keeper clusters 0 to 7; records; 12 R271; reset as Cluster -/
  clusters : Tab Cluster := []
  /-- pending identities of each interrupt file, by (address − 0x4_0000_0000_0000) / 0x1000; 2,047 bits each; 12 R284; reset none -/
  imsic : Tab (List Nat) := []
  /-- APLIC, machine domain and supervisor domain; records; 12 R285; reset as Aplic -/
  aplicM : Aplic := {}
  aplicS : Aplic := {}
  /-- port engines 0 and 1; records; 13 R294; reset as Port -/
  ports : Tab Port := []
  /-- lamp cartridges 0 to 3; records; 13 R306; reset EMPTY -/
  carts : Tab Cart := []
  /-- chain links 0 to 11; records; 01 R34; reset as Link -/
  links : Tab Link := []
  /-- sensors by number; records; 14 R320; reset as Sensor -/
  sensors : Tab Sensor := []
  /-- tray connections; record; 14; reset as Tray -/
  tray : Tray := {}
  /-- start and readiness; record; 15; reset as Start -/
  start : Start := {}
  /-- events; record; 16 R370; reset as Events -/
  events : Events := {}
  /-- error banks; record; 18 R410; reset as Errors -/
  errors : Errors := {}
  /-- light-list commands; record; 16 R362; reset as Commands -/
  cmds : Commands := {}
  /-- sessions 0 to 7 and mailbox sessions 8 to 11; records; 16 R356; reset none -/
  sessions : Tab Session := []
  /-- keeper mailboxes 0 to 3; records; 16 R363; reset as Mailbox -/
  mailboxes : Tab Mailbox := []
  /-- configuration store; record; 16 R364; reset as Store -/
  store : Store := {}
  /-- power and supply; record; 17; reset as Power -/
  power : Power := {}
  /-- silent errors and service state; record; 19; reset as Silent -/
  silent : Silent := {}
  /-- firmware classes 0 to 5; records; 20 R430; reset as Firmware -/
  firmware : Tab Firmware := []
  /-- security; record; 21; reset as Security -/
  security : Security := {}
  /-- guest sites 0 and 1; records; 21 R455; reset EMPTY -/
  guests : Tab Guest := []
  /-- frames picked so far: the argument of the free value Config.framePick; the model's own counter, no rule of the manual; reset 0 (DESIGN CHOICE) -/
  picks : Nat := 0
deriving DecidableEq, Repr

/-- The state: the commands that wait, oldest first, and the hardware. -/
structure State where
  /-- commands waiting, first in, first out; list; the model's queue of senders; reset empty -/
  pending : List Instr := []
  /-- the hardware; record; 01 to 21; reset as Block -/
  blk : Block := {}
deriving DecidableEq, Repr

/-- Right after the standby rail rises (R312, R327): DARK, nothing started, every unit at its reset record. -/
def State.reset : State := { pending := [], blk := {} }

/-- The state after a command whose effect on the hardware is `f`. -/
def State.run (s : State) (f : Block → Block) : Host.Outcome State Fault Refusal :=
  .next { s with blk := f s.blk }

end Sys2Proof.Machine
end

