-- ==== Sys2Proof/Machine/Ops.lean ====
section
/-! DEFINITION. Named operations that every chapter uses: sparse tables, bit fields, memory cells, events (16 R370 to
R372), error banks (18 R410), alert causes (16 R352), replies to light-list commands (16 R350, R362), interrupts
(12 R284, R285). -/

namespace Sys2Proof.Machine

/-! ### Sparse tables -/

/-- The entry of key `k`, or the reset record `d`. -/
def tget {α : Type} (d : α) : Tab α → Nat → α
  | [], _ => d
  | (j, v) :: t, k => if j = k then v else tget d t k

/-- Sorted insertion that replaces an entry of the same key. -/
def tput {α : Type} : Tab α → Nat → α → Tab α
  | [], k, v => [(k, v)]
  | (j, w) :: t, k, v => if k < j then (k, v) :: (j, w) :: t else if j = k then (k, v) :: t else (j, w) :: tput t k v

/-- Removes a key. -/
def tdel {α : Type} : Tab α → Nat → Tab α
  | [], _ => []
  | (j, w) :: t, k => if j = k then t else (j, w) :: tdel t k

/-- Whether a key is listed. -/
def thas {α : Type} : Tab α → Nat → Bool
  | [], _ => false
  | (j, _) :: t, k => if j = k then true else thas t k

/-- The listed entry of a key. -/
def tfind {α : Type} : Tab α → Nat → Option α
  | [], _ => none
  | (j, v) :: t, k => if j = k then some v else tfind t k

/-- Adds `n` to a count. -/
def tinc (t : Tab Nat) (k n : Nat) : Tab Nat := tput t k (tget 0 t k + n)

/-- Sorted insertion into a list without repeats. -/
def sput : List Nat → Nat → List Nat
  | [], k => [k]
  | j :: t, k => if k < j then k :: j :: t else if j = k then j :: t else j :: sput t k

/-- Adds an element at the end unless it is there. -/
def addLast (t : List Nat) (k : Nat) : List Nat := if t.contains k then t else t ++ [k]

/-! ### Accessors of the units -/

def Block.berth (b : Block) (k : Nat) : Berth := tget {} b.berths k
def Block.setBerth (b : Block) (k : Nat) (v : Berth) : Block := { b with berths := tput b.berths k v }
def Block.updBerth (b : Block) (k : Nat) (f : Berth → Berth) : Block := b.setBerth k (f (b.berth k))
def Block.domain (b : Block) (k : Nat) : Domain := tget {} b.domains k
def Block.setDomain (b : Block) (k : Nat) (v : Domain) : Block := { b with domains := tput b.domains k v }
def Block.updDomain (b : Block) (k : Nat) (f : Domain → Domain) : Block := b.setDomain k (f (b.domain k))
def Block.channel (b : Block) (k : Nat) : Channel := tget {} b.channels k
def Block.setChannel (b : Block) (k : Nat) (v : Channel) : Block := { b with channels := tput b.channels k v }
def Block.updChannel (b : Block) (k : Nat) (f : Channel → Channel) : Block := b.setChannel k (f (b.channel k))
def Block.line (b : Block) (k : Nat) : LineSt := tget {} b.lines k
def Block.setLine (b : Block) (k : Nat) (v : LineSt) : Block := { b with lines := tput b.lines k v }
def Block.updLine (b : Block) (k : Nat) (f : LineSt → LineSt) : Block := b.setLine k (f (b.line k))
def Block.pset (b : Block) (k : Nat) : PSet := tget {} b.psets k
def Block.setPset (b : Block) (k : Nat) (v : PSet) : Block := { b with psets := tput b.psets k v }
def Block.updPset (b : Block) (k : Nat) (f : PSet → PSet) : Block := b.setPset k (f (b.pset k))
def Block.tile (b : Block) (k : Nat) : Tile := tget {} b.tiles k
def Block.setTile (b : Block) (k : Nat) (v : Tile) : Block := { b with tiles := tput b.tiles k v }
def Block.updTile (b : Block) (k : Nat) (f : Tile → Tile) : Block := b.setTile k (f (b.tile k))
def Block.chart (b : Block) (k : Nat) : Chart := tget {} b.charts k
def Block.setChart (b : Block) (k : Nat) (v : Chart) : Block := { b with charts := tput b.charts k v }
def Block.updChart (b : Block) (k : Nat) (f : Chart → Chart) : Block := b.setChart k (f (b.chart k))
def Block.ctx (b : Block) (k : Nat) : Context := tget {} b.contexts k
def Block.setCtx (b : Block) (k : Nat) (v : Context) : Block := { b with contexts := tput b.contexts k v }
def Block.updCtx (b : Block) (k : Nat) (f : Context → Context) : Block := b.setCtx k (f (b.ctx k))
def Block.queue (b : Block) (k : Nat) : Queue := tget {} b.queues k
def Block.setQueue (b : Block) (k : Nat) (v : Queue) : Block := { b with queues := tput b.queues k v }
def Block.updQueue (b : Block) (k : Nat) (f : Queue → Queue) : Block := b.setQueue k (f (b.queue k))
def Block.request (b : Block) (k : Nat) : Request := tget {} b.requests k
def Block.setRequest (b : Block) (k : Nat) (v : Request) : Block := { b with requests := tput b.requests k v }
def Block.updRequest (b : Block) (k : Nat) (f : Request → Request) : Block := b.setRequest k (f (b.request k))
def Block.lantern (b : Block) (k : Nat) : Lantern := tget {} b.lanterns k
def Block.setLantern (b : Block) (k : Nat) (v : Lantern) : Block := { b with lanterns := tput b.lanterns k v }
def Block.updLantern (b : Block) (k : Nat) (f : Lantern → Lantern) : Block := b.setLantern k (f (b.lantern k))
def Block.hw (b : Block) (k : Nat) : Hw := tget {} b.hws k
def Block.setHw (b : Block) (k : Nat) (v : Hw) : Block := { b with hws := tput b.hws k v }
def Block.updHw (b : Block) (k : Nat) (f : Hw → Hw) : Block := b.setHw k (f (b.hw k))
def Block.beam (b : Block) (k : Nat) : Beam := tget {} b.beams k
def Block.setBeam (b : Block) (k : Nat) (v : Beam) : Block := { b with beams := tput b.beams k v }
def Block.updBeam (b : Block) (k : Nat) (f : Beam → Beam) : Block := b.setBeam k (f (b.beam k))
def Block.accSet (b : Block) (k : Nat) : AccSet := tget {} b.sets k
def Block.setAccSet (b : Block) (k : Nat) (v : AccSet) : Block := { b with sets := tput b.sets k v }
def Block.updAccSet (b : Block) (k : Nat) (f : AccSet → AccSet) : Block := b.setAccSet k (f (b.accSet k))
def Block.group (b : Block) (k : Nat) : Group := tget {} b.groups k
def Block.setGroup (b : Block) (k : Nat) (v : Group) : Block := { b with groups := tput b.groups k v }
def Block.updGroup (b : Block) (k : Nat) (f : Group → Group) : Block := b.setGroup k (f (b.group k))
def Block.sinker (b : Block) (k : Nat) : Sinker := tget {} b.sinkers k
def Block.setSinker (b : Block) (k : Nat) (v : Sinker) : Block := { b with sinkers := tput b.sinkers k v }
def Block.updSinker (b : Block) (k : Nat) (f : Sinker → Sinker) : Block := b.setSinker k (f (b.sinker k))
def Block.hart (b : Block) (k : Nat) : Hart := tget {} b.harts k
def Block.setHart (b : Block) (k : Nat) (v : Hart) : Block := { b with harts := tput b.harts k v }
def Block.updHart (b : Block) (k : Nat) (f : Hart → Hart) : Block := b.setHart k (f (b.hart k))
def Block.cluster (b : Block) (k : Nat) : Cluster := tget {} b.clusters k
def Block.setCluster (b : Block) (k : Nat) (v : Cluster) : Block := { b with clusters := tput b.clusters k v }
def Block.updCluster (b : Block) (k : Nat) (f : Cluster → Cluster) : Block := b.setCluster k (f (b.cluster k))
def Block.port (b : Block) (k : Nat) : Port := tget {} b.ports k
def Block.setPort (b : Block) (k : Nat) (v : Port) : Block := { b with ports := tput b.ports k v }
def Block.updPort (b : Block) (k : Nat) (f : Port → Port) : Block := b.setPort k (f (b.port k))
def Block.cart (b : Block) (k : Nat) : Cart := tget {} b.carts k
def Block.setCart (b : Block) (k : Nat) (v : Cart) : Block := { b with carts := tput b.carts k v }
def Block.updCart (b : Block) (k : Nat) (f : Cart → Cart) : Block := b.setCart k (f (b.cart k))
def Block.link (b : Block) (k : Nat) : Link := tget {} b.links k
def Block.setLink (b : Block) (k : Nat) (v : Link) : Block := { b with links := tput b.links k v }
def Block.updLink (b : Block) (k : Nat) (f : Link → Link) : Block := b.setLink k (f (b.link k))
/-- A sensor before its first sample: the input sensors at the nominal 54 V, the others at 0 (log entry 12). -/
def sensorReset (k : Nat) : Sensor := { value := if k < 2 then 54000 else 0 }
def Block.sensor (b : Block) (k : Nat) : Sensor := tget (sensorReset k) b.sensors k
def Block.setSensor (b : Block) (k : Nat) (v : Sensor) : Block := { b with sensors := tput b.sensors k v }
def Block.updSensor (b : Block) (k : Nat) (f : Sensor → Sensor) : Block := b.setSensor k (f (b.sensor k))
def Block.mailbox (b : Block) (k : Nat) : Mailbox := tget {} b.mailboxes k
def Block.setMailbox (b : Block) (k : Nat) (v : Mailbox) : Block := { b with mailboxes := tput b.mailboxes k v }
def Block.updMailbox (b : Block) (k : Nat) (f : Mailbox → Mailbox) : Block := b.setMailbox k (f (b.mailbox k))
def Block.fw (b : Block) (k : Nat) : Firmware := tget {} b.firmware k
def Block.setFw (b : Block) (k : Nat) (v : Firmware) : Block := { b with firmware := tput b.firmware k v }
def Block.updFw (b : Block) (k : Nat) (f : Firmware → Firmware) : Block := b.setFw k (f (b.fw k))
def Block.guest (b : Block) (k : Nat) : Guest := tget {} b.guests k
def Block.setGuest (b : Block) (k : Nat) (v : Guest) : Block := { b with guests := tput b.guests k v }
def Block.updGuest (b : Block) (k : Nat) (f : Guest → Guest) : Block := b.setGuest k (f (b.guest k))

/-- Whether a unit drains for a firmware switch: a switch that was skipped waits to be tried again (R433). -/
def Firmware.draining (f : Firmware) (u : Nat) : Bool := f.switching.any (fun e => e.1 == u) && !f.paused.contains u

/-! ### Bit fields and bytes -/

/-- The field of `len` bits from bit `lo` of a word, as a number. -/
def fld {n : Nat} (w : BitVec n) (lo len : Nat) : Nat := (w.toNat >>> lo) % 2 ^ len
/-- One bit of a word. -/
def bit {n : Nat} (w : BitVec n) (i : Nat) : Bool := w.getLsbD i
/-- Sets the field of `len` bits from bit `lo`. -/
def setFld {n : Nat} (w : BitVec n) (lo len v : Nat) : BitVec n :=
  let m := BitVec.ofNat n ((2 ^ len - 1) <<< lo)
  (w &&& ~~~m) ||| (BitVec.ofNat n ((v % 2 ^ len) <<< lo))
/-- Sign extension of a field of `len` bits. -/
def sfld {n : Nat} (w : BitVec n) (lo len : Nat) : Int :=
  let v := fld w lo len
  if v < 2 ^ (len - 1) then (v : Int) else (v : Int) - (2 ^ len : Nat)
/-- The number of set bits among the lowest `k`. -/
def popBelow {n : Nat} (w : BitVec n) : Nat → Nat
  | 0 => 0
  | k + 1 => popBelow w k + (if w.getLsbD k then 1 else 0)
/-- The numbers of the set bits among the lowest `k`, ascending. -/
def setBits {n : Nat} (w : BitVec n) (k : Nat) : List Nat := (List.range k).filter (fun i => w.getLsbD i)
/-- Little-endian bytes of a number (R13). -/
def leBytes : Nat → Nat → List Byte
  | 0, _ => []
  | n + 1, v => BitVec.ofNat 8 v :: leBytes n (v / 256)
/-- The number that little-endian bytes spell (R13). -/
def leNat : List Byte → Nat
  | [] => 0
  | x :: t => x.toNat + 256 * leNat t
/-- The line whose first bytes are `bs`. -/
def lineOf (bs : List Byte) : Line := BitVec.ofNat 512 (leNat (bs.take 64))
/-- Byte i of a line (R13). -/
def lineByte (l : Line) (i : Nat) : Byte := l.extractLsb' (8 * i) 8
/-- Bytes off to off + n − 1 of a line. -/
def lineBytes (l : Line) (off n : Nat) : List Byte := leBytes n (l.toNat >>> (8 * off))
/-- Replaces n bytes at off by the low bytes of v. -/
def linePut (l : Line) (off n : Nat) (v : Nat) : Line := setFld l (8 * off) (8 * n) v
/-- Bit mask of 512 bits for a byte mask of 64. -/
def wideMask (m : W64) : Line :=
  BitVec.ofNat 512 (leNat ((List.range 64).map (fun i => if m.getLsbD i then 0xFF#8 else 0#8)))
/-- `new` where the byte mask is set, `old` elsewhere (R256). -/
def mergeMask (old new : Line) (m : W64) : Line := (old &&& ~~~(wideMask m)) ||| (new &&& wideMask m)
/-- The byte mask of n bytes from off. -/
def byteMask (off n : Nat) : W64 := BitVec.ofNat 64 (((2 ^ n - 1) <<< off) % 2 ^ 64)
/-- Sign extension of the low `bytes` bytes to 64 bits. -/
def sext (bytes v : Nat) : W64 :=
  let w := v % 2 ^ (8 * bytes)
  if w < 2 ^ (8 * bytes - 1) then BitVec.ofNat 64 w else BitVec.ofNat 64 (2 ^ 64 - 2 ^ (8 * bytes) + w)
/-- Rounded-up quotient. -/
def ceilDiv (a d : Nat) : Nat := (a + d - 1) / d

/-! ### Byte lists in canonical form: sorted by address, no entry equal to what an unlisted address reads as -/

/-- The byte at a key; an unlisted key reads 0 (R192, R336). -/
def cellGet : List Host.Cell → Nat → Byte
  | [], _ => 0
  | (j, v) :: t, k => if j = k then v else cellGet t k

/-- Removes a key from sorted cells. -/
def cellDel : List Host.Cell → Nat → List Host.Cell
  | [], _ => []
  | (j, w) :: t, k => if j = k then t else if k < j then (j, w) :: t else (j, w) :: cellDel t k

/-- Inserts a nonzero byte into sorted cells. -/
def cellIns : List Host.Cell → Nat → Byte → List Host.Cell
  | [], k, v => [(k, v)]
  | (j, w) :: t, k, v => if k < j then (k, v) :: (j, w) :: t else if j = k then (k, v) :: t else (j, w) :: cellIns t k v

/-- Writes a byte; writing 0 removes the entry. -/
def cellPut (m : List Host.Cell) (k : Nat) (v : Byte) : List Host.Cell :=
  if v = 0 then cellDel m k else cellIns m k v

/-- Writes bytes at ascending keys. -/
def cellPuts : List Host.Cell → Nat → List Byte → List Host.Cell
  | m, _, [] => m
  | m, k, v :: t => cellPuts (cellPut m k v) (k + 1) t

/-- Reads n bytes from ascending keys. -/
def cellGets (m : List Host.Cell) (k n : Nat) : List Byte := (List.range n).map (fun i => cellGet m (k + i))

/-- The canonical form: keys strictly rise and no entry is 0. -/
abbrev Memory.wf (m : List Host.Cell) : Prop :=
  m.Pairwise (fun a c => a.1 < c.1) ∧ ∀ c ∈ m, c.2 ≠ 0

/-! ### Events, error banks and alert causes -/

/-- Object number with item 0 of a unit (R345, R370). -/
def unitNo (area unit : Nat) : Nat := area * 2 ^ 24 + unit * 2 ^ 12
/-- The module and the hub as a reporting unit (area 02). -/
def unitModule : Nat := unitNo 0x02 0

/-- Counts an instance of an event in the current second; the count after it (R372). -/
def secondCount : List (Nat × Ev × Nat) → Nat → Ev → List (Nat × Ev × Nat) × Nat
  | [], u, e => ([(u, e, 1)], 1)
  | (u', e', n) :: t, u, e =>
    if u' = u ∧ e' = e then ((u', e', n + 1) :: t, n + 1)
    else ((u', e', n) :: (secondCount t u e).1, (secondCount t u e).2)

/-- Raises an event: a record waits for the log, unless the unit has raised the name 16 times in this second (R370,
R372). -/
def Block.raiseRec (b : Block) (u : Nat) (e : Ev) (args : List Nat) (clears : Bool) : Block :=
  let sc := secondCount b.events.second u e
  if sc.2 > 16 then
    { b with events := { b.events with second := sc.1, suppressed := b.events.suppressed + 1 } }
  else
    let n := tget 0 b.events.locals u + 1
    let r : EvRec := { unit := u, loc := n, ev := e, sev := Config.severity e, clears := clears,
                       start := b.start.count % 2 ^ 32, args := args }
    { b with events := { b.events with second := sc.1, locals := tput b.events.locals u n,
                                       pend := b.events.pend ++ [r] } }

/-- Raises an event of a unit with its arguments. -/
def Block.raise (b : Block) (u : Nat) (e : Ev) (args : List Nat := []) : Block := b.raiseRec u e args false

/-- Restarts LOCAL of a unit with its counting domain (R370). -/
def Block.restartLocal (b : Block) (u : Nat) : Block :=
  { b with events := { b.events with locals := tdel b.events.locals u } }

/-- Whether an alert cause stands (R319, R352). -/
def Block.alert (b : Block) (i : Nat) : Bool := b.tray.alerts.getLsbD i
/-- Sets an alert cause. -/
def Block.setAlert (b : Block) (i : Nat) : Block :=
  { b with tray := { b.tray with alerts := b.tray.alerts ||| BitVec.ofNat 32 (2 ^ i) } }
/-- Clears an alert cause. -/
def Block.clearAlert (b : Block) (i : Nat) : Block :=
  { b with tray := { b.tray with alerts := b.tray.alerts &&& ~~~(BitVec.ofNat 32 (2 ^ i)) } }
/-- MOD_ALERT_N is low while any alert cause stands (R319). -/
def Block.modAlertN (b : Block) : Bool := b.tray.alerts == 0
/-- MOD_READY is high exactly while the readiness level is LIT (R319). -/
def Block.modReady (b : Block) : Bool := b.start.level == .lit

/-- Merges a repeat into an error record of the same SOURCE, CLASS and ADDRESS (R410). -/
def mergeErr : List ErrRec → ErrRec → Option (List ErrRec)
  | [], _ => none
  | x :: t, r =>
    if x.source = r.source ∧ x.cls = r.cls ∧ x.address = r.address then
      some ({ x with count := min 0xFFFF (x.count + 1) } :: t)
    else (mergeErr t r).map (x :: ·)

/-- Removes the oldest CORRECTED record (R410). -/
def dropCorrected : List ErrRec → Option (List ErrRec)
  | [] => none
  | x :: t => if x.cls = 0 then some t else (dropCorrected t).map (x :: ·)

/-- Records an error in a unit's bank and raises its event, or merges a repeat (R410). -/
def Block.record (b : Block) (u : Nat) (e : Ev) (args : List Nat) (r : ErrRec) : Block :=
  let bank := tget [] b.errors.banks u
  match mergeErr bank r with
  | some bank' => { b with errors := { b.errors with banks := tput b.errors.banks u bank' } }
  | none =>
    let b1 := b.raise u e args
    let r1 : ErrRec := { r with loc := if b.events.pend.length < b1.events.pend.length then tget 0 b1.events.locals u else 0 }
    if bank.length < 32 then { b1 with errors := { b1.errors with banks := tput b1.errors.banks u (bank ++ [r1]) } }
    else
      match dropCorrected bank with
      | some bank' => { b1 with errors := { b1.errors with banks := tput b1.errors.banks u (bank' ++ [r1]) } }
      | none =>
        ({ b1 with errors := { b1.errors with overflows := b1.errors.overflows + 1 } }).raise u .errorBankOverflow [u]

/-- An error record with the fields that are not zero. -/
def errRec (cls source address : Nat) (ctx : Nat := 0xFF) (status : Nat := 0) (detail : Nat := 0) : ErrRec :=
  { seq := 0, cls := cls, source := source, count := 0, address := address, syndrome := 0, ctx := ctx,
    status := status, detail := detail }

/-! ### Configuration values -/

/-- The value in force of an RWP or RW object as a number; its default where nothing was written (R347, R365). -/
def Block.cfg (b : Block) (obj dflt : Nat) : Nat :=
  match tfind b.store.inForce obj with
  | some bs => leNat bs
  | none => dflt

/-! ### Light-list commands -/

/-- The rank of a role (R348). -/
def roleRank : Role → Nat
  | .observer => 0 | .operator => 1 | .service => 2 | .vendor => 3

/-- The readiness level as its code (R327). -/
def readyCode : Ready → Nat
  | .dark => 0 | .tended => 1 | .charted => 2 | .lit => 3

/-- Sets the reply of a command that was refused (R361). -/
def Block.refuse (b : Block) (st : Sts) : Block := { b with cmds := { b.cmds with reply := { status := st } } }

/-- A command that is done: numbered, recorded at its object, answered OK with its return value (R362). -/
def Block.done (b : Block) (obj ret : Nat) : Block :=
  let n := b.cmds.count + 1
  { b with cmds := { b.cmds with count := n, recs := tput b.cmds.recs obj { command := n, ret := ret },
                                 reply := { status := .ok, command := n, ret := ret } } }

/-- A longer command: numbered, RUNNING at its object, answered ACCEPTED (R362). -/
def Block.accept (b : Block) (obj : Nat) : Block :=
  let n := b.cmds.count + 1
  { b with cmds := { b.cmds with count := n, recs := tput b.cmds.recs obj { command := n, running := true },
                                 reply := { status := .accepted, command := n } } }

/-- The completion of a longer command: its record, and COMMAND_DONE with number, result and return value (R362). -/
def Block.finish (b : Block) (obj num : Nat) (res : Sts) (resCode ret : Nat) : Block :=
  let r := tget {} b.cmds.recs obj
  let b1 := if r.command = num then
      { b with cmds := { b.cmds with recs := tput b.cmds.recs obj { r with running := false, result := res, ret := ret } } }
    else b
  b1.raise (obj / 2 ^ 12 * 2 ^ 12) .commandDone [num, resCode, ret]

/-- Codes of the statuses (R361). -/
def stsCode : Sts → Nat
  | .ok => 0x00 | .accepted => 0x01 | .notFound => 0x02 | .denied => 0x03 | .notWritable => 0x04 | .badType => 0x05
  | .outOfRange => 0x06 | .busy => 0x07 | .notFitted => 0x08 | .notNow => 0x09 | .badState => 0x0A
  | .badSignature => 0x0B | .persistFailed => 0x0C | .tooLarge => 0x0D | .levelReject => 0x10 | .rsvNonzero => 0x11
  | .noSlot => 0x12 | .badQueue => 0x13 | .badRegion => 0x14 | .quota => 0x15 | .badStreamDesc => 0x16
  | .badMember => 0x17 | .badGroupDesc => 0x18 | .badTable => 0x19 | .noSpace => 0x1A | .pathDown => 0x1B
  | .badContext => 0x1C | .badRange => 0x1D

/-- Completion with the codes of R361. -/
def Block.finishSts (b : Block) (obj num : Nat) (res : Sts) (ret : Nat := 0) : Block :=
  b.finish obj num res (stsCode res) ret

/-- Steps 3 and 4 of the checks of a CMD: role, and whether the object answers (R350): the objects of areas 01, 02, 60,
70, 71 and 78 from TENDED, the others while the rails are on. -/
def Block.gate (b : Block) (role least : Role) (area : Nat) : Option Sts :=
  if roleRank role < roleRank least then some .denied
  else if b.start.level = .dark then some .notNow
  else if [0x01, 0x02, 0x60, 0x70, 0x71, 0x78].contains area then none
  else if b.tray.rails then none else some .notNow

/-- Runs a command body behind the gate. -/
def Block.cmd (b : Block) (role least : Role) (area : Nat) (f : Block → Block) : Block :=
  match b.gate role least area with
  | some st => b.refuse st
  | none => f b

/-! ### Interrupts -/

/-- Base and end of the keeper IMSIC region (R284). -/
def imsicBase : Nat := 0x4000000000000
def imsicEnd : Nat := 0x4000000500000

/-- Whether an address names an interrupt file: the machine-level file of hart h, or a supervisor or guest file (R284). -/
def isFile (pa : Nat) : Bool :=
  let o := pa - imsicBase
  decide (imsicBase ≤ pa ∧ pa < imsicEnd ∧ o % 0x1000 = 0 ∧ (o < 0x80000 ∨ 0x100000 ≤ o))

/-- The hart of an interrupt file (R284). -/
def fileHart (pa : Nat) : Nat :=
  let o := pa - imsicBase
  if o < 0x100000 then o / 0x1000 else (o - 0x100000) / 0x8000

/-- Whether an interrupt file can take an identity: its cluster is not in reset or lost (R288). -/
def Block.fileTakes (b : Block) (pa : Nat) : Bool :=
  isFile pa && (b.cluster (fileHart pa / 16)).st == .running

/-- Makes an identity pending in a file; a hart stalled in WRS wakes (R284, R287). -/
def Block.pend (b : Block) (pa id : Nat) : Block :=
  let k := (pa - imsicBase) / 0x1000
  let b1 := { b with imsic := tput b.imsic k (sput (tget [] b.imsic k) id) }
  b1.updHart (fileHart pa) (fun h => { h with wrs := .none })

/-- An interrupt write of a sender: pending, or discarded with the event of the sender (R243, R284, R288). Identities
run from 1 to 2,047; a write of another value makes nothing pending. -/
def Block.msi (b : Block) (pa id : Nat) (lostEv : Ev) (args : List Nat) : Block :=
  if b.fileTakes pa && decide (1 ≤ id ∧ id ≤ 2047) then b.pend pa id
  else b.raise unitModule lostEv args

/-- A domain of the APLIC: the supervisor domain, or the machine domain (R285). -/
def Block.aplic (b : Block) (sup : Bool) : Aplic := if sup then b.aplicS else b.aplicM
/-- Replaces a domain of the APLIC. -/
def Block.setAplic (b : Block) (sup : Bool) (x : Aplic) : Block := if sup then { b with aplicS := x } else { b with aplicM := x }
/-- Whether the machine domain delegates a source to the supervisor domain (D of its sourcecfg; log entry 49). -/
def Block.delegated (b : Block) (src : Nat) : Bool := (tget 0 b.aplicM.sourcecfg src).testBit 10
/-- Whether a source is active in a domain: implemented, in that domain, its SM not inactive (log entry 49). -/
def Block.srcActive (b : Block) (sup : Bool) (src : Nat) : Bool :=
  decide (1 ≤ src ∧ src ≤ 9) && b.delegated src == sup && tget 0 (b.aplic sup).sourcecfg src % 8 != 0
/-- The interrupt file that a target register names: a machine-level file, or a supervisor or guest file (R284, R285). -/
def aplicFile (sup : Bool) (t : Nat) : Nat :=
  let hart := fld (BitVec.ofNat 32 t) 18 14
  if sup then imsicBase + 0x100000 + hart * 0x8000 + fld (BitVec.ofNat 32 t) 12 6 * 0x1000 else imsicBase + hart * 0x1000
/-- The APLIC writes the identity of a target into its interrupt file (R285, R286). -/
def Block.aplicSend (b : Block) (sup : Bool) (t : Nat) : Block :=
  b.msi (aplicFile sup t) (t % 2 ^ 11) .deviceWriteLost [aplicFile sup t]
/-- A pending and enabled source of an enabled domain is sent as an MSI, which clears its pending bit (R285). -/
def Block.aplicDeliver (b : Block) (sup : Bool) (src : Nat) : Block :=
  let x := b.aplic sup
  if x.ie && x.pending.contains src && x.enabled.contains src then
    (b.setAplic sup { x with pending := x.pending.filter (· != src) }).aplicSend sup (tget 0 x.target src)
  else b
/-- An active source of a domain becomes pending, and is delivered where it can be. -/
def Block.aplicPend (b : Block) (sup : Bool) (src : Nat) : Block :=
  if b.srcActive sup src then
    (b.setAplic sup { b.aplic sup with pending := sput (b.aplic sup).pending src }).aplicDeliver sup src
  else b
/-- Raises a wired source of the APLIC, in the domain that it belongs to (R285). -/
def Block.wire (b : Block) (src : Nat) : Block := b.aplicPend (b.delegated src) src

/-- The causes that MODULE_SUSPECT names, numbered in the order of R424; 7 is DRAIN (DESIGN CHOICE, log entry 22). -/
def suspectCause : Ev → Nat
  | .bearingMismatch => 1 | .selftestFail => 2 | .beamChecksumFail => 3 | .arrayUncorrectable => 4 | .linkPartition => 5
  | .scanFail => 6 | _ => 7

/-- The module becomes suspect: the fault and its first cause are noted; from IN SERVICE it goes to DRAINING with
MODULE_SUSPECT naming the cause, bit 13 of AlertCauses and source 3 (R424, R425); a further one is noted for the condemnation record
(R428). Its SEQ is that of the event raised just before. -/
def Block.suspect (b : Block) (cause : Ev) (args : List Nat := []) : Block :=
  let b1 := { b with silent := { b.silent with
    fault := true, cause := b.silent.cause.or (some cause)
    faults := if b.silent.svc = .condemned then b.silent.faults
              else b.silent.faults ++ [(cause, b.events.next + b.events.pend.length - 1, args)] } }
  if b.silent.svc = .inService then
    ((({ b1 with silent := { b1.silent with svc := .draining } }).raise unitModule .moduleSuspect (suspectCause cause :: args)).setAlert 13).wire 3
  else b1

/-- A change of readiness level: the event and source 3 (chapter 15). -/
def Block.setLevel (b : Block) (l : Ready) : Block :=
  if b.start.level = l then b
  else (({ b with start := { b.start with level := l } }).raise unitModule .readinessChanged [readyCode l]).wire 3

end Sys2Proof.Machine
end

