-- ==== Sys2Proof/Machine/Flags.lean ====
section
/-! DEFINITION. The arithmetic of chapter 03: format codes (R67 to R70), FP32 operations (R76), trees (R77), panels (R78 to
R82), conversion and its census (R85, R86), stochastic rounding (R87), scales (R74, R75), the optimiser update (R90). -/

namespace Sys2Proof.Machine

/-! ### Values -/

/-- The value of an encoding: a NaN, an infinity, or (−1)^neg × m × 2^e; a zero keeps its sign (R67). -/
inductive Val where
  | nan
  | inf (neg : Bool)
  | fin (neg : Bool) (m : Nat) (e : Int)
deriving DecidableEq, Repr

/-- n × 2^e as a fraction of naturals. -/
def scale2 (n : Nat) (e : Int) : Nat × Nat := if 0 ≤ e then (n * 2 ^ e.toNat, 1) else (n, 2 ^ (-e).toNat)

/-- Bits of one element (R67, R68). -/
def fmtWidth (f : Nat) : Nat :=
  if f = 0 then 32 else if f = 1 ∨ f = 2 then 16 else if f = 5 ∨ f = 6 then 6 else if f = 7 ∨ f = 9 then 4 else 8
/-- Fraction bits (R67). -/
def fmtFrac (f : Nat) : Nat :=
  if f = 0 then 23 else if f = 1 then 7 else if f = 2 then 10 else if f = 3 ∨ f = 6 then 3 else if f = 4 ∨ f = 5 then 2 else 1
/-- Exponent bias (R67). -/
def fmtBias (f : Nat) : Nat :=
  if f = 0 ∨ f = 1 then 127 else if f = 2 ∨ f = 4 then 15 else if f = 3 then 7 else if f = 5 then 3 else 1
/-- Largest finite magnitude, as its bits (R67). -/
def fmtMax (f : Nat) : Nat :=
  if f = 0 then 0x7F7FFFFF else if f = 1 then 0x7F7F else if f = 2 then 0x7BFF else if f = 3 then 0x7E
  else if f = 4 then 0x7B else if f = 5 ∨ f = 6 then 0x1F else if f = 7 then 7 else if f = 8 then 127 else 7
/-- Whether the format has infinities (R67). -/
def fmtInf (f : Nat) : Bool := [0, 1, 2, 4].contains f
/-- Canonical NaN (R70). -/
def fmtNan (f : Nat) : Nat :=
  if f = 0 then 0x7FC00000 else if f = 1 then 0x7FC0 else if f = 2 then 0x7E00 else if f = 3 then 0x7F else 0x7E
/-- Integer formats. -/
def fmtInt (f : Nat) : Bool := f == 8 || f == 9

/-- The value of an element's bits (R67). -/
def decodeVal (f bits : Nat) : Val :=
  let w := fmtWidth f
  let x := bits % 2 ^ w
  if fmtInt f then
    if x < 2 ^ (w - 1) then .fin false x 0 else .fin true (2 ^ w - x) 0
  else
    let neg := decide (2 ^ (w - 1) ≤ x)
    let a := x % 2 ^ (w - 1)
    let mb := fmtFrac f
    let ex := a / 2 ^ mb
    let fr := a % 2 ^ mb
    if fmtInf f && decide (fmtMax f < a) then (if fr = 0 then .inf neg else .nan)
    else if f = 3 ∧ a = 0x7F then .nan
    else if ex = 0 then .fin neg fr (1 - (fmtBias f : Int) - mb)
    else .fin neg (2 ^ mb + fr) ((ex : Int) - fmtBias f - mb)

/-- The value of FP32 bits. -/
def val32 (x : W32) : Val := decodeVal 0 x.toNat

/-! ### Rounding -/

/-- How a value is rounded: to nearest even, toward +∞ in magnitude, or stochastically by a 24-bit number (R87). -/
inductive Rnd where
  | rne
  | up
  | sr (r : Nat)
deriving DecidableEq, Repr

/-- Rounds the fraction n/d to an integer. -/
def roundInt (rnd : Rnd) (n d : Nat) : Nat :=
  let q := n / d
  let r := n % d
  match rnd with
  | .rne => if 2 * r > d ∨ (2 * r = d ∧ q % 2 = 1) then q + 1 else q
  | .up => if r = 0 then q else q + 1
  | .sr t => if r * 2 ^ 24 / d > t then q + 1 else q

/-- The exponent of the leading bit of n/d, n and d positive. -/
def leadExp (n d : Nat) : Int :=
  let e : Int := (Nat.log2 n : Int) - Nat.log2 d
  let lo := if 0 ≤ e then decide (n < d * 2 ^ e.toNat) else decide (n * 2 ^ (-e).toNat < d)
  if lo then e - 1 else e

/-- Magnitude bits of n/d rounded into a floating-point format with its exponent unbounded above; subnormals honoured
(R69). -/
def roundMag (f : Nat) (rnd : Rnd) (n d : Nat) : Nat :=
  if n = 0 then 0
  else
    let mb := fmtFrac f
    let emin : Int := 1 - (fmtBias f : Int)
    let e := max (leadExp n d) emin
    let q := e - mb
    let r := if 0 ≤ q then roundInt rnd n (d * 2 ^ q.toNat) else roundInt rnd (n * 2 ^ (-q).toNat) d
    (e - emin).toNat * 2 ^ mb + r

/-- FP32 of a sign and an exact magnitude n/d, rounded to nearest even, overflowing to infinity (R76). -/
def round32Q (neg : Bool) (n d : Nat) : W32 :=
  let m := roundMag 0 .rne n d
  BitVec.ofNat 32 ((if neg then 2 ^ 31 else 0) + (if m > 0x7F7FFFFF then 0x7F800000 else m))

/-- FP32 of a sign and m × 2^e. -/
def round32 (neg : Bool) (m : Nat) (e : Int) : W32 := let s := scale2 m e; round32Q neg s.1 s.2

/-- Canonical NaN of FP32 (R70). -/
def nan32 : W32 := 0x7FC00000#32
/-- Infinity of FP32. -/
def inf32 (neg : Bool) : W32 := if neg then 0xFF800000#32 else 0x7F800000#32

/-- An exact real, m × 2^e. -/
structure Dy where
  m : Int := 0
  e : Int := 0
deriving DecidableEq, Repr

/-- Exact sum. -/
def Dy.add (x y : Dy) : Dy :=
  if x.m = 0 then y else if y.m = 0 then x
  else
    let e := min x.e y.e
    { m := x.m * 2 ^ (x.e - e).toNat + y.m * 2 ^ (y.e - e).toNat, e := e }
/-- The signed real of a finite value. -/
def dyOf (neg : Bool) (m : Nat) (e : Int) : Dy := { m := if neg then -(m : Int) else m, e := e }
/-- round_fp32 of an exact real: an exact zero gives +0 (R76). -/
def Dy.round (x : Dy) : W32 := round32 (decide (x.m < 0)) x.m.natAbs x.e

/-- The exact product of two values (R79). -/
def Val.mul (x y : Val) : Val :=
  match x, y with
  | .nan, _ => .nan
  | _, .nan => .nan
  | .inf s, .inf t => .inf (s != t)
  | .inf s, .fin t m _ => if m = 0 then .nan else .inf (s != t)
  | .fin s m _, .inf t => if m = 0 then .nan else .inf (s != t)
  | .fin s m e, .fin t n g => .fin (s != t) (m * n) (e + g)

/-- FP32 of a value, rounded once; a zero keeps its sign. -/
def Val.to32 (x : Val) : W32 :=
  match x with
  | .nan => nan32
  | .inf s => inf32 s
  | .fin s m e => round32 s m e

/-- The sum of two values rounded once; an exact zero of unlike signs is +0 (R76). -/
def Val.add32 (x y : Val) : W32 :=
  match x, y with
  | .nan, _ => nan32
  | _, .nan => nan32
  | .inf s, .inf t => if s = t then inf32 s else nan32
  | .inf s, .fin _ _ _ => inf32 s
  | .fin _ _ _, .inf t => inf32 t
  | .fin s m e, .fin t n g =>
    if m = 0 ∧ n = 0 then (if s && t then 0x80000000#32 else 0#32)
    else ((dyOf s m e).add (dyOf t n g)).round

/-- The same value with the other sign. -/
def Val.neg (x : Val) : Val :=
  match x with
  | .nan => .nan
  | .inf s => .inf (!s)
  | .fin s m e => .fin (!s) m e

def add32 (x y : W32) : W32 := (val32 x).add32 (val32 y)
def sub32 (x y : W32) : W32 := (val32 x).add32 (val32 y).neg
def mul32 (x y : W32) : W32 := ((val32 x).mul (val32 y)).to32
def fma32 (x y z : W32) : W32 := ((val32 x).mul (val32 y)).add32 (val32 z)

def div32 (x y : W32) : W32 :=
  match val32 x, val32 y with
  | .nan, _ => nan32
  | _, .nan => nan32
  | .inf _, .inf _ => nan32
  | .inf s, .fin t _ _ => inf32 (s != t)
  | .fin s _ _, .inf t => round32 (s != t) 0 0
  | .fin s m e, .fin t n g =>
    if n = 0 then (if m = 0 then nan32 else inf32 (s != t))
    else
      let d := scale2 1 (e - g)
      round32Q (s != t) (m * d.1) (n * d.2)

/-- Integer square root, bit by bit from bit k − 1. -/
def isqrt (n : Nat) : Nat → Nat → Nat
  | 0, r => r
  | k + 1, r => isqrt n k (if (r + 2 ^ k) * (r + 2 ^ k) ≤ n then r + 2 ^ k else r)

def sqrt32 (x : W32) : W32 :=
  match val32 x with
  | .nan => nan32
  | .inf s => if s then nan32 else inf32 false
  | .fin s m e =>
    if m = 0 then round32 s 0 0
    else if s then nan32
    else
      let m2 := if e % 2 = 0 then m * 2 ^ 60 else m * 2 ^ 61
      let e2 := if e % 2 = 0 then e - 60 else e - 61
      let r := isqrt m2 44 0
      round32 false (2 * r + (if r * r = m2 then 0 else 1)) (e2 / 2 - 1)

/-- Whether FP32 bits are a NaN. -/
def isNan32 (x : W32) : Bool := val32 x == .nan
/-- Whether FP32 bits are finite. -/
def isFin32 (x : W32) : Bool := decide (fld x 23 8 ≠ 255)

/-- The order of FP32 values other than NaN as integers: −0 just below +0. -/
def key32 (x : W32) : Int := if bit x 31 then -1 - (fld x 0 31 : Int) else fld x 0 31
/-- Less than, false on a NaN; −0 equals +0 (R125). -/
def lt32 (x y : W32) : Bool :=
  !isNan32 x && !isNan32 y && decide (key32 x < key32 y) && !(fld x 0 31 == 0 && fld y 0 31 == 0)
/-- Equality, false on a NaN (R125). -/
def eq32 (x y : W32) : Bool := !isNan32 x && !isNan32 y && (x == y || (fld x 0 31 == 0 && fld y 0 31 == 0))
/-- FMIN and FMAX: the other operand where exactly one is a NaN; −0 below +0 (R125). -/
def min32 (x y : W32) : W32 :=
  if isNan32 x then (if isNan32 y then nan32 else y) else if isNan32 y then x else if key32 x ≤ key32 y then x else y
def max32 (x y : W32) : W32 :=
  if isNan32 x then (if isNan32 y then nan32 else y) else if isNan32 y then x else if key32 y ≤ key32 x then x else y
/-- REDUCE.MAX and MIN, ROWMAX: the canonical NaN where either is a NaN; −0 below +0 (R134). -/
def redMax32 (x y : W32) : W32 := if isNan32 x || isNan32 y then nan32 else if key32 y ≤ key32 x then x else y
def redMin32 (x y : W32) : W32 := if isNan32 x || isNan32 y then nan32 else if key32 x ≤ key32 y then x else y

/-- FCVT.F.I (R125). -/
def cvtFI (x : W64) : W32 := round32 (bit x 63) (x.toInt.natAbs) 0
/-- FCVT.I.F: nearest even, saturating; a NaN gives 0 (R125). -/
def cvtIF (x : W32) : W64 :=
  match val32 x with
  | .nan => 0
  | .inf s => if s then 0x8000000000000000#64 else 0x7FFFFFFFFFFFFFFF#64
  | .fin s m e =>
    let d := scale2 m e
    let r := roundInt .rne d.1 d.2
    if s then (if r ≥ 2 ^ 63 then 0x8000000000000000#64 else BitVec.ofNat 64 (2 ^ 64 - r))
    else if r ≥ 2 ^ 63 then 0x7FFFFFFFFFFFFFFF#64 else BitVec.ofNat 64 r

/-! ### Trees (R77) -/

/-- The tree of a list, split after the largest power of two below its length; fuel bounds the depth. -/
def treeWith (op : W32 → W32 → W32) : Nat → List W32 → W32
  | _, [] => 0
  | _, [x] => x
  | 0, x :: _ => x
  | k + 1, xs =>
    let h := 2 ^ Nat.log2 (xs.length - 1)
    op (treeWith op k (xs.take h)) (treeWith op k (xs.drop h))

/-- tree(x, 0, n) of R77. -/
def tree32 (xs : List W32) : W32 := treeWith add32 64 xs

/-! ### Panels (R78 to R82) -/

/-- Element i of a packed row (R68). -/
def elemAt (f row i : Nat) : Nat := row / 2 ^ (fmtWidth f * i) % 2 ^ fmtWidth f
/-- Row bytes of n elements (R120). -/
def rowBytes (f n : Nat) : Nat :=
  if f = 5 ∨ f = 6 then (n + 3) / 4 * 3 else if f = 7 ∨ f = 9 then (n + 1) / 2 else n * (fmtWidth f / 8)

/-- The exact sum and the special accumulator over indices (R79, R80, R81). -/
def dotExact (fa fb rowA rowB : Nat) (ks : List Nat) (init : Dy × W32) : Dy × W32 :=
  ks.foldl (fun s k =>
    match (decodeVal fa (elemAt fa rowA k)).mul (decodeVal fb (elemAt fb rowB k)) with
    | .fin n m e => (s.1.add (dyOf n m e), s.2)
    | p => (s.1, add32 s.2 p.to32)) init

/-- e × ta × tb × 2^x rounded once, or the special value where it is not zero (R79, R80). -/
def closeExact (e : Dy) (sp ta tb : W32) (x : Int) : W32 :=
  if fld sp 0 31 ≠ 0 then sp
  else
    match val32 ta, val32 tb with
    | .fin _ m g, .fin _ n i => ({ m := e.m * m * n, e := e.e + g + i + x } : Dy).round
    | _, _ => nan32

/-- 1.0 in FP32. -/
def one32 : W32 := 0x3F800000#32

/-- block_mx (R80): 32 indices from k0 with their E8M0 scales; i is 2^-6 for INT8. -/
def blockMx (fa fb rowA rowB xa xb k0 : Nat) (ta tb : W32) : W32 :=
  if xa = 255 ∨ xb = 255 then nan32
  else
    let r := dotExact fa fb rowA rowB ((List.range 32).map (· + k0)) ({}, 0)
    let i : Int := (if fa = 8 then -6 else 0) + (if fb = 8 then -6 else 0)
    closeExact r.1 r.2 ta tb ((xa : Int) - 127 + (xb - 127) + i)

/-- The tree of the blocks that one BEAM supplies (R80). -/
def beamMx (fa fb rowA rowB xas xbs k : Nat) (ta tb : W32) : W32 :=
  tree32 ((List.range (k / 32)).map (fun j =>
    blockMx fa fb rowA rowB (xas / 2 ^ (8 * j) % 256) (xbs / 2 ^ (8 * j) % 256) (32 * j) ta tb))

/-- The tree of the groups of four that one BEAM supplies (R81). -/
def beamHalf (fa fb rowA rowB k : Nat) : W32 :=
  tree32 ((List.range ((k + 3) / 4)).map (fun j =>
    let r := dotExact fa fb rowA rowB ((List.range (min 4 (k - 4 * j))).map (· + 4 * j)) ({}, 0)
    if fld r.2 0 31 ≠ 0 then r.2 else r.1.round))

/-- The chain of fused multiply-adds (R82). -/
def beamFp32 (rowA rowB k : Nat) (acc : W32) : W32 :=
  (List.range k).foldl (fun a i => fma32 (BitVec.ofNat 32 (elemAt 0 rowA i)) (BitVec.ofNat 32 (elemAt 0 rowB i)) a) acc

/-! ### Conversion (R85, R86) -/

/-- Census counts (R86). -/
structure Census where
  saturated : Nat := 0
  flushed : Nat := 0
  nanDropped : Nat := 0
  nonfinite : Nat := 0
deriving DecidableEq, Repr

/-- Sum of two censuses. -/
def Census.add (x y : Census) : Census :=
  { saturated := x.saturated + y.saturated, flushed := x.flushed + y.flushed, nanDropped := x.nanDropped + y.nanDropped,
    nonfinite := x.nonfinite + y.nonfinite }

/-- Bits with a sign in a format: floating point by its sign bit, integers by two's complement. -/
def signed (f : Nat) (neg : Bool) (mag : Nat) : Nat :=
  if fmtInt f then (if neg then (2 ^ fmtWidth f - mag) % 2 ^ fmtWidth f else mag)
  else (if neg then 2 ^ (fmtWidth f - 1) else 0) + mag
/-- The largest magnitude of a sign. -/
def satMag (f : Nat) (neg : Bool) : Nat := if fmtInt f && neg then fmtMax f + 1 else fmtMax f

/-- Conversion of ±n/d, exact, into a format: the bits and the census; integers always round to nearest even (R85). -/
def convertQ (f : Nat) (rnd : Rnd) (neg : Bool) (n d : Nat) : Nat × Census :=
  let mag := if fmtInt f then roundInt .rne n d else roundMag f rnd n d
  if mag > satMag f neg then (signed f neg (satMag f neg), { saturated := 1 })
  else (signed f neg mag, { flushed := if n ≠ 0 ∧ mag = 0 then 1 else 0 })

/-- Conversion of a value divided by the exact scale sn/sd (R85). -/
def convertVal (f : Nat) (rnd : Rnd) (v : Val) (sn sd : Nat) : Nat × Census :=
  match v with
  | .nan => if [5, 6, 7, 8, 9].contains f then (0, { nanDropped := 1, nonfinite := 1 }) else (fmtNan f, { nonfinite := 1 })
  | .inf s =>
    if fmtInf f then (signed f s (fmtMax f / 2 ^ fmtFrac f * 2 ^ fmtFrac f + 2 ^ fmtFrac f), { nonfinite := 1 })
    else (signed f s (satMag f s), { saturated := 1, nonfinite := 1 })
  | .fin s m e => let p := scale2 m e; convertQ f rnd s (p.1 * sd) (p.2 * sn)

/-- The magnitude of a positive finite FP32 scale as a fraction. -/
def scaleQ (t : W32) : Nat × Nat :=
  match val32 t with
  | .fin _ m e => scale2 m e
  | _ => (1, 1)

/-- rand24 of R87. -/
def rand24 (seed stream index : W64) : Nat :=
  let z0 := seed ^^^ (stream * 0x9E3779B97F4A7C15#64)
  let z1 := z0 ^^^ (index * 0xD1B54A32D192ED03#64)
  let z2 := z1 ^^^ (z1 >>> 30)
  let z3 := z2 * 0xBF58476D1CE4E5B9#64
  let z4 := z3 ^^^ (z3 >>> 27)
  let z5 := z4 * 0x94D049BB133111EB#64
  let z6 := z5 ^^^ (z5 >>> 31)
  fld z6 40 24

/-- The rounding an instruction names for one element (R87). -/
def rndOf (stochastic : Bool) (seed : W64) (stream : Nat) (index : Nat) : Rnd :=
  if stochastic then .sr (rand24 seed (BitVec.ofNat 64 (stream % 2 ^ 32)) (BitVec.ofNat 64 index)) else .rne

/-! ### Scales (R73 to R75) -/

/-- The magnitude order of finite values as an exact real. -/
def Dy.le (x y : Dy) : Bool := decide (0 ≤ ((y.add { x with m := -x.m }).m))

/-- The larger of two nonnegative finite magnitudes, as FP32 bits without sign: their bits compare as numbers. -/
def amax32 (x y : W32) : W32 := if x.toNat ≥ y.toNat then x else y

/-- The largest finite value of a format, as a natural fraction (R74). -/
def fmtF (f : Nat) : Nat × Nat :=
  match decodeVal f (fmtMax f) with
  | .fin _ m e => scale2 m e
  | _ => (1, 1)

/-- The per-tensor scale of R74 from an amax: round_up_fp32(amax ÷ F); 1.0 where the amax is zero or not finite. -/
def tensorScale (f : Nat) (amax : W32) : W32 :=
  let a := amax &&& 0x7FFFFFFF#32
  if a = 0 ∨ !isFin32 a then one32
  else
    let p := scaleQ a
    let F := fmtF f
    let m := roundMag 0 .up (p.1 * F.2) (p.2 * F.1)
    BitVec.ofNat 32 (if m > 0x7F7FFFFF then 0x7F800000 else m)

/-- emax of R75: the exponent of the element format's largest normal. -/
def fmtEmax (f : Nat) : Int := if f = 3 then 8 else if f = 4 then 15 else if f = 5 then 4 else if f = 6 ∨ f = 7 then 2 else 0

/-- The E8M0 scale of a block from its amax as a fraction n/d, by OCP or NOCLIP (R75). -/
def mxScale (f : Nat) (noclip : Bool) (n d : Nat) : Nat :=
  if n = 0 then 127
  else
    let x : Int :=
      if noclip then
        let F := if f = 8 then (127, 64) else fmtF f
        let e := leadExp (n * F.2) (d * F.1)
        let p := scale2 1 e
        if n * F.2 * p.2 ≤ d * F.1 * p.1 then e else e + 1
      else leadExp n d - fmtEmax f
    (min 254 (max 0 (x + 127))).toNat

/-! ### The optimiser (R90) -/

/-- A hyperparameter record (R88). -/
structure Hyper where
  lr : W32
  beta1 : W32
  beta2 : W32
  eps : W32
  wd : W32
  c1 : W32
  c2 : W32
deriving DecidableEq, Repr

/-- What the update of one element gives: w, m and v after, and its counts elements, applied, zeroMaster, flushed,
saturated, nonfinite (R90, R91). -/
structure OptOut where
  w : W32
  m : W32
  v : W32
  counts : List Nat
  census : Census
deriving DecidableEq, Repr

/-- Negation of an FP32 number. -/
def neg32 (x : W32) : W32 := x ^^^ 0x80000000#32

/-- round_fp32 of a value: an exact zero gives +0 (R76). -/
def Val.round (x : Val) : W32 :=
  match x with
  | .fin n m e => (dyOf n m e).round
  | x => x.to32

/-- The exact product of an FP32 number with 2^s, rounded once. -/
def scale32 (x : W32) (s : Int) : W32 := ((val32 x).mul (.fin false 1 s)).round

/-- The update of one element: algo 0 SGD, 1 Nesterov, 2 Adam, 3 AdamW; ufmt with its rounding; shift s (R90, R91).
A new weight differs where its FP32 bits differ, the sign of zero too (DESIGN CHOICE, log entry 76). -/
def optElem (h : Hyper) (algo ufmt : Nat) (rnd : Rnd) (s : Int) (gq : Val) (tg : W32) (w m v : W32) : OptOut :=
  let g := (gq.mul (val32 tg)).round
  if !isFin32 g then { w := w, m := m, v := v, counts := [0, 0, 0, 0, 0, 1], census := {} }
  else
    let sgd := algo < 2
    let m1 := if sgd then fma32 h.beta1 m g else fma32 h.beta1 m (mul32 (add32 one32 (neg32 h.beta1)) g)
    let v1 := if sgd then v else fma32 h.beta2 v (mul32 (add32 one32 (neg32 h.beta2)) (mul32 g g))
    let u0 := if sgd then (if algo = 1 then fma32 h.beta1 m1 g else m1)
      else div32 (mul32 m1 h.c1) (add32 (sqrt32 (mul32 v1 h.c2)) h.eps)
    let u := if algo = 2 then u0 else fma32 h.wd w u0
    let p := mul32 h.lr u
    let ps := scale32 p s
    let q := convertVal ufmt rnd (val32 ps) 1 1
    let qv := decodeVal ufmt q.1
    let wn := match val32 w, qv with
      | .fin n m e, .fin t a i => ((dyOf n m e).add (dyOf (!t) a (i - s))).round
      | x, y => x.add32 y.neg
    let qz := match qv with | .fin _ a _ => a == 0 | _ => false
    let pz := fld ps 0 31 == 0
    let changed := wn != w
    { w := wn, m := m1, v := v1, census := q.2
      counts := [1, if changed then 1 else 0, if !qz && !changed then 1 else 0, if !pz && qz then 1 else 0,
        if q.2.saturated ≠ 0 then 1 else 0, 0] }

end Sys2Proof.Machine
end

