-- ==== Sys2Proof/Machine/Home.lean ====
section
/-! DEFINITION. The address map, the backing map and memory beneath the homes (08 R184 to R208), caches and their
replacement (11 R250 to R253), watches and notices (11 R260, R261), and whole transactions at a home (11 R254 to R258).
A transaction that a command completes in one step takes every message of the protocol at once. -/

namespace Sys2Proof.Machine

/-! ### Address map (R186, R187) -/

/-- Bytes of a domain's presented range (R4). -/
def Block.presented (b : Block) : Nat := if b.tray.part = .a2t then 448 * 2 ^ 30 else 704 * 2 ^ 30
/-- SpreadSize in force, in bytes per domain (R187, R210). -/
def Block.spread (b : Block) : Nat := b.cfg 0x32000050 16 * 2 ^ 30
/-- Base of the spread window (R186). -/
def spreadBase : Nat := 0x8000000000000
/-- Device register regions (R186). -/
def isDevice (pa : Nat) : Bool := decide (0x4000000000000 ≤ pa ∧ pa < 0x4010000000000)

/-- The domain address behind a physical address, none where the address is unmapped or a device register (R186,
R187). A carve byte is reached through the spread window alone. -/
def Block.dom (b : Block) (pa : Nat) : Option Nat :=
  if pa < 2 ^ 43 then
    if pa % 2 ^ 40 < b.presented - b.spread then some pa else none
  else if spreadBase ≤ pa ∧ pa < spreadBase + 8 * b.spread then
    let x := pa - spreadBase
    let p := x / 4096
    some ((p % 8) * 2 ^ 40 + (b.presented - b.spread) + (p / 8) * 4096 + x % 4096)
  else none

/-- Whether every byte of a range is memory of a placement domain or the spread window, in one of the two (R104, R263). -/
def Block.rangeOk (b : Block) (pa len : Nat) : Bool :=
  decide (0 < len) &&
  (if pa < 2 ^ 43 then decide (pa % 2 ^ 40 + len ≤ b.presented - b.spread)
   else decide (spreadBase ≤ pa ∧ pa + len ≤ spreadBase + 8 * b.spread))

/-- The physical address that reaches a line of a domain: direct, or through the spread window (R187). -/
def Block.linePa (b : Block) (ln : Nat) : Nat :=
  let a := ln * 64; let carve := b.presented - b.spread; let off := a % 2 ^ 40
  if off < carve then a
  else spreadBase + ((off - carve) / 4096 * 8 + a / 2 ^ 40) * 4096 + a % 4096

/-- Domain of a line or berth of a domain address. -/
def domOf (a : Nat) : Nat := a / 2 ^ 40
/-- Tile of a domain (R20). -/
def tileOf (d : Nat) : Nat := if d < 4 then d else d + 1
/-- Slice of a line's home (R250). -/
def sliceOf (a : Nat) : Nat :=
  ((a / 2 ^ 6 % 16) ^^^ (a / 2 ^ 10 % 16) ^^^ (a / 2 ^ 14 % 16) ^^^ (a / 2 ^ 18 % 16) ^^^ (a / 2 ^ 22 % 16))

/-! ### Frames and backing (R190 to R193, R204) -/

/-- Frames of a tier in a domain (R184, R439). -/
def Block.frames (b : Block) (d tier : Nat) : Nat :=
  if tier = 0 then 3145728
  else
    let n := if b.tray.part = .a2t then 4194304 else 8388608
    let out := (b.channel (256 + 2 * d)).svc != .inUse || (b.channel (257 + 2 * d)).svc != .inUse
    if out then n / 2 else n

/-- Frames that a berth occupies (tier, frame) (R191, R200). -/
def berthFrames (x : Berth) : List (Nat × Nat) :=
  match x.st with
  | .vacant => []
  | .steady => [(x.tier, x.frame)]
  | .copying => [(x.tier, x.frame), (x.destTier, x.dest)]
  | .window => [(x.tier, x.frame), (1, x.own)]
  | .failed => if x.hasFrame then [(x.tier, x.frame)] else []

/-- Berths of a domain that have an entry. -/
def Block.berthsOf (b : Block) (d : Nat) : List (Nat × Berth) := b.berths.filter (fun e => e.1 / 2 ^ 24 == d)

/-- Frames of a tier that are not free: backed, retired, being zeroed, or lost to a berth-store error. -/
def Block.taken (b : Block) (d tier : Nat) : List Nat :=
  (((b.berthsOf d).map (fun (e : Nat × Berth) => berthFrames e.2)).flatten ++ (b.domain d).zeroing ++ (b.domain d).retired ++
    (b.domain d).orphans ++ ((b.domain d).streams.map (fun (s : Stream) => s.frames.map (fun f => (0, f)))).flatten).filterMap
    (fun (f : Nat × Nat) => if f.1 = tier then some f.2 else none)

/-- Whether a tier of a domain can give frames: the stack tier while NORMAL, RETURNING or DEFERRED; bulk while both its
channels are present, or one of them serves the domain alone (R206, R339, R439). -/
def Block.tierOpen (b : Block) (d tier : Nat) : Bool :=
  if tier = 0 then
    [TierSt.normal, .returning, .deferred].contains (b.domain d).tier
  else
    let c0 := b.channel (256 + 2 * d); let c1 := b.channel (257 + 2 * d)
    !((c0.st == .offline && c0.svc == .inUse) || (c1.st == .offline && c1.svc == .inUse) ||
      (c0.st == .lost) || (c1.st == .lost))

/-- Free frames of a tier, less the device reserve of 64, and less the 512 stack frames of a relocation table (R190,
R439). -/
def Block.freeFrames (b : Block) (d tier : Nat) : Nat :=
  if b.tierOpen d tier then
    let reloc := if tier = 0 ∧ ((b.channel (256 + 2 * d)).svc != .inUse || (b.channel (257 + 2 * d)).svc != .inUse) then 512 else 0
    b.frames d tier - (b.taken d tier).length - 64 - reloc
  else 0

/-- The first number from `f` on, around `total`, that is not taken; `fuel` steps suffice when it exceeds the length. -/
def firstFree (taken : List Nat) (total : Nat) : Nat → Nat → Nat
  | 0, f => f % total
  | k + 1, f => if taken.contains (f % total) then firstFree taken total k (f + 1) else f % total

/-- A free frame: R192 leaves open which one. -/
def Block.pickFrame (b : Block) (d tier : Nat) : Nat :=
  let t := b.taken d tier
  firstFree t (b.frames d tier) (t.length + 1) (Config.framePick d tier b.picks % b.frames d tier)

/-- The region that holds a berth (R193). -/
def Block.regionOf (b : Block) (n : Nat) : Option Region :=
  (b.domain (n / 2 ^ 24)).regions.find? (fun r => decide (r.base ≤ n ∧ n < r.base + r.count))

/-- Berths of a context in a domain that count against Q_STACK (tier 0) or Q_BULK (tier 1) (R204). -/
def Block.quotaUse (b : Block) (c d tier : Nat) : Nat :=
  ((b.berthsOf d).filter (fun e =>
    (match b.regionOf e.1 with | some r => r.owner == c | none => false) &&
    (match e.2.st with
     | .vacant => false
     | .window => tier == 1
     | .failed => e.2.hasFrame && e.2.tier == tier
     | .copying => e.2.tier == tier || e.2.destTier == tier
     | .steady => e.2.tier == tier))).length

/-- Whether a quota of 0xFFFF_FFFF (unlimited) or a count below it leaves room for n more (R203). -/
def quotaRoom (q used n : Nat) : Bool := q == 0xFFFFFFFF || decide (used + n ≤ q)

/-- Whether a region's owner has room for one more berth in a tier. -/
def Block.ownerRoom (b : Block) (n tier : Nat) : Bool :=
  match b.regionOf n with
  | none => true
  | some r =>
    let c := b.ctx r.owner
    quotaRoom (if tier = 0 then c.qStack else c.qBulk) (b.quotaUse r.owner (n / 2 ^ 24) tier) 1

/-- Tiers tried for a first write, in order (R192). -/
def Block.tiersTried (b : Block) (n : Nat) : List Nat :=
  match (b.regionOf n).map Region.policy with
  | some .stack => [0]
  | some .bulk => [1]
  | some .streamed => [1]
  | _ => if n % 2 ^ 24 < 3145728 then [0, 1] else [1, 0]

/-- Backed berths of a domain. -/
def Block.backed (b : Block) (d : Nat) : Nat := ((b.berthsOf d).filter (fun e => e.2.st != .vacant)).length

/-- Backs a VACANT berth at its first write: the new block, or the DETAIL 2 or 3 of TIER_FAIL with TIER_NO_FRAME
(R192, R207). -/
def Block.back (b : Block) (n : Nat) : Except (Nat × Block) Block :=
  let d := n / 2 ^ 24
  let head := b.cfg 0x32000043 0 = 1 ∧ b.backed d + 1 > b.frames d 1 - 64
  let tiers := b.tiersTried n
  match if head then none else tiers.find? (fun t => b.freeFrames d t != 0 && b.ownerRoom n t) with
  | some t =>
    let f := b.pickFrame d t
    let pin := match (b.regionOf n).map Region.policy with | some .stack => true | _ => false
    .ok { (b.updBerth n (fun x => { x with st := .steady, tier := t, frame := f, hasFrame := true, pin := pin,
                                           retried := false, wdirty := false })) with picks := b.picks + 1 }
  | none =>
    let quota := !head && tiers.any (fun t => b.freeFrames d t != 0)
    .error (if quota then 2 else 3, b.raise (unitNo 0x32 d) .tierNoFrame [d, n])

/-! ### Memory beneath the homes -/

/-- Key of a byte of a frame. -/
def memKey (tier d frame off : Nat) : Nat := ((d * 2 + tier) * 2 ^ 23 + frame) * 65536 + off

/-- Channel that holds a line of a frame: stack × 16 + channel, or 256 + bulk channel (R188). -/
def chanOf (tier d off : Nat) : Nat :=
  if tier = 0 then d * 32 + off / 256 % 32 else 256 + 2 * d + off / 4096 % 2

/-- The channel that serves a line of a frame: in single-channel mode the partner of a DDR5 channel that is out (R439). -/
def Block.chanAt (b : Block) (tier d off : Nat) : Nat :=
  let c := chanOf tier d off
  if 256 ≤ c ∧ [ChanSvc.out, .training, .returning].contains (b.channel c).svc then (if c % 2 = 0 then c + 1 else c - 1) else c

/-- Whether a line's berth is FAILED (R201). -/
def Block.failed (b : Block) (ln : Nat) : Bool := (b.berth (ln / 1024)).st == .failed

/-- Channel of a line's backing, none when VACANT. -/
def Block.chan (b : Block) (ln : Nat) : Option Nat :=
  let x := b.berth (ln / 1024)
  if x.st = .vacant then none else some (b.chanAt x.tier (ln / 2 ^ 34) (ln % 1024 * 64))

/-- Whether a line's channel is held by a retrain (R205). -/
def Block.chanHeld (b : Block) (ln : Nat) : Bool :=
  match b.chan ln with
  | some c => (b.channel c).st == .held
  | none => false

/-- The line in one frame, with its poison mark. -/
def Block.frameLine (b : Block) (tier d frame i : Nat) : Line × Bool :=
  let k := memKey tier d frame (i * 64)
  let lost := (b.channel (b.chanAt tier d (i * 64))).st == .lost
  (lineOf (cellGets b.mem k 64), lost || b.memPoison.contains (k / 64))

/-- The 4 check symbols that stand with a line: the correct check value, or, of a poisoned line, that value XOR the pattern, which
no error of one or two symbols makes; a decoder that meets it reports poison (R185). -/
def Block.checkSymbols (b : Block) (tier d frame i : Nat) : BitVec 32 :=
  let v := b.frameLine tier d frame i
  Config.eccCheck tier v.1 ^^^ (if v.2 then 0xA55AC33C#32 else 0#32)

/-- The memory copy of a line: zero for a VACANT berth, the backing frame otherwise; lines of a LOST channel read as
poison (R192, R206). -/
def Block.memLine (b : Block) (ln : Nat) : Line × Bool :=
  let x := b.berth (ln / 1024)
  if x.st = .vacant then (0, false) else b.frameLine x.tier (ln / 2 ^ 34) x.frame (ln % 1024)

/-- Writes a line into one frame. -/
def Block.putFrame (b : Block) (tier d frame i : Nat) (v : Line) (p : Bool) : Block :=
  let k := memKey tier d frame (i * 64)
  { b with mem := cellPuts b.mem k (lineBytes v 0 64),
           memPoison := if p then sput b.memPoison (k / 64) else b.memPoison.filter (· != k / 64) }

/-- Writes the memory copy of a line; a COPYING berth takes it in both frames, a WINDOW berth becomes WDIRTY; nothing is
written to a VACANT or FAILED berth (R39, R200, R209). -/
def Block.putMem (b : Block) (ln : Nat) (v : Line) (p : Bool) : Block :=
  let n := ln / 1024; let d := ln / 2 ^ 34; let i := ln % 1024
  let x := b.berth n
  match x.st with
  | .vacant => b
  | .failed => b
  | .steady => b.putFrame x.tier d x.frame i v p
  | .copying => (b.putFrame x.tier d x.frame i v p).putFrame x.destTier d x.dest i v p
  | .window => (b.putFrame x.tier d x.frame i v p).updBerth n (fun y => { y with wdirty := true })

/-- Counts a request that a home slice sends to memory; each 64th raises the berth's counter (R195). -/
def Block.sample (b : Block) (ln : Nat) : Block :=
  let d := ln / 2 ^ 34; let s := sliceOf (ln * 64)
  let c := tget 0 (b.domain d).samples s + 1
  let b1 := b.updDomain d (fun x => { x with samples := tput x.samples s c })
  if c % 64 = 0 then b1.updBerth (ln / 1024) (fun x => { x with counter := min 255 (x.counter + 1) }) else b1

/-- A write-back of a dirty line to memory: a VACANT berth is backed again; a line that cannot be placed is dropped with
WRITEBACK_DROPPED. The flag tells of a drop (R192). -/
def Block.writeBack (b : Block) (ln : Nat) (v : Line) (p : Bool) : Block × Bool :=
  let n := ln / 1024
  let drop (c : Block) : Block × Bool := (c.raise (unitNo 0x32 (ln / 2 ^ 34)) .writebackDropped [ln / 2 ^ 34, n, ln], true)
  match (b.berth n).st with
  | .failed => drop b
  | .vacant =>
    match b.back n with
    | .ok c => ((c.putMem ln v p).sample ln, false)
    | .error e => drop e.2
  | _ => ((b.putMem ln v p).sample ln, false)

/-! ### Caches (R252, R253) -/

/-- R253's touch: the tree bits on the way to `w` point away from it. -/
def plruTouch {n : Nat} (bits : BitVec n) (w : Nat) : Nat → Nat → BitVec n
  | 0, _ => bits
  | k + 1, node =>
    let t := w / 2 ^ k % 2
    plruTouch (if t = 0 then bits ||| BitVec.ofNat n (2 ^ node) else bits &&& ~~~(BitVec.ofNat n (2 ^ node))) w k (2 * node + 1 + t)

/-- R253's walk to the victim way when no way is invalid. -/
def plruVictim {n : Nat} (bits : BitVec n) : Nat → Nat → Nat → Nat
  | 0, _, w => w
  | k + 1, node, w =>
    let t := if bits.getLsbD node then 1 else 0
    plruVictim bits k (2 * node + 1 + t) (2 * w + t)

/-- The way that holds a line. -/
def PSet.wayOf (p : PSet) (ln : Nat) : Option Nat := (p.ways.find? (fun e => e.2 == ln)).map Prod.fst

/-- The victim way: the lowest invalid way, else the tree's way, passing over BUSY lines in ascending order modulo 16
(R253); none when every way is BUSY or the set is disabled. -/
def PSet.victim (p : PSet) (busy : Nat → Bool) : Option Nat :=
  if p.disabled then none
  else
    match (List.range 16).find? (fun w => !thas p.ways w) with
    | some w => some w
    | none =>
      let w0 := plruVictim p.bits 4 0 0
      ((List.range 16).map (fun i => (w0 + i) % 16)).find? (fun w => !busy (tget 0 p.ways w))

/-- A hit touches its way. -/
def PSet.hit (p : PSet) (ln : Nat) : PSet :=
  match p.wayOf ln with
  | some w => { p with bits := plruTouch p.bits w 4 0 }
  | none => p

/-- Number of a cache: agents 0 to 71 theirs, keep-cache slices 80 to 95, home slices from 100, directories from 300. -/
def cacheNo (agent ln : Nat) : Nat := if agent < 72 then agent else 80 + sliceOf (ln * 64)
/-- Set index of a line in an agent's cache (R252). -/
def agentSet (agent ln : Nat) : Nat :=
  if agent < 64 then ln % 2 ^ 13 else if agent < 72 then ln % 2 ^ 15 else ln / 16 % 2 ^ 13
/-- Key of the set of an agent's cache that a line falls in. -/
def agentKey (agent ln : Nat) : Nat := cacheNo agent ln * 65536 + agentSet agent ln
/-- Key of the home slice's set. -/
def sliceKey (ln : Nat) : Nat := (100 + ln / 2 ^ 34 * 16 + sliceOf (ln * 64)) * 65536 + ln / 16 % 2 ^ 13
/-- Key of the directory's set. -/
def dirKey (ln : Nat) : Nat := (300 + ln / 2 ^ 34 * 16 + sliceOf (ln * 64)) * 65536 + ln / 16 % 2 ^ 13

/-- Drops a line from a cache set. -/
def Block.unplace (b : Block) (key ln : Nat) : Block :=
  b.updPset key (fun p => match p.wayOf ln with | some w => { p with ways := tdel p.ways w } | none => p)

/-- Whether a transaction on the line is in flight (BUSY, R254). -/
def Block.busy (b : Block) (ln : Nat) : Bool := (b.line ln).busy.isSome

/-- Reservations of harts on a line are lost, and harts stalled on them wake (R244, R287). -/
def Block.loseRes (b : Block) (ln : Nat) (keep : Nat → Bool) : Block :=
  { b with harts := b.harts.map (fun e =>
      if e.2.res = some ln && !keep e.1 then (e.1, { e.2 with res := none, wrs := .none }) else e) }

/-- Writes the directory state; an entry that ends frees its way. -/
def Block.setDir (b : Block) (ln : Nat) (d : Dir) : Block :=
  let b1 := b.updLine ln (fun l => { l with dir := d })
  if d = .untracked then b1.unplace (dirKey ln) ln else b1

/-- Removes an agent from a directory state. -/
def dirWithout (d : Dir) (a : Nat) : Dir :=
  match d with
  | .untracked => .untracked
  | .shared s => if s.filter (· != a) = [] then .untracked else .shared (s.filter (· != a))
  | .owned o => if o = a then .untracked else .owned o

/-- A line leaves an agent's cache. A keeper cluster's harts lose their reservations on it (R244). -/
def Block.dropCopy (b : Block) (a ln : Nat) : Block :=
  let b1 := (b.updLine ln (fun l => { l with copies := tdel l.copies a })).unplace (agentKey a ln) ln
  if 64 ≤ a ∧ a < 72 then b1.loseRes ln (fun h => h / 16 != a - 64) else b1

/-- The line in its slice, put into memory when a dirty victim leaves the slice. -/
def Block.evictSlice (b : Block) (ln : Nat) : Block :=
  match (b.line ln).slice with
  | none => b
  | some s =>
    let b1 := (b.updLine ln (fun l => { l with slice := none })).unplace (sliceKey ln) ln
    if s.dirty then (b1.writeBack ln s.data s.poison).1 else b1

/-- Places a line in its slice; a victim is written back; with the set disabled a dirty line goes to memory at once. A hit or
a fill touches its way, but for a range-engine action (R253). -/
def Block.placeSlice (b : Block) (touch : Bool) (ln : Nat) (v : Line) (dirty p : Bool) : Block :=
  let key := sliceKey ln
  let ps := b.pset key
  let hit (q : PSet) : PSet := if touch then q.hit ln else q
  if (ps.wayOf ln).isSome then
    (b.updPset key hit).updLine ln (fun l => { l with slice := some { data := v, dirty := dirty, poison := p } })
  else
    match ps.victim b.busy with
    | none => if dirty then (b.writeBack ln v p).1 else b
    | some w =>
      let b1 := match tfind ps.ways w with | some v0 => b.evictSlice v0 | none => b
      (b1.updPset key (fun q => hit { q with ways := tput q.ways w ln })).updLine ln
        (fun l => { l with slice := some { data := v, dirty := dirty, poison := p } })

/-- Places a line in its slice by a hit or a fill (R253). -/
def Block.putSlice (b : Block) (ln : Nat) (v : Line) (dirty p : Bool) : Block := b.placeSlice true ln v dirty p

/-- The home's own value of a line: the slice's, else memory's. -/
def Block.homeValue (b : Block) (ln : Nat) : Line × Bool :=
  match (b.line ln).slice with
  | some s => (s.data, s.poison)
  | none => b.memLine ln

/-- The current value: the owner's when it holds the line, otherwise the home's (R256, RD_ONCE). -/
def Block.curValue (b : Block) (ln : Nat) : Line × Bool :=
  match (b.line ln).dir with
  | .owned o =>
    match tfind (b.line ln).copies o with
    | some c => (c.data, c.poison)
    | none => b.homeValue ln
  | _ => b.homeValue ln

/-- A read at the home brings a line of a backed berth into the slice, clean (R252: memory-side cache). -/
def Block.fetchSlice (b : Block) (ln : Nat) : Block :=
  match (b.line ln).slice with
  | some _ => b.updPset (sliceKey ln) (fun q => q.hit ln)
  | none =>
    if (b.berth (ln / 1024)).st = .vacant then b
    else let v := b.memLine ln; (b.sample ln).putSlice ln v.1 false v.2

/-- A dirty copy of an agent goes into the slice. -/
def Block.mergeCopy (b : Block) (a ln : Nat) : Block :=
  match tfind (b.line ln).copies a with
  | some c => if c.st = .m then b.putSlice ln c.data true c.poison else b
  | none => b

/-- Whether the home must read a line from memory to know its value: no owner holds it and no slice line does (R256). -/
def Block.needsMem (b : Block) (ln : Nat) : Bool :=
  (b.line ln).slice.isNone &&
  (match (b.line ln).dir with
   | .owned o => !thas (b.line ln).copies o
   | _ => true)

/-- Whether a read of a line at the home meets a held channel: only requests that reach the channel are held (R205). -/
def Block.readHeld (b : Block) (ln : Nat) : Bool := b.needsMem ln && b.chanHeld ln

/-- Every copy leaves its agent, the owner's dirty data going into the slice; the line is UNTRACKED (R256, R258, R259). -/
def Block.recallAll (b : Block) (ln : Nat) : Block :=
  let as := (b.line ln).copies.map Prod.fst
  let b1 := as.foldl (fun c a => (c.mergeCopy a ln).dropCopy a ln) b
  b1.setDir ln .untracked

/-- A directory entry for a line: a victim's copies are recalled; none while every way of the set is BUSY, and the request
that needs the entry waits (R253, R259). A set disabled by R262 gives no entry and takes none. -/
def Block.dirEntry (b : Block) (ln : Nat) : Option Block :=
  let key := dirKey ln
  let ps := b.pset key
  if (ps.wayOf ln).isSome then some (b.updPset key (fun q => q.hit ln))
  else if ps.disabled then some b
  else
    (ps.victim b.busy).map (fun w =>
      let b1 := match tfind ps.ways w with
        | some v0 => (b.recallAll v0).updTile (tileOf (ln / 2 ^ 34)) (fun t => { t with evictions := t.evictions + 1 })
        | none => b
      b1.updPset key (fun q => ({ q with ways := tput q.ways w ln }).hit ln))

/-- The directory no longer names an agent; the entry of a BUSY line stays (R254). -/
def Block.undir (b : Block) (a ln : Nat) : Block :=
  let d := dirWithout (b.line ln).dir a
  if b.busy ln then b.updLine ln (fun l => { l with dir := d }) else b.setDir ln d

/-- An eviction from an agent's cache: WB of an M line, EVICT_CLEAN of an E line, a silent drop of an S line (R254,
R256). -/
def Block.evictCopy (b : Block) (a ln : Nat) : Block :=
  match tfind (b.line ln).copies a with
  | none => b.unplace (agentKey a ln) ln
  | some c =>
    let b1 := (b.mergeCopy a ln).dropCopy a ln
    if c.st = .s then b1 else b1.undir a ln

/-- Places a copy in an agent's cache; the caller has settled the directory. A victim is evicted. With no way to take, the
agent keeps no copy: the data of an M line goes to its home (R253, R262). -/
def Block.place (b : Block) (a ln : Nat) (c : Copy) : Block :=
  let key := agentKey a ln
  let ps := b.pset key
  let put (x : Block) : Block := x.updLine ln (fun l => { l with copies := tput l.copies a c })
  if (ps.wayOf ln).isSome then put (b.updPset key (fun q => q.hit ln))
  else
    match ps.victim b.busy with
    | none => (if c.st = .m then b.putSlice ln c.data true c.poison else b).undir a ln
    | some w =>
      let b1 := match tfind ps.ways w with | some v0 => b.evictCopy a v0 | none => b
      put (b1.updPset key (fun q => ({ q with ways := tput q.ways w ln }).hit ln))

/-- A line moves between two agents with its state; MOVED tells the home (R259). -/
def Block.moveCopy (b : Block) (a a' ln : Nat) : Block :=
  match tfind (b.line ln).copies a with
  | none => b
  | some c =>
    let d := match (b.line ln).dir with
      | .owned o => if o = a then Dir.owned a' else .owned o
      | .shared s => .shared (sput (s.filter (· != a)) a')
      | .untracked => .untracked
    ((b.dropCopy a ln).updLine ln (fun l => { l with dir := d })).place a' ln c

/-- Installs a copy in an agent's cache; the victim of an L3 enters the keep cache in its own state (R259). -/
def Block.install (b : Block) (a ln : Nat) (c : Copy) : Block :=
  if 64 ≤ a ∧ a < 72 then
    let ps := b.pset (agentKey a ln)
    let b1 := if (ps.wayOf ln).isSome then b else
      match ps.victim b.busy with
      | some w => match tfind ps.ways w with | some v0 => b.moveCopy a 72 v0 | none => b
      | none => b
    b1.place a ln c
  else b.place a ln c

/-! ### Watches and notices (R260, R261) -/

/-- The line number behind a physical address. -/
def Block.lineAt (b : Block) (pa : Nat) : Option Nat := (b.dom pa).map (· / 64)

/-- Delivers a notice for a line to one watcher identity: each of its watches on the line. -/
def Block.deliver (b : Block) (ln id : Nat) : Block :=
  let on (pa : Nat) : Bool := b.lineAt pa == some ln
  if id < 64 then
    let b1 := b.updLantern id (fun l => { l with slots := l.slots.map (fun (e : Nat × Slot) =>
      if on (b.queue e.2.queue).header then (e.1, { e.2 with notice := true }) else e) })
    let b2 := { b1 with hws := b1.hws.map (fun (e : Nat × Hw) =>
      if e.1 / 4 = id then
        (e.1, { e.2 with notice := e.2.notice || e.2.watch == some ln,
                         cnotice := e.2.cnotice || (e.2.phase != Phase.free && on e.2.compPa) })
      else e) }
    b2.updChart id (fun c => { c with resume := c.resume.map (fun (e : Nat × Bool) =>
      if on ((b.ctx e.1).ring + 0x40) then (e.1, true) else e) })
  else if id < 66 then
    b.updPort (id - 64) (fun p => { p with rings := p.rings.map (fun (e : Nat × PostRing) =>
      match e.2.copy with
      | some c => if on (fld c 0 52) then (e.1, { e.2 with notice := true }) else e
      | none => e) })
  else if id < 75 then
    b.updTile (id - 66) (fun t => { t with rings := t.rings.map (fun (r : Ring) =>
      if on r.header then { r with notice := true } else r) })
  else b

/-- NOTICE to every watcher of a line (R261). -/
def Block.notify (b : Block) (ln : Nat) : Block := (b.line ln).watchers.foldl (fun c id => c.deliver ln id) b

/-- Watched lines of a slice. -/
def Block.watched (b : Block) (ln : Nat) : Nat :=
  (b.lines.filter (fun e => e.2.watchers != [] && e.1 / 2 ^ 34 == ln / 2 ^ 34 && sliceOf (e.1 * 64) == sliceOf (ln * 64))).length

/-- Registers a watcher, or is refused with NO_WATCH when the slice's 256 entries are used (R260). -/
def Block.watch (b : Block) (id ln : Nat) : Option Block :=
  if (b.line ln).watchers = [] ∧ b.watched ln ≥ 256 then none
  else some (b.updLine ln (fun l => { l with watchers := sput l.watchers id }))

/-- Counts a refused WATCH. -/
def Block.watchRefused (b : Block) (ln : Nat) : Block :=
  b.updTile (tileOf (ln / 2 ^ 34)) (fun t => { t with watchRefusals := t.watchRefusals + 1 })

/-- Removes a watcher. -/
def Block.unwatch (b : Block) (id ln : Nat) : Block :=
  b.updLine ln (fun l => { l with watchers := l.watchers.filter (· != id) })

/-- Whether a lantern still watches a line: for a queue, a request's completion record, a WAIT.LINE or a driver line. -/
def Block.stillWatches (b : Block) (l ln : Nat) : Bool :=
  let on (pa : Nat) : Bool := b.lineAt pa == some ln
  (b.lantern l).slots.any (fun (e : Nat × Slot) => on (b.queue e.2.queue).header) ||
  b.hws.any (fun (e : Nat × Hw) => e.1 / 4 == l && (e.2.watch == some ln || (e.2.phase != Phase.free && on e.2.compPa))) ||
  (b.chart l).resume.any (fun (e : Nat × Bool) => on ((b.ctx e.1).ring + 0x40))

/-- Removes a lantern's watch on a line that it watches for nothing else. -/
def Block.unwatchLamp (b : Block) (l ln : Nat) : Block := if b.stillWatches l ln then b else b.unwatch l ln

/-! ### Whole transactions -/

/-- Why an access to a line is not served. -/
inductive AccErr where
  /-- the line is BUSY or its channel is held: the access waits (R205, R255) -/
  | wait
  /-- unmapped physical space (R186) -/
  | unmapped
  /-- a FAILED berth (R201) -/
  | failed
  /-- a first write found no frame; DETAIL 2 or 3 (R192) -/
  | noFrame (detail : Nat)
deriving DecidableEq, Repr

/-- Why the home does not serve a request on a line now: the line is BUSY, its berth is FAILED, or the request must read
memory whose channel is held (R201, R205, R255). -/
def Block.homeErr (b : Block) (ln : Nat) (reads : Bool) : Option AccErr :=
  if b.failed ln then some .failed
  else if b.busy ln then some .wait
  else if reads && b.readHeld ln then some .wait
  else none

/-- A caching agent's request for a BUSY line stands in the slice's queue, in order of arrival (R255). -/
def Block.queueReq (b : Block) (ln : Nat) (r : HomeReq) : Block :=
  let mine (x : HomeReq) : Bool := x.agent == r.agent && [ReqKind.rdS, .rdX, .upg].contains x.kind
  let l := b.line ln
  if l.queue.any mine || (match l.busy with | some t => mine t.req | none => true) then b
  else b.updLine ln (fun l => { l with queue := l.queue ++ [r] })

/-- A berth is backed where it is VACANT (R192). -/
def Block.ensure (b : Block) (ln : Nat) : Except (AccErr × Block) Block :=
  if (b.berth (ln / 1024)).st = .vacant then
    match b.back (ln / 1024) with
    | .ok c => .ok c
    | .error e => .error (.noFrame e.1, e.2)
  else .ok b

/-- After a grant of M or E on a watched line: the data returns to the slice, the owner keeps S, and every watcher is
told (R261). -/
def Block.lend (b : Block) (a ln : Nat) : Block :=
  if (b.line ln).watchers = [] then b
  else
    match tfind (b.line ln).copies a with
    | none => b.notify ln
    | some c =>
      let b1 := b.putSlice ln c.data true c.poison
      let b2 := b1.updLine ln (fun l => { l with copies := tput l.copies a { c with st := .s }, dir := .shared [a] })
      b2.notify ln

/-- The copy of an agent that may serve a load: its own, or for an L3 one that the keep cache gives up (R22, R259). -/
def Block.fill (b : Block) (a ln : Nat) : Block :=
  if 64 ≤ a ∧ a < 72 ∧ !thas (b.line ln).copies a ∧ thas (b.line ln).copies 72 then
    match tfind (b.line ln).copies 72 with
    | some c =>
      let d := match (b.line ln).dir with
        | .owned o => if o = 72 then Dir.owned a else .owned o
        | .shared s => .shared (sput (s.filter (· != 72)) a)
        | .untracked => .untracked
      ((b.dropCopy 72 ln).updLine ln (fun l => { l with dir := d })).install a ln c
    | none => b
  else b

/-- A load by a caching agent that misses: RD_S with its whole transaction (R256). -/
def Block.loadMiss (b : Block) (a ln : Nat) : Except (AccErr × Block) (Block × Line × Bool) :=
  match b.homeErr ln true with
  | some e => .error (e, b)
  | none =>
    match b.dirEntry ln with
    | none => .error (.wait, b)
    | some b1 =>
      let grant (st : CState) (d : Dir) : Block × Line × Bool :=
        let b2 := b1.fetchSlice ln
        let v := b2.homeValue ln
        ((b2.updLine ln (fun l => { l with dir := d })).install a ln { st := st, data := v.1, poison := v.2 }, v.1, v.2)
      let sole : Block × Line × Bool := let r := grant .e (.owned a); (r.1.lend a ln, r.2)
      match (b1.line ln).dir with
      | .owned o =>
        match tfind (b1.line ln).copies o with
        | some c =>
          let b2 := (b1.mergeCopy o ln).updLine ln
            (fun l => { l with copies := tput l.copies o { c with st := .s }, dir := .shared (sput [o] a) })
          .ok (b2.install a ln { st := .s, data := c.data, poison := c.poison }, c.data, c.poison)
        | none => .ok sole
      | .shared s => .ok (grant .s (.shared (sput s a)))
      | .untracked => .ok sole

/-- A load by a caching agent: a hit in its own cache, which waits for nothing, or a miss; on a BUSY line its RD_S waits in
the slice's queue (R205, R255, R256). -/
def Block.loadLine (b0 : Block) (a ln : Nat) : Except (AccErr × Block) (Block × Line × Bool) :=
  if b0.failed ln then .error (.failed, b0)
  else if b0.busy ln && !thas (b0.line ln).copies a then .error (.wait, b0.queueReq ln { kind := .rdS, agent := a })
  else
    let b := b0.fill a ln
    match tfind (b.line ln).copies a with
    | some c => .ok (b.updPset (agentKey a ln) (fun q => q.hit ln), c.data, c.poison)
    | none => b.loadMiss a ln

/-- A store into a line that the agent holds in M or E: in its own cache, BUSY or not; a watched line that is not lent goes
back to its home at once (R254, R256, R261). -/
def Block.storeHit (b : Block) (a ln : Nat) (mask : W64) (v : Line) (keep : Nat → Bool) (c : Copy) : Block :=
  let b1 := (b.updPset (agentKey a ln) (fun q => q.hit ln)).updLine ln (fun l => { l with
    copies := tput l.copies a { st := .m, data := mergeMask c.data v mask, poison := c.poison && mask != 0xFFFFFFFFFFFFFFFF#64 } })
  (if b.busy ln then b1 else b1.lend a ln).loseRes ln keep

/-- A store by a caching agent without M or E: UPG for a line held in S, else RD_X, with its whole transaction (R256). -/
def Block.storeMiss (b : Block) (a ln : Nat) (mask : W64) (v : Line) (keep : Nat → Bool) : Except (AccErr × Block) Block :=
  let own := tfind (b.line ln).copies a
  match b.homeErr ln own.isNone with
  | some e => .error (e, b)
  | none =>
    match b.dirEntry ln with
    | none => .error (.wait, b)
    | some b1 =>
      let forwards := match (b1.line ln).dir with | .owned o => thas (b1.line ln).copies o | _ => false
      let b2 := if own.isSome || forwards then b1 else b1.fetchSlice ln
      let cur : Line × Bool := match own with | some c => (c.data, c.poison) | none => b2.curValue ln
      let b3 := ((b2.line ln).copies.filter (fun e => e.1 != a)).foldl (fun c e => c.dropCopy e.1 ln) b2
      let b4 := (b3.updLine ln (fun l => { l with dir := .owned a })).install a ln
        { st := .m, data := mergeMask cur.1 v mask, poison := cur.2 && mask != 0xFFFFFFFFFFFFFFFF#64 }
      .ok ((b4.lend a ln).loseRes ln keep)

/-- A store by a caching agent under a byte mask: into a line held in M or E, or after UPG or RD_X; a poisoned line stays
poisoned (R256, R396). The first write to a VACANT berth backs it (R192). On a BUSY line the request waits in the slice's
queue (R255). `keep` says which harts keep a reservation (the writer's own, R244). -/
def Block.storeLine (b0 : Block) (a ln : Nat) (mask : W64) (v : Line) (keep : Nat → Bool) : Except (AccErr × Block) Block :=
  if b0.failed ln then .error (.failed, b0)
  else
    match tfind (b0.line ln).copies a with
    | some { st := .m, data := d, poison := p } => .ok (b0.storeHit a ln mask v keep { st := .m, data := d, poison := p })
    | own =>
      let e := (own.map Copy.st) == some .e
      if b0.busy ln && !e then
        .error (.wait, b0.queueReq ln { kind := if own.isSome then .upg else .rdX, agent := a })
      else
        match b0.ensure ln with
        | .error e => .error e
        | .ok b1 =>
          let b := b1.fill a ln
          match tfind (b.line ln).copies a with
          | some c => if c.st = .s then b.storeMiss a ln mask v keep else .ok (b.storeHit a ln mask v keep c)
          | none => b.storeMiss a ln mask v keep

/-- RD_ONCE: the current value, with no copy left (R256). -/
def Block.readOnce (b : Block) (ln : Nat) : Except AccErr (Block × Line × Bool) :=
  match b.homeErr ln true with
  | some e => .error e
  | none =>
    let v := b.curValue ln
    .ok (match (b.line ln).dir with | .owned o => if thas (b.line ln).copies o then b else b.fetchSlice ln | _ => b.fetchSlice ln, v.1, v.2)

/-- WR_LINE and WR_PART: every copy invalidated, a dirty copy merged under the mask, the line written into the slice,
dirty, and the notices sent. A whole line clears poison; `p` writes it as poison (R256, R261, R397). -/
def Block.write (b : Block) (ln : Nat) (mask : W64) (v : Line) (p : Bool) : Except (AccErr × Block) Block :=
  match b.homeErr ln (mask != 0xFFFFFFFFFFFFFFFF#64) with
  | some e => .error (e, b)
  | none =>
    match b.ensure ln with
    | .error e => .error e
    | .ok b1 =>
      let cur := b1.curValue ln
      let whole := mask == 0xFFFFFFFFFFFFFFFF#64
      let b2 := (b1.line ln).copies.foldl (fun c e => c.dropCopy e.1 ln) b1
      let b3 := (b2.setDir ln .untracked).putSlice ln (mergeMask cur.1 v mask) true (p || (cur.2 && !whole))
      .ok ((b3.notify ln).loseRes ln (fun _ => false))

/-- The operation of a far atomic on `bytes` bytes (R139). -/
def atomNew (op : AtomOp) (bytes : Nat) (old x cmp : Nat) : Nat :=
  let m := 2 ^ (8 * bytes)
  let s (v : Nat) : Int := if v < m / 2 then (v : Int) else (v : Int) - m
  match op with
  | .add => (old + x) % m
  | .and => old &&& x
  | .or => old ||| x
  | .xor => old ^^^ x
  | .min => if s old ≤ s x then old else x
  | .max => if s old ≥ s x then old else x
  | .minu => min old x
  | .maxu => max old x
  | .swap => x
  | .cas => if old = cmp then x else old

/-- A far atomic on `bytes` bytes at the home: copies recalled, the line placed in the slice, the operation applied, the old
value returned; on a poisoned line nothing is written (R258). -/
def Block.atomicAt (b : Block) (ln off bytes : Nat) (op : AtomOp) (x cmp : Nat) : Except (AccErr × Block) (Block × Nat × Bool) :=
  match b.homeErr ln true with
  | some e => .error (e, b)
  | none =>
    match b.ensure ln with
    | .error e => .error e
    | .ok b1 =>
      let m := 2 ^ (8 * bytes)
      let b2 := (b1.recallAll ln).fetchSlice ln
      let v := b2.homeValue ln
      let old := fld v.1 (8 * off) (8 * bytes)
      if v.2 then .ok (b2, old, true)
      else
        let nv := linePut v.1 off bytes (atomNew op bytes old (x % m) (cmp % m))
        let b3 := (b2.putSlice ln nv true false).updTile (tileOf (ln / 2 ^ 34)) (fun t => { t with atomics := t.atomics + 1 })
        .ok ((b3.notify ln).loseRes ln (fun _ => false), old, false)

/-- A far atomic of 4 or 8 bytes (R139, R258). -/
def Block.atomic (b : Block) (ln off : Nat) (w64 : Bool) (op : AtomOp) (x cmp : W64) :
    Except (AccErr × Block) (Block × W64 × Bool) :=
  (b.atomicAt ln off (if w64 then 8 else 4) op x.toNat cmp.toNat).map (fun r => (r.1, BitVec.ofNat 64 r.2.1, r.2.2))

/-- A read beneath the home: the memory copy (R245). -/
def Block.under (b : Block) (ln : Nat) : Except AccErr (Line × Bool) :=
  if b.failed ln then .error .failed else if b.chanHeld ln then .error .wait else .ok (b.memLine ln)

/-- A write beneath the home under a byte mask: no cached copy changes; a first write backs the berth (R192, R245). -/
def Block.putUnder (b : Block) (ln : Nat) (mask : W64) (v : Line) (p : Bool) : Except (AccErr × Block) Block :=
  if b.failed ln then .error (.failed, b)
  else if b.chanHeld ln then .error (.wait, b)
  else
    match b.ensure ln with
    | .error e => .error e
    | .ok b1 =>
      let cur := b1.memLine ln
      let whole := mask == 0xFFFFFFFFFFFFFFFF#64
      .ok (b1.putMem ln (mergeMask cur.1 v mask) (p || (cur.2 && !whole)))

/-- The value of n bytes at a physical address through RD_ONCE, within one line; none when not served or poisoned. -/
def Block.peek (b : Block) (pa n : Nat) : Option Nat :=
  match b.dom pa with
  | none => none
  | some a =>
    if b.failed (a / 64) then none
    else let v := b.curValue (a / 64); if v.2 then none else some (fld v.1 (8 * (a % 64)) (8 * n))

/-- Bytes of consecutive lines through RD_ONCE, none when one is not served or poisoned. -/
def Block.peekLines (b : Block) (pa : Nat) : Nat → Option (List Line)
  | 0 => some []
  | k + 1 =>
    match b.dom pa with
    | none => none
    | some a =>
      let v := b.curValue (a / 64)
      if b.failed (a / 64) || v.2 then none
      else (b.peekLines (pa + 64) k).map (v.1 :: ·)

/-- A write of n bytes by the device through the home, within one line; the flag tells whether it was performed. -/
def Block.poke (b : Block) (pa n v : Nat) : Block × Bool :=
  match b.dom pa with
  | none => (b, false)
  | some a =>
    match b.write (a / 64) (byteMask (a % 64) n) (linePut 0 (a % 64) n v) false with
    | .ok c => (c, true)
    | .error e => (e.2, false)

/-! ### Routes over the chain-link mesh (R27, R29, R32, R34) -/

/-- Horizontal link between columns c and c + 1 of row r. -/
def linkH (r c : Nat) : Nat := r * 2 + c
/-- Vertical link between rows r and r + 1 of column c. -/
def linkV (r c : Nat) : Nat := 6 + c * 2 + r
/-- The two tiles of a link, the lower-numbered first (R27). -/
def linkTiles (i : Nat) : Nat × Nat :=
  if i < 6 then (i / 2 * 3 + i % 2, i / 2 * 3 + i % 2 + 1) else ((i - 6) % 2 * 3 + (i - 6) / 2, ((i - 6) % 2 + 1) * 3 + (i - 6) / 2)
/-- Links of a dimension-ordered route between two tiles: along the row, then along the column (R29). -/
def route (a z : Nat) : List Nat :=
  let ra := a / 3; let ca := a % 3; let rz := z / 3; let cz := z % 3
  (List.range (max ca cz - min ca cz)).map (fun i => linkH ra (min ca cz + i)) ++
  (List.range (max ra rz - min ra rz)).map (fun i => linkV (min ra rz + i) cz)
/-- The tile of a logical lantern (R20). -/
def lampTile (l : Nat) : Nat := tileOf (l / 8)
/-- The tile of a stack (R20). -/
def stackTile (s : Nat) : Nat := tileOf (s / 2)
/-- The tile of a group member: a lantern, or 64 + stack. -/
def memberTile (m : Nat) : Nat := if m < 64 then lampTile m else stackTile (m - 64)
/-- Mask of the links that are DOWN. -/
def Block.downMask (b : Block) : Nat := ((List.range 12).map (fun i => if (b.link i).st = .down then 2 ^ i else 0)).sum
/-- The tile at the other end of a link, where the link touches a tile. -/
def linkOther (t i : Nat) : Option Nat :=
  if (linkTiles i).1 = t then some (linkTiles i).2 else if (linkTiles i).2 = t then some (linkTiles i).1 else none
/-- Whether a list of links leads from a tile to a tile over links that are not DOWN. -/
def Block.leads (b : Block) (z : Nat) : Nat → List Nat → Bool
  | a, [] => a == z
  | a, i :: p => (b.link i).st != .down && (match linkOther a i with | some t => b.leads z t p | none => false)
/-- A path of at most n links from a tile to a tile over links that are not DOWN. -/
def Block.pathIn (b : Block) : Nat → Nat → Nat → Option (List Nat)
  | 0, a, z => if a = z then some [] else none
  | n + 1, a, z =>
    if a = z then some []
    else (List.range 12).findSome? (fun i =>
      if (b.link i).st = .down then none
      else match linkOther a i with | some t => (b.pathIn n t z).map (i :: ·) | none => none)
/-- The detour of a pair of tiles: the hub's own choice where that is a path of at most 6 links that are not DOWN, else a shortest
such path (R32, R34; log entry 32). -/
def Block.detourOf (b : Block) (a z : Nat) : List Nat :=
  let p := Config.detour b.downMask a z
  if p.length ≤ 6 ∧ b.leads z a p then p
  else ((List.range 7).findSome? (fun n => b.pathIn n a z)).getD []
/-- Whether traffic between two tiles runs on the detour set: a link of its dimension-ordered route is DOWN (R29, R32). -/
def Block.onDetour (b : Block) (a z : Nat) : Bool := (route a z).any (fun i => (b.link i).st == .down)
/-- The links that data between two tiles cross, detours included (R29, R32). -/
def Block.dataRoute (b : Block) (a z : Nat) : List Nat := if b.onDetour a z then b.detourOf a z else route a z
/-- Links of a path with their directions: 0 away from the link's lower-numbered tile. -/
def pathDirs : Nat → List Nat → List (Nat × Nat)
  | _, [] => []
  | a, i :: p => (i, if (linkTiles i).1 = a then 0 else 1) :: pathDirs ((linkOther a i).getD a) p
/-- Whether data between two tiles wait: a link of their path is held (R32). -/
def Block.pathHeld (b : Block) (a z : Nat) : Bool := (b.dataRoute a z).any (fun i => (b.link i).held)

end Sys2Proof.Machine
end

