-- ==== Sys2Proof/Machine/Serve.lean ====
section
/-! DEFINITION. Requests at their home (11 R254 to R261): serving one, the slice's queue behind a BUSY line, and the end of a
transaction. -/

namespace Sys2Proof.Machine

/-- Puts a transaction in flight. -/
def Block.setTxn (b : Block) (ln : Nat) (t : Txn) : Block := b.updLine ln (fun l => { l with busy := some t })
/-- Changes the transaction in flight. -/
def Block.updTxn (b : Block) (ln : Nat) (f : Txn → Txn) : Block := b.updLine ln (fun l => { l with busy := l.busy.map f })

/-- WR_LINE or WR_PART is applied in the slice, and the watchers are told (R256, R261). -/
def Block.applyWrite (b : Block) (ln : Nat) (r : HomeReq) : Block :=
  let cur := b.homeValue ln
  let mask := if r.kind = .wrLine then 0xFFFFFFFFFFFFFFFF#64 else r.mask
  let b1 := (b.setDir ln .untracked).putSlice ln (mergeMask cur.1 r.data mask) true (cur.2 && mask != 0xFFFFFFFFFFFFFFFF#64)
  (b1.notify ln).loseRes ln (fun _ => false)

/-- A far atomic is applied in the slice; the old value goes out in ATOM_DATA; a poisoned line is not written (R258). -/
def Block.applyAtom (b : Block) (ln : Nat) (r : HomeReq) : Block :=
  let b1 := (b.setDir ln .untracked).fetchSlice ln
  let v := b1.homeValue ln
  let bytes := if r.w64 then 8 else 4
  let m := 2 ^ (8 * bytes)
  let old := fld v.1 (8 * r.off) (8 * bytes)
  let b2 := b1.updLine ln (fun l => { l with atomOld := BitVec.ofNat 64 old })
  if v.2 then b2
  else
    let nv := linePut v.1 r.off bytes (atomNew r.op bytes old (r.x.toNat % m) (r.cmp.toNat % m))
    let b3 := (b2.putSlice ln nv true false).updTile (tileOf (ln / 2 ^ 34)) (fun t => { t with atomics := t.atomics + 1 })
    (b3.notify ln).loseRes ln (fun _ => false)

/-- Serves RD_X, or a UPG whose requester no longer holds the line: the others' copies are snooped, M is granted (R256). -/
def Block.serveX (b : Block) (ln : Nat) (r : HomeReq) : Block :=
  match b.ensure ln with
  | .error e => e.2
  | .ok b0 =>
    let b1 := (b0.dirEntry ln).getD b0
    let d := (b1.line ln).dir
    let own (c : Block) : Block := c.updLine ln (fun l => { l with dir := .owned r.agent })
    let home (c : Block) (snps : List (Nat × Snoop)) : Block :=
      let c1 := c.fetchSlice ln
      (own c1).setTxn ln { req := r, snoops := snps, data := some (c1.homeValue ln), gives := some .m }
    match d with
    | .owned o => if o = r.agent then home b1 [] else (own b1).setTxn ln { req := r, snoops := [(o, .fwdX)], gives := some .m }
    | .shared s => home b1 ((s.filter (· != r.agent)).map (fun o => (o, Snoop.inv)))
    | .untracked => home b1 []

/-- Serves a request on a line that is not BUSY (R256, R258, R260). A FAILED berth refuses it, but for a watch (R201). -/
def Block.serve (b : Block) (ln : Nat) (r : HomeReq) : Block :=
  if b.failed ln && !r.kind.watches then b
  else
    let home (c : Block) (g : Option CState) (d : Dir) : Block :=
      let c1 := c.fetchSlice ln
      (c1.updLine ln (fun l => { l with dir := d })).setTxn ln { req := r, data := some (c1.homeValue ln), gives := g }
    match r.kind with
    | .rdS =>
      let b1 := (b.dirEntry ln).getD b
      (match (b1.line ln).dir with
       | .owned o =>
         if o = r.agent then home b1 (some .e) (.owned r.agent)
         else b1.setTxn ln { req := r, snoops := [(o, .fwdS)], gives := some .s }
       | .shared s => home b1 (some .s) (.shared (sput s r.agent))
       | .untracked => home b1 (some .e) (.owned r.agent))
    | .rdX => b.serveX ln r
    | .upg =>
      (match (b.line ln).dir with
       | .shared s =>
         if thas (b.line ln).copies r.agent then
           match b.ensure ln with
           | .error e => e.2
           | .ok b1 => (b1.updLine ln (fun l => { l with dir := .owned r.agent })).setTxn ln
               { req := r, snoops := (s.filter (· != r.agent)).map (fun o => (o, Snoop.inv)), grant := true, gives := some .m }
         else b.serveX ln r
       | _ => b.serveX ln r)
    | .rdOnce =>
      (match (b.line ln).dir with
       | .owned o => b.setTxn ln { req := r, snoops := [(o, .peek)] }
       | d => home b none d)
    | .wrLine | .wrPart | .atom =>
      (match b.ensure ln with
       | .error e => e.2
       | .ok b1 =>
         let apply (c : Block) : Block := if r.kind = .atom then c.applyAtom ln r else c.applyWrite ln r
         match (b1.line ln).dir with
         | .owned o => b1.setTxn ln { req := r, snoops := [(o, if r.kind = .wrLine then .inv else .recall)] }
         | .shared s => b1.setTxn ln { req := r, snoops := s.map (fun o => (o, Snoop.inv)) }
         | .untracked => apply b1)
    | .watch => (b.watch r.agent ln).getD (b.watchRefused ln)
    | .unwatch => b.unwatch r.agent ln

/-- Whether a request waits in the slice's queue though its line is not BUSY: it must read memory whose channel is held
(R205), or it needs a directory entry and every way of the set is BUSY (R253, R259). -/
def Block.reqWaits (b : Block) (ln : Nat) (r : HomeReq) : Bool :=
  !b.failed ln &&
  (match r.kind with
   | .rdS | .rdX => b.readHeld ln || (b.dirEntry ln).isNone
   | .upg => !thas (b.line ln).copies r.agent && (b.readHeld ln || (b.dirEntry ln).isNone)
   | .rdOnce | .wrPart | .atom => b.readHeld ln
   | .wrLine | .watch | .unwatch => false)

/-- Serves the requests that wait on a line until one makes it BUSY or must wait (R255). -/
def Block.serveNext (ln : Nat) : Nat → Block → Block
  | 0, b => b
  | k + 1, b =>
    let l := b.line ln
    match l.busy, l.queue with
    | none, r :: t =>
      if b.reqWaits ln r then b
      else Block.serveNext ln k ((b.updLine ln (fun x => { x with queue := t })).serve ln r)
    | _, _ => b

/-- Serves what waits on every line that is not BUSY: a hold has ended, or a directory way is free (R205, R259). -/
def Block.serveWaiting (b : Block) : Block :=
  (b.lines.filter (fun (e : Nat × LineSt) => e.2.queue != [])).foldl
    (fun (c : Block) (e : Nat × LineSt) => Block.serveNext e.1 (c.line e.1).queue.length c) b

/-! ### Writes that a port owes (13 R298) -/

/-- Performs owed writes in order until one has to wait. -/
def Block.payOwed (p : Nat) : Nat → Block → Block
  | 0, b => b
  | k + 1, b =>
    match (b.port p).owed with
    | [] => b
    | o :: t =>
      let pop (c : Block) : Block := c.updPort p (fun y => { y with owed := t })
      match b.dom o.pa with
      | none => Block.payOwed p k (pop b)
      | some a =>
        match b.write (a / 64) (byteMask (a % 64) o.n) (linePut 0 (a % 64) o.n o.v.toNat) false with
        | .error (.wait, _) => b
        | .error (_, c) => Block.payOwed p k (pop c)
        | .ok c =>
          let d := pop c
          Block.payOwed p k (match o.msi with | some m => d.msi m.1 m.2 .deviceWriteLost [p] | none => d)

/-- A transaction ends: the line leaves BUSY and the next request is served; other lines may have waited for its directory
way, and the writes that a port owes for the line (R255, R259, R298). -/
def Block.endTxn (b : Block) (ln : Nat) : Block :=
  let n := (b.line ln).queue.length
  let c := (Block.serveNext ln n (b.updLine ln (fun l => { l with busy := none }))).serveWaiting
  [0, 1].foldl (fun (a : Block) p => Block.payOwed p (a.port p).owed.length a) c

/-- Once every snoop of a write or an atomic is answered, it is applied and its transaction ends (R256, R258). -/
def Block.progress (b : Block) (ln : Nat) : Block :=
  match (b.line ln).busy with
  | none => b
  | some t =>
    if t.snoops ≠ [] ∨ t.acks ≠ [] ∨ t.downs ≠ [] then b
    else
      match t.req.kind with
      | .wrLine | .wrPart => (b.applyWrite ln t.req).endTxn ln
      | .atom => (b.applyAtom ln t.req).endTxn ln
      | _ => b

end Sys2Proof.Machine
end

