-- ==== Sys2Proof/Machine/Chart.lean ====
section
/-! DEFINITION. Translation in a chart unit: lookup, mirror and offset walks (09 R211 to R221), footprints (05 R129),
fault batches (09 R222 to R226), references and withdrawal (09 R227 to R229). -/

namespace Sys2Proof.Machine

/-! ### Coherent reads of the driver's tables -/

/-- Why a coherent read is not served. -/
inductive RdErr where
  | wait
  | poison
  | unmapped
  | failed
deriving DecidableEq, Repr

/-- The bytes of buffered stores over a line, oldest first (R236). -/
def overlay (stores : List Buffered) (pa : Nat) (v : Line) : Line :=
  stores.foldl (fun a s => if s.pa / 64 = pa / 64 then linePut a (s.pa % 64) s.size s.data.toNat else a) v

/-- A coherent read of n bytes within one line at its home, under stores that the reader sees before they perform; no copy is
left (R214, R236, R256 RD_ONCE). -/
def Block.readOver (b : Block) (stores : List Buffered) (pa n : Nat) : Except RdErr Nat :=
  match b.dom pa with
  | none => .error .unmapped
  | some a =>
    match b.homeErr (a / 64) true with
    | some .failed => .error .failed
    | some _ => .error .wait
    | none =>
      let v := b.curValue (a / 64)
      if v.2 then .error .poison else .ok (fld (overlay stores pa v.1) (8 * (pa % 64)) (8 * n))

/-- A coherent read by the device. -/
def Block.readAt (b : Block) (pa n : Nat) : Except RdErr Nat := b.readOver [] pa n

/-- A coherent read of up to 64 bytes that may lie in two lines. -/
def Block.readBytes (b : Block) (pa n : Nat) : Except RdErr Nat :=
  let k := 64 - pa % 64
  if n ≤ k then b.readAt pa n
  else
    match b.readAt pa k, b.readAt (pa + k) (n - k) with
    | .ok v, .ok w => .ok (v + w * 2 ^ (8 * k))
    | .error e, _ => .error e
    | _, .error e => .error e

/-- A coherent read by a lantern, its die's buffered stores in it (R236, R237). -/
def Block.lampRead (b : Block) (l pa n : Nat) : Except RdErr Nat := b.readOver (b.lantern l).stores pa n

/-- What a coherent read does at the home: its slice is touched or filled (R253, R256). -/
def Block.homeRead (b : Block) (pa : Nat) : Block :=
  match b.dom pa with
  | none => b
  | some a =>
    match b.readOnce (a / 64) with
    | .ok r => r.1
    | .error _ => b

/-- Consecutive words of n bytes. -/
def Block.wordsOver (b : Block) (stores : List Buffered) (n : Nat) : Nat → Nat → Except RdErr (List Nat)
  | _, 0 => .ok []
  | pa, k + 1 =>
    match b.readOver stores pa n with
    | .error e => .error e
    | .ok v =>
      match b.wordsOver stores n (pa + n) k with
      | .error e => .error e
      | .ok t => .ok (v :: t)

/-- Consecutive words read by the device. -/
def Block.readWords (b : Block) (n pa k : Nat) : Except RdErr (List Nat) := b.wordsOver [] n pa k
/-- Consecutive words read by a lantern. -/
def Block.lampWords (b : Block) (l n pa k : Nat) : Except RdErr (List Nat) := b.wordsOver (b.lantern l).stores n pa k

/-! ### Table entries (R213 to R219) -/

/-- Canonical virtual address: bits [63:57] equal bit 56 (R213). -/
def canonical (va : Nat) : Bool := decide (va < 2 ^ 56 ∨ (2 ^ 64 - 2 ^ 56 ≤ va ∧ va < 2 ^ 64))
/-- Whether a physical range meets the device register regions (R234). -/
def meetsDevice (pa len : Nat) : Bool := decide (pa < 0x4010000000000 ∧ 0x4000000000000 < pa + len)
/-- Bytes of a page of a level (R214). -/
def pageSize (level : Nat) : Nat := 2 ^ (12 + 9 * level)

/-- Fault causes of R223. -/
def causeNotMapped : Nat := 1
def causeNoRead : Nat := 2
def causeNoWrite : Nat := 3
def causeNoExec : Nat := 4
def causeNotRange : Nat := 5
def causeBadEntry : Nat := 6
def causeWalkError : Nat := 7
def causeNoWindow : Nat := 8
def causeBadVa : Nat := 9

/-- Whether a mirror-mode entry with V set breaks the map of R215 at its level. -/
def pteBad (level : Nat) (e : W64) : Bool :=
  let k := fld e 4 2
  let pa := fld e 12 45 * 4096
  fld e 57 7 != 0 || fld e 52 5 != 0 || k == 3 || (k == 0 && level == 0) || (k == 1 && level == 3) ||
  (k != 1 && (fld e 1 3 != 0 || bit e 6)) || (k != 2 && fld e 7 5 != 0) ||
  (k == 1 && ((bit e 2 && !bit e 1) || pa % pageSize level != 0 || meetsDevice pa (pageSize level)))

/-- The translation of a 32-byte range descriptor or window, given its physical base; none where it breaks R216 or
R219 (a window's V is checked by the caller). -/
def rangeXl (c : Nat) (d : BitVec 256) (pa : Nat) (paOk : Bool) : Option Xl :=
  let va := fld d 64 64
  let len := fld d 128 64
  if bit d 0 && fld d 4 60 == 0 && !(bit d 2 && !bit d 1) && canonical va && va % 65536 == 0 && len % 65536 == 0 &&
      decide (65536 ≤ len ∧ len ≤ 2 ^ 46 ∧ pa + len ≤ 2 ^ 52) && paOk && !meetsDevice pa len then
    some { ctx := c, va := va, len := len, pa := pa, r := bit d 1, w := bit d 2, x := bit d 3 }
  else none

/-- Whether a translation covers an address of a context. -/
def Xl.covers (x : Xl) (c va : Nat) : Bool := decide (x.ctx = c ∧ x.va ≤ va ∧ va < x.va + x.len)
/-- Whether a translation of a context meets a range, even partly (R228). -/
def Xl.meets (x : Xl) (c va len : Nat) : Bool := decide (x.ctx = c ∧ x.va < va + len ∧ va < x.va + x.len)

/-- What a walk ends in. -/
inductive WalkRes where
  | range (x : Xl)
  | page (level : Nat) (x : Xl) (hinted merged : Bool)
  | fault (cause : Nat) (ev : Option (Ev × Nat))
  | wait
deriving DecidableEq, Repr

/-- A read of a table that is not served (R221). -/
def tableErr (e : RdErr) (pa : Nat) : WalkRes :=
  match e with
  | .wait => .wait
  | .poison => .fault causeWalkError (some (.tablePoison, pa))
  | .unmapped => .fault causeWalkError (some (.tableUnreadable, pa))
  | .failed => .fault causeWalkError (some (.tableUnreadable, pa))

/-- The entry of one page (R215). -/
def pageXl (c va level : Nat) (e : W64) : Xl :=
  { ctx := c, va := va / pageSize level * pageSize level, len := pageSize level, pa := fld e 12 45 * 4096,
    r := bit e 1, w := bit e 2, x := bit e 3 }

/-- The merged entry of a run of 16 pages, none where a condition of R217 fails. -/
def runXl (c va level : Nat) (es : List Nat) : Option Xl :=
  match es.map (BitVec.ofNat 64) with
  | [] => none
  | e0 :: t =>
    let p0 := fld e0 12 45 * 4096
    let ok := ((e0 :: t).zipIdx).all (fun (e : W64 × Nat) =>
      bit e.1 0 && fld e.1 4 2 == 1 && bit e.1 6 && !pteBad level e.1 && fld e.1 1 3 == fld e0 1 3 &&
      fld e.1 12 45 * 4096 == p0 + e.2 * pageSize level)
    if ok && p0 % (16 * pageSize level) == 0 then
      some { ctx := c, va := va / (16 * pageSize level) * (16 * pageSize level), len := 16 * pageSize level, pa := p0,
             r := bit e0 1, w := bit e0 2, x := bit e0 3 }
    else none

/-- The first of k lines of a table that is not served to a lantern. -/
def Block.badLine (b : Block) (l pa : Nat) : Nat → Option (RdErr × Nat)
  | 0 => none
  | k + 1 =>
    match b.lampRead l pa 1 with
    | .error e => some (e, pa)
    | .ok _ => b.badLine l (pa + 64) k

/-- The mirror-mode walk of a lantern's chart from a table of a level: the result, the non-leaf entries passed, and the
addresses read (R214 to R217). -/
def Block.walkFrom (b : Block) (l c va : Nat) : Nat → Nat → WalkRes × List WalkEntry × List Nat
  | level, table =>
    let idx := va / pageSize level % (if level = 3 then 262144 else 512)
    let at_ := table + 8 * idx
    match b.lampRead l at_ 8 with
    | .error e => (tableErr e at_, [], [])
    | .ok v =>
      let e : W64 := BitVec.ofNat 64 v
      if !bit e 0 then (.fault causeNotMapped none, [], [at_])
      else if pteBad level e then (.fault causeBadEntry none, [], [at_])
      else if fld e 4 2 = 2 then
        let d := fld e 7 50 * 128
        match b.lampRead l d 32 with
        | .error x => (tableErr x d, [], [at_])
        | .ok w =>
          let dv : BitVec 256 := BitVec.ofNat 256 w
          match rangeXl c dv (fld dv 192 64) (fld dv 192 64 % 65536 == 0) with
          | some x => if x.covers c va then (.range x, [], [at_, d]) else (.fault causeBadEntry none, [], [at_, d])
          | none => (.fault causeBadEntry none, [], [at_, d])
      else if fld e 4 2 = 1 then
        if bit e 6 then
          let run := at_ / 128 * 128
          match b.badLine l run 2 with
          | some (x, bad) => (tableErr x bad, [], [at_])
          | none =>
            match b.lampWords l 8 run 16 with
            | .error x => (tableErr x run, [], [at_])
            | .ok es =>
              match runXl c va level es with
              | some x => (.page level x true true, [], [run, run + 64])
              | none => (.page level (pageXl c va level e) true false, [], [run, run + 64])
        else (.page level (pageXl c va level e) false false, [], [at_])
      else
        match level with
        | 0 => (.fault causeBadEntry none, [], [at_])
        | k + 1 =>
          let next := fld e 12 45 * 4096
          let r := b.walkFrom l c va k next
          (r.1, { ctx := c, level := k, va := va / pageSize (k + 1) * pageSize (k + 1), table := next } :: r.2.1, at_ :: r.2.2)

/-- The window that holds an address in offset mode (R219). -/
def windowRes (c va : Nat) (ds : List (BitVec 256)) : WalkRes :=
  let live := ds.filter (fun d => bit d 0)
  let inside (d : BitVec 256) : Bool := decide (fld d 64 64 ≤ va ∧ va < fld d 64 64 + fld d 128 64)
  match live.zipIdx.find? (fun (d : BitVec 256 × Nat) => inside d.1) with
  | none => .fault causeNoWindow none
  | some (d, i) =>
    let overlap := live.zipIdx.any (fun (o : BitVec 256 × Nat) =>
      o.2 != i && decide (fld o.1 64 64 < fld d 64 64 + fld d 128 64 ∧ fld d 64 64 < fld o.1 64 64 + fld o.1 128 64))
    match rangeXl c d ((fld d 64 64 + fld d 192 64) % 2 ^ 64) (fld d 192 64 % 65536 == 0) with
    | some x => if overlap then .fault causeBadEntry none else .range x
    | none => .fault causeBadEntry none

/-- A walk for a context: from the deepest cached non-leaf entry or the root, or the window table (R211, R219, R221). -/
def Block.walk (b : Block) (l c va : Nat) : WalkRes × List WalkEntry × List Nat :=
  let x := b.ctx c
  if x.offset then
    match b.badLine l x.xroot 8 with
    | some (e, pa) => (tableErr e pa, [], [])
    | none =>
      match b.lampWords l 32 x.xroot 16 with
      | .error e => (tableErr e x.xroot, [], [])
      | .ok ds => (windowRes c va (ds.map (BitVec.ofNat 256)), [], (List.range 8).map (fun i => x.xroot + 64 * i))
  else
    let held (k : Nat) : Option WalkEntry := (b.chart l).walks.find? (fun (w : WalkEntry) =>
      decide (w.ctx = c ∧ w.level = k ∧ w.va = va / pageSize (k + 1) * pageSize (k + 1)))
    match held 0 with
    | some w => b.walkFrom l c va 0 w.table
    | none =>
      match held 1 with
      | some w => b.walkFrom l c va 1 w.table
      | none =>
        match held 2 with
        | some w => b.walkFrom l c va 2 w.table
        | none => b.walkFrom l c va 3 x.xroot

/-! ### Lookup structures (R211, R212) -/

/-- TLB set of an address for a page class; the run of 16 pages that holds the page names the set (log entry 24). -/
def tlbSet (c level va : Nat) : Nat := Config.tlbHash c level (va / (16 * pageSize level)) % 512

/-- The TLB entry that matches, with its set and way. -/
def Chart.tlbFind (t : Chart) (c va : Nat) : List Nat → Option (Nat × Nat × Xl)
  | [] => none
  | k :: ks =>
    let s := tlbSet c k va
    match (tget {} t.tlb s).ways.find? (fun (e : Nat × Xl) => e.2.covers c va && (e.2.len == pageSize k || e.2.len == 16 * pageSize k)) with
    | some e => some (s, e.1, e.2)
    | none => t.tlbFind c va ks

/-- Puts a translation into the TLB: the lowest free way, else the tree's victim. -/
def Chart.tlbPut (t : Chart) (level va : Nat) (x : Xl) : Chart :=
  let s := tlbSet x.ctx level va
  let p := tget {} t.tlb s
  let w := match (List.range 8).find? (fun i => !thas p.ways i) with
    | some i => i
    | none => plruVictim p.bits 3 0 0
  { t with tlb := tput t.tlb s { ways := tput p.ways w x, bits := plruTouch p.bits w 3 0 } }

/-- Makes a range entry the most recent of at most 64. -/
def Chart.rangePut (t : Chart) (x : Xl) : Chart := { t with ranges := (x :: t.ranges.filter (· != x)).take 64 }

/-- Keeps non-leaf entries, most recent first, at most 64. -/
def Chart.walkPut (t : Chart) (ws : List WalkEntry) : Chart :=
  { t with walks := (ws.reverse ++ t.walks.filter (fun w => !ws.contains w)).take 64 }

/-- Drops every entry that satisfies a test of context and covered range. -/
def Chart.dropIf (t : Chart) (hit : Nat → Nat → Nat → Bool) : Chart :=
  { t with
    ranges := t.ranges.filter (fun x => !hit x.ctx x.va x.len)
    walks := t.walks.filter (fun w => !hit w.ctx w.va (pageSize (w.level + 1)))
    tlb := t.tlb.map (fun (e : Nat × TlbSet) =>
      (e.1, { e.2 with ways := e.2.ways.filter (fun (x : Nat × Xl) => !hit x.2.ctx x.2.va x.2.len) })) }

/-- What a translation gives: a physical address by an entry; a fault with the entry that lacked permission; or the
walk waits. -/
inductive Tr where
  | ok (pa : Nat) (x : Xl)
  | fault (cause : Nat) (denied : Option Xl)
  | wait
deriving DecidableEq, Repr

/-- The permission an access lacks under an entry (R213, ACCESS codes of R223). -/
def lacks (access : Nat) (x : Xl) : Option Nat :=
  if access = 1 then (if x.x then none else some causeNoExec)
  else if [3, 6, 8].contains access then (if x.w then none else some causeNoWrite)
  else if access = 4 then (if !x.r then some causeNoRead else if x.w then none else some causeNoWrite)
  else (if x.r then none else some causeNoRead)

/-- A fault drops every entry of the context that covers the address (R221). -/
def Block.faultDrop (b : Block) (l c va : Nat) : Block :=
  b.updChart l (fun t => t.dropIf (fun c' v n => decide (c' = c ∧ v ≤ va ∧ va < v + n)))

/-- Permission and physical address under an entry. -/
def Block.useXl (b : Block) (l c va access : Nat) (x : Xl) : Block × Tr :=
  match lacks access x with
  | some cause => (b.faultDrop l c va, .fault cause (some x))
  | none => (b, .ok (x.pa + (va - x.va)) x)

/-- One translation: range entries, then the TLB (never for a sinker region, never in offset mode), then a walk (R212,
R216, R219, R221). -/
def Block.translate (b : Block) (l c va access : Nat) (rangeOnly : Bool) : Block × Tr :=
  if !canonical va then (b.faultDrop l c va, .fault causeBadVa none)
  else
    let t := b.chart l
    match t.ranges.find? (fun (x : Xl) => x.covers c va) with
    | some x => (b.setChart l (t.rangePut x)).useXl l c va access x
    | none =>
      match if rangeOnly || (b.ctx c).offset then none else t.tlbFind c va [0, 1, 2] with
      | some (s, w, x) =>
        (b.setChart l { t with tlb := tput t.tlb s (let p := tget {} t.tlb s; { p with bits := plruTouch p.bits w 3 0 }) }).useXl
          l c va access x
      | none =>
        let r := b.walk l c va
        let b1 := (r.2.2.foldl Block.homeRead b).updChart l (fun t => { t with tlbMisses := t.tlbMisses + 1 })
        let b2 := b1.updChart l (fun t => { t with nwalks := t.nwalks + 1 })
        match r.1 with
        | .wait => (b, .wait)
        | .fault cause ev =>
          let b3 := match ev with
            | some (e, pa) => b2.raise (unitNo 0x20 l) e [c, pa]
            | none => b2
          (b3.faultDrop l c va, .fault cause none)
        | .range x =>
          ((b2.updChart l (fun t => { (t.walkPut r.2.1).rangePut x with rangeLoads := t.rangeLoads + 1 }))).useXl l c va access x
        | .page level x hinted merged =>
          if rangeOnly then (b2.faultDrop l c va, .fault causeNotRange none)
          else
            (b2.updChart l (fun t =>
              { (t.walkPut r.2.1).tlbPut level va x with
                runMerges := t.runMerges + (if merged then 1 else 0)
                runMismatches := t.runMismatches + (if hinted && !merged then 1 else 0) })).useXl l c va access x

/-! ### Footprints (R129) -/

/-- What a footprint check has found so far. -/
structure Foot where
  /-- distinct translations found -/
  xs : List Xl := []
  /-- faults to record, in footprint order: cause and address of the page -/
  faults : List (Nat × Nat) := []
  /-- distinct pages that miss -/
  misses : Nat := 0
  /-- physical page of each virtual page found -/
  pages : Tab Nat := []
  wait : Bool := false
deriving DecidableEq, Repr

/-- The 4 KiB pages of a range. -/
def pagesOf (va len : Nat) : List Nat :=
  if len = 0 then [] else (List.range ((va + len - 1) / 4096 - va / 4096 + 1)).map (fun i => (va / 4096 + i) * 4096)

/-- Checks one page of a footprint. -/
def Block.footPage (l c access : Nat) (rangeOnly : Bool) (s : Block × Foot) (page : Nat) : Block × Foot :=
  let va := page % 2 ^ 64
  if thas s.2.pages va || s.2.wait then s
  else
    match s.1.translate l c va access rangeOnly with
    | (b1, .ok pa x) =>
      (b1, { s.2 with xs := if s.2.xs.contains x then s.2.xs else x :: s.2.xs, pages := tput s.2.pages va (pa / 4096 * 4096) })
    | (b1, .fault cause (some x)) =>
      if s.2.xs.contains x then (b1, s.2)
      else (b1, { s.2 with xs := x :: s.2.xs, faults := s.2.faults ++ [(cause, va)] })
    | (b1, .fault cause none) =>
      if s.2.faults.contains (cause, va) then (b1, s.2)
      else (b1, { s.2 with misses := s.2.misses + 1, faults := s.2.faults ++ [(cause, va)] })
    | (b1, .wait) => (b1, { s.2 with wait := true })

/-- Checks the footprint of byte ranges (virtual address, length). -/
def Block.footprint (b : Block) (l c access : Nat) (rangeOnly : Bool) (rs : List (Nat × Nat)) : Block × Foot :=
  ((rs.map (fun r => pagesOf r.1 r.2)).flatten).foldl (Block.footPage l c access rangeOnly) (b, {})

/-- The physical address behind a virtual address of a checked footprint. -/
def Foot.pa (f : Foot) (va : Nat) : Nat := tget 0 f.pages (va / 4096 * 4096) + va % 4096

/-! ### Requests that end (R111, R112, R119, R398) -/

/-- Number of a hardware context. -/
def hwNo (l h : Nat) : Nat := l * 4 + h

/-- Number of a request: queue × 2^32 + record (R105). -/
def Hw.req (w : Hw) : Nat := w.queue * 2 ^ 32 + w.record

/-! ### Scoreboard entries, tallies and chart references of what is in flight (R122, R227) -/

/-- Removes the ranges of a transfer. -/
def Block.boardDel (b : Block) (k id : Nat) : Block :=
  b.updHw k (fun w => { w with board := w.board.filter (fun e => e.1 != id) })
/-- A tally (R122). -/
def Hw.tally (w : Hw) (i : Nat) : Nat := tget 0 w.tallies i
/-- Increments a tally at issue. -/
def Block.tallyUp (b : Block) (k i : Nat) : Block := b.updHw k (fun w => { w with tallies := tput w.tallies i (w.tally i + 1) })
/-- Decrements a tally when the operation has performed all its writes. -/
def Block.tallyDown (b : Block) (k i : Nat) : Block := b.updHw k (fun w => { w with tallies := tput w.tallies i (w.tally i - 1) })
/-- Takes a reference on the current epoch for a transfer or descriptor. -/
def Block.addRef (b : Block) (l id : Nat) : Block := b.updChart l (fun t => { t with refs := t.refs ++ [(t.epoch, id)] })
/-- Releases the reference of a transfer or descriptor. -/
def Block.dropRef (b : Block) (l id : Nat) : Block := b.updChart l (fun t => { t with refs := t.refs.filter (fun r => r.2 != id) })

/-- A SINK that waits at issue for room in its sinker's queue is withdrawn: it has not been issued (R119, R169). -/
def Block.withdrawSinks (b : Block) (k : Nat) : Block :=
  let mine (o : SinkOp) : Bool := !o.admitted && o.tally.isSome && hwNo o.lantern o.hw == k
  let out := (b.sinkers.map (fun (e : Nat × Sinker) => e.2.ops.filter mine)).flatten
  out.foldl (fun (c : Block) (o : SinkOp) => ((c.boardDel k o.id).dropRef (k / 4) o.id).tallyDown k (o.tally.getD 0))
    (if out = [] then b
     else { b with sinkers := b.sinkers.map (fun (e : Nat × Sinker) =>
              (e.1, { e.2 with ops := e.2.ops.filter (fun (o : SinkOp) => !mine o) })) })

/-- Ends the program of a hardware context with a status; one that has already ended otherwise than OK keeps its own
(R112, R119). A waiting CLAIM and a SINK that waits at issue are withdrawn (R145, R169). -/
def Block.endReq (b : Block) (k status detail : Nat) : Block :=
  let stop (c : Block) : Block := ((c.withdrawSinks k).updHw k (fun w => { w with phase := .ended status detail, claimWant := [], waiting := false, lateKind := 0, tries := 0 })).updLantern
    (k / 4) (fun l => { l with claimers := l.claimers.filter (· != k % 4) })
  match (b.hw k).phase with
  | .free => b
  | .ended 0 _ => if status = 0 ∨ status = 4 then b else stop b
  | .ended _ _ => b
  | .held 2 => if (b.hw k).endStatus ≠ 0 ∨ status = 0 ∨ status = 4 then b else stop b
  | _ => stop b

/-- Ends a request with an exception (R119, R142). -/
def Block.exc (b : Block) (k code : Nat) : Block := b.endReq k 0x20 code

/-- Ends the request of every hardware context that runs for a context. -/
def Block.endCtx (b : Block) (c status detail : Nat) (but : Nat → Bool) : Block :=
  (b.hws.filter (fun (e : Nat × Hw) => e.2.phase != Phase.free && e.2.ctx == c && !but e.1)).foldl
    (fun a e => a.endReq e.1 status detail) b

/-- Extinguishes a context because data was consumed poisoned by a lantern or sinker; `who` is the index of PoisonConsumed
(R398, R412). -/
def Block.extinguish (b : Block) (c who lantern addr : Nat) : Block :=
  let b1 := { b with errors := { b.errors with consumed := tinc b.errors.consumed who 1 } }
  let b2 := b1.endCtx c 0x60 7 (fun _ => false)
  if (b.ctx c).st = .active then
    (({ b2 with errors := { b2.errors with extinguished := b2.errors.extinguished + 1 } }).updCtx c
      (fun x => { x with st := .extinguished })).raise (unitNo 0x02 c) .contextExtinguished [c, lantern, addr]
  else b2

/-- A hardware context consumes poison (R396, R398, R400). -/
def Block.poisonHit (b : Block) (k detail addr : Nat) : Block :=
  (b.endReq k 0x60 detail).extinguish (b.hw k).ctx 0 (k / 4) addr

/-- A memory access of a hardware context that is not served (R144, R202, R226, R402). A wait changes nothing but the
note that the request waits on a held channel, behind a flip or an evacuation where the berth is moving, for the lateness limit
(log entry 36). -/
def Block.memErr (b : Block) (k : Nat) (e : AccErr) (pa : Nat) : Block :=
  match e with
  | .wait =>
    match b.dom pa with
    | some a =>
      let moving := (b.berth (a / 65536)).st == .copying || (b.domain (domOf a)).tier == .evacuating
      if b.chanHeld (a / 64) then b.updHw k (fun w => { w with lateKind := if moving then 2 else 3, lateDomain := domOf a }) else b
    | none => b
  | .unmapped => (b.raise (unitNo 0x20 (k / 4)) .unmappedAccess [(b.hw k).ctx, pa]).endReq k 0x18 5
  | .failed => b.endReq k 0x30 1
  | .noFrame d => b.endReq k 0x30 d

/-! ### Fault batches (R222 to R226) -/

/-- Tile that homes a physical address (R20, R224). -/
def Block.homeTile (b : Block) (pa : Nat) : Nat :=
  match b.dom pa with
  | some a => tileOf (domOf a)
  | none => 0
/-- A tile as a reporting unit (R345). -/
def unitTile (t : Nat) : Nat := unitNo 0x40 (0x100 + t)

/-- Closes the open batch: LAST, TAIL, CLOSED, and the MSI; the batch stays open while the ring's lines cannot be written
(R205, R224, R255). -/
def Block.closeBatch (b : Block) (c : Nat) : Block :=
  let x := b.ctx c
  if x.openCount = 0 then b
  else
    let last := x.ring + 0x1000 + 32 * ((x.tail + 2047) % 2048)
    let p1 := b.poke (last + 20) 1 1
    let p2 := p1.1.poke x.ring 8 (x.tail % 2 ^ 32 + (x.closed + 1) % 2 ^ 32 * 2 ^ 32)
    if !p1.2 || !p2.2 then b
    else
      let b3 := p2.1.updCtx c (fun y => { y with closed := y.closed + 1, openCount := 0, batches := y.batches + 1 })
      let addr := (b3.peek (x.ring + 0x48) 8).getD 0
      let id := (b3.peek (x.ring + 0x50) 2).getD 0 % 2048
      if addr = 0 then b3
      else if isFile addr && id != 0 then b3.msi addr id .deviceWriteLost [c]
      else b3.raise (unitTile (b.homeTile x.ring)) .deviceWriteLost [c]

/-- The 32 bytes of a fault record (R223). -/
def faultWord (r : FaultRec) (ctx batch : Nat) : Nat :=
  1 + ctx * 2 ^ 8 + r.lantern * 2 ^ 16 + r.hw % 4 * 2 ^ 22 + r.cause * 2 ^ 24 + r.access * 2 ^ 28 + batch % 2 ^ 32 * 2 ^ 32 +
  r.va * 2 ^ 64 + r.pc * 2 ^ 128 + r.record % 2 ^ 32 * 2 ^ 192 + r.queue % 2 ^ 10 * 2 ^ 224

/-- Whether the ring has room: TAIL − HEAD below 2,048 (R224). -/
def Block.ringRoom (b : Block) (c : Nat) : Bool :=
  let x := b.ctx c
  let head := (b.peek (x.ring + 0x40) 4).getD 0
  decide ((x.tail % 2 ^ 32 + 2 ^ 32 - head) % 2 ^ 32 < 2048)

/-- What a held access remembers of a record: its slot and batch (R225). -/
def Block.noteRecord (b : Block) (r : FaultRec) (n batch : Nat) : Block :=
  match r.slot with
  | none => b.updHw (hwNo r.lantern r.hw) (fun w => { w with slots := w.slots ++ [n], batch := batch })
  | some i => b.updLantern r.lantern (fun y => { y with slots := y.slots.map (fun (e : Nat × Slot) =>
      if e.1 = i then (e.1, { e.2 with hold := e.2.hold.map (fun h => { h with slots := h.slots ++ [n], batch := batch }) }) else e) })

/-- Writes one fault record into the ring; the 64th record of a batch closes it, and the record that fills the ring raises
FAULT_RING_FULL (R224). None while a full batch still waits to be closed, or the record's line cannot be written. -/
def Block.ringWrite (b0 : Block) (c : Nat) (r : FaultRec) : Option Block :=
  let b := if (b0.ctx c).openCount ≥ 64 then b0.closeBatch c else b0
  let x := b.ctx c
  if x.openCount ≥ 64 then none
  else
    let p := b.poke (x.ring + 0x1000 + 32 * (x.tail % 2048)) 32 (faultWord r c (x.closed + 1))
    if !p.2 then none
    else
      let b2 := p.1.updCtx c (fun y => { y with tail := y.tail + 1, openCount := y.openCount + 1, records := y.records + 1 })
      let b3 := b2.noteRecord r x.tail (x.closed + 1)
      let b4 := if x.openCount + 1 ≥ 64 then b3.closeBatch c else b3
      some (if b4.ringRoom c then b4 else b4.raise (unitTile (b4.homeTile x.ring)) .faultRingFull [c])

/-- Takes one fault record: into the ring, or held while the ring is full or its lines cannot be written (R224). -/
def Block.pushFault (b : Block) (c : Nat) (r : FaultRec) : Block :=
  let hold := b.updCtx c (fun x => { x with heldRecs := x.heldRecs ++ [r] })
  if (b.ctx c).heldRecs = [] ∧ b.ringRoom c then (b.ringWrite c r).getD hold else hold

/-- Writes the records that are held, in order, while the ring takes them (R224). -/
def Block.flushFaults (b : Block) (c : Nat) : Block :=
  (b.ctx c).heldRecs.foldl (fun a r =>
    if (a.ctx c).heldRecs.head? = some r ∧ a.ringRoom c then
      ((a.updCtx c (fun x => { x with heldRecs := x.heldRecs.drop 1 })).ringWrite c r).getD a
    else a) b

/-- Whether a context's fault ring can be used: in memory of a placement domain, its lines not poisoned (R226). -/
def Block.ringOk (b : Block) (c : Nat) : Bool :=
  let x := b.ctx c
  b.rangeOk x.ring 0x11000 && (b.peek x.ring 8).isSome && (b.peek (x.ring + 0x40) 8).isSome &&
    (b.peek (x.ring + 0x1000 + 32 * (x.tail % 2048)) 32).isSome

/-- The chart of a lantern watches the driver line of a context's fault ring (R225). -/
def Block.watchDriver (b : Block) (l c : Nat) : Block :=
  let b1 := match b.lineAt ((b.ctx c).ring + 0x40) with
    | some ln => (b.watch l ln).getD (b.watchRefused ln)
    | none => b
  b1.updChart l (fun t => { t with resume := tput t.resume c false })

/-- Holds the head of a watch slot on a fault of its completion record, without a hardware context, or answers the DETAIL with
which the take ends (R106, R108, R225, R226). -/
def Block.holdSlot (b : Block) (l slot c record : Nat) (x : Slot) (cause va : Nat) : Block × Option Nat :=
  let tries := match x.hold with | some h => h.tries | none => 0
  if tries + 1 ≥ b.cfg 0x02000044 16 then (b, some 3)
  else if !b.ringOk c then (b.raise (unitNo 0x02 c) .faultRingBad [c], some 4)
  else
    let b1 := (b.watchDriver l c).updLantern l (fun y => { y with slots := tput y.slots slot { x with hold := some { tries := tries + 1 } } })
    (b1.pushFault c { lantern := l, hw := Config.takeHwctx l, cause := cause, access := 4, va := va / 4096 * 4096, pc := 0xFFFFFFFF,
                      record := record, queue := x.queue, slot := some slot }, none)

/-- Holds an instruction (0), a take (1) or a join (2) on faults, or answers the DETAIL of XLATE_FAULT with which the
request ends at once (R129, R225, R226). A fault is its cause, its address and its access. -/
def Block.holdFault (b : Block) (l h what pc : Nat) (faults : List (Nat × Nat × Nat)) : Block × Option Nat :=
  let k := hwNo l h
  let w := b.hw k
  let c := w.ctx
  if w.tries + 1 ≥ b.cfg 0x02000044 16 then (b, some 3)
  else if !b.ringOk c then (b.raise (unitNo 0x02 c) .faultRingBad [c], some 4)
  else
    let b3 := (b.watchDriver l c).updHw k (fun w => { w with phase := .held what, tries := w.tries + 1, slots := [], batch := 0 })
    let rec_ (f : Nat × Nat × Nat) : FaultRec :=
      { lantern := l, hw := h, cause := f.1, access := f.2.2, va := f.2.1 / 4096 * 4096, pc := pc, record := w.record,
        queue := w.queue }
    (faults.foldl (fun a f => a.pushFault c (rec_ f)) b3, none)

/-! ### References and withdrawal (R227 to R229) -/


/-- Whether the next epoch leaves every chart within four epochs (R227). -/
def Block.canDrop (b : Block) : Bool :=
  (List.range 64).all (fun l => let t := b.chart l
    t.refs.all (fun r => decide (t.epoch < r.1 + 3)) &&
    (b.lantern l).stores.all (fun (s : Buffered) => decide (t.epoch < s.epoch + 3)))

/-- Drop: every chart drops what meets the range and advances its epoch (R228). -/
def Block.dropWithdrawal (b : Block) (w : Withdrawal) : Block :=
  let hit (c v n : Nat) : Bool :=
    match w.range with
    | none => c == w.ctx
    | some (va, len) => decide (c = w.ctx ∧ v < va + len ∧ va < v + n)
  let es : Tab Nat := (List.range 64).map (fun l => (l, (b.chart l).epoch))
  let b1 := (List.range 64).foldl (fun a l => a.updChart l (fun t => { t.dropIf hit with epoch := t.epoch + 1 })) b
  { b1 with withdrawals := b1.withdrawals.map (fun (x : Withdrawal) =>
      if x.seq = w.seq then { x with dropped := true, epochs := es } else x) }

/-- Drops accepted withdrawals in order while the epoch counters allow (R227, R228). -/
def Block.tryDrops (b : Block) : Block :=
  b.withdrawals.foldl (fun a w =>
    match a.withdrawals.find? (fun (x : Withdrawal) => !x.dropped) with
    | some x => if x.seq = w.seq ∧ a.canDrop then a.dropWithdrawal x else a
    | none => a) b

/-- Whether every reference of the older epochs is released (R228). -/
def Block.drained (b : Block) (w : Withdrawal) : Bool :=
  w.dropped && (List.range 64).all (fun l =>
    let e := tget 0 w.epochs l
    (b.chart l).refs.all (fun r => decide (e < r.1)) && (b.lantern l).stores.all (fun (s : Buffered) => decide (e < s.epoch)))

/-- Queues a withdrawal and drops at once where it can (R228). -/
def Block.pushWithdrawal (b : Block) (c : Nat) (range : Option (Nat × Nat)) (ack : Option Nat) : Block :=
  let s := b.nextWithdrawal
  let w : Withdrawal := { seq := s, ctx := c, ack := ack, range := range }
  let b1 : Block := { b with withdrawals := b.withdrawals ++ [w], nextWithdrawal := s + 1 }
  b1.tryDrops

/-- DESTROYs that wait for room enter the queue (R228). -/
def Block.admitDestroys (b : Block) : Block :=
  (b.contexts.filter (fun (e : Nat × Context) => e.2.destroyWaits)).foldl (fun a e =>
    if a.withdrawals.length < 16 then
      (a.updCtx e.1 (fun x => { x with destroyWaits := false, destroySeq := some a.nextWithdrawal })).pushWithdrawal e.1 none none
    else a) b

end Sys2Proof.Machine
end

