-- ==== Sys2Proof/Machine/Lamp.lean ====
section
/-! DEFINITION. What every Foltoind instruction shares: registers, the granule map and the lens (04 R101, R102; 02 R59,
R60), the scoreboard and tallies (05 R122), accesses of the die (02 R61, 10 R236), the footprint check (05 R129), fetch and
the order of checks (05 R116 to R119). -/

namespace Sys2Proof.Machine

/-! ### Registers -/

/-- General register: g0 reads zero (R117). -/
def Hw.reg (w : Hw) (i : Nat) : W64 := if i = 0 then 0 else tget 0 w.g i
/-- Writes a general register: writes to g0 are discarded (R117). -/
def Hw.setReg (w : Hw) (i : Nat) (v : W64) : Hw := if i = 0 then w else { w with g := tput w.g i v }
/-- Tile descriptor (R117). -/
def Hw.tile (w : Hw) (i : Nat) : Line := tget 0 w.t i
/-- Writes a tile descriptor. -/
def Hw.setTile (w : Hw) (i : Nat) (d : Line) : Hw := { w with t := tput w.t i d }

/-- Writes a general register of a hardware context. -/
def Block.setG (b : Block) (k i : Nat) (v : W64) : Block := b.updHw k (fun w => w.setReg i v)
/-- Goes to a byte offset of the code; the faults of the instruction are forgotten (R116, R226). -/
def Block.goto (b : Block) (k pc : Nat) : Block :=
  b.updHw k (fun w => { w with pc := pc, tries := 0, waiting := false, lateKind := 0 })
/-- The next instruction. -/
def Block.advance (b : Block) (k : Nat) : Block := b.goto k ((b.hw k).pc + 8)

/-! ### The lens -/

/-- Bytes of a request's share (R102). -/
def Hw.share (w : Hw) : Nat := w.granules.length * 2 ^ 18
/-- Lens offset behind an offset of the share: the granule table (R102). -/
def Hw.phys (w : Hw) (off : Nat) : Nat := w.granules.getD (off / 2 ^ 18) 0 * 2 ^ 18 + off % 2 ^ 18
/-- Bytes of the share. -/
def Block.lensBytes (b : Block) (k off n : Nat) : List Byte :=
  let w := b.hw k; let m := (b.lantern (k / 4)).lens
  (List.range n).map (fun i => cellGet m (w.phys (off + i)))
/-- The 64-byte lines of the share that a range touches. -/
def linesOf (off n : Nat) : List Nat := if n = 0 then [] else (List.range ((off + n - 1) / 64 - off / 64 + 1)).map (fun i => off / 64 + i)
/-- Whether a line of the range is poisoned (R394). -/
def Block.lensBad (b : Block) (k off n : Nat) : Bool :=
  let w := b.hw k; let p := (b.lantern (k / 4)).lensPoison
  (linesOf off n).any (fun i => p.contains (w.phys (i * 64) / 64))
/-- Writes bytes within one line of the share: a whole line clears poison, a part leaves it; `p` makes it poison (R394,
R397). -/
def Block.lensPutLine (b : Block) (k off : Nat) (bs : List Byte) (p : Bool) : Block :=
  let a := (b.hw k).phys off
  b.updLantern (k / 4) (fun l => { l with
    lens := cellPuts l.lens a bs,
    lensPoison := if p then sput l.lensPoison (a / 64)
      else if bs.length = 64 then l.lensPoison.filter (· != a / 64) else l.lensPoison })
/-- Writes bytes of the share line by line. -/
def Block.lensPut (b : Block) (k off : Nat) (bs : List Byte) (p : Bool) : Block :=
  (linesOf off bs.length).foldl (fun c i =>
    let lo := max off (i * 64); let hi := min (off + bs.length) (i * 64 + 64)
    c.lensPutLine k lo ((bs.drop (lo - off)).take (hi - lo)) p) b

/-! ### Scoreboard and tallies (R122) -/

/-- Whether a range of lens lines overlaps an entry of the scoreboard. -/
def overlaps (e : Nat × Nat × Nat × Bool) (first last : Nat) : Bool := decide (e.2.1 ≤ last ∧ first ≤ e.2.2.1)
/-- Whether an instruction may read a byte range of the share: no earlier writer of it is in flight. -/
def Hw.mayRead (w : Hw) (off n : Nat) : Bool :=
  w.board.all (fun e => !(e.2.2.2 && overlaps e (off / 64) ((off + n - 1) / 64)))
/-- Whether an instruction may write a byte range: no earlier reader or writer of it is in flight. -/
def Hw.mayWrite (w : Hw) (off n : Nat) : Bool :=
  w.board.all (fun e => !overlaps e (off / 64) ((off + n - 1) / 64))
/-- Enters a range of the share into the scoreboard. -/
def Block.boardPut (b : Block) (k id off n : Nat) (writes : Bool) : Block :=
  b.updHw k (fun w => { w with board := w.board ++ [(id, off / 64, (off + n - 1) / 64, writes)] })
/-- Whether the scoreboard has room for n more ranges of its 64 (R122). -/
def Hw.boardRoom (w : Hw) (n : Nat) : Bool := decide (w.board.length + n ≤ 64)

/-! ### Accesses of the die (R61, R236) -/

/-- A line as the die reads it: through the die cache, with the die's own buffered stores in it (R61, R236). -/
def Block.dieLine (b : Block) (l pa : Nat) : Except (AccErr × Block) (Block × Line × Bool) :=
  match b.dom pa with
  | none => .error (.unmapped, b)
  | some a =>
    match b.loadLine l (a / 64) with
    | .error e => .error e
    | .ok (c, v, p) => .ok (c, overlay (b.lantern l).stores pa v, p)

/-- The memory writes of a hardware context's issued MOVEs that have not performed: line, mask, data, poison (R236). -/
def Block.ownMoves (b : Block) (l h : Nat) : List (Nat × W64 × Line × Bool) :=
  ((b.xfers.filter (fun (x : Xfer) => x.lantern == l && x.hw == h)).map Xfer.writes).flatten

/-- Whether an issued MOVE of a hardware context has yet to write a line (R238, rule 5). -/
def Block.ownMoveOn (b : Block) (l h ln : Nat) : Bool := (b.ownMoves l h).any (fun w => w.1 == ln)

/-- A line under writes that its reader sees before they perform (R236). -/
def overlayMoves (ws : List (Nat × W64 × Line × Bool)) (ln : Nat) (v : Line × Bool) : Line × Bool :=
  ws.foldl (fun a w => if w.1 = ln then (mergeMask a.1 w.2.2.1 w.2.1, w.2.2.2 || (a.2 && w.2.1 != 0xFFFFFFFFFFFFFFFF#64)) else a) v

/-- A line as a hardware context reads it: as its die does, with the writes of its own issued MOVEs in it (R236, R237). -/
def Block.ownLine (b : Block) (l h pa : Nat) : Except (AccErr × Block) (Block × Line × Bool) :=
  match b.dieLine l pa with
  | .error e => .error e
  | .ok (c, v) => .ok (c, overlayMoves (b.ownMoves l h) (((b.dom pa).getD 0) / 64) v)

/-- Performs one buffered store at its home. -/
def Block.performStore (b : Block) (l : Nat) (s : Buffered) : Except (AccErr × Block) Block :=
  match b.dom s.pa with
  | none => .error (.unmapped, b)
  | some a => b.storeLine l (a / 64) (byteMask (s.pa % 64) s.size) (linePut 0 (s.pa % 64) s.size s.data.toNat) (fun _ => false)

/-- Performs the oldest store of a die's store buffer; a store that is refused ends its request (R236, R402). -/
def Block.performOldest (b : Block) (l : Nat) : Block :=
  match (b.lantern l).stores with
  | [] => b
  | s :: t =>
    let pop (c : Block) : Block := c.updLantern l (fun x => { x with stores := t })
    match b.performStore l s with
    | .ok c => pop c
    | .error (.wait, c) => c
    | .error (e, c) => (pop c).memErr (hwNo l s.hw) e s.pa

/-- Drains a die's store buffer, oldest first, as far as it goes (R239). -/
def Block.drainStores (b : Block) (l : Nat) : Block :=
  ((b.lantern l).stores).foldl (fun c _ => c.performOldest l) b

/-- Whether a die's store buffer is empty. -/
def Block.drainedStores (b : Block) (l : Nat) : Bool := (b.lantern l).stores == []

/-! ### The footprint check of an instruction (R129) -/

/-- Translates the footprint of an instruction and goes on once every page of it is found; holds the instruction on
faults, or ends the request. `um` says what an unmapped physical address does. -/
def Block.withFootU (b : Block) (l h access : Nat) (rangeOnly : Bool) (rs : List (Nat × Nat)) (um : Block → Nat → Block)
    (go : Block → Foot → Block) : Block :=
  let k := hwNo l h
  let w := b.hw k
  let r := b.footprint l w.ctx access rangeOnly rs
  let f := r.2
  if f.wait then b
  else if f.xs.length + f.misses > 1024 then r.1.exc k 0x0D
  else if f.faults ≠ [] then
    match r.1.holdFault l h 0 w.pc (f.faults.map (fun x => (x.1, x.2, access))) with
    | (b2, none) => b2
    | (b2, some d) => b2.endReq k 0x18 d
  else
    match f.pages.find? (fun (p : Nat × Nat) => (b.dom p.2).isNone) with
    | some p => um r.1 p.2
    | none => go r.1 f

/-- The same where an unmapped physical address ends the request with XLATE_FAULT, DETAIL 5 (R226). -/
def Block.withFoot (b : Block) (l h access : Nat) (rangeOnly : Bool) (rs : List (Nat × Nat))
    (go : Block → Foot → Block) : Block :=
  b.withFootU l h access rangeOnly rs (fun c pa => c.memErr (hwNo l h) .unmapped pa) go

/-! ### Issue (R116 to R119) -/

/-- The opcodes of R116. -/
def listedOpcodes : List Nat :=
  (List.range 13) ++ (List.range 16).map (· + 0x10) ++ (List.range 13).map (· + 0x20) ++ (List.range 11).map (· + 0x30) ++
  [0x40, 0x41, 0x42, 0x50, 0x51, 0x52, 0x60, 0x70, 0x71, 0x72, 0x73, 0x74, 0x80, 0x81, 0x90, 0xA0, 0xA1, 0xB0, 0xB1, 0xB2,
   0xB3] ++ (List.range 10).map (· + 0xC0) ++ [0xD0, 0xD1, 0xD2, 0xE0]

/-- Whether a hardware context can issue: its program runs on a die that is alive (R101, R405). -/
def Block.canIssue (b : Block) (l h : Nat) : Bool :=
  decide (l < 64 ∧ h < 4) && (b.hw (hwNo l h)).phase == .running && (b.lantern l).loss == .alive

/-- Fetches ahead: the lines up to 512 bytes beyond the instruction at issue enter the die cache, as far as its page reaches
(R103). A line that cannot be had now is left (DEDUCED, log entry 91). -/
def Block.fetchAhead (b : Block) (l : Nat) (w : Hw) (pa : Nat) : Block :=
  let last := min (pa + 512) (min (pa / 4096 * 4096 + 4095) (pa + (w.codeBytes - 1 - w.pc)))
  (List.range (last / 64 - pa / 64)).foldl (fun (c : Block) i =>
    match c.lineAt ((pa / 64 + 1 + i) * 64) with
    | none => c
    | some ln =>
      if thas (c.line ln).copies l || c.busy ln then c
      else match c.loadLine l ln with | .ok r => r.1 | .error _ => c) b

/-- Fetches the word at the program counter and goes on with it: the bounds of CODE_BYTES, the translation, the line
through the die cache, its poison, and the fetch-ahead (R103, R119 check 1, R144). -/
def Block.fetch (b : Block) (l h : Nat) (go : Block → W64 → Block) : Block :=
  let k := hwNo l h
  let w := b.hw k
  if !b.canIssue l h then b
  else if w.pc % 8 ≠ 0 ∨ w.codeBytes < w.pc + 8 then b.exc k 0x0A
  else
    b.withFoot l h 1 false [(w.entry + 0x40 + w.pc, 8)] (fun b1 f =>
      let pa := f.pa ((w.entry + 0x40 + w.pc) % 2 ^ 64)
      match b1.dieLine l pa with
      | .error e => (e.2).memErr k e.1 pa
      | .ok (b2, v, poison) =>
        if poison then b2.poisonHit k 1 pa else go (b2.fetchAhead l w pa) (BitVec.ofNat 64 (fld v (8 * (pa % 64)) 64)))

/-- Issues an instruction of one opcode: the word at the program counter is `word`, then checks 2 and 3 of R119: ILLEGAL,
then RSV_NONZERO with DETAIL 1. A command whose word is not the one that stands at the program counter has no effect. -/
def Block.issue (b : Block) (l h : Nat) (word : W64) (op : Nat) (illegal rsv : Bool) (body : Block → Block) : Block :=
  b.fetch l h (fun b1 v =>
    if v ≠ word ∨ fld word 0 8 ≠ op then b
    else if illegal then b1.exc (hwNo l h) 1
    else if rsv then b1.endReq (hwNo l h) 0x38 1
    else body b1)

end Sys2Proof.Machine
end

