-- ==== Sys2Proof/Machine/Operands.lean ====
section
/-! DEFINITION. Operand forms of FL1 instructions: the register, immediate and descriptor fields (05 R123, R126), tile
descriptors and their checks (05 R119 to R121), tiles in the lens and in memory, conversion into a tile (03 R85, R86). -/

namespace Sys2Proof.Machine

/-! ### Integer and control fields (R123) -/

/-- gD or, in the control class, gA. -/
def rD (w : W64) : Nat := fld w 8 5
/-- gA or, in the control class, gB. -/
def rA (w : W64) : Nat := fld w 13 5
/-- gB. -/
def rB (w : W64) : Nat := fld w 18 5
/-- IMM32 or OFF, sign-extended. -/
def imm32 (w : W64) : W64 := sext 4 (fld w 32 32)
/-- Operand B: gB, or IMM32 where IMM is 1. -/
def opB (x : Hw) (w : W64) : W64 := if bit w 23 then imm32 w else x.reg (rB w)
/-- Reserved and unused bits of an integer or FP32 form that uses operand B: IMM32 must be zero where IMM is 0, gB where
IMM is 1 (R118, R123). -/
def intRsv (w : W64) : Bool := fld w 24 8 != 0 || (if bit w 23 then fld w 18 5 != 0 else fld w 32 32 != 0)
/-- The same for a form that reads gA only. -/
def unaryRsv (w : W64) : Bool := fld w 18 14 != 0 || fld w 32 32 != 0
/-- A branch target: PC + OFF × 8 as a byte offset; one below 0 lies outside CODE_BYTES (R123). -/
def target (base : Nat) (w : W64) : Nat :=
  let t := (base : Int) + sfld w 32 32 * 8
  if t < 0 then 2 ^ 64 else t.toNat

/-! ### Tile descriptors (R120, R121) -/

def tdLevel (d : Line) : Nat := fld d 0 4
def tdLens (d : Line) : Bool := bit d 4
def tdKeep (d : Line) : Bool := bit d 5
def tdFmt (d : Line) : Nat := fld d 8 4
def tdScale (d : Line) : Nat := fld d 12 2
def tdRows (d : Line) : Nat := fld d 16 16
def tdCols (d : Line) : Nat := fld d 32 16
def tdBase (d : Line) : Nat := fld d 64 64
def tdStride (d : Line) : Nat := fld d 128 48
def tdT (d : Line) : W32 := BitVec.ofNat 32 (fld d 192 32)
def tdXbase (d : Line) : Nat := fld d 256 64
def tdXstride (d : Line) : Nat := fld d 320 32
def tdIndex (d : Line) : Nat := fld d 384 64
def tdIstride (d : Line) : Nat := fld d 448 32
/-- MX scaling (R71). -/
def tdMx (d : Line) : Bool := tdScale d ≥ 2
/-- Per-tensor scaling (R71). -/
def tdPer (d : Line) : Bool := tdScale d % 2 == 1
/-- The scale t in force: 1.0 without per-tensor scaling. -/
def tdTensor (d : Line) : W32 := if tdPer d then tdT d else one32
/-- Row bytes. -/
def tdRowBytes (d : Line) : Nat := rowBytes (tdFmt d) (tdCols d)

/-- Check 4 of R119 on a descriptor: the status and DETAIL with which the request ends (R143). -/
def tdLevelErr (d : Line) : Option (Nat × Nat) :=
  if tdLevel d ≠ 1 then some (0x3C, 2)
  else if fld d 6 2 ≠ 0 ∨ fld d 14 2 ≠ 0 ∨ fld d 48 16 ≠ 0 ∨ fld d 176 16 ≠ 0 ∨ fld d 224 32 ≠ 0 ∨ fld d 352 32 ≠ 0 ∨
      fld d 480 32 ≠ 0 then some (0x38, 2)
  else none

/-- Bytes from the first to the last byte of a tile's rows. -/
def tdSpan (d : Line) : Nat := (tdRows d - 1) * tdStride d + tdRowBytes d
/-- Bytes from the first to the last byte of a tile's row scales under MX. -/
def tdXspan (d : Line) : Nat := if tdMx d then (tdRows d - 1) * tdXstride d + tdCols d / 32 else 0

/-- Whether a format and scale mode exist together (R67, R71). -/
def fmtScaleOk (f s : Nat) : Bool := decide (f < 10) && !(s != 0 && decide (f < 3)) && !(decide (2 ≤ s) && f == 9)
/-- Whether a per-tensor scale is positive and finite (R72). -/
def scaleOk (t : W32) : Bool := !bit t 31 && fld t 0 31 != 0 && isFin32 t

/-- Steps 2 to 5 of R121: the exception of the first that fails. -/
def tdErr (d : Line) (share : Nat) (written : Bool) : Option Nat :=
  if tdRows d = 0 ∨ tdCols d = 0 ∨ (tdMx d ∧ tdCols d % 32 ≠ 0) ∨ tdBase d % 64 ≠ 0 ∨ tdStride d % 64 ≠ 0 ∨
      (!tdMx d ∧ (tdXbase d ≠ 0 ∨ tdXstride d ≠ 0)) ∨ (written ∧ tdRows d > 1 ∧ tdStride d < tdRowBytes d) then some 0x0C
  else if !fmtScaleOk (tdFmt d) (tdScale d) then some 0x02
  else if tdPer d && !scaleOk (tdT d) then some 0x04
  else if tdLens d && decide (share < tdBase d + tdSpan d ∨ share < tdXbase d + tdXspan d) then some 0x09
  else none

/-- The outcome of a chain of checks: the status and DETAIL that end the request. -/
abbrev Chk := Option (Nat × Nat)
/-- An exception as an outcome. -/
def excErr (code : Nat) : Chk := some (0x20, code)
/-- The first failing check of a list. -/
def firstErr : List Chk → Chk
  | [] => none
  | none :: t => firstErr t
  | some e :: _ => some e
/-- Fails with an exception where a condition does not hold. -/
def need (ok : Bool) (code : Nat) : Chk := if ok then none else excErr code
/-- Steps 2 to 5 of R121 as a check. -/
def tdChk (d : Line) (share : Nat) (written : Bool) : Chk := (tdErr d share written).map (fun c => (0x20, c))

/-- Ends the request with the first failing check, or goes on. -/
def Block.checked (b : Block) (k : Nat) (cs : List Chk) (go : Block → Block) : Block :=
  match firstErr cs with
  | some (s, d) => b.endReq k s d
  | none => go b

/-- The use of tile descriptors: poisoned sequencer state is consumed at once (R393); check 4 of R119 in order. -/
def Block.useTiles (b : Block) (k : Nat) (ts : List Nat) (go : Block → Block) : Block :=
  let w := b.hw k
  if ts.any (fun t => w.tPoison.contains t) then b.poisonHit k 5 0
  else b.checked k (ts.map (fun t => tdLevelErr (w.tile t))) go

/-! ### Tiles in the lens -/

/-- Rows of a lens tile as numbers (R13, R68). -/
def Block.lensRows (b : Block) (k : Nat) (d : Line) : List Nat :=
  (List.range (tdRows d)).map (fun r => leNat (b.lensBytes k (tdBase d + r * tdStride d) (tdRowBytes d)))
/-- Row scales of an MX lens tile as numbers, one byte per block. -/
def Block.lensScales (b : Block) (k : Nat) (d : Line) : List Nat :=
  if tdMx d then (List.range (tdRows d)).map (fun r => leNat (b.lensBytes k (tdXbase d + r * tdXstride d) (tdCols d / 32)))
  else (List.range (tdRows d)).map (fun _ => 0)
/-- Whether a lens tile or its scales hold poison. -/
def Block.tilePoison (b : Block) (k : Nat) (d : Line) : Bool :=
  (List.range (tdRows d)).any (fun r => b.lensBad k (tdBase d + r * tdStride d) (tdRowBytes d) ||
    (tdMx d && b.lensBad k (tdXbase d + r * tdXstride d) (tdCols d / 32)))
/-- Whether a lens tile may be read now (R122). -/
def Hw.tileReadable (w : Hw) (d : Line) : Bool :=
  w.mayRead (tdBase d) (tdSpan d) && (!tdMx d || w.mayRead (tdXbase d) (tdXspan d))
/-- Whether a lens tile may be written now (R122). -/
def Hw.tileWritable (w : Hw) (d : Line) : Bool :=
  w.mayWrite (tdBase d) (tdSpan d) && (!tdMx d || w.mayWrite (tdXbase d) (tdXspan d))

/-- The value of element (r, c) of rows, with its tile's scales (R71). -/
def elemVal (d : Line) (row xs c : Nat) : Val :=
  let v := decodeVal (tdFmt d) (elemAt (tdFmt d) row c)
  let v1 := if tdMx d then
      let x := xs / 2 ^ (8 * (c / 32)) % 256
      if x = 255 then Val.nan else v.mul (.fin false 1 ((x : Int) - 127 + (if tdFmt d = 8 then -6 else 0)))
    else v
  if tdPer d then v1.mul (val32 (tdT d)) else v1

/-- Values of a tile row by row. -/
def tileVals (d : Line) (rows xs : List Nat) : List (List Val) :=
  (rows.zip xs).map (fun (e : Nat × Nat) => (List.range (tdCols d)).map (fun c => elemVal d e.1 e.2 c))
/-- Values of a lens tile. -/
def Block.lensVals (b : Block) (k : Nat) (d : Line) : List (List Val) := tileVals d (b.lensRows k d) (b.lensScales k d)
/-- FP32 bits of a lens tile of FP32. -/
def Block.lens32 (b : Block) (k : Nat) (d : Line) : List (List W32) :=
  (b.lensRows k d).map (fun row => (List.range (tdCols d)).map (fun c => BitVec.ofNat 32 (elemAt 0 row c)))

/-! ### Conversion into a tile (R85 to R87) -/

/-- Packs element codes of a format into a row, zero elements padding the last group (R68). -/
def packRow (f : Nat) (cs : List Nat) : List Byte :=
  leBytes (rowBytes f cs.length) ((cs.zipIdx).foldl (fun a (e : Nat × Nat) => a + e.1 * 2 ^ (fmtWidth f * e.2)) 0)

/-- Converts rows of values into a tile without MX: bytes per row and the census (R85). -/
def convertRows (d : Line) (stoch : Bool) (seed : W64) (stream : Nat) (vs : List (List Val)) : List (List Byte) × Census :=
  let sc := scaleQ (tdTensor d)
  let rows := (vs.zipIdx).map (fun (r : List Val × Nat) =>
    (r.1.zipIdx).map (fun (c : Val × Nat) =>
      convertVal (tdFmt d) (rndOf stoch seed stream ((tdIndex d + r.2 * tdIstride d + c.2) % 2 ^ 64)) c.1 sc.1 sc.2))
  (rows.map (fun r => packRow (tdFmt d) (r.map Prod.fst)), (rows.flatten).foldl (fun a e => a.add e.2) {})

/-- The largest finite magnitude of values, as a fraction (R73). -/
def amaxQ (vs : List Val) : Nat × Nat :=
  vs.foldl (fun a v =>
    match v with
    | .fin _ m e => let p := scale2 m e; if a.1 * p.2 < p.1 * a.2 then p else a
    | _ => a) (0, 1)

/-- One MX block: its scale, its element codes and its census (R75, R85). -/
def convertBlock (d : Line) (noclip stoch : Bool) (seed : W64) (stream index : Nat) (vs : List Val) : Nat × List Nat × Census :=
  let t := scaleQ (tdTensor d)
  if vs.any (· == Val.nan) then
    (255, vs.map (fun _ => 0), vs.foldl (fun a v =>
      match v with
      | .nan => a.add { nanDropped := 1, nonfinite := 1 }
      | .inf _ => a.add { nonfinite := 1 }
      | _ => a) {})
  else
    let am := amaxQ vs
    let x := mxScale (tdFmt d) noclip (am.1 * t.2) (am.2 * t.1)
    let p := scale2 1 ((x : Int) - 127 + (if tdFmt d = 8 then -6 else 0))
    let es := (vs.zipIdx).map (fun (c : Val × Nat) =>
      convertVal (tdFmt d) (rndOf stoch seed stream ((index + c.2) % 2 ^ 64)) c.1 (t.1 * p.1) (t.2 * p.2))
    (x, es.map Prod.fst, es.foldl (fun a e => a.add e.2) {})

/-- Converts rows of values into an MX tile: bytes and scales per row, and the census (R75, CONVERT.MX). -/
def convertMx (d : Line) (noclip stoch : Bool) (seed : W64) (stream : Nat) (vs : List (List Val)) :
    List (List Byte) × List (List Byte) × Census :=
  let rows := (vs.zipIdx).map (fun (r : List Val × Nat) =>
    (List.range (tdCols d / 32)).map (fun j =>
      convertBlock d noclip stoch seed stream (tdIndex d + r.2 * tdIstride d + 32 * j) ((r.1.drop (32 * j)).take 32)))
  (rows.map (fun r => packRow (tdFmt d) ((r.map (fun e => e.2.1)).flatten)),
   rows.map (fun r => r.map (fun e => BitVec.ofNat 8 e.1)),
   (rows.flatten).foldl (fun a e => a.add e.2.2) {})

/-- Writes rows of bytes into a lens tile. -/
def Block.putRows (b : Block) (k base stride : Nat) (rows : List (List Byte)) : Block :=
  (rows.zipIdx).foldl (fun c (r : List Byte × Nat) => c.lensPut k (base + r.2 * stride) r.1 false) b

/-- Adds a census to the request's counts (R86). -/
def Block.addCensus (b : Block) (k : Nat) (c : Census) : Block :=
  b.updHw k (fun w => { w with saturated := w.saturated + c.saturated, flushed := w.flushed + c.flushed,
                               nanDropped := w.nanDropped + c.nanDropped, nonfinite := w.nonfinite + c.nonfinite })

/-! ### Tiles in memory (R129) -/

/-- The footprint of a memory tile: every byte of every row, and its row scales under MX (R129). -/
def tdFoot (d : Line) : List (Nat × Nat) :=
  (List.range (tdRows d)).map (fun r => (tdBase d + r * tdStride d, tdRowBytes d)) ++
  (if tdMx d then (List.range (tdRows d)).map (fun r => (tdXbase d + r * tdXstride d, tdCols d / 32)) else [])

/-- The chunks of a byte range within 64-byte lines: offset in the range and length. -/
def chunksOf (va n : Nat) : List (Nat × Nat) :=
  (linesOf va n).map (fun i => let lo := max va (i * 64); (lo - va, min (va + n) (i * 64 + 64) - lo))

end Sys2Proof.Machine
end

