-- ==== Sys2Proof/Machine/Access.lean ====
section
/-! DEFINITION. Scalar and descriptor accesses (05 R126), far atomics (05 R139, 11 R258), fences (05 R140, 10 R242), waits
on a line or a tally (05 R138, 11 R260), and the die's store buffer (10 R236). -/

namespace Sys2Proof.Machine

/-! ### Shared operations -/

/-- Bytes of a SIZE code (R126). -/
def sizeBytes (w : W64) : Nat := 2 ^ fld w 22 3
/-- gA + IMM32 modulo 2^64 (R126). -/
def addrOf (x : Hw) (w : W64) : Nat := (x.reg (rA w) + imm32 w).toNat
/-- Reserved and unused bits of a scalar access: tN, FIELD, bit 31, and SX where it stores (R126). -/
def scalarRsv (w : W64) (store : Bool) : Bool := fld w 18 4 != 0 || fld w 26 6 != 0 || (store && bit w 25)
/-- Reserved and unused bits of TLD and TST: gD, SIZE, SX, FIELD, bit 31 (R126). -/
def tileAccRsv (w : W64) : Bool := fld w 8 5 != 0 || fld w 22 10 != 0

/-- A read of n bytes at a virtual address, within one line, through the chart and the die cache, with its ACCESS code of
R223: 2 for a load, 9 for a record (R126, R129, R213, R396). -/
def Block.dieRead (b : Block) (l h access va n : Nat) (go : Block → Nat → Block) : Block :=
  b.withFoot l h access false [(va, n)] (fun c f =>
    let pa := f.pa va
    match c.ownLine l h pa with
    | .error e => (e.2).memErr (hwNo l h) e.1 pa
    | .ok (d, v, poison) => if poison then d.poisonHit (hwNo l h) 1 pa else go d (fld v (8 * (pa % 64)) (8 * n)))

/-- A scalar load. -/
def Block.scalarLoad (b : Block) (l h va n : Nat) (go : Block → Nat → Block) : Block := b.dieRead l h 2 va n go

/-- A plain store of n bytes: it stands in the die's store buffer and holds a chart reference until it performs (R227,
R236); it waits for an earlier MOVE of its hardware context to write the line (R238, rule 5). -/
def Block.scalarStore (b : Block) (l h va n : Nat) (v : Line) : Block :=
  b.withFoot l h 3 false [(va, n)] (fun c f =>
    if c.ownMoveOn l h (((c.dom (f.pa va)).getD 0) / 64) then c else
    let e : Buffered := { hw := h, pa := f.pa va, size := n, data := v, epoch := (c.chart l).epoch }
    (c.updLantern l (fun x => { x with stores := x.stores ++ [e] })).advance (hwNo l h))

/-- Whether an earlier MOVE.L2M of a hardware context has writes that have not performed (R238, R242). -/
def Block.moveWrites (b : Block) (l h : Nat) : Bool :=
  b.xfers.any (fun (x : Xfer) => x.lantern == l && x.hw == h && x.writes != [])

/-- A release: the die's store buffer drains and earlier MOVEs have performed their writes; until then the instruction
waits (R238, R239). -/
def Block.released (b : Block) (l h : Nat) (go : Block → Block) : Block :=
  let c := b.drainStores l
  if !c.canIssue l h then c
  else if !c.drainedStores l || c.moveWrites l h then c else go c

/-- Whether the die's store buffer holds bytes of a line (R238, rule 5). -/
def Block.lineBuffered (b : Block) (l pa : Nat) : Bool := (b.lantern l).stores.any (fun (s : Buffered) => s.pa / 64 == pa / 64)

/-- Drains the die's store buffer first where a condition asks for it. -/
def Block.releasedIf (b : Block) (p : Bool) (l h : Nat) (go : Block → Block) : Block := if p then b.released l h go else go b

/-- A far atomic (R139, R258). -/
def Block.farAtomic (b : Block) (l h : Nat) (w : W64) (op : Nat) (aop : AtomOp) : Block :=
  b.issue l h w op false (fld w 31 33 != 0 || (aop != .cas && fld w 23 5 != 0)) (fun c =>
    let k := hwNo l h; let x := c.hw k
    let va := (x.reg (rA w)).toNat
    let n := if bit w 28 then 8 else 4
    if va % n ≠ 0 then c.exc k 0x0B
    else
      c.withFootU l h 4 false [(va, n)] (fun d _ => d.exc k 0x15) (fun d f =>
        let pa := f.pa va
        d.releasedIf (bit w 30 || d.lineBuffered l pa || d.ownMoveOn l h (((d.dom pa).getD 0) / 64)) l h (fun e =>
          match e.dom pa with
          | none => e.exc k 0x15
          | some a =>
            match e.atomic (a / 64) (a % 64) (bit w 28) aop (x.reg (rB w)) (x.reg (fld w 23 5)) with
            | .error r => (r.2).memErr k r.1 pa
            | .ok (g, old, poison) => if poison then g.poisonHit k 1 pa else (g.setG k (rD w) old).advance k)))

/-- Field of a tile descriptor by its number: place and width (R126). -/
def tileField (i : Nat) : Nat × Nat :=
  ([(0, 4), (4, 1), (5, 1), (8, 4), (12, 2), (16, 16), (32, 16), (64, 64), (128, 48), (192, 32), (256, 64), (320, 32),
    (384, 64), (448, 32)].getD i (0, 0))

/-- The outcome of one reading of WAIT.LINE: the word meets COND against gV (R138). -/
def lineMeets (w : W64) (v cmp : W64) : Bool := if bit w 23 then v != cmp else v == cmp

/-- Removes the line watch of a hardware context (R138). -/
def Block.dropWatch (b : Block) (l h : Nat) : Block :=
  match (b.hw (hwNo l h)).watch with
  | some ln => (b.updHw (hwNo l h) (fun x => { x with watch := none, polled := false, notice := false })).unwatchLamp l ln
  | none => b

/-- One reading of WAIT.LINE: the watch is registered at the first, a refused one is polled; it returns when the word
meets its condition (R138, R260). -/
def Block.waitLineRead (b : Block) (l h : Nat) (w : W64) : Block :=
  let k := hwNo l h; let x := b.hw k
  let va := (x.reg (rA w)).toNat
  if va % 8 ≠ 0 then b.exc k 0x0B
  else
    b.withFoot l h 2 false [(va, 8)] (fun c f =>
      let pa := f.pa va
      match c.ownLine l h pa with
      | .error e => (e.2).memErr k e.1 pa
      | .ok (d, v, poison) =>
        if poison then (d.dropWatch l h).poisonHit k 1 pa
        else
          let word : W64 := BitVec.ofNat 64 (fld v (8 * (pa % 64)) 64)
          if lineMeets w word (x.reg (rB w)) then ((d.dropWatch l h).setG k (rD w) word).advance k
          else
            let ln := (d.lineAt pa).getD 0
            let e := match x.watch with
              | some _ => d.updHw k (fun y => { y with notice := false })
              | none =>
                match d.watch l ln with
                | some g => g.updHw k (fun y => { y with watch := some ln, polled := false, notice := false })
                | none => (d.watchRefused ln).updHw k (fun y => { y with watch := some ln, polled := true, notice := false })
            e.updHw k (fun y => { y with lastRead := word, waiting := true }))

/-! ### Meanings -/

/-- LD: scalar load, zero- or sign-extended; ALIGN where the address is not aligned to SIZE (R126). -/
def execLd (l h : Nat) (w : W64) (s : State) : Host.Outcome State Fault Refusal :=
  s.run (fun b => b.issue l h w 0x30 (decide (fld w 22 3 > 3)) (scalarRsv w false) (fun c =>
    let k := hwNo l h; let va := addrOf (c.hw k) w; let n := sizeBytes w
    if va % n ≠ 0 then c.exc k 0x0B
    else c.scalarLoad l h va n (fun d v =>
      (d.setG k (rD w) (if bit w 25 then sext n v else BitVec.ofNat 64 v)).advance k)))

/-- ST: scalar store into the die’s store buffer; ALIGN where the address is not aligned to SIZE (R126, R236). -/
def execSt (l h : Nat) (w : W64) (s : State) : Host.Outcome State Fault Refusal :=
  s.run (fun b => b.issue l h w 0x31 (decide (fld w 22 3 > 3)) (scalarRsv w true) (fun c =>
    let k := hwNo l h; let x := c.hw k; let va := addrOf x w; let n := sizeBytes w
    if va % n ≠ 0 then c.exc k 0x0B
    else c.scalarStore l h va n (BitVec.ofNat 512 ((x.reg (rD w)).toNat % 2 ^ (8 * n)))))

/-- LD.ACQ: acquire load of 4 or 8 bytes; instructions perform in order, so nothing later precedes it (R126, R240). -/
def execLdAcq (l h : Nat) (w : W64) (s : State) : Host.Outcome State Fault Refusal :=
  s.run (fun b => b.issue l h w 0x32 (!(fld w 22 3 == 2 || fld w 22 3 == 3)) (scalarRsv w false) (fun c =>
    let k := hwNo l h; let va := addrOf (c.hw k) w; let n := sizeBytes w
    if va % n ≠ 0 then c.exc k 0x0B
    else c.scalarLoad l h va n (fun d v =>
      (d.setG k (rD w) (if bit w 25 then sext n v else BitVec.ofNat 64 v)).advance k)))

/-- ST.REL: release store of 4 or 8 bytes, performed at its home after every older store of the die and every earlier
MOVE of its hardware context (R126, R236, R239). -/
def execStRel (l h : Nat) (w : W64) (s : State) : Host.Outcome State Fault Refusal :=
  s.run (fun b => b.issue l h w 0x33 (!(fld w 22 3 == 2 || fld w 22 3 == 3)) (scalarRsv w true) (fun c =>
    let k := hwNo l h; let x := c.hw k; let va := addrOf x w; let n := sizeBytes w
    if va % n ≠ 0 then c.exc k 0x0B
    else
      c.withFoot l h 3 false [(va, n)] (fun d f =>
        d.released l h (fun e =>
          let st : Buffered :=
            { hw := h, pa := f.pa va, size := n, data := BitVec.ofNat 512 ((x.reg (rD w)).toNat % 2 ^ (8 * n)), epoch := 0 }
          match e.performStore l st with
          | .ok g => g.advance k
          | .error r => (r.2).memErr k r.1 (f.pa va)))))

/-- TLD: loads a tile descriptor from a 64-byte aligned address; no check is made (R126). -/
def execTld (l h : Nat) (w : W64) (s : State) : Host.Outcome State Fault Refusal :=
  s.run (fun b => b.issue l h w 0x34 false (tileAccRsv w) (fun c =>
    let k := hwNo l h; let va := addrOf (c.hw k) w
    if va % 64 ≠ 0 then c.exc k 0x0B
    else c.scalarLoad l h va 64 (fun d v =>
      (d.updHw k (fun y => { y.setTile (fld w 18 4) (BitVec.ofNat 512 v) with tPoison := y.tPoison.filter (· != fld w 18 4) })).advance k)))

/-- TST: stores a tile descriptor to a 64-byte aligned address (R126). -/
def execTst (l h : Nat) (w : W64) (s : State) : Host.Outcome State Fault Refusal :=
  s.run (fun b => b.issue l h w 0x35 false (tileAccRsv w) (fun c =>
    let k := hwNo l h; let x := c.hw k; let va := addrOf x w
    if va % 64 ≠ 0 then c.exc k 0x0B
    else if x.tPoison.contains (fld w 18 4) then c.poisonHit k 5 0
    else c.scalarStore l h va 64 (x.tile (fld w 18 4))))

/-- TSET: writes the low bits of gD into one field of tN (R126). -/
def execTset (l h : Nat) (w : W64) (s : State) : Host.Outcome State Fault Refusal :=
  s.run (fun b => b.issue l h w 0x36 (decide (fld w 26 5 > 13)) (fld w 13 5 != 0 || fld w 22 4 != 0 || bit w 31 || fld w 32 32 != 0) (fun c =>
    let k := hwNo l h; let p := tileField (fld w 26 5)
    (c.updHw k (fun x => x.setTile (fld w 18 4) (setFld (x.tile (fld w 18 4)) p.1 p.2 (x.reg (rD w)).toNat))).advance k))

/-- TGET: reads one field of tN, zero-extended (R126). -/
def execTget (l h : Nat) (w : W64) (s : State) : Host.Outcome State Fault Refusal :=
  s.run (fun b => b.issue l h w 0x37 (decide (fld w 26 5 > 13)) (fld w 13 5 != 0 || fld w 22 4 != 0 || bit w 31 || fld w 32 32 != 0) (fun c =>
    let k := hwNo l h; let p := tileField (fld w 26 5)
    if (c.hw k).tPoison.contains (fld w 18 4) then c.poisonHit k 5 0
    else (c.updHw k (fun x => x.setReg (rD w) (BitVec.ofNat 64 (fld (x.tile (fld w 18 4)) p.1 p.2)))).advance k))

/-- TADV: adds gD to tN.BASE and gA to tN.INDEX_BASE, modulo 2^64 (R126). -/
def execTadv (l h : Nat) (w : W64) (s : State) : Host.Outcome State Fault Refusal :=
  s.run (fun b => b.issue l h w 0x38 false (fld w 22 10 != 0 || fld w 32 32 != 0) (fun c =>
    let k := hwNo l h
    if (c.hw k).tPoison.contains (fld w 18 4) then c.poisonHit k 5 0
    else
      (c.updHw k (fun x =>
        let t := x.tile (fld w 18 4)
        let t1 := setFld t 64 64 (fld t 64 64 + (x.reg (rD w)).toNat)
        x.setTile (fld w 18 4) (setFld t1 384 64 (fld t 384 64 + (x.reg (rA w)).toNat)))).advance k))

/-- LDL: scalar load from the lens; ALIGN, then LENS_BOUNDS; it waits for earlier writers (R122, R126). -/
def execLdl (l h : Nat) (w : W64) (s : State) : Host.Outcome State Fault Refusal :=
  s.run (fun b => b.issue l h w 0x39 (decide (fld w 22 3 > 3)) (scalarRsv w false) (fun c =>
    let k := hwNo l h; let x := c.hw k; let off := addrOf x w; let n := sizeBytes w
    if off % n ≠ 0 then c.exc k 0x0B
    else if off + n > x.share then c.exc k 0x09
    else if !x.mayRead off n then c
    else if c.lensBad k off n then c.poisonHit k 2 0
    else
      let v := leNat (c.lensBytes k off n)
      (c.setG k (rD w) (if bit w 25 then sext n v else BitVec.ofNat 64 v)).advance k))

/-- STL: scalar store to the lens; ALIGN, then LENS_BOUNDS; it waits for earlier readers and writers (R122, R126). -/
def execStl (l h : Nat) (w : W64) (s : State) : Host.Outcome State Fault Refusal :=
  s.run (fun b => b.issue l h w 0x3A (decide (fld w 22 3 > 3)) (scalarRsv w true) (fun c =>
    let k := hwNo l h; let x := c.hw k; let off := addrOf x w; let n := sizeBytes w
    if off % n ≠ 0 then c.exc k 0x0B
    else if off + n > x.share then c.exc k 0x09
    else if !x.mayWrite off n then c
    else (c.lensPut k off (leBytes n (x.reg (rD w)).toNat) false).advance k))

/-- ATOM.ADD at the home; gD holds the old value (R139). -/
def execAtomAdd (l h : Nat) (w : W64) (s : State) : Host.Outcome State Fault Refusal :=
  s.run (fun b => b.farAtomic l h w 0xC0 .add)

/-- ATOM.AND at the home; gD holds the old value (R139). -/
def execAtomAnd (l h : Nat) (w : W64) (s : State) : Host.Outcome State Fault Refusal :=
  s.run (fun b => b.farAtomic l h w 0xC1 .and)

/-- ATOM.OR at the home; gD holds the old value (R139). -/
def execAtomOr (l h : Nat) (w : W64) (s : State) : Host.Outcome State Fault Refusal :=
  s.run (fun b => b.farAtomic l h w 0xC2 .or)

/-- ATOM.XOR at the home; gD holds the old value (R139). -/
def execAtomXor (l h : Nat) (w : W64) (s : State) : Host.Outcome State Fault Refusal :=
  s.run (fun b => b.farAtomic l h w 0xC3 .xor)

/-- ATOM.MIN, signed at the chosen width at the home; gD holds the old value (R139). -/
def execAtomMin (l h : Nat) (w : W64) (s : State) : Host.Outcome State Fault Refusal :=
  s.run (fun b => b.farAtomic l h w 0xC4 .min)

/-- ATOM.MAX, signed at the chosen width at the home; gD holds the old value (R139). -/
def execAtomMax (l h : Nat) (w : W64) (s : State) : Host.Outcome State Fault Refusal :=
  s.run (fun b => b.farAtomic l h w 0xC5 .max)

/-- ATOM.MINU at the home; gD holds the old value (R139). -/
def execAtomMinu (l h : Nat) (w : W64) (s : State) : Host.Outcome State Fault Refusal :=
  s.run (fun b => b.farAtomic l h w 0xC6 .minu)

/-- ATOM.MAXU at the home; gD holds the old value (R139). -/
def execAtomMaxu (l h : Nat) (w : W64) (s : State) : Host.Outcome State Fault Refusal :=
  s.run (fun b => b.farAtomic l h w 0xC7 .maxu)

/-- ATOM.SWAP at the home; gD holds the old value (R139). -/
def execAtomSwap (l h : Nat) (w : W64) (s : State) : Host.Outcome State Fault Refusal :=
  s.run (fun b => b.farAtomic l h w 0xC8 .swap)

/-- ATOM.CAS: gS is written only where the old value equals gC at the home; gD holds the old value (R139). -/
def execAtomCas (l h : Nat) (w : W64) (s : State) : Host.Outcome State Fault Refusal :=
  s.run (fun b => b.farAtomic l h w 0xC9 .cas)

/-- FENCE of CORE, CLUSTER or SYSTEM scope: it waits for the memory side of earlier MOVEs; SYSTEM also drains the die’s
store buffer (R140, R242). -/
def execFence (l h : Nat) (w : W64) (s : State) : Host.Outcome State Fault Refusal :=
  s.run (fun b => b.issue l h w 0xD0 (fld w 8 2 == 3) (fld w 10 54 != 0) (fun c =>
    let k := hwNo l h
    if fld w 8 2 = 2 then c.released l h (fun d => d.advance k)
    else if c.moveWrites l h then c else c.advance k))

/-- WAIT.LINE: registers a line watch, and returns when the word meets its condition (R138). -/
def execWaitLine (l h : Nat) (w : W64) (s : State) : Host.Outcome State Fault Refusal :=
  s.run (fun b => b.issue l h w 0xB2 false (fld w 29 35 != 0) (fun c => c.waitLineRead l h w))

/-- The time-out gT of a waiting WAIT.LINE elapses: gD holds the last value read; a store that meets the condition in
time wins (R138, R145). -/
def execWaitLineTimeout (l h : Nat) (s : State) : Host.Outcome State Fault Refusal :=
  s.run (fun b => b.fetch l h (fun c v =>
    let k := hwNo l h
    if fld v 0 8 = 0xB2 ∧ (c.hw k).waiting ∧ (c.hw k).reg (fld v 24 5) ≠ 0 then
      let d := c.waitLineRead l h v
      if (d.hw k).phase = .running ∧ (d.hw k).waiting then ((d.dropWatch l h).setG k (rD v) (d.hw k).lastRead).advance k else d
    else b))

/-- Whether the completion record's line of a running request is not watched by its lantern: the watch was refused. -/
def Block.compUnwatched (b : Block) (l h : Nat) : Bool :=
  let w := b.hw (hwNo l h)
  (match w.phase with | .running => true | .held _ => true | .claiming => true | _ => false) &&
  (match b.lineAt w.compPa with | some ln => !(b.line ln).watchers.contains l | none => false)

/-- Every 2 µs a WAIT.LINE whose watch was refused reads its line again, and the chart’s refused driver-line watches read
theirs (R260); so does the lantern of a request whose completion-line watch was refused (DESIGN CHOICE
from R112, log entry 83). -/
def execWatchPoll (l h : Nat) (s : State) : Host.Outcome State Fault Refusal :=
  s.run (fun b =>
    let t0 := b.updChart l (fun t => { t with resume := t.resume.map (fun (e : Nat × Bool) => (e.1, true)) })
    let t := if b.compUnwatched l h then t0.updHw (hwNo l h) (fun w => { w with cnotice := true }) else t0
    if (t.hw (hwNo l h)).polled then
      t.fetch l h (fun c v => if fld v 0 8 = 0xB2 ∧ (c.hw (hwNo l h)).waiting then c.waitLineRead l h v else t)
    else t)

/-- WAIT.TALLY waits until the named tally is zero (R138). -/
def execWaitTally (l h : Nat) (w : W64) (s : State) : Host.Outcome State Fault Refusal :=
  s.run (fun b => b.issue l h w 0xB3 false (fld w 10 54 != 0) (fun c =>
    let k := hwNo l h
    if (c.hw k).tally (fld w 8 2) = 0 then c.advance k else c))

/-- The oldest store of a die’s store buffer performs at its home (R236). -/
def execBufferedStorePerform (l : Nat) (s : State) : Host.Outcome State Fault Refusal :=
  s.run (fun b => b.performOldest l)

end Sys2Proof.Machine
end

