-- ==== Sys2Proof/Machine/SinkOps.lean ====
section
/-! DEFINITION. What the sinker engines share: descriptors and their checks (07 R166 to R168), translation of their regions
(07 R167), reads and writes beneath the home, results (07 R170), errors (07 R178). -/

namespace Sys2Proof.Machine

/-! ### Descriptor fields (R166, R171, R173, R175, R176) -/

def skOp (d : Line) : Nat := fld d 4 4
def skStack (d : Line) : Nat := fld d 8 4
def skLens (d : Line) : Bool := bit d 12
def skPeer (d : Line) : Nat := fld d 14 6
def skTag (d : Line) : Nat := fld d 20 4
def skFmt (d : Line) : Nat := fld d 24 4
def skScale (d : Line) : Nat := fld d 28 2
def skOfmt (d : Line) : Nat := fld d 30 1
def skT (d : Line) : W32 := BitVec.ofNat 32 (fld d 32 32)
def skStatus (d : Line) : Nat := fld d 64 64
def skBase (d : Line) : Nat := fld d 128 64
def skRows (d : Line) : Nat := fld d 192 32
def skCols (d : Line) : Nat := fld d 224 16
def skStride (d : Line) : Nat := fld d 240 16 * 64
def skDst (d : Line) : Nat := fld d 448 64
def skRowBytes (d : Line) : Nat := rowBytes (skFmt d) (skCols d)
/-- The scale t of the region: 1.0 under SCALE none. -/
def skTensor (d : Line) : W32 := if skScale d = 1 then skT d else one32
def skBags (d : Line) : Nat := fld d 256 16
def skPool (d : Line) : Nat := fld d 272 2
def skBagLen (d : Line) : Nat := fld d 288 16
def skIdx (d : Line) : Nat := fld d 320 64
def skOffs (d : Line) : Nat := fld d 384 64
def skQbase (d : Line) : Nat := fld d 256 64
def skQfmt (d : Line) : Nat := fld d 320 4
def skQscale (d : Line) : Nat := fld d 324 2
def skNq (d : Line) : Nat := fld d 326 5
def skK (d : Line) : Nat := fld d 331 11
def skQt (d : Line) : W32 := BitVec.ofNat 32 (fld d 352 32)
def skRow0 (d : Line) : Nat := fld d 384 32
def skCfmt (d : Line) : Nat := fld d 256 4
def skCen (d : Line) : Bool := bit d 260
def skCscale (d : Line) : W32 := BitVec.ofNat 32 (fld d 288 32)
def skPattern (d : Line) : Nat := fld d 256 64
def skDstride (d : Line) : Nat := fld d 256 16 * 64

/-- Pads to 64 bytes. -/
def pad64 (n : Nat) : Nat := (n + 63) / 64 * 64
/-- Result bytes at DST, but for COPY. -/
def skResult (d : Line) : Nat :=
  if skOp d = 1 then skBags d * pad64 (skCols d * (if skOfmt d = 1 then 2 else 4))
  else if skOp d = 2 then skNq d * pad64 (skK d * 8)
  else if skOp d = 3 then 64 else if skOp d = 5 then 8 else 0
/-- Panel length (R78). -/
def panelLen (f : Nat) : Nat := if f = 7 ∨ f = 9 then 8192 else 4096
/-- Pairs of operand formats (R43). -/
def pairsOk (a c : Nat) : Bool := (decide (3 ≤ a ∧ a ≤ 6) && decide (3 ≤ c ∧ c ≤ 6)) || (a == c && decide (a < 10))

/-- Reserved bits of a descriptor by its operation. -/
def skRsv (d : Line) : Bool :=
  bit d 13 || bit d 31 ||
  (if skOp d = 1 then fld d 274 14 != 0 || fld d 304 16 != 0
   else if skOp d = 2 then fld d 342 10 != 0 || fld d 416 32 != 0
   else if skOp d = 3 then fld d 261 27 != 0 || fld d 320 128 != 0
   else if skOp d = 4 then fld d 320 192 != 0
   else if skOp d = 5 then fld d 256 192 != 0
   else if skOp d = 6 then fld d 272 176 != 0
   else false)

/-- Whether the rows of a COPY's source and destination overlap (R176). -/
def skOverlap (d : Line) : Bool :=
  let rb := skRowBytes d
  (List.range (skRows d)).any (fun r =>
    let a := skBase d + r * skStride d
    -- a destination row DST + q × DSTRIDE meets [a, a + rb)
    decide (skDst d < a + rb) &&
      (let q := min (skRows d - 1) ((a + rb - 1 - skDst d) / max 1 (skDstride d))
       decide (a < skDst d + q * skDstride d + rb)))

/-- Checks 1 to 7 of R168, after LEVEL and the reserved fields with DETAIL 3; `member` tells a sinker member's
descriptor, `peerOk` whether DLANTERN is allowed, `share` the bytes of the share at DLANTERN. -/
def skChk (d : Line) (member peerOk : Bool) (share : Nat) : List Chk :=
  let o := skOp d; let per := skScale d == 1
  [ if fld d 0 4 ≠ 1 then some (0x3C, 3) else none,
    if skRsv d then some (0x38, 3) else none,
    need (decide (1 ≤ o ∧ o ≤ 6)) 0x0C,
    need (!(skTag d != 0 && !(member && skLens d)) && !(skPeer d != 0 && !skLens d) && !(skT d != 0 && skScale d == 0) &&
      !(o == 1 && skBagLen d != 0 && skOffs d != 0) && !(o == 2 && skScale d == 0 && skQt d != 0) &&
      !(o == 3 && !skCen d && (skCfmt d != 0 || skCscale d != 0)) && !((o == 4 || o == 6) && skLens d)) 0x0C,
    need (decide (skFmt d < 10 ∧ skScale d < 2) && !(per && decide (skFmt d < 3)) && !(per && decide (3 ≤ o)) &&
      !(skOfmt d != 0 && o != 1) && !(o == 2 && (!pairsOk (skFmt d) (skQfmt d) || skQscale d != skScale d)) &&
      !(o == 3 && skCen d && !decide (3 ≤ skCfmt d ∧ skCfmt d < 10))) 0x02,
    need (!(per && !scaleOk (skT d)) && !(o == 2 && per && !scaleOk (skQt d)) && !(o == 3 && skCen d && !scaleOk (skCscale d))) 0x04,
    need (decide (1 ≤ skRows d ∧ skRows d ≤ 0xFFFFFFFE ∧ 1 ≤ skCols d ∧ 64 ≤ skStride d ∧ skRowBytes d ≤ skStride d) &&
      !(o == 1 && (decide (skCols d > 4096) || skBags d == 0)) &&
      !(o == 2 && !decide (1 ≤ skNq d ∧ skNq d ≤ 16 ∧ 1 ≤ skK d ∧ skK d ≤ 1024 ∧ skCols d ≤ panelLen (skFmt d) ∧
        skRow0 d + skRows d ≤ 0xFFFFFFFF)) && !(o == 6 && skDstride d == 0)) 0x03,
    need (!(o == 6 && skOverlap d)) 0x0C,
    need (skStatus d % 32 == 0 && skBase d % 64 == 0 && !(o == 1 && (skIdx d % 8 != 0 || skOffs d % 4 != 0)) &&
      !(o == 2 && skQbase d % 64 != 0) && !(o == 5 && skDst d % 8 != 0) && !([1, 2, 3, 6].contains o && skDst d % 64 != 0)) 0x0B,
    need (!skLens d || peerOk) 0x11,
    need (!skLens d || decide (skDst d + skResult d ≤ share)) 0x09 ]

/-! ### Addresses -/

/-- Physical address of a region's byte. -/
def SinkOp.pa (o : SinkOp) (va : Nat) : Nat :=
  if o.physical then va
  else match o.xls.find? (fun (x : Nat × Nat × Nat) => decide (x.1 ≤ va ∧ va < x.1 + x.2.1)) with
    | some x => x.2.2 + (va - x.1)
    | none => 2 ^ 52

/-- A read beneath the home of n bytes at a region's address, with whether any line is poisoned (R165, R245). -/
def Block.sinkRead (b : Block) (o : SinkOp) (va n : Nat) : Except AccErr (List Byte × Bool) :=
  (chunksOf va n).foldl (fun (s : Except AccErr (List Byte × Bool)) (c : Nat × Nat) =>
    match s with
    | .error e => .error e
    | .ok t =>
      let pa := o.pa (va + c.1)
      match b.dom pa with
      | none => .error .unmapped
      | some a =>
        match b.under (a / 64) with
        | .error e => .error e
        | .ok v => .ok (t.1 ++ lineBytes v.1 (a % 64) c.2, t.2 || v.2)) (.ok ([], false))

/-- A write beneath the home of bytes at a region's address; `p` writes poison (R170). -/
def Block.sinkWrite (b : Block) (o : SinkOp) (va : Nat) (bs : List Byte) (p : Bool) : Except (AccErr × Block) Block :=
  (chunksOf va bs.length).foldl (fun (s : Except (AccErr × Block) Block) (c : Nat × Nat) =>
    match s with
    | .error e => .error e
    | .ok d =>
      let pa := o.pa (va + c.1)
      match d.dom pa with
      | none => .error (.unmapped, d)
      | some a => d.putUnder (a / 64) (byteMask (a % 64) c.2) (linePut 0 (a % 64) c.2 (leNat ((bs.drop c.1).take c.2))) p) (.ok b)

/-- Index-list entries that a gather reads: BAGS × BAGLEN, or the largest offset of OFFS; none while OFFS lies on a held channel
(R171, R178). -/
def Block.skIndices (b : Block) (o : SinkOp) : Option Nat :=
  let d := o.desc
  if skBagLen d ≠ 0 then some (skBags d * skBagLen d)
  else
    match b.sinkRead o (skOffs d) (4 * (skBags d + 1)) with
    | .ok v => some ((List.range (skBags d + 1)).foldl (fun m i => max m (leNat ((v.1.drop (4 * i)).take 4))) 0)
    | .error .wait => none
    | .error _ => some 0

/-- The memory regions that a descriptor names, but for its index list: address, bytes and ACCESS code 7 read, 8 write
(R167, R223). -/
def skRegions (d : Line) : List (Nat × Nat × Nat) :=
  let o := skOp d
  [(skBase d, (skRows d - 1) * skStride d + skRowBytes d, if o = 4 then 8 else 7)] ++
  (if o = 1 ∧ skBagLen d = 0 then [(skOffs d, 4 * (skBags d + 1), 7)] else []) ++
  (if o = 2 then [(skQbase d, (skNq d - 1) * pad64 (rowBytes (skQfmt d) (skCols d)) + rowBytes (skQfmt d) (skCols d), 7)] else []) ++
  (if o = 6 then [(skDst d, (skRows d - 1) * skDstride d + skRowBytes d, 8)]
   else if !skLens d && o != 4 then [(skDst d, skResult d, 8)] else []) ++
  (if skStatus d ≠ 0 then [(skStatus d, 32, 8)] else [])

/-- The index list of a gather as a region; none while its offsets cannot be read yet. -/
def Block.skIndexRegion (b : Block) (o : SinkOp) : Option (List (Nat × Nat × Nat)) :=
  if skOp o.desc = 1 then
    (b.skIndices o).map (fun i =>
      let n := i * (if skPool o.desc = 3 then 8 else 4)
      if n = 0 then [] else [(skIdx o.desc, n, 7)])
  else some []

/-- What the translation of one region gives: its range entries, a fault at its first failing byte, or a wait. -/
inductive RegionRes where
  | ok (xs : List (Nat × Nat × Nat))
  | fault (cause va : Nat)
  | wait
deriving DecidableEq, Repr

/-- Translates a region entry by entry (R167). -/
def Block.regionXl (l c access : Nat) : Nat → Block → Nat → Nat → List (Nat × Nat × Nat) → Block × RegionRes
  | 0, b, _, _, acc => (b, .ok acc)
  | k + 1, b, va, stop, acc =>
    if stop ≤ va then (b, .ok acc)
    else
      match b.translate l c va access true with
      | (b1, .ok _ x) => Block.regionXl l c access k b1 (x.va + x.len) stop (acc ++ [(x.va, x.len, x.pa)])
      | (b1, .fault cause _) => (b1, .fault cause va)
      | (b1, .wait) => (b1, .wait)

/-- Translates the regions of a descriptor: range entries found, faults of failing regions, and whether a walk waits. -/
def Block.regionsXl (b : Block) (l c : Nat) (rs : List (Nat × Nat × Nat)) :
    Block × List (Nat × Nat × Nat) × List (Nat × Nat × Nat) × Bool :=
  rs.foldl (fun (s : Block × List (Nat × Nat × Nat) × List (Nat × Nat × Nat) × Bool) r =>
    match Block.regionXl l c r.2.2 (r.2.1 / 65536 + 2) s.1 r.1 (r.1 + r.2.1) [] with
    | (b1, .ok xs) => (b1, s.2.1 ++ xs, s.2.2.1, s.2.2.2)
    | (b1, .fault cause va) => (b1, s.2.1, s.2.2.1 ++ [(cause, va, r.2.2)], s.2.2.2)
    | (b1, .wait) => (b1, s.2.1, s.2.2.1, true)) (b, [], [], false)

/-- The domain rule of R167: every byte of a region lies in the memory of STACK's domain, not in the spread window. -/
def Block.regionDomain (b : Block) (o : SinkOp) (r : Nat × Nat × Nat) : Bool :=
  let d := skStack o.desc / 2
  let inside (pa n : Nat) : Bool := decide (pa / 2 ^ 40 = d ∧ pa < 2 ^ 43 ∧ pa % 2 ^ 40 + n ≤ b.presented - b.spread)
  if o.physical then inside r.1 r.2.1
  else o.xls.all (fun x =>
    let lo := max r.1 x.1; let hi := min (r.1 + r.2.1) (x.1 + x.2.1)
    decide (hi ≤ lo) || inside (x.2.2 + (lo - x.1)) (hi - lo))

/-- Descriptors in a sinker's queue (R169). -/
def Sinker.queued (s : Sinker) : Nat := (s.ops.filter (fun (o : SinkOp) => o.admitted)).length
/-- Whether a new descriptor is admitted at once: the queue of 256 has room, and nothing that is admitted ahead of it or in turn with
it waits; one launched by a flash waits only behind others launched by a flash (R169). -/
def Sinker.room (s : Sinker) (flash : Bool) : Bool :=
  decide (s.queued < 256) && s.ops.all (fun (o : SinkOp) => o.admitted || (flash && o.group.isNone))

/-! ### Results and errors (R170, R178) -/

/-- Whether a hardware context still serves a descriptor's request. -/
def Block.serves (b : Block) (k : Nat) (o : SinkOp) : Bool := (b.hw k).phase != .free && (b.hw k).req == o.req
/-- The hardware context that a descriptor's errors, census and counters go to, while it serves the request (R170, R178). -/
def Block.sinkHw (b : Block) (o : SinkOp) : Option Nat :=
  if b.serves (hwNo o.lantern o.hw) o then some (hwNo o.lantern o.hw) else none
/-- Does something for the request of a descriptor where it is still served. -/
def Block.forSink (b : Block) (o : SinkOp) (f : Block → Nat → Block) : Block :=
  match b.sinkHw o with | some k => f b k | none => b

/-- The hardware context whose lens takes a descriptor's results, while it serves the request (R170): the issuer, or DLANTERN's
bound hardware context for a sinker member. -/
def Block.sinkTarget (b : Block) (o : SinkOp) : Option Nat :=
  if o.physical then
    match o.group with
    | some g => (((tfind (b.group g.1).members (skPeer o.desc)).bind Member.hw).map (fun h => hwNo (skPeer o.desc) h)).filter
        (fun k => b.serves k o)
    | none => none
  else b.sinkHw o

/-- Delivers result bytes at an offset from DST; bytes to a lens that is fenced or free are discarded, and bytes from a
sinker member add to counter TAG (R137, R170, R405). -/
def Block.sinkOut (b : Block) (o : SinkOp) (off : Nat) (bs : List Byte) : Except (AccErr × Block) Block :=
  if skLens o.desc then
    match b.sinkTarget o with
    | some k =>
      if (b.lantern (k / 4)).loss = .alive then
        let c := b.lensPut k (skDst o.desc + off) bs false
        .ok (if o.physical then c.updHw k (fun w => { w with tags := tput w.tags (skTag o.desc) ((tget 0 w.tags (skTag o.desc) + bs.length) % 2 ^ 32) }) else c)
      else .ok b
    | none => .ok b
  else b.sinkWrite o (skDst o.desc + off) bs false

/-- Changes the record of an operation at its sinker. -/
def Block.updOp (b : Block) (s id : Nat) (f : SinkOp → SinkOp) : Block :=
  b.updSinker s (fun x => { x with ops := x.ops.map (fun (o : SinkOp) => if o.id = id then f o else o) })

/-- An operation has ended in an error: nothing more of it is written, and it is not counted as completed (R178, R182). -/
def Block.sinkDead (b : Block) (s : Nat) (o : SinkOp) : Block := b.updOp s o.id (fun x => { x with ran := true, failed := true })

/-- The descriptor ends in an error: the request of the descriptor ends; nothing more of it is written (R178). -/
def Block.sinkFail (b : Block) (s : Nat) (o : SinkOp) (e : AccErr) : Block :=
  match e with
  | .wait => b.forSink o (fun c k => c.updHw k (fun w => { w with lateKind := 3, lateDomain := s / 2 }))
  | .unmapped => (b.forSink o (fun c k => c.exc k 0x0C)).sinkDead s o
  | .failed => (b.forSink o (fun c k => c.endReq k 0x30 1)).sinkDead s o
  | .noFrame d => (b.forSink o (fun c k => c.endReq k 0x30 d)).sinkDead s o

/-- A read of a sinker meets poison: POISON_HIT with DETAIL 6, and the context is extinguished (R178, R400). -/
def Block.sinkPoison (b : Block) (s : Nat) (o : SinkOp) (addr : Nat) : Block :=
  ((b.forSink o (fun c k => c.endReq k 0x60 6)).extinguish o.ctx 1 o.lantern addr).sinkDead s o

/-- The counts of a status record (R170). -/
structure SinkStat where
  rowsRead : Nat := 0
  skipped : Nat := 0
  empty : Nat := 0
  nonfinite : Nat := 0
deriving DecidableEq, Repr

/-- Ends an operation well: the status record through the home, the counters, the census (R170, R182, R246). -/
def Block.sinkGood (b : Block) (s : Nat) (o : SinkOp) (st : SinkStat) (bytes : Nat) (c : Census) : Block :=
  let b1 := b.forSink o (fun x k => x.addCensus k c)
  let rec_ := st.rowsRead + st.skipped * 2 ^ 64 + st.empty * 2 ^ 128 + st.nonfinite * 2 ^ 192
  let ended (d : Block) : Block := (d.updOp s o.id (fun x => { x with ran := true })).updSinker s
    (fun x => { x with rowsRead := x.rowsRead + st.rowsRead, bytesWritten := x.bytesWritten + bytes })
  if skStatus o.desc = 0 then ended b1
  else
    let pa := o.pa (skStatus o.desc)
    match b1.dom pa with
    | none => b.sinkFail s o .unmapped
    | some a =>
      match b1.write (a / 64) (byteMask (a % 64) 32) (linePut 0 (a % 64) 32 rec_) false with
      | .ok d => ended d
      | .error (.wait, _) => b
      | .error (e, d) => d.sinkFail s o e

/-- Whether the line of a descriptor's status record cannot be written yet: the operation then waits before it writes anything
(R170, R205). -/
def Block.statusWaits (b : Block) (o : SinkOp) : Bool :=
  skStatus o.desc != 0 &&
  (match b.dom (o.pa (skStatus o.desc)) with
   | some a => (match b.homeErr (a / 64) true with | some .wait => true | _ => false)
   | none => false)

/-- Whether a sinker die runs no descriptor: it is lost, or has no engine left (R404, R417). -/
def Sinker.dead (x : Sinker) : Bool := x.lost || x.engines == 0

/-- Runs an operation of a sinker that is admitted and has not run, unless issue is stopped by temperature; on a die that is
lost or has no engine left it ends the request with TIER_FAIL, DETAIL 4 (R169, R178, R180, R404, R417). -/
def Block.runSink (b : Block) (s id op : Nat) (go : Block → SinkOp → Block) : Block :=
  match (b.sinker s).ops.find? (fun (o : SinkOp) => o.id == id) with
  | some o =>
    if o.admitted ∧ !o.ran ∧ skOp o.desc = op then
      if (b.sinker s).dead then
        (b.forSink o (fun c k => c.endReq k 0x30 4)).sinkDead s o
      else if (b.sinker s).throttle = .stopped then
        b.forSink o (fun c k => c.updHw k (fun w => { w with lateKind := 4, lateDomain := s / 2 }))
      else if b.statusWaits o then b.sinkFail s o .wait
      else go b o
    else b
  | none => b

/-- Writes results and ends the operation; a result that cannot be written ends the request. -/
def Block.sinkFinish (b : Block) (s : Nat) (o : SinkOp) (outs : List (Nat × List Byte)) (st : SinkStat) (c : Census) : Block :=
  let r := outs.foldl (fun (x : Except (AccErr × Block) Block) (e : Nat × List Byte) =>
    match x with
    | .error y => .error y
    | .ok d => d.sinkOut o e.1 e.2) (.ok b)
  match r with
  | .error (.wait, _) => b.sinkFail s o .wait
  | .error (e, d) => d.sinkFail s o e
  | .ok d => d.sinkGood s o st ((outs.map (fun e => e.2.length)).sum) c

/-- The rows of a region read beneath the home: bytes of each row and whether any line is poisoned. -/
def Block.sinkRows (b : Block) (o : SinkOp) (rows : List Nat) : Except AccErr (List Nat × Bool) :=
  let d := o.desc
  rows.foldl (fun (x : Except AccErr (List Nat × Bool)) r =>
    match x with
    | .error e => .error e
    | .ok t =>
      match b.sinkRead o (skBase d + r * skStride d) (skRowBytes d) with
      | .error e => .error e
      | .ok v => .ok (t.1 ++ [leNat v.1], t.2 || v.2)) (.ok ([], false))

end Sys2Proof.Machine
end

