-- ==== Sys2Proof/Machine/Sinkers.lean ====
section
/-! DEFINITION. SINK and the sinker operations (05 R136; 07 R169 to R176, R180). -/

namespace Sys2Proof.Machine

/-- Enters a checked descriptor of a SINK instruction: its tally rises, its lens results stand on the scoreboard, its
chart reference is taken; admitted at once where the queue has room and no other waits (R122, R136, R169, R227). -/
def Block.enterSink (b : Block) (l h : Nat) (o : SinkOp) : Block :=
  let k := hwNo l h; let s := skStack o.desc
  let room := (b.sinker s).room false
  let b1 := ({ b with nextId := b.nextId + 1 }).addRef l o.id
  let b2 := if skLens o.desc then b1.boardPut k o.id (skDst o.desc) (skResult o.desc) true else b1
  let b3 := match o.tally with | some t => b2.tallyUp k t | none => b2
  let b4 := b3.updSinker s (fun x => { x with ops := x.ops ++ [{ o with admitted := room }] })
  if room then (b4.updSinker s (fun x => { x with last := l })).advance k
  else b4.updHw k (fun w => { w with waiting := true })

/-- Whether the engines of a sinker are held by a firmware switch: descriptors wait at issue (R433). -/
def Block.sinkHeld (b : Block) (s : Nat) : Bool := (b.fw 2).draining s

/-- Checks a descriptor that a lantern passes to a sinker and translates its regions; then goes on with it. On faults the
hardware context is held; a breach ends its request (R136, R167, R168). -/
def Block.sinkChecked (d : Block) (l h v : Nat) (tally : Option Nat) (grp : Option (Nat × Nat × Nat))
    (go : Block → SinkOp → Block) : Block :=
  let k := hwNo l h; let x := d.hw k
  let o0 : SinkOp :=
    { id := d.nextId, desc := BitVec.ofNat 512 v, lantern := l, hw := h, req := x.req, ctx := x.ctx, tally := tally,
      group := grp, physical := false, epoch := (d.chart l).epoch }
  d.checked k (skChk o0.desc false (skPeer o0.desc == l) x.share) (fun e =>
    let r := e.regionsXl l x.ctx (skRegions o0.desc)
    let o1 : SinkOp := { o0 with xls := r.2.1 }
    if r.2.2.2 then e else
    match r.1.skIndexRegion o1 with
    | none => e.updHw k (fun w => { w with lateKind := 3, lateDomain := skStack o0.desc / 2 })
    | some idx =>
    let r2 := r.1.regionsXl l x.ctx idx
    let o : SinkOp := { o1 with xls := r.2.1 ++ r2.2.1 }
    let faults := r.2.2.1 ++ r2.2.2.1
    if r2.2.2.2 then e
    else
      match faults with
      | _ :: _ =>
        match r2.1.holdFault l h 0 x.pc faults with
        | (g, none) => g
        | (g, some t) => g.endReq k 0x18 t
      | [] =>
        if !((skRegions o.desc ++ idx).all (r2.1.regionDomain o)) then r2.1.exc k 0x0C
        else if skLens o.desc && !(r2.1.hw k).mayWrite (skDst o.desc) (skResult o.desc) then r2.1
        else if skLens o.desc && !(r2.1.hw k).boardRoom 1 then r2.1
        else if r2.1.sinkHeld (skStack o.desc) then
          r2.1.updHw k (fun w => { w with lateKind := 4, lateDomain := skStack o.desc / 2 })
        else go r2.1 o)

/-- SINK: reads the descriptor, checks it, translates its regions, and passes it to its sinker; a SINK that finds the queue
full waits at issue (R136, R167 to R169). -/
def execSink (l h : Nat) (w : W64) (s : State) : Host.Outcome State Fault Refusal :=
  s.run (fun b => b.issue l h w 0x90 false (fld w 15 49 != 0) (fun c =>
    let k := hwNo l h; let va := ((c.hw k).reg (rD w)).toNat
    if (c.hw k).waiting then c
    else if va % 64 ≠ 0 then c.exc k 0x0B
    else c.dieRead l h 9 va 64 (fun d v => d.sinkChecked l h v (some (fld w 13 2)) none (fun e o => e.enterSink l h o))))

/-- The descriptor that a sinker admits next: a flash-launched one first, else round-robin by issuing lantern after the
last (R169). -/
def Sinker.next (x : Sinker) : Option SinkOp :=
  let ws := x.ops.filter (fun (o : SinkOp) => !o.admitted)
  match ws.find? (fun (o : SinkOp) => o.group.isSome) with
  | some o => some o
  | none =>
    match ((List.range 64).map (fun i => (x.last + 1 + i) % 64)).find? (fun l => ws.any (fun (o : SinkOp) => o.lantern == l)) with
    | some l => ws.find? (fun (o : SinkOp) => o.lantern == l)
    | none => none

/-- SINK_ADMIT: a waiting descriptor is admitted when the queue of 256 has room; the SINK that waited at issue goes on
(R169). -/
def execSinkAdmit (s : Nat) (st : State) : Host.Outcome State Fault Refusal :=
  st.run (fun b =>
    match (b.sinker s).next with
    | some o =>
      if (b.sinker s).queued < 256 then
        let c := (b.updOp s o.id (fun x => { x with admitted := true })).updSinker s
          (fun x => if o.group.isSome then x else { x with last := o.lantern })
        let k := hwNo o.lantern o.hw
        if o.tally.isSome ∧ (c.hw k).waiting ∧ (c.hw k).phase = .running then c.advance k else c
      else b
    | none => b)

/-! ### GATHER_POOL (R171, R172) -/

/-- What pooling one bag gives: its row of FP32 bits, and its counts. -/
def poolBag (d : Line) (rows : List (Nat × W32)) (skipped : Nat) : List W32 × SinkStat :=
  let vals := rows.map (fun (r : Nat × W32) =>
    (List.range (skCols d)).map (fun c =>
      let x := ((decodeVal (skFmt d) (elemAt (skFmt d) r.1 c)).mul (val32 (skTensor d))).round
      if skPool d = 3 then mul32 r.2 x else x))
  let raw := rows.map (fun (r : Nat × W32) =>
    ((List.range (skCols d)).filter (fun c =>
      !isFin32 ((decodeVal (skFmt d) (elemAt (skFmt d) r.1 c)).mul (val32 (skTensor d))).round)).length)
  let n := vals.length
  let out := (List.range (skCols d)).map (fun c =>
    let xs := vals.map (fun v => v.getD c 0)
    if n = 0 then 0#32
    else if skPool d = 2 then treeWith redMax32 64 (xs.map (fun x => if isNan32 x then nan32 else x))
    else
      let t := tree32 xs
      if skPool d = 1 then div32 t (round32 false n 0) else t)
  (out, { skipped := skipped, empty := if n = 0 then 1 else 0, nonfinite := if skPool d = 2 then 0 else raw.sum, rowsRead := n })

/-- Index-list entries of bag b: first and count; decreasing offsets give an empty bag whose indices are skipped (R171). -/
def bagBounds (d : Line) (offs : List Nat) (i : Nat) : Nat × Nat × Nat :=
  if skBagLen d ≠ 0 then (skBagLen d * i, skBagLen d, 0)
  else
    let a := offs.getD i 0; let z := offs.getD (i + 1) 0
    if z < a then (a, 0, a - z) else (a, z - a, 0)

/-- The bags of a gather read in order: pooled rows, counts, and whether poison was met. -/
def Block.gatherBags (b : Block) (o : SinkOp) : Except AccErr (List (List W32) × SinkStat × Bool) :=
  let d := o.desc
  let ew := if skPool d = 3 then 8 else 4
  let offs : Except AccErr (List Nat × Bool) :=
    if skBagLen d ≠ 0 then .ok ([], false)
    else
      match b.sinkRead o (skOffs d) (4 * (skBags d + 1)) with
      | .error e => .error e
      | .ok v => .ok ((List.range (skBags d + 1)).map (fun i => leNat ((v.1.drop (4 * i)).take 4)), v.2)
  match offs with
  | .error e => .error e
  | .ok (os, bad0) =>
    (List.range (skBags d)).foldl (fun (s : Except AccErr (List (List W32) × SinkStat × Bool)) i =>
      match s with
      | .error e => .error e
      | .ok t =>
        let bb := bagBounds d os i
        match b.sinkRead o (skIdx d + ew * bb.1) (ew * bb.2.1) with
        | .error e => .error e
        | .ok ix =>
          let es := (List.range bb.2.1).map (fun j =>
            (leNat ((ix.1.drop (ew * j)).take 4), BitVec.ofNat 32 (leNat ((ix.1.drop (ew * j + 4)).take 4))))
          let live := es.filter (fun e => decide (e.1 < skRows d))
          let skip := (es.filter (fun e => decide (skRows d ≤ e.1) && e.1 != 0xFFFFFFFF)).length + bb.2.2
          match b.sinkRows o (live.map Prod.fst) with
          | .error e => .error e
          | .ok rs =>
            let p := poolBag d (rs.1.zip (live.map Prod.snd)) skip
            .ok (t.1 ++ [p.1],
              { rowsRead := t.2.1.rowsRead + p.2.rowsRead, skipped := t.2.1.skipped + p.2.skipped,
                empty := t.2.1.empty + p.2.empty, nonfinite := t.2.1.nonfinite + p.2.nonfinite },
              t.2.2 || ix.2 || rs.2)) (.ok ([], {}, bad0))

/-- GATHER_POOL: pools bags of table rows into output rows in OFMT (R171, R172). -/
def execGatherPool (s id : Nat) (st : State) : Host.Outcome State Fault Refusal :=
  st.run (fun b => b.runSink s id 1 (fun c o =>
    match c.gatherBags o with
    | .error e => c.sinkFail s o e
    | .ok (rows, stat, bad) =>
      if bad then c.sinkPoison s o (o.pa (skBase o.desc))
      else
        let f := skOfmt o.desc
        let cv := rows.map (fun r => r.map (fun x => convertVal f .rne (val32 x) 1 1))
        let w := pad64 (skCols o.desc * (if f = 1 then 2 else 4))
        c.sinkFinish s o ((cv.zipIdx).map (fun (r : List (Nat × Census) × Nat) => (r.2 * w, packRow f (r.1.map Prod.fst)))) stat
          ((cv.flatten).foldl (fun a e => a.add e.2) {})))

/-! ### SCORE_TOPK (R173, R174) -/

/-- The score of a region row against a query row: the one-panel sum of R79, R81 or R82. -/
def scoreOf (d : Line) (row q : Nat) : W32 :=
  let n := skCols d
  if skFmt d = 0 then beamFp32 row q n 0
  else if skFmt d < 3 then beamHalf (skFmt d) (skQfmt d) row q n
  else
    let r := dotExact (skFmt d) (skQfmt d) row q (List.range n) ({}, 0)
    closeExact r.1 r.2 (skTensor d) (if skQscale d = 1 then skQt d else one32) 0

/-- Inserts a scored row below every entry of a score not lower: rows come in ascending index. -/
def rankIns (e : W32 × Nat) : List (W32 × Nat) → List (W32 × Nat)
  | [] => [e]
  | f :: t => if lt32 f.1 e.1 then e :: f :: t else f :: rankIns e t

/-- The K best rows of one query, and how many scores were NaN (R174). -/
def topK (d : Line) (q : Nat) (rows : List Nat) : List (W32 × Nat) × Nat :=
  (rows.zipIdx).foldl (fun (s : List (W32 × Nat) × Nat) (r : Nat × Nat) =>
    let v := scoreOf d r.1 q
    if isNan32 v then (s.1, s.2 + 1) else ((rankIns (v, r.2) s.1).take (skK d), s.2)) ([], 0)

/-- The query rows of a SCORE_TOPK as numbers, and whether a line of them is poisoned (R173). -/
def Block.sinkQueries (b : Block) (o : SinkOp) : Except AccErr (List Nat × Bool) :=
  let d := o.desc
  let qb := rowBytes (skQfmt d) (skCols d)
  (List.range (skNq d)).foldl (fun (x : Except AccErr (List Nat × Bool)) i =>
    match x with
    | .error e => .error e
    | .ok t =>
      match b.sinkRead o (skQbase d + i * pad64 qb) qb with
      | .error e => .error e
      | .ok v => .ok (t.1 ++ [leNat v.1], t.2 || v.2)) (.ok ([], false))
/-- The result row of one query: K pairs of score and row number, empty places filled (R174). -/
def topBytes (d : Line) (l : List (W32 × Nat)) : List Byte :=
  ((List.range (skK d)).map (fun i =>
    match l[i]? with
    | some e => leBytes 4 e.1.toNat ++ leBytes 4 (e.2 + skRow0 d)
    | none => leBytes 4 0xFF800000 ++ leBytes 4 0xFFFFFFFF)).flatten

/-- SCORE_TOPK: the K best rows for each query (R173, R174). -/
def execScoreTopk (s id : Nat) (st : State) : Host.Outcome State Fault Refusal :=
  st.run (fun b => b.runSink s id 2 (fun c o =>
    let d := o.desc
    match c.sinkRows o (List.range (skRows d)) with
    | .error e => c.sinkFail s o e
    | .ok (rows, bad) =>
      match c.sinkQueries o with
      | .error e => c.sinkFail s o e
      | .ok (qv, bad2) =>
        if bad || bad2 then c.sinkPoison s o (o.pa (skBase d))
        else
          let ls := qv.map (fun q => topK d q rows)
          c.sinkFinish s o ((ls.zipIdx).map (fun e => (e.2 * pad64 (skK d * 8), topBytes d e.1.1)))
            { rowsRead := skRows d, nonfinite := (ls.map (fun e => e.2)).sum } {}))

/-! ### STATS, FILL, CHECKSUM, COPY (R175, R176) -/

/-- The record of a STATS over the values of a region, row by row, and the count of values that are not finite (R175). -/
def statsRec (d : Line) (rows : List Nat) : List Byte × Nat :=
  let vs := (rows.map (fun r => (List.range (skCols d)).map (fun i => decodeVal (skFmt d) (elemAt (skFmt d) r i)))).flatten
  let xs := vs.map Val.to32
  let nonfin := (vs.filter (fun v => match v with | .fin _ _ _ => false | _ => true)).length
  let amax := (xs.filter isFin32).foldl (fun a x => amax32 a (x &&& 0x7FFFFFFF#32)) 0
  let t := scaleQ (skCscale d)
  let cen := if skCen d then (vs.map (fun v => (convertVal (skCfmt d) .rne v t.1 t.2).2)).foldl Census.add {} else {}
  (leBytes 4 amax.toNat ++ leBytes 4 (tree32 xs).toNat ++ leBytes 4 (tree32 (xs.map (fun x => mul32 x x))).toNat ++
    leBytes 4 0 ++ leBytes 8 xs.length ++ leBytes 8 nonfin ++ leBytes 8 cen.saturated ++ leBytes 8 cen.flushed ++ leBytes 16 0,
    nonfin)

/-- STATS: amax, sums and an optional census of a region (R175). -/
def execStats (s id : Nat) (st : State) : Host.Outcome State Fault Refusal :=
  st.run (fun b => b.runSink s id 3 (fun c o =>
    match c.sinkRows o (List.range (skRows o.desc)) with
    | .error e => c.sinkFail s o e
    | .ok (rows, bad) =>
      if bad then c.sinkPoison s o (o.pa (skBase o.desc))
      else c.sinkFinish s o [(0, (statsRec o.desc rows).1)] { rowsRead := skRows o.desc, nonfinite := (statsRec o.desc rows).2 } {}))

/-- Clears the poison of the lines of a row beneath the home (R176, R397). -/
def Block.clearRow (b : Block) (o : SinkOp) (va n : Nat) : Block :=
  (chunksOf va n).foldl (fun (f : Block) (ch : Nat × Nat) =>
    match f.dom (o.pa (va + ch.1)) with
    | some a => let m := (f.memLine (a / 64)).1; f.putMem (a / 64) m false
    | none => f) b
/-- Writes a FILL's rows one after the other (R176). -/
def Block.fillRows (b : Block) (o : SinkOp) : Except (AccErr × Block) Block :=
  let d := o.desc
  let row := (List.range (skRowBytes d)).map (fun i => BitVec.ofNat 8 (skPattern d / 2 ^ (8 * (i % 8))))
  (List.range (skRows d)).foldl (fun (x : Except (AccErr × Block) Block) i =>
    match x with
    | .error e => .error e
    | .ok e =>
      match e.sinkWrite o (skBase d + i * skStride d) row false with
      | .ok f => .ok (f.clearRow o (skBase d + i * skStride d) row.length)
      | .error f => .error f) (.ok b)

/-- FILL: byte i of each row takes byte i mod 8 of PATTERN; poison is cleared (R176, R397). -/
def execFill (s id : Nat) (st : State) : Host.Outcome State Fault Refusal :=
  st.run (fun b => b.runSink s id 4 (fun c o =>
    match c.fillRows o with
    | .error (.wait, _) => c.sinkFail s o .wait
    | .error (e, f) => f.sinkFail s o e
    | .ok f => f.sinkGood s o {} (skRows o.desc * skRowBytes o.desc) {}))

/-- One step of the checksum over GF(2^64) (R176). -/
def gfStep (c w : W64) : W64 := (if bit c 63 then (c <<< 1) ^^^ 0x1B#64 else c <<< 1) ^^^ w

/-- The 64-bit words of bytes padded with zeros to a multiple of 8 (R176). -/
def wordsOf (bs : List Byte) : List W64 :=
  (List.range ((bs.length + 7) / 8)).map (fun i => BitVec.ofNat 64 (leNat ((bs.drop (8 * i)).take 8)))

/-- Horner's rule over GF(2^64) (R176). -/
def gfSum (ws : List W64) : W64 := ws.foldl gfStep 0

/-- CHECKSUM: the GF(2^64) checksum of a region, row by row (R176). -/
def execChecksum (s id : Nat) (st : State) : Host.Outcome State Fault Refusal :=
  st.run (fun b => b.runSink s id 5 (fun c o =>
    let d := o.desc
    match c.sinkRows o (List.range (skRows d)) with
    | .error e => c.sinkFail s o e
    | .ok (rows, bad) =>
      if bad then c.sinkPoison s o (o.pa (skBase d))
      else
        let sum := gfSum ((rows.map (fun r => wordsOf (leBytes (skRowBytes d) r))).flatten)
        c.sinkFinish s o [(0, leBytes 8 sum.toNat)] { rowsRead := skRows d } {}))

/-- Copies the rows of a COPY piece by piece, poisoned lines as poison (R176, R396). -/
def Block.copyRows (b : Block) (o : SinkOp) : Except (AccErr × Block) Block :=
  let d := o.desc
  (List.range (skRows d)).foldl (fun (x : Except (AccErr × Block) Block) i =>
    (chunksOf (skBase d + i * skStride d) (skRowBytes d)).foldl (fun (y : Except (AccErr × Block) Block) (ch : Nat × Nat) =>
      match y with
      | .error e => .error e
      | .ok e =>
        match e.sinkRead o (skBase d + i * skStride d + ch.1) ch.2 with
        | .error f => .error (f, e)
        | .ok v => e.sinkWrite o (skDst d + i * skDstride d + ch.1) v.1 v.2) x) (.ok b)

/-- COPY: the row bytes of each row to the destination, poisoned lines as poison (R176, R178, R396). -/
def execCopy (s id : Nat) (st : State) : Host.Outcome State Fault Refusal :=
  st.run (fun b => b.runSink s id 6 (fun c o =>
    match c.copyRows o with
    | .error (.wait, _) => c.sinkFail s o .wait
    | .error (e, f) => f.sinkFail s o e
    | .ok f => f.sinkGood s o { rowsRead := skRows o.desc } (skRows o.desc * skRowBytes o.desc) {}))

/-- STACK_TEMP_SAMPLE: the throttle state from the hottest sensor: upward at once, downward one state at a sample (R180). -/
def execStackTempSample (s : Nat) (milliC : Int) (st : State) : Host.Outcome State Fault Refusal :=
  st.run (fun b =>
    let x := b.sinker s
    let up : Throttle := if milliC ≥ 95000 then .stopped else if milliC ≥ 90000 then .quarter else if milliC ≥ 85000 then .half else .full
    let next : Throttle := match x.throttle with
      | .full => up
      | .half => if milliC < 83000 then .full else if up = .full then .half else up
      | .quarter => if milliC < 88000 then .half else if up = .stopped then .stopped else .quarter
      | .stopped => if milliC < 93000 then .quarter else .stopped
    let hot := next == .stopped && x.throttle != .stopped
    let c := b.setSinker s { x with throttle := next, refresh2 := next == .stopped, hotEvents := x.hotEvents + (if hot then 1 else 0) }
    if hot then c.raise (unitNo 0x30 s) .stackHot [s] else c)

end Sys2Proof.Machine
end

