-- ==== Sys2Proof/Machine/Moves.lean ====
section
/-! DEFINITION. MOVE, SEND and RECV (05 R127 to R129, R137), the completion of transfers (05 R122), and the claiming of
lane-file halves (05 R130). -/

namespace Sys2Proof.Machine

/-! ### Shared operations -/

/-- Key of a logical beam. -/
def beamNo (l b : Nat) : Nat := l * 16 + b
/-- A lane-file half of a beam. -/
def Beam.half (x : Beam) (h : Nat) : Half := tget {} x.halves h
/-- Changes a half of a lantern, numbered beam × 2 + half (R130). -/
def Block.updHalf (b : Block) (l n : Nat) (f : Half → Half) : Block :=
  b.updBeam (beamNo l (n / 2)) (fun x => { x with halves := tput x.halves (n % 2) (f (x.half (n % 2))) })
/-- A half of a lantern. -/
def Block.halfOf (b : Block) (l n : Nat) : Half := (b.beam (beamNo l (n / 2))).half (n % 2)
/-- Whether an operation reads a half: a SELFTEST uses both halves of its beam (R97, R131). -/
def BeamOp.uses (o : BeamOp) (n : Nat) : Bool := o.beam == n / 2 && (o.selftest.isSome || o.half == n % 2)
/-- Whether a queued or running BEAM reads a half (R58). -/
def Block.halfRead (b : Block) (l n : Nat) : Bool :=
  let x := b.beam (beamNo l (n / 2))
  x.queue.any (fun (o : BeamOp) => o.uses n) || (match x.run with | some o => o.uses n | none => false)
/-- Frees the released halves of a lantern that nothing queued or loading uses (R130). -/
def Block.freeHalves (b : Block) (l : Nat) : Block :=
  (List.range 32).foldl (fun c n =>
    let h := c.halfOf l n
    if h.releasing ∧ !c.halfRead l n ∧ h.st ≠ .loading then c.updHalf l n (fun _ => {}) else c) b

/-- One line of memory as a MOVE reads it: at the home, or through the die cache where the descriptor says KEEP, with the
die's own buffered stores and the hardware context's own issued MOVEs in it (R61, R236). -/
def Block.moveLine (b : Block) (l h pa : Nat) (keep : Bool) : Except (AccErr × Block) (Block × Line × Bool) :=
  match b.dom pa with
  | none => .error (.unmapped, b)
  | some a =>
    match if keep then b.loadLine l (a / 64) else (b.readOnce (a / 64)).mapError (fun e => (e, b)) with
    | .error e => .error e
    | .ok (c, v, p) => .ok (c, overlayMoves (b.ownMoves l h) (a / 64) (overlay (b.lantern l).stores pa v, p))

/-- A piece of a tile row: its offset in the row, its bytes, and whether its line is poisoned. -/
abbrev Piece := Nat × List Byte × Bool

/-- Reads n bytes at a virtual address of a checked footprint, line by line. -/
def Block.moveRow (b : Block) (f : Foot) (l h : Nat) (keep : Bool) (va n : Nat) :
    Except ((AccErr × Block) × Nat) (Block × List Piece) :=
  (chunksOf va n).foldl (fun (s : Except ((AccErr × Block) × Nat) (Block × List Piece)) (c : Nat × Nat) =>
    match s with
    | .error e => .error e
    | .ok t =>
      let pa := f.pa ((va + c.1) % 2 ^ 64)
      match t.1.moveLine l h pa keep with
      | .error e => .error (e, pa)
      | .ok (d, v, p) => .ok (d, t.2 ++ [(c.1, lineBytes v (pa % 64) c.2, p)])) (.ok (b, []))

/-- Reads the rows of a memory tile. -/
def Block.moveRows (b : Block) (f : Foot) (l h : Nat) (keep : Bool) (base stride n rows : Nat) :
    Except ((AccErr × Block) × Nat) (Block × List (List Piece)) :=
  (List.range rows).foldl (fun (s : Except ((AccErr × Block) × Nat) (Block × List (List Piece))) r =>
    match s with
    | .error e => .error e
    | .ok t =>
      match t.1.moveRow f l h keep (base + r * stride) n with
      | .error e => .error e
      | .ok (d, ps) => .ok (d, t.2 ++ [ps])) (.ok (b, []))

/-- The number that the pieces of a row spell. -/
def rowNat (ps : List Piece) : Nat := leNat ((ps.map (fun p => p.2.1)).flatten)
/-- Whether a piece is poisoned. -/
def badPieces (rs : List (List Piece)) : Bool := rs.any (fun r => r.any (fun p => p.2.2))

/-- Puts rows of pieces into the lens: poison goes line for line (R396). -/
def Block.putPieces (b : Block) (k base stride : Nat) (rs : List (List Piece)) : Block :=
  (rs.zipIdx).foldl (fun c (r : List Piece × Nat) =>
    r.1.foldl (fun d (p : Piece) => d.lensPut k (base + r.2 * stride + p.1) p.2.1 p.2.2) c) b

/-- Pieces of a lens row, split where the destination rows split into memory lines. -/
def Block.lensPieces (b : Block) (k off va n : Nat) : List Piece :=
  (chunksOf va n).map (fun (c : Nat × Nat) => (c.1, b.lensBytes k (off + c.1) c.2, b.lensBad k (off + c.1) c.2))

/-- The memory writes of rows of pieces: line, byte mask, data, poison. -/
def Block.pieceWrites (b : Block) (f : Foot) (base stride : Nat) (rs : List (List Piece)) : List (Nat × W64 × Line × Bool) :=
  ((rs.zipIdx).map (fun (r : List Piece × Nat) => r.1.map (fun (p : Piece) =>
    let pa := f.pa ((base + r.2 * stride + p.1) % 2 ^ 64)
    let a := (b.dom pa).getD 0
    (a / 64, byteMask (a % 64) p.2.1.length, linePut 0 (a % 64) p.2.1.length (leNat p.2.1), p.2.2)))).flatten

/-- Ranges of the scoreboard that a lens tile takes. -/
def tdRanges (d : Line) : Nat := if tdMx d then 2 else 1
/-- Enters a lens tile into the scoreboard. -/
def Block.boardTile (b : Block) (k id : Nat) (d : Line) (writes : Bool) : Block :=
  let c := b.boardPut k id (tdBase d) (tdSpan d) writes
  if tdMx d then c.boardPut k id (tdXbase d) (tdXspan d) writes else c

/-- A reading that meets a BUSY line leaves its request in the queue there, and nothing else (R255). -/
def Block.waitOn (b : Block) (e : AccErr × Block) : Block := if e.1 = .wait then { b with lines := e.2.lines } else b

/-- Issues a transfer: its tally, its place in flight, its reference on the chart epoch where its footprint was translated; then
the next instruction (R122, R129, R227). -/
def Block.startXfer (b : Block) (k tally : Nat) (mem : Bool) (x : Xfer) : Block :=
  let c := if mem then (b.tallyUp k tally).addRef (k / 4) b.nextId else b.tallyUp k tally
  ({ c with xfers := c.xfers ++ [{ x with id := b.nextId, lantern := k / 4, hw := k % 4, req := (b.hw k).req,
                                          tally := some tally }], nextId := b.nextId + 1 }).advance k

/-- Checks of M2L and L2M (R128): the memory tile `m`, the lens tile `n`, source `ts` and destination `td`. -/
def moveChk (share : Nat) (toLens cvt : Bool) (ts td : Line) : List Chk :=
  [ tdChk ts share false, tdChk td share true,
    need (tdLens ts == !toLens && tdLens td == toLens) 0x0C,
    need (tdRows ts == tdRows td && tdCols ts == tdCols td) 0x03,
    if cvt then need (!tdMx td) 0x02
    else need (tdFmt ts == tdFmt td && tdScale ts == tdScale td && (!tdPer ts || tdT ts == tdT td)) 0x02 ]

/-- Reserved and unused bits of MOVE.M2L and MOVE.L2M (R118, R127). -/
def moveRsv (w : W64) : Bool := fld w 25 39 != 0 || (!bit w 16 && bit w 17) || (!bit w 17 && fld w 18 5 != 0)

/-- The stream number of a conversion (R87): gST[31:0] where the rounding is stochastic. -/
def Hw.stream (x : Hw) (g : Nat) : Nat := (x.reg g).toNat % 2 ^ 32

/-- A transfer has performed all its writes: tally, scoreboard and reference are given up, a half is loaded (R45, R122). -/
def Block.retireXfer (b : Block) (x : Xfer) : Block :=
  let k := hwNo x.lantern x.hw
  let c := ({ b with xfers := b.xfers.filter (fun (y : Xfer) => y.id != x.id) }).dropRef x.lantern x.id
  let d := (match x.tally with | some t => c.tallyDown k t | none => c).boardDel k x.id
  match x.half with
  | some n => (d.updHalf x.lantern n (fun h => { h with st := .full })).freeHalves x.lantern
  | none => d

/-- Performs the memory writes of a MOVE.L2M in order; the first that is not served stops it (R129, R144). -/
def Block.xferWrites (b : Block) (x : Xfer) : Block × Option (AccErr × Nat) × List (Nat × W64 × Line × Bool) :=
  x.writes.foldl (fun (s : Block × Option (AccErr × Nat) × List (Nat × W64 × Line × Bool)) w =>
    match s.2.1 with
    | some _ => (s.1, s.2.1, s.2.2 ++ [w])
    | none =>
      match s.1.write w.1 w.2.1 w.2.2.1 w.2.2.2 with
      | .ok c =>
        let d := if x.keep then (match c.loadLine x.lantern w.1 with | .ok r => r.1 | .error _ => c) else c
        (d, none, s.2.2)
      | .error e => (e.2, some (e.1, w.1 * 64), s.2.2 ++ [w])) (b, none, [])

/-- The hardware context of a lantern that runs a request. -/
def Block.hwFor (b : Block) (l req : Nat) : Option Nat :=
  ([0, 1, 2, 3].map (hwNo l)).find? (fun k => (b.hw k).phase != Phase.free && (b.hw k).req == req)

/-- One chunk of a SEND reaches its lantern (R137, R145): it lands and counts, or is discarded; it waits where the lantern
has yet to take the request. -/
def Block.landChunk (b : Block) (x : Xfer) (peer : Nat) (c : Nat × Nat × List Byte × Bool) : Block :=
  let gone (d : Block) : Block := { d with xfers := d.xfers.map (fun (y : Xfer) =>
    if y.id = x.id then { y with chunks := y.chunks.filter (fun z => z.1 != c.1) } else y) }
  let stray (d : Block) : Block := d.updLantern peer (fun t => { t with stray := t.stray + c.2.2.1.length })
  if (b.lantern peer).loss ≠ .alive then gone b
  else
    match b.hwFor peer x.req with
    | none => if !thas b.requests x.req || (b.request x.req).left.getLsbD peer then gone (stray b) else b
    | some k =>
      let w := b.hw k
      let left := match w.phase with | .ended 4 _ => true | _ => (b.request x.req).left.getLsbD peer
      if left then gone (stray b)
      else if c.2.1 + c.2.2.1.length > w.share then gone (b.exc k 0x09)
      else
        gone ((b.lensPut k c.2.1 c.2.2.1 c.2.2.2).updHw k (fun y =>
          { y with tags := tput y.tags x.tag ((tget 0 y.tags x.tag + c.2.2.1.length) % 2 ^ 32) }))

/-- A lens tile's row bytes, row after row without gaps, each byte with the poison of its line (R137). -/
def Block.packed (b : Block) (k : Nat) (d : Line) : List (Byte × Bool) :=
  ((List.range (tdRows d)).map (fun r =>
    ((chunksOf (tdBase d + r * tdStride d) (tdRowBytes d)).map (fun (c : Nat × Nat) =>
      let off := tdBase d + r * tdStride d + c.1
      (b.lensBytes k off c.2).map (fun v => (v, b.lensBad k off c.2)))).flatten)).flatten

/-- Chunks of up to 64 bytes for a lens offset of the receiver. -/
def sendChunks (off : Nat) (bs : List (Byte × Bool)) : List (Nat × Nat × List Byte × Bool) :=
  (List.range (ceilDiv bs.length 64)).map (fun i =>
    let p := (bs.drop (64 * i)).take 64
    (i, (off + 64 * i) % 2 ^ 64, p.map Prod.fst, p.any Prod.snd))

/-- A RECV's reading of its counter (R137). -/
def Block.recvTry (b : Block) (l h : Nat) (w : W64) (late : Bool) : Block :=
  let k := hwNo l h; let x := b.hw k; let td := x.tile (fld w 8 4); let tag := fld w 22 4
  b.useTiles k [fld w 8 4] (fun c =>
    c.checked k [tdChk td x.share true, need (tdLens td) 0x0C] (fun d =>
      let n := (x.reg (fld w 12 5)).toNat
      if x.tileWritable td ∧ n ≤ tget 0 x.tags tag then
        (d.updHw k (fun y => { y with tags := tput y.tags tag (tget 0 y.tags tag - n) })).advance k
      else if late then d.exc k 0x12
      else d.updHw k (fun y => { y with waiting := true })))

/-- Limit of K per BEAM (R44). -/
def beamK (f : Nat) : Nat :=
  if f = 0 then 256 else if f = 1 ∨ f = 2 then 512 else if f = 7 ∨ f = 9 then 2048 else 1024

/-- Grants the halves of a waiting CLAIM (R130). -/
def Block.grantClaim (b : Block) (k : Nat) (want : List Nat) : Block :=
  let c := want.foldl (fun d n => d.updHalf (k / 4) n (fun _ => { owner := some (k % 4) })) b
  (c.updHw k (fun w => { w with claims := want, claimWant := [], phase := .running })).advance k

/-- Whether every half of a list is free. -/
def Block.halvesFree (b : Block) (l : Nat) (want : List Nat) : Bool := want.all (fun n => (b.halfOf l n).owner.isNone)

/-! ### Meanings -/

/-- Home tiles of the pages of a checked footprint. -/
def Block.footHomes (b : Block) (f : Foot) : List Nat :=
  f.pages.foldl (fun (a : List Nat) (p : Nat × Nat) => match b.dom p.2 with | some x => addLast a (tileOf (domOf x)) | none => a) []
/-- A transfer as it starts. -/
def newXfer (l h : Nat) (homes : List Nat) (writes : List (Nat × W64 × Line × Bool)) (half : Option Nat) (keep : Bool) : Xfer :=
  { id := 0, lantern := l, hw := h, req := 0, tally := none, homes := homes, writes := writes, half := half, keep := keep }

/-- What a MOVE.M2L puts into the lens: the rows and row scales as they are, or, under CVT, the rows converted (R127, R128). -/
def Block.moveIn (b : Block) (k : Nat) (x : Hw) (w : W64) (ts td : Line) (rows xrows : List (List Piece)) : Block :=
  if bit w 16 then
    let r := convertRows td (bit w 17) x.seed (x.stream (fld w 18 5)) (tileVals ts (rows.map rowNat) (xrows.map rowNat))
    (b.putRows k (tdBase td) (tdStride td) r.1).addCensus k r.2
  else (b.putPieces k (tdBase td) (tdStride td) rows).putPieces k (tdXbase td) (tdXstride td) xrows

/-- MOVE.M2L: the footprint is checked as a whole, the rows are read and put into the lens, converted where CVT asks for it;
the lens range stays on the scoreboard until MOVE_DONE (R127 to R129). -/
def execMoveM2L (l h : Nat) (w : W64) (s : State) : Host.Outcome State Fault Refusal :=
  s.run (fun b => b.issue l h w 0x40 false (moveRsv w) (fun c =>
    let k := hwNo l h; let x := c.hw k; let ts := x.tile (fld w 8 4); let td := x.tile (fld w 12 4)
    c.useTiles k [fld w 8 4, fld w 12 4] (fun d =>
      d.checked k (moveChk x.share true (bit w 16) ts td) (fun e =>
        if !x.tileWritable td || !x.boardRoom (tdRanges td) then e
        else
          e.withFoot l h 5 false (tdFoot ts) (fun g f =>
            match g.moveRows f l h (tdKeep ts) (tdBase ts) (tdStride ts) (tdRowBytes ts) (tdRows ts) with
            | .error r => (g.waitOn r.1).memErr k r.1.1 r.2
            | .ok (g1, rows) =>
              match g1.moveRows f l h (tdKeep ts) (tdXbase ts) (tdXstride ts) (if tdMx ts then tdCols ts / 32 else 0) (tdRows ts) with
              | .error r => (g.waitOn r.1).memErr k r.1.1 r.2
              | .ok (g2, xrows) =>
                if bit w 16 && (badPieces rows || badPieces xrows) then g2.poisonHit k 1 0
                else
                  ((g2.moveIn k x w ts td rows xrows).boardTile k g2.nextId td true).startXfer k (fld w 23 2) true
                    (newXfer l h (g2.footHomes f) [] none false))))))

/-- Rows and row scales that a MOVE.L2M writes, in pieces of memory lines: the lens tile's own, or, under CVT, the converted
rows (R127, R128). -/
def Block.moveOut (b : Block) (k : Nat) (x : Hw) (w : W64) (ts td : Line) : List (List Piece) × List (List Piece) :=
  (if bit w 16 then
      ((convertRows td (bit w 17) x.seed (x.stream (fld w 18 5)) (b.lensVals k ts)).1.zipIdx).map (fun (y : List Byte × Nat) =>
        (chunksOf (tdBase td + y.2 * tdStride td) (tdRowBytes td)).map (fun (q : Nat × Nat) =>
          (q.1, (y.1.drop q.1).take q.2, false)))
    else
      (List.range (tdRows ts)).map (fun i =>
        b.lensPieces k (tdBase ts + i * tdStride ts) (tdBase td + i * tdStride td) (tdRowBytes td)),
    if tdMx td then
      (List.range (tdRows ts)).map (fun i =>
        b.lensPieces k (tdXbase ts + i * tdXstride ts) (tdXbase td + i * tdXstride td) (tdCols td / 32))
    else [])

/-- MOVE.L2M: the footprint is checked as a whole; the rows of the lens tile are performed in memory by MOVE_DONE (R127 to
R129); it waits for the hardware context's earlier stores and MOVEs to write its lines (R238, rule 5). -/
def execMoveL2M (l h : Nat) (w : W64) (s : State) : Host.Outcome State Fault Refusal :=
  s.run (fun b => b.issue l h w 0x41 false (moveRsv w) (fun c =>
    let k := hwNo l h; let x := c.hw k; let ts := x.tile (fld w 8 4); let td := x.tile (fld w 12 4)
    c.useTiles k [fld w 8 4, fld w 12 4] (fun d =>
      d.checked k (moveChk x.share false (bit w 16) ts td) (fun e =>
        if !x.tileReadable ts || !x.boardRoom (tdRanges ts) then e
        else
          e.withFoot l h 6 false (tdFoot td) (fun g f =>
            if bit w 16 && g.tilePoison k ts then g.poisonHit k 2 0
            else
              let out := g.moveOut k x w ts td
              let ws := g.pieceWrites f (tdBase td) (tdStride td) out.1 ++ g.pieceWrites f (tdXbase td) (tdXstride td) out.2
              let g0 := if ws.any (fun y => (g.lantern l).stores.any (fun (s : Buffered) => s.hw == h && s.pa / 64 == g.linePa y.1 / 64)) then
                g.drainStores l else g
              if ws.any (fun y => g0.ownMoveOn l h y.1 || (g0.lantern l).stores.any (fun (s : Buffered) =>
                  s.hw == h && s.pa / 64 == g0.linePa y.1 / 64)) || !g0.canIssue l h then g0
              else
                ((if bit w 16 then
                    g0.addCensus k (convertRows td (bit w 17) x.seed (x.stream (fld w 18 5)) (g0.lensVals k ts)).2
                  else g0).boardTile k g0.nextId ts false).startXfer k (fld w 23 2) true (newXfer l h (g0.footHomes f) ws none (tdKeep td)))))))

/-- MOVE.L2F: row n of the source goes to column n of the half, which is tagged; it waits for every queued or running BEAM
that reads the half (R45, R46, R58, R128). -/
def execMoveL2F (l h : Nat) (w : W64) (s : State) : Host.Outcome State Fault Refusal :=
  s.run (fun b => b.issue l h w 0x42 false (fld w 12 11 != 0 || fld w 30 34 != 0) (fun c =>
    let k := hwNo l h; let x := c.hw k; let ts := x.tile (fld w 8 4); let n := fld w 25 4 * 2 + fld w 29 1
    c.useTiles k [fld w 8 4] (fun d =>
      d.checked k
        [ tdChk ts x.share false, need (tdLens ts) 0x0C,
          need (decide (tdRows ts ≤ 512 ∧ tdCols ts ≤ beamK (tdFmt ts))) 0x03,
          need (x.claims.contains n) 0x0E ] (fun e =>
        if !x.tileReadable ts || !x.boardRoom (tdRanges ts) || e.halfRead l n || (e.halfOf l n).st == .loading then e
        else if e.tilePoison k ts then e.poisonHit k 2 0
        else
          let cols := (List.range (tdRows ts)).map (fun r => e.lensBytes k (tdBase ts + r * tdStride ts) (tdRowBytes ts))
          let xs := if tdMx ts then (List.range (tdRows ts)).map (fun r =>
            e.lensBytes k (tdXbase ts + r * tdXstride ts) (tdCols ts / 32)) else []
          ((e.updHalf l n (fun y =>
              { y with
                st := .loading
                fmt := tdFmt ts
                scale := tdScale ts
                tscale := tdTensor ts
                n := tdRows ts
                k := tdCols ts
                cols := cols
                xs := xs
                poison := false })).boardTile k
            e.nextId ts false).startXfer k (fld w 23 2) false
              { id := 0, lantern := l, hw := h, req := 0, tally := none, writes := [], half := some n }))))

/-- MOVE_DONE: the transfer performs its memory writes, and its tally goes down; a SEND is done once its bytes have landed; data wait
while a link of their path is held (R32, R39, R122, R129). -/
def execMoveDone (id : Nat) (s : State) : Host.Outcome State Fault Refusal :=
  s.run (fun b =>
    match b.xfers.find? (fun (x : Xfer) => x.id == id) with
    | none => b
    | some x =>
      let k := hwNo x.lantern x.hw
      if x.group.isSome ∨ x.chunks ≠ [] ∨ (b.lantern x.lantern).loss ≠ .alive ∨
          x.homes.any (fun t => b.pathHeld (lampTile x.lantern) t) then b
      else
        match b.xferWrites x with
        | (d, none, _) => d.retireXfer x
        | (d, some (.wait, pa), rest) =>
          ({ d with xfers := d.xfers.map (fun (y : Xfer) => if y.id = id then { y with writes := rest } else y) }).memErr k .wait pa
        | (d, some (e, pa), _) => (d.memErr k e pa).retireXfer x)

/-- SEND: checks, then the packed row bytes go to the peer in chunks (R137). -/
def execSend (l h : Nat) (w : W64) (s : State) : Host.Outcome State Fault Refusal :=
  s.run (fun b => b.issue l h w 0xA0 false (fld w 28 36 != 0) (fun c =>
    let k := hwNo l h; let x := c.hw k; let ts := x.tile (fld w 8 4)
    let peer := (x.reg (fld w 12 5)).toNat
    c.useTiles k [fld w 8 4] (fun d =>
      d.checked k [tdChk ts x.share false, need (tdLens ts) 0x0C, need (decide (peer < 64) && x.mask.getLsbD peer) 0x11] (fun e =>
        if !x.tileReadable ts || !x.boardRoom 1 then e
        else
          (e.boardPut k e.nextId (tdBase ts) (tdSpan ts) false).startXfer k (fld w 26 2) false
            { id := 0, lantern := l, hw := h, req := 0, tally := none, writes := [], peer := some peer, tag := fld w 22 4,
              chunks := sendChunks (x.reg (fld w 17 5)).toNat (e.packed k ts) }))))

/-- SEND_ARRIVAL: chunk k of a SEND reaches its lantern; the arrival order is not defined; it waits while a link of the path is held
(R32, R137). -/
def execSendArrival (id k : Nat) (s : State) : Host.Outcome State Fault Refusal :=
  s.run (fun b =>
    match b.xfers.find? (fun (x : Xfer) => x.id == id) with
    | none => b
    | some x =>
      match x.peer, x.chunks.find? (fun (c : Nat × Nat × List Byte × Bool) => c.1 == k) with
      | some p, some c => if b.pathHeld (lampTile x.lantern) (lampTile p) then b else b.landChunk x p c
      | _, _ => b)

/-- RECV: waits until counter TAG has gN bytes, and takes them off (R137). -/
def execRecv (l h : Nat) (w : W64) (s : State) : Host.Outcome State Fault Refusal :=
  s.run (fun b => b.issue l h w 0xA1 false (fld w 26 38 != 0) (fun c => c.recvTry l h w false))

/-- RECV_TIMEOUT: the time-out gT of a waiting RECV elapses before its bytes have arrived (R137). -/
def execRecvTimeout (l h : Nat) (s : State) : Host.Outcome State Fault Refusal :=
  s.run (fun b => b.fetch l h (fun c v =>
    let x := c.hw (hwNo l h)
    if fld v 0 8 = 0xA1 ∧ x.waiting ∧ x.reg (fld v 17 5) ≠ 0 then c.recvTry l h v true else b))

/-- CLAIM: BAD_CLAIM where the request holds any half; granted at once, or waiting behind the earlier claims (R130). -/
def execClaim (l h : Nat) (w : W64) (s : State) : Host.Outcome State Fault Refusal :=
  s.run (fun b => b.issue l h w 0x51 false (fld w 13 51 != 0) (fun c =>
    let k := hwNo l h; let x := c.hw k
    let want := setBits (x.reg (fld w 8 5)) 32
    if x.claims ≠ [] then c.exc k 0x10
    else if (c.lantern l).claimers = [] ∧ c.halvesFree l want then c.grantClaim k want
    else
      (c.updHw k (fun y => { y with phase := .claiming, claimWant := want })).updLantern l
        (fun y => { y with claimers := addLast y.claimers h })))

/-- CLAIM_GRANT: the first waiting CLAIM of a lantern is granted once every half that it names is free (R130). -/
def execClaimGrant (l : Nat) (s : State) : Host.Outcome State Fault Refusal :=
  s.run (fun b =>
    match (b.lantern l).claimers with
    | [] => b
    | h :: t =>
      let k := hwNo l h
      if b.halvesFree l (b.hw k).claimWant ∧ (b.lantern l).loss = .alive then
        (b.updLantern l (fun y => { y with claimers := t })).grantClaim k (b.hw k).claimWant
      else b)

/-- RELEASE: the request no longer holds the halves; each is free once nothing queued on it is left (R130). -/
def execRelease (l h : Nat) (w : W64) (s : State) : Host.Outcome State Fault Refusal :=
  s.run (fun b => b.issue l h w 0x52 false (fld w 13 51 != 0) (fun c =>
    let k := hwNo l h; let x := c.hw k
    let give := setBits (x.reg (fld w 8 5)) 32
    if give.any (fun n => !x.claims.contains n) then c.exc k 0x10
    else
      let d := give.foldl (fun e n => e.updHalf l n (fun y => { y with releasing := true })) c
      ((d.updHw k (fun y => { y with claims := y.claims.filter (fun n => !give.contains n) })).freeHalves l).advance k))

end Sys2Proof.Machine
end

