-- ==== Sys2Proof/Machine/Beams.lean ====
section
/-! DEFINITION. Beams: the BEAM instruction and its queue (05 R131, 02 R42 to R54), staging, the issue rule and its counters
(02 R46, R56 to R58; 17 R381), completion with its sums and checksums (03 R78 to R82, 19 R422, R423), SELFTEST (03 R97), and
operating points (05 R140, 17 R384, R385). -/

namespace Sys2Proof.Machine

/-! ### Operating points -/

/-- Whether a hardware context runs a program: a take that is held has not started one (R109, R129, R384). -/
def Hw.started (w : Hw) : Bool := match w.phase with | .free | .held 1 | .held 3 => false | _ => true
/-- The point that the rules of R385 choose for a lantern. -/
def Block.wantedOp (b : Block) (l : Nat) : Nat :=
  let live := ([0, 1, 2, 3].map (hwNo l)).filter (fun k => (b.hw k).started)
  if live = [] then 0
  else if b.cfg 0x10000004 0 = 1 then 5
  else
    let p := live.foldl (fun m k => max m ((b.hw k).op.getD 5)) 0
    if 6 ≤ p ∧ !(b.lantern l).boost then 5 else p
/-- A lantern's point is chosen again: a difference makes a change pending (R37, R385). -/
def Block.reOp (b : Block) (l : Nat) : Block :=
  let p := b.wantedOp l
  b.updLantern l (fun y => { y with opPending := if p = y.op then none else some p })

/-! ### Beams, hosts and widths -/

/-- The physical beam that carries a logical beam (R49). -/
def Block.hostOf (b : Block) (l m : Nat) : Nat := (b.beam (beamNo l m)).host.getD m
/-- Presented width of a logical beam: its host's (R47, R49). -/
def Block.width (b : Block) (l m : Nat) : Nat := 512 - popBelow (b.beam (beamNo l (b.hostOf l m))).mask 512
/-- The logical beams that a physical beam carries. -/
def Block.carried (b : Block) (l p : Nat) : List Nat := (List.range 16).filter (fun m => b.hostOf l m == p)
/-- Whether a BEAM runs on a physical beam. -/
def Block.beamRuns (b : Block) (l p : Nat) : Bool := (b.carried l p).any (fun m => (b.beam (beamNo l m)).run.isSome)
/-- A beam as a reporting unit (R66). -/
def unitBeam (l m : Nat) : Nat := unitNo 0x21 (beamNo l m)
/-- The lantern moves to the head of the off-watch order (R414). -/
def Block.headOfWatch (b : Block) (l : Nat) : Block :=
  { b with silent := { b.silent with head := addLast b.silent.head l } }

/-! ### Panels (R43, R44, R53) -/

/-- Dot width d (R42). -/
def dotWidth (f : Nat) : Nat := if f = 0 then 1 else if f = 1 ∨ f = 2 then 4 else if f = 7 ∨ f = 9 then 32 else 16
/-- Whether a panel accumulates into EXACT (R79). -/
def isExact (f scale : Nat) : Bool := decide (3 ≤ f ∧ scale < 2)
/-- Header of a set after a BEAM, or the exception of one that it does not accept (R53, R131). -/
def setAfter (x : AccSet) (add : Bool) (fa fb scale m n k : Nat) (ta tb : W32) : Except Nat AccSet :=
  if add then
    if x.st ≠ .opn ∨ x.fmtA ≠ fa ∨ x.fmtB ≠ fb ∨ x.scale ≠ scale ∨ x.m ≠ m ∨ x.n ≠ n ∨ x.ta ≠ ta ∨ x.tb ≠ tb ∨
        (!isExact fa scale ∧ x.products % beamK fa ≠ 0) then .error 0x06
    else if x.products + k > panelLen fa then .error 0x07
    else .ok { x with products := x.products + k }
  else .ok { x with st := .opn, fmtA := fa, fmtB := fb, scale := scale, m := m, n := n, products := k, occ := 0, ta := ta,
                    tb := tb, entries := [] }
/-- The set that an operation leaves behind, by its operand and its half. -/
def Block.afterOp (b : Block) (l : Nat) (x : AccSet) (o : BeamOp) : Except Nat AccSet :=
  if o.selftest.isSome then .ok { owner := x.owner }
  else
    let y := (b.beam (beamNo l o.beam)).half o.half
    setAfter x o.add (tdFmt o.a) y.fmt (tdScale o.a) (tdRows o.a) y.n y.k (tdTensor o.a) y.tscale
/-- Puts an operation into its place in the order of issue. -/
def insOp (o : BeamOp) : List BeamOp → List BeamOp
  | [] => [o]
  | p :: t => if o.id ≤ p.id then o :: p :: t else p :: insOp o t
/-- Every operation queued or running on a lantern, in the order of its issue. -/
def Block.beamOps (b : Block) (l : Nat) : List BeamOp :=
  ((List.range 16).map (fun m => let x := b.beam (beamNo l m); x.run.toList ++ x.queue)).flatten.foldr insOp []
/-- A set as it will stand once the operations before it have run. -/
def Block.projected (b : Block) (l set : Nat) : AccSet :=
  let x := b.accSet (l * 32 + set)
  let x0 := if x.st = .busy then { x with st := .opn } else x
  ((b.beamOps l).filter (fun o => o.set == set)).foldl (fun y o => match b.afterOp l y o with | .ok z => z | .error _ => y) x0

/-- Whether a beam's queue of four has room (R58). -/
def Block.queueRoom (b : Block) (l m : Nat) : Bool := decide ((b.beam (beamNo l m)).queue.length < 4)

/-! ### Execution -/

/-- Rows of bytes as numbers. -/
def nats (rs : List (List Byte)) : List Nat := rs.map leNat

/-- A new leaf in the tree slots TS0 to TS2, as a binary counter (R52, R80). -/
def slotPut (e : Acc) (occ : BitVec 3) (v : W32) : Acc :=
  if !occ.getLsbD 0 then { e with ts0 := v }
  else
    let v1 := add32 e.ts0 v
    if !occ.getLsbD 1 then { e with ts1 := v1 }
    else
      let v2 := add32 e.ts1 v1
      { e with ts2 := if occ.getLsbD 2 then add32 e.ts2 v2 else v2 }
/-- TREE_OCC after a new leaf. -/
def slotOcc (occ : BitVec 3) : BitVec 3 := if occ = 7 then 4 else occ + 1
/-- CLOSE folds the slots from the most recent outward (R80). -/
def slotFold (e : Acc) (occ : BitVec 3) : W32 :=
  let a : Option W32 := if occ.getLsbD 0 then some e.ts0 else none
  let c : Option W32 := if occ.getLsbD 1 then some (match a with | some v => add32 e.ts1 v | none => e.ts1) else a
  if occ.getLsbD 2 then (match c with | some v => add32 e.ts2 v | none => e.ts2) else c.getD 0

/-- One entry of a set after a BEAM (R79 to R82). -/
def accAfter (e : Acc) (occ : BitVec 3) (fa fb scale rowA colB xa xb k : Nat) (ta tb : W32) : Acc :=
  if isExact fa scale then
    let r := dotExact fa fb rowA colB (List.range k) ({}, e.ts0)
    { e with exact := e.exact + BitVec.ofInt 96 (r.1.m * 2 ^ (r.1.e + 32).toNat), ts0 := r.2 }
  else if 2 ≤ scale then slotPut e occ (beamMx fa fb rowA colB xa xb k ta tb)
  else if fa = 0 then { e with ts0 := beamFp32 rowA colB k e.ts0 }
  else slotPut e occ (beamHalf fa fb rowA colB k)

/-- Entries of a set after a BEAM over rows of A and columns of B. -/
def entriesAfter (x : AccSet) (fa fb scale k : Nat) (ta tb : W32) (as xas bs xbs : List Nat) : Tab Acc :=
  ((as.zip xas).zipIdx).foldl (fun t (a : (Nat × Nat) × Nat) =>
    ((bs.zip xbs).zipIdx).foldl (fun u (c : (Nat × Nat) × Nat) =>
      let i := a.2 * 512 + c.2
      tput u i (accAfter (tget {} u i) x.occ fa fb scale a.1.1 c.1.1 a.1.2 c.1.2 k ta tb)) t) x.entries

/-- Whether the elements lo to lo + n − 1 of a row are all zero (R55). -/
def segZero (f row lo n : Nat) : Bool :=
  (List.range n).all (fun i => match decodeVal f (elemAt f row (lo + i)) with | .fin _ m _ => m == 0 | _ => false)

/-- Lane products that zero detection gates, bypassed lanes included (R55). -/
def gated (fa fb k w : Nat) (as bs : List Nat) : Nat :=
  let d := dotWidth fa
  let segs := ceilDiv k d
  let za := as.map (fun r => (List.range segs).map (fun i => segZero fa r (i * d) (min d (k - i * d))))
  let zb := bs.map (fun r => (List.range segs).map (fun i => segZero fb r (i * d) (min d (k - i * d))))
  (za.map (fun x => (zb.map (fun y => ((x.zip y).filter (fun e => e.1 || e.2)).length * d)).sum)).sum +
    (512 - w) * ceilDiv bs.length w * as.length * segs * d

/-- Cycles of a BEAM (R54). -/
def beamCycles (n w m k d : Nat) : Nat := ceilDiv n w * m * ceilDiv k d + 24

/-- The credit of a rate limiter after n occupied cycles at rate r (R381). -/
def creditAfter (c : Int) (r n : Nat) : Int := max (-(16 * 65536)) (c + n * ((r : Int) - 16))
/-- The credit after one free cycle. -/
def creditTick (c : Int) (r : Nat) : Int := min (c + r) (16 * 4096)

/-- A stall cycle of a beam: one count against a condition of R57. -/
def Block.stall (b : Block) (l m i n : Nat) : Block :=
  b.updBeam (beamNo l m) (fun x => { x with stalls := tinc x.stalls i n })

/-- Stages the A operand of an operation: captured, its lens lines given up (R46, R58); poison is consumed (R396). -/
def Block.stage (b : Block) (l : Nat) (o : BeamOp) : Block :=
  let k := hwNo l o.hw
  if b.tilePoison k o.a then
    (((b.updBeam (beamNo l o.beam) (fun x => { x with queue := x.queue.filter (fun (p : BeamOp) => p.id != o.id) })).boardDel k
      o.id).freeHalves l).poisonHit k 2 0
  else
    let rows := (List.range (tdRows o.a)).map (fun r => b.lensBytes k (tdBase o.a + r * tdStride o.a) (tdRowBytes o.a))
    let xs := (List.range (tdRows o.a)).map (fun r =>
      if tdMx o.a then b.lensBytes k (tdXbase o.a + r * tdXstride o.a) (tdCols o.a / 32) else [])
    (b.updBeam (beamNo l o.beam) (fun x => { x with queue := x.queue.map (fun (p : BeamOp) =>
      if p.id = o.id then { p with staged := some (rows, xs) } else p) })).boardDel k o.id

/-- Whether an earlier writer of an operation's A operand is in flight (R56, condition 2). -/
def Block.aWriters (b : Block) (l : Nat) (o : BeamOp) : Bool :=
  (b.hw (hwNo l o.hw)).board.any (fun e => e.2.2.2 && decide (e.1 < o.id) &&
    (overlaps e (tdBase o.a / 64) ((tdBase o.a + tdSpan o.a - 1) / 64) ||
      (tdMx o.a && overlaps e (tdXbase o.a / 64) ((tdXbase o.a + tdXspan o.a - 1) / 64))))

/-- Whether a host beam must switch its lane files before it runs a logical beam (R49, R56 condition 1). -/
def Block.mustSwap (b : Block) (l m : Nat) : Bool :=
  let p := b.hostOf l m
  decide ((b.beam (beamNo l p)).loaded.getD p ≠ m)

/-- The first condition of R56 that the head of a beam's queue fails, 0 where it can issue; the sixth is the limiter. A switch of
the host's lane files is tested apart, after 1 and before 2. A SELFTEST uses both halves, and waits for no MOVE but one into
them. -/
def Block.issueBlocked (b : Block) (l m : Nat) (o : BeamOp) : Nat :=
  let p := b.hostOf l m
  let halfOk (n : Nat) : Bool := ((b.beam (beamNo l m)).half n).st == .full
  let set := b.accSet (l * 32 + o.set)
  if b.beamRuns l p then 1
  else if o.selftest.isNone && o.staged.isNone then 2
  else if o.selftest.isNone && !halfOk o.half then 3
  else if o.selftest.isSome && [0, 1].any (fun n => ((b.beam (beamNo l m)).half n).st == .loading) then 3
  else if set.st == .busy || set.st == .draining ||
      (b.beamOps l).any (fun q => q.set == o.set && decide (q.id < o.id)) ||
      (match b.afterOp l set o with | .ok _ => false | .error _ => true) then 4
  else if (b.lantern l).opPending.isSome then 5
  else 0

/-- The outcome of a BEAM that has run: sums, counters, and its checksum (R54, R79 to R82, R422, R423). -/
def Block.endBeam (b : Block) (l m : Nat) (o : BeamOp) (chk : BeamChk) : Block :=
  let p := b.hostOf l m
  let y := (b.beam (beamNo l m)).half o.half
  let fa := tdFmt o.a; let sc := tdScale o.a
  let s := o.staged.getD ([], [])
  let n := l * 32 + o.set
  let exact := isExact fa sc && b.cfg 0x61000003 0 == 1
  let cyc := beamCycles y.n (b.width l m) (tdRows o.a) y.k (dotWidth fa) * (if exact && chk != .clean then 2 else 1)
  let as := nats s.1; let bs := nats y.cols
  let xbs := if y.xs = [] then y.cols.map (fun _ => 0) else nats y.xs
  let b1 := b.updBeam (beamNo l m) (fun x => { x with
    run := none
    busyCycles := x.busyCycles + cyc
    zeroGated := x.zeroGated + gated fa y.fmt y.k (b.width l m) as bs })
  let b2 := b1.updBeam (beamNo l p) (fun x => { x with credit := creditAfter x.credit (b.lantern l).rate cyc })
  let done := b2.updAccSet n (fun x => { x with
    st := .opn, beam := m
    entries := entriesAfter x fa y.fmt sc y.k (tdTensor o.a) y.tscale as (nats s.2) bs xbs
    occ := if isExact fa sc || fa == 0 then x.occ else slotOcc x.occ })
  let bad (c : Block) : Block := c.updAccSet n (fun x => { x with
    st := .opn, entries := x.entries.map (fun (e : Nat × Acc) => (e.1, { e.2 with poison := true })) })
  let out :=
    if y.poison || o.aPoison then (bad done).poisonHit (hwNo l o.hw) 3 0
    else if exact && chk == .transient then
      (({ done with silent := { done.silent with transient := tinc done.silent.transient l 1 } }).raise (unitBeam l m)
        .beamChecksumTransient [l, m]).headOfWatch l
    else if exact && chk == .persistent then
      let c := ((bad done).poisonHit (hwNo l o.hw) 4 0)
      (({ c with silent := { c.silent with persistent := tinc c.silent.persistent l 1,
                                           retireBeams := addLast c.silent.retireBeams (beamNo l p) } }).raise (unitBeam l m)
        .beamChecksumFail [l, m]).suspect .beamChecksumFail [l, m]
    else done
  out.freeHalves l

/-- The outcome of a SELFTEST (R97): the result, the halves EMPTY, the set FREE; a mismatch is a confirmed one; an uncorrectable error
of the resident vectors faults with VECTOR_BAD and gives no verdict. -/
def Block.endSelftest (b : Block) (l m : Nat) (o : BeamOp) (gd : Nat) (suite : W64) (res : SelfVerdict) : Block :=
  let k := hwNo l o.hw
  let cyc := min 262144 (Config.selftestCycles suite.toNat)
  let b1 := b.updBeam (beamNo l m) (fun x => { x with
    run := none
    busyCycles := x.busyCycles + cyc
    selftestRuns := x.selftestRuns + (if res = .pass then 1 else 0)
    selftestFails := x.selftestFails + (match res with | .mismatch _ => 1 | _ => 0) })
  let b2 := b1.updBeam (beamNo l (b.hostOf l m)) (fun x => { x with credit := creditAfter x.credit (b.lantern l).rate cyc })
  let empty (y : Half) : Half := { owner := y.owner, releasing := y.releasing }
  let b3 := ((b2.updHalf l (2 * m) empty).updHalf l (2 * m + 1) empty).updAccSet (l * 32 + o.set) (fun x => { owner := x.owner })
  let waits := decide ((b3.hw k).phase = .running) && (b3.hw k).waiting
  let put (v : W64) : Block := if waits then (b3.setG k gd v).advance k else b3
  let b5 := match res with
    | .pass => put 0
    | .unreadable =>
      let c := b3.updLantern l (fun x => { x with vectorsBad := true })
      if waits then c.endReq k 0x16 0 else c
    | .mismatch i => ((put (BitVec.ofNat 64 (i + 1))).raise (unitBeam l m) .selftestFail [l, m, i]).suspect .selftestFail [l, m, i]
  b5.freeHalves l

/-! ### Meanings -/

/-- BEAM: the checks of R131 in order, then the queue of its beam; a full queue or scoreboard stalls (R58, R122). -/
def execBeam (l h : Nat) (w : W64) (s : State) : Host.Outcome State Fault Refusal :=
  s.run (fun b => b.issue l h w 0x50 false (fld w 23 41 != 0) (fun c =>
    let k := hwNo l h; let x := c.hw k
    let m := fld w 8 4; let ta := x.tile (fld w 12 4); let hf := fld w 21 1; let acc := fld w 16 5; let add := bit w 22
    let y := (c.beam (beamNo l m)).half hf
    c.useTiles k [fld w 12 4] (fun d =>
      d.checked k
        [ need (x.claims.contains (2 * m + hf)) 0x0E,
          need (y.st != .empty) 0x0F,
          tdChk ta x.share false,
          need (tdLens ta && decide (tdRowBytes ta ≤ 1024)) 0x0C,
          need (pairsOk (tdFmt ta) y.fmt && tdScale ta == y.scale) 0x02,
          need (decide (tdRows ta ≤ 32 ∧ tdCols ta = y.k ∧ y.k ≤ beamK (tdFmt ta))) 0x03,
          need (decide (acc < x.sets.length)) 0x08,
          match setAfter (d.projected l (x.sets.getD acc 0)) add (tdFmt ta) y.fmt (tdScale ta) (tdRows ta) y.n y.k
              (tdTensor ta) y.tscale with
          | .ok _ => none
          | .error e => excErr e ] (fun e =>
        if !e.queueRoom l m || !x.boardRoom (tdRanges ta) then e
        else
          let o : BeamOp := { id := e.nextId, hw := h, beam := m, half := hf, set := x.sets.getD acc 0, add := add, a := ta,
                              aFirst := tdBase ta / 64, aLast := (tdBase ta + tdSpan ta - 1) / 64 }
          (({ e.boardTile k e.nextId ta false with nextId := e.nextId + 1 }).updBeam (beamNo l m)
            (fun z => { z with queue := z.queue ++ [o] })).advance k))))

/-- A_STAGE: the first queued BEAM without its A operand is staged into a free A buffer, once the writers of its lens lines
have completed (R46, R56, R58). -/
def execAStage (l m : Nat) (s : State) : Host.Outcome State Fault Refusal :=
  s.run (fun b =>
    let p := b.hostOf l m
    let used := ((b.carried l p).map (fun i =>
      let x := b.beam (beamNo l i)
      (x.run.toList ++ x.queue).countP (fun (o : BeamOp) => o.staged.isSome))).sum
    match (b.beam (beamNo l m)).queue.find? (fun (o : BeamOp) => o.selftest.isNone && o.staged.isNone) with
    | some o => if 2 ≤ used ∨ b.aWriters l o ∨ (b.lantern l).loss ≠ .alive then b else b.stage l o
    | none => b)

/-- BEAM_ISSUE: one lantern cycle of a beam with a BEAM at the head of its queue: it issues where the six conditions hold,
or the cycle counts against the first that fails (R56, R57, R381). -/
def execBeamIssue (l m : Nat) (s : State) : Host.Outcome State Fault Refusal :=
  s.run (fun b =>
    match (b.beam (beamNo l m)).queue with
    | [] => b
    | o :: t =>
      if (b.lantern l).loss ≠ .alive then b
      else
        let p := b.hostOf l m
        let tick := b.updBeam (beamNo l p) (fun x => { x with credit := creditTick x.credit (b.lantern l).rate })
        if b.beamRuns l p then b
        else if b.mustSwap l m then (b.stall l m 0x17 4608).updBeam (beamNo l p) (fun x => { x with loaded := some m }) else
        match b.issueBlocked l m o with
        | 1 => b
        | 2 => tick.stall l m 0x12 1
        | 3 => tick.stall l m 0x13 1
        | 4 => tick.stall l m 0x14 1
        | 5 => tick.stall l m 0x16 1
        | _ =>
            let c := (tick.beam (beamNo l p)).credit
            let first := !(b.hw (hwNo l o.hw)).issued.contains p
            let c0 := if first then min c 0 else c
            if c < 0 then tick.stall l m 0x15 1
            else
              let hdr (x : AccSet) : AccSet := match b.afterOp l x o with | .ok z => z | .error _ => x
              ((((tick.updBeam (beamNo l p) (fun x => { x with credit := c0 })).updBeam (beamNo l m)
                (fun x => { x with queue := t, run := some o, issues := x.issues + (if o.selftest.isNone then 1 else 0) })).updAccSet
                (l * 32 + o.set) (fun x => { hdr x with st := .busy })).updHw (hwNo l o.hw)
                (fun x => { x with issued := addLast x.issued p })))

/-- BEAM_COMPLETE: the BEAM or SELFTEST that runs on a beam ends after its exact count (R54, R97, R422, R423). `chk` and
`fail` are what the hardware found: the checksum's outcome, the first failing case. -/
def execBeamComplete (l m : Nat) (chk : BeamChk) (res : SelfVerdict) (s : State) : Host.Outcome State Fault Refusal :=
  s.run (fun b =>
    match (b.beam (beamNo l m)).run with
    | none => b
    | some o =>
      if (b.lantern l).loss ≠ .alive then b
      else
        match o.selftest with
        | some g => b.endSelftest l m o g.1 g.2 res
        | none => b.endBeam l m o chk)

/-- SELFTEST: its checks, then the beam's queue; the hardware context waits for the result (R97, R141). -/
def execSelftest (l h : Nat) (w : W64) (s : State) : Host.Outcome State Fault Refusal :=
  s.run (fun b => b.issue l h w 0xE0 false (fld w 27 37 != 0) (fun c =>
    let k := hwNo l h; let x := c.hw k; let m := fld w 8 4; let acc := fld w 12 5; let set := x.sets.getD acc 0
    if x.waiting then c
    else
      c.checked k
        [ need (x.claims.contains (2 * m) && x.claims.contains (2 * m + 1)) 0x0E,
          need (decide (acc < x.sets.length)) 0x08,
          need ((c.projected l set).st == .free) 0x06,
          need (!(c.lantern l).vectorsBad) 0x16 ] (fun d =>
        if !d.queueRoom l m then d
        else
          let o : BeamOp := { id := d.nextId, hw := h, beam := m, half := 0, set := set, add := false, a := 0, aFirst := 0,
                              aLast := 0, selftest := some (fld w 17 5, x.reg (fld w 22 5)) }
          (({ d with nextId := d.nextId + 1 }).updBeam (beamNo l m) (fun z => { z with queue := z.queue ++ [o] })).updHw k
            (fun y => { y with waiting := true }))))

/-- VECTOR_RELOAD: at a lantern's quiescent point the hub loads the resident vectors again and checks their digest (R97). -/
def execVectorReload (l : Nat) (digestOk : Bool) (s : State) : Host.Outcome State Fault Refusal :=
  s.run (fun b =>
    if [0, 1, 2, 3].all (fun h => (b.hw (hwNo l h)).phase == .free) then
      b.updLantern l (fun x => { x with vectorsBad := !digestOk })
    else b)

/-- SETOP: records the hardware context's preferred operating point; the lantern's point is chosen again (R140, R385). -/
def execSetop (l h : Nat) (w : W64) (s : State) : Host.Outcome State Fault Refusal :=
  s.run (fun b => b.issue l h w 0xD1 false (fld w 11 53 != 0) (fun c =>
    ((c.updHw (hwNo l h) (fun x => { x with op := some (fld w 8 3) })).reOp l).advance (hwNo l h)))

/-- OPERATING_POINT_CHANGE_DONE: a pending change takes effect, never inside a BEAM (R37, R56). -/
def execOperatingPointChangeDone (l : Nat) (s : State) : Host.Outcome State Fault Refusal :=
  s.run (fun b =>
    if (List.range 16).any (fun m => (b.beam (beamNo l m)).run.isSome) then b
    else
      match (b.lantern l).opPending with
      | some p => b.updLantern l (fun x => { x with op := p, opPending := none })
      | none => b)

end Sys2Proof.Machine
end

