-- ==== Sys2Proof/Machine/Posts.lean ====
section
/-! DEFINITION. The post unit (02 R63, R64; 05 R132, R133), REDUCE and AMAX (05 R134; 03 R73, R77), the optimiser (03 R88 to
R93; 05 R135), and CHECK (05 R140; 19 R418). -/

namespace Sys2Proof.Machine

/-! ### The post unit -/

/-- A function of the post unit whose bits its published coefficients define; a NaN gives the canonical NaN (R64, R70). -/
def postUnary (fn : Nat) (x : W32) : W32 := if isNan32 x then nan32 else Config.postFn fn x
/-- RELU, exact (R64). -/
def relu32 (x : W32) : W32 := if isNan32 x then nan32 else if bit x 31 || fld x 0 31 == 0 then 0 else x
/-- LEAKY with a slope (R64). -/
def leaky32 (slope x : W32) : W32 :=
  if isNan32 x then nan32 else if bit x 31 && fld x 0 31 != 0 then mul32 slope x else x
/-- Row maximum with the rules of REDUCE.MAX (R64, R134). -/
def rowMax (r : List W32) : W32 := match r with | [] => 0 | x :: t => t.foldl redMax32 (redMax32 x x)

/-- LAYERNORM and RMSNORM over a row (R64): a NaN in the row, in ε, or in the column's γ or β gives the canonical NaN, for the mean,
the square sum and every step after them take it (R70, R76). -/
def normed (fn : Nat) (r : List W32) (eps : W32) (gamma beta : List W32) : List W32 :=
  (List.range r.length).map (fun c =>
    if r.any isNan32 || isNan32 eps || isNan32 (gamma.getD c 0) || isNan32 (beta.getD c 0) then nan32
    else Config.normRow fn r eps gamma beta c)

/-- One row of a POST function (R64, R133): `g` is gS[31:0], `op` the rows of the operand tile, `i` the row number. ROWSUMSQ
rounds each square by mul_fp32 before the tree (DESIGN CHOICE, log entry 75). -/
def postRow (fn : Nat) (opv : Bool) (g : W32) (op : List (List W32)) (i : Nat) (r : List W32) : List W32 :=
  let v (j : Nat) : List W32 := op.getD j []
  let zip2 (f : W32 → W32 → W32) (y : List W32) : List W32 := (r.zip y).map (fun e => f e.1 e.2)
  match fn with
  | 0x03 => if opv then zip2 mul32 (v 0) else r.map (fun x => mul32 x g)
  | 0x04 => zip2 add32 (v 0)
  | 0x05 => zip2 add32 (v i)
  | 0x06 => r.map relu32
  | 0x07 => r.map (leaky32 g)
  | 0x13 => [rowMax r]
  | 0x14 => [tree32 r]
  | 0x15 => [tree32 (r.map (fun x => mul32 x x))]
  | 0x16 =>
    let m := rowMax r
    let e := r.map (fun x => postUnary 0x0E (sub32 x m))
    let q := postUnary 0x11 (tree32 e)
    e.map (fun x => mul32 x q)
  | 0x17 => normed 0x17 r g (v 0) (v 1)
  | 0x18 => normed 0x18 r g (v 0) []
  | n => if n < 3 then r else r.map (postUnary n)

/-- Cycles per row (R64). -/
def postCycles (fn : Nat) : Nat :=
  [1, 1, 2, 1, 1, 1, 1, 1, 3, 3, 4, 4, 4, 3, 3, 3, 3, 2, 2, 10, 10, 10, 19, 15, 15].getD fn 1
/-- Functions that give one value a row. -/
def postOne (fn : Nat) : Bool := decide (0x13 ≤ fn ∧ fn ≤ 0x15)
/-- Functions with an operand tile; SCALE has one where OPV is 1 (R133). -/
def postTile (fn : Nat) (opv : Bool) : Bool := [0x04, 0x05, 0x17, 0x18].contains fn || (fn == 0x03 && opv)
/-- Functions with a scalar in gS. -/
def postScalar (fn : Nat) (opv : Bool) : Bool := [0x07, 0x17, 0x18].contains fn || (fn == 0x03 && !opv)
/-- Sub-codes that a POST must not hold (R119 check 2, R133). -/
def postIllegal (w : W64) : Bool :=
  let fn := fld w 18 6
  decide (fn > 0x18) || (fn == 0 && bit w 13) || (fn == 1 && !bit w 13)
/-- Reserved and unused bits of POST (R118, R132, R133). -/
def postRsv (w : W64) : Bool :=
  let fn := fld w 18 6; let opv := bit w 32
  fld w 45 19 != 0 || (if bit w 13 then bit w 12 else fld w 14 4 != 0) ||
  (opv && !([0x03, 0x04, 0x05, 0x17, 0x18].contains fn)) || (!opv && fld w 28 4 != 0) ||
  (!postScalar fn opv && fld w 33 5 != 0) || (fn != 2 && bit w 44) || (!bit w 38 && fld w 39 5 != 0)

/-- The closed value of an entry of a panel (R53, R79 to R82). -/
def closeAcc (x : AccSet) (e : Acc) : W32 :=
  if isExact x.fmtA x.scale then closeExact { m := e.exact.toInt, e := -32 } e.ts0 x.ta x.tb 0
  else if x.fmtA = 0 then e.ts0
  else slotFold e x.occ
/-- Rows of closed values of a set. -/
def closeSet (x : AccSet) : List (List W32) :=
  (List.range x.m).map (fun r => (List.range x.n).map (fun c => closeAcc x (tget {} x.entries (r * 512 + c))))

/-- Writes rows of FP32 values into a lens tile, converted, with their census (R85, R86, R132). -/
def Block.putConverted (b : Block) (k : Nat) (td : Line) (noclip stoch : Bool) (stream : Nat) (vs : List (List W32)) : Block :=
  let seed := (b.hw k).seed
  let vals := vs.map (fun r => r.map val32)
  if tdMx td then
    let r := convertMx td noclip stoch seed stream vals
    ((b.putRows k (tdBase td) (tdStride td) r.1).putRows k (tdXbase td) (tdXstride td) r.2.1).addCensus k r.2.2
  else
    let r := convertRows td stoch seed stream vals
    (b.putRows k (tdBase td) (tdStride td) r.1).addCensus k r.2

/-- A post unit's limiter: one cycle of credit, and the POST where it is granted (R381). -/
def Block.postIssue (b : Block) (l k p cyc : Nat) (go : Block → Block) : Block :=
  let r := (b.lantern l).rate
  let c := creditTick (b.beam (beamNo l p)).postCredit r
  let put (d : Block) (v : Int) : Block := d.updBeam (beamNo l p) (fun x => { x with postCredit := v })
  if c < 0 then put b c
  else
    let c0 := if (b.hw k).issued.contains (16 + p) then c else min c 0
    go ((put b (creditAfter c0 r cyc)).updHw k (fun x => { x with issued := addLast x.issued (16 + p) }))

/-- Whether a lens tile is FP32 with SCALE none. -/
def plain32 (d : Line) : Bool := tdFmt d == 0 && tdScale d == 0

/-- Tile descriptors that a POST uses. -/
def postTiles (w : W64) : List Nat :=
  (if bit w 13 then [fld w 8 4] else []) ++ [fld w 24 4] ++ (if bit w 32 then [fld w 28 4] else [])
/-- Checks of a POST over a source of `rows` rows and `cols` columns, `st` the state of a set source (R132, R133): the source,
then the destination, then the operand tile (DEDUCED, log entry 19); a destination that is MX without CONVERT.MX is BAD_FORMAT
(DEDUCED, log entry 18). -/
def postChk (x : Hw) (w : W64) (st : SetSt) (rows cols : Nat) : List Chk :=
  let fn := fld w 18 6; let lens := bit w 13; let opv := bit w 32
  let ts := x.tile (fld w 8 4); let td := x.tile (fld w 24 4); let tp := x.tile (fld w 28 4)
  [ if lens then tdChk ts x.share false else need (decide (fld w 8 5 < x.sets.length)) 0x08,
    if lens then need (tdLens ts) 0x0C else need (st == .opn) 0x06,
    if lens then need (plain32 ts) 0x02 else none,
    if lens then need (decide (tdRows ts ≤ 32 ∧ tdCols ts ≤ 512)) 0x03 else none,
    tdChk td x.share true, need (tdLens td) 0x0C,
    need ((fn == 2) == tdMx td) 0x02,
    need (decide (tdRows td = rows ∧ tdCols td = if postOne fn then 1 else cols)) 0x03,
    if postTile fn opv then need opv 0x0C else none,
    if postTile fn opv then tdChk tp x.share false else none,
    if postTile fn opv then need (tdLens tp) 0x0C else none,
    if postTile fn opv then need (plain32 tp) 0x02 else none,
    if postTile fn opv then
      need (decide (tdCols tp = cols ∧ tdRows tp = if fn = 0x05 then rows else if fn = 0x17 then 2 else 1)) 0x03
    else none ]
/-- Whether the scoreboard holds a POST back (R122). -/
def postWaits (x : Hw) (w : W64) : Bool :=
  (bit w 13 && !x.tileReadable (x.tile (fld w 8 4))) || (postTile (fld w 18 6) (bit w 32) && !x.tileReadable (x.tile (fld w 28 4))) ||
    !x.tileWritable (x.tile (fld w 24 4))
/-- The rows that a POST computes from a lens tile or a set (R64, R132, R133). -/
def Block.postRes (b : Block) (k : Nat) (x : Hw) (w : W64) (y : AccSet) : List (List W32) :=
  let op := if postTile (fld w 18 6) (bit w 32) then b.lens32 k (x.tile (fld w 28 4)) else []
  ((if bit w 13 then b.lens32 k (x.tile (fld w 8 4)) else closeSet y).zipIdx).map (fun (r : List W32 × Nat) =>
    postRow (fld w 18 6) (bit w 32) (BitVec.ofNat 32 (x.reg (fld w 33 5)).toNat) op r.2 r.1)

/-- POST: checks, the wait for the set and the scoreboard, the function, the conversion; a set source is FREE after it (R53,
R58, R132, R133). -/
def execPost (l h : Nat) (w : W64) (s : State) : Host.Outcome State Fault Refusal :=
  s.run (fun b => b.issue l h w 0x60 (postIllegal w) (postRsv w) (fun c =>
    let k := hwNo l h; let x := c.hw k; let lens := bit w 13
    let ts := x.tile (fld w 8 4); let td := x.tile (fld w 24 4)
    let set := x.sets.getD (fld w 8 5) 0
    let hdr := c.projected l set
    let rows := if lens then tdRows ts else hdr.m
    let cols := if lens then tdCols ts else hdr.n
    c.useTiles k (postTiles w) (fun d =>
      d.checked k (postChk x w hdr.st rows cols) (fun e =>
        let n := l * 32 + set
        let y := e.accSet n
        if !lens && (y.st == .busy || (e.beamOps l).any (fun o => o.set == set)) then e
        else if postWaits x w then e
        else
          e.postIssue l k (e.hostOf l (if lens then fld w 14 4 else y.beam)) (rows * postCycles (fld w 18 6) + 16) (fun g =>
            if (lens && g.tilePoison k ts) || (postTile (fld w 18 6) (bit w 32) && g.tilePoison k (x.tile (fld w 28 4))) then
              g.poisonHit k 2 0
            else if !lens && y.entries.any (fun (a : Nat × Acc) => a.2.poison) then g.poisonHit k 4 0
            else
              let g1 := g.putConverted k td (bit w 44) (bit w 38) (x.stream (fld w 39 5)) (g.postRes k x w y)
              (if lens then g1 else g1.updAccSet n (fun a => { owner := a.owner })).advance k)))))

/-! ### REDUCE and AMAX -/

/-- Combines the planes of one element. -/
def reduceWith (op : Nat) (xs : List W32) : W32 :=
  if op = 0 then tree32 xs
  else match xs with
    | [] => 0
    | x :: t => t.foldl (if op = 1 then redMax32 else redMin32) (redMax32 x x)

/-- Planes of a REDUCE as FP32 bits: BF16 widens exactly (R134). -/
def Block.plane (b : Block) (k : Nat) (d : Line) (shift : Nat) : List (List W32) :=
  (List.range (tdRows d)).map (fun r =>
    let row := leNat (b.lensBytes k (tdBase d + shift + r * tdStride d) (tdRowBytes d))
    (List.range (tdCols d)).map (fun c =>
      let e := elemAt (tdFmt d) row c
      BitVec.ofNat 32 (if tdFmt d = 1 then e * 65536 else e)))

/-- REDUCE.SUM, MAX and MIN over Q planes (R134). -/
def Block.reduce (b : Block) (l h : Nat) (w : W64) (op : Nat) : Block :=
  b.issue l h w (0x70 + op) false (fld w 42 22 != 0 || fld w 26 10 != 0 || (!bit w 36 && fld w 37 5 != 0)) (fun c =>
    let k := hwNo l h; let x := c.hw k; let ts := x.tile (fld w 8 4); let td := x.tile (fld w 12 4)
    let q := (x.reg (fld w 16 5)).toNat; let p := (x.reg (fld w 21 5)).toNat
    c.useTiles k [fld w 8 4, fld w 12 4] (fun d =>
      d.checked k
        [ tdChk ts x.share false, tdChk td x.share true, need (tdLens ts && tdLens td) 0x0C,
          need (decide (tdFmt ts ≤ 1 ∧ tdScale ts = 0) && !tdMx td) 0x02,
          need (decide (tdRows ts = tdRows td ∧ tdCols ts = tdCols td ∧ 1 ≤ q ∧ q ≤ 4096 ∧ p % 64 = 0)) 0x03,
          need (decide (tdBase ts + (q - 1) * p + tdSpan ts ≤ x.share)) 0x09 ] (fun e =>
        if !x.mayRead (tdBase ts) ((q - 1) * p + tdSpan ts) || !x.tileWritable td then e
        else if (List.range q).any (fun i => (List.range (tdRows ts)).any (fun r =>
            e.lensBad k (tdBase ts + i * p + r * tdStride ts) (tdRowBytes ts))) then e.poisonHit k 2 0
        else
          let planes := (List.range q).map (fun i => e.plane k ts (i * p))
          let res := (List.range (tdRows ts)).map (fun r => (List.range (tdCols ts)).map (fun j =>
            reduceWith op (planes.map (fun pl => (pl.getD r []).getD j 0))))
          (e.putConverted k td false (bit w 36) (x.stream (fld w 37 5)) res).advance k)))

/-- The amax of values as FP32 bits, +0 where none is finite, and the count of nonfinite values (R73). -/
def amaxOf (vs : List Val) : W32 × Nat :=
  vs.foldl (fun a v =>
    match v with
    | .fin _ m e => (amax32 a.1 (round32 false m e), a.2)
    | _ => (a.1, a.2 + 1)) (0, 0)

/-- AMAX and AMAX.ACC (R134). -/
def Block.amaxOp (b : Block) (l h : Nat) (w : W64) (acc : Bool) : Block :=
  b.issue l h w (if acc then 0x74 else 0x73) false (fld w 36 28 != 0 || fld w 12 14 != 0) (fun c =>
    let k := hwNo l h; let x := c.hw k; let ts := x.tile (fld w 8 4); let gd := fld w 26 5; let gc := fld w 31 5
    c.useTiles k [fld w 8 4] (fun d =>
      d.checked k [tdChk ts x.share false, need (tdLens ts) 0x0C, need (tdScale ts == 0) 0x02] (fun e =>
        if !x.tileReadable ts then e
        else if e.tilePoison k ts then e.poisonHit k 2 0
        else
          let r := amaxOf (e.lensVals k ts).flatten
          let m := if acc then max32 (BitVec.ofNat 32 (x.reg gd).toNat) r.1 else r.1
          let n := if acc then x.reg gc + BitVec.ofNat 64 r.2 else BitVec.ofNat 64 r.2
          ((e.setG k gd (BitVec.ofNat 64 m.toNat)).setG k gc n).advance k)))

/-- REDUCE.SUM: the tree sum over the planes, in ascending plane number (R134). -/
def execReduceSum (l h : Nat) (w : W64) (s : State) : Host.Outcome State Fault Refusal := s.run (fun b => b.reduce l h w 0)
/-- REDUCE.MAX: the exact maximum over the planes (R134). -/
def execReduceMax (l h : Nat) (w : W64) (s : State) : Host.Outcome State Fault Refusal := s.run (fun b => b.reduce l h w 1)
/-- REDUCE.MIN: the exact minimum over the planes (R134). -/
def execReduceMin (l h : Nat) (w : W64) (s : State) : Host.Outcome State Fault Refusal := s.run (fun b => b.reduce l h w 2)
/-- AMAX: the amax of a lens tile into gD and its nonfinite count into gC (R134). -/
def execAmax (l h : Nat) (w : W64) (s : State) : Host.Outcome State Fault Refusal := s.run (fun b => b.amaxOp l h w false)
/-- AMAX.ACC: the maximum of gD and the amax into gD, and the count added to gC (R134). -/
def execAmaxAcc (l h : Nat) (w : W64) (s : State) : Host.Outcome State Fault Refusal := s.run (fun b => b.amaxOp l h w true)

/-! ### The optimiser -/

/-- A hyperparameter record's fields (R88). -/
def hyperOf (d : Line) : Hyper :=
  let f (i : Nat) : W32 := BitVec.ofNat 32 (fld d (32 * i) 32)
  { lr := f 0, beta1 := f 1, beta2 := f 2, eps := f 3, wd := f 4, c1 := f 5, c2 := f 6 }
/-- SHIFT of a layer record (R89). -/
def lyShift (d : Line) : Int := sfld d 0 8
/-- ALGO of a layer record: 2 and 3 are the Adams. -/
def lyAlgo (d : Line) : Nat := fld d 22 2
/-- Checks of a layer record's values and reserved fields (R89, R135, R143). -/
def layerChk (d e : Line) : List Chk :=
  [ need (decide (-16 ≤ lyShift d ∧ lyShift d ≤ 16)) 0x05,
    need ([0, 1, 4].contains (fld d 16 4) && decide (fld d 20 2 < 2)) 0x02,
    if fld d 11 5 ≠ 0 ∨ fld d 24 8 ≠ 0 ∨ fld e 384 128 ≠ 0 then some (0x38, 6) else none ]

/-- Reads the two lines of a layer record for an access that also writes it, after the die's own stores to them (R89, R238). -/
def Block.withLayer (b : Block) (l h va : Nat) (go : Block → Nat → Nat → Line → Line → Block) : Block :=
  let k := hwNo l h
  b.withFoot l h 4 false [(va, 128)] (fun c f =>
    let p0 := f.pa va; let p1 := f.pa ((va + 64) % 2 ^ 64)
    let own (pa : Nat) : Bool := c.lineBuffered l pa || c.ownMoveOn l h (((c.dom pa).getD 0) / 64)
    c.releasedIf (own p0 || own p1) l h (fun d =>
      match d.ownLine l h p0 with
      | .error e => (e.2).memErr k e.1 p0
      | .ok (d1, v0, x0) =>
        match d1.ownLine l h p1 with
        | .error e => (e.2).memErr k e.1 p1
        | .ok (d2, v1, x1) => if x0 || x1 then d2.poisonHit k 1 (if x0 then p0 else p1) else go d2 p0 p1 v0 v1))

/-- Adds counts to consecutive 64-bit words of a line by far atomics at the home (R89). -/
def Block.addCounts (b : Block) (ln off : Nat) : List Nat → Except (AccErr × Block) Block
  | [] => .ok b
  | n :: t =>
    match b.atomic ln off true .add (BitVec.ofNat 64 n) 0 with
    | .error e => .error e
    | .ok r => r.1.addCounts ln (off + 8) t

/-- The update of every element of a tile (R90): element results row by row. -/
def optRows (hp : Hyper) (ly td tg : Line) (seed : W64) (stream : Nat) (ws ms vs : List (List W32)) (gs : List Nat) :
    List (List OptOut) :=
  (gs.zipIdx).map (fun (g : Nat × Nat) =>
    let r := g.2
    (List.range (tdCols td)).map (fun c =>
      let at_ (t : List (List W32)) : W32 := (t.getD r []).getD c 0
      optElem hp (lyAlgo ly) (fld ly 16 4)
        (rndOf (fld ly 20 2 == 1) seed stream ((tdIndex td + r * tdIstride td + c) % 2 ^ 64)) (lyShift ly)
        (decodeVal (tdFmt tg) (elemAt (tdFmt tg) g.1 c)) (tdTensor tg) (at_ ws) (at_ ms) (at_ vs)))

/-- Rows of FP32 words as bytes. -/
def rows32 (rs : List (List W32)) : List (List Byte) := rs.map (fun r => (r.map (fun v => leBytes 4 v.toNat)).flatten)

/-- Checks of OPT.STEP on its tiles and addresses (R135). -/
def optTileChk (x : Hw) (w : W64) : List Chk :=
  let tw := x.tile (fld w 8 4); let tm := x.tile (fld w 12 4); let tg := x.tile (fld w 20 4)
  let like (d : Line) : Chk := need (decide (tdRows d = tdRows tw ∧ tdCols d = tdCols tw)) 0x03
  [ tdChk tw x.share true, tdChk tm x.share true, tdChk tg x.share false,
    need (tdLens tw && tdLens tm && tdLens tg) 0x0C, like tm, like tg,
    need (plain32 tw && plain32 tm && ((tdFmt tg == 1 && tdScale tg == 0) || (tdFmt tg == 4 && tdScale tg == 1))) 0x02,
    need ((x.reg (fld w 24 5)).toNat % 64 == 0 && (x.reg (fld w 29 5)).toNat % 64 == 0) 0x0B ]
/-- Checks of OPT.STEP on its records and, under an Adam, the third state tile (R135). -/
def optRecChk (x : Hw) (w : W64) (hd ly ly1 : Line) : List Chk :=
  let tw := x.tile (fld w 8 4); let tv := x.tile (fld w 16 4); let hp := hyperOf hd
  (if 2 ≤ lyAlgo ly then [tdChk tv x.share true, need (tdLens tv) 0x0C,
      need (decide (tdRows tv = tdRows tw ∧ tdCols tv = tdCols tw)) 0x03, need (plain32 tv) 0x02] else []) ++
    (layerChk ly ly1).take 2 ++ [if fld hd 224 288 ≠ 0 then some (0x38, 5) else none] ++ (layerChk ly ly1).drop 2 ++
    [need ([hp.lr, hp.beta1, hp.beta2, hp.eps, hp.wd, hp.c1, hp.c2].all isFin32) 0x04]
/-- Puts one result of every element back into its tile. -/
def Block.optPut (b : Block) (k : Nat) (d : Line) (outs : List (List OptOut)) (f : OptOut → W32) : Block :=
  b.putRows k (tdBase d) (tdStride d) (rows32 (outs.map (fun r => r.map f)))
/-- The update of a tile: its states and weights in place, and its census (R90, R91). -/
def Block.optWrite (b : Block) (k : Nat) (x : Hw) (w : W64) (adam : Bool) (outs : List (List OptOut)) : Block :=
  let b1 := (b.optPut k (x.tile (fld w 8 4)) outs (fun o => o.w)).optPut k (x.tile (fld w 12 4)) outs (fun o => o.m)
  let b2 := if adam then b1.optPut k (x.tile (fld w 16 4)) outs (fun o => o.v) else b1
  b2.addCensus k ((outs.flatten).foldl (fun a o => a.add o.census) {})
/-- The six counts of a step over its elements (R91). -/
def optCounts (outs : List (List OptOut)) : List Nat :=
  (List.range 6).map (fun i => ((outs.flatten).map (fun o => o.counts.getD i 0)).sum)

/-- OPT.STEP: the checks of R135, the update of R90 in place, the counts of R91 added at the home of the layer record. -/
def execOptStep (l h : Nat) (w : W64) (s : State) : Host.Outcome State Fault Refusal :=
  s.run (fun b => b.issue l h w 0x80 false (fld w 39 25 != 0) (fun c =>
    let k := hwNo l h; let x := c.hw k
    let tw := x.tile (fld w 8 4); let tm := x.tile (fld w 12 4); let tv := x.tile (fld w 16 4); let tg := x.tile (fld w 20 4)
    c.useTiles k [fld w 8 4, fld w 12 4, fld w 20 4] (fun d =>
      d.checked k (optTileChk x w) (fun e =>
        e.dieRead l h 9 (x.reg (fld w 24 5)).toNat 64 (fun g hv =>
          g.withLayer l h (x.reg (fld w 29 5)).toNat (fun g1 p0 _ ly ly1 =>
            let hd : Line := BitVec.ofNat 512 hv
            let adam := decide (2 ≤ lyAlgo ly)
            g1.useTiles k (if adam then [fld w 16 4] else []) (fun g2 =>
              g2.checked k (optRecChk x w hd ly ly1) (fun g3 =>
                if !x.tileReadable tg || !x.tileWritable tw || !x.tileWritable tm || (adam && !x.tileWritable tv) then g3
                else if g3.tilePoison k tw || g3.tilePoison k tm || g3.tilePoison k tg || (adam && g3.tilePoison k tv) then
                  g3.poisonHit k 2 0
                else
                  let outs := optRows (hyperOf hd) ly tw tg x.seed (x.stream (fld w 34 5)) (g3.lens32 k tw) (g3.lens32 k tm)
                    (if adam then g3.lens32 k tv else []) (g3.lensRows k tg)
                  match g3.addCounts (((g3.dom p0).getD 0) / 64) 16 (optCounts outs) with
                  | .error r => (r.2).memErr k r.1 p0
                  | .ok g4 => (g4.optWrite k x w adam outs).advance k))))))))

/-- The closing of a layer's step (R92, R93): QUIET_N and QUIET_PPM act as they are written, outside their ranges too (DESIGN
CHOICE, log entry 78). The new lines of the record, and whether QUIET_LAYER is raised. -/
def closeLayer (d : Line) (ppm steps : Nat) : Line × Line × Bool :=
  let p (i : Nat) : Nat := fld d (128 + 64 * i) 64
  let last : Line := (List.range 6).foldl (fun e i => setFld e (64 * i) 64 (p i)) 0
  let s := lyShift d
  let s1 := if p 4 ≠ 0 then s - 1 else if p 3 * 1024 > p 0 then s + 1 else s
  let s2 := if bit d 8 then max (-16) (min 16 s1) else s
  let thr := if fld d 96 32 = 0 then ppm else fld d 96 32
  let n := if fld d 80 16 = 0 then steps else fld d 80 16
  let quiet := decide (p 0 ≠ 0 ∧ p 1 * 1000000 < p 0 * thr)
  let run := if quiet then fld d 64 16 + 1 else 0
  let alarm := bit d 9 && decide (n ≤ run)
  let e0 := setFld d 0 8 (s2 % 256).toNat
  let e1 := setFld e0 32 32 (fld d 32 32 + 1)
  let e2 := if bit d 9 then setFld e1 64 16 (if alarm then 0 else run) else e1
  let e3 := if alarm then setFld e2 10 1 1 else e2
  (setFld e3 128 384 0, last, alarm)

/-- OPT.CLOSE: closes the layer's step in one action at the home of the layer record (R92, R93, R135). QUIET_LAYER names the
record's physical address (DESIGN CHOICE, log entry 77); where the second line cannot be written the first stays closed (DESIGN
CHOICE, log entry 79). -/
def execOptClose (l h : Nat) (w : W64) (s : State) : Host.Outcome State Fault Refusal :=
  s.run (fun b => b.issue l h w 0x81 false (fld w 8 21 != 0 || fld w 34 30 != 0) (fun c =>
    let k := hwNo l h; let x := c.hw k; let gl := (x.reg (fld w 29 5)).toNat
    if gl % 64 ≠ 0 then c.exc k 0x0B
    else
      c.withLayer l h gl (fun d p0 p1 ly ly1 =>
        d.checked k (layerChk ly ly1) (fun e =>
          let r := closeLayer ly (e.cfg 0x60000030 1000) (e.cfg 0x60000031 256)
          let l0 := ((e.dom p0).getD 0) / 64; let l1 := ((e.dom p1).getD 0) / 64
          match e.write l0 0xFFFFFFFFFFFFFFFF#64 r.1 false with
          | .error y => (y.2).memErr k y.1 p0
          | .ok g =>
            match g.write l1 0xFFFFFFFFFFFFFFFF#64 r.2.1 false with
            | .error y => (y.2).memErr k y.1 p1
            | .ok g1 =>
              let g2 := if r.2.2 then
                  ({ g1 with silent := { g1.silent with quietEvents := g1.silent.quietEvents + 1 } }).raise (unitNo 0x20 l)
                    .quietLayer [x.ctx, p0, fld r.1 32 32]
                else g1
              g2.advance k))))

/-! ### CHECK -/

/-- Whether a CHECK is selected (R418). -/
def Block.checkPick (b : Block) (l : Nat) (always : Bool) : Bool :=
  always || decide (rand24 (Config.checkDraw b.start.count) 0xFFFFFFF0#64 (BitVec.ofNat 64 (tget 0 b.silent.issued l)) <
    2 ^ (24 - b.cfg 0x61000001 12))

/-- CHECK: in a context of CheckContexts, a selected CHECK puts its tile on the scoreboard until the capture has read it
(R140, R418). -/
def execCheck (l h : Nat) (w : W64) (s : State) : Host.Outcome State Fault Refusal :=
  s.run (fun b => b.issue l h w 0xD2 false (fld w 18 46 != 0) (fun c =>
    let k := hwNo l h; let x := c.hw k; let ts := x.tile (fld w 8 4)
    let count (e : Block) : Block := { e with silent := { e.silent with issued := tinc e.silent.issued l 1 } }
    if !(c.cfg 0x61000005 (2 ^ 256 - 1)).testBit x.ctx then
      let d := count c
      ({ d with silent := { d.silent with ignored := d.silent.ignored + 1 } }).advance k
    else
      c.useTiles k [fld w 8 4] (fun d =>
        d.checked k [tdChk ts x.share false, need (tdLens ts) 0x0C] (fun e =>
          if !e.checkPick l (bit w 12) then (count e).advance k
          else if !x.tileReadable ts || !x.boardRoom (tdRanges ts) then e
          else
            let q : Check := { id := e.nextId, lantern := l, hw := h, ctx := x.ctx, key := x.reg (fld w 13 5), tile := ts }
            ({ (count e).boardTile k e.nextId ts false with checks := e.checks ++ [q], nextId := e.nextId + 1 }).advance k))))

end Sys2Proof.Machine
end

