-- ==== Sys2Proof/Machine/GroupOps.lean ====
section
/-! DEFINITION. What light groups share: states of lanterns (02 R50, 18 R407), the hold rule (06 R153),
the launching of table entries (06 R157, R158), and what an ending does to a group (06 R151, R154, R156). -/

namespace Sys2Proof.Machine

/-! ### States of lanterns (R50, R405, R407) -/

/-- Retired beams of a lantern (R50). -/
def Block.retiredBeams (b : Block) (l : Nat) : Nat := ((List.range 16).filter (fun m => (b.beam (beamNo l m)).host.isSome)).length
/-- OUT_OF_SERVICE: three or more retired beams, or taken out by a failed scan or relight (R50, R406). -/
def Block.outOfService (b : Block) (l : Nat) : Bool := (b.lantern l).out || decide (3 ≤ b.retiredBeams l)
/-- LOST, or still being relit, or OUT_OF_SERVICE (R407). -/
def Block.gone (b : Block) (l : Nat) : Bool :=
  (b.lantern l).loss == .lost || (b.lantern l).loss == .relighting || b.outOfService l

/-! ### Members -/

/-- A light group as a reporting unit. -/
def unitGroup (g : Nat) : Nat := unitNo 0x22 g
/-- A member's record. -/
def Group.member (x : Group) (m : Nat) : Member := tget {} x.members m
/-- Changes a member of a group. -/
def Block.updMember (b : Block) (g m : Nat) (f : Member → Member) : Block :=
  b.updGroup g (fun x => { x with members := tput x.members m (f (x.member m)) })
/-- Lantern members. -/
def Group.lamps (x : Group) : List Nat := setBits x.lanterns 64
/-- Stacks of the sinker members. -/
def Group.stacks (x : Group) : List Nat := setBits x.sinkers 16

/-- Whether a lantern's program of a request is over: joined, or ended by END, its join held or not (R153). -/
def Block.programOver (b : Block) (l req : Nat) : Bool :=
  match b.hwFor l req with
  | none => (b.request req).left.getLsbD l
  | some k => match (b.hw k).phase with | .ended 0 _ => true | .held 2 => (b.hw k).endStatus == 0 | _ => false

/-- Whether every action that a member launched on the flash now here has completed (R153). -/
def Member.idle (m : Member) (n : Nat) : Bool := m.seen == n && m.toLaunch == [] && m.open_ == []

/-- Whether a member is lit for the flash count: its program has declared it or is over, and every action it launched is complete
(R153). -/
def Block.lit (b : Block) (g m : Nat) : Bool :=
  let x := b.group g; let y := x.member m
  if m < 64 then
    ((match x.bound with | some r => b.programOver m r | none => false) && y.open_ == []) ||
      (decide (x.count < y.declared) && y.idle x.count)
  else y.idle x.count

/-- Whether a link of the flash path between the leader's tile and a member is held (R32, R152). -/
def Block.flashHeld (b : Block) (x : Group) (m : Nat) : Option Nat :=
  (route (lampTile x.leader) (memberTile m)).find? (fun i => (b.link i).held)

/-- Whether the leader's tile has a member's lit declaration for the flash count: it returned on the path before a link of the
path was held, or none is held now (R32, R152). -/
def Block.heard (b : Block) (g m : Nat) : Bool :=
  let x := b.group g
  b.lit g m && ((b.flashHeld x m).isNone || decide (x.count < (x.member m).returned))

/-- Lantern members and stacks of sinker members that the leader's tile does not know to be lit. -/
def Block.unlit (b : Block) (g : Nat) : List Nat × List Nat :=
  let x := b.group g
  (x.lamps.filter (fun l => !b.heard g l), x.stacks.filter (fun s => !b.heard g (64 + s)))

/-- Before a link is held: the members of bound groups whose lit declarations have returned to the leader's tile (R152). -/
def Block.noteLit (b : Block) : Block :=
  (List.range 16).foldl (fun (c : Block) g =>
    let x := b.group g
    if x.st = .bound then
      (x.lamps ++ x.stacks.map (64 + ·)).foldl (fun (d : Block) m =>
        if b.heard g m then d.updMember g m (fun y => { y with returned := x.count + 1 }) else d) c
    else c) b

/-! ### Endings -/

/-- A group back in FREE: only its counters and last findings stay readable (R149, R164). -/
def Group.released (x : Group) : Group :=
  { fired := x.fired, hold := x.hold, stalls := x.stalls, overruns := x.overruns, lastStall := x.lastStall,
    overBudget := x.overBudget, runsReplaced := x.runsReplaced }

/-- A group leaves its request: the count returns to 0, members are detached, actions still pending complete on their own
(R151). -/
def Block.unbind (b : Block) (g : Nat) : Block :=
  let c := b.updGroup g (fun x => { x with
    bound := none, count := 0,
    members := x.members.map (fun (e : Nat × Member) => (e.1, { table := e.2.table })) })
  { c with
    xfers := c.xfers.map (fun (y : Xfer) =>
      match y.group with | some t => if t.1 = g then { y with group := none } else y | none => y)
    sinkers := c.sinkers.map (fun (e : Nat × Sinker) => (e.1, { e.2 with ops := e.2.ops.map (fun (o : SinkOp) =>
      match o.group with | some t => if t.1 = g then { o with group := none } else o | none => o) })) }

/-- The hardware context that reports a stall: of the lowest unlit lantern member that has one, else of the leader (R156). -/
def Block.stallHw (b : Block) (g : Nat) : Option Nat :=
  let x := b.group g
  match x.bound with
  | none => none
  | some r =>
    match (b.unlit g).1.findSome? (fun l => b.hwFor l r) with
    | some k => some k
    | none => b.hwFor x.leader r

/-- A mask of lanterns. -/
def lanternMask (ls : List Nat) : W64 := ls.foldl (fun a l => a ||| BitVec.ofNat 64 (2 ^ l)) 0

/-- The request of a bound group ends with GROUP_STALL (R156). -/
def Block.stallGroup (b : Block) (g detail : Nat) : Block :=
  let x := b.group g; let u := b.unlit g
  let c := match b.stallHw g with | some k => b.endReq k 0x28 detail | none => b
  (c.updGroup g (fun y => { y with
    st := .stopped, stalls := y.stalls + 1,
    lastStall := lanternMask u.1 })).raise (unitGroup g) .groupStall [g, x.ctx, x.count]

/-- DETAIL of a GROUP_STALL (R156). -/
def Block.stallDetail (b : Block) (g : Nat) (torn : Bool) : Nat :=
  let u := b.unlit g
  g + (if torn then 0x20 else 0) + (match u.2 with | [] => 0 | s :: _ => 0x10 + s * 0x100)

/-- Whether an ending of a bound request stops the group: a member ended other than OK (R154). -/
def Block.groupBroken (b : Block) (g : Nat) : Bool :=
  let x := b.group g
  match x.bound with
  | none => false
  | some r => x.lamps.any (fun l =>
      match b.hwFor l r with
      | some k => (match (b.hw k).phase with | .ended 0 _ => false | .ended _ _ => true | .held 2 => (b.hw k).endStatus != 0 | _ => false)
      | none => false)

/-- A member of a bound request joins other than OK, or abandons: its groups stop, and no further flash fires (R154). -/
def Block.stopGroups (b : Block) (l req : Nat) : Block :=
  (List.range 16).foldl (fun c g =>
    let x := c.group g
    if x.bound = some req ∧ x.lanterns.getLsbD l ∧ x.st = .bound then c.updGroup g (fun y => { y with st := .stopped }) else c) b

/-- What a join does to the groups bound to its request: STOPPED after another status than OK; FORMED again once every
lantern member has joined (R151, R154). The join has been noted in the request's record. -/
def Block.groupsJoin (b : Block) (l req status : Nat) : Block :=
  (List.range 16).foldl (fun c g =>
    let x := c.group g
    if x.bound = some req ∧ x.lanterns.getLsbD l ∧ x.lamps.all (fun m => (c.request req).left.getLsbD m) then
      (c.unbind g).updGroup g (fun y => { y with st := if y.st = .degraded ∨ y.storeBad then .degraded else .formed })
    else c) (if status ≠ 0 then b.stopGroups l req else b)

/-- A lantern member is lost or goes OUT_OF_SERVICE: its groups become DEGRADED without it (R154, R405). -/
def Block.dropMember (b : Block) (l : Nat) : Block :=
  (List.range 16).foldl (fun c g =>
    let x := c.group g
    if x.st ≠ .free ∧ x.lanterns.getLsbD l then
      (((c.unbind g).updGroup g (fun y => { y with
        st := .degraded, lanterns := y.lanterns &&& ~~~(BitVec.ofNat 64 (2 ^ l)) }))).raise (unitGroup g) .memberDropped [g, l]
    else c) b

/-- Links of the flash paths of a group: between the leader's tile and each member's (R152). -/
def Group.paths (x : Group) : List Nat :=
  (x.lamps.map (fun l => route (lampTile x.leader) (lampTile l)) ++ x.stacks.map (fun s => route (lampTile x.leader) (stackTile s))).flatten

/-- The sideband of a link is down: the groups whose flash path crosses it are torn down (R33, R154, R156). -/
def Block.tearGroups (b : Block) (link : Nat) : Block :=
  (List.range 16).foldl (fun c g =>
    let x := c.group g
    if x.st ≠ .free ∧ x.paths.contains link then
      let d := if x.st = .bound ∨ x.st = .stopped then
          (match c.stallHw g with | some k => c.endReq k 0x28 (c.stallDetail g true) | none => c)
        else c
      let y := if x.st = .bound then { x with stalls := x.stalls + 1, lastStall := lanternMask (c.unlit g).1 } else x
      ((d.unbind g).setGroup g y.released).raise (unitGroup g) .groupTorn [g, link]
    else c) b

/-! ### Launching table entries (R157, R158) -/

/-- An entry of a member's table. -/
def Member.entry (m : Member) (i : Nat) : TableEntry :=
  m.table.getD i { rel := 0, action := 0, tag := 0, peer := 0, budget := 0, src := 0, dst := 0, len := 0, q := 0, pstride := 0, arg := 0 }

/-- Indices of the entries that launch on flash n, ascending (R157). -/
def launchList (cycle n : Nat) (t : List TableEntry) : List Nat :=
  (t.zipIdx).filterMap (fun (e : TableEntry × Nat) =>
    if e.1.rel ≠ 0 ∧ (if cycle = 0 then n = e.1.rel else (n - 1) % cycle + 1 = e.1.rel) then some e.2 else none)

/-- An entry has been launched: it leaves the list, and stands open unless it is complete. -/
def Block.launched (b : Block) (g m i : Nat) (complete : Bool) : Block :=
  b.updMember g m (fun y => { y with
    toLaunch := y.toLaunch.filter (· != i), open_ := if complete then y.open_.filter (· != i) else addLast y.open_ i })

/-- Bytes of the share with the poison of their lines. -/
def Block.lensMarked (b : Block) (k off n : Nat) : List (Byte × Bool) :=
  ((chunksOf off n).map (fun (c : Nat × Nat) =>
    (b.lensBytes k (off + c.1) c.2).map (fun v => (v, b.lensBad k (off + c.1) c.2)))).flatten

/-- A table SEND (R158). -/
def Block.tableSend (b : Block) (g l k i : Nat) (e : TableEntry) : Block :=
  let x := b.hw k
  if x.share < e.src + e.len ∨ x.share < e.dst + e.len then (b.exc k 0x09).launched g l i true
  else if !x.mayRead e.src e.len || !x.boardRoom 1 then b
  else
    let id := b.nextId
    let c := b.boardPut k id e.src e.len false
    let y : Xfer := { id := id, lantern := l, hw := k % 4, req := x.req, tally := none, writes := [], peer := some e.peer,
                      tag := e.tag, chunks := sendChunks e.dst (b.lensMarked k e.src e.len), group := some (g, l, i) }
    ({ c with nextId := id + 1, xfers := c.xfers ++ [y] }).launched g l i false

/-- A table REDUCE: REDUCE.SUM over Q planes of LEN FP32 elements, to nearest even (R134, R158). -/
def Block.tableReduce (b : Block) (g l k i : Nat) (e : TableEntry) : Block :=
  let x := b.hw k
  let span := (e.q - 1) * (e.pstride * 64) + e.len * 4
  let f := if e.arg % 16 = 1 then 1 else 0
  let out := rowBytes f e.len
  if x.share < e.src + span ∨ x.share < e.dst + out then (b.exc k 0x09).launched g l i true
  else if !x.mayRead e.src span || !x.mayWrite e.dst out then b
  else if (List.range e.q).any (fun p => b.lensBad k (e.src + p * (e.pstride * 64)) (e.len * 4)) then
    (b.poisonHit k 2 0).launched g l i true
  else
    let planes := (List.range e.q).map (fun p =>
      let row := leNat (b.lensBytes k (e.src + p * (e.pstride * 64)) (e.len * 4))
      (List.range e.len).map (fun j => BitVec.ofNat 32 (elemAt 0 row j)))
    let res := (List.range e.len).map (fun j => convertVal f .rne (val32 (reduceWith 0 (planes.map (fun pl => pl.getD j 0)))) 1 1)
    (((b.lensPut k e.dst (packRow f (res.map Prod.fst)) false).addCensus k
      (res.foldl (fun a (c : Nat × Census) => a.add c.2) {})).launched g l i true)

/-- A table SINK of a lantern member: as SINK, its descriptor at a virtual address (R136, R158). -/
def Block.tableSink (b : Block) (g l k i : Nat) (e : TableEntry) : Block :=
  if (b.hw k).phase ≠ .running then b
  else
    b.dieRead l (k % 4) 9 e.arg 64 (fun d v => d.sinkChecked l (k % 4) v none (some (g, l, i)) (fun c o =>
      let s := skStack o.desc
      let room := (c.sinker s).room true
      let c1 := ({ c with nextId := c.nextId + 1 }).addRef l o.id
      let c2 := if skLens o.desc then c1.boardPut k o.id (skDst o.desc) (skResult o.desc) true else c1
      (c2.updSinker s (fun y => { y with ops := y.ops ++ [{ o with admitted := room }] })).launched g l i false))

/-- A SINK of a sinker member: every address is physical, exceptions go to the leader's hardware context; the descriptor goes to the
sinker that STACK names (R158, R166 to R168). The die reads the descriptor's line at its home. -/
def Block.memberSink (b : Block) (g s i : Nat) (e : TableEntry) : Block :=
  let x := b.group g
  match x.bound.bind (fun r => b.hwFor x.leader r) with
  | none => b.launched g (64 + s) i true
  | some k =>
    match b.readAt e.arg 64 with
    | .error .wait => b
    | .error .poison => ((b.endReq k 0x60 6).extinguish x.ctx 1 x.leader e.arg).launched g (64 + s) i true
    | .error .unmapped => (b.exc k 0x0C).launched g (64 + s) i true
    | .error .failed => (b.endReq k 0x30 1).launched g (64 + s) i true
    | .ok v =>
      let o0 : SinkOp :=
        { id := b.nextId, desc := BitVec.ofNat 512 v, lantern := x.leader, hw := k % 4, req := (b.hw k).req, ctx := x.ctx, tally := none,
          group := some (g, 64 + s, i), physical := true }
      let peer := skPeer o0.desc
      let share := match (x.member peer).hw with | some h => (b.hw (hwNo peer h)).share | none => 0
      match firstErr (skChk o0.desc true (x.lanterns.getLsbD peer) share) with
      | some t => (b.endReq k t.1 t.2).launched g (64 + s) i true
      | none =>
        match b.skIndexRegion o0 with
        | none => b
        | some idx =>
          let st := skStack o0.desc
          if !((skRegions o0.desc ++ idx).all (b.regionDomain o0)) then (b.exc k 0x0C).launched g (64 + s) i true
          else if b.sinkHeld st then b
          else
            (({ b with nextId := b.nextId + 1 }).updSinker st
              (fun y => { y with ops := y.ops ++ [{ o0 with admitted := y.room true }] })).launched g (64 + s) i false

/-- Tries to launch the first entry that waits at a member (R158). -/
def Block.launchOne (b : Block) (g m : Nat) : Block :=
  let x := b.group g; let y := x.member m
  match y.toLaunch with
  | [] => b
  | i :: _ =>
    let e := y.entry i
    if m < 64 then
      match x.bound.bind (fun r => b.hwFor m r) with
      | none => b.launched g m i true
      | some k =>
        match (b.hw k).phase with
        | .ended _ _ => b.launched g m i true
        | _ =>
          if e.action = 1 then b.tableSend g m k i e
          else if e.action = 2 then b.launched g m i false
          else if e.action = 3 then
            ((b.updHw k (fun w => { w with runs := tput w.runs g (e.arg % 2 ^ 24) })).updGroup g (fun z =>
              { z with runsReplaced := z.runsReplaced + (if thas (b.hw k).runs g then 1 else 0) })).launched g m i true
          else if e.action = 4 then b.tableSink g m k i e
          else if e.action = 5 then b.tableReduce g m k i e
          else b.launched g m i true
    else if e.action = 4 then b.memberSink g (m - 64) i e
    else b.launched g m i true

/-- Launches a member's entries in ascending index until one waits (R158). -/
def Block.launch (b : Block) (g m : Nat) : Nat → Block
  | 0 => b
  | n + 1 =>
    let c := b.launchOne g m
    if ((c.group g).member m).toLaunch = ((b.group g).member m).toLaunch then c else c.launch g m n

/-- A flash reaches a member: its entries for the flash are launched; a member whose program is over launches none (R153,
R158). -/
def Block.flashHere (b : Block) (g m : Nat) : Block :=
  let x := b.group g
  let isOver := decide (m < 64) && (match x.bound with | some r => b.programOver m r | none => true)
  let list := if isOver then [] else launchList x.cycle x.count (x.member m).table
  (b.updMember g m (fun y => { y with seen := x.count, toLaunch := list })).launch g m list.length

/-- The characteristic store of a member meets an uncorrectable error at a flash: the group is STOPPED and its request ends with
GROUP_STALL; once the request has joined the group is DEGRADED, and REFORM loads the store again (R154, R393). -/
def Block.charStoreLost (b : Block) (g m : Nat) : Block :=
  let c := match b.stallHw g with | some k => b.endReq k 0x28 (b.stallDetail g false) | none => b
  (c.updGroup g (fun y => { y with st := .stopped, storeBad := true })).record (unitGroup g) .charStoreError [g, m] (errRec 2 0x09 m)

/-- Whether a flash that has fired reaches a member now: it has not been there, and no link of the path is held (R32, R152). -/
def Block.flashReaches (b : Block) (g m : Nat) : Bool :=
  let x := b.group g
  x.st == .bound && ((decide (m < 64) && x.lanterns.getLsbD m) || (decide (64 ≤ m ∧ m < 80) && x.sinkers.getLsbD (m - 64))) &&
    decide ((x.member m).seen < x.count) && (b.flashHeld x m).isNone

/-- A flash travels to a member: it waits on the sideband of a held link (R32, R152). -/
def Block.flashTravel (b : Block) (g m : Nat) : Block :=
  let x := b.group g
  if x.st = .bound ∧ ((m < 64 ∧ x.lanterns.getLsbD m) ∨ (64 ≤ m ∧ m < 80 ∧ x.sinkers.getLsbD (m - 64))) ∧ (x.member m).seen < x.count then
    match b.flashHeld x m with
    | some i => b.updLink i (fun y => { y with waiting := if y.waiting.contains (g, m) then y.waiting else y.waiting ++ [(g, m)] })
    | none => b.flashHere g m
  else b

end Sys2Proof.Machine
end

