-- ==== Sys2Proof/Machine/Groups.lean ====
section
/-! DEFINITION. Light-group commands and flashes (06 R147 to R159), WAITFLASH (05 R138), and the completion of sinker
descriptors (07 R169). -/

namespace Sys2Proof.Machine

/-! ### Reading a group descriptor (R147 to R149, R157) -/

/-- The fields of a table entry (R157). -/
def entryOf (d : BitVec 256) : TableEntry :=
  { rel := fld d 0 12, action := fld d 12 4, tag := fld d 16 4, peer := fld d 20 6, budget := fld d 32 32, src := fld d 64 25,
    dst := fld d 96 25, len := fld d 128 25, q := fld d 160 13, pstride := fld d 173 19, arg := fld d 192 64 }
/-- Reserved bits of a table entry. -/
def entryRsv (d : BitVec 256) : Bool := fld d 26 6 != 0 || fld d 89 7 != 0 || fld d 121 7 != 0 || fld d 153 7 != 0
/-- The field rules of a table entry: unused fields are zero, used ones in range (R157). -/
def entryOk (lamp : Bool) (lanterns : W64) (e : TableEntry) : Bool :=
  let z : TableEntry := { rel := e.rel, action := e.action, tag := 0, peer := 0, budget := 0, src := 0, dst := 0, len := 0, q := 0,
                          pstride := 0, arg := 0 }
  match e.action with
  | 0 => e == z
  | 1 => lamp && e == { z with tag := e.tag, peer := e.peer, budget := e.budget, src := e.src, dst := e.dst, len := e.len } &&
      lanterns.getLsbD e.peer && decide (e.len ≤ e.budget ∧ e.src % 64 = 0 ∧ e.dst % 64 = 0 ∧ e.len % 64 = 0 ∧ 64 ≤ e.len ∧
        e.len ≤ 28 * 2 ^ 20)
  | 2 => lamp && e == { z with tag := e.tag, len := e.len } && decide (1 ≤ e.len)
  | 3 => lamp && e == { z with arg := e.arg } && decide (e.arg < 2 ^ 24 ∧ e.arg % 8 = 0)
  | 4 => e == { z with budget := e.budget, arg := e.arg } && (lamp || e.budget == 0) && e.arg % 64 == 0
  | 5 => lamp && e == { z with src := e.src, dst := e.dst, len := e.len, q := e.q, pstride := e.pstride, arg := e.arg } &&
      decide (e.src % 64 = 0 ∧ e.dst % 64 = 0 ∧ 1 ≤ e.len ∧ 1 ≤ e.q ∧ e.q ≤ 4096 ∧ e.arg ≤ 1)
  | _ => false

/-- Bits of a member mask: lanterns 0 to 63, stacks 64 to 79. -/
def memberOf (lanterns sinkers : Nat) (m : Nat) : Bool := if m < 64 then lanterns.testBit m else sinkers.testBit (m - 64)

/-- One member as the directory names it: number, table address, entries. -/
abbrev DirEntry := Nat × Nat × Nat

/-- The directory's entries (R148). -/
def dirOf (ds : List Nat) : List DirEntry :=
  (ds.zipIdx).map (fun (e : Nat × Nat) => (e.2, e.1 % 2 ^ 64, e.1 / 2 ^ 64 % 2 ^ 13))

/-- The tables of the members, with whether each could be read; none while a line of one is BUSY. -/
def Block.readTables (b : Block) (ds : List DirEntry) : Option (List (Nat × Bool × List (BitVec 256))) :=
  ds.foldr (fun (d : DirEntry) acc =>
    match acc with
    | none => none
    | some t =>
      if d.2.1 % 32 ≠ 0 ∨ 4096 < d.2.2 then some ((d.1, true, []) :: t)
      else
        match b.readWords 32 d.2.1 d.2.2 with
        | .ok ws => some ((d.1, true, ws.map (BitVec.ofNat 256)) :: t)
        | .error .wait => none
        | .error _ => some ((d.1, false, []) :: t)) (some [])

/-- Entries that a lantern's or sinker die's store holds for other groups (R150). -/
def Block.storeUsed (b : Block) (but m : Nat) : Nat :=
  ((List.range 16).map (fun g => if g = but then 0 else ((b.group g).member m).table.length)).sum

/-- The outcome of the checks of FORM: no outcome yet (a line is BUSY), a refusal with its member and entry, or the
group. -/
inductive FormRes where
  | wait
  | refused (st : Sts) (m i : Nat)
  | ok (x : Group)
deriving DecidableEq, Repr

/-- First table entry that fails a test: member and index. -/
def badEntry (ts : List (Nat × Bool × List (BitVec 256))) (p : Nat → BitVec 256 → Bool) : Option (Nat × Nat) :=
  ts.findSome? (fun (t : Nat × Bool × List (BitVec 256)) =>
    if t.2.1 then (t.2.2.zipIdx).findSome? (fun (e : BitVec 256 × Nat) => if p t.1 e.1 then some (t.1, e.2) else none) else none)

/-- The checks of FORM and REFORM in their order (R149). -/
def Block.formCheck (b : Block) (g d : Nat) : FormRes :=
  if d % 64 ≠ 0 then .refused .badGroupDesc 0 0
  else
    match b.readAt d 64 with
    | .error .wait => .wait
    | .error _ => .refused .badGroupDesc 0 0
    | .ok v =>
      let w : Line := BitVec.ofNat 512 v
      let lanterns := fld w 128 64; let sinkers := fld w 192 16; let leader := fld w 16 6; let ctx := fld w 8 8
      let dir := fld w 256 64
      let dirRead : Except RdErr (List Nat) := if dir % 64 = 0 then b.readWords 16 dir 80 else .error .unmapped
      let ds := match dirRead with | .ok l => l | .error _ => []
      let es := dirOf ds
      let live := es.filter (fun (e : DirEntry) => memberOf lanterns sinkers e.1)
      match b.readTables live with
      | none => .wait
      | some ts =>
        let lamps := setBits (BitVec.ofNat 64 lanterns) 64
        let x : Group :=
          { st := .formed, desc := d, ctx := ctx, leader := leader, gcap := bit w 22, period := fld w 32 16, stall := fld w 48 16,
            cycle := fld w 64 12, lanterns := BitVec.ofNat 64 lanterns, sinkers := BitVec.ofNat 16 sinkers,
            members := ts.map (fun t => (t.1, { table := t.2.2.map entryOf })) }
        if dirRead matches .error .wait then .wait
        else if fld w 0 4 ≠ 1 then .refused .levelReject 0 0
        else if fld w 4 4 ≠ 0 ∨ fld w 23 9 ≠ 0 ∨ fld w 76 52 ≠ 0 ∨ fld w 208 48 ≠ 0 ∨ fld w 320 192 ≠ 0 then .refused .rsvNonzero 0 0
        else
          match (ds.zipIdx).find? (fun (e : Nat × Nat) => decide (e.1 / 2 ^ 77 % 2 ^ 51 ≠ 0)) with
          | some e => .refused .rsvNonzero e.2 0
          | none =>
          match badEntry ts (fun _ e => entryRsv e) with
          | some p => .refused .rsvNonzero p.1 p.2
          | none =>
            if (b.ctx ctx).st ≠ .active ∨ lanterns = 0 ∨ !lanterns.testBit leader ∨
                lamps.any (fun l => b.outOfService l || (b.lantern l).loss != .alive || !(b.ctx ctx).lanterns.getLsbD l) then
              .refused .badMember ((lamps.find? (fun l =>
                b.outOfService l || (b.lantern l).loss != .alive || !(b.ctx ctx).lanterns.getLsbD l)).getD 0) 0
            else if x.period < 32 ∨ (dirRead matches .error _) then .refused .badGroupDesc 0 0
            else
              match (ds.zipIdx).find? (fun (e : Nat × Nat) =>
                if memberOf lanterns sinkers e.2 then e.1 % 32 != 0 || decide (4096 < e.1 / 2 ^ 64 % 2 ^ 13) else e.1 != 0) with
              | some e => .refused .badGroupDesc e.2 0
              | none =>
              match ts.find? (fun t => !t.2.1) with
              | some t => .refused .badTable t.1 0
              | none =>
                match badEntry ts (fun m e => !entryOk (decide (m < 64)) x.lanterns (entryOf e)) with
                | some p => .refused .badTable p.1 p.2
                | none =>
                  match ts.find? (fun t => decide (4096 < b.storeUsed g t.1 + t.2.2.length)) with
                  | some t => .refused .noSpace t.1 0
                  | none => if x.paths.any (fun i => (b.link i).sbDown) then .refused .pathDown 0 0 else .ok x

/-! ### Budgets (R159) -/

/-- The tile of the sinker that a lantern member's table SINK names, where its descriptor can be read as the member would read it
(R159; log entry 82). -/
def Block.entrySinker (b : Block) (ctx m : Nat) (e : TableEntry) : Option Nat :=
  match b.translate m ctx e.arg 9 false with
  | (_, .ok pa _) => (b.peek pa 64).map (fun v => stackTile (skStack (BitVec.ofNat 512 v)))
  | _ => none
/-- Resources that an entry's budget counts against: 2 × lantern outward port, + 1 inward, 128 + 2 × link + direction. -/
def Block.crossed (b : Block) (ctx m : Nat) (e : TableEntry) : List Nat :=
  let links (a z : Nat) : List Nat := (pathDirs a (b.dataRoute a z)).map (fun p => 128 + 2 * p.1 + p.2)
  if e.action = 1 ∧ e.peer ≠ m then [2 * m, 2 * e.peer + 1] ++ links (lampTile m) (lampTile e.peer)
  else if e.action = 4 ∧ m < 64 then
    [2 * m + 1] ++ (match b.entrySinker ctx m e with | some t => links t (lampTile m) | none => [])
  else []
/-- Capacity of a resource per nominal lantern cycle (R159). -/
def Block.capacity (b : Block) (r : Nat) : Nat :=
  if r < 128 then 975 else if (b.link ((r - 128) / 2)).st = .half then 914 else 1828
/-- The first flash position and resource over budget; with P below 512 no resource of position 1 has any capacity (R159). -/
def Block.overBudget (b : Block) (x : Group) : Option (Nat × Nat) :=
  if x.period < 512 then some (1, 0) else
  let uses : Tab Nat := x.members.foldl (fun (t : Tab Nat) (m : Nat × Member) =>
    m.2.table.foldl (fun (u : Tab Nat) (e : TableEntry) =>
      if e.rel ≠ 0 ∧ (x.cycle = 0 ∨ e.rel ≤ x.cycle) then
        (b.crossed x.ctx m.1 e).foldl (fun v r => tinc v (e.rel * 1024 + r) e.budget) u
      else u) t) []
  (uses.find? (fun (u : Nat × Nat) => decide (((b.capacity (u.1 % 1024) : Int) * ((x.period : Int) - 512)) < u.2))).map
    (fun u => (u.1 / 1024, u.1 % 1024))

/-! ### Group commands -/

/-- Object of GroupCommand (R164). -/
def objGroup : Nat := 0x22000041

/-- Loads a group after its checks; a refusal is repeated in GROUP_REFUSED (R149). The counters of `old` go on. -/
def Block.formWith (b : Block) (g d : Nat) (old : Group) : Block :=
  match b.formCheck g d with
  | .wait => b
  | .refused st m i => (b.refuse st).raise (unitGroup g) .groupRefused [g, stsCode st, m, i]
  | .ok x =>
    let o := b.overBudget x
    let c := (b.unbind g).setGroup g { x with
      overBudget := o.isSome, fired := old.fired, hold := old.hold, stalls := old.stalls, overruns := old.overruns,
      lastStall := old.lastStall, runsReplaced := old.runsReplaced }
    (match o with | some p => c.raise (unitGroup g) .groupOverbudget [g, p.1, p.2] | none => c).done objGroup 0

/-- FORM: accepted in FREE (R149). -/
def execForm (role : Role) (g d : Nat) (s : State) : Host.Outcome State Fault Refusal :=
  s.run (fun b => b.cmd role .operator 0x22 (fun c =>
    if 16 ≤ g then c.refuse .outOfRange
    else if (c.group g).st ≠ .free then c.refuse .badState else c.formWith g d { c.group g with fired := 0 }))

/-- REFORM: accepted in FORMED and DEGRADED (R149). -/
def execReform (role : Role) (g : Nat) (s : State) : Host.Outcome State Fault Refusal :=
  s.run (fun b => b.cmd role .operator 0x22 (fun c =>
    let x := c.group g
    if 16 ≤ g then c.refuse .outOfRange
    else if x.st = .formed ∨ x.st = .degraded then c.formWith g x.desc x else c.refuse .badState))

/-- DISSOLVE: accepted in FORMED and DEGRADED (R149). -/
def execDissolve (role : Role) (g : Nat) (s : State) : Host.Outcome State Fault Refusal :=
  s.run (fun b => b.cmd role .operator 0x22 (fun c =>
    let x := c.group g
    if 16 ≤ g then c.refuse .outOfRange
    else if x.st = .formed ∨ x.st = .degraded then ((c.unbind g).setGroup g (c.group g).released).done objGroup 0 else c.refuse .badState))

/-! ### WAITFLASH (R138, R151, R153, R155) -/

/-- Waiting binds whose request still runs, oldest first. -/
def Block.liveWaiters (b : Block) (g : Nat) : List Nat :=
  (b.group g).waiters.filter (fun r => b.hws.any (fun (e : Nat × Hw) => e.2.phase == .running && e.2.req == r))

/-- Binds a group to a request (R151). -/
def Block.bindGroup (b : Block) (g req : Nat) : Block :=
  b.updGroup g (fun x => { x with
    st := .bound, bound := some req, count := 0, waiters := x.waiters.filter (· != req),
    members := x.members.map (fun (e : Nat × Member) => (e.1, { table := e.2.table })) })

/-- A WAITFLASH of a member of the bound request: attached, declared, and returned once the count is here (R151, R153,
R155). -/
def Block.waitFlash (b : Block) (g l h : Nat) (declares : Bool) (target : Nat) : Block :=
  let k := hwNo l h
  let c := b.updMember g l (fun m => { m with hw := some h, declared := if declares then max m.declared target else m.declared })
  if target ≤ ((c.group g).member l).seen then
    match tfind (c.hw k).runs g with
    | some off => (c.updHw k (fun w => { w with runs := tdel w.runs g })).goto k off
    | none => c.advance k
  else c.updHw k (fun w => { w with waiting := true })

/-- WAITFLASH: BAD_GROUP where the binding rules fail; waits for a bind, then for the flash (R138, R151). -/
def execWaitflash (l h : Nat) (w : W64) (s : State) : Host.Outcome State Fault Refusal :=
  s.run (fun b => b.issue l h w 0xB0 false (fld w 18 46 != 0) (fun c =>
    let k := hwNo l h; let x := c.hw k; let g := fld w 8 4; let y := c.group g
    let target := (x.reg (fld w 13 5)).toNat
    if y.st = .free ∨ y.st = .degraded ∨ y.ctx ≠ x.ctx ∨ !y.lanterns.getLsbD l ∨ y.lanterns &&& ~~~x.mask ≠ 0 then c.exc k 0x13
    else
      match y.bound with
      | some r =>
        if r = x.req then c.waitFlash g l h (bit w 12) target
        else (c.updGroup g (fun z => { z with waiters := addLast z.waiters x.req })).updHw k (fun v => { v with waiting := true })
      | none =>
        match c.liveWaiters g with
        | r :: _ =>
          if r = x.req then (c.bindGroup g x.req).waitFlash g l h (bit w 12) target
          else (c.updGroup g (fun z => { z with waiters := addLast z.waiters x.req })).updHw k (fun v => { v with waiting := true })
        | [] => (c.bindGroup g x.req).waitFlash g l h (bit w 12) target))

/-! ### Flashes (R152 to R158) -/

/-- FLASH_FIRE: every member is lit and, past flash 1, P nominal cycles have gone by; `held` is the time that the flash
waited beyond P. A count past 0xFFFF_FFFF ends the request with GROUP_STALL (R153, R154). -/
def execFlashFire (g held : Nat) (s : State) : Host.Outcome State Fault Refusal :=
  s.run (fun b =>
    let x := b.group g; let u := b.unlit g
    if x.st ≠ .bound then b
    else if b.groupBroken g then b.updGroup g (fun y => { y with st := .stopped })
    else if u.1 ≠ [] ∨ u.2 ≠ [] then b
    else if x.count = 0xFFFFFFFF then b.stallGroup g (b.stallDetail g false)
    else b.updGroup g (fun y => { y with count := y.count + 1, fired := y.fired + 1, hold := y.hold + held }))

/-- FLASH_ARRIVAL: a flash reaches a member, which launches its entries for it (R158); an error of the characteristic store there stops
the group (R393). -/
def execFlashArrival (g : Nat) (a : Arrival) (s : State) : Host.Outcome State Fault Refusal :=
  s.run (fun b => if a.storeBad ∧ b.flashReaches g a.member then b.charStoreLost g a.member else b.flashTravel g a.member)

/-- A descriptor leaves its sinker: its tally or its flash action completes; one that ended in an error is not counted as completed
(R122, R158, R160, R169, R182). -/
def Block.retireSink (b : Block) (s : Nat) (o : SinkOp) : Block :=
  let c := b.updSinker s (fun x => { x with
    ops := x.ops.filter (fun (y : SinkOp) => y.id != o.id), descriptors := x.descriptors + (if o.failed then 0 else 1) })
  let d := if o.physical then c else (c.forSink o (fun y k => y.boardDel k o.id)).dropRef o.lantern o.id
  let e := match o.tally with | some t => d.forSink o (fun y k => y.tallyDown k t) | none => d
  match o.group with
  | none => e
  | some t =>
    let f := e.updMember t.1 t.2.1 (fun m => { m with open_ := m.open_.filter (· != t.2.2) })
    let bytes := if skLens o.desc ∧ !o.failed then skResult o.desc else 0
    if (((b.group t.1).member t.2.1).entry t.2.2).budget < bytes then
      f.updGroup t.1 (fun x => { x with overruns := x.overruns + 1 })
    else f

/-- SINK_DONE: a descriptor has written all its results and its status record (R169). -/
def execSinkDone (s id : Nat) (st : State) : Host.Outcome State Fault Refusal :=
  st.run (fun b =>
    match (b.sinker s).ops.find? (fun (o : SinkOp) => o.id == id) with
    | some o => if o.ran then b.retireSink s o else b
    | none => b)

/-- Completes a launched action where it is complete (R158). -/
def Block.actionDone (b : Block) (g m i : Nat) : Block :=
  let x := b.group g; let y := x.member m; let e := y.entry i
  if !y.open_.contains i then b
  else if e.action = 1 then
    match b.xfers.find? (fun (t : Xfer) => t.group == some (g, m, i)) with
    | some t => if t.chunks = [] then (b.retireXfer t).launched g m i true else b
    | none => b.launched g m i true
  else if e.action = 2 then
    match x.bound.bind (fun r => b.hwFor m r) with
    | some k =>
      let have_ := tget 0 (b.hw k).tags e.tag
      if e.len ≤ have_ then (b.updHw k (fun w => { w with tags := tput w.tags e.tag (have_ - e.len) })).launched g m i true else b
    | none => b.launched g m i true
  else if e.action = 4 then
    let s? := (List.range 16).find? (fun s => (b.sinker s).ops.any (fun (o : SinkOp) => o.group == some (g, m, i)))
    match s? with
    | some s =>
      match (b.sinker s).ops.find? (fun (o : SinkOp) => o.group == some (g, m, i)) with
      | some o => if o.ran then b.retireSink s o else b
      | none => b
    | none => b.launched g m i true
  else b

/-- FLASH_ACTION_DONE: a launched action completes; entries that waited for it are launched (R158). -/
def execFlashActionDone (g member idx : Nat) (s : State) : Host.Outcome State Fault Refusal :=
  s.run (fun b =>
    if (b.group g).st = .bound ∨ (b.group g).st = .stopped then
      let c := b.actionDone g member idx
      c.launch g member ((c.group g).member member).toLaunch.length
    else b)

/-- GROUP_STALL: the stall timer of a BOUND group reaches its limit with a member unlit (R154, R156). -/
def execGroupStall (g : Nat) (s : State) : Host.Outcome State Fault Refusal :=
  s.run (fun b =>
    let u := b.unlit g
    if (b.group g).st = .bound ∧ (u.1 ≠ [] ∨ u.2 ≠ []) then b.stallGroup g (b.stallDetail g false) else b)

end Sys2Proof.Machine
end

