-- ==== Sys2Proof/Machine/TierOps.lean ====
section
/-! DEFINITION. The tiers of a placement domain: frames that are freed and copied, moves and their queue (08 R190, R195,
R196), streams and their windows (08 R197 to R200), evacuation and return of the stack tier (08 R205 to R207), frames that
retire (08 R208). -/

namespace Sys2Proof.Machine

/-- A placement domain as a reporting unit (R210). -/
def unitDomain (d : Nat) : Nat := unitNo 0x32 d
/-- A memory channel as a reporting unit: its stack, or its DDR5 channel. -/
def unitChannel (ch : Nat) : Nat := if ch < 256 then unitNo 0x30 (ch / 16) else unitNo 0x31 (ch - 256)
/-- TierCommand (R210). -/
def objTier : Nat := 0x32000041
/-- Domain of a memory channel (R184). -/
def chanDomain (ch : Nat) : Nat := if ch < 256 then ch / 32 else (ch - 256) / 2

/-! ### Frames -/

/-- Whether a key of memory lies in a frame. -/
def inFrame (tier d frame k : Nat) : Bool := decide (memKey tier d frame 0 ≤ k ∧ k < memKey tier d frame 65536)

/-- Clears a frame to zero, poison marks too (R190). -/
def Block.clearFrame (b : Block) (tier d frame : Nat) : Block :=
  { b with mem := b.mem.filter (fun (c : Host.Cell) => !inFrame tier d frame c.1),
           memPoison := b.memPoison.filter (fun k => !inFrame tier d frame (k * 64)) }

/-- Copies a frame; a line met poisoned is written as poison (R196). -/
def Block.copyFrame (b : Block) (d t0 f0 t1 f1 : Nat) : Block :=
  let k0 := memKey t0 d f0 0; let k1 := memKey t1 d f1 0
  let cells := b.mem.filter (fun (c : Host.Cell) => inFrame t0 d f0 c.1)
  let bad := (List.range 1024).filter (fun i => (b.frameLine t0 d f0 i).2)
  let b1 := b.clearFrame t1 d f1
  { b1 with mem := cells.foldl (fun (m : List Host.Cell) (c : Host.Cell) => cellPut m (c.1 - k0 + k1) c.2) b1.mem,
            memPoison := bad.foldl (fun (m : List Nat) i => sput m (k1 / 64 + i)) b1.memPoison }

/-- A frame is freed: it is zeroed in the background, unless it retires (R190, R208, R209). -/
def Block.freeFrame (b : Block) (d tier frame : Nat) : Block :=
  b.updDomain d (fun x =>
    if x.retiring.contains (tier, frame) then
      { x with retiring := x.retiring.filter (· != (tier, frame)), retired := x.retired ++ [(tier, frame)] }
    else { x with zeroing := x.zeroing ++ [(tier, frame)] })

/-- A frame is retired for good (R194, R208). -/
def Block.retireNow (b : Block) (d tier frame : Nat) : Block :=
  b.updDomain d (fun x => { x with
    retiring := x.retiring.filter (· != (tier, frame))
    retired := if x.retired.contains (tier, frame) then x.retired else x.retired ++ [(tier, frame)] })

/-- Frames of a tier that neither back a berth nor are kept from it, the device reserve among them (R190). -/
def Block.rawFree (b : Block) (d tier : Nat) : Nat := b.frames d tier - (b.taken d tier).length

/-- Whether a channel of a tier of the domain is held: a frame of the tier spans them all (R188, R205). -/
def Block.tierHeld (b : Block) (d tier : Nat) : Bool :=
  if tier = 0 then (List.range 32).any (fun i => (b.channel (d * 32 + i)).st == .held)
  else (b.channel (256 + 2 * d)).st == .held || (b.channel (257 + 2 * d)).st == .held

/-- Whether a channel of the domain is held (R196, R205). -/
def Block.domHeld (b : Block) (d : Nat) : Bool := b.tierHeld d 0 || b.tierHeld d 1

/-! ### Moves (R194 to R196) -/

/-- Starts a move where a destination frame is to be had: the copy goes to the frame with STATE COPYING. A move out of the
stack tier, and one within a tier, may borrow from the device reserve (R195, R207, R208). A held channel of either frame makes
the copy wait (R196). -/
def Block.startMove (b : Block) (n t : Nat) : Option Block :=
  let d := n / 2 ^ 24; let x := b.berth n
  let room := if t = 0 ∧ x.tier = 1 then b.freeFrames d 0 else b.rawFree d t
  if room = 0 || b.tierHeld d x.tier || b.tierHeld d t then none
  else
    let f := b.pickFrame d t
    some ({ (b.copyFrame d x.tier x.frame t f).setBerth n { x with st := .copying, destTier := t, dest := f } with
      picks := b.picks + 1 })

/-- Berths of a domain that are being copied. -/
def Block.copying (b : Block) (d : Nat) : Nat := ((b.berthsOf d).filter (fun e => e.2.st == .copying)).length

/-- Whether a berth's policy lets it stand in a tier, and, where it is AUTO and is to change tiers outside an evacuation, its
owner's quota does (R193, R204). -/
def Block.moveAllowed (b : Block) (n t : Nat) : Bool :=
  let evac := (b.domain (n / 2 ^ 24)).tier == .evacuating
  match b.regionOf n with
  | none => true
  | some r =>
    match r.policy with
    | .auto => evac || (b.berth n).tier == t || b.ownerRoom n t
    | .stack => t == 0 || evac
    | .bulk | .streamed => t == 1

/-- Whether a queued move still stands: its berth is STEADY and not yet where it goes, and may go there, or is on a frame that
retires. -/
def Block.moveStands (b : Block) (n t : Nat) : Bool :=
  let x := b.berth n
  x.st == .steady && ((x.tier != t && b.moveAllowed n t) || (b.domain (n / 2 ^ 24)).retiring.contains (x.tier, x.frame))

/-- Starts queued moves in order, at most 64 at once (R196). -/
def Block.startQueued (b : Block) (d : Nat) : Block :=
  let q := (b.domain d).moveQueue
  q.foldl (fun (a : Block) (m : Nat × Nat) =>
    let drop (c : Block) : Block := c.updDomain d (fun y => { y with moveQueue := y.moveQueue.filter (· != m) })
    if (a.berth m.1).st = .copying then a
    else if !a.moveStands m.1 m.2 then drop a
    else if 64 ≤ a.copying d then a
    else match a.startMove m.1 m.2 with
      | some c => drop c
      | none => a) b

/-- Queues moves behind those that wait and starts what can start. -/
def Block.queueMoves (b : Block) (d : Nat) (ms : List (Nat × Nat)) : Block :=
  (b.updDomain d (fun x => { x with moveQueue := x.moveQueue ++ ms.filter (fun m => !x.moveQueue.contains m) })).startQueued d

/-- Whether a berth is being moved or is to be moved. -/
def Block.moving (b : Block) (n : Nat) : Bool :=
  (b.berth n).st == .copying || (b.domain (n / 2 ^ 24)).moveQueue.any (fun m => m.1 == n)

/-- Drops a move that has not flipped: the berth stays where it was (R206). -/
def Block.cancelMove (b : Block) (n : Nat) : Block :=
  let d := n / 2 ^ 24; let x := b.berth n
  let b1 := b.updDomain d (fun y => { y with moveQueue := y.moveQueue.filter (fun m => m.1 != n) })
  if x.st = .copying then (b1.setBerth n { x with st := .steady }).freeFrame d x.destTier x.dest else b1

/-- Whether a berth is being moved by a tier command that still runs (R194). -/
def Block.movedByCommand (b : Block) (n : Nat) : Bool :=
  let x := b.domain (n / 2 ^ 24)
  b.moving n && x.waits.any (fun (w : TierWait) =>
    w.what == 3 || w.what == 4 ||
    (w.what == 0 && (match b.regionOf n with | some r => r.num == w.key | none => false)))

/-! ### Streams (R197 to R200) -/

/-- First berth and berths of a layer number: under WRAP, entry n mod LAYERS (R197). -/
def Stream.layer (s : Stream) (n : Nat) : Nat × Nat :=
  s.layers.getD (if s.wrap then n % max 1 s.layers.length else n) (0, 0)
/-- Whether a layer number exists (R199). -/
def Stream.exists_ (s : Stream) (n : Nat) : Bool := s.wrap || decide (n < s.layers.length)
/-- Berths of a layer. -/
def Stream.berths (s : Stream) (n : Nat) : List Nat := (List.range (s.layer n).2).map (fun i => (s.layer n).1 + i)
/-- Whether a layer belongs to the span m to m + AHEAD (R198). -/
def Stream.wanted (s : Stream) (n : Nat) : Bool := decide (s.mark ≤ n ∧ n ≤ s.mark + s.ahead)
/-- The layer to be streamed next: the lowest of the span neither resident nor failed (R198). -/
def Stream.nextLayer (s : Stream) : Option Nat :=
  ((List.range (s.ahead + 1)).map (· + s.mark)).find? (fun n => s.exists_ n && !s.resident.contains n && !s.failed.contains n)
/-- The stream with its mark the least of its consumers' marks; without one the mark stays (R198). -/
def Stream.remark (s : Stream) : Stream :=
  match s.marks with
  | [] => s
  | e :: t => { s with mark := t.foldl (fun (m : Nat) (x : Nat × Nat) => min m x.2) e.2 }

/-- Changes the record of a stream. -/
def Block.updStream (b : Block) (num : Nat) (f : Stream → Stream) : Block :=
  b.updDomain (num / 32) (fun x => { x with streams := x.streams.map (fun (s : Stream) => if s.num = num then f s else s) })
/-- A registered stream. -/
def Block.stream (b : Block) (num : Nat) : Option Stream := (b.domain (num / 32)).streams.find? (fun (s : Stream) => s.num == num)

/-- A WINDOW berth goes back to its bulk frame, copied back when it was written; the window frame is the stream's again,
unless it retires (R200, R208). -/
def Block.returnBerth (b : Block) (num n : Nat) : Block :=
  let d := n / 2 ^ 24; let x := b.berth n
  if x.st ≠ .window then b
  else
    let b1 := if x.wdirty then b.copyFrame d 0 x.frame 1 x.own else b
    let b2 := (b1.setBerth n { x with st := .steady, tier := 1, frame := x.own, own := 0, wdirty := false, stream := none }).updDomain d
      (fun y => { y with returned := y.returned + 1 })
    if (b.domain d).retiring.contains (0, x.frame) then b2.retireNow d 0 x.frame
    else b2.updStream num (fun s => { s with frames := s.frames ++ [x.frame] })

/-- Returns a resident layer, but for berths that another layer of the span holds too. -/
def Block.returnLayer (b : Block) (num layer : Nat) : Block :=
  match b.stream num with
  | none => b
  | some s =>
    let keep := (s.resident.filter (fun n => n != layer && s.layer n == s.layer layer)) != []
    let b1 := if keep then b else (s.berths layer).foldl (fun (a : Block) n => a.returnBerth num n) b
    b1.updStream num (fun t => { t with resident := t.resident.filter (· != layer) })

/-- The stream engine returns every resident layer that is not wanted; a copy back waits for held channels (R196, R198). -/
def Block.syncStream (b : Block) (num : Nat) : Block :=
  match b.stream num with
  | none => b
  | some s =>
    (s.resident.filter (fun n => !s.wanted n)).foldl (fun (a : Block) n =>
      if a.domHeld (num / 32) && (s.berths n).any (fun k => (a.berth k).wdirty) then a else a.returnLayer num n) b

/-- Returns every window berth of a domain (R206). -/
def Block.returnWindows (b : Block) (d : Nat) : Block :=
  (b.domain d).streams.foldl (fun (a : Block) (s : Stream) => s.resident.foldl (fun (c : Block) n => c.returnLayer s.num n) a) b

/-- The request of a hardware context joins: the marks that it set for its lantern are dropped (R198). -/
def Block.dropMarks (b : Block) (k : Nat) : Block :=
  let nums := (b.domains.map (fun (e : Nat × Domain) =>
    (e.2.streams.filter (fun (s : Stream) => tfind s.markHw (k / 4) == some (k % 4))).map (fun (s : Stream) => s.num))).flatten
  nums.foldl (fun (a : Block) num =>
    (a.updStream num (fun s =>
      ({ s with marks := tdel s.marks (k / 4), markHw := tdel s.markHw (k / 4) } : Stream).remark)).syncStream num) b

/-! ### Tier commands that run (R194) -/

/-- Adds a running tier command. -/
def Block.addWait (b : Block) (d : Nat) (w : TierWait) : Block := b.updDomain d (fun x => { x with waits := x.waits ++ [w] })

/-- Ends the running tier commands of a kind in a domain: COMMAND_DONE with OK (R362). -/
def Block.endWaits (b : Block) (d : Nat) (p : TierWait → Bool) : Block :=
  let done := (b.domain d).waits.filter p
  done.foldl (fun (a : Block) (w : TierWait) =>
    a.finishSts objTier w.cmd .ok (if w.what = 0 ∨ w.what = 1 then w.key else 0))
    (b.updDomain d (fun x => { x with waits := x.waits.filter (fun w => !p w) }))

/-- Reserves the window frames of a stream that waits for them (R194, R197). -/
def Block.reserve (b : Block) (num : Nat) : Block :=
  match b.stream num with
  | none => b
  | some s =>
    let d := num / 32
    if b.freeFrames d 0 < s.window - s.frames.length then b
    else
      let b1 := (List.range (s.window - s.frames.length)).foldl (fun (a : Block) _ =>
        let f := a.pickFrame d 0
        { a.updStream num (fun t => { t with frames := t.frames ++ [f] }) with picks := a.picks + 1 }) b
      b1.endWaits d (fun w => w.what == 1 && w.key == num)

/-- Goes through the running tier commands of a domain and ends those whose condition holds (R194). -/
def Block.checkWaits (b : Block) (d : Nat) : Block :=
  let b1 := ((b.domain d).waits.filter (fun (w : TierWait) => w.what == 1)).foldl (fun (a : Block) (w : TierWait) => a.reserve w.key) b
  let x := b1.domain d
  b1.endWaits d (fun w =>
    (w.what == 0 && !((x.moveQueue.map Prod.fst ++ ((b1.berthsOf d).filter (fun e => e.2.st == .copying)).map Prod.fst).any
      (fun n => match b1.regionOf n with | some r => r.num == w.key | none => false))) ||
    (w.what == 2 && w.frames.all (fun f => !x.zeroing.contains (0, f))))

/-! ### Evacuation and return of the stack tier (R205 to R207) -/

/-- Stack-backed berths of a domain. -/
def Block.onStack (b : Block) (d : Nat) : List Nat :=
  ((b.berthsOf d).filter (fun e => (e.2.st == .steady || e.2.st == .copying) && e.2.tier == 0)).map Prod.fst

/-- Stack channels of a domain. -/
def stackChannels (d : Nat) : List Nat := (List.range 32).map (· + d * 32)

/-- Whether an evacuation fits: as many free bulk frames as there are stack-backed berths (R207); frames being zeroed are
free once zeroed. -/
def Block.evacFits (b : Block) (d : Nat) : Bool :=
  b.tierOpen d 1 && decide ((b.onStack d).length + 64 + (b.taken d 1).length ≤
    b.frames d 1 + ((b.domain d).zeroing.filter (fun f => f.1 == 1)).length)

/-- Sets the tier state (R210). -/
def Block.setTier (b : Block) (d : Nat) (t : TierSt) : Block := b.updDomain d (fun x => { x with tier := t })

/-- The repair path, or EVACUATE: the evacuation starts, or is deferred where it does not fit and no channel is LOST
(R206, R207). -/
def Block.startEvac (b : Block) (d : Nat) : Block :=
  let lost := (stackChannels d).any (fun c => (b.channel c).st == .lost)
  if !lost && !b.evacFits d then (b.setTier d .deferred).raise (unitDomain d) .repairDeferred [d]
  else
    let b1 := (((b.setTier d .evacuating).raise (unitDomain d) .stackEvacuate [d]).returnWindows d).updDomain d
      (fun x => { x with moveQueue := [] })
    let b2 := (((b1.berthsOf d).filter (fun e => e.2.st == .copying && e.2.destTier == 0)).map Prod.fst).foldl
      (fun (a : Block) n => a.cancelMove n) b1
    (b2.queueMoves d (((b2.berthsOf d).filter (fun e => e.2.st == .steady && e.2.tier == 0)).map (fun e => (e.1, 1)))).checkWaits d

/-- A stack channel enters the repair path (R205, R206). -/
def Block.repairPath (b : Block) (d ch : Nat) : Block :=
  if [TierSt.normal, .deferred, .returning].contains (b.domain d).tier then
    (b.updDomain d (fun x => { x with repairing := some ch })).startEvac d
  else b

/-- Every WAITSTREAM that waits for a layer which has failed ends with TIER_FAIL, DETAIL 5, at once (R199, R209). -/
def Block.failWaits (b : Block) : Block :=
  (b.hws.filter (fun (e : Nat × Hw) => e.2.waiting && e.2.lateKind == 1 &&
    (match b.stream e.2.lateStream with | some t => t.failed.contains e.2.lateLayer | none => false))).foldl
    (fun (a : Block) (e : Nat × Hw) => a.endReq e.1 0x30 5) b

/-- A STREAMED berth that still has a stack frame of its own becomes FAILED, and the layers that hold it with it (R201, R206). -/
def Block.failStreamed (b : Block) (n : Nat) : Block :=
  let d := n / 2 ^ 24
  let c := b.cancelMove n
  ((c.setBerth n { c.berth n with st := .failed, hasFrame := true }).updDomain d (fun y => { y with streams := y.streams.map (fun (t : Stream) =>
      { t with failed := t.failed ++ ((List.range (t.ahead + 1)).map (· + t.mark)).filter (fun k =>
          (t.berths k).contains n && t.exists_ k && !t.failed.contains k) }) })).raise (unitDomain d) .berthFailed [d, n]

/-- STREAMED berths whose window frame, or stack frame not yet moved to bulk, has lines on a LOST channel become FAILED, and
their layers with them (R201, R206). -/
def Block.failWindows (b0 : Block) (d : Nat) : Block :=
  let b := (((b0.berthsOf d).filter (fun e => (e.2.st == .steady || e.2.st == .copying) && e.2.tier == 0 &&
      (match b0.regionOf e.1 with | some r => r.policy == .streamed | none => false))).map Prod.fst).foldl
    (fun (a : Block) n => a.failStreamed n) b0
  (b.domain d).streams.foldl (fun (a : Block) (s : Stream) =>
    let hit := s.resident.filter (fun n => (s.berths n).any (fun k => (a.berth k).st == .window))
    let c := hit.foldl (fun (e : Block) n => (s.berths n).foldl (fun (g : Block) k =>
      let x := g.berth k
      if x.st = .window then
        let y : Berth := { x with st := .failed, tier := 1, frame := x.own, own := 0, hasFrame := true, wdirty := false, stream := none }
        ((g.setBerth k y).updStream s.num (fun t => { t with frames := t.frames ++ [x.frame] })).raise
          (unitDomain d) .berthFailed [d, k]
      else g) e) a
    c.updStream s.num (fun t => { t with resident := t.resident.filter (fun n => !hit.contains n), failed := t.failed ++ hit })) b

/-- Stack channels become LOST: their lines read as poison, and the evacuation starts at once (R206, R207, R395 point 4). -/
def Block.loseChannels (b : Block) (d : Nat) (chs : List Nat) : Block :=
  let fresh := chs.filter (fun c => (b.channel c).st != .lost)
  let b1 := fresh.foldl (fun (a : Block) c => a.updChannel c (fun x => { x with st := .lost })) b
  let b2 := (b1.failWindows d).failWaits
  let b3 := { b2 with errors := { b2.errors with made := tinc b2.errors.made 4 ((b2.onStack d).length * 32 * fresh.length) } }
  if [TierSt.evacuating, .evacuated, .repairing, .offline].contains (b.domain d).tier then b3
  else b3.repairPath d (chs.headD 0)

/-! ### Single-channel mode (20 R439, R440) -/

/-- BulkChannelCommand. -/
def objBulk : Nat := 0x31000041
/-- The other DDR5 channel of a domain. -/
def partner (ch : Nat) : Nat := if ch % 2 = 0 then ch + 1 else ch - 1
/-- Bulk frames of a domain with one channel (R439). -/
def Block.singleFrames (b : Block) : Nat := if b.tray.part = .a2t then 2097152 else 4194304
/-- Whether a berth has the AUTO policy: of an AUTO region, or of system memory (R193). -/
def Block.auto (b : Block) (n : Nat) : Bool :=
  match b.regionOf n with
  | some r => r.policy == .auto
  | none => true
/-- Moves a berth in a plan: a scratch copy of the block in which moves take no time. -/
def Block.planMove (p : Block) (n t : Nat) : Block :=
  let f := p.pickFrame (n / 2 ^ 24) t
  { p.updBerth n (fun x => { x with tier := t, frame := f }) with picks := p.picks + 1 }
/-- AUTO berths that can be promoted into free stack frames within Q_STACK, at most `k`, 512 frames kept back (R440). -/
def Block.promotable (d : Nat) : Nat → Block → List Nat → List Nat
  | _, _, [] => []
  | k, p, n :: t =>
    if k = 0 then []
    else if p.ownerRoom n 0 && decide (512 < p.freeFrames d 0) then n :: Block.promotable d (k - 1) (p.planMove n 0) t
    else Block.promotable d k p t
/-- Bulk frames that berths of a domain use (R440). -/
def Block.bulkUsed (b : Block) (d : Nat) : Nat :=
  (((b.berthsOf d).map (fun (e : Nat × Berth) => berthFrames e.2)).flatten.filter (fun (f : Nat × Nat) => f.1 == 1)).length

/-- The check of R440, and the start of the evacuation of a DDR5 channel. -/
def Block.takeOutStart (b : Block) (ch : Nat) : Except Sts Block :=
  let d := chanDomain ch
  if (b.channel ch).svc ≠ .inUse ∨ (b.channel (partner ch)).svc ≠ .inUse then .error .badState
  else if (b.domain d).tier ≠ .normal then .error .busy
  else
    let used := b.bulkUsed d; let cap := b.singleFrames - 64
    let cands := ((b.berthsOf d).filter (fun e => e.2.st == .steady && e.2.tier == 1 && b.auto e.1 && !b.moving e.1)).map Prod.fst
    let ms := Block.promotable d (used - cap) b cands
    if used - cap > ms.length ∨ b.freeFrames d 0 < 512 + ms.length then .error .noSpace
    else .ok ((b.updChannel ch (fun x => { x with svc := .evacuating })).queueMoves d (ms.map (fun n => (n, 0))))

/-! ### Frames that retire (R208, R209) -/

/-- A frame retires: at once where nothing is on it, else once its berth has been copied to a free frame. -/
def Block.retireFrame (b : Block) (d tier frame : Nat) : Block :=
  match (b.berthsOf d).find? (fun e => (berthFrames e.2).contains (tier, frame)) with
  | none =>
    let used := (b.domain d).streams.filter (fun (s : Stream) => tier == 0 && s.frames.contains frame)
    (used.foldl (fun (a : Block) (s : Stream) => a.updStream s.num (fun t => { t with frames := t.frames.filter (· != frame) }))
      (b.updDomain d (fun x => { x with zeroing := x.zeroing.filter (· != (tier, frame)) }))).retireNow d tier frame
  | some (n, x) =>
    let b1 := b.updDomain d (fun y => { y with retiring := y.retiring.filter (· != (tier, frame)) ++ [(tier, frame)] })
    match x.st with
    | .window =>
      let num := x.stream.getD 0
      if tier = 0 then
        (match b1.stream num with
         | some s => ((s.resident.filter (fun k => (s.berths k).contains n)).foldl (fun (a : Block) k => a.returnLayer num k) b1)
         | none => b1).returnBerth num n
      else if b.rawFree d 1 = 0 then b1
      else
        let f := b.pickFrame d 1
        ({ (b1.copyFrame d 1 x.own 1 f).setBerth n { x with own := f } with picks := b.picks + 1 }).retireNow d 1 frame
    | .failed => b1.retireNow d tier frame
    | _ => b1.queueMoves d [(n, tier)]

end Sys2Proof.Machine
end

