-- ==== Sys2Proof/Machine/Lights.lean ====
section
/-! DEFINITION. A lantern die in service: sites and spares, fresh dies, retired beams, guards, and what happens at its quiescent
point (00 R18; 02 R47 to R51; 15 R332; 18 R408; 19 R415, R423; 20 R435 to R437, R442, R443). -/

namespace Sys2Proof.Machine

/-- A lantern as a reporting unit. -/
def unitLantern (l : Nat) : Nat := unitNo 0x20 l

/-- Changes the store. -/
def Block.updStore (b : Block) (f : Store → Store) : Block := { b with store := f b.store }
/-- Changes the record of silent errors and service. -/
def Block.updSilent (b : Block) (f : Silent → Silent) : Block := { b with silent := f b.silent }
/-- A measurement register is extended (R450): index, and a number for what was measured. -/
def Block.measure (b : Block) (i v : Nat) : Block :=
  { b with security := { b.security with measured := b.security.measured ++ [(i, v)] } }
/-- A repair is recorded: both repair-map copies are rewritten under a new number, and measured (R332, R369, R450). The map in
use is the block's own record of sites, spares, masks, hosts and remaps. -/
def Block.noteRepair (b : Block) : Block :=
  (b.updStore (fun x => { x with
    mapSeq := x.mapSeq + 1
    mapA := if b.tray.sf0Failed then x.mapA else x.mapSeq + 1
    mapB := if b.tray.sf1Failed then x.mapB else x.mapSeq + 1 })).measure 10 (b.store.mapSeq + 1)

/-! ### Sites and spares (R18, R25, R435) -/

/-- The site behind a logical lantern, tile × 16 + site; as shipped, ascending with the spare site 8 left out (R25). -/
def Block.siteOf (b : Block) (l : Nat) : Nat := (b.lantern l).site.getD (lampTile l * 16 + l % 8)
/-- The usable spare site of a tile: the one that passed its last scan (R18, R435). -/
def Block.spareSite (b : Block) (t : Nat) : Option Nat := tget (some 8) b.silent.spares t
/-- With AutoPromote set, a lantern that is lost or out of service and whose tile has no usable spare is left, with SPARE_NONE
(R436). -/
def Block.needSpare (b : Block) (l : Nat) : Block :=
  if b.cfg 0x20000042 1 = 1 ∧ (b.spareSite (lampTile l)).isNone then b.raise (unitLantern l) .spareNone [l] else b

/-- The quiescent point of a lantern: no request runs on any of its hardware contexts (R51). -/
def Block.quiet (b : Block) (l : Nat) : Bool := [0, 1, 2, 3].all (fun h => (b.hw (hwNo l h)).phase == .free)

/-- Every line leaves a die cache, dirty ones written back (R248, orderly). -/
def Block.flushDie (b : Block) (a : Nat) : Block :=
  (b.lines.filter (fun (e : Nat × LineSt) => thas e.2.copies a)).foldl (fun (c : Block) (e : Nat × LineSt) => c.evictCopy a e.1) b

/-- The reporting units of the lantern domain: the lantern, its units of areas 10, 11 and 61, and its beams (R370). -/
def lanternUnits (l : Nat) : List Nat :=
  [unitLantern l, unitNo 0x10 (0x100 + l), unitNo 0x11 (0x100 + l), unitNo 0x61 (0x100 + l)] ++
    (List.range 16).map (fun m => unitNo 0x21 (beamNo l m))

/-- A lantern die starts afresh: empty lens, lane files, sets and chart; its bypass masks, hosts and queue slots
stay; its counters, its error bank and LOCAL start again (R66, R251, R370, R410, R435). -/
def Block.freshDie (b : Block) (l : Nat) : Block :=
  let b1 := b.updLantern l (fun x => { x with
    lens := [], lensPoison := [], stores := [], claimers := [], op := 0, opPending := none, relightWaits := false,
    promoteTo := none, loss := .alive, lossDetail := 0 })
  let b2 := (List.range 16).foldl (fun (c : Block) i => c.updBeam (beamNo l i) (fun y => { y with
    queue := [], run := none, halves := [], loaded := none, issues := 0, busyCycles := 0, stalls := [], zeroGated := 0 })) b1
  let b3 := (List.range 32).foldl (fun (c : Block) i => c.setAccSet (l * 32 + i) {}) b2
  let b4 := b3.updChart l (fun t => { t with tlb := [], ranges := [], walks := [], refs := [], resume := [] })
  (lanternUnits l).foldl (fun (c : Block) u => c.restartLocal u)
    { b4 with errors := { b4.errors with banks := tdel b4.errors.banks (unitLantern l) } }

/-- The bypass masks and hosts that differ from those of an unmarked die, by beam. -/
def Block.dieMarks (b : Block) (l : Nat) : List (Nat × Line × Option Nat) :=
  (List.range 16).filterMap (fun m =>
    let x := b.beam (beamNo l m)
    if x.mask = 0 ∧ x.host = none then none else some (m, x.mask, x.host))

/-- A logical lantern moves to another site of its tile: bypass masks and hosts belong to the die at a site (R18, R47). -/
def Block.reseat (b : Block) (l site : Nat) : Block :=
  let old := b.siteOf l; let marks := b.dieMarks l
  let mine := tget [] b.silent.siteMarks site
  let b1 := (b.updLantern l (fun x => { x with site := some site, out := false })).updSilent (fun x => { x with
    siteMarks := if marks = [] then tdel (tdel x.siteMarks site) old else tput (tdel x.siteMarks site) old marks })
  (List.range 16).foldl (fun (c : Block) m =>
    let v := ((mine.find? (fun (e : Nat × Line × Option Nat) => e.1 == m)).map Prod.snd).getD (0, none)
    let x := c.beam (beamNo l m)
    if x.mask = v.1 ∧ x.host = v.2 then c else c.setBeam (beamNo l m) { x with mask := v.1, host := v.2 }) b1

/-- A lantern takes its tile's spare site, its vectors loaded there; the old one is retired and the tile has no spare (R18, R97, R337,
R435; log entry 95). -/
def Block.takeSpare (b : Block) (l sp : Nat) : Block :=
  let t := lampTile l; let old := b.siteOf l
  let b1 := (b.reseat l (t * 16 + sp)).updSilent (fun x => { x with
    spares := tput x.spares t none, retired := addLast x.retired old })
  ((b1.updLantern l (fun x => { x with vectorsBad := false })).noteRepair).raise (unitLantern l) .sparePromoted [l, old, t * 16 + sp]

/-! ### Retired beams (R49, R50, R437) -/

/-- The host of a retired beam: the lowest-numbered beam neither retired nor hosting, a FULL one preferred (R437). -/
def Block.hostFor (b : Block) (l p : Nat) : Nat :=
  let hosts := (List.range 16).filterMap (fun m => (b.beam (beamNo l m)).host)
  let free := (List.range 16).filter (fun m => m != p && (b.beam (beamNo l m)).host.isNone && !hosts.contains m)
  ((free.find? (fun m => (b.beam (beamNo l m)).mask == 0)).or free.head?).getD p

/-- A beam is retired: a host is named, and one for each beam that it was hosting (R49, R437); two retired beams make the
lantern a candidate for promotion, a third puts it out of service, and its groups go on without it (R50, R154). -/
def Block.retireBeam (b : Block) (l p : Nat) : Block :=
  if (b.beam (beamNo l p)).host.isSome then b
  else
    let b1 := b.updBeam (beamNo l p) (fun x => { x with host := some (b.hostFor l p), loaded := none })
    let hosted := (List.range 16).filter (fun m => m != p && (b1.beam (beamNo l m)).host == some p)
    let b2 := hosted.foldl (fun (c : Block) m => c.updBeam (beamNo l m) (fun x => { x with host := some (c.hostFor l m), loaded := none })) b1
    if b2.retiredBeams l = 2 then b2.raise (unitLantern l) .spareCandidate [l]
    else if b2.retiredBeams l = 3 ∧ !(b.lantern l).out then b2.dropMember l
    else b2

/-! ### Guards (R442, R443) -/

/-- The predicted slowdown of the die at a site in percent: coefficients in 0.001 % per 1,000 h, hours in windows of 4 µs
(R443). -/
def Block.predictedAt (b : Block) (site : Nat) : Rat :=
  ((List.range 4).map (fun k =>
    ((b.power.model.getD k 0 : Nat) : Rat) / 1000 * ((tget 0 b.power.hours (site * 4 + k) : Nat) : Rat) / (900000000 * 1000))).sum
/-- The predicted slowdown of a lantern in percent (R443). -/
def Block.predicted (b : Block) (l : Nat) : Rat := b.predictedAt (b.siteOf l)
/-- 5 × ceil(2 × Δ), not yet limited to 40 mV; Δ is the larger of the measured and the predicted slowdown in percent (R442). -/
def Block.plannedGuard (b : Block) (site : Nat) : Nat :=
  5 * (2 * max (((tget 0 b.power.slowdown site : Nat) : Rat) / 10) (b.predictedAt site)).ceil.toNat

/-- Puts the guard that waits for a lantern in force: boost is withdrawn for a change (R442, R446). -/
def Block.applyGuard (b : Block) (l : Nat) : Block :=
  let s := b.siteOf l
  match tfind b.power.guardNext s with
  | none => b
  | some g =>
    let c := { b with power := { b.power with guard := tput b.power.guard s g, guardNext := tdel b.power.guardNext s } }
    if tget 25 b.power.guard s < g ∧ (b.lantern l).boost then
      (({ c with power := { c.power with sinceBoost := tput c.power.sinceBoost l 0 } }).updLantern l (fun x => { x with boost := false })).reOp l
    else c

/-- A guard for the die at a site: it waits for the quiescent point of the lantern there; above 40 mV OP6, OP7 and boost are
withdrawn (R442). -/
def Block.planGuard (b : Block) (l site g : Nat) (past : Bool) : Block :=
  let c := { b with power := { b.power with guardNext := tput b.power.guardNext site g } }
  let d := if past ∧ !b.power.noBoost.contains site then
      (({ c with power := { c.power with noBoost := addLast c.power.noBoost site } }).updLantern l (fun x =>
        if b.siteOf l = site then { x with boost := false } else x)).raise (unitLantern l) .ageingLimit [l]
    else c
  if b.siteOf l ≠ site then
    { d with power := { d.power with guard := tput d.power.guard site g, guardNext := tdel d.power.guardNext site } }
  else if d.quiet l then d.applyGuard l else d

/-- A re-plan of the die at a site, named by a lantern: with the ageing-margin mode on, the guard follows Δ; a guard that the mode
has applied is never lowered (R442). -/
def Block.replanSite (b : Block) (l site : Nat) : Block :=
  if b.cfg 0x10000050 0 ≠ 1 then b
  else
    let raw := b.plannedGuard site; let g := min 40 raw
    let was := match tfind b.power.guardNext site with | some v => v | none => tget 0 b.power.guard site
    b.planGuard l site (max g was) (decide (40 < raw))
/-- A re-plan of a lantern (R442). -/
def Block.replan (b : Block) (l : Nat) : Block := b.replanSite l (b.siteOf l)

/-! ### The quiescent point (R51) -/

/-- The orderly swap of a lantern onto a spare site: its dirty lines are written back and the die there starts afresh, its guard
loaded (R251, R415, R435). -/
def Block.swapTo (b : Block) (l : Nat) (seat : Block → Block) : Block :=
  (seat (((b.drainStores l).flushDie l).freshDie l)).replan l

/-- With AutoPromote, a lantern that has become CANDIDATE or OUT_OF_SERVICE takes its tile's spare, or SPARE_NONE is raised
(R436); at its quiescent point. -/
def Block.autoPromote (b : Block) (l : Nat) : Block :=
  if b.cfg 0x20000042 1 = 1 ∧ (b.outOfService l ∨ b.retiredBeams l = 2) then
    match b.spareSite (lampTile l) with
    | some sp => b.swapTo l (fun c => c.takeSpare l sp)
    | none => b.raise (unitLantern l) .spareNone [l]
  else b

/-- Beams that a persistent checksum failure retires (R423). -/
def Block.retirePending (b : Block) (l : Nat) : Block :=
  let mine := b.silent.retireBeams.filter (fun n => n / 16 == l)
  if mine = [] then b
  else
    let c := b.updSilent (fun x => { x with retireBeams := x.retireBeams.filter (fun n => n / 16 != l) })
    ((mine.foldl (fun (d : Block) n => d.retireBeam l (n % 16)) c).noteRepair).autoPromote l

/-- AgeingCommand. -/
def objAgeing : Nat := 0x10000051
/-- MEASURE reads the ring oscillator of a lantern at its quiescent point, and its guard is planned again (R442). -/
def Block.measured (b : Block) (l slowdown n : Nat) : Block :=
  let c := b.updLantern l (fun y => { y with measureWaits := none })
  (({ c with power := { c.power with slowdown := tput c.power.slowdown (c.siteOf l) slowdown } }).replan l).finishSts objAgeing n .ok

/-- What waits for the quiescent point of a lantern: a measurement, retired beams, a new guard, a promotion or an orderly relight; the command
that asked completes (R51, R408, R409, R423, R435, R442). -/
def Block.settle (b : Block) (l : Nat) : Block :=
  if !b.quiet l then b
  else
    let b0 := match (b.lantern l).measureWaits with
      | some m => b.measured l m.1 m.2
      | none => b
    let b1 := (b0.retirePending l).applyGuard l
    let x := b1.lantern l
    let done (c : Block) : Block :=
      match x.cmd with
      | some n => (c.updLantern l (fun y => { y with cmd := none })).finishSts n.2 n.1 .ok
      | none => c
    match x.promoteTo with
    | some sp => done (b1.swapTo l (fun c => c.takeSpare l sp))
    | none => if x.relightWaits then done ((((b1.drainStores l).flushDie l).freshDie l).updLantern l (fun y => { y with vectorsBad := false })) else b1

end Sys2Proof.Machine
end

