-- ==== Sys2Proof/Machine/ContextOps.lean ====
section
/-! DEFINITION. What contexts, queues, takes and joins share (04 R101 to R112; 09 R225, R226; 18 R398, R407). -/

namespace Sys2Proof.Machine

/-- A context as a reporting unit. -/
def unitContext (c : Nat) : Nat := unitNo 0x02 c

/-! ### Joining the completion record (R110) -/

/-- What a join needs to know of a request. -/
structure JoinInfo where
  queue : Nat
  record : Nat
  ctx : Nat
  mask : W64
  pa : Nat
  msiEn : Bool
  msiAddr : Nat
  msiId : Nat
  tag : W64
deriving DecidableEq, Repr

/-- Number of the request. -/
def JoinInfo.req (j : JoinInfo) : Nat := j.queue * 2 ^ 32 + j.record
/-- The request of a hardware context. -/
def Hw.joinInfo (w : Hw) : JoinInfo :=
  { queue := w.queue, record := w.record, ctx := w.ctx, mask := w.mask, pa := w.compPa, msiEn := w.msiEn, msiAddr := w.msiAddr,
    msiId := w.msiId, tag := w.tag }

/-- How a join at the home ends. -/
inductive JoinRes where
  /-- performed -/
  | ok (b : Block)
  /-- the line is BUSY or its channel held -/
  | wait
  /-- the record is poisoned: nothing is written -/
  | poison (b : Block)
  /-- the record cannot be reached -/
  | lost (b : Block)
deriving DecidableEq, Repr

/-- One far atomic of a join. -/
def JoinRes.atom (r : JoinRes) (pa off : Nat) (w64 : Bool) (op : AtomOp) (x : Nat) : JoinRes :=
  match r with
  | .ok b =>
    match b.dom (pa + off) with
    | none => .lost b
    | some a =>
      match b.atomic (a / 64) (a % 64) w64 op (BitVec.ofNat 64 x) 0 with
      | .ok (c, _, true) => .poison c
      | .ok (c, _, false) => .ok c
      | .error (.wait, _) => .wait
      | .error (_, c) => .lost c
  | e => e

/-- The word of OUTCOME for a status (R110). -/
def outcomeWord (l st d : Nat) : Nat := st * 2 ^ 24 + (63 - l) * 2 ^ 16 + d

/-- The closing lantern writes LEVEL, TAG and DONE, counts the ending, and sends the MSI (R110, R115). -/
def Block.closeRecord (b : Block) (j : JoinInfo) : Block :=
  let st := (b.peek (j.pa + 3) 1).getD 0
  let b1 := (b.poke (j.pa + 24) 8 j.tag.toNat).1
  let b2 := (b1.poke (j.pa + 8) 1 0x11).1
  let b3 := b2.updCtx j.ctx (fun x => { x with ended := tinc x.ended st 1 })
  if j.msiEn then b3.msi j.msiAddr j.msiId .msiUndelivered [j.ctx] else b3

/-- A lantern joins: its census counts, the maximum of OUTCOME, JOINED; the last one closes the record (R110). `alone`:
the record is closed at once (R106, R108). -/
def Block.joinRecord (b : Block) (l : Nat) (j : JoinInfo) (st d : Nat) (census : List Nat) (alone : Bool) : JoinRes :=
  let r1 := (census.zipIdx).foldl (fun (r : JoinRes) (c : Nat × Nat) => r.atom j.pa (32 + 8 * c.2) true .add c.1) (.ok b)
  let r2 := if st = 0 then r1 else r1.atom j.pa 0 false .maxu (outcomeWord l st d)
  match r2.atom j.pa 4 false .add 1 with
  | .ok c =>
    if alone ∨ (c.peek (j.pa + 4) 4).getD 0 = popBelow j.mask 64 then .ok (c.closeRecord j) else .ok c
  | e => e

/-- A lantern has joined or left a request: the groups take note; once every named lantern has, the request is forgotten,
and a record that a join could not reach is named (R110, R151, R226). -/
def Block.leave (b : Block) (l : Nat) (j : JoinInfo) (st : Nat) (unreachable : Bool) : Block :=
  let b1 := b.updRequest j.req (fun x => { x with
    left := x.left ||| BitVec.ofNat 64 (2 ^ l), mask := j.mask, ctx := j.ctx, unreachable := x.unreachable || unreachable })
  let b2 := b1.groupsJoin l j.req st
  let x := b2.request j.req
  if j.mask &&& ~~~x.left = 0 then
    let b3 : Block := { b2 with requests := tdel b2.requests j.req }
    if x.unreachable then b3.raise (unitTile (lampTile l)) .completionUnreachable [j.queue, j.record] else b3
  else b2

/-- Joins, or leaves where the record cannot be reached; none while the line cannot be served (R110, R226, R411). -/
def Block.joinLeave (b : Block) (l : Nat) (j : JoinInfo) (st d : Nat) (census : List Nat) : Option Block :=
  match b.joinRecord l j st d census false with
  | .ok c => some (c.leave l j st false)
  | .wait => none
  | .poison c => some ((c.extinguish j.ctx 0 l j.pa).leave l j st true)
  | .lost c => some (c.leave l j st true)

/-! ### Releasing a hardware context (R102, R130) -/

/-- Frees a hardware context with its granules, sets, halves and watches. -/
def Block.freeHw (b : Block) (l h : Nat) : Block :=
  let k := hwNo l h; let w := b.hw k
  let b1 := { b with hws := tdel b.hws k }
  let b2 := w.sets.foldl (fun c n => c.setAccSet (l * 32 + n) {}) b1
  let b3 := (List.range 32).foldl (fun c n =>
    if (c.halfOf l n).owner = some h then c.updHalf l n (fun y => { y with releasing := true }) else c) b2
  let b4 := (b3.freeHalves l).updLantern l (fun y => { y with claimers := y.claimers.filter (· != h) })
  let b5 := match w.watch with | some ln => b4.unwatchLamp l ln | none => b4
  let b6 := match b5.lineAt w.compPa with | some ln => b5.unwatchLamp l ln | none => b5
  ((b6.dropMarks k).reOp l).settle l

/-! ### Taking records (R106 to R109, R407) -/

/-- Moves a slot past its head record. -/
def Block.pass (b : Block) (l slot : Nat) : Block :=
  b.updLantern l (fun y => { y with
    lastSlot := slot
    slots := y.slots.map (fun (e : Nat × Slot) =>
      if e.1 = slot then (e.1, { e.2 with pos := (e.2.pos + 1) % 2 ^ 32, starved := false, hold := none }) else e) })

/-- The slot of a lantern whose head is a record of a queue. -/
def Lantern.slotAt (x : Lantern) (queue record : Nat) : Option Nat :=
  (x.slots.find? (fun (e : Nat × Slot) => e.2.queue == queue && e.2.pos == record)).map Prod.fst

/-- Granules of the program-visible lens that no hardware context holds (R102). -/
def Block.freeGranules (b : Block) (l : Nat) : List Nat :=
  let held := ([0, 1, 2, 3].map (fun h => (b.hw (hwNo l h)).granules)).flatten
  (List.range 112).filter (fun g => !held.contains g)
/-- Accumulator sets that no hardware context holds. -/
def Block.freeSets (b : Block) (l : Nat) : List Nat :=
  let held := ([0, 1, 2, 3].map (fun h => (b.hw (hwNo l h)).sets)).flatten
  (List.range 32).filter (fun g => !held.contains g)
/-- A free hardware context of a lantern. -/
def Block.freeCtx (b : Block) (l : Nat) : Option Nat := [0, 1, 2, 3].find? (fun h => (b.hw (hwNo l h)).phase == .free)

/-- Zeroes the granules given to a request: their bytes and their poison (R102, R397). -/
def Block.zeroGranules (b : Block) (l : Nat) (gs : List Nat) : Block :=
  b.updLantern l (fun y => { y with
    lens := y.lens.filter (fun (c : Host.Cell) => !gs.contains (c.1 / 2 ^ 18))
    lensPoison := y.lensPoison.filter (fun n => !gs.contains (n / 2 ^ 12)) })

/-- Checks 2 to 8 of R108 on a record of a queue: STATUS and DETAIL of the first that fails. -/
def Block.recordErr (b : Block) (q : Queue) (r : BitVec 1024) : Chk :=
  let x := b.ctx q.ctx; let mask : W64 := BitVec.ofNat 64 (fld r 192 64)
  firstErr
    [ if fld r 0 4 ≠ 1 then some (0x3C, 0) else none,
      if fld r 4 4 ≠ 0 ∨ fld r 17 15 ≠ 0 ∨ fld r 48 16 ≠ 0 ∨ fld r 395 21 ≠ 0 ∨ fld r 480 32 ≠ 0 ∨ fld r 576 448 ≠ 0 then
        some (0x38, 0) else none,
      if x.st ≠ .active then some (8, 0) else none,
      if fld r 8 8 ≠ q.ctx then some (0x40, 1) else none,
      if mask = 0 ∨ mask &&& ~~~q.watchers ≠ 0 ∨ mask &&& ~~~x.lanterns ≠ 0 then some (0x40, 2) else none,
      if fld r 64 64 % 64 ≠ 0 ∨ fld r 128 64 % 64 ≠ 0 then some (0x40, 3) else none,
      if bit r 16 ∧ ¬ (imsicBase ≤ fld r 320 64 ∧ fld r 320 64 < imsicEnd ∧ fld r 384 11 ≠ 0) then some (0x40, 4) else none ]

/-- Checks 9 and 10 of R108 on a program header. -/
def headerErr (h : Line) : Chk :=
  firstErr
    [ if fld h 0 4 ≠ 1 then some (0x3C, 0) else none,
      if fld h 4 4 ≠ 0 ∨ fld h 22 10 ≠ 0 ∨ fld h 64 448 ≠ 0 then some (0x38, 0) else none,
      if fld h 8 8 < 1 ∨ 112 < fld h 8 8 then some (0x44, 1) else none,
      if 32 < fld h 16 6 then some (0x44, 2) else none,
      if fld h 32 32 % 8 ≠ 0 ∨ fld h 32 32 < 8 ∨ 2 ^ 24 < fld h 32 32 then some (0x44, 3) else none ]

/-- A record as the take reads it. -/
def joinOf (q : Nat) (x : Queue) (r : BitVec 1024) (record pa : Nat) : JoinInfo :=
  { queue := q, record := record, ctx := x.ctx, mask := BitVec.ofNat 64 (fld r 192 64), pa := pa, msiEn := bit r 16,
    msiAddr := fld r 320 64, msiId := fld r 384 11, tag := BitVec.ofNat 64 (fld r 512 64) }

/-- The hardware context of a request before its program starts. -/
def hwOf (j : JoinInfo) (r : BitVec 1024) (tries : Nat) : Hw :=
  { ctx := j.ctx, queue := j.queue, record := j.record, mask := j.mask, entry := fld r 64 64, comp := fld r 256 64, compPa := j.pa,
    msiEn := j.msiEn, msiAddr := j.msiAddr, msiId := j.msiId, tag := j.tag, seed := BitVec.ofNat 64 (fld r 416 64),
    late := fld r 32 16, tries := tries }

/-- Where a take stands: the lantern, its slot, the record, and the hardware context that holds it after a fault. -/
structure TakeAt where
  l : Nat
  slot : Nat
  queue : Nat
  record : Nat
  held : Option Nat
deriving DecidableEq, Repr

/-- Whether a lantern is the lowest-numbered watcher of a queue (R106). -/
def Queue.lowest (q : Queue) (l : Nat) : Bool := (setBits q.watchers 64).head? == some l

/-- Gives up the hardware context that held a take. -/
def Block.endHold (b : Block) (t : TakeAt) : Block :=
  match t.held with | some h => { b with hws := tdel b.hws (hwNo t.l h) } | none => b

/-- Passes over the head. -/
def Block.passTake (b : Block) (t : TakeAt) : Block := (b.endHold t).pass t.l t.slot

/-- Check 1 fails: the lowest watcher drops the record with its event, the others pass over it (R106, R108). -/
def Block.dropRecord (b : Block) (t : TakeAt) : Block :=
  let q := b.queue t.queue
  let c := if q.lowest t.l then
      (b.updCtx q.ctx (fun x => { x with unreachable := x.unreachable + 1 })).raise (unitLantern t.l) .completionUnreachable
        [t.queue, t.record]
    else b
  c.passTake t

/-- Holds a take on a translation fault: a hardware context keeps its place; none when all are in use. `what` is 1 for the
completion record, 3 for the header or arguments. -/
def Block.holdTake (b : Block) (t : TakeAt) (j : JoinInfo) (r : BitVec 1024) (what access cause va : Nat)
    (gone : Nat → Block → Block) : Option Block :=
  match t.held.or (b.freeCtx t.l) with
  | none => none
  | some h =>
    let k := hwNo t.l h
    let tries := (b.hw k).tries
    let c := b.setHw k { hwOf j r tries with phase := .held what }
    match c.holdFault t.l h what 0xFFFFFFFF [(cause, va, access)] with
    | (d, none) => some d
    | (d, some n) => some (gone n (d.endHold { t with held := some h }))

/-- Holds the head of a slot on a fault of its completion record without a hardware context: the record is the lowest watcher's
to handle alone (R106, R108). -/
def Block.holdAlone (b : Block) (t : TakeAt) (cause va : Nat) : Block :=
  let c := b.endHold t
  match tfind (c.lantern t.l).slots t.slot with
  | none => c
  | some x =>
    match c.holdSlot t.l t.slot (c.queue t.queue).ctx t.record x cause va with
    | (d, none) => d
    | (d, some _) => d.dropRecord { t with held := none }

/-- A join at the take without running the program; the slot goes on (R108, R112, R407). -/
def Block.takeJoin (b : Block) (t : TakeAt) (j : JoinInfo) (st d : Nat) : Option Block :=
  (b.joinLeave t.l j st d [0, 0, 0, 0]).map (fun c => c.passTake t)

/-- Starts the program of a request; the lantern leaves OP0 (R102, R109, R112, R385). Where its watch of the completion line is
refused it polls the line with WATCH_POLL (DESIGN CHOICE, log entry 83). -/
def Block.startProgram (b : Block) (t : TakeAt) (j : JoinInfo) (r : BitVec 1024) (hd : Line) (h : Nat) : Block :=
  let k := hwNo t.l h
  let gs := ((b.endHold t).freeGranules t.l).take (fld hd 8 8)
  let ss := ((b.endHold t).freeSets t.l).take (fld hd 16 6)
  let w0 := hwOf j r 0
  let w := ((((w0.setReg 1 (BitVec.ofNat 64 (fld r 128 64))).setReg 2 (BitVec.ofNat 64 t.l)).setReg 3
    (BitVec.ofNat 64 (popBelow j.mask t.l))).setReg 4 (BitVec.ofNat 64 (popBelow j.mask 64))).setReg 5 (BitVec.ofNat 64 j.record)
  let b1 := ((b.passTake t).zeroGranules t.l gs).setHw k
    { w with phase := .running, codeBytes := fld hd 32 32, granules := gs, sets := ss }
  let b2 := ss.foldl (fun c n => c.setAccSet (t.l * 32 + n) { owner := some h }) b1
  let b3 := b2.updRequest j.req (fun x => { x with mask := j.mask, ctx := j.ctx, compPa := j.pa })
  let b4 := match b3.lineAt j.pa with
    | some ln => (b3.watch t.l ln).getD (b3.watchRefused ln)
    | none => b3
  b4.reOp t.l

/-- Whether takes that name a lantern are held now: it is FENCING, drains for a scan or relight, or its firmware switches
(R407, R415, R433). -/
def Block.takesHeld (b : Block) (l : Nat) : Bool :=
  (b.lantern l).loss == .fencing || (b.lantern l).relightWaits || (b.lantern l).promoteTo.isSome ||
  (match b.silent.watch with | .drain n _ => n == l | _ => false) ||
  (b.fw 3).draining l

/-- Header, arguments and resources of a take, once its record has passed checks 1 to 8 (R108); the named lanterns' states are
tested after checks 9 and 10 (R407). -/
def Block.takeHeader (b : Block) (t : TakeAt) (j : JoinInfo) (r : BitVec 1024) : Option Block :=
  let entry := fld r 64 64; let args := fld r 128 64
  let failed (n : Nat) (c : Block) : Block := ((c.joinLeave t.l j 0x18 n [0, 0, 0, 0]).map (fun d => d.pass t.l t.slot)).getD b
  match b.translate t.l j.ctx entry 9 false with
  | (_, .wait) => none
  | (b1, .fault cause _) => b1.holdTake t j r 3 9 cause entry failed
  | (b1, .ok pa _) =>
    match if args = 0 then (b1, Tr.ok 0 { ctx := 0, va := 0, len := 0, pa := 0, r := true, w := true, x := true })
          else b1.translate t.l j.ctx args 9 false with
    | (_, .wait) => none
    | (b2, .fault cause _) => b2.holdTake t j r 3 9 cause args failed
    | (b2, .ok apa _) =>
      if args ≠ 0 ∧ (b2.dom apa).isNone then (b2.raise (unitLantern t.l) .unmappedAccess [j.ctx, apa]).takeJoin t j 0x18 5 else
      match b2.lampRead t.l pa 64 with
      | .error .wait => none
      | .error .poison => (b2.takeJoin t j 0x60 1).map (fun c => c.extinguish j.ctx 0 t.l pa)
      | .error .failed => b2.takeJoin t j 0x30 1
      | .error .unmapped => (b2.raise (unitLantern t.l) .unmappedAccess [j.ctx, pa]).takeJoin t j 0x18 5
      | .ok v =>
        let hd : Line := BitVec.ofNat 512 v
        match headerErr hd with
        | some e => b2.takeJoin t j e.1 e.2
        | none =>
          if (setBits j.mask 64).any b2.takesHeld then none
          else if (setBits j.mask 64).any b2.gone then b2.takeJoin t j 4 0 else
          let c := (b2.homeRead pa).endHold t
          match t.held.or (c.freeCtx t.l) with
          | none => none
          | some h =>
            if (c.freeGranules t.l).length < fld hd 8 8 ∨ (c.freeSets t.l).length < fld hd 16 6 then
              (if t.held.isSome then some c else none)
            else
              match c.lampRead t.l j.pa 4 with
              | .error .wait => none
              | .error _ => b2.takeJoin t j 4 0
              | .ok o => if o / 2 ^ 24 ≠ 0 then b2.takeJoin t j 4 0 else some ((b2.homeRead pa).startProgram t j r hd h)

/-- Handles the head record of a slot: none when it cannot be taken now (R106 to R108, R398, R407). A record that the lowest
watcher handles alone takes no hardware context (R106). -/
def Block.takeHead (b : Block) (t : TakeAt) : Option Block :=
  let q := b.queue t.queue; let x := b.ctx q.ctx
  let at_ := q.ring + 128 * (t.record % 2 ^ q.log2)
  let low := q.lowest t.l
  match b.lampWords t.l 64 at_ 2 with
  | .error .wait => none
  | .error .poison =>
    if x.st = .active then some ((b.endHold t).extinguish q.ctx 0 t.l at_) else none
  | .error _ =>
    some ((if low then b.raise (unitLantern t.l) .queueRecordUnreadable [t.queue, t.record] else b).passTake t)
  | .ok ws =>
    let r : BitVec 1024 := BitVec.ofNat 1024 (ws.getD 0 0 + ws.getD 1 0 * 2 ^ 512)
    let mask : W64 := BitVec.ofNat 64 (fld r 192 64)
    let named := mask.getLsbD t.l
    if x.st = .extinguished then
      let req := t.queue * 2 ^ 32 + t.record
      if thas b.requests req ∧ named ∧ !(b.request req).left.getLsbD t.l then
        let j := joinOf t.queue q r t.record (b.request req).compPa
        if (b.peek (j.pa + 4) 4).getD 0 ≠ 0 then b.takeJoin t j 4 0 else none
      else none
    else
      let err := b.recordErr q r
      let b0 := (b.homeRead at_).homeRead (at_ + 64)
      if !(low || (named && err.isNone)) then some (b.passTake t)
      else if fld r 256 64 % 64 ≠ 0 then some (b.dropRecord t)
      else
        match b0.translate t.l q.ctx (fld r 256 64) 4 false with
        | (_, .wait) => none
        | (b1, .fault cause _) =>
          if err.isSome || !named then some (b1.holdAlone t cause (fld r 256 64)) else
          b1.holdTake t (joinOf t.queue q r t.record (2 ^ 52)) r 1 4 cause (fld r 256 64) (fun _ c => c.dropRecord { t with held := none })
        | (b1, .ok pa _) =>
          let j := joinOf t.queue q r t.record pa
          if (b1.dom pa).isNone then some (b1.dropRecord t)
          else
            match err with
            | some e =>
              match b1.joinRecord t.l j e.1 e.2 [] true with
              | .ok c => some (c.passTake t)
              | .wait => none
              | .poison c => some (((c.extinguish j.ctx 0 t.l pa).raise (unitLantern t.l) .completionUnreachable [t.queue, t.record]).passTake t)
              | .lost c => some ((c.raise (unitLantern t.l) .completionUnreachable [t.queue, t.record]).passTake t)
            | none =>
              if !named then some (b1.passTake t)
              else if (b1.lantern t.l).loss = .fencing then none
              else if b1.gone t.l then b1.takeJoin t j 0x70 3
              else b1.takeHeader t j r

/-- Whether the head of a slot has waited 1 ms and keeps the lantern from taking others: not one of an EXTINGUISHED context, whose
records stay untaken (R106, R398). -/
def Block.starves (b : Block) (s : Slot) : Bool :=
  s.starved && s.pos != s.tail && (b.ctx (b.queue s.queue).ctx).st != .extinguished

/-- The slots that a lantern may take from, in order: a starved head alone, else the highest priority, round-robin after
the last slot (R106). -/
def Block.takeOrder (b : Block) (l : Nat) : List Nat :=
  let y := b.lantern l
  let busy (s : Slot) : Bool := [0, 1, 2, 3].any (fun h =>
    let w := b.hw (hwNo l h)
    w.phase != .free && w.queue == s.queue && w.record == s.pos)
  let held (s : Slot) : Bool := match s.hold with | some h => h.slots != [] || (b.ctx (b.queue s.queue).ctx).heldRecs != [] | none => false
  let live := y.slots.filter (fun (e : Nat × Slot) => e.2.pos != e.2.tail && !busy e.2 && !held e.2)
  let rr := (List.range 16).map (fun i => (y.lastSlot + 1 + i) % 16)
  match y.slots.filter (fun (e : Nat × Slot) => b.starves e.2) with
  | s :: _ => if busy s.2 || held s.2 then [] else [s.1]
  | [] => ([3, 2, 1, 0].map (fun p => rr.filter (fun i =>
      live.any (fun (e : Nat × Slot) => e.1 == i && (b.ctx (b.queue e.2.queue).ctx).priority == p)))).flatten

/-! ### Programs of bearing checks (19 R420) -/

/-- The hardware context that runs the program of a check. -/
def Block.checkHw (b : Block) (id : Nat) : Option Nat :=
  (b.hws.find? (fun (e : Nat × Hw) => e.2.check == some id && e.2.phase != .free)).map Prod.fst

/-- A check is dropped and counted: its tile leaves the scoreboard, a program of it stops (R420). -/
def Block.dropCheck (b : Block) (id : Nat) : Block :=
  match b.checks.find? (fun (x : Check) => x.id == id) with
  | none => b
  | some x =>
    let c : Block := { b with checks := b.checks.filter (fun (y : Check) => y.id != id),
                              silent := { b.silent with dropped := b.silent.dropped + 1 } }
    let d := if x.stage = 0 then c.boardDel (hwNo x.lantern x.hw) id else c
    match d.checkHw id with
    | some k => d.endReq k 8 1
    | none => d

/-- Lanterns of a context's LANTERN_SET after `from_` in ascending order with wrap. -/
def Block.lanternsAfter (b : Block) (c from_ : Nat) : List Nat :=
  ((List.range 63).map (fun i => (from_ + 1 + i) % 64)).filter (fun l => (b.ctx c).lanterns.getLsbD l)

/-- The next lantern that can run a recipe: alive, in service and on watch, other than those named; on a tile other than the
origin's where one exists (R420, R428). -/
def Block.chooseChecker (b : Block) (x : Check) (from_ : Nat) (but : List Nat) : Option Nat :=
  let off (l : Nat) : Bool := match b.silent.watch with | .drain n _ => n == l | _ => false
  let ls := (b.lanternsAfter x.ctx from_).filter (fun l =>
    (b.lantern l).loss == .alive && !b.outOfService l && !off l && !but.contains l)
  (ls.find? (fun l => lampTile l != lampTile x.lantern)).or ls.head?

/-- A verdict on a check: counted, and the check is over (R421, R429). -/
def Block.verdict (b : Block) (id i : Nat) : Block :=
  { b with checks := b.checks.filter (fun (y : Check) => y.id != id),
           silent := { b.silent with verdicts := tinc b.silent.verdicts i 1 } }

/-- UNRESOLVED: no voter exists; both lanterns move to the head of the off-watch order (R421). -/
def Block.unresolved (b : Block) (x : Check) : Block :=
  let k := x.checker.getD x.lantern
  ((((b.verdict x.id 3).raise (unitLantern x.lantern) .checkUnresolved [x.lantern, k]).headOfWatch x.lantern)).headOfWatch k

/-- The checker of a check is chosen, or its voter; with no checker the check is dropped, with no voter it is UNRESOLVED (R420,
R421). -/
def Block.assignCheck (b : Block) (x : Check) : Block :=
  let put (y : Check) : Block := { b with checks := b.checks.map (fun (z : Check) => if z.id = x.id then y else z) }
  if x.stage = 1 then
    match b.chooseChecker x x.lantern [x.lantern] with
    | some l => put { x with checker := some l }
    | none => b.dropCheck x.id
  else
    match b.chooseChecker x (x.checker.getD x.lantern) [x.lantern, x.checker.getD x.lantern] with
    | some l => put { x with voter := some l }
    | none => b.unresolved x

/-- The lantern whose turn it is on a check. -/
def Check.turn (x : Check) : Option Nat := if x.stage = 1 then x.checker else if x.stage = 2 then x.voter else none

/-- A recipe starts on a lantern as a record of its context, named by that lantern alone, without a completion record; `held`
is the hardware context that held it on a translation fault (R109, R420). -/
def Block.startCheck (b : Block) (l : Nat) (x : Check) (held : Option Nat) : Option Block :=
  let w0 : Hw := { ctx := x.ctx, queue := 1024, record := x.id % 2 ^ 32, mask := BitVec.ofNat 64 (2 ^ l), entry := x.entry,
                   compPa := 2 ^ 52, check := some x.id }
  let hold (c : Block) (cause va : Nat) : Option Block :=
    match held.or (c.freeCtx l) with
    | none => none
    | some h =>
      match (c.setHw (hwNo l h) { w0 with phase := .held 3, tries := (c.hw (hwNo l h)).tries }).holdFault l h 3 0xFFFFFFFF [(cause, va, 9)] with
      | (d, none) => some d
      | (d, some _) => some ({ d with hws := tdel d.hws (hwNo l h) }.dropCheck x.id)
  let b0 : Block := match held with | some h => { b with hws := tdel b.hws (hwNo l h) } | none => b
  match b.translate l x.ctx x.entry 9 false with
  | (_, .wait) => none
  | (b1, .fault cause _) => hold b1 cause x.entry
  | (b1, .ok pa _) =>
    match if x.args = 0 then (b1, Tr.ok 0 { ctx := 0, va := 0, len := 0, pa := 0, r := true, w := true, x := true })
          else b1.translate l x.ctx x.args 9 false with
    | (_, .wait) => none
    | (b2, .fault cause _) => hold b2 cause x.args
    | (b2, .ok _ _) =>
      match b2.lampRead l pa 64 with
      | .error .wait => none
      | .error _ => some (b0.dropCheck x.id)
      | .ok v =>
        let hd : Line := BitVec.ofNat 512 v
        if x.entry % 64 ≠ 0 ∨ x.args % 64 ≠ 0 ∨ (headerErr hd).isSome then some (b0.dropCheck x.id)
        else
          let c : Block := match held with | some h => { b2 with hws := tdel b2.hws (hwNo l h) } | none => b2
          match held.or (c.freeCtx l) with
          | none => none
          | some h =>
            let gs := (c.freeGranules l).take (fld hd 8 8); let ss := (c.freeSets l).take (fld hd 16 6)
            if gs.length < fld hd 8 8 ∨ ss.length < fld hd 16 6 then (if held.isSome then some c else none)
            else
              let w := ((w0.setReg 1 (BitVec.ofNat 64 x.args)).setReg 2 (BitVec.ofNat 64 l)).setReg 4 1
              let d := (c.zeroGranules l gs).setHw (hwNo l h)
                { w with phase := .running, codeBytes := fld hd 32 32, granules := gs, sets := ss }
              some ((ss.foldl (fun (a : Block) n => a.setAccSet (l * 32 + n) { owner := some h }) d).reOp l)

/-- A lantern takes a recipe that waits for it, when no head of its queues can be handled (PRIORITY 0; R106, R420). -/
def Block.takeCheck (b : Block) (l : Nat) : Block :=
  let y := b.lantern l
  if y.loss ≠ .alive ∨ b.takesHeld l ∨ y.slots.any (fun (e : Nat × Slot) => b.starves e.2) then b
  else
    match b.checks.find? (fun (x : Check) => x.turn == some l && (b.checkHw x.id).isNone) with
    | none => b
    | some x => if (b.ctx x.ctx).st = .active then (b.startCheck l x none).getD b else b.dropCheck x.id

/-- Takes the first head of a list of slots that can be handled. -/
def Block.takeFirst (b : Block) (l : Nat) : List Nat → Block
  | [] => b.takeCheck l
  | i :: t =>
    match tfind (b.lantern l).slots i with
    | none => b.takeFirst l t
    | some s =>
      match b.takeHead { l := l, slot := i, queue := s.queue, record := s.pos, held := none } with
      | some c => c
      | none => b.takeFirst l t

end Sys2Proof.Machine
end

