-- ==== Sys2Proof/Machine/Contexts.lean ====
section
/-! DEFINITION. Commands and events of contexts, queues, requests and withdrawals (04 R98 to R112; 09 R222 to R229). -/

namespace Sys2Proof.Machine

/-- Objects of ContextCommand and ChartCommand (R115, R232). -/
def objContext : Nat := 0x02000041
def objChart : Nat := 0x02000042

/-! ### Context commands (R100, R104) -/

/-- CREATE: reads and checks the entry, in the order of R100; the context becomes ACTIVE. -/
def execCreate (role : Role) (c : Nat) (s : State) : Host.Outcome State Fault Refusal :=
  s.run (fun b => b.cmd role .operator 0x02 (fun b1 =>
    let x := b1.ctx c
    if 256 ≤ c then b1.refuse .outOfRange
    else if x.st = .destroying then b1.refuse .busy
    else if x.st ≠ .free then b1.refuse .badState
    else
      match b1.readWords 64 (b1.cfg 0x02000040 0 + 128 * c) 2 with
      | .error .wait => b1
      | .error _ => (b1.refuse .badState).raise (unitContext c) .contextTableUnreadable [c]
      | .ok ws =>
        let e : BitVec 1024 := BitVec.ofNat 1024 (ws.getD 0 0 + ws.getD 1 0 * 2 ^ 512)
        if fld e 8 56 ≠ 0 ∨ fld e 352 672 ≠ 0 then b1.refuse .rsvNonzero
        else if fld e 0 4 ≠ 1 then b1.refuse .levelReject
        else if !bit e 4 then b1.refuse .badState
        else
          (b1.setCtx c { x with
            st := .active, offset := bit e 5, priority := fld e 6 2, xroot := fld e 64 64,
            lanterns := BitVec.ofNat 64 (fld e 128 64), ring := fld e 192 64, qStack := fld e 256 32, qBulk := fld e 288 32,
            qWindow := fld e 320 32, tail := 0, closed := 0, openCount := 0, heldRecs := [], destroyWaits := false,
            destroySeq := none }).done objContext 0))

/-- A nonzero reserved field of a queue descriptor (R15, R104). -/
def queueRsv (d : Line) : Bool := decide (fld d 4 4 ≠ 0 ∨ fld d 21 43 ≠ 0 ∨ fld d 256 256 ≠ 0)

/-- The rules of R104 on the other fields of a queue descriptor for a context. -/
def Block.queueOk (b : Block) (c : Nat) (d : Line) : Bool :=
  let w : W64 := BitVec.ofNat 64 (fld d 192 64)
  decide (fld d 0 4 = 1 ∧ fld d 8 8 = c ∧ 4 ≤ fld d 16 5 ∧ fld d 16 5 ≤ 16 ∧
    fld d 64 64 % 64 = 0 ∧ fld d 128 64 % 4096 = 0 ∧ w ≠ 0 ∧ w &&& ~~~(b.ctx c).lanterns = 0) &&
  b.rangeOk (fld d 64 64) 64 && b.rangeOk (fld d 128 64) (128 * 2 ^ fld d 16 5)

/-- The lowest free queue number; a number whose old requests have not all closed is not given again (log entry 33). -/
def Block.freeQueue (b : Block) : Option Nat :=
  (List.range 1024).find? (fun q => !(b.queue q).live && !b.requests.any (fun (e : Nat × Request) => e.1 / 2 ^ 32 == q))

/-- The lowest free watch slot of a lantern. -/
def Lantern.freeSlot (x : Lantern) : Option Nat := (List.range 16).find? (fun i => !thas x.slots i)

/-- REGISTER_QUEUE: checks the descriptor, wherever it lies, and registers the watches of its watchers (R15, R104, R106). A
descriptor or header line that cannot be read is BAD_QUEUE (DEDUCED, log entry 74). -/
def execRegisterQueue (role : Role) (c d : Nat) (s : State) : Host.Outcome State Fault Refusal :=
  s.run (fun b => b.cmd role .operator 0x02 (fun b1 =>
    let x := b1.ctx c
    if 256 ≤ c then b1.refuse .outOfRange
    else if x.st = .destroying then b1.refuse .busy
    else if x.st ≠ .active then b1.refuse .badState
    else
      match b1.readBytes d 64 with
      | .error .wait => b1
      | .error _ => b1.refuse .badQueue
      | .ok v =>
        let w : Line := BitVec.ofNat 512 v
        if queueRsv w then b1.refuse .rsvNonzero
        else if !b1.queueOk c w then b1.refuse .badQueue
        else
          match b1.readAt (fld w 64 64) 4, b1.lineAt (fld w 64 64) with
          | .error .wait, _ => b1
          | .error _, _ => b1.refuse .badQueue
          | .ok _, none => b1.refuse .badQueue
          | .ok tail, some ln =>
            let ws := setBits (BitVec.ofNat 64 (fld w 192 64) : W64) 64
            match b1.freeQueue with
            | none => b1.refuse .noSlot
            | some q =>
              if ws.any (fun l => (b1.lantern l).freeSlot.isNone) then b1.refuse .noSlot
              else
                match b1.watch (ws.headD 0) ln with
                | none => (b1.watchRefused ln).refuse .noSlot
                | some _ =>
                  let b2 := ws.foldl (fun a l =>
                    let i := ((a.lantern l).freeSlot).getD 0
                    ((a.watch l ln).getD a).updLantern l (fun y => { y with
                      slots := tput y.slots i { queue := q, pos := tail, tail := tail } })) b1
                  (b2.setQueue q { live := true, ctx := c, log2 := fld w 16 5, header := fld w 64 64, ring := fld w 128 64,
                                   watchers := BitVec.ofNat 64 (fld w 192 64) }).done objContext q))

/-- Releases the watch slots of a queue (R100). -/
def Block.dropQueue (b : Block) (q : Nat) : Block :=
  let x := b.queue q
  let b1 := (setBits x.watchers 64).foldl (fun a l =>
    a.updLantern l (fun y => { y with slots := y.slots.filter (fun (e : Nat × Slot) => e.2.queue != q) })) b
  let b2 := match b1.lineAt x.header with
    | some ln => (setBits x.watchers 64).foldl (fun (a : Block) l => a.unwatchLamp l ln) b1
    | none => b1
  b2.setQueue q {}

/-- UNREGISTER_QUEUE: the watchers release their slots; records already taken run on (R100). -/
def execUnregisterQueue (role : Role) (q : Nat) (s : State) : Host.Outcome State Fault Refusal :=
  s.run (fun b => b.cmd role .operator 0x02 (fun b1 =>
    if 1024 ≤ q ∨ !(b1.queue q).live then b1.refuse .badQueue
    else
      let st := (b1.ctx (b1.queue q).ctx).st
      if st = .destroying then b1.refuse .busy
      else if st = .active ∨ st = .extinguished then (b1.dropQueue q).done objContext 0
      else b1.refuse .badState))

/-- Drops the checks of a context (R420). -/
def Block.dropChecks (b : Block) (c : Nat) : Block :=
  (b.checks.filter (fun (x : Check) => x.ctx == c)).foldl (fun (a : Block) (x : Check) => a.dropCheck x.id) b

/-- A record that a lowest watcher holds alone ends with DESTROY: CANCELLED, completed alone, where its completion record can be
reached; otherwise it is dropped (R100, R108 checks 1 and 4, R231). -/
def Block.endSlotHold (b : Block) (l i : Nat) (s : Slot) : Block :=
  let q := b.queue s.queue
  let t : TakeAt := { l := l, slot := i, queue := s.queue, record := s.pos, held := none }
  match b.lampWords l 64 (q.ring + 128 * (s.pos % 2 ^ q.log2)) 2 with
  | .error _ => b.dropRecord t
  | .ok ws =>
    let r : BitVec 1024 := BitVec.ofNat 1024 (ws.getD 0 0 + ws.getD 1 0 * 2 ^ 512)
    let e := match b.recordErr q r with | some e => if e.1 = 0x3C ∨ e.1 = 0x38 then e else (8, 0) | none => (8, 0)
    match b.translate l q.ctx (fld r 256 64) 4 false with
    | (b1, .ok pa _) =>
      match b1.joinRecord l (joinOf s.queue q r s.pos pa) e.1 e.2 [] true with
      | .ok c => c.passTake t
      | _ => b1.dropRecord t
    | (b1, _) => b1.dropRecord t

/-- Ends every take of a context that a watch slot holds. -/
def Block.endSlotHolds (b : Block) (c : Nat) : Block :=
  (List.range 64).foldl (fun a l => (a.lantern l).slots.foldl (fun (d : Block) (e : Nat × Slot) =>
    if e.2.hold.isSome && (d.queue e.2.queue).ctx == c then d.endSlotHold l e.1 e.2 else d) a) b

/-- The held joins of a context try once more, and leave their request where they fault again (R226, R231). -/
def Block.retryJoins (b : Block) (c : Nat) : Block :=
  (b.hws.filter (fun (e : Nat × Hw) => e.2.ctx == c && e.2.phase == .held 2)).foldl (fun (a : Block) (e : Nat × Hw) =>
    a.updHw e.1 (fun w => { w with phase := .ended w.endStatus w.endDetail, slots := [], batch := 0 })) b

/-- What DESTROY does at once: queues unregistered, requests cancelled, checks dropped, its own WITHDRAW_ALL issued or waiting
(R100, R228, R420). -/
def Block.destroyCtx (b : Block) (c : Nat) : Block :=
  let qs := (b.queues.filter (fun (e : Nat × Queue) => e.2.live && e.2.ctx == c)).map Prod.fst
  let b0 := b.endSlotHolds c
  let b1 := (qs.foldl (fun a q => a.dropQueue q) (b0.dropChecks c)).updCtx c (fun x => { x with st := .destroying, heldRecs := [] })
  let b2 := (b1.endCtx c 8 0 (fun _ => false)).retryJoins c
  if b2.withdrawals.length < 16 then
    (b2.updCtx c (fun x => { x with destroySeq := some b2.nextWithdrawal, destroyWaits := false })).pushWithdrawal c none none
  else b2.updCtx c (fun x => { x with destroyWaits := true })

/-- DESTROY: accepted in ACTIVE and EXTINGUISHED (R100). -/
def execDestroy (role : Role) (c : Nat) (s : State) : Host.Outcome State Fault Refusal :=
  s.run (fun b => b.cmd role .operator 0x02 (fun b1 =>
    let st := (b1.ctx c).st
    if 256 ≤ c then b1.refuse .outOfRange
    else if st = .destroying then b1.refuse .busy
    else if st = .free then b1.refuse .badState
    else
      let b2 := (b1.destroyCtx c).accept objContext
      b2.updCtx c (fun x => { x with destroyCmd := b2.cmds.count })))

/-- Whether every hardware context of a context is free and its withdrawals are acknowledged (R100). -/
def Block.destroyReady (b : Block) (c : Nat) : Bool :=
  (b.ctx c).st == .destroying && !(b.ctx c).destroyWaits &&
  b.withdrawals.all (fun (w : Withdrawal) => w.ctx != c) &&
  b.hws.all (fun (e : Nat × Hw) => e.2.phase == .free || e.2.ctx != c)

/-- DESTROY_DONE: the context is FREE and its groups are dissolved (R100, R149). -/
def execDestroyDone (c : Nat) (s : State) : Host.Outcome State Fault Refusal :=
  s.run (fun b =>
    if !b.destroyReady c then b
    else
      let b1 := (List.range 16).foldl (fun a g =>
        if (a.group g).st ≠ .free ∧ (a.group g).ctx = c then (a.unbind g).setGroup g (a.group g).released else a) b
      let b2 : Block := { b1 with requests := b1.requests.filter (fun (e : Nat × Request) => e.2.ctx != c) }
      (b2.updCtx c (fun x => { x with st := .free, destroySeq := none })).finishSts objContext (b.ctx c).destroyCmd .ok)

/-! ### Queues (R106) -/

/-- WATCH_NOTICE: the lantern reads TAIL; too far ahead is QUEUE_OVERRUN; a poisoned TAIL extinguishes the context (R106,
R411). -/
def execWatchNotice (l slot : Nat) (s : State) : Host.Outcome State Fault Refusal :=
  s.run (fun b =>
    match tfind (b.lantern l).slots slot with
    | none => b
    | some x =>
      let q := b.queue x.queue
      let put (c : Block) (y : Slot) : Block := c.updLantern l (fun z => { z with slots := tput z.slots slot y })
      if !x.notice ∨ (b.lantern l).loss = .fencing ∨ (b.ctx q.ctx).st = .extinguished then b
      else
        match b.lampRead l q.header 4 with
        | .error .wait => b
        | .error .poison => (put b { x with notice := false }).extinguish q.ctx 0 l q.header
        | .error _ => put b { x with notice := false }
        | .ok tail =>
          let c := b.homeRead q.header
          if 2 ^ q.log2 < (tail + 2 ^ 32 - x.pos) % 2 ^ 32 then
            (put c { x with notice := false, tail := tail, pos := (tail + 2 ^ 32 - 2 ^ q.log2) % 2 ^ 32, starved := false,
                            hold := none }).raise (unitLantern l) .queueOverrun [x.queue]
          else put c { x with notice := false, tail := tail })

/-- TAKE: a lantern handles the head record that its order puts first and that can be handled now; a DRAINING or
CONDEMNED module takes no record, but bearing checks run to their ends while it drains (R106, R108, R420, R425). -/
def execTake (l : Nat) (s : State) : Host.Outcome State Fault Refusal :=
  s.run (fun b =>
    if b.start.level ≠ .lit then b
    else if b.silent.svc = .inService then b.takeFirst l (b.takeOrder l)
    else if b.silent.svc = .draining then b.takeCheck l
    else b)

/-- QUEUE_HEAD_WAIT: a head has waited 1 ms; the lantern takes nothing more until it fits (R106). -/
def execQueueHeadWait (l slot : Nat) (s : State) : Host.Outcome State Fault Refusal :=
  s.run (fun b =>
    match tfind (b.lantern l).slots slot with
    | some x => if x.pos = x.tail then b else b.updLantern l (fun z => { z with slots := tput z.slots slot { x with starved := true } })
    | none => b)

/-! ### Joins and abandonment (R110, R112, R119) -/

/-- Whether everything that a join waits for has been performed: tallies zero, no BEAM of the request queued or running,
no check of it uncaptured, and, as by FENCE.SYSTEM, the die's store buffer drained and its MOVEs written (R110, R119, R239,
R420). -/
def Block.joinReady (b : Block) (l h : Nat) : Bool :=
  let w := b.hw (hwNo l h)
  [0, 1, 2, 3].all (fun t => w.tally t == 0) &&
  (b.beamOps l).all (fun o => o.hw != h) &&
  b.checks.all (fun (c : Check) => !(c.lantern == l && c.hw == h && c.stage == 0)) &&
  b.drainedStores l && !b.moveWrites l h

/-- The join of a hardware context whose record can be reached at a physical address; the context is freed (R110). -/
def Block.joinHw (b : Block) (l h pa st d : Nat) : Block :=
  let w := b.hw (hwNo l h)
  let j : JoinInfo := { w.joinInfo with pa := pa }
  let passed (c : Block) : Block := match (c.lantern l).slotAt w.queue w.record with | some i => c.pass l i | none => c
  match b.joinLeave l j st d [w.saturated, w.flushed, w.nanDropped, w.nonfinite] with
  | some c => passed (c.freeHw l h)
  | none => b

/-- A join that cannot reach its record leaves the request (R226). -/
def Block.joinLost (b : Block) (l h st : Nat) : Block :=
  let w := b.hw (hwNo l h)
  let passed (c : Block) : Block := match (c.lantern l).slotAt w.queue w.record with | some i => c.pass l i | none => c
  passed ((b.leave l w.joinInfo st true).freeHw l h)

/-- The end of a recompute program whose check was dropped frees its hardware context; that of a check that still runs is left to
the check (R420). -/
def Block.endCheck (b : Block) (l h id : Nat) : Block :=
  if b.checks.any (fun (x : Check) => x.id == id) then b
  else
    let c := b.drainStores l
    if c.joinReady l h then c.freeHw l h else c

/-- JOIN: an ended program whose work is performed joins its completion record; a lost lantern is joined by its tile
without more ado (R110, R112, R225, R226, R405). -/
def execJoin (l h : Nat) (s : State) : Host.Outcome State Fault Refusal :=
  s.run (fun b =>
    let k := hwNo l h; let w := b.hw k
    match w.phase, w.check with
    | .ended _ _, some id => b.endCheck l h id
    | .ended st d, none =>
      if (b.lantern l).loss = .lost then b.joinHw l h w.compPa st d
      else if (b.lantern l).loss = .fencing then b
      else
        let c := b.drainStores l
        match (c.hw k).phase with
        | .ended st1 d1 =>
          if !c.joinReady l h then c
          else
            match c.translate l w.ctx w.comp 4 false with
            | (_, .wait) => c
            | (c1, .fault cause _) =>
              if (c1.ctx w.ctx).st = .destroying then c1.joinLost l h st1 else
              match (c1.updHw k (fun y => { y with endStatus := st1, endDetail := d1 })).holdFault l h 2 0xFFFFFFFF [(cause, w.comp, 4)] with
              | (c2, none) => c2
              | (c2, some _) => c2.joinLost l h st1
            | (c1, .ok pa _) =>
              if (c1.dom pa).isNone then (c1.raise (unitLantern l) .unmappedAccess [w.ctx, pa]).joinLost l h st1
              else c1.joinHw l h pa st1 d1
        | _ => c
    | _, _ => b)

/-- ABANDON: a notice on the completion record of a running request shows a nonzero STATUS: the program stops and will
join ABANDONED, and its groups stop (R112, R154). -/
def execAbandon (l h : Nat) (s : State) : Host.Outcome State Fault Refusal :=
  s.run (fun b =>
    let k := hwNo l h; let w := b.hw k
    let runs := match w.phase with | .running => true | .claiming => true | .held 0 => true | _ => false
    if !w.cnotice ∨ !runs ∨ (b.lantern l).loss ≠ .alive then b
    else
      match b.lampRead l w.compPa 4 with
      | .error _ => b
      | .ok o =>
        let c := (b.homeRead w.compPa).updHw k (fun y => { y with cnotice := false })
        if o / 2 ^ 24 = 0 then c else (c.endReq k 4 0).stopGroups l w.req)

/-! ### Fault batches (R224, R225) -/

/-- The VERDICTs of a held access's records: whether the access fails, and whether a record's line is poisoned (R225, R226). -/
def Block.verdicts (b : Block) (c : Nat) (ns : List Nat) : Bool × Bool :=
  let at_ (n : Nat) : Nat := (b.ctx c).ring + 0x1000 + 32 * (n % 2048) + 31
  let bad := ns.any (fun n => match b.readAt (at_ n) 1 with | .error .poison => true | _ => false)
  (bad || ns.any (fun n => (b.peek (at_ n) 1).getD 1 != 0), bad)

/-- Whether RESUME_GEN has reached a batch (R225). -/
def genReached (gen batch : Nat) : Bool := decide ((gen + 2 ^ 32 - batch % 2 ^ 32) % 2 ^ 32 < 2 ^ 31)

/-- What a watch slot that holds its head does when RESUME_GEN has reached its batch (R106, R225). -/
def Block.resumeSlot (b : Block) (l i gen : Nat) : Block :=
  match tfind (b.lantern l).slots i with
  | none => b
  | some s =>
    match s.hold with
    | none => b
    | some h =>
      let c := (b.queue s.queue).ctx
      if h.slots = [] ∨ (b.ctx c).heldRecs.any (fun (r : FaultRec) => r.lantern == l && r.slot == some i) ∨ !genReached gen h.batch then b
      else
        let rd := b.verdicts c h.slots
        let t : TakeAt := { l := l, slot := i, queue := s.queue, record := s.pos, held := none }
        if rd.1 then (if rd.2 then b.raise (unitContext c) .faultRingBad [c] else b).dropRecord t
        else
          let d := b.updLantern l (fun y => { y with slots := tput y.slots i { s with hold := some { tries := h.tries } } })
          (d.takeHead t).getD d

/-- What one hardware context of a chart does when RESUME_GEN has reached its batch (R225, R226). -/
def Block.resumeHw (b : Block) (l h gen : Nat) : Block :=
  let k := hwNo l h; let w := b.hw k; let x := b.ctx w.ctx
  match w.phase with
  | .held what =>
    if w.slots = [] ∨ x.heldRecs.any (fun (r : FaultRec) => r.lantern == l && r.slot.isNone && r.hw == h) ∨
        !genReached gen w.batch then b
    else
      let rd := b.verdicts w.ctx w.slots
      let fails := rd.1
      let b0 := if rd.2 then b.raise (unitContext w.ctx) .faultRingBad [w.ctx] else b
      let dt := if rd.2 then 4 else 1
      let c := b0.updHw k (fun y => { y with slots := [], batch := 0 })
      let slot := ((c.lantern l).slotAt w.queue w.record).getD 16
      let t : TakeAt := { l := l, slot := slot, queue := w.queue, record := w.record, held := some h }
      if what = 0 then
        if fails then c.endReq k 0x18 dt else c.updHw k (fun y => { y with phase := .running })
      else if what = 2 then
        if fails then c.joinLost l h w.endStatus else c.updHw k (fun y => { y with phase := .ended w.endStatus w.endDetail })
      else if w.check.isSome then
        if fails then c.updHw k (fun y => { y with phase := .ended 0x18 dt })
        else
          match c.checks.find? (fun (x : Check) => some x.id == w.check) with
          | some x => (c.startCheck l x (some h)).getD (c.endHold t)
          | none => c.endHold t
      else if slot = 16 then c.endHold t
      else if !fails then (c.takeHead t).getD (c.endHold t)
      else if what = 1 then c.dropRecord t
      else c.updHw k (fun y => { y with phase := .ended 0x18 dt })
  | _ => b

/-- CHART_RESUME: a notice on the driver line; every held access of the context on this lantern whose batch is resolved
retries or fails (R225). -/
def execChartResume (l c : Nat) (s : State) : Host.Outcome State Fault Refusal :=
  s.run (fun b =>
    if !thas (b.chart l).resume c ∨ (b.lantern l).loss ≠ .alive then b
    else
      match b.lampRead l ((b.ctx c).ring + 0x44) 4 with
      | .error _ => b
      | .ok gen =>
        let b1 := (b.homeRead ((b.ctx c).ring + 0x44)).updChart l (fun t => { t with resume := tput t.resume c false })
        let b2h := [0, 1, 2, 3].foldl (fun a h => if (a.hw (hwNo l h)).ctx = c then a.resumeHw l h gen else a) b1
        let b2 := (List.range 16).foldl (fun (a : Block) i => match tfind (a.lantern l).slots i with
          | some s => if (a.queue s.queue).ctx = c then a.resumeSlot l i gen else a
          | none => a) b2h
        let still := (b2.lantern l).slots.any (fun (e : Nat × Slot) => (b2.queue e.2.queue).ctx == c && e.2.hold.isSome) || [0, 1, 2, 3].any (fun h => let w := b2.hw (hwNo l h); w.ctx == c && (match w.phase with | .held _ => true | _ => false))
        if still then b2
        else
          let b3 := b2.updChart l (fun t => { t with resume := tdel t.resume c })
          match b3.lineAt ((b3.ctx c).ring + 0x40) with
          | some ln => b3.unwatchLamp l ln
          | none => b3)

/-- FAULT_BATCH_TIMER: a batch closes 100 µs after its first record (R224). -/
def execFaultBatchTimer (c : Nat) (s : State) : Host.Outcome State Fault Refusal :=
  s.run (fun b => b.closeBatch c)

/-- FAULT_RING_ROOM: HEAD has advanced on a full ring; held records are written while there is room (R224). -/
def execFaultRingRoom (c : Nat) (s : State) : Host.Outcome State Fault Refusal :=
  s.run (fun b => b.flushFaults c)

/-! ### Withdrawal (R227 to R229) -/

/-- Accepts a withdrawal: BUSY, BAD_CONTEXT, BAD_RANGE, then its sequence number (R228). -/
def Block.withdrawCmd (b : Block) (c : Nat) (range : Option (Nat × Nat)) (ack : Nat) : Block :=
  let st := (b.ctx c).st
  let bad := match range with | some r => r.1 % 4096 != 0 || r.2 % 4096 != 0 || r.2 == 0 | none => false
  if 16 ≤ b.withdrawals.length then b.refuse .busy
  else if 256 ≤ c ∨ ¬ (st = .active ∨ st = .extinguished) then b.refuse .badContext
  else if bad || ack % 8 != 0 || !b.rangeOk ack 8 then b.refuse .badRange
  else (b.pushWithdrawal c range (some ack)).done objChart b.nextWithdrawal

/-- WITHDRAW: a range of a context's translations is dropped (R228). -/
def execWithdraw (role : Role) (c va length ack : Nat) (s : State) : Host.Outcome State Fault Refusal :=
  s.run (fun b => b.cmd role .operator 0x02 (fun b1 => b1.withdrawCmd c (some (va, length)) ack))

/-- WITHDRAW_ALL: every translation of a context is dropped (R228). -/
def execWithdrawAll (role : Role) (c ack : Nat) (s : State) : Host.Outcome State Fault Refusal :=
  s.run (fun b => b.cmd role .operator 0x02 (fun b1 => b1.withdrawCmd c none ack))

/-- WITHDRAW_ACK: the oldest withdrawal has drained; s is written to its ack word, or WITHDRAW_ACK_LOST is raised (R228). -/
def execWithdrawAck (seq : Nat) (s : State) : Host.Outcome State Fault Refusal :=
  s.run (fun b =>
    match b.withdrawals with
    | [] => b
    | w :: rest =>
      if w.seq ≠ seq ∨ !b.drained w then b
      else
        let count (c : Block) : Block :=
          ((({ c with withdrawals := rest }).updCtx w.ctx (fun x =>
            { x with withdrawals := x.withdrawals + 1, lastAck := max x.lastAck w.seq })).tryDrops).admitDestroys
        match w.ack with
        | none => count b
        | some pa =>
          match b.dom pa with
          | none => count (b.raise (unitContext w.ctx) .withdrawAckLost [w.ctx, w.seq])
          | some a =>
            match b.write (a / 64) (byteMask (a % 64) 8) (linePut 0 (a % 64) 8 w.seq) false with
            | .ok c => count c
            | .error (.wait, _) => b
            | .error (_, c) => count (c.raise (unitContext w.ctx) .withdrawAckLost [w.ctx, w.seq]))

/-- WITHDRAW_LIMIT: Drain is forced: the requests that hold older references end with XLATE_FAULT, DETAIL 2, and their
sinker work not yet run is discarded (R229). -/
def execWithdrawLimit (seq : Nat) (s : State) : Host.Outcome State Fault Refusal :=
  s.run (fun b =>
    match b.withdrawals.find? (fun (w : Withdrawal) => w.seq == seq) with
    | none => b
    | some w =>
      if !w.dropped ∨ b.drained w then b
      else
        let b0 : Block := { b with withdrawals := b.withdrawals.map (fun (x : Withdrawal) => if x.seq = seq then { x with forced := true } else x) }
        (List.range 64).foldl (fun a l =>
          let e := tget 0 w.epochs l
          let ids := ((a.chart l).refs.filter (fun r => decide (r.1 ≤ e))).map Prod.snd
          let ks := (a.xfers.filter (fun (x : Xfer) => ids.contains x.id)).map (fun (x : Xfer) => hwNo x.lantern x.hw) ++
            (a.sinkers.map (fun (y : Nat × Sinker) => (y.2.ops.filter (fun (o : SinkOp) => ids.contains o.id)).filterMap
              a.sinkHw)).flatten ++
            ((a.lantern l).stores.filter (fun (t : Buffered) => decide (t.epoch ≤ e))).map (fun (t : Buffered) => hwNo l t.hw)
          let reqs := ks.map (fun k => (a.hw k).req)
          let a1 := ks.foldl (fun c k => c.endReq k 0x18 2) a
          { a1 with sinkers := a1.sinkers.map (fun (y : Nat × Sinker) => (y.1, { y.2 with ops := y.2.ops.map (fun (o : SinkOp) =>
              if !o.ran && (ids.contains o.id || reqs.contains o.req) then { o with ran := true, failed := true } else o) })) }) b0)

end Sys2Proof.Machine
end

