-- ==== Sys2Proof/Machine/Links.lean ====
section
/-! DEFINITION. Chain links: replay, retraining, the flash sideband, partitions (01 R27 to R34; 20 R438), and the part number
(00 R1, R2). -/

namespace Sys2Proof.Machine

/-! ### The part number (R1, R2) -/

/-- Bytes of a string. -/
def strBytes (s : String) : List Byte := s.toList.map (fun c => BitVec.ofNat 8 c.toNat)
/-- The three part numbers (R1). -/
def partBytes : Part → List Byte
  | .a4t => strBytes "GSV-7480-A-4T"
  | .a2t => strBytes "GSV-7480-A-2T"
  | .g4t => strBytes "GSV-7480-G-4T"
/-- A part number as an STR value: a byte count, then the bytes (R346). -/
def partValue (p : Part) : List Byte := leBytes 2 (partBytes p).length ++ partBytes p
/-- The part that an STR value names. -/
def partOf (bs : List Byte) : Option Part := [Part.a4t, .a2t, .g4t].find? (fun p => partValue p == bs)

/-- A value enters the persisted set; the store is written by STORE_WRITE (R366). -/
def Block.persistValue (b : Block) (obj : Nat) (v : List Byte) : Block :=
  { b with store := { b.store with persist := tput b.store.persist obj v, dirty := true } }

/-- The newest valid slot of a store copy: the greatest SEQ among the slots whose read-back verified (R365). -/
def StoreCopy.newest (c : StoreCopy) : Option (Nat × StoreSlot) :=
  c.slots.foldl (fun (a : Option (Nat × StoreSlot)) e =>
    if e.2.torn then a
    else match a with
      | none => some e
      | some m => if m.2.seq < e.2.seq then some e else a) none
/-- SEQ of a copy's newest valid slot, 0 for none (R374). -/
def StoreCopy.seq (c : StoreCopy) : Nat := match c.newest with | some e => e.2.seq | none => 0

/-- The highest valid SEQ + 1: the SEQ of the next store write (R366). -/
def Store.nextSeq (s : Store) : Nat := max s.a.seq s.b.seq + 1

/-- An accepted write of an RWP object: its value is in force where it acts at once, enters the persisted set, and the reply carries
PERSIST_SEQ; with both flash devices FAILED it only applies until the next start (R366, R367). -/
def Block.persistWrite (b : Block) (obj : Nat) (v : List Byte) (now : Bool) (effect : Block → Block) : Block :=
  let c := effect (if now then { b with store := { b.store with inForce := tput b.store.inForce obj v } } else b)
  if b.tray.sf0Failed ∧ b.tray.sf1Failed then (c.raise unitModule .configStoreUnwritable [obj]).refuse .persistFailed
  else
    let d := c.persistValue obj v
    { d with cmds := { d.cmds with reply := { status := .ok, ret := d.store.nextSeq } } }

/-- PartNumber: one of the three strings, matching the presence strap of each guest site; it takes effect at the next start (R2;
log entry 87). -/
def Block.writePart (c : Block) (part : Option Part) : Block :=
  match part with
  | none => c.refuse .outOfRange
  | some p =>
    if (p == .g4t && c.tray.guestFitted.length < 2) || (p != .g4t && c.tray.guestFitted != []) then c.refuse .badState
    else c.persistWrite 0x01000001 (partValue p) false id

/-- PART_NUMBER_WRITE: vendor role (R2). -/
def execPartNumberWrite (role : Role) (part : Option Part) (s : State) : Host.Outcome State Fault Refusal :=
  s.run (fun b => b.cmd role .vendor 0x01 (fun c => c.writePart part))

/-! ### Links -/

/-- A chain link as a reporting unit. -/
def unitLink (i : Nat) : Nat := unitNo 0x40 i
/-- Tiles reached from a set in n steps over links that are not DOWN. -/
def Block.reach (b : Block) : Nat → List Nat → List Nat
  | 0, ts => ts
  | n + 1, ts =>
    b.reach n ((List.range 12).foldl (fun (a : List Nat) i =>
      let e := linkTiles i
      if (b.link i).st = .down then a
      else if a.contains e.1 then addLast a e.2 else if a.contains e.2 then addLast a e.1 else a) ts)
/-- Links of a tile that are DOWN. -/
def Block.tileDown (b : Block) (t : Nat) : Nat :=
  ((List.range 12).filter (fun i => (b.link i).st == .down && ((linkTiles i).1 == t || (linkTiles i).2 == t))).length
/-- The partition condition of R34: some pair of tiles has no path, or a tile has lost more than two links. -/
def Block.partitioned (b : Block) : Bool :=
  decide ((b.reach 9 [0]).length < 9) || (List.range 9).any (fun t => decide (2 < b.tileDown t))

/-- FLIT_REPLAY: a receiver reports an uncorrectable flit of a direction, which the sender replays before any later flit of it; the
replay is received, or fails (R32). -/
def execFlitReplay (link dir : Nat) (ok : Bool) (s : State) : Host.Outcome State Fault Refusal :=
  s.run (fun b =>
    let x := b.link link
    let n (f : Nat) : Nat := if ok then 0 else min 16 (f + 1)
    if 12 ≤ link ∨ x.held ∨ x.st = .down then b
    else if dir = 0 then b.setLink link { x with replays := x.replays + 1, fails0 := n x.fails0, pending0 := !ok }
    else b.setLink link { x with replays := x.replays + 1, fails1 := n x.fails1, pending1 := !ok })

/-- Holds a link for training; the lit declarations that have returned stand (R32, R152). -/
def Block.holdLink (b : Block) (i : Nat) : Block :=
  b.noteLit.updLink i (fun x => { x with held := true, retrains := x.retrains + 1 })

/-- RETRAIN: sixteen replays of one flit have failed, or the lane-error rate is too high: the link is held and trains
(R32). -/
def execRetrain (link : Nat) (laneErrors : Bool) (s : State) : Host.Outcome State Fault Refusal :=
  s.run (fun b =>
    let x := b.link link
    if 12 ≤ link ∨ x.held ∨ x.st = .down ∨ ¬ (laneErrors = true ∨ 16 ≤ x.fails0 ∨ 16 ≤ x.fails1) then b else b.holdLink link)

/-- The sideband of a link is down: FLASH_PATH_DOWN, and the groups that use it are torn down (R33). -/
def Block.sidebandDown (b : Block) (i : Nat) : Block :=
  if (b.link i).sbDown then b
  else ((b.updLink i (fun x => { x with sbDown := true })).raise (unitLink i) .flashPathDown [i]).tearGroups i

/-- What training found is put in force: spares of each direction, which the repair map records, half width, or the link goes DOWN
(R28, R32, R33, R34). -/
def Block.trainLink (b : Block) (i : Nat) (out : LinkTrain) : Block :=
  let old := b.link i
  let full := decide (out.failed0 ≤ 8 ∧ out.failed1 ≤ 8)
  let st : LinkSt := if full then .up else if out.halfOk then .half else .down
  let b0 := b.updLink i (fun x => { x with
    st := st, spared0 := if full then out.failed0 else x.spared0, spared1 := if full then out.failed1 else x.spared1,
    held := false, fails0 := 0, fails1 := 0, pending0 := false, pending1 := false })
  let b1 := if full ∧ (old.spared0 < out.failed0 ∨ old.spared1 < out.failed1) then b0.noteRepair else b0
  let b2 := if st = .half ∧ old.st ≠ .half then b1.raise (unitLink i) .linkHalf [i] else b1
  let b3 := if st = .down ∧ old.st ≠ .down then (b2.raise (unitLink i) .linkDown [i]).setAlert 8 else b2
  let b4 := if (List.range 12).all (fun j => (b3.link j).st != .down) then b3.clearAlert 8 else b3
  if out.sbOk then b4 else b4.sidebandDown i

/-- LINK_TRAINING_DONE: the hold ends, a pending replay completes and waiting flashes are sent; a link that leaves the
tiles parted drives the module to DRAINING (R32, R34). -/
def execLinkTrainingDone (link : Nat) (out : LinkTrain) (s : State) : Host.Outcome State Fault Refusal :=
  s.run (fun b =>
    let x := b.link link
    if 12 ≤ link ∨ !x.held then b
    else
      let b1 := (b.trainLink link out).updLink link (fun y => { y with waiting := [] })
      let b2 := x.waiting.foldl (fun c (p : Nat × Nat) => c.flashTravel p.1 p.2) b1
      if (b2.link link).st = .down ∧ x.st ≠ .down ∧ b2.partitioned then
        ((b2.raise unitModule .linkPartition [link]).setAlert 9).suspect .linkPartition [link]
      else b2)

/-- SIDEBAND_LANE_FAIL: the spare of the direction replaces the lane; without one the sideband is down (R33). -/
def execSidebandLaneFail (link dir : Nat) (s : State) : Host.Outcome State Fault Refusal :=
  s.run (fun b =>
    let x := b.link link
    if 12 ≤ link ∨ x.sbDown then b
    else if dir = 0 ∧ !x.sbSpare0 then b.setLink link { x with sbSpare0 := true }
    else if dir ≠ 0 ∧ !x.sbSpare1 then b.setLink link { x with sbSpare1 := true }
    else b.sidebandDown link)

/-- LINK_RETRAIN: a retrain by command: BUSY while one runs, BAD_STATE on a DOWN link (R438). -/
def execLinkRetrain (role : Role) (link : Nat) (s : State) : Host.Outcome State Fault Refusal :=
  s.run (fun b => b.cmd role .service 0x40 (fun c =>
    let x := c.link link
    if 12 ≤ link then c.refuse .outOfRange
    else if x.held then c.refuse .busy
    else if x.st = .down then c.refuse .badState
    else (c.holdLink link).done 0x40000042 0))

end Sys2Proof.Machine
end

