-- ==== Sys2Proof/Machine/PortOps.lean ====
section
/-! DEFINITION. What the port engines share: memory regions and DMA (13 R295, R298), queue records, completion queues, errors
and flushing (13 R294, R297, R299, R300), post rings (13 R296), frames on the wire (13 R292, R297). -/

namespace Sys2Proof.Machine

/-- A port as a reporting unit. -/
def unitPort (p : Nat) : Nat := unitNo 0x50 p
/-- RUNNING: the engine is enabled and not resetting (R294). -/
def Block.portOn (b : Block) (p : Nat) : Bool := b.tray.rails && decide (p < 2) && (b.port p).enable && !(b.port p).resetting
/-- MACs of the mode in force (R290). -/
def Port.macs (x : Port) : Nat := 2 ^ x.mode
/-- Whether a MAC has link (R294). -/
def Port.up (x : Port) (mac : Nat) : Bool := x.linkUp.getLsbD mac
/-- Line rate of a MAC in Mbit/s (R290). -/
def Port.lineRate (x : Port) : Nat := 1600000 / 2 ^ x.mode

/-! ### DMA (R298) -/

/-- Lines of a physical range. -/
def paLines (pa n : Nat) : List Nat := linesOf pa n

/-- Whether a DMA over a range has to wait: for a held channel, or at the home for a BUSY line. -/
def Block.dmaWaits (b : Block) (home : Bool) (pa n : Nat) : Bool :=
  (paLines pa n).any (fun i => match b.dom (i * 64) with | some a => b.chanHeld (a / 64) || (home && b.busy (a / 64)) | none => false)

/-- Reads a range beneath the home, or as RD_ONCE at the home; the flag tells of poison (R245, R298). -/
def Block.dmaRead (b : Block) (home : Bool) (pa n : Nat) : Except AccErr (Block × List Byte × Bool) :=
  ((paLines pa n).foldl (fun (r : Except AccErr (Block × List Byte × Bool)) i =>
    match r with
    | .error e => .error e
    | .ok (c, bs, p) =>
      match c.dom (i * 64) with
      | none => .error .unmapped
      | some a =>
        match if home then c.readOnce (a / 64) else (c.under (a / 64)).map (fun v => (c, v.1, v.2)) with
        | .error e => .error e
        | .ok (d, v, q) => .ok (d, bs ++ lineBytes v 0 64, p || q)) (.ok (b, [], false))).map
    (fun r => (r.1, (r.2.1.drop (pa % 64)).take n, r.2.2))

/-- Writes bytes beneath the home, or as WR_LINE and WR_PART at the home (R298). -/
def Block.dmaWrite (b : Block) (home : Bool) (pa : Nat) (bs : List Byte) : Except (AccErr × Block) Block :=
  (paLines pa bs.length).foldl (fun (r : Except (AccErr × Block) Block) i =>
    match r with
    | .error e => .error e
    | .ok c =>
      match c.dom (i * 64) with
      | none => .error (.unmapped, c)
      | some a =>
        let off := if i = pa / 64 then pa % 64 else 0
        let part := (bs.drop (i * 64 + off - pa)).take (64 - off)
        let mask := byteMask off part.length
        let v := linePut 0 off part.length (leNat part)
        if home then c.write (a / 64) mask v false else c.putUnder (a / 64) mask v false) (.ok b)

/-- A number read beneath the home; none where it is not served or poisoned, which raises PORT_POISON (R298, R303). -/
def Block.dmaWord (b : Block) (p pa n : Nat) : Block × Option Nat :=
  match b.dmaRead false pa n with
  | .ok (_, bs, false) => (b, some (leNat bs))
  | .ok (_, _, true) => (b.raise (unitPort p) .portPoison [p, pa], none)
  | .error _ => (b, none)

/-- Whether an MR entry passes an access (R295). -/
def mrPass (e : BitVec 256) (key pd va len perm : Nat) : Bool :=
  bit e 0 && decide (fld e 6 2 = 0 ∧ fld e 32 32 = 0 ∧ fld e 244 12 = 0 ∧ fld e 8 8 = key % 256 ∧ fld e 16 16 = pd ∧
    1 ≤ fld e 128 64 ∧ fld e 128 64 ≤ 2 ^ 40 ∧ fld e 64 64 ≤ va ∧ va + len ≤ fld e 64 64 + fld e 128 64) &&
  (perm == 0 || bit e perm)

/-- How a DMA ends. -/
inductive Dma where
  | wait
  | err (st : WcSts)
  | ok (bs : List Byte)
deriving DecidableEq, Repr

/-- The status of a DMA that is not served (R303, R402). -/
def dmaErr : AccErr → Dma
  | .wait => .wait
  | .unmapped => .err .localProtection
  | _ => .err .localTierFail

/-- Consumption of poison by a port (R303, R396, R412). -/
def Block.portPoison (b : Block) : Block := { b with errors := { b.errors with consumed := tinc b.errors.consumed 3 1 } }

/-- What an access finds at its memory region: the address and THROUGH_HOME, an error, or a held channel. -/
inductive MrHit where
  | wait
  | err (st : WcSts)
  | found (pa : Nat) (home : Bool)
deriving DecidableEq, Repr

/-- Checks an access against its MR entry, which is read beneath the home where the engine holds no copy; `perm` is the bit of the
permission needed, 0 for none (R295, R303). -/
def Block.region (b : Block) (p key pd va len perm : Nat) : Block × MrHit :=
  let x := b.port p; let i := key / 256
  let test (c : Block) (e : BitVec 256) : Block × MrHit :=
    if mrPass e key pd va len perm && c.rangeOk (fld e 192 52) (fld e 128 64) then (c, .found (fld e 192 52 + (va - fld e 64 64)) (bit e 5))
    else (c, .err .localProtection)
  if 2 ^ x.mrLog2 ≤ i then (b, .err .localProtection)
  else
    match tfind x.mrs i with
    | some e => test b e
    | none =>
      let at_ := x.mrTable + 32 * i
      if b.dmaWaits false at_ 32 then (b, .wait)
      else
        match b.dmaRead false at_ 32 with
        | .ok (_, bs, false) =>
          let e := BitVec.ofNat 256 (leNat bs)
          test (b.updPort p (fun y => { y with mrs := tput y.mrs i e })) e
        | .ok (_, _, true) => (b.portPoison.raise (unitPort p) .portPoison [p, at_], .err .localPoison)
        | .error .wait => (b, .wait)
        | .error .unmapped => (b, .err .localProtection)
        | .error _ => (b, .err .localTierFail)

/-- Reads a buffer through its key; nothing is checked for no bytes (R295, R303). -/
def Block.bufRead (b : Block) (p key pd va len perm : Nat) : Block × Dma :=
  if len = 0 then (b, .ok [])
  else
    match b.region p key pd va len perm with
    | (_, .wait) => (b, .wait)
    | (c, .err st) => (c, .err st)
    | (c, .found pa home) =>
      if c.dmaWaits home pa len then (b, .wait)
      else
        match c.dmaRead home pa len with
        | .error e => (c, dmaErr e)
        | .ok (d, _, true) => (d.portPoison, .err .localPoison)
        | .ok (d, bs, false) => (d, .ok bs)

/-- Writes a buffer through its key (R295, R303). -/
def Block.bufWrite (b : Block) (p key pd va : Nat) (bs : List Byte) (perm : Nat) : Block × Dma :=
  if bs = [] then (b, .ok [])
  else
    match b.region p key pd va bs.length perm with
    | (_, .wait) => (b, .wait)
    | (c, .err st) => (c, .err st)
    | (c, .found pa home) =>
      if c.dmaWaits home pa bs.length then (b, .wait)
      else
        match c.dmaWrite home pa bs with
        | .error (e, d) => (d, dmaErr e)
        | .ok d => (d, .ok [])

/-! ### Writes through the home (R298) -/

/-- Owes a write and performs what can be performed. -/
def Block.owe (b : Block) (p : Nat) (o : PortOwed) : Block :=
  let c := b.updPort p (fun y => { y with owed := y.owed ++ [o] })
  Block.payOwed p (c.port p).owed.length c

/-! ### Queue records (R294, R297, R299) -/

/-- A queue pair, or an Ethernet queue, as the engine holds it. -/
def Block.pq (b : Block) (p : Nat) (eth : Bool) (i : Nat) : PortQueue :=
  if eth then tget {} (b.port p).eths i else tget {} (b.port p).qps i
def Block.updPq (b : Block) (p : Nat) (eth : Bool) (i : Nat) (f : PortQueue → PortQueue) : Block :=
  b.updPort p (fun x => if eth then { x with eths := tput x.eths i (f (tget {} x.eths i)) }
                        else { x with qps := tput x.qps i (f (tget {} x.qps i)) })

/-- Address of the record of a queue. -/
def Block.pqAddr (b : Block) (p : Nat) (eth : Bool) (i : Nat) : Nat :=
  (if eth then (b.port p).ethTable else (b.port p).qpTable) + 128 * i

/-- A QP record as the engine takes it: RESET forgets the progress; the first PSNs are taken when the QP comes to RTR and RTS
(R299). -/
def PortQueue.loadQp (q : PortQueue) (r : BitVec 1024) : PortQueue :=
  let st := fld r 0 4
  if st = 0 then { copy := some r }
  else { q with copy := some r, st := st,
                epsn := if q.st = 2 ∨ q.st = 3 then q.epsn else fld r 96 24,
                psn := if q.st = 3 then q.psn else fld r 64 24 }

/-- Reads the record of a queue at its use where the engine holds no copy (R294). -/
def Block.loadPq (b : Block) (p : Nat) (eth : Bool) (i : Nat) : Block :=
  if (b.pq p eth i).copy.isSome then b
  else
    match b.dmaWord p (b.pqAddr p eth i) 128 with
    | (c, some v) =>
      let r : BitVec 1024 := BitVec.ofNat 1024 v
      c.updPq p eth i (fun q => if eth then { q with copy := some r } else q.loadQp r)
    | (c, none) => c

/-- What is wrong with a QP record: a reserved field, or a value out of range (R299, R303). -/
def qpErr (macs : Nat) (r : BitVec 1024) : Option WcSts :=
  if fld r 28 4 ≠ 0 ∨ fld r 56 8 ≠ 0 ∨ fld r 88 8 ≠ 0 ∨ fld r 120 8 ≠ 0 ∨ fld r 184 8 ≠ 0 ∨ fld r 248 8 ≠ 0 ∨ fld r 268 4 ≠ 0 ∨
      fld r 284 4 ≠ 0 ∨ fld r 304 16 ≠ 0 ∨ fld r 496 16 ≠ 0 ∨ fld r 660 364 ≠ 0 then some .rsvNonzero
  else if fld r 4 4 < 3 ∨ 5 < fld r 4 4 ∨ fld r 14 5 < 8 ∨ 20 < fld r 14 5 ∨ fld r 128 52 % 64 ≠ 0 ∨ fld r 180 4 < 4 ∨
      fld r 192 52 % 32 ≠ 0 ∨ fld r 244 4 < 4 ∨ macs ≤ fld r 657 3 then some .badDesc
  else none

/-- What is wrong with an Ethernet queue entry (R297). -/
def ethErr (macs : Nat) (r : BitVec 1024) : Option WcSts :=
  if fld r 0 19 ≠ 0 ∨ fld r 22 106 ≠ 0 ∨ fld r 184 8 ≠ 0 ∨ fld r 248 8 ≠ 0 ∨ fld r 268 4 ≠ 0 ∨ fld r 284 4 ≠ 0 ∨
      fld r 304 336 ≠ 0 ∨ fld r 660 364 ≠ 0 then some .rsvNonzero
  else if fld r 128 52 % 64 ≠ 0 ∨ fld r 180 4 < 4 ∨ fld r 192 52 % 32 ≠ 0 ∨ fld r 244 4 < 4 ∨ macs ≤ fld r 657 3 then some .badDesc
  else none

/-- Packet payload of a PMTU code (R299). -/
def pmtuOf (r : BitVec 1024) : Nat := 128 * 2 ^ fld r 4 4
/-- PSNs that a message of n bytes takes: one packet at least. -/
def psnsOf (r : BitVec 1024) (n : Nat) : Nat := max 1 (ceilDiv n (pmtuOf r))
/-- a − b as a count of a free-running 32-bit counter, 0 where b is ahead (R296). -/
def ahead32 (a b : Nat) : Nat := let d := (a + 2 ^ 32 - b % 2 ^ 32) % 2 ^ 32; if d < 2 ^ 31 then d else 0
/-- a − b modulo 2^24. -/
def psnDiff (a b : Nat) : Nat := (a + 2 ^ 24 - b % 2 ^ 24) % 2 ^ 24

/-! ### Completion queues (R299, R300) -/

/-- STATUS codes (R300). -/
def wcCode : WcSts → Nat
  | .ok => 0 | .localLength => 1 | .localProtection => 2 | .localPoison => 3 | .localTierFail => 4 | .remoteAccess => 5
  | .remoteOperation => 6 | .retryExceeded => 7 | .rnrRetryExceeded => 8 | .flushed => 9 | .rsvNonzero => 0xA | .badDesc => 0xB
  | .linkDown => 0xC

/-- The word of a completion entry (R300). -/
def Wc.word (w : Wc) (phase : Bool) : BitVec 256 :=
  let f (p : Bool) (i : Nat) : Nat := if p then 2 ^ i else 0
  BitVec.ofNat 256 (w.wrId + w.op * 2 ^ 64 + wcCode w.st * 2 ^ 72 + w.queue * 2 ^ 80 + f w.eth 96 + f phase 97 + f w.csumOk 98 +
    f w.ce 99 + (w.bytes % 2 ^ 32) * 2 ^ 128 + w.imm * 2 ^ 160 + w.hash * 2 ^ 192 + w.vlan * 2 ^ 224)

def Block.updCq (b : Block) (p i : Nat) (f : Cq → Cq) : Block :=
  b.updPort p (fun x => { x with cqs := tput x.cqs i (f (tget {} x.cqs i)) })

/-- Reads a CQ entry at its use (R294). -/
def Block.loadCq (b : Block) (p i : Nat) : Block :=
  if (tget {} (b.port p).cqs i).copy.isSome then b
  else
    match b.dmaWord p ((b.port p).cqTable + 64 * i) 64 with
    | (c, some v) => c.updCq p i (fun q => { q with copy := some (BitVec.ofNat 512 v) })
    | (c, none) => c

/-- Whether a CQ entry is valid (R299). -/
def cqValid (e : Line) : Bool :=
  bit e 60 && decide (fld e 52 4 = 0 ∧ fld e 61 3 = 0 ∧ fld e 139 373 = 0 ∧ fld e 0 52 % 4096 = 0 ∧ 4 ≤ fld e 56 4)

/-- Writes a completion entry through the home and sends the MSI of an armed CQ; the flag tells of an overrun, which writes
nothing. A CQ without a valid entry takes nothing; one whose entry lies on a held channel keeps the entry until the hold ends (R205,
R299, R300). -/
def Block.pushWc (b : Block) (p i : Nat) (w : Wc) : Block × Bool :=
  let c := b.loadCq p i; let q := tget {} (c.port p).cqs i
  match q.copy with
  | none =>
    if b.dmaWaits false ((b.port p).cqTable + 64 * i) 64 then (b.updPort p (fun x => { x with wcWait := x.wcWait ++ [(i, w)] }), false)
    else (c, false)
  | some e =>
    if !cqValid e then (c, false)
    else
      let size := 2 ^ fld e 56 4
      if size ≤ ahead32 q.prod q.cons then (c, true)
      else
        let phase := q.prod / size % 2 == 0
        let d := c.updCq p i (fun y => { y with prod := (y.prod + 1) % 2 ^ 32, armed := false })
        (d.owe p { pa := fld e 0 52 + 32 * (q.prod % size), n := 32, v := w.word phase,
                   msi := if q.armed then some (fld e 64 64, fld e 128 11) else none }, false)

/-! ### Errors of a QP (R300, R302) -/

/-- WR_ID and OP of a descriptor at an address, zero where it cannot be read. -/
def Block.descId (b : Block) (pa n wr : Nat) : Nat × Nat :=
  match b.dmaRead false pa n with
  | .ok (_, bs, false) => let v := leNat bs; (v >>> wr % 2 ^ 64, v % 256)
  | _ => (0, 0)

/-- Completion entries in order, with the CQs that overran. -/
def Block.pushAll_ (b : Block) (p cq : Nat) (ws : List Wc) : Block × List Nat :=
  ws.foldl (fun (c : Block × List Nat) w => let r := c.1.pushWc p cq w; (r.1, if r.2 then addLast c.2 cq else c.2)) (b, [])

/-- Every outstanding descriptor of a queue completes FLUSHED; the CQs that overran (R300, R302). -/
def Block.flushPq (b : Block) (p : Nat) (eth : Bool) (i : Nat) : Block × List Nat :=
  let q := b.pq p eth i
  match q.copy with
  | none => (b, [])
  | some r =>
    let wc (id op : Nat) : Wc := { wrId := id, op := op, st := .flushed, queue := i, eth := eth }
    let ns := min (ahead32 q.sqProd q.sqCons) (2 ^ fld r 180 4)
    let nr := min (ahead32 q.rqProd q.rqCons) (2 ^ fld r 244 4)
    let sends := q.sent.map (fun (s : Sent) => (fld s.desc 448 64, fld s.desc 0 8)) ++
      (List.range ns).map (fun k => b.descId (fld r 128 52 + 64 * ((q.sqCons + k) % 2 ^ fld r 180 4)) 64 448)
    let recvs := (List.range nr).map (fun k => (b.descId (fld r 192 52 + 32 * ((q.rqCons + k) % 2 ^ fld r 244 4)) 32 128).1)
    let b1 := b.updPq p eth i (fun y => { y with sent := [], sqCons := y.sqProd, rqCons := y.rqProd })
    let x2 := b1.pushAll_ p (fld r 256 12) (sends.map (fun (e : Nat × Nat) => wc e.1 e.2))
    let x3 := x2.1.pushAll_ p (fld r 272 12) (recvs.map (fun id => wc id (if eth then 0x83 else 0x81)))
    (x3.1, x2.2 ++ x3.2)

/-- A QP enters ERROR: STATE is written through the home, and its descriptors are flushed; the CQs that overran (R299, R300). -/
def Block.qpToError (b : Block) (p i : Nat) : Block × List Nat :=
  let q := b.pq p false i
  match q.copy with
  | none => (b, [])
  | some r =>
    if q.st = 4 then (b, [])
    else
      let r1 := setFld r 0 4 4
      let c := (b.updPq p false i (fun y => { y with st := 4, copy := some r1 })).owe p
        { pa := b.pqAddr p false i, n := 1, v := BitVec.ofNat 256 (fld r1 0 8) }
      c.flushPq p false i

/-- The queue pairs that the engine knows. -/
def Block.knownQps (b : Block) (p : Nat) : List Nat := (b.port p).qps.map Prod.fst

/-- CQs that overran: CQ_OVERRUN names each, and every QP that writes to it enters ERROR, whose flushing may overrun others (R300). -/
def Block.overruns (p : Nat) : Nat → List Nat → List Nat → Block → Block
  | 0, _, _, b => b
  | _, _, [], b => b
  | n + 1, seen, cq :: t, b =>
    if seen.contains cq then Block.overruns p n seen t b
    else
      let c := b.raise (unitPort p) .cqOverrun [p, cq]
      let writes (a : Block) (i : Nat) : Bool := match (a.pq p false i).copy with | some r => fld r 256 12 == cq || fld r 272 12 == cq | none => false
      let x := (c.knownQps p).foldl (fun (a : Block × List Nat) i =>
        let d := a.1.loadPq p false i
        if writes d i then (let y := d.qpToError p i; (y.1, a.2 ++ y.2)) else (d, a.2)) (c, [])
      Block.overruns p n (cq :: seen) (t ++ x.2) x.1

/-- A QP enters ERROR, with what that overruns (R299, R300). -/
def Block.qpError (b : Block) (p i : Nat) : Block := let x := b.qpToError p i; Block.overruns p 4096 [] x.2 x.1
/-- A queue is flushed, with what that overruns (R300, R302). -/
def Block.flushQueue (b : Block) (p : Nat) (eth : Bool) (i : Nat) : Block :=
  let x := b.flushPq p eth i; Block.overruns p 4096 [] x.2 x.1

/-- A completion entry; where its CQ overruns, every QP that writes to it enters ERROR, with CQ_OVERRUN (R300). -/
def Block.complete (b : Block) (p cq : Nat) (w : Wc) : Block :=
  let x := b.pushWc p cq w
  if x.2 then Block.overruns p 4096 [] [cq] x.1 else x.1

/-- The end of a descriptor of a QP or Ethernet queue: an entry where it asks for one or the status is not OK, and ERROR for a
QP whose status is neither OK nor LINK_DOWN (R297, R300). -/
def Block.wcEnd (b : Block) (p cq : Nat) (signal : Bool) (w : Wc) : Block :=
  let c := if signal || w.st != .ok then b.complete p cq w else b
  if !w.eth && w.st != .ok && w.st != .linkDown then c.qpError p w.queue else c

/-! ### Post rings (R296) -/

/-- Line of the header of a post ring. -/
def Block.postLine (b : Block) (x : PostRing) : Option Nat :=
  match x.copy with | some e => if bit e 127 then b.lineAt (fld e 0 52) else none | none => none

/-- Reads a post-ring entry and watches its header line; its position starts at TAIL. On a held channel the ring is read when the hold
ends (R205, R294, R296). -/
def Block.loadPost (b0 : Block) (p i : Nat) : Block :=
  let at_ := (b0.port p).postTable + 64 * i
  let due : Block := b0.updPort p (fun y => { y with ringsDue := addLast y.ringsDue i })
  if b0.dmaWaits false at_ 64 then due
  else
    let b := b0.updPort p (fun y => { y with ringsDue := y.ringsDue.filter (· != i) })
    match b.dmaWord p at_ 64 with
    | (c, none) => c
    | (c, some v) =>
      let e : Line := BitVec.ofNat 512 v
      let ok := bit e 127 && decide (fld e 52 12 = 0 ∧ fld e 116 4 = 0 ∧ 4 ≤ fld e 120 4 ∧ fld e 124 3 = 0 ∧ fld e 128 384 = 0)
      let put (d : Block) (pos : Nat) : Block :=
        d.updPort p (fun y => { y with rings := tput y.rings i { copy := some (if ok then e else 0), pos := pos } })
      if !ok then put c 0
      else if b.dmaWaits true (fld e 0 52) 4 then due
      else
        match c.lineAt (fld e 0 52) with
        | none => put c 0
        | some ln => put ((c.watch (64 + p) ln).getD (c.watchRefused ln)) ((c.peek (fld e 0 52) 4).getD 0)

/-- What a held channel kept a port from goes on: owed writes, rings to read, completion entries (R205, R294, R296, R298, R300). -/
def Block.portResume (b : Block) (p : Nat) : Block :=
  let b1 := Block.payOwed p (b.port p).owed.length b
  let b2 := (b1.port p).ringsDue.foldl (fun (c : Block) i => if c.portOn p then c.loadPost p i else c) b1
  let ws := (b2.port p).wcWait
  ws.foldl (fun (c : Block) (e : Nat × Wc) => c.complete p e.1 e.2) (b2.updPort p (fun y => { y with wcWait := [] }))

/-- Drops a post-ring entry and the watch on a header line that no other ring of the port has (R294). -/
def Block.dropPost (b : Block) (p i : Nat) : Block :=
  let ln := b.postLine (tget {} (b.port p).rings i)
  let c := b.updPort p (fun y => { y with rings := tdel y.rings i })
  match ln with
  | none => c
  | some n => if (c.port p).rings.any (fun (e : Nat × PostRing) => c.postLine e.2 == some n) then c else c.unwatch (64 + p) n

/-- Takes the next entry of a post ring if its KIND is the row's; one that cannot be read, or with a reserved bit, queue or
kind that does not exist, is passed over (R296). -/
def Block.postTake (b : Block) (p i kind : Nat) (go : Block → Nat → Nat → Block) : Block :=
  let x := tget {} (b.port p).rings i
  match x.copy with
  | none => b
  | some e =>
    if !b.portOn p ∨ !bit e 127 then b
    else
      match b.peek (fld e 0 52) 4 with
      | none => b
      | some tail =>
        if ahead32 tail x.pos = 0 then b
        else
          let pass (c : Block) : Block := c.updPort p (fun y => { y with rings := tput y.rings i { x with pos := (x.pos + 1) % 2 ^ 32, notice := false } })
          let at_ := fld e 64 52 + 8 * (x.pos % 2 ^ fld e 120 4)
          if b.dmaWaits false at_ 8 then b
          else
            match b.dmaWord p at_ 8 with
            | (c, none) => pass c
            | (c, some v) =>
              let w : W64 := BitVec.ofNat 64 v
              let q := fld w 0 16; let k := fld w 16 3
              let limit := if k = 0 ∨ k = 1 then 16384 else if k = 4 then 4096 else 256
              if 5 ≤ k ∨ fld w 19 13 ≠ 0 ∨ limit ≤ q then pass c
              else if k ≠ kind then b
              else go (pass c) q (fld w 32 32)

/-- Posts descriptors to a queue: the larger count holds; a QP in ERROR flushes them (R296, R300). -/
def Block.post (b : Block) (p : Nat) (eth recv : Bool) (i prod : Nat) : Block :=
  let c := (b.loadPq p eth i).updPq p eth i (fun q =>
    if recv then { q with rqProd := if ahead32 prod q.rqProd = 0 then q.rqProd else prod }
    else { q with sqProd := if ahead32 prod q.sqProd = 0 then q.sqProd else prod })
  if !eth && (c.pq p eth i).st == 4 then c.flushQueue p eth i else c

/-! ### Frames (R292, R297) -/

/-- Big-endian bytes of a number. -/
def beBytes (n v : Nat) : List Byte := (leBytes n v).reverse
/-- The number that big-endian bytes spell. -/
def beNat (bs : List Byte) : Nat := leNat bs.reverse
/-- n bytes at an offset as a big-endian number. -/
def beAt (f : List Byte) (off n : Nat) : Nat := beNat ((f.drop off).take n)
/-- Puts bytes at an offset. -/
def putAt (f : List Byte) (off : Nat) (bs : List Byte) : List Byte := f.take off ++ bs ++ f.drop (off + bs.length)
/-- Sum of big-endian 16-bit words. -/
def sum16 : List Byte → Nat
  | [] => 0
  | [x] => x.toNat * 256
  | x :: y :: t => x.toNat * 256 + y.toNat + sum16 t
/-- The ones' complement checksum of the Internet protocols. -/
def netSum (n : Nat) : Nat :=
  let a := n % 65536 + n / 65536
  let c := a % 65536 + a / 65536
  65535 - (c % 65536 + c / 65536)

/-- Where the parts of an IP frame stand: IP version, network header, transport header, and its protocol (6 or 17). -/
def ipParts (f : List Byte) : Option (Nat × Nat × Nat × Nat) :=
  let o := if beAt f 12 2 = 0x8100 then 18 else 14
  let t := beAt f (o - 2) 2
  if t = 0x0800 then
    let pr := beAt f (o + 9) 1
    if pr = 6 ∨ pr = 17 then some (4, o, o + beAt f o 1 % 16 * 4, pr) else none
  else if t = 0x86DD then
    let pr := beAt f (o + 6) 1
    if pr = 6 ∨ pr = 17 then some (6, o, o + 40, pr) else none
  else none

/-- Where the network header of an IP frame stands, and its version. -/
def ipAt (f : List Byte) : Option (Nat × Nat) :=
  if beAt f 12 2 = 0x0800 then some (4, 14) else if beAt f 12 2 = 0x86DD then some (6, 14) else none
/-- The tag control of a tagged frame, and the frame with its tag stripped (R292). -/
def stripTag (f : List Byte) : Option Nat × List Byte :=
  if beAt f 12 2 = 0x8100 then (some (beAt f 14 2), f.take 12 ++ f.drop 16) else (none, f)
/-- The address bytes of an IP header. -/
def ipAddrs (f : List Byte) (v o : Nat) : List Byte := if v = 4 then (f.drop (o + 12)).take 8 else (f.drop (o + 8)).take 32
/-- What the steering hash covers of an untagged frame: addresses, and the ports of TCP and UDP (R292). -/
def rssTuple (f : List Byte) : List Byte :=
  match ipAt f with
  | none => []
  | some (v, o) => ipAddrs f v o ++ (match ipParts f with | some (_, _, t, _) => (f.drop t).take 4 | none => [])
/-- Whether every checksum present in an untagged frame is correct: the IPv4 header's, and that of TCP or UDP (R292, R300). -/
def sumsOk (f : List Byte) : Bool :=
  match ipAt f with
  | none => true
  | some (v, o) =>
    (v != 4 || netSum (sum16 ((f.drop o).take (beAt f o 1 % 16 * 4))) == 0) &&
    (match ipParts f with
     | none => true
     | some (_, _, t, pr) =>
       (pr == 17 && beAt f (t + 6) 2 == 0) || netSum (sum16 (ipAddrs f v o) + pr + (f.length - t) + sum16 (f.drop t)) == 0)
/-- Whether an untagged frame arrived marked CE (R300). -/
def ceMarked (f : List Byte) : Bool :=
  match ipAt f with
  | some (4, o) => beAt f (o + 1) 1 % 4 == 3
  | some (_, o) => beAt f o 2 / 16 % 4 == 3
  | none => false
/-- Whether an untagged frame carries RoCEv2 to QPN 1: UDP to port 4791, and the destination QP of its transport header (R292). -/
def toQp1 (f : List Byte) : Bool :=
  match ipParts f with
  | some (_, _, t, 17) => beAt f (t + 2) 2 == 4791 && beAt f (t + 13) 3 == 1
  | _ => false
/-- The pause that a priority flow control frame asks for: the classes that it names, and those of them with a time (R292;
its places PRESUMED from IEEE 802.1Qbb, log entry 85). -/
def pfcOf (f : List Byte) : Option (BitVec 8 × BitVec 8) :=
  if beAt f 12 2 = 0x8808 ∧ beAt f 14 2 = 0x0101 then
    let named := beAt f 16 2
    some (BitVec.ofNat 8 named,
      BitVec.ofNat 8 (((List.range 8).filter (fun i => named.testBit i && beAt f (18 + 2 * i) 2 != 0)).map (2 ^ ·)).sum)
  else none
/-- Whether the peer of a MAC has paused a priority (R292). -/
def Port.pausedAt (x : Port) (mac prio : Nat) : Bool := (tget 0 x.paused mac).getLsbD prio

/-- Inserts the IPv4 header checksum and the TCP or UDP checksum (R292, CSUM). -/
def putSums (f : List Byte) : List Byte :=
  match ipParts f with
  | none => f
  | some (v, n, t, pr) =>
    let f1 := if v = 4 then
        let z := putAt f (n + 10) [0, 0]
        putAt z (n + 10) (beBytes 2 (netSum (sum16 ((z.drop n).take (t - n)))))
      else f
    let at_ := t + (if pr = 6 then 16 else 6)
    let z := putAt f1 at_ [0, 0]
    let addrs := if v = 4 then (z.drop (n + 12)).take 8 else (z.drop (n + 8)).take 32
    let c := netSum (sum16 addrs + pr + (z.length - t) + sum16 (z.drop t))
    putAt z at_ (beBytes 2 (if pr = 17 ∧ c = 0 then 0xFFFF else c))

/-- Pieces of n bytes. -/
def pieces (n : Nat) : Nat → List Byte → List (List Byte)
  | 0, _ => []
  | _ + 1, [] => []
  | k + 1, x => x.take n :: pieces n k (x.drop n)

/-- Segments a TCP or UDP frame by MSS: lengths, IPv4 identification and TCP sequence numbers go on, FIN and PSH stay on the
last (R292, SEG); none where the frame is neither. -/
def segments (mss : Nat) (f : List Byte) : Option (List (List Byte)) :=
  match ipParts f with
  | none => none
  | some (v, n, t, pr) =>
    let h := t + (if pr = 6 then beAt f (t + 12) 1 / 16 * 4 else 8)
    let ps := pieces mss (f.length + 1) (f.drop h)
    let last := ps.length - 1
    some (ps.zipIdx.map (fun (x : List Byte × Nat) =>
      let g := f.take h
      let g1 := if v = 4 then
          putAt (putAt g (n + 2) (beBytes 2 (h - n + x.1.length))) (n + 4) (beBytes 2 ((beAt f (n + 4) 2 + x.2) % 65536))
        else putAt g (n + 4) (beBytes 2 (h - t + x.1.length))
      let g2 := if pr = 6 then
          let s := putAt g1 (t + 4) (beBytes 4 ((beAt f (t + 4) 4 + x.2 * mss) % 2 ^ 32))
          if x.2 = last then s else putAt s (t + 13) [BitVec.ofNat 8 (beAt f (t + 13) 1) &&& 0xF6]
        else putAt g1 (t + 4) (beBytes 2 (8 + x.1.length))
      g2 ++ x.1))

/-- Puts a frame or packet on the wire. -/
def Block.wireOut (b : Block) (p : Nat) (o : WireOut) : Block := b.updPort p (fun x => { x with wire := x.wire ++ [o] })

/-- The Toeplitz hash of bytes under a key: the 32 key bits at each set bit of the input (R292). -/
def toeplitz (key bs : List Byte) : Nat :=
  let n := 8 * bs.length; let kl := 8 * key.length; let kv := beNat key; let v := beNat bs
  (List.range n).foldl (fun a i =>
    if v.testBit (n - 1 - i) then a ^^^ (if i + 32 ≤ kl then kv >>> (kl - 32 - i) % 2 ^ 32 else kv <<< (i + 32 - kl) % 2 ^ 32) else a) 0

/-- The bytes in force of an RWP BLOB or ARR, empty where nothing was written. -/
def Block.cfgBytes (b : Block) (obj : Nat) : List Byte := (tfind b.store.inForce obj).getD []

end Sys2Proof.Machine
end

