-- ==== Sys2Proof/Machine/Tiers.lean ====
section
/-! DEFINITION. Memory tiers: tier commands, first writes apart, migration, streams, holds, evacuation and repair (08 R184 to
R210), the loss of a sinker die (18 R404), the lateness limit (04 R113). -/

namespace Sys2Proof.Machine

/-! ### Regions (R193, R194) -/

/-- The berths of a command: first berth and domain of a base, whole berths inside the domain's presented range (R194). -/
def Block.berthSpan (b : Block) (base n : Nat) : Option Nat :=
  if base % 65536 = 0 ∧ base < 2 ^ 43 ∧ 1 ≤ n ∧ base % 2 ^ 40 + n * 65536 ≤ b.presented then some (base / 65536) else none

/-- Whether a line of a run of berths is in a transaction or has one waiting: the command waits for it (R194). -/
def Block.berthsBusy (b : Block) (first n : Nat) : Bool :=
  b.lines.any (fun (e : Nat × LineSt) =>
    decide (first ≤ e.1 / 1024 ∧ e.1 / 1024 < first + n) && (e.2.busy.isSome || e.2.queue != []))

/-- Berths with an entry among n from a first. -/
def Block.entries (b : Block) (first n : Nat) : List (Nat × Berth) :=
  b.berths.filter (fun (e : Nat × Berth) => decide (first ≤ e.1 ∧ e.1 < first + n))

/-- The policy of a code (R193). -/
def policyOf (c : Nat) : Option Policy :=
  if c = 0 then some .auto else if c = 1 then some .stack else if c = 2 then some .bulk else if c = 3 then some .streamed else none

/-- REGION_ADD: the region is created; STEADY berths that its policy wants in the other tier are moved; the region number
is returned (R193, R194, R204). -/
def execRegionAdd (role : Role) (d base n c policy : Nat) (s : State) : Host.Outcome State Fault Refusal :=
  s.run (fun b => b.cmd role .operator 0x32 (fun b0 =>
    match b0.berthSpan base n, policyOf policy with
    | some first, some pol =>
      let x := b0.domain d
      let overlap := x.regions.any (fun (r : Region) => decide (r.base < first + n ∧ first < r.base + r.count))
      if base / 2 ^ 40 ≠ d ∨ 8 ≤ d ∨ overlap ∨ (b0.ctx c).st ≠ .active then b0.refuse .badRegion
      else
        match (List.range 1024).find? (fun i => !(x.regions.any (fun (r : Region) => r.num == d * 1024 + i))) with
        | none => b0.refuse .noSlot
        | some i =>
          let num := d * 1024 + i
          let es := b0.entries first n
          let tier := if pol = .stack then 0 else 1
          let away := (es.filter (fun e => (e.2.st == .steady || e.2.st == .copying) && pol != .auto && e.2.tier != tier)).map Prod.fst
          if pol = .stack ∧ !quotaRoom (b0.ctx c).qStack (b0.quotaUse c d 0) n then b0.refuse .quota
          else if b0.freeFrames d tier < away.length then b0.refuse .noSpace
          else if (es.map Prod.fst).any b0.movedByCommand then b0.refuse .busy
          else
            let b1 := b0.updDomain d (fun y => { y with
              regions := y.regions ++ [{ num := num, base := first, count := n, owner := c, policy := pol }] })
            let b2 := if pol = .stack then
                es.foldl (fun (a : Block) (e : Nat × Berth) => a.updBerth e.1 (fun z => { z with pin := z.st != .vacant })) b1
              else b1
            if away = [] then b2.done objTier num
            else
              let b3 := b2.accept objTier
              ((b3.addWait d { what := 0, cmd := b3.cmds.count, key := num }).queueMoves d (away.map (fun k => (k, tier)))).checkWaits d
    | _, _ => b0.refuse .badRegion))

/-- Whether a registered stream has a layer in a region (R194). -/
def Block.streamUses (b : Block) (r : Region) : Bool :=
  (b.domain (r.num / 1024)).streams.any (fun (s : Stream) =>
    s.layers.any (fun l => decide (l.1 < r.base + r.count ∧ r.base < l.1 + l.2)))

/-- REGION_REMOVE: the berths become system memory, keep their backing and lose PIN (R194). -/
def execRegionRemove (role : Role) (r : Nat) (s : State) : Host.Outcome State Fault Refusal :=
  s.run (fun b => b.cmd role .operator 0x32 (fun b0 =>
    let d := r / 1024
    match (b0.domain d).regions.find? (fun (x : Region) => x.num == r) with
    | none => b0.refuse .badRegion
    | some x =>
      let es := b0.entries x.base x.count
      if b0.streamUses x || (es.map Prod.fst).any b0.movedByCommand then b0.refuse .busy
      else
        ((es.foldl (fun (a : Block) (e : Nat × Berth) => a.updBerth e.1 (fun z => { z with pin := false })) b0).updDomain d
          (fun y => { y with regions := y.regions.filter (fun (z : Region) => z.num != r) })).done objTier 0))

/-- A berth becomes VACANT: its frames are freed, the frame of a FAILED berth is retired (R194). Its counter stays. -/
def Block.vacate (b : Block) (n : Nat) : Block :=
  let d := n / 2 ^ 24; let x := b.berth n
  let b1 := (b.cancelMove n).setBerth n { counter := x.counter }
  match x.st with
  | .vacant => b
  | .steady => b1.freeFrame d x.tier x.frame
  | .copying => b1.freeFrame d x.tier x.frame
  | .window =>
    (b1.freeFrame d 1 x.own).updStream (x.stream.getD 0) (fun s => { s with frames := s.frames ++ [x.frame] })
  | .failed => if x.hasFrame then b1.retireNow d x.tier x.frame else b1

/-- RELEASE: once every access in flight to the berths has performed, they become VACANT (R194). -/
def execReleaseBerths (role : Role) (base n : Nat) (s : State) : Host.Outcome State Fault Refusal :=
  s.run (fun b => b.cmd role .operator 0x32 (fun b0 =>
    match b0.berthSpan base n with
    | none => b0.refuse .badRegion
    | some first =>
      let es := b0.entries first n
      if (es.map Prod.fst).any b0.movedByCommand then b0.refuse .busy
      else if b0.berthsBusy first n then b
      else
        ((es.foldl (fun (a : Block) (e : Nat × Berth) => a.vacate e.1) b0).done objTier 0).startQueued (first / 2 ^ 24)))

/-- Layers that hold a berth are streamed again (R201). -/
def Block.unfail (b : Block) (n : Nat) : Block :=
  b.updDomain (n / 2 ^ 24) (fun y => { y with streams := y.streams.map (fun (t : Stream) =>
    { t with failed := t.failed.filter (fun k => !(decide ((t.layer k).1 ≤ n ∧ n < (t.layer k).1 + (t.layer k).2))) }) })

/-- RELOAD: each FAILED berth becomes VACANT and its failed frame is retired (R194, R201). -/
def execReload (role : Role) (base n : Nat) (s : State) : Host.Outcome State Fault Refusal :=
  s.run (fun b => b.cmd role .operator 0x32 (fun b0 =>
    match b0.berthSpan base n with
    | none => b0.refuse .badRegion
    | some first =>
      let es := (b0.entries first n).filter (fun e => e.2.st == .failed)
      if ((b0.entries first n).map Prod.fst).any b0.movedByCommand then b0.refuse .busy else
      (es.foldl (fun (a : Block) (e : Nat × Berth) => (a.vacate e.1).unfail e.1) b0).done objTier 0))

/-- The entry of R191 as software reads it. -/
def berthWord (x : Berth) : Nat :=
  let framed := x.st != .vacant && (x.st != .failed || x.hasFrame)
  (if framed then x.frame + x.tier * 2 ^ 23 else 0) +
  (match x.st with | .vacant => 0 | .steady => 1 | .copying => 2 | .window => 3 | .failed => 4) * 2 ^ 24 +
  (if x.pin then 2 ^ 27 else 0) + (if x.retried then 2 ^ 28 else 0) + (if x.wdirty then 2 ^ 29 else 0)

/-- BERTH_QUERY: returns the entry and, above it, the counter (R191, R194). -/
def execBerthQuery (role : Role) (pa : Nat) (s : State) : Host.Outcome State Fault Refusal :=
  s.run (fun b => b.cmd role .operator 0x32 (fun b0 =>
    match b0.berthSpan pa 1 with
    | none => b0.refuse .badRegion
    | some n => b0.done objTier (berthWord (b0.berth n) + (b0.berth n).counter * 2 ^ 32)))

/-! ### Streams (R197 to R201) -/

/-- Whether n berths from a first lie in STREAMED regions of a context (R197). -/
def Block.inStreamed (b : Block) (c first n : Nat) : Bool :=
  (List.range n).all (fun i => match b.regionOf (first + i) with
    | some r => r.policy == .streamed && r.owner == c
    | none => false)

/-- Whether two runs of berths meet. -/
def runsMeet (x y : Nat × Nat) : Bool := decide (x.1 < y.1 + y.2 ∧ y.1 < x.1 + x.2)

/-- Whether no two runs of a list meet. -/
def apart : List (Nat × Nat) → Bool
  | [] => true
  | x :: t => t.all (fun y => !runsMeet x y) && apart t

/-- Berths of k layers from n, cyclically under WRAP, else as far as the table goes (R197). -/
def spanBerths (layers : List (Nat × Nat)) (wrap : Bool) (n k : Nat) : Nat :=
  ((List.range k).map (fun i =>
    if wrap then (layers.getD ((n + i) % max 1 layers.length) (0, 0)).2 else (layers.getD (n + i) (0, 0)).2)).foldl (· + ·) 0

/-- The stream that a descriptor and its layer table describe (R197). -/
def streamOf (num pa : Nat) (h : Line) (es : List Nat) : Stream :=
  { num := num, pa := pa, ctx := fld h 8 8, wrap := bit h 16, ahead := fld h 24 8, window := fld h 64 32,
    replica := sfld h 192 64, layers := es.map (fun e => (e % 2 ^ 64 / 65536, e / 2 ^ 64 % 2 ^ 24)) }

/-- The reserved fields of a stream descriptor (R197). -/
def streamRsv (h : Line) : Bool :=
  fld h 4 4 != 0 || fld h 17 7 != 0 || fld h 48 16 != 0 || fld h 96 32 != 0 || fld h 256 256 != 0

/-- The conditions of R197 on a stream but for the quota. -/
def Block.streamOk (b : Block) (t : Stream) (es : List Nat) : Bool :=
  let d := (t.layers.headD (0, 0)).1 / 2 ^ 24
  (b.ctx t.ctx).st == .active && decide (1 ≤ t.ahead ∧ t.ahead ≤ 64 ∧ 1 ≤ t.layers.length ∧ 1 ≤ t.window) &&
  es.all (fun e => e % 65536 == 0 && decide (1 ≤ e / 2 ^ 64 % 2 ^ 24)) &&
  t.layers.all (fun l => l.1 / 2 ^ 24 == d && (l.1 + l.2 - 1) / 2 ^ 24 == d && decide (d < 8) && b.inStreamed t.ctx l.1 l.2) &&
  apart t.layers &&
  (b.domain d).streams.all (fun (o : Stream) => o.layers.all (fun x => t.layers.all (fun y => !runsMeet x y))) &&
  (List.range t.layers.length).all (fun n => decide (spanBerths t.layers t.wrap n (t.ahead + 1) ≤ t.window)) &&
  (t.replica == 0 || (t.replica % 65536 == 0 && t.layers.all (fun l =>
    let a := (l.1 : Int) * 65536 + t.replica
    decide (0 ≤ a) && b.rangeOk a.toNat (l.2 * 65536) && decide (a.toNat < 2 ^ 43))))

/-- Window frames of a context's streams in a domain (R204). -/
def Block.windowUse (b : Block) (c d : Nat) : Nat :=
  (((b.domain d).streams.filter (fun (t : Stream) => t.ctx == c)).map (fun (t : Stream) => t.window)).foldl (· + ·) 0

/-- STREAM_ADD: the descriptor and its layer table are read and checked, the stream is registered and its window frames are
reserved (R194, R197). -/
def execStreamAdd (role : Role) (pa : Nat) (s : State) : Host.Outcome State Fault Refusal :=
  s.run (fun b => b.cmd role .operator 0x32 (fun b0 =>
    if pa % 64 ≠ 0 ∨ !b0.rangeOk pa 64 then b0.refuse .badStreamDesc
    else
      match b0.readAt pa 64 with
      | .error .wait => b
      | .error _ => b0.refuse .badStreamDesc
      | .ok v =>
        let h : Line := BitVec.ofNat 512 v
        let table := fld h 128 64; let n := fld h 32 16
        if fld h 0 4 ≠ 1 then b0.refuse .levelReject
        else if streamRsv h then b0.refuse .rsvNonzero
        else if table % 16 ≠ 0 ∨ n = 0 ∨ !b0.rangeOk table (16 * n) then b0.refuse .badStreamDesc
        else
          match b0.readWords 16 table n with
          | .error .wait => b
          | .error _ => b0.refuse .badStreamDesc
          | .ok es =>
            if es.any (fun e => decide (e / 2 ^ 88 ≠ 0)) then b0.refuse .rsvNonzero
            else
              let t0 := streamOf 0 pa h es
              let d := (t0.layers.headD (0, 0)).1 / 2 ^ 24
              if !b0.streamOk t0 es then b0.refuse .badStreamDesc
              else if (t0.layers.map (fun y => (b0.entries y.1 y.2).map Prod.fst)).flatten.any b0.movedByCommand then b0.refuse .busy
              else if !quotaRoom (b0.ctx t0.ctx).qWindow (b0.windowUse t0.ctx d) t0.window then b0.refuse .quota
              else
                match (List.range 32).find? (fun i => !((b0.domain d).streams.any (fun (o : Stream) => o.num == d * 32 + i))) with
                | none => b0.refuse .noSlot
                | some i =>
                  let num := d * 32 + i
                  let b1 := (b0.updDomain d (fun y => { y with streams := y.streams ++ [{ t0 with num := num }] })).accept objTier
                  (b1.addWait d { what := 1, cmd := b1.cmds.count, key := num }).checkWaits d))

/-- Whether a WAITSTREAM of a consumer waits on a stream. -/
def Block.streamWaited (b : Block) (t : Stream) : Bool :=
  b.hws.any (fun (e : Nat × Hw) => e.2.waiting && e.2.lateKind == 1 && e.2.lateStream == t.num && !t.resident.contains e.2.lateLayer)

/-- STREAM_REMOVE: the window berths are returned and the stream is dropped (R194, R200). -/
def execStreamRemove (role : Role) (num : Nat) (s : State) : Host.Outcome State Fault Refusal :=
  s.run (fun b => b.cmd role .operator 0x32 (fun b0 =>
    match b0.stream num with
    | none => b0.refuse .outOfRange
    | some t =>
      let d := num / 32
      if b0.streamWaited t || (b0.domain d).waits.any (fun (w : TierWait) => w.what == 1 && w.key == num) then b0.refuse .busy
      else if b0.domHeld d && t.resident.any (fun n => (t.berths n).any (fun k => (b0.berth k).wdirty)) then b
      else
        let b1 := t.resident.foldl (fun (a : Block) n => a.returnLayer num n) b0
        let fs := ((b1.stream num).map (fun (x : Stream) => x.frames)).getD []
        let b2 := (b1.updDomain d (fun y => { y with streams := y.streams.filter (fun (x : Stream) => x.num != num) })).accept objTier
        let b3 := fs.foldl (fun (a : Block) f => a.freeFrame d 0 f) b2
        (b3.addWait d { what := 2, cmd := b3.cmds.count, key := num, frames := fs }).checkWaits d))

/-- WAITSTREAM: finds the stream by the physical address of its descriptor, checks the descriptor there, moves the mark of
the consumer, and waits until the layer is resident (R138, R143, R198, R199). -/
def execWaitstream (l h : Nat) (w : W64) (s : State) : Host.Outcome State Fault Refusal :=
  s.run (fun b => b.issue l h w 0xB1 false (fld w 18 46 != 0) (fun c =>
    let k := hwNo l h; let x := c.hw k
    let va := (x.reg (fld w 8 5)).toNat; let n := (x.reg (fld w 13 5)).toNat
    c.withFoot l h 2 false [(va, 64)] (fun d f =>
      let pa := f.pa va
      match (d.domains.map (fun (e : Nat × Domain) => e.2.streams)).flatten.find?
          (fun (t : Stream) => t.pa == pa && t.ctx == x.ctx) with
      | none => d.exc k 0x14
      | some t =>
        match d.ownLine l h pa with
        | .error e => (e.2).memErr k e.1 pa
        | .ok (e, v, poison) =>
          if poison then e.poisonHit k 1 pa
          else if fld v 0 4 ≠ 1 then e.endReq k 0x3C 4
          else if streamRsv v then e.endReq k 0x38 4
          else if !t.exists_ n then e.exc k 0x14
          else
            let e1 := (e.updStream t.num (fun y => ({ y with marks := tput y.marks l n, markHw := tput y.markHw l h } : Stream).remark)).syncStream t.num
            let st := (e1.stream t.num).getD t
            if st.failed.contains n then e1.endReq k 0x30 5
            else if st.resident.contains n then e1.advance k
            else e1.updHw k (fun y => { y with waiting := true, lateKind := 1, lateDomain := t.num / 32, lateStream := t.num, lateLayer := n }))))

/-- What the stream engine ends up with for a berth that met an uncorrectable read: STEADY after a clean re-read or from the
replica, else FAILED; the re-read sets RETRIED (R201). -/
def Block.streamErr (b : Block) (t : Stream) (n : Nat) (clean : Bool) : Block :=
  let d := n / 2 ^ 24; let x := b.berth n
  if x.st ≠ .steady then b
  else if clean then b.setBerth n { x with retried := true }
  else
    let ra := (n : Int) + t.replica / 65536
    let rn := ra.toNat
    let y := b.berth rn
    if t.replica ≠ 0 ∧ y.st ≠ .failed then
      let put (a : Block) (i : Nat) : Block := let v := b.memLine (rn * 1024 + i); a.putFrame 1 d x.frame i v.1 v.2
      (((List.range 1024).foldl put b).setBerth n { x with retried := true }).raise (unitDomain d) .streamReplicaUsed [d, t.num, n]
    else (b.setBerth n { x with st := .failed, hasFrame := true, retried := true }).raise (unitDomain d) .berthFailed [d, n]

/-- Copies one berth into a window frame of the stream (R200). -/
def Block.windowBerth (b : Block) (num n : Nat) : Block :=
  let d := n / 2 ^ 24; let x := b.berth n
  match b.stream num with
  | none => b
  | some t =>
    match t.frames with
    | [] => b
    | f :: fs =>
      if x.st = .steady ∧ x.tier = 1 then
        ((b.copyFrame d 1 x.frame 0 f).setBerth n { x with st := .window, tier := 0, frame := f, own := x.frame, wdirty := false, stream := some num }).updStream
          num (fun y => { y with frames := fs })
      else b

/-- LAYER_RESIDENT: the stream engine has copied the next layer of a stream, or the layer has failed; `errs` names the berths
of the layer that met an uncorrectable read, with whether the re-read was clean (R198, R200, R201). -/
def execLayerResident (d num layer : Nat) (errs : List (Nat × Bool)) (s : State) : Host.Outcome State Fault Refusal :=
  s.run (fun b =>
    match b.stream num with
    | none => b
    | some t =>
      let ns := t.berths layer
      if num / 32 ≠ d ∨ t.nextLayer ≠ some layer ∨ !b.tierOpen d 0 ∨ b.domHeld d ∨
          (b.domain d).waits.any (fun (w : TierWait) => w.what == 1 && w.key == num) = true ∨
          ns.any (fun n => (b.berth n).st == .copying) = true then b
      else
        let b1 := (errs.filter (fun e => decide (e.1 < ns.length))).foldl
          (fun (a : Block) (e : Nat × Bool) => a.streamErr t ((t.layer layer).1 + e.1) e.2) b
        if ns.any (fun n => (b1.berth n).st == .failed) then
          (b1.updStream num (fun y => { y with failed := y.failed ++ [layer] })).failWaits
        else
          let b2 := ns.foldl (fun (a : Block) n => a.windowBerth num n) b1
          (b2.updStream num (fun y => { y with resident := y.resident ++ [layer] })).updDomain d
            (fun y => { y with streamed := y.streamed + (ns.filter (fun n => (b1.berth n).st == .steady)).length }))

/-! ### Counters and migration (R195, R196, R204) -/

/-- The entry of the highest counter, the lower berth first among equals (R195). -/
def hottest : List (Nat × Nat) → Option (Nat × Nat)
  | [] => none
  | e :: t => some (t.foldl (fun (m : Nat × Nat) (x : Nat × Nat) => if m.2 < x.2 then x else m) e)
/-- The entry of the lowest counter, the lower berth first among equals (R195). -/
def coldest : List (Nat × Nat) → Option (Nat × Nat)
  | [] => none
  | e :: t => some (t.foldl (fun (m : Nat × Nat) (x : Nat × Nat) => if x.2 < m.2 then x else m) e)

/-- The berth that a promotion demotes first: stack-backed, AUTO, without PIN, its counter at or below ColdThreshold, its
owner within Q_BULK (R195, R204). -/
def Block.victim (p : Block) (d cold : Nat) : Option Nat :=
  if p.rawFree d 1 < 64 ∨ !p.tierOpen d 1 then none
  else
    (coldest (((p.berthsOf d).filter (fun e => e.2.st == .steady && e.2.tier == 0 && !e.2.pin && decide (e.2.counter ≤ cold) &&
      p.auto e.1 && !p.moving e.1 && p.ownerRoom e.1 1)).map (fun e => (e.1, e.2.counter)))).map Prod.fst

/-- The moves of an epoch in order, from the candidates left and the budget left (R195). -/
def Block.plan (d cold : Nat) : Nat → Block → List (Nat × Nat) → Nat → List (Nat × Nat)
  | 0, _, _, _ => []
  | fuel + 1, p, cands, budget =>
    if budget = 0 then []
    else
      match hottest cands with
      | none => []
      | some (n, c) =>
        let rest := cands.filter (· != (n, c))
        if !p.ownerRoom n 0 then Block.plan d cold fuel p rest budget
        else if p.freeFrames d 0 ≠ 0 then (n, 0) :: Block.plan d cold fuel (p.planMove n 0) rest (budget - 1)
        else
          match p.victim d cold with
          | none => []
          | some m => (m, 1) :: (n, 0) :: Block.plan d cold fuel ((p.planMove m 1).planMove n 0) rest (budget - 1)

/-- MIGRATION_EPOCH: an epoch of a domain ends: promotions and demotions are planned and started, and every counter is halved
(R195). -/
def execMigrationEpoch (d : Nat) (s : State) : Host.Outcome State Fault Refusal :=
  s.run (fun b =>
    if 8 ≤ d then b
    else
      let hot := b.cfg 0x32000053 16; let cold := b.cfg 0x32000054 1; let budget := b.cfg 0x32000055 8192
      let cands := ((b.berthsOf d).filter (fun e => e.2.st == .steady && e.2.tier == 1 && b.auto e.1 && decide (hot ≤ e.2.counter) &&
        b.ownerRoom e.1 0 && !b.moving e.1)).map (fun e => (e.1, e.2.counter))
      let ms := if b.tierOpen d 0 then Block.plan d cold (cands.length + 1) b cands budget else []
      let b1 := b.queueMoves d ms
      { b1 with berths := b1.berths.map (fun (e : Nat × Berth) =>
          if e.1 / 2 ^ 24 = d then (e.1, { e.2 with counter := e.2.counter / 2 }) else e) })

/-- The lines that a copy met uncorrectable stand in the destination frame as poison (R196, R395). -/
def Block.poisonFrame (b : Block) (tier d frame : Nat) (bad : List Nat) : Block :=
  bad.foldl (fun (a : Block) i =>
    if 1024 ≤ i ∨ (a.frameLine tier d frame i).2 then a
    else { a with memPoison := sput a.memPoison (memKey tier d frame (i * 64) / 64),
                  errors := { a.errors with made := tinc a.errors.made 4 1 } }) b

/-- BERTH_MOVE_FLIP: the copy of a berth is complete and no channel of either frame is held: FRAME and TIER flip in one step;
the lines that the copy met uncorrectable stand in the destination as poison (R196, R209, R395). -/
def execBerthMoveFlip (d : Nat) (moved : MovedBerth) (s : State) : Host.Outcome State Fault Refusal :=
  s.run (fun b0 =>
    let berth := moved.berth
    let x := b0.berth berth
    if x.st ≠ .copying ∨ berth / 2 ^ 24 ≠ d ∨ b0.tierHeld d x.tier ∨ b0.tierHeld d x.destTier then b0
    else
      let b := b0.poisonFrame x.destTier d x.dest moved.bad
      let b1 := ((b.setBerth berth { x with st := .steady, tier := x.destTier, frame := x.dest }).freeFrame d x.tier x.frame).updDomain d
        (fun y => { y with
          promotions := y.promotions + (if x.tier = 1 ∧ x.destTier = 0 then 1 else 0)
          demotions := y.demotions + (if x.tier = 0 ∧ x.destTier = 1 then 1 else 0) })
      let b2 := if (b1.domain d).retiring.contains (x.destTier, x.dest) then b1.queueMoves d [(berth, x.destTier)] else b1
      let b3 := if (b2.domain d).tier = .evacuating ∧ x.destTier = 0 then b2.queueMoves d [(berth, 1)] else b2
      (b3.startQueued d).checkWaits d)

/-- FRAME_ZEROED: a freed frame has been zeroed and joins the free pool (R190). -/
def execFrameZeroed (d tier frame : Nat) (s : State) : Host.Outcome State Fault Refusal :=
  s.run (fun b =>
    if !(b.domain d).zeroing.contains (tier, frame) then b
    else
      (((b.clearFrame tier d frame).updDomain d (fun y => { y with zeroing := y.zeroing.filter (· != (tier, frame)) })).startQueued d).checkWaits d)

/-! ### Holds, evacuation, repair (R205 to R208) -/

/-- EVACUATE: the evacuation of a domain's stack tier by hand; BUSY unless the tier is NORMAL or its evacuation is deferred
(R194, R206). -/
def execEvacuate (role : Role) (d : Nat) (s : State) : Host.Outcome State Fault Refusal :=
  s.run (fun b => b.cmd role .operator 0x32 (fun b0 =>
    let x := b0.domain d
    if 8 ≤ d then b0.refuse .badRegion
    else if !([TierSt.normal, .deferred].contains x.tier) || x.waits.any (fun (w : TierWait) => w.what != 2) then b0.refuse .busy
    else
      let b1 := b0.accept objTier
      (b1.addWait d { what := 3, cmd := b1.cmds.count, key := d }).startEvac d))

/-- Starts the return of a stack tier: STACK-policy berths are copied back (R206). -/
def Block.startReturn (b : Block) (d : Nat) : Block :=
  let b1 := b.setTier d .returning
  b1.queueMoves d (((b1.berthsOf d).filter (fun e => e.2.st == .steady && e.2.tier == 1 &&
    (match b1.regionOf e.1 with | some r => r.policy == .stack | none => false))).map (fun e => (e.1, 0)))

/-- RETURN: the return of an evacuated stack tier by hand (R194, R206). -/
def execTierReturn (role : Role) (d : Nat) (s : State) : Host.Outcome State Fault Refusal :=
  s.run (fun b => b.cmd role .operator 0x32 (fun b0 =>
    if 8 ≤ d then b0.refuse .badRegion
    else if (b0.domain d).tier = .normal then b0.done objTier 0
    else if (b0.domain d).tier ≠ .evacuated then b0.refuse .busy
    else
      let b1 := b0.accept objTier
      let b2 := (stackChannels d).foldl (fun (a : Block) c => a.updChannel c (fun y =>
        { y with st := if y.st = .evacuated then .up else y.st })) (b1.addWait d { what := 4, cmd := b1.cmds.count, key := d })
      b2.startReturn d))

/-- EVACUATION_DONE: no berth is backed by the stack tier any more: the domain is EVACUATED and repair of the channel that
asked for it starts (R206). -/
def execEvacuationDone (d : Nat) (s : State) : Host.Outcome State Fault Refusal :=
  s.run (fun b =>
    if (b.domain d).tier ≠ .evacuating ∨ b.onStack d ≠ [] then b
    else
      let b1 := b.setTier d (if (b.domain d).repairing.isSome then .repairing else .evacuated)
      let b2 := (stackChannels d).foldl (fun (a : Block) c => a.updChannel c (fun y =>
        { y with st := if y.st = .lost then .lost else .evacuated })) b1
      b2.endWaits d (fun w => w.what == 3))

/-- REPAIR_DONE: the repair of the stack channel passes, and the return starts, or fails, and the domain runs on bulk alone
(R206). -/
def execRepairDone (d : Nat) (pass : Bool) (s : State) : Host.Outcome State Fault Refusal :=
  s.run (fun b =>
    if !([TierSt.evacuated, .repairing].contains (b.domain d).tier) then b
    else
      let st : ChanSt := if pass then .up else .offline
      let b1 := (stackChannels d).foldl (fun (a : Block) c => a.updChannel c (fun y => { y with st := st, retrains := 0 })) b
      let b2 := b1.updDomain d (fun y => { y with repairing := none })
      if pass then b2.startReturn d
      else ((b2.setTier d .offline).raise (unitDomain d) .stackOffline [d]).setAlert 10)

/-- RETURN_DONE: the STACK-policy berths are back and the domain is NORMAL (R206). -/
def execReturnDone (d : Nat) (s : State) : Host.Outcome State Fault Refusal :=
  s.run (fun b =>
    let x := b.domain d
    if x.tier ≠ .returning ∨ x.moveQueue.any (fun m => m.2 == 0) = true ∨
        (b.berthsOf d).any (fun e => e.2.st == .copying && e.2.destTier == 0) = true then b
    else
      let b1 := (b.setTier d .normal).endWaits d (fun w => w.what == 4)
      if (List.range 8).all (fun i => (b1.domain i).tier == .normal) then b1.clearAlert 10 else b1)

/-- EVACUATION_RETRY: a deferred evacuation is tried again (R207). -/
def execEvacuationRetry (d : Nat) (s : State) : Host.Outcome State Fault Refusal :=
  s.run (fun b => if (b.domain d).tier = .deferred then b.startEvac d else b)

/-- Holds a channel for a retrain (R205). -/
def Block.holdChannel (b : Block) (ch : Nat) (cmd : Option (Nat × Nat)) : Block :=
  b.updChannel ch (fun x => { x with st := .held, retrains := x.retrains + 1, cmd := cmd })

/-- CHANNEL_RETRAIN: a channel is held and retrained; a channel that needs it too often, or corrects too much, enters the
repair path; one that cannot be read at all is LOST (R205, R206; 20 R440 for a DDR5 channel). -/
def execChannelRetrain (ch : Nat) (tooOften unreadable : Bool) (s : State) : Host.Outcome State Fault Refusal :=
  s.run (fun b =>
    let d := chanDomain ch; let x := b.channel ch
    if 272 ≤ ch ∨ x.st ≠ .up then b
    else if ch < 256 then
      if unreadable then b.loseChannels d [ch]
      else if tooOften then (b.holdChannel ch none).repairPath d ch
      else b.holdChannel ch none
    else if unreadable then
      ((b.updChannel ch (fun y => { y with st := .lost })).raise (unitChannel ch) .bulkOffline [ch - 256]).setAlert 11
    else if tooOften then
      match b.takeOutStart ch with
      | .ok c => (c.holdChannel ch none).updChannel ch (fun y => { y with repair := true })
      | .error _ => b.holdChannel ch none
    else b.holdChannel ch none)

/-- What a held channel kept waiting goes on: requests in the slices' queues, copies of berths, returns of layers, fault records
and what the ports owe and have to read (R196, R198, R205, R224, R294, R296, R298). -/
def Block.resumeHeld (b : Block) (d : Nat) : Block :=
  let b1 := b.serveWaiting.startQueued d
  let b2 := ((b1.domain d).streams.map (fun (t : Stream) => t.num)).foldl (fun (a : Block) n => a.syncStream n) b1
  let b3 := (b2.contexts.map Prod.fst).foldl (fun (a : Block) c => a.flushFaults c) (b2.checkWaits d)
  [0, 1].foldl (fun (a : Block) p => a.portResume p) b3

/-- CHANNEL_RETRAIN_DONE: the retrain ends and the held requests proceed; one made by command completes (R205, R409). -/
def execChannelRetrainDone (ch : Nat) (s : State) : Host.Outcome State Fault Refusal :=
  s.run (fun b =>
    let x := b.channel ch
    if 272 ≤ ch ∨ x.st ≠ .held then b
    else
      let b1 := (b.setChannel ch { x with st := .up, cmd := none }).resumeHeld (chanDomain ch)
      match x.cmd with
      | some c => b1.finishSts c.2 c.1 .ok
      | none => b1)

/-- ROW_REMAP: a row trips its trigger: it is remapped to a spare, or the remap is deferred to the next start while the
channel is held or evacuating, or, with the spares used up, each frame with a row there retires; lines found uncorrectable
become poison (R188, R208). A remap is recorded in the repair map. `frames` names the frames of a DDR5 row; a stack row is a row of one frame. -/
def execRowRemap (ch bank row : Nat) (frames uncorrectable : List Nat) (s : State) : Host.Outcome State Fault Refusal :=
  s.run (fun b =>
    let d := chanDomain ch; let x := b.channel ch; let tier := if ch < 256 then 0 else 1
    let fs := if ch < 256 then [row] else frames
    let blocked := x.st == .held || (decide (ch < 256) && (b.domain d).tier == .evacuating) || x.svc == .evacuating
    if 272 ≤ ch ∨ !([ChanSt.up, .held].contains x.st) then b
    else if blocked then
      if x.deferredRows.contains (bank, row) then b
      else b.setChannel ch { x with deferredRows := x.deferredRows ++ [(bank, row)] }
    else
      let bad := uncorrectable.filter (fun i => decide (i < 1024) && b.chanAt tier d (i * 64) == ch)
      let poisoned := fs.foldl (fun (a : Block) f => bad.foldl (fun (c : Block) i =>
        { c with memPoison := sput c.memPoison (memKey tier d f (i * 64) / 64),
                 errors := { c.errors with made := tinc c.errors.made 4 1 } }) a) b
      let spare := if ch < 256 then decide (tget 0 x.spareRows bank < 32) else decide (x.ppr < Config.pprResources ch)
      if spare then
        (poisoned.updChannel ch (fun y => { y with
          spareRows := if ch < 256 then tinc y.spareRows bank 1 else y.spareRows
          ppr := if ch < 256 then y.ppr else y.ppr + 1
          remapped := tinc y.remapped (bank * 2 ^ 22 + row) 1 })).noteRepair
      else fs.foldl (fun (a : Block) f => a.retireFrame d tier f) poisoned)

/-! ### Ends of requests and of sinkers (04 R113; 18 R404) -/

/-- Whether the lower tier that a hardware context waits for is still late (R113, R202). -/
def Block.stillLate (b : Block) (k : Nat) : Bool :=
  let w := b.hw k; let d := w.lateDomain
  match w.lateKind with
  | 0 => false
  | 1 => (b.domain d).streams.any (fun (t : Stream) => t.num == w.lateStream && !t.resident.contains w.lateLayer)
  | 2 | 3 => b.domHeld d
  | 4 => (List.range 2).any (fun i => (b.sinker (2 * d + i)).throttle == .stopped || b.sinkHeld (2 * d + i))
  | _ => true

/-- LATENESS_EXPIRY: a wait on a lower tier passes the lateness limit: TIER_LATE with the DETAIL of the wait, and the
context lives on (R113, R202, R210); so does the wait of a descriptor whose program has ended (R178). -/
def execLatenessExpiry (l h : Nat) (s : State) : Host.Outcome State Fault Refusal :=
  s.run (fun b =>
    let k := hwNo l h; let w := b.hw k
    let waits := match w.phase with | .running => true | .ended 0 _ => w.lateKind == 4 || w.lateKind == 3 | _ => false
    if !waits ∨ !b.stillLate k then b
    else (b.endReq k 0x10 w.lateKind).updDomain w.lateDomain (fun y => { y with lateWaits := y.lateWaits + 1 }))

/-- SINKER_LOST: a sinker die gives no heartbeat: its descriptors end their requests with TIER_FAIL, DETAIL 4, and the
channels of both stacks of its domain become LOST (R178, R404). -/
def execSinkerLost (st : Nat) (s : State) : Host.Outcome State Fault Refusal :=
  s.run (fun b =>
    if 16 ≤ st ∨ (b.sinker st).lost then b
    else
      let ops := (b.sinker st).ops
      let b1 := b.updSinker st (fun x => { x with lost := true })
      let b2 := ops.foldl (fun (a : Block) (o : SinkOp) => (a.forSink o (fun c k => c.endReq k 0x30 4)).retireSink st { o with failed := true }) b1
      (b2.raise (unitNo 0x30 st) .sinkerLost [st]).loseChannels (st / 2) (stackChannels (st / 2)))

end Sys2Proof.Machine
end

