-- ==== Sys2Proof/Machine/Protocol.lean ====
section
/-! DEFINITION. The coherence protocol message by message: requests, snoops, responses and data at a line's home (11 R254 to
R261). A request is served at once on a line that is not BUSY; on a BUSY line it waits in order. -/

namespace Sys2Proof.Machine

/-- Goes on with the line behind a physical address; unmapped space refuses the message (R402). -/
def Block.atLine (b : Block) (pa : Nat) (f : Nat → Block) : Block :=
  match b.dom pa with
  | none => b
  | some a => f (a / 64)

/-- A request arrives at its home: it is served, or it waits in the slice's queue, in order of arrival, behind the transaction
in flight, a held channel or a full directory set (R205, R255, R259). -/
def Block.requestLine (b : Block) (ln : Nat) (r : HomeReq) : Block :=
  if b.busy ln || (b.line ln).queue != [] || b.reqWaits ln r then b.updLine ln (fun l => { l with queue := l.queue ++ [r] })
  else b.serve ln r

/-- A request on the line behind a physical address. -/
def Block.request_ (b : Block) (pa : Nat) (r : HomeReq) : Block := b.atLine pa (fun ln => b.requestLine ln r)

/-! ### Errors found at an access (18 R395; 11 R262) -/

/-- A memory decoder meets an uncorrectable codeword in a read for the home: the poison pattern is written back in place
and MEM_UNCORRECTABLE raised once for the line (R395 point 1). -/
def Block.memPoisonAt (b : Block) (ln : Nat) : Block :=
  let x := b.berth (ln / 1024)
  if x.st = .vacant ∨ x.st = .failed ∨ (b.memLine ln).2 then b
  else
    let c := b.putMem ln (b.memLine ln).1 true
    ({ c with errors := { c.errors with made := tinc c.errors.made 1 1 } }).record (unitTile (tileOf (ln / 2 ^ 34))) .memUncorrectable
      [ln * 64] (errRec 1 (if x.tier = 0 then 0x0E else 0x0F) (ln * 64))

/-- A decoder corrects one symbol in a read for the home: the corrected line is written back, and its row's count rises
(R185, R208). -/
def Block.memCorrected (b : Block) (ln : Nat) : Block :=
  let x := b.berth (ln / 1024)
  match b.chan ln with
  | none => b
  | some c => b.updChannel c (fun y => { y with rowCounts := tinc y.rowCounts (x.tier * 2 ^ 23 + x.frame) 1 })

/-- A double-bit error in the tags of a home slice, keep-cache slice or directory: the set's 16 ways are disabled,
ARRAY_UNCORRECTABLE is raised and the module drains (R262). What the set held leaves it as by an eviction (log entry 46). -/
def Block.disableSet (b : Block) (tile key : Nat) (leave : Block → Nat → Block) : Block :=
  let ls := (b.pset key).ways.map Prod.snd
  let b1 := ls.foldl leave b
  let b2 := b1.updPset key (fun p => { p with ways := [], disabled := true })
  (b2.record (unitTile tile) .arrayUncorrectable [key] (errRec 4 0x07 key)).suspect .arrayUncorrectable [key]

/-! ### Requests -/

/-- RD_S: a shared read at the home; an uncorrectable codeword in the memory it reads, or in the slice's tags, comes out
(R256, R262, R395). -/
def execRdS (a pa : Nat) (ecc : Ecc) (s : State) : Host.Outcome State Fault Refusal :=
  s.run (fun b => b.atLine pa (fun ln =>
    let c := match ecc with
      | .clean => b
      | .corrected => if (b.line ln).slice.isNone && !b.busy ln && !b.failed ln then b.memCorrected ln else b
      | .uncorrectable => if (b.line ln).slice.isNone && !b.busy ln then b.memPoisonAt ln else b
      | .tagDouble => b.disableSet (tileOf (ln / 2 ^ 34)) (sliceKey ln) (fun (x : Block) v => x.evictSlice v)
    if thas (c.line ln).copies a then c else c.request_ pa { kind := .rdS, agent := a }))

/-- RD_X: an exclusive read at the home (R256). -/
def execRdX (a pa : Nat) (s : State) : Host.Outcome State Fault Refusal :=
  s.run (fun b => b.atLine pa (fun ln => if thas (b.line ln).copies a then b else b.request_ pa { kind := .rdX, agent := a }))

/-- UPG: a store to a line held in S (R256). -/
def execUpg (a pa : Nat) (s : State) : Host.Outcome State Fault Refusal :=
  s.run (fun b => b.atLine pa (fun ln =>
    match tfind (b.line ln).copies a with
    | some c => if c.st = .s then b.request_ pa { kind := .upg, agent := a } else b
    | none => b))

/-- RD_ONCE: a read of the current value with no copy left (R256). -/
def execRdOnce (a pa : Nat) (s : State) : Host.Outcome State Fault Refusal :=
  s.run (fun b => b.request_ pa { kind := .rdOnce, agent := a })

/-- WR_LINE: a whole line is written into the slice (R256). -/
def execWrLine (a pa : Nat) (data : Line) (s : State) : Host.Outcome State Fault Refusal :=
  s.run (fun b => b.request_ pa { kind := .wrLine, agent := a, data := data })

/-- WR_PART: a masked write merged into the slice (R256). -/
def execWrPart (a pa : Nat) (mask : W64) (data : Line) (s : State) : Host.Outcome State Fault Refusal :=
  s.run (fun b => b.request_ pa { kind := .wrPart, agent := a, data := data, mask := mask })

/-- ATOM: a far atomic at the home, naturally aligned (R139, R258). -/
def execHomeAtom (a pa : Nat) (op : AtomOp) (w64 : Bool) (x cmp : W64) (s : State) : Host.Outcome State Fault Refusal :=
  s.run (fun b =>
    if pa % (if w64 then 8 else 4) ≠ 0 then b
    else b.request_ pa { kind := .atom, agent := a, off := pa % 64, op := op, w64 := w64, x := x, cmp := cmp })

/-- WATCH: registers a watcher, or is refused with NO_WATCH and counted (R260). -/
def execWatch (id pa : Nat) (s : State) : Host.Outcome State Fault Refusal :=
  s.run (fun b => if 75 ≤ id then b else b.request_ pa { kind := .watch, agent := id })

/-- UNWATCH: removes a watcher (R260). -/
def execUnwatch (id pa : Nat) (s : State) : Host.Outcome State Fault Refusal :=
  s.run (fun b => b.request_ pa { kind := .unwatch, agent := id })

/-- WB: the eviction of an M line writes its data into the slice; one for a line already invalidated is discarded (R256,
R269). -/
def execWb (a pa : Nat) (s : State) : Host.Outcome State Fault Refusal :=
  s.run (fun b => b.atLine pa (fun ln =>
    match tfind (b.line ln).copies a with
    | some c =>
      if c.st = .m then
        let b1 := (b.mergeCopy a ln).dropCopy a ln
        if (b1.line ln).dir = .owned a then b1.undir a ln else b1
      else b
    | none => b))

/-- EVICT_CLEAN: the eviction of an E line clears the owner (R254, R256). -/
def execEvictClean (a pa : Nat) (s : State) : Host.Outcome State Fault Refusal :=
  s.run (fun b => b.atLine pa (fun ln =>
    match tfind (b.line ln).copies a with
    | some c =>
      if c.st = .e then
        let b1 := b.dropCopy a ln
        if (b1.line ln).dir = .owned a then b1.undir a ln else b1
      else b
    | none => b))

/-! ### Snoops -/

/-- Takes a snoop that was sent to an agent and goes on with its copy. -/
def Block.snooped (b : Block) (a pa : Nat) (k : Snoop) (go : Block → Nat → Txn → Option Copy → Block) : Block :=
  b.atLine pa (fun ln =>
    match (b.line ln).busy with
    | some t =>
      if t.snoops.contains (a, k) then
        go (b.updTxn ln (fun u => { u with snoops := u.snoops.filter (· != (a, k)) })) ln t (tfind (b.line ln).copies a)
      else b
    | none => b)

/-- SNP_INV: the agent drops its copy and answers INV_ACK (R254, R256). -/
def execSnpInv (a pa : Nat) (s : State) : Host.Outcome State Fault Refusal :=
  s.run (fun b => b.snooped a pa .inv (fun c ln _ _ =>
    (c.dropCopy a ln).updTxn ln (fun u => { u with acks := u.acks ++ [a] })))

/-- An owner's data as it is forwarded: marked poison where its parity fails, which the home notes (R262, R395 point 2). -/
def Block.forwarded (b : Block) (a ln : Nat) (c : Copy) (parity : Bool) : Block :=
  if parity then
    let d := b.putSlice ln c.data true true
    { d with errors := { d.errors with made := tinc d.errors.made 2 1 } }
  else b.mergeCopy a ln

/-- SNP_FWD_S: the owner sends its data to the requester, a dirty line to the home too, and keeps S; an agent that no longer
holds the line answers INV_ACK, and the home sends the data (R254, R256). -/
def execSnpFwdS (a pa : Nat) (parity : Bool) (s : State) : Host.Outcome State Fault Refusal :=
  s.run (fun b => b.snooped a pa .fwdS (fun c ln t x =>
    match x with
    | none =>
      let d := c.fetchSlice ln
      (d.updLine ln (fun l => { l with dir := .owned t.req.agent })).updTxn ln
        (fun u => { u with acks := u.acks ++ [a], data := some (d.homeValue ln), gives := some .e })
    | some y =>
      let d := c.forwarded a ln y parity
      (d.updLine ln (fun l => { l with
        copies := tput l.copies a { y with st := .s, poison := y.poison || parity }
        dir := .shared (sput [a] t.req.agent) })).updTxn ln
        (fun u => { u with downs := u.downs ++ [a], data := some (y.data, y.poison || parity) })))

/-- SNP_FWD_X: the owner sends its data to the requester and drops its copy (R256). -/
def execSnpFwdX (a pa : Nat) (parity : Bool) (s : State) : Host.Outcome State Fault Refusal :=
  s.run (fun b => b.snooped a pa .fwdX (fun c ln _ x =>
    match x with
    | none =>
      let d := c.fetchSlice ln
      d.updTxn ln (fun u => { u with acks := u.acks ++ [a], data := some (d.homeValue ln) })
    | some y =>
      let d := if parity then c.forwarded a ln y true else c
      (d.dropCopy a ln).updTxn ln (fun u => { u with acks := u.acks ++ [a], data := some (y.data, y.poison || parity) })))

/-- SNP_PEEK: the owner returns the current value and keeps its state (R256). -/
def execSnpPeek (a pa : Nat) (parity : Bool) (s : State) : Host.Outcome State Fault Refusal :=
  s.run (fun b => b.snooped a pa .peek (fun c ln _ x =>
    match x with
    | none =>
      let d := c.fetchSlice ln
      d.updTxn ln (fun u => { u with acks := u.acks ++ [a], data := some (d.homeValue ln) })
    | some y =>
      let d := if parity then (c.forwarded a ln y true).updLine ln (fun l => { l with copies := tput l.copies a { y with poison := true } }) else c
      d.updTxn ln (fun u => { u with data := some (y.data, y.poison || parity) })))

/-- SNP_RECALL: the owner returns its data to the home and drops its copy (R258). -/
def execSnpRecall (a pa : Nat) (parity : Bool) (s : State) : Host.Outcome State Fault Refusal :=
  s.run (fun b => b.snooped a pa .recall (fun c ln _ x =>
    let d := match x with
      | none => c
      | some y => (c.forwarded a ln y parity).dropCopy a ln
    d.updTxn ln (fun u => { u with acks := u.acks ++ [a] })))

/-! ### Responses and data -/

/-- Goes on with the transaction in flight of a line. -/
def Block.inTxn (b : Block) (pa : Nat) (go : Nat → Txn → Block) : Block :=
  b.atLine pa (fun ln => match (b.line ln).busy with | some t => go ln t | none => b)

/-- GRANT: a requester receives permission without data: its S copy becomes M (R256). -/
def execGrant (a pa : Nat) (s : State) : Host.Outcome State Fault Refusal :=
  s.run (fun b => b.inTxn pa (fun ln t =>
    if t.req.agent = a ∧ t.grant then
      let v := (tfind (b.line ln).copies a).getD { st := .m, data := (b.homeValue ln).1, poison := (b.homeValue ln).2 }
      (b.install a ln { v with st := .m }).updTxn ln (fun u => { u with grant := false, got := true })
    else b))

/-- DATA: a requester receives line data in the state it is granted; RD_ONCE leaves no copy (R256). -/
def execData (a pa : Nat) (s : State) : Host.Outcome State Fault Refusal :=
  s.run (fun b => b.inTxn pa (fun ln t =>
    if t.req.agent = a then
      match t.data with
      | some v =>
        let c := match t.gives with
          | some st => b.install a ln { st := st, data := v.1, poison := v.2 }
          | none => b
        c.updTxn ln (fun u => { u with data := none, got := true })
      | none => b
    else b))

/-- INV_ACK: an acknowledgement of an invalidation is counted (R256). -/
def execInvAck (a pa : Nat) (s : State) : Host.Outcome State Fault Refusal :=
  s.run (fun b => b.inTxn pa (fun ln t =>
    if t.acks.contains a then (b.updTxn ln (fun u => { u with acks := u.acks.filter (· != a) })).progress ln else b))

/-- DOWNGRADE_ACK: an owner's downgrade is counted (R256). -/
def execDowngradeAck (a pa : Nat) (s : State) : Host.Outcome State Fault Refusal :=
  s.run (fun b => b.inTxn pa (fun ln t =>
    if t.downs.contains a then (b.updTxn ln (fun u => { u with downs := u.downs.filter (· != a) })).progress ln else b))

/-- COMPLETE: the requester has its data and every acknowledgement; the transaction ends, but for a line lent under a watch,
which stays BUSY until it returns (R255, R261). -/
def execComplete (a pa : Nat) (s : State) : Host.Outcome State Fault Refusal :=
  s.run (fun b => b.inTxn pa (fun ln t =>
    if t.req.agent = a ∧ t.got ∧ !t.lent ∧ t.snoops = [] ∧ t.acks = [] ∧ t.downs = [] ∧ t.data = none ∧ !t.grant then
      if (b.line ln).watchers ≠ [] ∧ (t.gives = some .e ∨ t.gives = some .m) ∧ thas (b.line ln).copies a then
        b.updTxn ln (fun u => { u with lent := true })
      else b.endTxn ln
    else b))

/-- RECALL_DATA: a lent line returns to its home; its owner keeps S, and every watcher is told (R261). -/
def execRecallData (a pa : Nat) (s : State) : Host.Outcome State Fault Refusal :=
  s.run (fun b => b.inTxn pa (fun ln t =>
    if t.lent ∧ t.req.agent = a then
      match tfind (b.line ln).copies a with
      | some c =>
        let b1 := b.putSlice ln c.data true c.poison
        let b2 := b1.updLine ln (fun l => { l with copies := tput l.copies a { c with st := .s }, dir := .shared [a] })
        (b2.notify ln).endTxn ln
      | none => (b.notify ln).endTxn ln
    else b))

/-- MOVED: the keep cache or an L3 reports that a line went from one to the other; on a BUSY line too, where the home sends
the snoops that the line's old holder has not answered to its new one (R257, R259). -/
def execMoved (a a' pa : Nat) (s : State) : Host.Outcome State Fault Refusal :=
  s.run (fun b => b.atLine pa (fun ln =>
    let l3 (x : Nat) : Bool := decide (64 ≤ x ∧ x < 72)
    if ((l3 a && a' == 72) || (a == 72 && l3 a')) && thas (b.line ln).copies a && !thas (b.line ln).copies a' then
      (b.moveCopy a a' ln).updTxn ln (fun u => { u with
        snoops := u.snoops.map (fun (x : Nat × Snoop) => if x.1 = a then (a', x.2) else x) })
    else b))

end Sys2Proof.Machine
end

