-- ==== Sys2Proof/Machine/Arrays.lean ====
section
/-! DEFINITION. Errors in the structures of R393 that no command of their own names: the arrays of a lantern die, the watch table,
the berth store, and units that correct too much (18 R393, R395, R400; log entry 93). -/

namespace Sys2Proof.Machine

/-- One more structure poisoned by an error of its own (R395 point 5). -/
def Block.madeInDie (b : Block) : Block := { b with errors := { b.errors with made := tinc b.errors.made 5 1 } }

/-- An error in an entry of a chart: the entry is dropped, and the next lookup walks (R393). -/
def Chart.dropEntry (t : Chart) (which i : Nat) : Chart :=
  match which with
  | 0 => { t with tlb := t.tlb.map (fun (e : Nat × TlbSet) =>
      if e.1 = i / 8 then (e.1, { e.2 with ways := tdel e.2.ways (i % 8) }) else e) }
  | 1 => { t with ranges := t.ranges.eraseIdx i }
  | _ => { t with walks := t.walks.eraseIdx i }

/-- An uncorrectable error in an array of a lantern die (R393, R395, R400): the line, half, A buffer or entry is poisoned; sequencer
state is consumed at once; the vectors give VECTOR_BAD. -/
def Block.dieErr (b : Block) (l : Nat) (e : ArrayErr) : Block :=
  match e with
  | .lensLine i =>
    if 524288 ≤ i then b else (b.updLantern l (fun x => { x with lensPoison := sput x.lensPoison i })).madeInDie
  | .laneHalf n =>
    if 32 ≤ n ∨ ((b.beam (beamNo l (n / 2))).half (n % 2)).st = .empty then b
    else (b.updHalf l n (fun y => { y with poison := true })).madeInDie
  | .aBuffer id =>
    let hit (o : BeamOp) : BeamOp := if o.id = id ∧ o.staged.isSome then { o with aPoison := true } else o
    if (b.beamOps l).any (fun (o : BeamOp) => o.id == id && o.staged.isSome) then
      ((List.range 16).foldl (fun (c : Block) m => c.updBeam (beamNo l m) (fun x => { x with
        queue := x.queue.map hit, run := x.run.map hit })) b).madeInDie
    else b
  | .accEntry set i =>
    if 32 ≤ set ∨ 16384 ≤ i ∨ (b.accSet (l * 32 + set)).st = .free then b
    else (b.updAccSet (l * 32 + set) (fun x => { x with entries := tput x.entries i { tget {} x.entries i with poison := true } })).madeInDie
  | .sequencer h => if h < 4 ∧ (b.hw (hwNo l h)).phase = .running then b.poisonHit (hwNo l h) 5 h else b
  | .vectors => b.updLantern l (fun x => { x with vectorsBad := true })
  | .chartEntry which i => b.updChart l (fun t => t.dropEntry which i)
  | _ => b

/-- An error in the watch-table entry of a line: the entry is dropped, every watcher of the slice gets a NOTICE and registers again, so
that the same watches stand (R393). -/
def Block.watchLost (b : Block) (ln : Nat) : Block :=
  if (b.line ln).watchers = [] then b
  else
    let slice := b.lines.filter (fun (e : Nat × LineSt) =>
      e.2.watchers != [] && e.1 / 2 ^ 34 == ln / 2 ^ 34 && sliceOf (e.1 * 64) == sliceOf (ln * 64))
    let c := slice.foldl (fun (c : Block) (e : Nat × LineSt) => c.notify e.1) b
    c.record (unitTile (tileOf (ln / 2 ^ 34))) .watchResync [tileOf (ln / 2 ^ 34), sliceOf (ln * 64)] (errRec 0 0x0C (ln * 64))

/-- An error in the berth-store entry of a berth: it is FAILED with no frame, whatever its state was; the frames that the entry named
stay out of the pool until the next start (R393). -/
def Block.berthLost (b : Block) (n : Nat) : Block :=
  let d := n / 2 ^ 24
  let c := b.cancelMove n
  let x := c.berth n
  ((c.setBerth n { st := .failed, counter := x.counter }).updDomain d (fun y => { y with orphans := y.orphans ++ berthFrames x })).record
    (unitDomain d) .berthMapError [d, n] (errRec 2 0x0D n)

/-- A unit has corrected more than 1,000 errors of one code within an hour; a lantern goes to the head of the off-watch rotation
(R393, R414). The unit is named as CACHE_SCRUB names its cache. -/
def Block.ratedUnit (b : Block) (cache pa code : Nat) : Block :=
  if cache < 64 then (b.record (unitNo 0x20 cache) .correctedRate [code] (errRec 0 code cache)).headOfWatch cache
  else if cache < 72 then b.record (unitNo 0x40 (0x200 + (cache - 64))) .correctedRate [code] (errRec 0 code (cache - 64))
  else if cache = 72 then b.record (unitTile 4) .correctedRate [code] (errRec 0 code 4)
  else if cache < 75 then
    let t := tileOf (pa / 2 ^ 40)
    b.record (unitTile t) .correctedRate [code] (errRec 0 code t)
  else
    let k := (cache - 75) / 48
    b.record (unitNo 0x40 (0x200 + k)) .correctedRate [code] (errRec 0 code k)

/-- An error in a structure of R393: of a lantern die by its number, of the watch table and the berth store at the home of an address
(cache 73). -/
def Block.arrayErr (b : Block) (cache pa : Nat) (e : ArrayErr) : Block :=
  match e with
  | .rate code => b.ratedUnit cache pa code
  | .watchEntry => if cache = 73 then b.atLine pa b.watchLost else b
  | .berthEntry => if cache = 73 then (match b.dom pa with | some a => b.berthLost (a / 65536) | none => b) else b
  | e => if cache < 64 ∧ (b.lantern cache).loss = .alive then b.dieErr cache e else b

end Sys2Proof.Machine
end

