-- ==== Sys2Proof/Machine/Ranges.lean ====
section
/-! DEFINITION. Range engines: what an operation does to a line, the doors of an engine, completion words and command rings
(11 R263 to R267; the hart door of 12 R282). -/

namespace Sys2Proof.Machine

/-! ### The operations on a line (R263) -/

/-- Lines of a physical range that a cache, a slice or a watch knows of. -/
def Block.rangeLines (b : Block) (base len : Nat) : List Nat :=
  (b.lines.map Prod.fst).filter (fun ln => decide (base ≤ b.linePa ln ∧ b.linePa ln < base + len))

/-- What a range operation has met so far (R265). -/
structure RangeAcc where
  blk : Block
  poison : Bool := false
  dropped : Bool := false

/-- CLEAN of one line: an M copy goes into the slice and stays as S; a dirty slice line goes to memory and stays clean, or is
dropped where its berth cannot take it (R192, R263). -/
def RangeAcc.clean (x : RangeAcc) (ln : Nat) : RangeAcc :=
  let own := (x.blk.line ln).copies.find? (fun (e : Nat × Copy) => e.2.st == .m)
  let b1 := match own with
    | some e =>
      (x.blk.placeSlice false ln e.2.data true e.2.poison).updLine ln (fun l => { l with copies := tput l.copies e.1 { e.2 with st := .s }, dir := .shared [e.1] })
    | none => x.blk
  match (b1.line ln).slice with
  | none => { x with blk := b1 }
  | some s =>
    let p := x.poison || s.poison
    if !s.dirty then { x with blk := b1, poison := p }
    else
      let r := b1.writeBack ln s.data s.poison
      if r.2 then { blk := (r.1.updLine ln (fun l => { l with slice := none })).unplace (sliceKey ln) ln, poison := p, dropped := true }
      else { x with blk := r.1.updLine ln (fun l => { l with slice := some { s with dirty := false } }), poison := p }

/-- INVALIDATE of one line: every copy and the slice line are dropped; watches remain (R263). -/
def RangeAcc.inval (x : RangeAcc) (ln : Nat) : RangeAcc :=
  let b1 := (x.blk.line ln).copies.foldl (fun (c : Block) (e : Nat × Copy) => c.dropCopy e.1 ln) x.blk
  let b2 := (b1.setDir ln .untracked).updLine ln (fun l => { l with slice := none })
  { x with blk := (b2.unplace (sliceKey ln) ln).loseRes ln (fun _ => false) }

/-- A range operation on one line. -/
def RangeAcc.op (x : RangeAcc) (o : RangeOp) (ln : Nat) : RangeAcc :=
  match o with
  | .clean => x.clean ln
  | .invalidate => x.inval ln
  | .cleanInvalidate => (x.clean ln).inval ln

/-- Whether a range operation must wait on a line: it is BUSY, or its write-back meets a held channel (R205, R263). -/
def Block.rangeWaits (b : Block) (o : RangeOp) (ln : Nat) : Bool :=
  let dirty := (b.line ln).copies.any (fun (e : Nat × Copy) => e.2.st == .m) ||
    (match (b.line ln).slice with | some s => s.dirty | none => false)
  b.busy ln || (o != .invalidate && dirty && b.chanHeld ln)

/-- Whether a physical range and operation satisfy R263 and R264. -/
def Block.rangeGood (b : Block) (base len : Nat) : Bool :=
  decide (base % 64 = 0 ∧ len % 64 = 0 ∧ 64 ≤ len ∧ len ≤ 2 ^ 40) && b.rangeOk base len
/-- Whether a completion word can stand at an address (R264). -/
def Block.wordGood (b : Block) (pa : Nat) : Bool := decide (pa % 8 = 0) && (b.dom pa).isSome

/-- Whether a range meets a LOST stack channel (R269): a stack frame spans every channel of its domain (R188). -/
def Block.rangeLost (b : Block) (base len : Nat) : Bool :=
  b.berths.any (fun (e : Nat × Berth) =>
    e.2.st != .vacant && e.2.tier == 0 && decide (base < b.linePa (e.1 * 1024) + 65536 ∧ b.linePa (e.1 * 1024) < base + len) &&
    (stackChannels (e.1 / 2 ^ 24)).any (fun c => (b.channel c).st == .lost))

/-- An engine runs a command on its whole range, and its completion word remains to be written; none while a line makes it
wait. A command with a RESULT other than OK has no effect (R265, R267). -/
def Block.rangeRun (b : Block) (t : Nat) (c : RangeCmd) : Option Block :=
  let put (x : Block) (r : RangeCmd) : Block :=
    x.updTile t (fun y => { y with running := y.running ++ [{ r with id := y.nextId }], nextId := y.nextId + 1 })
  if 4 ≤ (b.tile t).running.length then none
  else if c.result ≠ 0 then some (put b c)
  else
    let ls := b.rangeLines c.base c.length
    if ls.any (b.rangeWaits c.op) then none
    else
      let x := ls.foldl (fun (a : RangeAcc) ln => a.op c.op ln) { blk := b }
      some (put x.blk { c with poisonSeen := x.poison || (c.op != .invalidate && b.rangeLost c.base c.length), dropped := x.dropped })

/-! ### Doors (R264, R266, R282) -/

/-- OP codes of R264. -/
def rangeOpOf (n : Nat) : Option RangeOp :=
  if n = 1 then some .clean else if n = 2 then some .invalidate else if n = 3 then some .cleanInvalidate else none

/-- The command that an ask becomes: BAD_RANGE where its range or completion word breaks R263 or R264. -/
def Block.askCmd (b : Block) (a : RangeAsk) : RangeCmd :=
  { id := 0, op := a.op, base := a.base, length := a.length, completion := a.completion, token := a.token, slot := a.slot,
    result := if b.rangeGood a.base a.length && b.wordGood a.completion then 0 else 1 }

/-- Whether every berth of a range and the completion word lie in regions of a context (R266). -/
def Block.ringOwns (b : Block) (c base len : Nat) : Bool :=
  (List.range (len / 4096 + 2)).all (fun i =>
    let p := if i = 0 then base else min ((base / 4096 + i) * 4096) (base + len - 1)
    match b.dom p with
    | some a => (match b.regionOf (a / 65536) with | some r => r.owner == c | none => false)
    | none => false)
/-- Whether a completion word lies in a region of a context (R266). -/
def Block.wordOwned (b : Block) (c pa : Nat) : Bool :=
  b.wordGood pa && (match b.dom pa with
    | some a => (match b.regionOf (a / 65536) with | some r => r.owner == c | none => false)
    | none => false)

/-- The command of a ring record and its RESULT (R265, R266). -/
def Block.ringCmd (b : Block) (r : Ring) (w : BitVec 256) (op : RangeOp) : RangeCmd :=
  let base := fld w 64 64; let len := fld w 128 64
  let res :=
    if fld w 0 4 ≠ 1 then 3
    else if fld w 6 2 ≠ 0 ∨ fld w 16 16 ≠ 0 then 4
    else if fld w 4 2 = 0 then 1
    else if fld w 8 8 ≠ r.ctx then 2
    else if !b.rangeGood base len then 1
    else if !b.ringOwns r.ctx base len then 2 else 0
  { id := 0, op := op, base := base, length := len, completion := fld w 192 64, token := fld w 32 32, result := res }

/-- Moves a ring past its record. -/
def Block.ringPass (b : Block) (t i : Nat) : Block :=
  b.updTile t (fun y => { y with rings := y.rings.map (fun (r : Ring) => if r.num = i then { r with pos := (r.pos + 1) % 2 ^ 32 } else r) })

/-- The engine takes the record at a ring's position, when it names the operation (or none, which is refused): a record whose
COMPLETION is not the context's is dropped (R265, R266). -/
def Block.ringTake (b : Block) (t i : Nat) (op : RangeOp) : Block :=
  match (b.tile t).rings.find? (fun (r : Ring) => r.num == i) with
  | none => b
  | some r =>
    match b.readAt r.header 4 with
    | .error _ => b
    | .ok tail =>
      if tail = r.pos then
        b.updTile t (fun y => { y with rings := y.rings.map (fun (x : Ring) => if x.num = i then { x with notice := false } else x) })
      else
        let pos := if 2 ^ r.log2 < (tail + 2 ^ 32 - r.pos) % 2 ^ 32 then (tail + 2 ^ 32 - 2 ^ r.log2) % 2 ^ 32 else r.pos
        let b0 := b.updTile t (fun y => { y with rings := y.rings.map (fun (x : Ring) => if x.num = i then { x with pos := pos } else x) })
        match b0.readAt (r.ring + 32 * (pos % 2 ^ r.log2)) 32 with
        | .error .wait => b
        | .error _ => (b0.ringPass t i).raise (unitTile t) .rangeCompletionUnreachable [i, pos]
        | .ok v =>
          let w : BitVec 256 := BitVec.ofNat 256 v
          let mine := (rangeOpOf (fld w 4 2)).getD op
          if mine ≠ op then b
          else if !b0.wordOwned r.ctx (fld w 192 64) then
            (b0.ringPass t i).raise (unitTile t) .rangeCompletionUnreachable [i, pos]
          else ((b0.rangeRun t (b0.ringCmd r w op)).map (fun c => c.ringPass t i)).getD b

/-- A door offers a command and the engine runs it (R264, R266, R267, R282). -/
def Block.rangeDoor (b : Block) (t : Nat) (d : Door) (op : RangeOp) : Block :=
  let ask (slot : Option Nat) : Block :=
    match (b.tile t).asks.find? (fun (a : RangeAsk) => a.slot == slot) with
    | some a =>
      if a.op ≠ op then b
      else
        let b0 := b.updTile t (fun y => { y with asks := y.asks.erase a })
        (b0.rangeRun t (b0.askCmd a)).getD b
    | none => b
  match d with
  | .slot k => ask (some k)
  | .hart => ask none
  | .ring i => b.ringTake t i op

/-- CLEAN: the engine writes back the dirty lines of a range (R263). -/
def execClean (t : Nat) (door : Door) (s : State) : Host.Outcome State Fault Refusal :=
  s.run (fun b => b.rangeDoor t door .clean)

/-- INVALIDATE: the engine drops every copy of a range's lines (R263). -/
def execInvalidate (t : Nat) (door : Door) (s : State) : Host.Outcome State Fault Refusal :=
  s.run (fun b => b.rangeDoor t door .invalidate)

/-- CLEAN_INVALIDATE: CLEAN, then INVALIDATE (R263). -/
def execCleanInvalidate (t : Nat) (door : Door) (s : State) : Host.Outcome State Fault Refusal :=
  s.run (fun b => b.rangeDoor t door .cleanInvalidate)

/-- The completion word of a command (R265). -/
def rangeWord (c : RangeCmd) : Nat :=
  c.token % 2 ^ 32 + c.result * 2 ^ 32 + (if c.poisonSeen then 2 ^ 36 else 0) + (if c.dropped then 2 ^ 37 else 0) + 2 ^ 63

/-- RANGE_COMMAND_DONE: the completion word is written through the home, and the slot tells of the command (R264, R265). -/
def execRangeCommandDone (t id : Nat) (s : State) : Host.Outcome State Fault Refusal :=
  s.run (fun b =>
    match (b.tile t).running.find? (fun (c : RangeCmd) => c.id == id) with
    | none => b
    | some c =>
      let finish (x : Block) : Block := x.updTile t (fun y => { y with
        running := y.running.filter (fun (z : RangeCmd) => z.id != id)
        done := tinc y.done c.result 1
        slots := match c.slot with
          | some k =>
            let z := tget {} y.slots k
            tput y.slots k { z with busy := false, lastResult := c.result, lastToken := c.token }
          | none => y.slots })
      match b.dom c.completion with
      | none => finish (b.raise (unitTile t) .rangeCompletionUnreachable [c.completion])
      | some a =>
        match b.write (a / 64) (byteMask (a % 64) 8) (linePut 0 (a % 64) 8 (rangeWord c)) false with
        | .ok d => finish d
        | .error (.wait, _) => b
        | .error (_, d) => finish (d.raise (unitTile t) .rangeCompletionUnreachable [c.completion]))

/-! ### Rings (R266) -/

/-- RangeCommand. -/
def objRange : Nat := 0x40000041

/-- REGISTER_RING: a ring of a context on a tile's engine, which watches the header line (R266). -/
def execRegisterRing (role : Role) (t c header ring log2 : Nat) (s : State) : Host.Outcome State Fault Refusal :=
  s.run (fun b => b.cmd role .operator 0x40 (fun b0 =>
    if 9 ≤ t ∨ 256 ≤ c then b0.refuse .outOfRange
    else if (b0.ctx c).st ≠ .active then b0.refuse .badState
    else if log2 < 4 ∨ 16 < log2 ∨ header % 64 ≠ 0 ∨ ring % 4096 ≠ 0 ∨ !b0.rangeOk header 64 ∨ !b0.rangeOk ring (32 * 2 ^ log2) then
      b0.refuse .badQueue
    else
      match (List.range 64).find? (fun i => !((b0.tile t).rings.any (fun (r : Ring) => r.num == i))), b0.lineAt header with
      | some i, some ln =>
        (match b0.readAt header 4 with
         | .error .wait => b
         | .error _ => b0.refuse .badQueue
         | .ok tail =>
           match b0.watch (66 + t) ln with
           | none => (b0.watchRefused ln).refuse .noSlot
           | some b1 =>
             (b1.updTile t (fun y => { y with rings := y.rings ++
               [{ num := i, ctx := c, header := header, ring := ring, log2 := log2, pos := tail, notice := false }] })).done objRange i)
      | _, _ => b0.refuse .noSlot))

/-- REMOVE_RING: the ring and its watch end (R266). -/
def execRemoveRing (role : Role) (t i : Nat) (s : State) : Host.Outcome State Fault Refusal :=
  s.run (fun b => b.cmd role .operator 0x40 (fun b0 =>
    match (b0.tile t).rings.find? (fun (r : Ring) => r.num == i) with
    | none => b0.refuse .outOfRange
    | some r =>
      let b1 := b0.updTile t (fun y => { y with rings := y.rings.filter (fun (x : Ring) => x.num != i) })
      let still := (b1.tile t).rings.any (fun (x : Ring) => b1.lineAt x.header == b1.lineAt r.header)
      let b2 := match b1.lineAt r.header with
        | some ln => if still then b1 else b1.unwatch (66 + t) ln
        | none => b1
      b2.done objRange 0))

end Sys2Proof.Machine
end

