-- ==== Sys2Proof/Machine/Losses.lean ====
section
/-! DEFINITION. Losing a die, reset domains and error banks (18 R393 to R412), and the background scrub of caches (11 R262). -/

namespace Sys2Proof.Machine

/-! ### The sweep of a lost agent (R269, R405) -/

/-- A copy leaves a lost agent; a line held in M or E becomes poison in the slice (R395 point 3). -/
def Block.sweepCopy (b : Block) (a ln : Nat) : Block :=
  match tfind (b.line ln).copies a with
  | none => b
  | some c =>
    let b1 := if c.st = .s then b
      else let d := b.putSlice ln c.data true true
        { d with errors := { d.errors with made := tinc d.errors.made 3 1 } }
    let b2 := b1.dropCopy a ln
    b2.undir a ln

/-- The data of a line that was on its way to a lost requester is lost (R395 point 3). -/
def Block.poisonSlice (b : Block) (ln : Nat) (v : Line) : Block :=
  let d := b.putSlice ln v true true
  { d with errors := { d.errors with made := tinc d.errors.made 3 1 } }

/-- A transaction in flight whose requester is lost ends; data granted to it in E or M is poison (R269, R405). -/
def Block.sweepRequester (b : Block) (ln : Nat) (t : Txn) : Block :=
  let granted := t.gives == some .m || t.gives == some .e
  let b1 := match t.data with | some v => if granted then b.poisonSlice ln v.1 else b | none => b
  (b1.recallAll ln).endTxn ln

/-- The snoops that a lost agent has not answered are answered by its tile (R269). -/
def Block.sweepSnoops (b : Block) (a ln : Nat) (t : Txn) : Block :=
  let mine := t.snoops.filter (fun (x : Nat × Snoop) => x.1 == a)
  if mine = [] then b
  else
    let data := mine.any (fun (x : Nat × Snoop) => x.2 == .fwdS || x.2 == .fwdX || x.2 == .peek)
    let b1 := b.updTxn ln (fun u => { u with
      snoops := u.snoops.filter (fun (x : Nat × Snoop) => x.1 != a)
      data := if data then some (b.homeValue ln) else u.data })
    let b2 := if mine.any (fun (x : Nat × Snoop) => x.2 == .fwdS) then
        b1.updLine ln (fun l => { l with dir := .shared [t.req.agent] }) else b1
    b2.progress ln

/-- What a home does with one line for a lost agent. -/
def Block.sweepLine (b : Block) (a ln : Nat) : Block :=
  let b1 := (b.sweepCopy a ln).updLine ln (fun l => { l with queue := l.queue.filter (fun (r : HomeReq) => r.agent != a || (r.kind.watches && decide (64 ≤ a))) })
  match (b1.line ln).busy with
  | none => b1
  | some t =>
    if t.req.agent = a ∧ [ReqKind.rdS, .rdX, .upg, .rdOnce].contains t.req.kind = true then b1.sweepRequester ln t
    else b1.sweepSnoops a ln t

/-- Every home sweeps its directory for a lost agent (R405). -/
def Block.sweepAgent (b : Block) (a : Nat) : Block :=
  (b.lines.map Prod.fst).foldl (fun (c : Block) ln => c.sweepLine a ln) b

/-! ### Losing a lantern (R405) -/

/-- The DETAIL of DIE_LOST for a cause (R400). -/
def lossDetail : LossCause → Nat
  | .heartbeat => 0 | .cacheTags => 1 | .port => 2 | .commanded => 4

/-- Traffic of a fenced die: what it sent is discarded, what is sent to it is discarded and counted as landed; its SINKs run
on for nobody (R119, R178, R405). -/
def Block.fenceTraffic (b : Block) (l : Nat) : Block :=
  { b with
    xfers := (b.xfers.filter (fun (x : Xfer) => x.lantern != l)).map (fun (x : Xfer) =>
      if x.peer = some l then { x with chunks := [] } else x)
    sinkers := b.sinkers.map (fun (e : Nat × Sinker) => (e.1, { e.2 with ops := e.2.ops.map (fun (o : SinkOp) =>
      if o.lantern = l then { o with lantern := 64, tally := none } else o) })) }

/-- The watches of a lost lantern are removed but for those of its queue slots, which pass to its tile (R261, R405, R407). -/
def Block.sweepWatches (b : Block) (l : Nat) : Block :=
  let b1 := (b.updChart l (fun t => { t with resume := [] }))
  let b2 := { b1 with hws := b1.hws.map (fun (e : Nat × Hw) => if e.1 / 4 = l then (e.1, { e.2 with watch := none }) else e) }
  (b2.lines.filter (fun (e : Nat × LineSt) => e.2.watchers.contains l)).foldl
    (fun (c : Block) (e : Nat × LineSt) => c.unwatchLamp l e.1) b2

/-- What the tile does at the Join step with a hardware context of a lost die: the request joins DIE_LOST; a record whose
take had not reached its completion record is left to the tile (R405, R407). -/
def Block.lostHw (b : Block) (l d h : Nat) : Block :=
  let k := hwNo l h
  match (b.hw k).phase with
  | .free => b
  | .held 1 => { b with hws := tdel b.hws k }
  | _ =>
    let c := b.updHw k (fun w => { w with phase := .ended 0x70 d, claimWant := [], waiting := false, lateKind := 0 })
    if (c.hw k).check.isSome then c.freeHw l h else c.joinHw l h (c.hw k).compPa 0x70 d

/-- The bearing checks that a lost lantern leaves: uncaptured ones of its own, and those whose program it ran, are dropped; one
that waits for it goes to the next lantern (R420, R428). -/
def Block.lostChecks (b : Block) (l : Nat) : Block :=
  b.checks.foldl (fun (c : Block) (x : Check) =>
    if x.stage = 0 then (if x.lantern = l then c.dropCheck x.id else c)
    else if x.turn ≠ some l then c
    else if (c.checkHw x.id).isSome then c.dropCheck x.id
    else c.assignCheck x) b

/-- The loss of a lantern: detect, fence, sweep, release and join (R405). A join whose line is BUSY follows with JOIN. -/
def Block.loseLantern (b : Block) (l d : Nat) : Block :=
  let cmd := (b.lantern l).cmd
  let b1 := (b.record (unitLantern l) .dieLost [l, d] (errRec 3 0x14 l 0xFF 0x70 d)).setAlert 17
  let b2 := (b1.fenceTraffic l).updLantern l (fun x => { x with
    loss := .fencing, lossDetail := d, stores := [], claimers := [], opPending := none, boost := false, relightWaits := false, promoteTo := none, cmd := none,
    measureWaits := none })
  let b3 := (List.range 16).foldl (fun (c : Block) i => c.updBeam (l * 16 + i) (fun y => { y with queue := [], run := none })) b2
  let b4 := (b3.sweepAgent l).sweepWatches l
  let b5 := ((b4.updChart l (fun t => { t with refs := [] })).tryDrops).dropMember l
  let b6 := b5.updLantern l (fun x => { x with loss := .lost })
  let b7 := [0, 1, 2, 3].foldl (fun (c : Block) h => c.lostHw l d h) ((b6.lostChecks l).updSilent (fun x => { x with
    watch := match x.watch with | .drain n sp => if n = l then .idle else .drain n sp | w => w }))
  let b8 := match cmd with | some c => b7.finishSts c.2 c.1 .badState | none => b7
  let b9 := match (b.lantern l).measureWaits with | some m => b8.finishSts objAgeing m.2 .badState | none => b8
  b9.needSpare l

/-- LANTERN_LOST: no heartbeat for 8 µs, a lost clock, a double-bit tag error or a failed vertical port (R403, R405). -/
def execLanternLost (l : Nat) (cause : LossCause) (s : State) : Host.Outcome State Fault Refusal :=
  s.run (fun b => if 64 ≤ l ∨ !b.tray.rails ∨ (b.lantern l).loss ≠ .alive then b else b.loseLantern l (lossDetail cause))

/-- UnitReset (R409). -/
def objReset : Nat := 0x60000040

/-! ### Losing a keeper cluster (R248, R272, R404) -/

/-- A keeper cluster as a reporting unit (R289). -/
def unitCluster (cl : Nat) : Nat := unitNo 0x40 (0x200 + cl)

/-- The harts of a cluster go to their reset state and their interrupt files are empty; REQ is 34 again, GRANT the lower of it
and the controller's limit; the cluster is in reset until its PLL has locked (R14, R273, R288). -/
def Block.resetCluster (b : Block) (cl : Nat) : Block :=
  let mine (k : Nat) : Bool := fileHart (imsicBase + k * 0x1000) / 16 == cl
  ({ b with harts := b.harts.filter (fun (e : Nat × Hart) => e.1 / 16 != cl),
            imsic := b.imsic.filter (fun (e : Nat × List Nat) => !mine e.1) }).updCluster cl
    (fun x => { x with st := .reset, relocking := true, stopped := false, req := 34, grant := min 34 x.limit })

/-- A cluster is lost or reset by its monitor: stores that have not performed are lost, lines held in M or E become poison
(R248, R272, R404). -/
def Block.loseCluster (b : Block) (cl : Nat) : Block :=
  let cmd := (b.cluster cl).cmd
  let b1 := (b.record (unitCluster cl) .keeperClusterLost [cl] (errRec 3 0x14 cl)).setAlert 16
  let b2 := (b1.sweepAgent (64 + cl)).resetCluster cl
  let b3 := b2.updCluster cl (fun x => { x with heartbeatResets := x.heartbeatResets + 1, cmd := none })
  match cmd with | some c => b3.finishSts c.2 c.1 .badState | none => b3

/-- KEEPER_CLUSTER_LOST: the heartbeat of a cluster has been missing for 100 µs (R272, R403). -/
def execKeeperClusterLost (cl : Nat) (s : State) : Host.Outcome State Fault Refusal :=
  s.run (fun b => if 8 ≤ cl ∨ !b.tray.rails ∨ (b.cluster cl).st ≠ .running then b else b.loseCluster cl)

/-- The oldest accepted POSTED write of a hart reaches its target (R243). -/
def Block.postedPerform (b : Block) (h : Nat) : Block :=
  match (b.hart h).posted with
  | [] => b
  | (pa, _, v) :: t => (b.updHart h (fun x => { x with posted := t })).msi pa v.toNat .deviceWriteLost [pa]
/-- Every accepted POSTED write of a hart reaches its target, in order. -/
def Block.postedAll (b : Block) (h : Nat) : Block := (b.hart h).posted.foldl (fun (c : Block) _ => c.postedPerform h) b
/-- A cluster's stores are drained and its dirty lines written back before an orderly reset (R248, R408). -/
def Block.drainCluster (b : Block) (cl : Nat) : Block :=
  ((List.range 16).foldl (fun (c : Block) i => c.postedAll (16 * cl + i)) b).flushDie (64 + cl)

/-- UnitReset of a keeper cluster: an orderly one drains the stores and writes back first, an abrupt one is as the monitor's;
it completes when the cluster runs again (R409). -/
def execUnitResetKeeperCluster (role : Role) (cl mode : Nat) (s : State) : Host.Outcome State Fault Refusal :=
  s.run (fun b => b.cmd role .service 0x60 (fun c =>
    if 8 ≤ cl ∨ 2 ≤ mode then c.refuse .outOfRange
    else if !c.tray.rails then c.refuse .notNow
    else if (c.cluster cl).st ≠ .running then c.refuse .busy
    else
      let d := c.accept objReset
      let e := if mode = 0 then (d.drainCluster cl).resetCluster cl else d.loseCluster cl
      e.updCluster cl (fun x => { x with cmd := some (d.cmds.count, objReset) })))

/-! ### The background scrub of caches (R262) -/

/-- Counts what a scrub did for a cache: clean refetches or dirty losses (R270, R289). -/
def Block.scrubCount (b : Block) (cache ln clean dirty : Nat) : Block :=
  if cache < 64 then b.updLantern cache (fun x => { x with refetches := x.refetches + clean, dirtyLosses := x.dirtyLosses + dirty })
  else if cache < 72 then b.updCluster (cache - 64) (fun x => { x with refetches := x.refetches + clean, dirtyLosses := x.dirtyLosses + dirty })
  else b.updTile (if cache = 72 then 4 else tileOf (ln / 2 ^ 34)) (fun x => { x with refetches := x.refetches + clean, dirtyLosses := x.dirtyLosses + dirty })

/-- A line of an agent's cache with a parity error: refetched where clean, poison at its home where dirty (R262, R395). -/
def Block.scrubCopy (b : Block) (a ln : Nat) : Block :=
  match tfind (b.line ln).copies a with
  | none => b
  | some c =>
    let res (x : Block) : Block := if 64 ≤ a ∧ a < 72 then x.loseRes ln (fun h => h / 16 != a - 64) else x
    if c.st = .m then
      let d := b.putSlice ln c.data true true
      let e := ({ d with errors := { d.errors with made := tinc d.errors.made 2 1 } }).dropCopy a ln
      (e.setDir ln (dirWithout (e.line ln).dir a)).scrubCount a ln 0 1
    else
      let d := b.fetchSlice ln
      let v := d.homeValue ln
      (res (d.updLine ln (fun l => { l with copies := tput l.copies a { c with data := v.1, poison := v.2 } }))).scrubCount a ln 1 0

/-- A line of a home slice with a parity error (R262). -/
def Block.scrubSlice (b : Block) (ln : Nat) : Block :=
  match (b.line ln).slice with
  | none => b
  | some x =>
    if x.dirty then
      let d := b.updLine ln (fun l => { l with slice := some { x with poison := true } })
      ({ d with errors := { d.errors with made := tinc d.errors.made 2 1 } }).scrubCount 73 ln 0 1
    else
      let v := b.memLine ln
      ((b.updLine ln (fun l => { l with slice := some { x with data := v.1, poison := v.2 } })).loseRes ln (fun _ => false)).scrubCount 73 ln 1 0

/-- The cluster of an L1 or L2 in the numbers of CACHE_SCRUB: 75 + 3 × hart + 0 for the L1I, 1 for the L1D, 2 for the L2. -/
def privCluster (cache : Nat) : Nat := (cache - 75) / 3 / 16

/-- CACHE_SCRUB: the background scrub reads one line of a cache: 0 to 63 a die cache, 64 to 71 an L3, 72 the keep cache, 73 the
home slice, 74 the directory, 75 on the L1s and L2s of the harts, whose lines stand within their cluster's copy (R262, R272; log
entry 80); or an error in another structure of R393 (log entry 93). -/
def execCacheScrub (cache pa : Nat) (found : Scrub) (s : State) : Host.Outcome State Fault Refusal :=
  s.run (fun b =>
    match found with
    | .array e => if 459 ≤ cache ∨ !b.tray.rails then b else b.arrayErr cache pa e
    | _ => b.atLine pa (fun ln =>
    if 459 ≤ cache ∨ b.busy ln then b
    else if 75 ≤ cache then
      match found with
      | .clean => b
      | .array _ => b
      | .dataParity => b.scrubCopy (64 + privCluster cache) ln
      | .tagSingle => b.updCluster (privCluster cache) (fun x => { x with corrections := x.corrections + 1 })
      | .tagDouble => if (b.cluster (privCluster cache)).st = .running then b.loseCluster (privCluster cache) else b
    else
      match found with
      | .clean => b
      | .array _ => b
      | .dataParity => if cache < 73 then b.scrubCopy cache ln else if cache = 73 then b.scrubSlice ln else b
      | .tagSingle =>
        if cache < 64 then b.updLantern cache (fun x => { x with corrections := x.corrections + 1 })
        else if cache < 72 then b.updCluster (cache - 64) (fun x => { x with corrections := x.corrections + 1 })
        else b.updTile (if cache = 72 then 4 else tileOf (ln / 2 ^ 34)) (fun x => { x with corrections := x.corrections + 1 })
      | .tagDouble =>
        if cache < 64 then (if (b.lantern cache).loss = .alive then b.loseLantern cache 1 else b)
        else if cache < 72 then (if (b.cluster (cache - 64)).st = .running then b.loseCluster (cache - 64) else b)
        else if cache = 72 then b.disableSet 4 (agentKey 72 ln) (fun (x : Block) v => x.evictCopy 72 v)
        else if cache = 73 then b.disableSet (tileOf (ln / 2 ^ 34)) (sliceKey ln) (fun (x : Block) v => x.evictSlice v)
        else b.disableSet (tileOf (ln / 2 ^ 34)) (dirKey ln) (fun (x : Block) v => x.recallAll v)))

/-! ### UnitReset (R409) -/

/-- UnitReset of a lantern: an orderly one waits for the quiescent point and relights; an abrupt one forces its loss (R409). -/
def execUnitResetLantern (role : Role) (l mode : Nat) (s : State) : Host.Outcome State Fault Refusal :=
  s.run (fun b => b.cmd role .service 0x60 (fun c =>
    let x := c.lantern l
    if 64 ≤ l ∨ 2 ≤ mode then c.refuse .outOfRange
    else if !c.tray.rails then c.refuse .notNow
    else if x.relightWaits ∨ x.promoteTo.isSome ∨ x.loss = .fencing ∨ x.loss = .relighting then c.refuse .busy
    else if x.loss = .lost then c.refuse .badState
    else
      let d := c.accept objReset; let n := d.cmds.count
      if mode = 0 then (d.updLantern l (fun y => { y with relightWaits := true, cmd := some (n, objReset) })).settle l
      else (d.loseLantern l 4).finishSts objReset n .ok))

/-- UnitReset of a memory channel: orderly retrain alone (R205, R409). -/
def Block.resetChannel (b : Block) (ch mode : Nat) : Block :=
  if mode ≠ 0 then b.refuse .outOfRange
  else if !b.tray.rails then b.refuse .notNow
  else if (b.channel ch).st = .held then b.refuse .busy
  else if (b.channel ch).st ≠ .up then b.refuse .badState
  else
    let c := b.accept objReset
    c.holdChannel ch (some (c.cmds.count, objReset))

/-- UnitReset of a stack channel, stack × 16 + channel (R409). -/
def execUnitResetStackChannel (role : Role) (ch mode : Nat) (s : State) : Host.Outcome State Fault Refusal :=
  s.run (fun b => b.cmd role .service 0x60 (fun c => if 256 ≤ ch then c.refuse .outOfRange else c.resetChannel ch mode))

/-- UnitReset of a DDR5 channel (R409). -/
def execUnitResetBulkChannel (role : Role) (ch mode : Nat) (s : State) : Host.Outcome State Fault Refusal :=
  s.run (fun b => b.cmd role .service 0x60 (fun c => if 16 ≤ ch then c.refuse .outOfRange else c.resetChannel (256 + ch) mode))

/-- Domain of an outer tile (R20). -/
def domainOf (t : Nat) : Nat := if t < 4 then t else t - 1

/-- Whether an outer tile is empty: every berth of its domain VACANT, no region, no lantern watching a queue or running a
request (R409). -/
def Block.tileEmpty (b : Block) (t : Nat) : Bool :=
  let d := domainOf t
  (b.berthsOf d).all (fun (e : Nat × Berth) => e.2.st == .vacant) && (b.domain d).regions == [] &&
  (List.range 8).all (fun i => let l := d * 8 + i; (b.lantern l).slots == [] && b.quiet l)

/-- The memory and the homes of a domain are initialised: every byte zero, nothing cached (R336, R408). -/
def Block.initDomain (b : Block) (d : Nat) : Block :=
  let home (k : Nat) : Bool := let c := k / 65536; decide ((100 + d * 16 ≤ c ∧ c < 116 + d * 16) ∨ (300 + d * 16 ≤ c ∧ c < 316 + d * 16))
  let b1 := (b.lines.filter (fun (e : Nat × LineSt) => e.1 / 2 ^ 34 == d)).foldl (fun (c : Block) (e : Nat × LineSt) =>
    e.2.copies.foldl (fun (a : Block) (x : Nat × Copy) => a.dropCopy x.1 e.1) c) b
  { b1 with
    mem := b1.mem.filter (fun (c : Host.Cell) => c.1 / 2 ^ 40 != d)
    memPoison := b1.memPoison.filter (fun k => k / 2 ^ 34 != d)
    lines := b1.lines.filter (fun (e : Nat × LineSt) => e.1 / 2 ^ 34 != d)
    psets := b1.psets.filter (fun (e : Nat × PSet) => !home e.1)
    domains := tput b1.domains d { b1.domain d with zeroing := [], moveQueue := [] } }

/-- A tile is reset: its dies start afresh, its homes and its memory are initialised, its held links and channels come back
(R408, R409). -/
def Block.resetTile (b : Block) (t : Nat) : Block :=
  let d := domainOf t
  let b1 := (List.range 8).foldl (fun (c : Block) i => (c.flushDie (d * 8 + i)).freshDie (d * 8 + i)) b
  let b2 := b1.initDomain d
  let b3 := (stackChannels d ++ [256 + 2 * d, 257 + 2 * d]).foldl (fun (c : Block) ch =>
    c.updChannel ch (fun x => { x with st := if x.st = .held then .up else x.st })) b2
  let b4 := b3.setTile t {}
  [unitTile t, unitNo 0x30 (2 * d), unitNo 0x30 (2 * d + 1), unitNo 0x31 (2 * d), unitNo 0x31 (2 * d + 1), unitDomain d].foldl
    (fun (c : Block) u => ({ c with errors := { c.errors with banks := tdel c.errors.banks u } }).restartLocal u) b4

/-- UnitReset of a tile: an empty outer tile alone; steps 6 to 9 of R330 are repeated for it (R409). -/
def execUnitResetTile (role : Role) (t mode : Nat) (s : State) : Host.Outcome State Fault Refusal :=
  s.run (fun b => b.cmd role .service 0x60 (fun c =>
    if 9 ≤ t ∨ mode ≠ 0 then c.refuse .outOfRange
    else if !c.tray.rails then c.refuse .notNow
    else if t = 4 ∨ !c.tileEmpty t then c.refuse .badState
    else
      let e := c.accept objReset
      (e.resetTile t).finishSts objReset e.cmds.count .ok))

/-! ### Error banks (R410, R412) -/

/-- The bytes of an error record (R410). -/
def errBytes (r : ErrRec) : List Byte :=
  leBytes 8 r.seq ++ leBytes 1 r.cls ++ leBytes 1 r.source ++ leBytes 2 r.count ++ leBytes 4 0 ++ leBytes 8 r.address ++
    leBytes 8 r.syndrome ++ leBytes 1 r.ctx ++ leBytes 1 r.status ++ leBytes 2 r.detail ++ leBytes 28 0

/-- ErrorBankRead: up to 16 records of a unit's bank from INDEX (R412). -/
def execErrorBankRead (role : Role) (unit idx : Nat) (s : State) : Host.Outcome State Fault Refusal :=
  s.run (fun b => b.cmd role .observer 0x60 (fun c =>
    let rs := ((tget [] c.errors.banks unit).drop idx).take 16
    let d := c.done 0x60000041 rs.length
    { d with cmds := { d.cmds with reply := { d.cmds.reply with body := (rs.map errBytes).flatten } } }))

/-- ErrorBankClear: clears a unit's bank (R410, R412). -/
def execErrorBankClear (role : Role) (unit : Nat) (s : State) : Host.Outcome State Fault Refusal :=
  s.run (fun b => b.cmd role .service 0x60 (fun c =>
    ({ c with errors := { c.errors with banks := tdel c.errors.banks unit } }).done 0x60000042 0))

end Sys2Proof.Machine
end

