-- ==== Sys2Proof/Machine/Ports.lean ====
section
/-! DEFINITION. Commands and events of the Ethernet ports (13 R290 to R303; 18 R403, R409). -/

namespace Sys2Proof.Machine

/-! ### Registers and reset (R294, R302) -/

/-- Objects of a port. -/
def objPort (p item : Nat) : Nat := 0x50000000 + p * 0x1000 + item

/-- ENABLE goes to a value: an engine that starts reads its post-ring table and watches the headers (R294, R296). -/
def Block.setEnable (b : Block) (p : Nat) (on : Bool) : Block :=
  let was := (b.port p).enable
  let c := b.updPort p (fun x => { x with enable := on })
  if on && !was && c.portOn p then (List.range 64).foldl (fun (a : Block) i => if thas (a.port p).rings i then a else a.loadPost p i) c
  else c

/-- PORT_ENABLE: ENABLE starts or stops fetching and delivery (R294). -/
def execPortEnable (p : Nat) (on : Bool) (s : State) : Host.Outcome State Fault Refusal :=
  s.run (fun b => if 2 ≤ p ∨ !b.tray.rails then b else b.setEnable p on)

/-- A port reset: outstanding descriptors complete FLUSHED, every QP that the engine knows enters ERROR, the registers and what the engine
holds take their reset values, the mode of PortMode comes into force, and the MACs have yet to acquire their links. It ends in one step:
RESETTING reads 1 in none of the states between (R14, R248, R294, R302, R408; DESIGN CHOICE, log entry 88). -/
def Block.resetPort (b : Block) (p : Nat) : Block :=
  let b1 := (b.knownQps p).foldl (fun (c : Block) i =>
    let d := c.loadPq p false i
    if (d.pq p false i).st = 0 then d else d.qpError p i) b
  let b2 := ((b1.port p).eths.map Prod.fst).foldl (fun (c : Block) i => (c.loadPq p true i).flushQueue p true i) b1
  let b3 := ((b2.port p).rings.map Prod.fst).foldl (fun (c : Block) i => c.dropPost p i) b2
  let b4 := b3.updPort p (fun x => {
    mode := b.cfg (objPort p 1) 0 % 4, resets := x.resets + 1
    wire := x.wire, owed := x.owed, fecBad := x.fecBad, dropped := x.dropped })
  let b5 : Block := { b4 with errors := { b4.errors with banks := tdel b4.errors.banks (unitPort p) } }
  let b6 := b5.restartLocal (unitPort p)
  if (b.port p).linkUp = 0 then b6 else b6.wire (6 + p)

/-- PORT_RESET: by RESET of the register region, or by PortReset, which is a command of the operator (R294, R302). -/
def execPortReset (r : PortResetReq) (s : State) : Host.Outcome State Fault Refusal :=
  s.run (fun b =>
    match r.role with
    | none => if 2 ≤ r.port ∨ !b.tray.rails ∨ (b.port r.port).resetting then b else b.resetPort r.port
    | some role => b.cmd role .operator 0x50 (fun c =>
      if 2 ≤ r.port then c.refuse .notFound
      else if !c.tray.rails then c.refuse .notNow
      else if (c.port r.port).resetting then c.refuse .busy
      else (c.resetPort r.port).done (objPort r.port 4) 0))

/-- Whether a queue of a port has work: descriptors posted or requests not acknowledged (R302). -/
def PortQueue.busy (q : PortQueue) : Bool := ahead32 q.sqProd q.sqCons != 0 || q.sent != []

/-- Whether a post ring has entries that the engine has not taken (R302). -/
def Block.ringBusy (b : Block) (x : PostRing) : Bool :=
  match x.copy with
  | some e => bit e 127 && (match b.peek (fld e 0 52) 4 with | some tail => ahead32 tail x.pos != 0 | none => false)
  | none => false

/-- PORT_HANG: an engine with work makes no progress for 10 ms and is reset (R302). -/
def execPortHang (p : Nat) (s : State) : Host.Outcome State Fault Refusal :=
  s.run (fun b =>
    let x := b.port p
    if !b.portOn p ∨ !(x.qps.any (fun (e : Nat × PortQueue) => e.2.busy) || x.eths.any (fun (e : Nat × PortQueue) => e.2.busy) ||
        x.rings.any (fun (e : Nat × PostRing) => b.ringBusy e.2)) then b
    else (b.record (unitPort p) .portHang [p] (errRec 3 0x14 p)).resetPort p)

/-- PORT_HEARTBEAT_LOST: the heartbeat of a port engine stops for 8 µs: reset as for a hang (R403). -/
def execPortHeartbeatLost (p : Nat) (s : State) : Host.Outcome State Fault Refusal :=
  s.run (fun b =>
    if 2 ≤ p ∨ !b.tray.rails ∨ (b.port p).resetting then b
    else (b.record (unitPort p) .portHang [p] (errRec 3 0x14 p)).resetPort p)

/-- UnitReset of a port, orderly or abrupt alike (R409). -/
def execUnitResetPort (role : Role) (p mode : Nat) (s : State) : Host.Outcome State Fault Refusal :=
  s.run (fun b => b.cmd role .service 0x60 (fun c =>
    if 2 ≤ p ∨ 2 ≤ mode then c.refuse .outOfRange
    else if !c.tray.rails then c.refuse .notNow
    else if (c.port p).resetting then c.refuse .busy
    else
      let d := c.accept objReset
      (d.resetPort p).finishSts objReset d.cmds.count .ok))

/-- Reload of a table entry: the engine's copy is dropped and read again at its next use; a post ring is watched, and so read,
at once (R294). -/
def Block.portReload (b : Block) (p kind i : Nat) : Block :=
  match kind with
  | 1 => if 16384 ≤ i then b else b.updPort p (fun x => { x with qps := x.qps.map (fun (e : Nat × PortQueue) =>
      if e.1 = i then (e.1, { e.2 with copy := none }) else e) })
  | 2 => if 4096 ≤ i then b else b.updPort p (fun x => { x with cqs := x.cqs.map (fun (e : Nat × Cq) =>
      if e.1 = i then (e.1, { e.2 with copy := none }) else e) })
  | 3 => b.updPort p (fun x => { x with mrs := tdel x.mrs i })
  | 4 =>
    if 64 ≤ i then b
    else let c := b.dropPost p i; if c.portOn p then c.loadPost p i else c
  | 5 => if 256 ≤ i then b else b.updPort p (fun x => { x with eths := x.eths.map (fun (e : Nat × PortQueue) =>
      if e.1 = i then (e.1, { e.2 with copy := none }) else e) })
  | _ => b

/-- RELOAD of a QP record (R294). -/
def execReloadQp (p i : Nat) (s : State) : Host.Outcome State Fault Refusal :=
  s.run (fun b => if 2 ≤ p ∨ !b.tray.rails then b else b.portReload p 1 i)
/-- RELOAD of a CQ entry (R294). -/
def execReloadCq (p i : Nat) (s : State) : Host.Outcome State Fault Refusal :=
  s.run (fun b => if 2 ≤ p ∨ !b.tray.rails then b else b.portReload p 2 i)
/-- RELOAD of an MR entry: acknowledged once every DMA under the old entry has performed, which is at once here (R294,
R309). -/
def execReloadMr (p i : Nat) (s : State) : Host.Outcome State Fault Refusal :=
  s.run (fun b => if 2 ≤ p ∨ !b.tray.rails then b else b.portReload p 3 i)
/-- RELOAD of a post-ring entry (R294). -/
def execReloadPostRing (p i : Nat) (s : State) : Host.Outcome State Fault Refusal :=
  s.run (fun b => if 2 ≤ p ∨ !b.tray.rails then b else b.portReload p 4 i)
/-- RELOAD of an Ethernet queue entry (R294). -/
def execReloadEthQueue (p i : Nat) (s : State) : Host.Outcome State Fault Refusal :=
  s.run (fun b => if 2 ≤ p ∨ !b.tray.rails then b else b.portReload p 5 i)

/-- Word w of the register block of a port (R294). -/
def Block.portReg (b : Block) (p w : Nat) : Nat :=
  let x := b.port p; let f (c : Bool) (i : Nat) : Nat := if c then 2 ^ i else 0
  match w with
  | 0 => 0x74E0 + (Config.revision p).toNat * 2 ^ 16
  | 1 => f x.enable 0
  | 2 => f (b.portOn p) 0 + f x.resetting 1 + x.linkUp.toNat * 4
  | 3 => x.qpTable
  | 4 => x.cqTable
  | 5 => x.mrTable + x.mrLog2 * 2 ^ 52
  | 6 => x.ethTable
  | 7 => x.postTable
  | _ => 0

/-- A write of word w of the register block: reserved and read-only bits are discarded (R15); a table base only while ENABLE
is 0 (R294). -/
def Block.portRegWrite (b : Block) (p w v : Nat) : Block :=
  let base := v % 2 ^ 52
  let tab (f : Port → Port) : Block := if (b.port p).enable then b else b.updPort p f
  match w with
  | 1 =>
    let c := b.setEnable p (v % 2 == 1)
    if v / 2 % 2 = 1 ∧ !(c.port p).resetting then c.resetPort p else c
  | 3 => tab (fun x => { x with qpTable := base / 4096 * 4096 })
  | 4 => tab (fun x => { x with cqTable := base })
  | 5 => tab (fun x => { x with mrTable := base, mrLog2 := min 16 (v / 2 ^ 52 % 32) })
  | 6 => tab (fun x => { x with ethTable := base })
  | 7 => tab (fun x => { x with postTable := base })
  | 8 => if v % 16 = 0 then b else b.portReload p (v % 16) (v / 2 ^ 8 % 2 ^ 16)
  | _ => b

/-! ### Posting (R296, R299) -/

/-- POST of QP send descriptors (R296). -/
def execPostQpSend (p ring : Nat) (s : State) : Host.Outcome State Fault Refusal :=
  s.run (fun b => b.postTake p ring 0 (fun c q n => c.post p false false q n))
/-- POST of QP receive descriptors (R296). -/
def execPostQpReceive (p ring : Nat) (s : State) : Host.Outcome State Fault Refusal :=
  s.run (fun b => b.postTake p ring 1 (fun c q n => c.post p false true q n))
/-- POST of Ethernet send descriptors (R296). -/
def execPostEthSend (p ring : Nat) (s : State) : Host.Outcome State Fault Refusal :=
  s.run (fun b => b.postTake p ring 2 (fun c q n => c.post p true false q n))
/-- POST of Ethernet receive descriptors (R296). -/
def execPostEthReceive (p ring : Nat) (s : State) : Host.Outcome State Fault Refusal :=
  s.run (fun b => b.postTake p ring 3 (fun c q n => c.post p true true q n))
/-- CQ_ARM: the count of entries consumed moves on and the next completion entry sends an MSI (R296, R299). -/
def execCqArm (p ring : Nat) (s : State) : Host.Outcome State Fault Refusal :=
  s.run (fun b => b.postTake p ring 4 (fun c q n =>
    (c.loadCq p q).updCq p q (fun y => { y with cons := if ahead32 n y.cons = 0 then y.cons else n, armed := true })))

/-! ### Sending (R297 to R299) -/

/-- The head descriptor of a send queue. -/
structure Head where
  q : PortQueue
  /-- record of the queue -/
  r : BitVec 1024
  /-- descriptor -/
  d : Line
deriving DecidableEq, Repr

/-- Goes on with the head descriptor of a send queue of a running engine whose OP is the row's; `any` takes an OP too that the
queue does not know. A descriptor in poisoned or failed memory cannot be read: it completes with the status (R297, R303). -/
def Block.headDo (b0 : Block) (p : Nat) (eth : Bool) (i op : Nat) (known : List Nat) (any : Bool)
    (go : Block → Head → Block) : Block :=
  if !b0.portOn p then b0
  else
    let b := b0.loadPq p eth i
    let q := b.pq p eth i
    match q.copy with
    | none => b
    | some r =>
      if ahead32 q.sqProd q.sqCons = 0 ∨ (!eth && q.st != 3) then b
      else
        let at_ := fld r 128 52 + 64 * (q.sqCons % 2 ^ fld r 180 4)
        if b.dmaWaits false at_ 64 then b
        else
          let bad (c : Block) (st : WcSts) : Block :=
            if any then (c.updPq p eth i (fun y => { y with sqCons := (y.sqCons + 1) % 2 ^ 32 })).wcEnd p (fld r 256 12) true
              { wrId := 0, op := op, st := st, queue := i, eth := eth }
            else c
          match b.dmaRead false at_ 64 with
          | .ok (_, bs, false) =>
            let d : Line := BitVec.ofNat 512 (leNat bs)
            let o := fld d 0 8
            if o = op ∨ (any ∧ !known.contains o) then go b { q := q, r := r, d := d } else b
          | .ok (_, _, true) => bad (b.portPoison.raise (unitPort p) .portPoison [p, at_]) .localPoison
          | .error .wait => b
          | .error _ => bad b .localTierFail

/-- The head descriptor ends with a status. -/
def Block.headEnd (b : Block) (p : Nat) (eth : Bool) (i : Nat) (h : Head) (st : WcSts) (bytes : Nat) : Block :=
  (b.updPq p eth i (fun y => { y with sqCons := (y.sqCons + 1) % 2 ^ 32 })).wcEnd p (fld h.r 256 12) (bit h.d 8)
    { wrId := fld h.d 448 64, op := fld h.d 0 8, st := st, queue := i, eth := eth, bytes := bytes }

/-- Whether an Ethernet descriptor is well formed (R292, R297). -/
def ethDescErr (d : Line) : Option WcSts :=
  if fld d 13 3 ≠ 0 ∨ fld d 48 16 ≠ 0 ∨ fld d 288 32 ≠ 0 then some .rsvNonzero
  else if fld d 0 8 ≠ 1 ∨ (bit d 11 ∧ (fld d 16 16 < 64 ∨ 9000 < fld d 16 16 ∨ 262144 < fld d 160 32)) ∨
      (!bit d 11 ∧ (fld d 16 16 ≠ 0 ∨ 9216 < fld d 160 32)) then some .badDesc
  else none

/-- ETH_SEND: the frame is read whole, segmented and summed as asked, tagged, and sent at the queue's priority, unless that is paused
(R292, R297, R303). -/
def execEthSend (p q : Nat) (s : State) : Host.Outcome State Fault Refusal :=
  s.run (fun b => if 256 ≤ q then b else b.headDo p true q 1 [1] true (fun c h =>
    let x := c.port p; let d := h.d
    match (ethErr x.macs h.r).or (ethDescErr d) with
    | some st => c.headEnd p true q h st 0
    | none =>
      let mac := fld h.r 657 3
      if !x.up mac then c.headEnd p true q h .linkDown 0
      else if x.pausedAt mac (fld h.r 19 3) then c
      else
        match c.bufRead p (fld d 128 32) (fld h.r 288 16) (fld d 64 64) (fld d 160 32) 0 with
        | (_, .wait) => c
        | (e, .err .localPoison) => (e.raise (unitPort p) .portPoison [p, fld d 64 64]).headEnd p true q h .localPoison 0
        | (e, .err st) =>
          let f := if st = .localTierFail then e.updPort p (fun y => { y with dropped := y.dropped + 1 }) else e
          f.headEnd p true q h st 0
        | (e, .ok bs) =>
          match if bit d 11 then segments (fld d 16 16) bs else some [bs] with
          | none => e.headEnd p true q h .badDesc 0
          | some fs =>
            let tag := if bit d 12 then some (fld d 32 16) else if bit h.r 656 then some (fld h.r 640 16) else none
            (fs.foldl (fun (a : Block) (g : List Byte) => a.wireOut p
              { mac := mac, kind := 0, queue := q, op := 1, psn := 0, bytes := if bit d 10 then putSums g else g, vlan := tag,
                hdr := { prio := fld h.r 19 3 } }) e).headEnd
              p true q h .ok bs.length))

/-- Whether a RoCE descriptor is well formed (R297). -/
def roceDescErr (d : Line) : Option WcSts :=
  let op := fld d 0 8
  if fld d 13 3 ≠ 0 ∨ fld d 288 32 ≠ 0 then some .rsvNonzero
  else if op < 2 ∨ 8 < op ∨ fld d 10 3 ≠ 0 ∨ fld d 16 16 ≠ 0 ∨ 2 ^ 31 < fld d 160 32 ∨
      (7 ≤ op ∧ (fld d 160 32 ≠ 8 ∨ fld d 192 64 % 8 ≠ 0)) then some .badDesc
  else none

/-- Whether a request returns data: READ and the atomics. -/
def returnsData (d : Line) : Bool := decide (6 ≤ fld d 0 8)

/-- The headers of a QP's packets (R299). -/
def hdrOf (r : BitVec 1024) : WireHdr :=
  { prio := fld r 19 3, dscp := fld r 22 6, ect0 := true, destQpn := fld r 32 24, destIp := fld r 320 128, srcIp := fld r 512 128,
    destMac := fld r 448 48 }

/-- Puts the request of a descriptor on the wire, its payload read anew; the request of a MAC without link is lost on the way
(R299, R303). -/
def Block.sendReq (b : Block) (p i : Nat) (r : BitVec 1024) (d : Line) (psn : Nat) : Block × Dma :=
  let op := fld d 0 8
  let x : Block × Dma := if op < 6 then b.bufRead p (fld d 128 32) (fld r 288 16) (fld d 64 64) (fld d 160 32) 0
    else
      match b.region p (fld d 128 32) (fld r 288 16) (fld d 64 64) (fld d 160 32) 1 with
      | (_, .wait) => (b, .wait)
      | (c, .err st) => (c, if fld d 160 32 = 0 then .ok [] else .err st)
      | (c, .found _ _) => (c, .ok [])
  match x with
  | (c, .ok bs) =>
    let mac := fld r 657 3
    (if (c.port p).up mac then
        c.wireOut p { mac := mac, kind := 1, queue := i, op := op, psn := psn, bytes := bs,
                      vlan := if bit r 656 then some (fld r 640 16) else none, desc := d, hdr := hdrOf r }
      else c, .ok bs)
  | y => y

/-- Raises PORT_POISON where a local read met poison (R303). -/
def Block.poisonEv (b : Block) (p va : Nat) (st : WcSts) : Block :=
  if st = .localPoison then b.raise (unitPort p) .portPoison [p, va] else b

/-- A RoCE request: checked, its packets numbered and sent, and kept until it is acknowledged (R297, R299). -/
def Block.roceSend (b : Block) (p i op : Nat) (any : Bool) : Block :=
  if 16384 ≤ i then b
  else b.headDo p false i op [2, 3, 4, 5, 6, 7, 8] any (fun c h =>
    match (qpErr (c.port p).macs h.r).or (roceDescErr h.d) with
    | some st => c.headEnd p false i h st 0
    | none =>
      if (bit h.d 9 ∧ h.q.sent.any (fun (x : Sent) => returnsData x.desc) = true) ∨
          (c.port p).pausedAt (fld h.r 657 3) (fld h.r 19 3) = true then c
      else
        match c.sendReq p i h.r h.d h.q.psn with
        | (_, .wait) => c
        | (e, .err st) => (e.poisonEv p (fld h.d 64 64) st).headEnd p false i h st 0
        | (e, .ok _) =>
          let n := psnsOf h.r (if 7 ≤ fld h.d 0 8 then 0 else fld h.d 160 32)
          e.updPq p false i (fun y => { y with
            sqCons := (y.sqCons + 1) % 2 ^ 32
            psn := (y.psn + n) % 2 ^ 24
            sent := y.sent ++ [{ psn := y.psn, psns := n, desc := h.d }] }))

/-- SEND (R297); it takes a descriptor with an unknown OP too, which completes BAD_DESC. -/
def execRoceSend (p qpn : Nat) (s : State) : Host.Outcome State Fault Refusal := s.run (fun b => b.roceSend p qpn 2 true)
/-- SEND with immediate data (R297). -/
def execSendImm (p qpn : Nat) (s : State) : Host.Outcome State Fault Refusal := s.run (fun b => b.roceSend p qpn 3 false)
/-- RDMA WRITE (R297). -/
def execRoceWrite (p qpn : Nat) (s : State) : Host.Outcome State Fault Refusal := s.run (fun b => b.roceSend p qpn 4 false)
/-- RDMA WRITE with immediate data (R297). -/
def execWriteImm (p qpn : Nat) (s : State) : Host.Outcome State Fault Refusal := s.run (fun b => b.roceSend p qpn 5 false)
/-- RDMA READ (R297). -/
def execRoceRead (p qpn : Nat) (s : State) : Host.Outcome State Fault Refusal := s.run (fun b => b.roceSend p qpn 6 false)
/-- Fetch-and-add (R297). -/
def execFetchAdd (p qpn : Nat) (s : State) : Host.Outcome State Fault Refusal := s.run (fun b => b.roceSend p qpn 7 false)
/-- Compare-and-swap (R297). -/
def execCmpSwap (p qpn : Nat) (s : State) : Host.Outcome State Fault Refusal := s.run (fun b => b.roceSend p qpn 8 false)

/-! ### Receiving (R297, R298, R303) -/

/-- The next receive descriptor of a queue: none posted, not readable now, or its 32 bytes. -/
inductive RecvHead where
  | none
  | wait
  | bad (st : WcSts)
  | ok (d : BitVec 256)
deriving DecidableEq, Repr

def Block.recvHead (b : Block) (q : PortQueue) (r : BitVec 1024) : RecvHead :=
  if ahead32 q.rqProd q.rqCons = 0 then .none
  else
    let at_ := fld r 192 52 + 32 * (q.rqCons % 2 ^ fld r 244 4)
    if b.dmaWaits false at_ 32 then .wait
    else
      match b.dmaRead false at_ 32 with
      | .ok (_, bs, false) =>
        let d : BitVec 256 := BitVec.ofNat 256 (leNat bs)
        if fld d 192 64 ≠ 0 then .bad .rsvNonzero else .ok d
      | .ok (_, _, true) => .bad .localPoison
      | .error .wait => .wait
      | .error _ => .bad .localTierFail

/-- Takes a receive descriptor. -/
def Block.recvTake (b : Block) (p : Nat) (eth : Bool) (i : Nat) : Block :=
  b.updPq p eth i (fun y => { y with rqCons := (y.rqCons + 1) % 2 ^ 32 })

/-- A frame is dropped and counted. -/
def Block.dropFrame (b : Block) (p : Nat) : Block := b.updPort p (fun x => { x with dropped := x.dropped + 1 })

/-- ETH_FRAME_RX: a priority flow control frame pauses or frees the priorities that PfcPriorities sets; any other is stripped of its tag,
its checksums checked, steered by the Toeplitz hash, or to queue 0 where it carries RoCEv2 to QPN 1, written to a receive buffer and
completed (R292, R297, R300, R303). -/
def execEthFrameRx (p mac : Nat) (g : EthFrame) (s : State) : Host.Outcome State Fault Refusal :=
  s.run (fun b0 =>
    if !b0.portOn p ∨ !(b0.port p).up mac then b0
    else if g.fecBad then b0.updPort p (fun x => { x with fecBad := x.fecBad + 1 })
    else
      let f := (stripTag g.bytes).2
      match pfcOf f with
      | some (named, held) =>
        let on := BitVec.ofNat 8 (b0.cfg (objPort p 5) 0)
        b0.updPort p (fun x => { x with paused := tput x.paused mac ((tget 0 x.paused mac &&& ~~~named) ||| (held &&& on)) })
      | none =>
        let qp1 := toQp1 f
        let hash := toeplitz (b0.cfgBytes (objPort p 0x20)) (rssTuple f)
        let q := if qp1 then 0 else ((b0.cfgBytes (objPort p 0x21)).getD (hash % 128) 0).toNat
        let b := b0.loadPq p true q
        let x := b.pq p true q
        match x.copy with
        | none => if b0.dmaWaits false (b0.pqAddr p true q) 128 then b0 else b.dropFrame p
        | some r =>
          if (ethErr (b.port p).macs r).isSome ∨ 9216 < f.length then b.dropFrame p
          else
            let wc (id bytes : Nat) (st : WcSts) : Wc :=
              { wrId := id, op := 0x83, st := st, queue := q, eth := true, bytes := bytes, csumOk := sumsOk f, ce := ceMarked f,
                hash := if qp1 then 0 else hash, vlan := (stripTag g.bytes).1.getD 0 }
            match b.recvHead x r with
            | .none => b.dropFrame p
            | .wait => b0
            | .bad st => (((b.poisonEv p (fld r 192 52) st).recvTake p true q).dropFrame p).complete p (fld r 272 12) (wc 0 0 st)
            | .ok d =>
              if fld d 96 32 < f.length then b.dropFrame p
              else
                match b.bufWrite p (fld d 64 32) (fld r 288 16) (fld d 0 64) f 1 with
                | (_, .wait) => b0
                | (c, .err st) => ((c.recvTake p true q).dropFrame p).complete p (fld r 272 12) (wc (fld d 128 64) 0 st)
                | (c, .ok _) => (c.recvTake p true q).complete p (fld r 272 12) (wc (fld d 128 64) f.length .ok))

/-- Sends a response: 0 ACK, 1 read response, 2 atomic response, 3 RNR NAK, 4 remote access NAK, 5 remote operational NAK,
6 CNP (R298, R301, R303). -/
def Block.respond (b : Block) (p i : Nat) (r : BitVec 1024) (kind psn : Nat) (bs : List Byte) : Block :=
  let mac := fld r 657 3
  if (b.port p).up mac then
    b.wireOut p { mac := mac, kind := 2, queue := i, op := kind, psn := psn, bytes := bs,
                  vlan := if bit r 656 then some (fld r 640 16) else none, hdr := hdrOf r }
  else b

/-- A CE-marked packet: one CNP to the sender until the next interval (R301). -/
def Block.owesCnp (b : Block) (p i : Nat) (r : BitVec 1024) (ce : Bool) : Block :=
  if ce && !(b.pq p false i).cnpDue then (b.updPq p false i (fun y => { y with cnpDue := true })).respond p i r 6 0 []
  else b

/-- The message is done at the responder: the expected PSN goes on (R299). -/
def Block.epsnUp (b : Block) (p i : Nat) (r : BitVec 1024) (q : RoceReq) : Block :=
  let n := psnsOf r (if q.op = 6 then q.len else if 7 ≤ q.op then 0 else q.data.length)
  b.updPq p false i (fun y => { y with epsn := (q.psn + n) % 2 ^ 24 })

/-- NAK of a request that a responder could not serve: a key, bound or permission failure is a remote access NAK, the rest, poison and
failed berths among it, are operational (R303). -/
def nakOf : WcSts → Nat
  | .localProtection => 4
  | _ => 5

/-- Completes a receive descriptor and answers. -/
def Block.recvDone (b : Block) (p i : Nat) (r : BitVec 1024) (q : RoceReq) (id : Nat) (st : WcSts) : Block :=
  let w : Wc := { wrId := id, op := if q.imm.isSome then 0x82 else 0x81, st := st, queue := i, eth := false,
                  bytes := if st = .ok then q.data.length else 0, imm := (q.imm.getD 0).toNat, ce := q.ce }
  let c := b.recvTake p false i
  if st = .ok then (((c.epsnUp p i r q).respond p i r 0 q.psn [])).wcEnd p (fld r 272 12) true w
  else ((c.respond p i r (nakOf st) q.psn [])).wcEnd p (fld r 272 12) true w

/-- An incoming SEND: into the next receive buffer (R297, R303). -/
def Block.rxSend (b : Block) (p i : Nat) (r : BitVec 1024) (q : RoceReq) : Block :=
  match b.recvHead (b.pq p false i) r with
  | .none => b.respond p i r 3 q.psn []
  | .wait => b
  | .bad st => (b.poisonEv p (fld r 192 52) st).recvDone p i r q 0 st
  | .ok d =>
    if fld d 96 32 < q.data.length then b.recvDone p i r q (fld d 128 64) .localLength
    else
      match b.bufWrite p (fld d 64 32) (fld r 288 16) (fld d 0 64) q.data 1 with
      | (_, .wait) => b
      | (c, .err st) => c.recvDone p i r q (fld d 128 64) st
      | (c, .ok _) => c.recvDone p i r q (fld d 128 64) .ok

/-- An incoming RDMA WRITE; with immediate data it takes a receive descriptor (R297, R298). -/
def Block.rxWrite (b : Block) (p i : Nat) (r : BitVec 1024) (q : RoceReq) : Block :=
  let head := b.recvHead (b.pq p false i) r
  if q.imm.isSome ∧ head = .none then b.respond p i r 3 q.psn []
  else if q.imm.isSome ∧ head = .wait then b
  else
    match b.bufWrite p q.rkey (fld r 288 16) q.va q.data 3 with
    | (_, .wait) => b
    | (c, .err st) => c.respond p i r (nakOf st) q.psn []
    | (c, .ok _) =>
      if q.imm.isSome then
        match head with
        | .ok d => c.recvDone p i r q (fld d 128 64) .ok
        | .bad st => c.recvDone p i r q 0 st
        | _ => c
      else (c.epsnUp p i r q).respond p i r 0 q.psn []

/-- An incoming RDMA READ (R298, R303). -/
def Block.rxRead (b : Block) (p i : Nat) (r : BitVec 1024) (q : RoceReq) (fresh : Bool) : Block :=
  match b.bufRead p q.rkey (fld r 288 16) q.va q.len 2 with
  | (_, .wait) => b
  | (c, .err st) => c.respond p i r (nakOf st) q.psn []
  | (c, .ok bs) => (if fresh then c.epsnUp p i r q else c).respond p i r 1 q.psn bs

/-- An incoming atomic: a far atomic at the home (R298). -/
def Block.rxAtomic (b : Block) (p i : Nat) (r : BitVec 1024) (q : RoceReq) : Block :=
  if q.va % 8 ≠ 0 then b.respond p i r 4 q.psn []
  else
    match b.region p q.rkey (fld r 288 16) q.va 8 4 with
    | (_, .wait) => b
    | (c, .err st) => c.respond p i r (nakOf st) q.psn []
    | (c, .found pa _) =>
      match c.dom pa with
      | none => c.respond p i r 4 q.psn []
      | some a =>
        match c.atomic (a / 64) (a % 64) true (if q.op = 7 then .add else .cas)
            (if q.op = 7 then q.operand1 else q.operand2) q.operand1 with
        | .error (.wait, _) => b
        | .error (_, d) => d.respond p i r 5 q.psn []
        | .ok (d, _, true) => d.portPoison.respond p i r 5 q.psn []
        | .ok (d, old, false) =>
          ((d.epsnUp p i r q).updPq p false i (fun y => { y with lastAtomic := some (q.psn, old) })).respond p i r 2 q.psn
            (leBytes 8 old.toNat)

/-- ROCE_REQUEST_RX: the responder side of a QP: the expected request is performed, a duplicate answered again, one from ahead
dropped for the requester to send again (R298, R299, R301, R303). -/
def execRoceRequestRx (p : Nat) (q : RoceReq) (s : State) : Host.Outcome State Fault Refusal :=
  s.run (fun b0 =>
    if !b0.portOn p ∨ 16384 ≤ q.qpn then b0
    else
      let i := q.qpn
      let b := b0.loadPq p false i
      let x := b.pq p false i
      match x.copy with
      | none => b
      | some r =>
        if !(x.st == 2 || x.st == 3) || (qpErr (b.port p).macs r).isSome || !(b.port p).up (fld r 657 3) then b
        else
          let c := b.owesCnp p i r q.ce
          if q.psn % 2 ^ 24 = x.epsn then
            (match q.op with
             | 2 | 3 => c.rxSend p i r q
             | 4 | 5 => c.rxWrite p i r q
             | 6 => c.rxRead p i r q true
             | 7 | 8 => c.rxAtomic p i r q
             | _ => c)
          else if psnDiff x.epsn q.psn < 2 ^ 23 then
            (match q.op with
             | 6 => c.rxRead p i r q false
             | 7 | 8 =>
               (match x.lastAtomic with
                | some (n, old) => if n = q.psn then c.respond p i r 2 q.psn (leBytes 8 old.toNat) else c
                | none => c)
             | _ => c.respond p i r 0 q.psn [])
          else c)

/-! ### Responses, retries, congestion (R299, R301, R303) -/

/-- The oldest request of a QP ends with a status (R299). -/
def Block.sentEnd (b : Block) (p i : Nat) (r : BitVec 1024) (st : WcSts) : Block :=
  match (b.pq p false i).sent with
  | [] => b
  | x :: t =>
    (b.updPq p false i (fun y => { y with sent := t, retries := 0, rnrRetries := 0 })).wcEnd p (fld r 256 12) (bit x.desc 8)
      { wrId := fld x.desc 448 64, op := fld x.desc 0 8, st := st, queue := i, eth := false,
        bytes := if st = .ok then fld x.desc 160 32 else 0 }

/-- An acknowledgement up to a PSN completes the SENDs and WRITEs at the head of the list; a READ or atomic waits for its data
(R299). -/
def Block.ackTo (p i : Nat) (r : BitVec 1024) (psn : Nat) : Nat → Block → Block
  | 0, b => b
  | k + 1, b =>
    match (b.pq p false i).sent with
    | [] => b
    | x :: _ =>
      if !returnsData x.desc ∧ psnDiff psn ((x.psn + x.psns - 1) % 2 ^ 24) < 2 ^ 23 then Block.ackTo p i r psn k (b.sentEnd p i r .ok) else b

/-- Sends every request from the oldest on again: go-back-N (R299). -/
def Block.goBack (b : Block) (p i : Nat) (r : BitVec 1024) : Block :=
  let xs := (b.pq p false i).sent
  let b1 := b.updPq p false i (fun y => { y with sent := y.sent.map (fun (x : Sent) => { x with got := [] }) })
  match xs.foldl (fun (c : Block × Option WcSts) (x : Sent) =>
    match c.2 with
    | some _ => c
    | none =>
      match c.1.sendReq p i r x.desc x.psn with
      | (e, .err st) => (e.poisonEv p (fld x.desc 64 64) st, some st)
      | (e, _) => (e, none)) (b1, none) with
  | (c, none) => c
  | (c, some st) => c.sentEnd p i r st

/-- Data of a READ or atomic at the head of the list; once whole it is written to the local buffer (R299). -/
def Block.gotData (b : Block) (p i : Nat) (r : BitVec 1024) (psn : Nat) (data : List Byte) (atomic : Bool) : Block :=
  match (b.pq p false i).sent with
  | [] => b
  | x :: t =>
    let d := x.desc
    if (decide (7 ≤ fld d 0 8) != atomic) || !returnsData d || psn != (x.psn + x.got.length / pmtuOf r) % 2 ^ 24 then b
    else
      let got := (x.got ++ data).take (fld d 160 32)
      if got.length < fld d 160 32 then
        b.updPq p false i (fun y => { y with sent := { x with got := got } :: t, retries := 0 })
      else
        match b.bufWrite p (fld d 128 32) (fld r 288 16) (fld d 64 64) got 1 with
        | (_, .wait) => b
        | (c, .err st) => c.sentEnd p i r st
        | (c, .ok _) => c.sentEnd p i r .ok

/-- ROCE_RESPONSE_RX: an ACK, NAK or read response advances or completes the requests of a QP (R299, R303). -/
def execRoceResponseRx (p : Nat) (q : RoceResp) (s : State) : Host.Outcome State Fault Refusal :=
  s.run (fun b0 =>
    if !b0.portOn p ∨ 16384 ≤ q.qpn then b0
    else
      let i := q.qpn
      let b := b0.loadPq p false i
      let x := b.pq p false i
      match x.copy with
      | none => b
      | some r =>
        if x.st ≠ 3 ∨ !(b.port p).up (fld r 657 3) then b
        else
          let before := (q.psn + 2 ^ 24 - 1) % 2 ^ 24
          match q.kind with
          | 0 => Block.ackTo p i r q.psn x.sent.length b
          | 1 => (Block.ackTo p i r before x.sent.length b).gotData p i r q.psn q.data false
          | 2 => (Block.ackTo p i r before x.sent.length b).gotData p i r q.psn q.data true
          | k =>
            let c := Block.ackTo p i r before x.sent.length b
            let y := c.pq p false i
            match y.sent with
            | [] => c
            | h :: _ =>
              if h.psn ≠ q.psn then c
              else if k = 3 then
                (if fld r 11 3 = 7 then c.goBack p i r
                 else if y.rnrRetries < fld r 11 3 then
                   (c.updPq p false i (fun z => { z with rnrRetries := z.rnrRetries + 1 })).goBack p i r
                 else c.sentEnd p i r .rnrRetryExceeded)
              else if k = 4 then c.sentEnd p i r .remoteAccess
              else if k = 5 then c.sentEnd p i r .remoteOperation
              else c)

/-- ACK_TIMEOUT: a QP sends again from the first unacknowledged PSN, or after its retries completes RETRY_EXCEEDED (R299). -/
def execAckTimeout (p qpn : Nat) (s : State) : Host.Outcome State Fault Refusal :=
  s.run (fun b =>
    let x := b.pq p false qpn
    match x.copy with
    | none => b
    | some r =>
      if !b.portOn p ∨ x.st ≠ 3 ∨ x.sent = [] then b
      else if x.retries < fld r 8 3 then
        (b.updPq p false qpn (fun y => { y with retries := y.retries + 1 })).goBack p qpn r
      else b.sentEnd p qpn r .retryExceeded)

/-- g of R301. -/
def Block.ccGain (b : Block) (p : Nat) : Rat := 1 / ((2 ^ (b.cfg (objPort p 0x30) 8) : Nat) : Rat)

/-- CNP_RX: a CNP cuts the current rate of its QP (R301). -/
def execCnpRx (p qpn : Nat) (s : State) : Host.Outcome State Fault Refusal :=
  s.run (fun b =>
    if !b.portOn p ∨ 16384 ≤ qpn then b
    else
      let line : Rat := ((b.port p).lineRate : Nat)
      let least : Rat := (b.cfg (objPort p 0x35) 100 : Nat)
      let g := b.ccGain p
      b.updPq p false qpn (fun y =>
        let rc := y.rc.getD line
        { y with rt := some rc, rc := some (max (rc * (1 - y.alpha / 2)) least), alpha := (1 - g) * y.alpha + g, stage := 0 }))

/-- Recovery of a rate at the end of a timer period or of the byte counter (R301). -/
def PortQueue.recover (y : PortQueue) (line add : Rat) : PortQueue :=
  let stage := y.stage + 1
  let rt := if 5 < stage then min (y.rt.getD line + add) line else y.rt.getD line
  { y with stage := stage, rt := some rt, rc := some ((rt + y.rc.getD line) / 2) }

/-- CC_TIMER: a timer period or the byte counter of a QP expires: the rate recovers, and α decays in a period without a CNP; or the
responder's CnpInterval ends, so that it may return a CNP again (R301). -/
def execCcTimer (p qpn : Nat) (e : CcEvent) (s : State) : Host.Outcome State Fault Refusal :=
  s.run (fun b =>
    if !b.portOn p ∨ 16384 ≤ qpn then b
    else
      let line : Rat := ((b.port p).lineRate : Nat)
      let add : Rat := (b.cfg (objPort p 0x34) 5000 : Nat)
      let g := b.ccGain p
      b.updPq p false qpn (fun y =>
        match e with
        | .timer cnpSince => { y.recover line add with alpha := if cnpSince then y.alpha else (1 - g) * y.alpha }
        | .bytes => y.recover line add
        | .cnpInterval => { y with cnpDue := false }))

/-! ### Links of the MACs (R303, R308) -/

/-- A MAC loses its link: LINK_UP is cleared and the APLIC source of the port raised (R285, R303). -/
def Block.macDown (b : Block) (p mac : Nat) : Block :=
  if (b.port p).up mac then
    (b.updPort p (fun x => { x with linkUp := x.linkUp &&& ~~~(BitVec.ofNat 8 (2 ^ mac)) })).wire (6 + p)
  else b

/-- MAC_LINK_LOSS: signal or FEC lock is lost on a MAC (R303). -/
def execMacLinkLoss (p mac : Nat) (s : State) : Host.Outcome State Fault Refusal :=
  s.run (fun b => if 2 ≤ p ∨ 8 ≤ mac then b else b.macDown p mac)

end Sys2Proof.Machine
end

