-- ==== Sys2Proof/Machine/Carts.lean ====
section
/-! DEFINITION. Lamp cartridges and the light of the ports (13 R304 to R308). -/

namespace Sys2Proof.Machine

/-- A cartridge as a reporting unit. -/
def unitCart (c : Nat) : Nat := unitNo 0x51 c
/-- The other cartridge of a port (R304). -/
def mate (c : Nat) : Nat := if c % 2 = 0 then c + 1 else c - 1
/-- Whether the lasers of a cartridge are on (R306). -/
def Cart.lit (x : Cart) : Bool := x.st == .shared || x.st == .sole
/-- Whether an output of a cartridge feeds its lane. -/
def Cart.outLit (x : Cart) (n : Nat) : Bool := x.lit && !x.outFaults.contains n
/-- Whether an optical lane of a port has light (R304, R306). -/
def Block.laneLit (b : Block) (p n : Nat) : Bool := (b.cart (2 * p)).outLit n || (b.cart (2 * p + 1)).outLit n
/-- Whether every lane of a MAC has light (R290, R306). -/
def Block.macLit (b : Block) (p mac : Nat) : Bool :=
  let w := 8 / (b.port p).macs
  (List.range w).all (fun i => b.laneLit p (mac * w + i))

/-- The indicator of a cartridge bay: steady blue once PrepareSwap has made its cartridge ready to leave (R307, R310). -/
def Block.bayIndicator (b : Block) (c : Nat) : Indicator := if (b.cart c).swap then .blue else .off

/-- Two lit cartridges share; a lit one whose mate is EMPTY, STANDBY or FAULT is sole (R306). -/
def pairSt (x y : Cart) : CartSt :=
  if !x.lit then x.st
  else if y.lit then .shared
  else if y.st = .checking then x.st
  else .sole

/-- After a change at a cartridge its pair settles, a MAC with a dark lane goes down, and the alert cause of CARTRIDGE_REPLACE
follows (R303, R306, R307, R352). -/
def Block.settleCart (b : Block) (c : Nat) : Block :=
  let x := b.cart c; let y := b.cart (mate c)
  let b1 := (b.updCart c (fun z => { z with st := pairSt x y })).updCart (mate c) (fun z => { z with st := pairSt y x })
  let b2 := (List.range 8).foldl (fun (a : Block) m => if a.macLit (c / 2) m then a else a.macDown (c / 2) m) b1
  if (List.range 4).any (fun i => (b2.cart i).replace) then b2.setAlert 12 else b2.clearAlert 12

/-- CARTRIDGE_INSERT: a cartridge is seated in an empty bay: CHECKING, in every readiness level; the hub's check follows once
the hub runs (R305, R306; source 8, R285). -/
def execCartridgeInsert (c : Nat) (s : State) : Host.Outcome State Fault Refusal :=
  s.run (fun b =>
    if 4 ≤ c ∨ (b.cart c).st ≠ .empty then b
    else ((b.setCart c { st := .checking }).settleCart c).wire 8)

/-- CARTRIDGE_CHECK_DONE: VERIFIED, or UNVERIFIED and lit as UnverifiedPolicy says (R305, R306). -/
def execCartridgeCheckDone (c : Nat) (verified : Bool) (s : State) : Host.Outcome State Fault Refusal :=
  s.run (fun b =>
    if 4 ≤ c ∨ (b.cart c).st ≠ .checking ∨ b.start.level = .dark then b
    else
      let dark := !verified && b.cfg (0x51000040 + c * 0x1000) 0 == 1
      let b1 := (b.updCart c (fun x => { x with verified := verified, untrusted := !verified, st := if dark then .standby else .shared })).settleCart c
      if verified then b1 else (b1.raise (unitCart c) .cartridgeUnverified [c]).wire 8)

/-- PREPARE_SWAP: the mate goes sole and the cartridge to STANDBY; BUSY unless the mate is SHARED without output faults
(R307). The manual names no role; operator is taken. -/
def execPrepareSwap (role : Role) (c : Nat) (s : State) : Host.Outcome State Fault Refusal :=
  s.run (fun b => b.cmd role .operator 0x51 (fun d =>
    if 4 ≤ c then d.refuse .notFound
    else if (d.cart (mate c)).st ≠ .shared ∨ (d.cart (mate c)).outFaults ≠ [] then d.refuse .busy
    else ((d.updCart c (fun x => { x with st := .standby, swap := true })).settleCart c).done (0x51000041 + c * 0x1000) 0))

/-- LATCH_OPEN: the cartridge cuts its lasers and leaves the bay; one that was not in STANDBY is pulled unprepared, but at DARK, where its lasers are off (R308, R325). -/
def execLatchOpen (c : Nat) (s : State) : Host.Outcome State Fault Refusal :=
  s.run (fun b =>
    if 4 ≤ c ∨ (b.cart c).st = .empty then b
    else
      let b1 := if (b.cart c).st = .standby ∨ b.start.level = .dark then b else b.raise (unitCart c) .cartridgePulled [c]
      ((b1.setCart c {}).settleCart c).wire 8)

/-- CARTRIDGE_FAULT: a laser fault (R306). -/
def execCartridgeFault (c : Nat) (s : State) : Host.Outcome State Fault Refusal :=
  s.run (fun b =>
    if 4 ≤ c ∨ (b.cart c).st = .empty ∨ (b.cart c).st = .fault then b
    else (b.updCart c (fun x => { x with st := .fault })).settleCart c)

/-- CARTRIDGE_POLL: telemetry is read; wear at a drift of 15 %, replacement at 30 % or 50,000 h, FAULT above 70 °C, output
faults (R306, R307). -/
def execCartridgePoll (c : Nat) (r : CartRead) (s : State) : Host.Outcome State Fault Refusal :=
  s.run (fun b =>
    let x := b.cart c
    if 4 ≤ c ∨ x.st = .empty then b
    else
      let wear := r.drift.any (fun d => decide (150 ≤ d))
      let repl := r.drift.any (fun d => decide (300 ≤ d)) || decide (50000 ≤ r.hours)
      let y : Cart := { x with
        hours := r.hours, soleHours := r.soleHours, caseMilliC := r.caseMilliC, drift := r.drift, outFaults := r.outFaults
        stale := false, wear := x.wear || wear, replace := repl
        st := if 70000 < r.caseMilliC then .fault else x.st }
      let b1 := (b.setCart c y).settleCart c
      let b2 := if wear && !x.wear then b1.raise (unitCart c) .cartridgeWear [c] else b1
      if repl && !x.replace then b2.raise (unitCart c) .cartridgeReplace [c] else b2)

/-- CARTRIDGE_SILENT: the management bus has not answered for 5 s: the telemetry is stale (R307). -/
def execCartridgeSilent (c : Nat) (s : State) : Host.Outcome State Fault Refusal :=
  s.run (fun b =>
    if 4 ≤ c ∨ (b.cart c).st = .empty ∨ (b.cart c).stale then b
    else (b.updCart c (fun x => { x with stale := true })).raise (unitCart c) .cartridgeSilent [c])

/-- MAC_LINK_UP: a MAC of the mode acquires signal and FEC lock (R303, R308). -/
def execMacLinkUp (p mac : Nat) (s : State) : Host.Outcome State Fault Refusal :=
  s.run (fun b =>
    if 2 ≤ p ∨ !b.tray.rails ∨ (b.port p).resetting ∨ (b.port p).macs ≤ mac ∨ !b.macLit p mac ∨ (b.port p).up mac then b
    else (b.updPort p (fun x => { x with linkUp := x.linkUp ||| BitVec.ofNat 8 (2 ^ mac) })).wire (6 + p))

end Sys2Proof.Machine
end

