-- ==== Sys2Proof/Machine/LogOps.lean ====
section
/-! DEFINITION. The event log: sequence numbers, records, pushes (16 R358, R363, R370 to R372). -/

namespace Sys2Proof.Machine

/-- The name of an event as the manual spells it (R370). -/
def evName : Ev → String
  | .bulkPopulationMismatch => "BULK_POPULATION_MISMATCH"
  | .linkHalf => "LINK_HALF"
  | .linkDown => "LINK_DOWN"
  | .flashPathDown => "FLASH_PATH_DOWN"
  | .linkPartition => "LINK_PARTITION"
  | .spareCandidate => "SPARE_CANDIDATE"
  | .quietLayer => "QUIET_LAYER"
  | .selftestFail => "SELFTEST_FAIL"
  | .contextTableUnreadable => "CONTEXT_TABLE_UNREADABLE"
  | .completionUnreachable => "COMPLETION_UNREACHABLE"
  | .queueRecordUnreadable => "QUEUE_RECORD_UNREADABLE"
  | .queueOverrun => "QUEUE_OVERRUN"
  | .msiUndelivered => "MSI_UNDELIVERED"
  | .groupRefused => "GROUP_REFUSED"
  | .memberDropped => "MEMBER_DROPPED"
  | .groupTorn => "GROUP_TORN"
  | .groupStall => "GROUP_STALL"
  | .groupOverbudget => "GROUP_OVERBUDGET"
  | .stackHot => "STACK_HOT"
  | .tierNoFrame => "TIER_NO_FRAME"
  | .writebackDropped => "WRITEBACK_DROPPED"
  | .streamReplicaUsed => "STREAM_REPLICA_USED"
  | .berthFailed => "BERTH_FAILED"
  | .stackEvacuate => "STACK_EVACUATE"
  | .stackOffline => "STACK_OFFLINE"
  | .repairDeferred => "REPAIR_DEFERRED"
  | .tablePoison => "TABLE_POISON"
  | .tableUnreadable => "TABLE_UNREADABLE"
  | .deviceWriteLost => "DEVICE_WRITE_LOST"
  | .faultRingFull => "FAULT_RING_FULL"
  | .faultRingBad => "FAULT_RING_BAD"
  | .unmappedAccess => "UNMAPPED_ACCESS"
  | .withdrawAckLost => "WITHDRAW_ACK_LOST"
  | .deviceTimeout => "DEVICE_TIMEOUT"
  | .arrayUncorrectable => "ARRAY_UNCORRECTABLE"
  | .rangeCompletionUnreachable => "RANGE_COMPLETION_UNREACHABLE"
  | .keeperClusterLost => "KEEPER_CLUSTER_LOST"
  | .portHang => "PORT_HANG"
  | .portPoison => "PORT_POISON"
  | .cqOverrun => "CQ_OVERRUN"
  | .cartridgeUnverified => "CARTRIDGE_UNVERIFIED"
  | .cartridgeWear => "CARTRIDGE_WEAR"
  | .cartridgeReplace => "CARTRIDGE_REPLACE"
  | .cartridgeSilent => "CARTRIDGE_SILENT"
  | .cartridgePulled => "CARTRIDGE_PULLED"
  | .supplyHigh => "SUPPLY_HIGH"
  | .supplyOvervoltage => "SUPPLY_OVERVOLTAGE"
  | .coolantWarm => "COOLANT_WARM"
  | .coolantHot => "COOLANT_HOT"
  | .coolantLeak => "COOLANT_LEAK"
  | .flowLost => "FLOW_LOST"
  | .flowGlitch => "FLOW_GLITCH"
  | .trayPowerWarn => "TRAY_POWER_WARN"
  | .slotIdInvalid => "SLOT_ID_INVALID"
  | .slotIdChanged => "SLOT_ID_CHANGED"
  | .sensorInvalid => "SENSOR_INVALID"
  | .serviceBusNoBeacon => "SERVICE_BUS_NO_BEACON"
  | .dimmHot => "DIMM_HOT"
  | .dimmUnapproved => "DIMM_UNAPPROVED"
  | .flashDeviceFailed => "FLASH_DEVICE_FAILED"
  | .scanSetUnavailable => "SCAN_SET_UNAVAILABLE"
  | .flashObjectBad => "FLASH_OBJECT_BAD"
  | .readinessChanged => "READINESS_CHANGED"
  | .startHeld => "START_HELD"
  | .sparePromoted => "SPARE_PROMOTED"
  | .bootScanFail => "BOOT_SCAN_FAIL"
  | .configStoreNone => "CONFIG_STORE_NONE"
  | .repairMapNone => "REPAIR_MAP_NONE"
  | .railFail => "RAIL_FAIL"
  | .siteSilent => "SITE_SILENT"
  | .clockLockFail => "CLOCK_LOCK_FAIL"
  | .bulkOffline => "BULK_OFFLINE"
  | .frameRetired => "FRAME_RETIRED"
  | .startIncomplete => "START_INCOMPLETE"
  | .commandDone => "COMMAND_DONE"
  | .configEntryBad => "CONFIG_ENTRY_BAD"
  | .configStoreUnwritable => "CONFIG_STORE_UNWRITABLE"
  | .seqBlock => "SEQ_BLOCK"
  | .seqResumed => "SEQ_RESUMED"
  | .eventsSuppressed => "EVENTS_SUPPRESSED"
  | .powerLimitChanged => "POWER_LIMIT_CHANGED"
  | .estimateLow => "ESTIMATE_LOW"
  | .estimateHigh => "ESTIMATE_HIGH"
  | .estimateBroken => "ESTIMATE_BROKEN"
  | .powerLimitUnmet => "POWER_LIMIT_UNMET"
  | .thermalLimit => "THERMAL_LIMIT"
  | .thermalTrip => "THERMAL_TRIP"
  | .charStoreError => "CHAR_STORE_ERROR"
  | .watchResync => "WATCH_RESYNC"
  | .berthMapError => "BERTH_MAP_ERROR"
  | .correctedRate => "CORRECTED_RATE"
  | .memUncorrectable => "MEM_UNCORRECTABLE"
  | .poisonConsumed => "POISON_CONSUMED"
  | .contextExtinguished => "CONTEXT_EXTINGUISHED"
  | .failedBerthWrite => "FAILED_BERTH_WRITE"
  | .sinkerLost => "SINKER_LOST"
  | .hubLost => "HUB_LOST"
  | .dieLost => "DIE_LOST"
  | .errorBankOverflow => "ERROR_BANK_OVERFLOW"
  | .bankDump => "BANK_DUMP"
  | .offwatchSkipped => "OFFWATCH_SKIPPED"
  | .scanFail => "SCAN_FAIL"
  | .sinkerEngineRetired => "SINKER_ENGINE_RETIRED"
  | .keeperScanDue => "KEEPER_SCAN_DUE"
  | .tileScanDue => "TILE_SCAN_DUE"
  | .checkRecipeBad => "CHECK_RECIPE_BAD"
  | .checkExpired => "CHECK_EXPIRED"
  | .checkInputsChanged => "CHECK_INPUTS_CHANGED"
  | .checkUnresolved => "CHECK_UNRESOLVED"
  | .bearingMismatch => "BEARING_MISMATCH"
  | .beamChecksumTransient => "BEAM_CHECKSUM_TRANSIENT"
  | .beamChecksumFail => "BEAM_CHECKSUM_FAIL"
  | .moduleSuspect => "MODULE_SUSPECT"
  | .moduleCondemned => "MODULE_CONDEMNED"
  | .firmwareSwitchSkipped => "FIRMWARE_SWITCH_SKIPPED"
  | .firmwareReverted => "FIRMWARE_REVERTED"
  | .bootSlotFallback => "BOOT_SLOT_FALLBACK"
  | .spareNone => "SPARE_NONE"
  | .bypassApplied => "BYPASS_APPLIED"
  | .ageingLimit => "AGEING_LIMIT"
  | .floorRecordNone => "FLOOR_RECORD_NONE"
  | .debugEnabled => "DEBUG_ENABLED"
  | .guestAttestFail => "GUEST_ATTEST_FAIL"
  | .guestPower => "GUEST_POWER"
  | .guestAccessDenied => "GUEST_ACCESS_DENIED"
  | .guestBreach => "GUEST_BREACH"
  | .guestPoison => "GUEST_POISON"

/-- The first n bytes of a list, padded with zeros. -/
def padTo (n : Nat) (bs : List Byte) : List Byte := (bs ++ List.replicate n 0).take n

/-- The 64 bytes of an event record; a name longer than its field keeps its first 24 bytes (R370). -/
def eventBytes (r : EvRec) : List Byte :=
  leBytes 8 r.seq ++ leBytes 4 r.unit ++ leBytes 4 r.loc ++ leBytes 1 r.sev ++ leBytes 3 (if r.clears then 1 else 0) ++
    leBytes 4 r.start ++ padTo 24 (strBytes (evName r.ev)) ++ padTo 16 (Config.argBytes r.ev r.args)

/-- Whether a session subscribes to a record: its severity is at least MINSEV and its unit's area is in AREAS (R358). -/
def Session.wants (x : Session) (r : EvRec) : Bool :=
  x.opened && decide (x.minsev ≤ r.sev) && x.areas.contains (r.unit / 2 ^ 24)

/-- A record waits to be pushed; of more than 256 the oldest is discarded (R358). -/
def Session.wait (x : Session) (seq : Nat) : Session :=
  let w := x.waiting ++ [seq]
  { x with waiting := if 256 < w.length then w.drop 1 else w }

/-- The error record of an event learns its SEQ (R410). -/
def linkErr (bank : List ErrRec) (loc seq : Nat) : List ErrRec :=
  bank.map (fun (x : ErrRec) => if x.loc = loc ∧ loc ≠ 0 then { x with seq := seq, loc := 0 } else x)

/-- Adds a record to the log ring of 262,144 records; none while both flash devices are FAILED (R324, R372). -/
def Block.logAppend (b : Block) (r : EvRec) : Block :=
  if b.tray.sf0Failed ∧ b.tray.sf1Failed then b
  else
    let l := b.events.log ++ [r]
    { b with events := { b.events with log := if 262144 < l.length then l.drop 1 else l } }

/-- A record takes the next number of the block, is written, and waits for its subscribers (R358, R371, R372, R410). -/
def Block.logNext (b : Block) (r : EvRec) : Block :=
  let n := b.events.next
  let r1 : EvRec := { r with seq := n }
  let b1 := { b with events := { b.events with next := n + 1, left := b.events.left - 1 } }
  let b2 := b1.logAppend r1
  { b2 with
    errors := { b2.errors with banks := b2.errors.banks.map (fun (e : Nat × List ErrRec) =>
      if e.1 = r.unit then (e.1, linkErr e.2 r.loc n) else e) }
    sessions := b2.sessions.map (fun (e : Nat × Session) => if e.2.wants r1 then (e.1, e.2.wait n) else e) }

/-- A record of the hub's own, raised and numbered at once (R371). -/
def Block.hubRecord (b : Block) (e : Ev) (args : List Nat) : Block :=
  let n := tget 0 b.events.locals unitModule + 1
  let r : EvRec := { unit := unitModule, loc := n, ev := e, sev := Config.severity e, start := b.start.count % 2 ^ 32, args := args }
  ({ b with events := { b.events with locals := tput b.events.locals unitModule n } }).logNext r

/-- Reserves the block of 256 numbers after the highest reserved; its SEQ_BLOCK takes the first of them (R371). -/
def Block.reserveSeq (b : Block) : Block :=
  let f := b.events.blockEnd
  ({ b with events := { b.events with next := f, left := 256, blockEnd := f + 256 } }).hubRecord .seqBlock [f]

/-- Writes a record to the log, after the SEQ_BLOCK of the next block where the block is used up (R371, R372). -/
def Block.putLog (b : Block) (r : EvRec) : Block := (if b.events.left = 0 then b.reserveSeq else b).logNext r

/-- Writes every record that waits for the log (R388, R390). -/
def Block.flushLog (b : Block) : Block :=
  b.events.pend.foldl (fun (c : Block) r => c.putLog r) { b with events := { b.events with pend := [] } }

/-- Pushes up to twenty waiting records to a session: over the service bus while it transmits, or into a free event window
with EVENT_PENDING and source 2 (R321, R355, R358, R363). -/
def Block.pushTo (b : Block) (i : Nat) : Block :=
  match tfind b.sessions i with
  | none => b
  | some x =>
    let free := if i < 8 then b.tray.busTx && !b.tray.noBeacon else !(b.mailbox (i - 8)).eventPending
    if x.waiting = [] ∨ !free then b
    else
      let ev := x.waiting.take 20
      let y : Session := { x with waiting := x.waiting.drop 20, sent := x.sent + 1, pushed := ev }
      let b1 := { b with sessions := tput b.sessions i y }
      if i < 8 then b1
      else (b1.updMailbox (i - 8) (fun m => { m with eventPending := true, event := ev, eventLen := 52 + 64 * ev.length })).wire 2

/-- Pushes to every session. -/
def Block.pushAll (b : Block) : Block := (List.range 12).foldl (fun (c : Block) i => c.pushTo i) b

/-- EVENT_LOG_WRITE: the oldest record that waits is written to the log rings and pushed to its subscribers (R358, R371,
R372). -/
def execEventLogWrite (s : State) : Host.Outcome State Fault Refusal :=
  s.run (fun b =>
    if b.start.level = .dark then b
    else
      match b.events.pend with
      | [] => b.pushAll
      | r :: t => (({ b with events := { b.events with pend := t } }).putLog r).pushAll)

/-- With a second of GUEST_ACCESS_DENIED, the refusals of the guest in that second are over (R459). -/
def Block.denialSecond (b : Block) (unit : Nat) (ev : Ev) : Block :=
  if ev = .guestAccessDenied then b.updGuest (unit / 2 ^ 12 % 2 ^ 12) (fun x => { x with denialsNow := 0 }) else b

/-- EVENTS_SUPPRESSED: a second of a unit and a name ends; instances beyond the sixteenth are reported by one record with
their number (R372). -/
def execEventsSuppressed (unit : Nat) (ev : Ev) (s : State) : Host.Outcome State Fault Refusal :=
  s.run (fun b =>
    let mine (x : Nat × Ev × Nat) : Bool := x.1 == unit && x.2.1 == ev
    match b.events.second.find? mine with
    | none => b
    | some x =>
      let b1 := { b with events := { b.events with second := b.events.second.filter (fun y => !mine y) } }.denialSecond unit ev
      if 16 < x.2.2 then b1.raise unit .eventsSuppressed [leNat ((strBytes (evName ev)).take 8), x.2.2 - 16] else b1)

/-- EVENT_FETCH: 1 to 20 records from a number on, in ascending order, as the log holds them (R372). -/
def execEventFetch (role : Role) (from_ count : Nat) (s : State) : Host.Outcome State Fault Refusal :=
  s.run (fun b => b.cmd role .observer 0x60 (fun c =>
    if count < 1 ∨ 20 < count then c.refuse .outOfRange
    else
      let rs := (c.events.log.filter (fun (r : EvRec) => decide (from_ ≤ r.seq))).take count
      let d := c.done 0x60000011 rs.length
      { d with cmds := { d.cmds with reply := { d.cmds.reply with body := (rs.map eventBytes).flatten } } }))

end Sys2Proof.Machine
end

