-- ==== Sys2Proof/Machine/Stops.lean ====
section
/-! DEFINITION. Stops of the module: what outlives the main rails, the dark stop, the orderly dark, the abrupt reset (10
R248; 14 R313, R317; 15 R340, R341; 17 R388, R390). -/

namespace Sys2Proof.Machine

/-! ### What the repair map and the sockets keep while a unit is without power (R25, R47, R208, R332, R337) -/

/-- A channel keeps its remaps and those that a start is to make (R208). -/
def Channel.kept (x : Channel) : Channel :=
  { spareRows := x.spareRows, remapped := x.remapped, deferredRows := x.deferredRows, ppr := x.ppr }
/-- A domain keeps its retired frames and those that were to retire (R208). -/
def Domain.kept (x : Domain) : Domain := { retired := x.retired ++ x.retiring.filter (fun f => !x.retired.contains f) }
/-- A logical lantern keeps its site (R25). -/
def Lantern.kept (x : Lantern) : Lantern := { site := x.site }
/-- A beam keeps its bypass mask and host (R47, R49). -/
def Beam.kept (x : Beam) : Beam := { mask := x.mask, host := x.host }
/-- A chain link keeps its spares (R32, R33). -/
def Link.kept (x : Link) : Link := { spared0 := x.spared0, spared1 := x.spared1, sbSpare0 := x.sbSpare0, sbSpare1 := x.sbSpare1 }
/-- A sinker die keeps its retired engines (R417). -/
def Sinker.kept (x : Sinker) : Sinker := { engines := x.engines }
/-- A bay keeps its cartridge, whose identity is checked again (R305). -/
def Cart.kept (x : Cart) : Cart := if x.st = .empty then {} else { st := .checking }
/-- Guards, measured slowdowns, powered hours and the ageing model are kept; a guard that waited is in force, since no
program runs (R442, R443). The derating of the coolant, the dim step and the thermal limits stand until their conditions end (R315, R387,
R389). The hub's own counters go on (R380, R387, R389). -/
def Power.kept (x : Power) : Power :=
  { coolant := x.coolant, dim := x.dim, thermal := x.thermal, limits := x.limits, trips := x.trips, disagreements := x.disagreements, dimEntries := x.dimEntries,
    guard := x.guardNext.foldl (fun (t : Tab Nat) e => tput t e.1 e.2) x.guard,
    slowdown := x.slowdown, hours := x.hours, model := x.model, noBoost := x.noBoost }
/-- The spares that the repair map names: a site that was being scanned is still its tile's spare (R332, R415). -/
def Silent.mapSpares (x : Silent) : Tab (Option Nat) :=
  match x.watch with
  | .scan _ site => tput x.spares (site / 16) (some (site % 16))
  | _ => x.spares
/-- Spare sites, retired sites, the condemnation record and the scans passed are kept (R332, R417, R426); QuietLayerEvents
counts since the event sequence began (R94). -/
def Silent.kept (x : Silent) : Silent :=
  { condemned := x.condemned, spares := x.mapSpares, retired := x.retired, siteMarks := x.siteMarks, lastPass := x.lastPass, quietEvents := x.quietEvents }

/-- A table with every record changed. -/
def tmap {α : Type} (f : α → α) (t : Tab α) : Tab α := t.map (fun e => (e.1, f e.2))

/-- Every unit of the module but the hub starts afresh: memory and all that a stop ends are gone (R248, R336, R408). -/
def Block.clearUnits (b : Block) : Block :=
  { b with
    mem := [], memPoison := [], berths := [], domains := tmap Domain.kept b.domains, channels := tmap Channel.kept b.channels
    lines := [], psets := [], tiles := [], charts := [], withdrawals := [], nextWithdrawal := 1, contexts := [], queues := []
    requests := [], lanterns := tmap Lantern.kept b.lanterns, hws := [], beams := tmap Beam.kept b.beams, sets := []
    xfers := [], groups := [], sinkers := tmap Sinker.kept b.sinkers, checks := [], harts := [], clusters := []
    imsic := [], aplicM := {}, aplicS := {}, ports := [], links := tmap Link.kept b.links, guests := [], mailboxes := []
    errors := {}, power := b.power.kept, silent := b.silent.kept
    events := { b.events with locals := [], second := [] } }

/-- The main rails are off and the hub is parked at DARK: no session, no command (R327, R341, R362). -/
def Block.powerOff (b : Block) : Block :=
  let c := b.clearUnits
  { c with
    carts := tmap Cart.kept c.carts, sessions := [], cmds := {}
    tray := { c.tray with rails := false, busTx := false, noBeacon := false, slotTaken := false }
    power := { c.power with dim := 0, thermal := [] }
    start := { c.start with level := .dark, stuck := false, retry := false, heldRaised := false, woken := false }
    firmware := tmap (fun (x : Firmware) => { x with onCand := [], switching := [], paused := [], tries := [], cmd := none }) c.firmware }

/-- The arguments of a BANK_DUMP record: the fields of the error record. -/
def dumpArgs (x : ErrRec) : List Nat := [x.seq, x.cls, x.source, x.count, x.address, x.syndrome, x.ctx, x.status, x.detail]

/-- Every error bank is written to the log, a BANK_DUMP record for each of its records; the limit of R372 on repeated events
does not cut it (R410). -/
def Block.dumpBanks (b : Block) : Block :=
  b.errors.banks.foldl (fun (c : Block) (e : Nat × List ErrRec) =>
    e.2.foldl (fun (d : Block) x =>
      let n := tget 0 d.events.locals e.1 + 1
      let r : EvRec := { unit := e.1, loc := n, ev := .bankDump, sev := Config.severity .bankDump,
                         start := d.start.count % 2 ^ 32, args := dumpArgs x }
      { d with events := { d.events with locals := tput d.events.locals e.1 n, pend := d.events.pend ++ [r] } }) c) b

/-- The log is written and the rails fall (R388, R390). -/
def Block.logAndOff (b : Block) : Block := (((b.setLevel .dark).dumpBanks).flushLog).powerOff

/-- A dark stop, with its event: abrupt, the log written, DARK (R388). -/
def Block.darkStop (b : Block) (e : Ev) (args : List Nat) : Block := (b.raise unitModule e args).logAndOff

/-- The contexts that DESTROY would accept. -/
def Block.liveContexts (b : Block) : List Nat :=
  (b.contexts.filter (fun (e : Nat × Context) => e.2.st == .active || e.2.st == .extinguished)).map Prod.fst

/-- An abrupt reset: every unit is lost, and with it the records that had not reached the log and the values that waited for a
store write (R248, R317, R367, R373). -/
def Block.abruptReset (b : Block) : Block :=
  let c := ({ b with events := { b.events with pend := [] } }).powerOff
  { c with start := { c.start with woken := true }, store := { c.store with dirty := false } }

/-- Whether a start runs: at TENDED, before its main rails, neither held by the tray nor ended there (R333, R339, R340, R343). -/
def Block.startRuns (b : Block) : Bool :=
  decide (b.start.level = .tended) && !b.tray.rails && !b.start.stuck && !b.start.heldRaised

/-! ### Condemnation (R426) -/

/-- CONDEMNED: the record is written, the level falls to CHARTED, the event and bit 14 (R426); checks that run are dropped
(R428). -/
def Block.condemn (b : Block) (cause : Ev) : Block :=
  let b1 := (b.updSilent (fun x => { x with
    svc := .condemned
    condemned := x.condemned.or (some { cause := cause, seq := b.events.next + b.events.pend.length, faults := x.faults }) })).noteRepair
  let b2 := b1.checks.foldl (fun (c : Block) (x : Check) => c.dropCheck x.id) b1
  let b3 := if b2.start.level = .lit then b2.setLevel .charted else b2
  ((b3.raise unitModule .moduleCondemned []).setAlert 14).wire 3

/-- A module drained for a fault whose last requests an orderly stop has ended is condemned (R425, R426). -/
def Block.settleSuspect (b : Block) : Block :=
  if b.silent.svc = .draining ∧ b.silent.fault then b.condemn ((b.silent.cause).getD .moduleSuspect) else b

/-! ### DARK and the loss of the hub -/

/-- DARK: an orderly dark: every context is destroyed, the stores drain, the log is written, the rails fall. What drains is
not seen again, since memory is lost; BUSY while a start runs (R248, R340, R341). -/
def execDark (role : Role) (s : State) : Host.Outcome State Fault Refusal :=
  s.run (fun b => b.cmd role .operator 0x02 (fun c =>
    if c.startRuns then c.refuse .busy
    else
      let d := c.accept 0x02000073
      let e := (d.liveContexts.foldl (fun (x : Block) k => x.destroyCtx k) d).settleSuspect
      let f := (e.finishSts 0x02000073 d.cmds.count .ok).logAndOff
      { f with cmds := { f.cmds with reply := d.cmds.reply } }))

/-- HUB_LOST: the watchdog of the standby domain resets the module; the next start raises HUB_LOST (R404). -/
def execHubLost (s : State) : Host.Outcome State Fault Refusal :=
  s.run (fun b =>
    if b.start.level = .dark then b
    else
      let c := b.abruptReset
      { c with start := { c.start with hubLost := true } })

end Sys2Proof.Machine
end

