-- ==== Sys2Proof/Machine/Power.lean ====
section
/-! DEFINITION. The module limit, the estimator, the issue-rate limiter, boost, thermal limits and supply shedding (17 R375 to
R391; 12 R273). -/

namespace Sys2Proof.Machine

/-! ### The module limit (R320, R375) -/

/-- Input-voltage readings in mV as the thresholds use them: a substituted sensor is replaced by the other one, both by
45.5 V (R320). -/
def Block.voltages (b : Block) : List Nat :=
  let s0 := b.sensor 0; let s1 := b.sensor 1
  let v0 := s0.value.toNat; let v1 := s1.value.toNat
  if s0.substituted ∧ s1.substituted then [45500, 45500]
  else if s0.substituted then [v1, v1] else if s1.substituted then [v0, v0] else [v0, v1]

/-- The lower and the higher of the two readings (R313). -/
def Block.vLow (b : Block) : Nat := b.voltages.foldl min 70000
def Block.vHigh (b : Block) : Nat := b.voltages.foldl max 0

/-- The coolant limit for a filtered inlet temperature in m°C: none up to 40 °C, 250 W per °C above, 2,500 W above 45 °C
(R315, R375). -/
def coolantLimit (t : Int) : Option Nat :=
  if t ≤ 40000 then none else if 45000 < t then some 2500 else some (6000 - 250 * (t - 40000).toNat / 1000)

/-- The values of R375 with their codes, the lowest binding. -/
def Block.limits (b : Block) : List (Nat × Nat) :=
  let conf := (b.cfg 0x10000001 6000, 0)
  let cool := match b.power.coolant with
    | some w => [(w, if (b.sensor 3).substituted then 3 else 1)]
    | none => []
  let both := (b.sensor 0).substituted && (b.sensor 1).substituted
  conf :: cool ++ [(150 * b.vLow / 1000, if both || (b.sensor 2).substituted then 3 else 2)]

/-- The effective limit and its source; the first of equals (R375). -/
def lowest : List (Nat × Nat) → Nat × Nat
  | [] => (6000, 0)
  | [x] => x
  | x :: t => let y := lowest t; if y.1 < x.1 then y else x

/-- The effective limit follows its sources: a change raises POWER_LIMIT_CHANGED and source 4 (R375). -/
def Block.updLimit (b : Block) : Block :=
  let x := lowest b.limits
  let c := { b with power := { b.power with limit := x.1, source := x.2 } }
  if x.1 = b.power.limit then c else (c.raise unitModule .powerLimitChanged [x.1, x.2]).wire 4

/-! ### Thermal state and ceilings (R387) -/

/-- Thermal state of a unit. -/
def Block.thermal (b : Block) (u : Nat) : Thermal := tget {} b.power.thermal u
/-- Changes the power record. -/
def Block.updPower (b : Block) (f : Power → Power) : Block := { b with power := f b.power }

/-- Thermal ceiling of a lantern: its own or its tile's, the lower (R387). -/
def Block.thermalCeiling (b : Block) (l : Nat) : Nat :=
  min (16 - (b.thermal (0x100 + l)).lowered) (16 - (b.thermal (0x200 + lampTile l)).lowered)

/-- Dim-step ceiling (R389). -/
def Block.dimCeiling (b : Block) : Nat := if 3 ≤ b.power.dim then 2 else if b.power.dim = 2 then 8 else 16

/-- The ceiling of a lantern's rate: thermal, dim step, and 8/16 while the estimate is broken (R380, R382, R391). -/
def Block.ceiling (b : Block) (l : Nat) : Nat :=
  min (min (b.thermalCeiling l) b.dimCeiling) (if b.power.broken then 8 else 16)

/-- The clock that a cluster is granted in units of 100 MHz: its request under the controller's limit, the ceiling of its die
and dim step 3 (R273, R387, R389). -/
def Block.grantFor (b : Block) (cl : Nat) : Nat :=
  let x := b.cluster cl
  max 8 (min (min x.req x.limit) (min (34 - (b.thermal (0x400 + cl / 4)).lowered) (if 3 ≤ b.power.dim then 8 else 34)))

/-- A change of GRANT stops a running cluster until its PLL has locked (R273). -/
def Block.regrant (b : Block) (cl : Nat) : Block :=
  let g := b.grantFor cl
  if g = (b.cluster cl).grant then b
  else b.updCluster cl (fun x => { x with grant := g, relocking := x.relocking || x.st == .running })

/-- Every cluster's GRANT follows. -/
def Block.regrantAll (b : Block) : Block := (List.range 8).foldl (fun (c : Block) cl => c.regrant cl) b

/-! ### The estimator (R376 to R378) -/

/-- The clock of a window in femtojoule counts: the counters a window gives, one per weight. -/
def Activity.count (a : Activity) (i : Nat) : Int := (a.counts.getD i 0 : Nat)

/-- Σ wi × ci over some counters, in femtojoule (R377). -/
def Block.energy (b : Block) (a : Activity) (is_ : List Nat) : Int :=
  is_.foldl (fun (s : Int) i => s + Config.weight i b.power.refits * a.count i) 0

/-- Dynamic power in mW of an energy over 4 µs at the voltage of a point with its guard (R377, R442). -/
def Block.dynamic (b : Block) (l : Nat) (e : Int) : Int :=
  let g := tget 25 b.power.guard (b.siteOf l)
  let v : Int := (Config.voltage (b.lantern l).op + g : Nat)
  let v5 : Int := (Config.voltage 5 + g : Nat)
  e * v * v / (v5 * v5 * 4000000)

/-- A lantern's estimate and its issue-dependent part in mW: nothing for a lantern that is lost (R377, R382, R391). -/
def Block.lampPower (b : Block) (l : Nat) (a : Activity) : Int × Int :=
  if (b.lantern l).loss ≠ .alive then (0, 0)
  else
    (((Config.leakage (b.lantern l).op (b.thermal (0x100 + l)).milliC : Nat) : Int) + b.dynamic l (b.energy a (List.range 10)),
     b.dynamic l (b.energy a [1, 2, 3, 4, 5, 6, 7, 8]))

/-- Power booked for guest dies in mW (R376). -/
def Block.guestBooked (b : Block) : Int := if b.tray.part = .g4t then 150000 else 0

/-! ### The limiter (R161, R381 to R383) -/

/-- What the limiter plans in one window: the projected estimate p of the module, the rate, the projected estimate and the
saving of one step of each lantern, all in mW. -/
structure Plan where
  p : Int
  rates : Tab Nat
  est : Tab Int
  save : Tab Int
deriving DecidableEq, Repr

/-- The lantern above rate 2 with the highest projected estimate, the lowest number on ties (R382). -/
def Plan.hottest (x : Plan) : Option Nat :=
  (x.rates.foldl (fun (m : Option (Nat × Int)) (e : Nat × Nat) =>
    let v := tget 0 x.est e.1
    if e.2 ≤ 2 then m else match m with | some y => if y.2 < v then some (e.1, v) else m | none => some (e.1, v)) none).map Prod.fst

/-- The lantern with the lowest rate below its ceiling, the lowest number on ties (R382). -/
def Block.lowestRate (b : Block) (x : Plan) : Option Nat :=
  (x.rates.foldl (fun (m : Option (Nat × Nat)) (e : Nat × Nat) =>
    if b.ceiling e.1 ≤ e.2 then m else match m with | some y => if e.2 < y.2 then some e else m | none => some e) none).map Prod.fst

/-- Cuts while p is above the limit and the fall stays within the slew allowance (R382, R383). -/
def Plan.cut (lim old : Int) (eta : Int) : Nat → Plan → Plan
  | 0, x => x
  | n + 1, x =>
    match x.hottest with
    | none => x
    | some l =>
      let s := tget 0 x.save l
      if x.p ≤ lim ∨ 1875000 < old - (x.p - s) then x
      else
        Plan.cut lim old eta n { x with
          p := x.p - s, rates := tput x.rates l (tget 16 x.rates l - 1), est := tput x.est l (tget 0 x.est l - s * eta / 1000) }

/-- Raises while the rise stays within the slew allowance and p at or below the limit (R382, R383). -/
def Block.lift (b : Block) (lim old : Int) : Nat → Plan → Plan
  | 0, x => x
  | n + 1, x =>
    match b.lowestRate x with
    | none => x
    | some l =>
      let s := tget 0 x.save l
      if lim < x.p + s ∨ 1875000 < x.p + s - old then x
      else b.lift lim old n { x with p := x.p + s, rates := tput x.rates l (tget 16 x.rates l + 1) }

/-- The bound GCAP groups with the lantern members of each (R161). -/
def Block.gcapGroups (b : Block) : List (List Nat) :=
  (b.groups.filter (fun (e : Nat × Group) => e.2.gcap && e.2.bound.isSome)).map (fun (e : Nat × Group) => setBits e.2.lanterns 64)

/-- Rates after the cuts: those of members of a GCAP group are shared by all of its lanterns (R161). -/
def Block.groupCuts (b : Block) (rates : Tab Nat) : Tab Nat :=
  let cutOf (l : Nat) : Nat := (b.lantern l).rate - tget 16 rates l
  let gs := b.gcapGroups
  rates.map (fun (e : Nat × Nat) =>
    let mine := gs.filter (fun (m : List Nat) => m.contains e.1)
    if mine = [] then e
    else
      let k := mine.foldl (fun (a : Nat) (m : List Nat) => max a (ceilDiv ((m.map cutOf).foldl (· + ·) 0) m.length)) 0
      (e.1, max (min 2 (b.lantern e.1).rate) ((b.lantern e.1).rate - k)))

/-- Whether boost may stand on a lantern (R385, R442). -/
def Block.boostOk (b : Block) (l : Nat) : Bool :=
  b.cfg 0x10000004 0 == 0 && decide (b.power.dim = 0 ∧ (b.lantern l).rate = 16 ∧ 16 ≤ b.thermalCeiling l ∧
    (b.thermal (0x100 + l)).milliC < 100000 ∧ b.power.p ≤ (b.power.limit : Int) * 1000 - 300000) &&
    !b.power.noBoost.contains (b.siteOf l) && (b.lantern l).loss == .alive

/-- Boost is withdrawn (R385). -/
def Block.unboost (b : Block) (l : Nat) : Block :=
  let c := b.updPower (fun x => { x with sinceBoost := tput x.sinceBoost l 0 })
  if (b.lantern l).boost then (c.updLantern l (fun x => { x with boost := false })).reOp l else c

/-- Boost of a lantern in a window: withdrawn when a condition fails, granted again once they have held for 250 windows and
the rise stays within the slew allowance (R383, R385). -/
def Block.boostStep (b : Block) (l : Nat) (old : Int) : Block :=
  if !b.boostOk l then b.unboost l
  else
    let n := tget 250 b.power.sinceBoost l
    if (b.lantern l).boost then b
    else if n < 250 then b.updPower (fun x => { x with sinceBoost := tput x.sinceBoost l (n + 1) })
    else if 1875000 < b.power.p - old then b
    else (b.updLantern l (fun x => { x with boost := true })).reOp l

/-- Junction band of R443. -/
def bandOf (t : Int) : Nat := if t < 70000 then 0 else if t < 85000 then 1 else if t < 95000 then 2 else 3

/-- Counters of a lantern that a window advances: LimitedWindows, FillerCycles, powered time (R392, R443). -/
def Block.windowCounts (b : Block) (l : Nat) (a : Activity) : Block :=
  b.updPower (fun x => { x with
    limited := if (b.lantern l).rate < 16 then tinc x.limited l 1 else x.limited
    filler := if a.counts.getD 9 0 = 0 then x.filler else tinc x.filler l (a.counts.getD 9 0)
    hours := tinc x.hours (b.siteOf l * 4 + bandOf (b.thermal (0x100 + l)).milliC) 1 })

/-- POWER_WINDOW: the estimate of a window of 4 µs, then limits, rates, keeper clocks and boost (R375 to R385, R161). -/
def execPowerWindow (acts : List Activity) (s : State) : Host.Outcome State Fault Refusal :=
  s.run (fun b0 =>
    if !b0.tray.rails then b0
    else
      let b := b0.updLimit
      let actOf (l : Nat) : Activity := (acts.find? (fun (a : Activity) => a.lantern == l)).getD { lantern := l, counts := [] }
      let es : List (Nat × Int × Int) := (List.range 64).map (fun l => (l, b.lampPower l (actOf l)))
      let sum := es.foldl (fun (t : Int) e => t + e.2.1) 0 + (Config.otherPower b.power.windows : Nat) + b.guestBooked
      let eta : Int := (Config.eta (sum / 1000).toNat b.vLow : Nat)
      let k (v : Int) : Int := (b.power.k * (v : Rat)).floor
      let p := k (sum * 1000 / eta)
      let lim : Int := (b.power.limit : Int) * 1000
      let old := b.power.history.getD 249 (b.power.history.getLastD p)
      let plan : Plan := { p := p, rates := es.map (fun e => (e.1, (b.lantern e.1).rate)), est := es.map (fun e => (e.1, k e.2.1)),
                           save := es.map (fun e => (e.1, k (e.2.2 * 1000 / eta) / 16)) }
      let cut := Plan.cut lim old eta 896 plan
      let floorAll := cut.rates.all (fun (e : Nat × Nat) => decide (e.2 ≤ 2))
      let low := if p < lim - 100000 then min 10 (b.power.lowWindows + 1) else 0
      let keepersLow := (List.range 8).any (fun c => decide ((b.cluster c).limit < 34))
      let rates := if lim < p then b.groupCuts cut.rates
        else if low = 10 ∧ !keepersLow then (b.lift lim old 1024 plan).rates else plan.rates
      let b1 := es.foldl (fun (c : Block) e =>
        c.updLantern e.1 (fun x => { x with rate := min (tget 16 rates e.1) (b.ceiling e.1) })) b
      let b2 := if lim < cut.p ∧ floorAll then (List.range 8).foldl (fun (c : Block) cl =>
          c.updCluster cl (fun x => { x with limit := max 8 (min x.limit x.grant - 1) })) b1
        else if low = 10 ∧ keepersLow then (List.range 8).foldl (fun (c : Block) cl =>
          c.updCluster cl (fun x => { x with limit := min 34 (x.limit + 1) })) b1
        else b1
      let b3 := b2.regrantAll
      let stuck := decide (lim < p) && floorAll && (List.range 8).all (fun c => decide ((b3.cluster c).grant ≤ 8))
      let b4 := b3.updPower (fun x => { x with
        p := p, estimated := (p / 1000).toNat, lanterns := es.map (fun e => (e.1, k e.2.1)), lowWindows := low
        history := (p :: x.history).take 250, unmet := if stuck then x.unmet + 1 else 0, windows := x.windows + 1 })
      let b5 := if b4.power.unmet = 25000 then b4.raise unitModule .powerLimitUnmet [] else b4
      let b6 := (List.range 64).foldl (fun (c : Block) l => (c.boostStep l old).windowCounts l (actOf l)) b5
      (List.range 8).foldl (fun (c : Block) cl =>
        if (c.cluster cl).grant < (c.cluster cl).req then c.updCluster cl (fun x => { x with cappedTime := x.cappedTime + 4 }) else c) b6)

/-! ### Re-fit and disagreement (R379, R380) -/

/-- Whether a reading that the re-fit and the comparison use is invalid (R320, R380). -/
def Block.readingsBad (b : Block) : Bool := [0, 1, 2].any (fun i => !(b.sensor i).valid || (b.sensor i).substituted)

/-- ESTIMATOR_REFIT: the weights are fitted again: the fitted weights are a free value of the number of re-fits (R379). -/
def execEstimatorRefit (s : State) : Host.Outcome State Fault Refusal :=
  s.run (fun b =>
    if !b.tray.rails ∨ b.readingsBad then b else b.updPower (fun x => { x with refits := x.refits + 1 }))

/-- DISAGREEMENT_CHECK: measured and estimated power, each averaged over a millisecond; k follows (R380). -/
def execDisagreementCheck (m e : Nat) (persisted : Bool) (s : State) : Host.Outcome State Fault Refusal :=
  s.run (fun b =>
    if !b.tray.rails then b
    else
      let b1 := b.updPower (fun x => { x with measured := m, fast := x.fast - 1 })
      if b1.readingsBad then b1
      else
        let k := b1.power.k
        let q : Rat := if e = 0 then 2 else (m : Rat) / (e : Rat)
        let note (c : Block) (ev : Ev) : Block :=
          (c.raise unitModule ev [m, e]).updPower (fun x => { x with disagreements := x.disagreements + 1, fast := 1000 })
        let b2 :=
          if 115 * e < 100 * m then
            (if persisted then note (b1.updPower (fun x => { x with k := min q 2 })) .estimateLow else b1)
          else if 115 * m < 100 * e then (if persisted then note b1 .estimateHigh else b1)
          else b1.updPower (fun x => { x with k := max 1 (max (min q 2) (k - 1 / 100)) })
        if 2 ≤ b2.power.k ∧ !b2.power.broken then
          (b2.raise unitModule .estimateBroken [m, e]).updPower (fun x => { x with broken := true, disagreements := x.disagreements + 1 })
        else if b2.power.k < 3 / 2 then b2.updPower (fun x => { x with broken := false })
        else b2)

/-! ### Temperatures (R387, R388) -/

/-- Limit, release and trip of a unit in m°C, and the most steps that its ceiling falls (R387). -/
def thermalLimits (u : Nat) : Option (Int × Int × Int × Nat) :=
  if 0x100 ≤ u ∧ u < 0x140 then some (105000, 102000, 115000, 15)
  else if 0x200 ≤ u ∧ u < 0x209 then some (100000, 97000, 110000, 15)
  else if 0x300 ≤ u ∧ u < 0x310 then some (95000, 93000, 105000, 0)
  else if 0x400 ≤ u ∧ u < 0x402 then some (100000, 97000, 110000, 26)
  else if u = 0x500 ∨ u = 0x510 ∨ u = 0x511 then some (100000, 97000, 110000, 0)
  else if 0x600 ≤ u ∧ u < 0x610 then some (85000, 82000, 95000, 0)
  else none

/-- A unit of R387 as a reporting unit: in area 11 by its number of R392, a DIMM in area 31; the hub is the module, a port engine its
port (R370). -/
def thermalUnit (u : Nat) : Nat :=
  if 0x600 ≤ u then unitNo 0x31 (u - 0x600) else if u = 0x500 then unitModule else if 0x510 ≤ u then unitNo 0x50 (u - 0x510) else unitNo 0x11 u

/-- A reading of a unit's hottest sensor: at its limit the ceiling falls a step, below its release it rises one; entry raises
THERMAL_LIMIT and source 5, for a DIMM also DIMM_HOT and bit 7 of AlertCauses (R387). -/
def Block.heat (b : Block) (u : Nat) (t : Int) : Block :=
  match thermalLimits u with
  | none => b
  | some (limit, release, _, most) =>
    let x := b.thermal u
    let put (c : Block) (y : Thermal) : Block := c.updPower (fun z => { z with thermal := tput z.thermal u y })
    if limit ≤ t then
      let c := put b { milliC := t, limited := true, lowered := min most (x.lowered + 1) }
      let d := if x.limited then c
        else ((c.updPower (fun z => { z with limits := z.limits + 1 })).raise (thermalUnit u) .thermalLimit [u]).wire 5
      let e := if 0x600 ≤ u ∧ !x.limited then (d.raise (thermalUnit u) .dimmHot [u - 0x600]).setAlert 7 else d
      if 0x400 ≤ u ∧ u < 0x402 then e.regrantAll else e
    else if t < release then
      let c := put b { milliC := t, limited := false, lowered := x.lowered - 1 }
      let d := if (List.range 16).any (fun i => (c.thermal (0x600 + i)).limited) then c else c.clearAlert 7
      if 0x400 ≤ u ∧ u < 0x402 then d.regrantAll else d
    else put b { x with milliC := t }

/-- THERMAL_SAMPLE: an on-die sensor is read; units as R392 numbers them, 0x500 the hub, 0x510 + p a port, 0x600 + c a DIMM
(R387). -/
def execThermalSample (unit : Nat) (milliC : Int) (s : State) : Host.Outcome State Fault Refusal :=
  s.run (fun b => if !b.tray.rails then b else b.heat unit milliC)

/-- THERMAL_TRIP: a reading at its trip temperature has stood for 1 ms: a dark stop (R387, R388). -/
def execThermalTrip (unit : Nat) (s : State) : Host.Outcome State Fault Refusal :=
  s.run (fun b =>
    match thermalLimits unit with
    | none => b
    | some (_, _, trip, _) =>
      if !b.tray.rails ∨ (b.thermal unit).milliC < trip then b
      else ((b.updPower (fun x => { x with trips := x.trips + 1 })).raise (thermalUnit unit) .thermalTrip [unit]).logAndOff)

/-! ### Supply shedding (R389, R390) -/

/-- The actions of the dim steps up to a step: boost withdrawn, ceilings in force, guest dies suspended, GRANTs held (R389,
R455). -/
def Block.shed (b : Block) : Block :=
  let b1 := if b.power.dim = 0 then b else (List.range 64).foldl (fun (c : Block) l =>
    (c.unboost l).updLantern l (fun x => { x with rate := min x.rate (c.ceiling l) })) b
  let b2 := { b1 with guests := tmap (fun (g : Guest) =>
    if 2 ≤ b.power.dim ∧ g.st = GuestSt.running then { g with st := GuestSt.suspended }
    else if b.power.dim < 2 ∧ g.st = GuestSt.suspended then { g with st := GuestSt.running } else g) b1.guests }
  b2.regrantAll

/-- A dim step is entered, with every shallower one; step 4 is the orderly dark (R389, R390). -/
def Block.enterDim (b : Block) (step : Nat) : Block :=
  let c := (b.updPower (fun x => { x with
    dim := step
    dimEntries := (List.range 4).foldl (fun (t : Tab Nat) i => if x.dim ≤ i ∧ i < step then tinc t i 1 else t) x.dimEntries })).wire 4
  if 4 ≤ step then c.logAndOff else c.shed

/-- DIM_STEP_ENTER: the lower reading has stayed below a threshold for 200 µs; with both voltage sensors substituted no step
beyond the first is entered (R320, R389). -/
def execDimStepEnter (step : Nat) (s : State) : Host.Outcome State Fault Refusal :=
  s.run (fun b =>
    if !b.tray.rails ∨ step ≤ b.power.dim ∨ 4 < step ∨ ((b.sensor 0).substituted ∧ (b.sensor 1).substituted ∧ 1 < step) then b
    else b.enterDim step)

/-- DIM_STEP_EXIT: both readings have stayed at a step's exit level for 200 µs: the step's actions are undone (R389). -/
def execDimStepExit (step : Nat) (s : State) : Host.Outcome State Fault Refusal :=
  s.run (fun b =>
    if !b.tray.rails ∨ step = 0 ∨ 4 ≤ step ∨ b.power.dim < step ∨ ((b.sensor 0).substituted ∧ (b.sensor 1).substituted) then b
    else ((b.updPower (fun x => { x with dim := step - 1 })).wire 4).shed)

/-- The inlet temperature in m°C as the rules use it: 46 °C while its sensor is substituted (R320). -/
def Block.inlet (b : Block) : Int := if (b.sensor 3).substituted then 46000 else (b.sensor 3).value
/-- What follows from a reading or a substitute: the limits of power, and a DIMM's temperature limit (R315, R320, R375,
R387). -/
def Block.sensed (b : Block) (n : Nat) : Block :=
  if n = 3 ∧ (b.alert 2 ∨ (b.sensor 3).substituted) then (b.updPower (fun x => { x with coolant := coolantLimit b.inlet })).updLimit
  else if n < 3 then b.updLimit
  else if 16 ≤ n ∧ b.tray.rails then b.heat (0x600 + (n - 16)) (if (b.sensor n).substituted then 85000 else (b.sensor n).value)
  else b
/-- The substitutes that stand when the main rails come on act again (R320). -/
def Block.resense (b : Block) : Block :=
  b.sensors.foldl (fun (c : Block) (e : Nat × Sensor) => if e.2.substituted then c.sensed e.1 else c) b

end Sys2Proof.Machine
end

