-- ==== Sys2Proof/Machine/Tray.lean ====
section
/-! DEFINITION. The tray connections: supply, coolant, tray signals, sensors, service bus (14 R312 to R325). -/

namespace Sys2Proof.Machine

/-! ### 54 V input (R313) -/

/-- SUPPLY_HIGH: the higher reading has stood above 58 V for 10 ms; nothing tells of it while an overvoltage has stopped the hub
(R313). -/
def execSupplyHigh (s : State) : Host.Outcome State Fault Refusal :=
  s.run (fun b => if b.vHigh ≤ 58000 ∨ b.alert 1 ∨ b.start.overvoltage then b else (b.raise unitModule .supplyHigh []).setAlert 1)

/-- SUPPLY_HIGH_CLEAR: the lower reading has stood below 57.5 V for 10 ms (R313). -/
def execSupplyHighClear (s : State) : Host.Outcome State Fault Refusal :=
  s.run (fun b => if 57500 ≤ b.vLow then b else b.clearAlert 1)

/-- SUPPLY_OVERVOLTAGE: above 61 V for 10 µs the disconnect opens and latches; abrupt loss, the hub stops; the next start
records it; the standby rail takes the alert causes with it (R313, R319). The comparator acts before the sensors sample. -/
def execSupplyOvervoltage (s : State) : Host.Outcome State Fault Refusal :=
  s.run (fun b =>
    if b.tray.latched then b
    else
      let c := b.abruptReset
      { c with
        tray := { c.tray with latched := true, alerts := 0 }, power := { c.power with coolant := none }, start := { c.start with overvoltage := true, woken := false } })

/-! ### Coolant (R315) -/

/-- COOLANT_WARM: the inlet has stood above 40 °C for 1 s: the limit is derated (R315, R375). -/
def execCoolantWarm (s : State) : Host.Outcome State Fault Refusal :=
  s.run (fun b =>
    if b.inlet ≤ 40000 ∨ b.alert 2 then b
    else (((b.raise unitModule .coolantWarm []).setAlert 2).updPower (fun x => { x with coolant := coolantLimit b.inlet })).updLimit)

/-- COOLANT_DERATE_CLEAR: the inlet has stood below 39 °C for 10 s (R315). -/
def execCoolantDerateClear (s : State) : Host.Outcome State Fault Refusal :=
  s.run (fun b =>
    if 39000 ≤ b.inlet then b
    else ((b.clearAlert 2).updPower (fun x => { x with coolant := none })).updLimit)

/-- COOLANT_HOT: the inlet has stood above 50 °C for 1 s: a dark stop, bit 18 of AlertCauses (R315, R352, R388). An invalid
sensor never reads so (R325). -/
def execCoolantHot (s : State) : Host.Outcome State Fault Refusal :=
  s.run (fun b =>
    if b.inlet ≤ 50000 ∨ b.start.level = .dark then b else (b.setAlert 18).darkStop .coolantHot [])

/-- COOLANT_LEAK: a leak trace has been wet, below 100 kΩ, for 100 ms: a dark stop (R315, R352, R388); an OPEN trace never
stops the module (R320). -/
def execCoolantLeak (trace : Nat) (s : State) : Host.Outcome State Fault Refusal :=
  s.run (fun b =>
    let x := b.sensor (5 + trace)
    if 2 ≤ trace ∨ !x.valid ∨ 100000 ≤ x.value ∨ x.value < 100 ∨ b.start.level = .dark then b
    else (b.setAlert 18).darkStop .coolantLeak [trace])

/-! ### Tray signals (R317 to R319) -/

/-- FLOW_LOST: filtered TRAY_FLOW_OK has been false: back within 20 ms it is a glitch; else, with the main rails on, a dark
stop follows (R317, R325, R343, R352). -/
def execFlowLost (returned : Bool) (s : State) : Host.Outcome State Fault Refusal :=
  s.run (fun b =>
    if returned then (if b.tray.flowOk ∧ b.start.level ≠ .dark then b.raise unitModule .flowGlitch [] else b)
    else
      let c := { b with tray := { b.tray with flowOk := false } }
      if b.tray.rails then (c.setAlert 18).darkStop .flowLost [] else c)

/-- TRAY_POWER_WARN: filtered TRAY_PWR_OK is false: with the main rails on, an orderly dark with the actions of dim step 4
(R317, R390). -/
def execTrayPowerWarn (s : State) : Host.Outcome State Fault Refusal :=
  s.run (fun b =>
    let c := { b with tray := { b.tray with pwrOk := false } }
    if b.tray.rails then (c.raise unitModule .trayPowerWarn []).logAndOff else c)

/-- TRAY_RESET: TRAY_RESET_N has been low for a time in ns and has risen: under 1 µs it is ignored, under 10 µs counted, else
an abrupt reset, after which a cold start follows; a latched disconnect closes once the input has stood below 58 V for 1 s
(R313, R317). -/
def execTrayReset (lowNs : Nat) (s : State) : Host.Outcome State Fault Refusal :=
  s.run (fun b =>
    if lowNs < 1000 then b
    else if lowNs < 10000 then { b with tray := { b.tray with runts := b.tray.runts + 1 } }
    else
      let c := b.abruptReset
      if b.tray.latched ∧ 1000 ≤ b.tray.below58 then ({ c with tray := { c.tray with latched := false } }).clearAlert 19 else c)

/-- The value on which a set of eight samples agrees: the first of at most four sets whose samples are equal; 0x3F is no slot
(R317). -/
def agreed : Nat → List Nat → Option Nat
  | 0, _ => none
  | n + 1, xs =>
    let set := xs.take 8
    match set with
    | [] => none
    | v :: t => if set.length = 8 ∧ t.all (· == v) then (if v < 0x3F then some v else none) else agreed n (xs.drop 8)

/-- SLOT_ID_SAMPLE: at the hub's start the slot identity is agreed and the transmitter enabled with it; in service a change is
reported and applied at the next hub start (R317, R318, R321, R325). -/
def execSlotIdSample (samples : List Nat) (atStart : Bool) (s : State) : Host.Outcome State Fault Refusal :=
  s.run (fun b =>
    let v := agreed 4 samples
    if b.start.level = .dark ∨ atStart = b.tray.slotTaken then b
    else if atStart then
      let c := { b with tray := { b.tray with slotId := v, slotNow := v, slotTaken := true, busTx := v.isSome } }
      if v.isSome then c.clearAlert 0 else (c.raise unitModule .slotIdInvalid []).setAlert 0
    else
      let c := { b with tray := { b.tray with slotNow := v } }
      if v = b.tray.slotNow then c else c.raise unitModule .slotIdChanged [v.getD 0xFF])

/-- TRAY_PRESENT_N is tied to ground in the module: low while it is seated (R311, R316). -/
def trayPresentN : Bool := false
/-- The status indicator: it blinks while a start that failed at step 1 or 2 is retried; off at DARK; amber while MOD_ALERT_N is low,
which stands before green (DESIGN CHOICE, log entry 84); green at LIT (R310, R324, R339). -/
def Block.indicator (b : Block) : Indicator :=
  if b.start.level = .dark then (if b.start.retry then .amberBlinks else .off)
  else if !b.modAlertN then .amber else if b.modReady then .green else .off

/-! ### Sensors (R320) -/

/-- Valid range of a sensor's reading, in the units of its record; an OPEN leak trace, −1, is not in it. -/
def sensorRange (n : Nat) : Option (Int × Int) :=
  if n < 2 then some (0, 70000) else if n = 2 then some (-5000, 200000) else if n = 3 then some (0, 90000)
  else if n = 4 then some (0, 100000) else if n < 7 then some (100, 10000000)
  else if 16 ≤ n ∧ n < 32 then some (0, 125000) else none

/-- Bit 5 of AlertCauses stands while a substitute is in use. -/
def Block.sensorAlert (b : Block) : Block :=
  if b.sensors.any (fun (e : Nat × Sensor) => e.2.substituted) then b.setAlert 5 else b.clearAlert 5

/-- The samples of the input voltage that stand below 58 V in a row: the lower reading counts, since the voltage falls (R313). -/
def Block.belowStep (b : Block) (n : Nat) : Block :=
  if n = 0 ∨ n = 1 then
    { b with tray := { b.tray with below58 := if b.vLow < 58000 then (if n = 0 then min 1000 (b.tray.below58 + 1) else b.tray.below58) else 0 } }
  else b

/-- SENSOR_SAMPLE: a valid reading is taken; 1,000 in a row end a substitute; an invalid one is counted (R320). -/
def execSensorSample (sensor : Nat) (reading : Int) (s : State) : Host.Outcome State Fault Refusal :=
  s.run (fun b =>
    match sensorRange sensor with
    | none => b
    | some (lo, hi) =>
      let x := b.sensor sensor
      if lo ≤ reading ∧ reading ≤ hi then
        let good := if x.substituted then x.good + 1 else 0
        let back := decide (1000 ≤ good)
        let y : Sensor := { x with value := reading, valid := true, good := if back then 0 else good, substituted := x.substituted && !back }
        let c := ((b.setSensor sensor y).sensorAlert).belowStep sensor
        if y.substituted then c
        else if sensor = 3 ∧ back ∧ reading ≤ 40000 ∧ !c.alert 2 then (c.updPower (fun z => { z with coolant := none })).updLimit
        else c.sensed sensor
      else
        let open_ := decide (sensor = 5 ∨ sensor = 6) && reading == -1
        (b.setSensor sensor { x with
          valid := false, good := 0, invalids := x.invalids + 1, value := if open_ then -1 else x.value }).belowStep sensor)

/-- SENSOR_INVALID: a sensor has given no valid reading for 1 s: its substitute is used; both input voltages substituted enter
and hold dim step 1 and no deeper step (R320). -/
def execSensorInvalid (sensor : Nat) (s : State) : Host.Outcome State Fault Refusal :=
  s.run (fun b =>
    let x := b.sensor sensor
    if (sensorRange sensor).isNone ∨ x.valid ∨ x.substituted then b
    else
      let c := (((b.setSensor sensor { x with substituted := true, good := 0 }).raise unitModule .sensorInvalid [sensor]).sensorAlert).sensed sensor
      if (c.sensor 0).substituted ∧ (c.sensor 1).substituted ∧ c.tray.rails then
        (if c.power.dim = 0 then c.enterDim 1 else if c.power.dim = 1 then c
         else ((c.updPower (fun z => { z with dim := 1 })).wire 4).shed)
      else c)

/-! ### Service bus (R321) -/

/-- The PLCA node of the module: its slot identity plus 1, 1 to 63; the tray's controller is node 0 (R321). -/
def Block.plcaNode (b : Block) : Option Nat := b.tray.slotId.map (· + 1)
/-- ServiceMac: the six bytes of the MAC address (R321). -/
def serviceMac : List Byte :=
  let x := Config.factory 0x01000020
  (List.range 6).map (fun i => x.getD i 0)
/-- The IPv6 link-local address that the module takes from its MAC address by EUI-64 (R321). -/
def linkLocal : List Byte :=
  let m := serviceMac
  let at_ (i : Nat) : Byte := m.getD i 0
  [0xFE, 0x80, 0, 0, 0, 0, 0, 0, at_ 0 ^^^ 2, at_ 1, at_ 2, 0xFF, 0xFE, at_ 3, at_ 4, at_ 5]

/-- SERVICE_BUS_NO_BEACON: no beacon for 100 ms stops the transmitter (R321). -/
def execServiceBusNoBeacon (s : State) : Host.Outcome State Fault Refusal :=
  s.run (fun b =>
    if b.start.level = .dark ∨ !b.tray.busTx ∨ b.tray.noBeacon then b
    else ({ b with tray := { b.tray with noBeacon := true } }).raise unitModule .serviceBusNoBeacon [])

/-- SERVICE_BUS_BEACON: the module transmits again (R321). -/
def execServiceBusBeacon (s : State) : Host.Outcome State Fault Refusal :=
  s.run (fun b => { b with tray := { b.tray with noBeacon := false } })

end Sys2Proof.Machine
end

