-- ==== Sys2Proof/Machine/Objects.lean ====
section
/-! DEFINITION. The object dictionary of the light list: the catalogue, the values that a READ returns and the checks of a
value (16 R345 to R350, and the object tables of every chapter). -/

namespace Sys2Proof.Machine

/-! ### The catalogue (R345 to R351) -/

/-- An object, or one object for each of several units: area, first unit, number of units, item; codes of type, access and
role; element type; bytes of the value; least and greatest value and default of a number. -/
structure Obj where
  area : Nat
  unit : Nat
  count : Nat
  item : Nat
  typ : Nat
  acc : Nat
  role : Nat
  elem : Nat := 0
  size : Nat
  lo : Nat := 0
  hi : Nat := 0
  dflt : Nat := 0
deriving DecidableEq, Repr

/-- Objects of area 01 (R351). -/
def objs01 : List Obj := [
  { area := 0x01, unit := 0x0, count := 1, item := 0x1, typ := 10, acc := 3, role := 3, size := 15 },
  { area := 0x01, unit := 0x0, count := 1, item := 0x2, typ := 10, acc := 0, role := 0, size := 4098 },
  { area := 0x01, unit := 0x0, count := 1, item := 0x10, typ := 2, acc := 0, role := 0, size := 2, hi := 65535 },
  { area := 0x01, unit := 0x0, count := 1, item := 0x11, typ := 3, acc := 0, role := 0, size := 4, hi := 4294967295 },
  { area := 0x01, unit := 0x0, count := 1, item := 0x20, typ := 4, acc := 0, role := 0, size := 8, hi := 18446744073709551615 },
  { area := 0x01, unit := 0x0, count := 1, item := 0x30, typ := 11, acc := 0, role := 0, size := 65535 } ]

/-- Objects of area 02 (R351). -/
def objs02 : List Obj := [
  { area := 0x02, unit := 0x0, count := 256, item := 0x1, typ := 1, acc := 0, role := 0, size := 1, hi := 255 },
  { area := 0x02, unit := 0x0, count := 256, item := 0x10, typ := 13, acc := 0, role := 0, elem := 4, size := 114 },
  { area := 0x02, unit := 0x0, count := 256, item := 0x11, typ := 4, acc := 0, role := 0, size := 8, hi := 18446744073709551615 },
  { area := 0x02, unit := 0x0, count := 256, item := 0x20, typ := 4, acc := 0, role := 0, size := 8, hi := 18446744073709551615 },
  { area := 0x02, unit := 0x0, count := 256, item := 0x21, typ := 4, acc := 0, role := 0, size := 8, hi := 18446744073709551615 },
  { area := 0x02, unit := 0x0, count := 256, item := 0x22, typ := 4, acc := 0, role := 0, size := 8, hi := 18446744073709551615 },
  { area := 0x02, unit := 0x0, count := 256, item := 0x23, typ := 4, acc := 0, role := 0, size := 8, hi := 18446744073709551615 },
  { area := 0x02, unit := 0x0, count := 1, item := 0x40, typ := 4, acc := 1, role := 1, size := 8, hi := 18446744073709551615 },
  { area := 0x02, unit := 0x0, count := 1, item := 0x41, typ := 12, acc := 4, role := 1, size := 24 },
  { area := 0x02, unit := 0x0, count := 1, item := 0x42, typ := 12, acc := 4, role := 1, size := 24 },
  { area := 0x02, unit := 0x0, count := 1, item := 0x43, typ := 2, acc := 3, role := 1, size := 2, hi := 1000, lo := 1, dflt := 20 },
  { area := 0x02, unit := 0x0, count := 1, item := 0x44, typ := 1, acc := 3, role := 1, size := 1, hi := 255, lo := 1, dflt := 16 },
  { area := 0x02, unit := 0x0, count := 1, item := 0x60, typ := 1, acc := 0, role := 0, size := 1, hi := 255 },
  { area := 0x02, unit := 0x0, count := 1, item := 0x61, typ := 1, acc := 0, role := 0, size := 1, hi := 255 },
  { area := 0x02, unit := 0x0, count := 1, item := 0x62, typ := 4, acc := 0, role := 0, size := 8, hi := 18446744073709551615 },
  { area := 0x02, unit := 0x0, count := 1, item := 0x63, typ := 3, acc := 0, role := 0, size := 4, hi := 4294967295 },
  { area := 0x02, unit := 0x0, count := 1, item := 0x64, typ := 12, acc := 4, role := 1, size := 24 },
  { area := 0x02, unit := 0x0, count := 1, item := 0x70, typ := 1, acc := 0, role := 0, size := 1, hi := 255 },
  { area := 0x02, unit := 0x0, count := 1, item := 0x71, typ := 1, acc := 0, role := 0, size := 1, hi := 255 },
  { area := 0x02, unit := 0x0, count := 1, item := 0x72, typ := 12, acc := 0, role := 0, size := 25 },
  { area := 0x02, unit := 0x0, count := 1, item := 0x73, typ := 12, acc := 4, role := 1, size := 24 },
  { area := 0x02, unit := 0x0, count := 1, item := 0x74, typ := 1, acc := 0, role := 0, size := 1, hi := 255 },
  { area := 0x02, unit := 0x0, count := 1, item := 0x75, typ := 13, acc := 0, role := 0, elem := 3, size := 46 },
  { area := 0x02, unit := 0x0, count := 1, item := 0x76, typ := 4, acc := 0, role := 0, size := 8, hi := 18446744073709551615 },
  { area := 0x02, unit := 0x0, count := 1, item := 0x77, typ := 0, acc := 3, role := 1, size := 1, hi := 1 } ]

/-- Objects of area 10 (R351). -/
def objs10 : List Obj := [
  { area := 0x10, unit := 0x0, count := 1, item := 0x1, typ := 2, acc := 3, role := 1, size := 2, hi := 6000, lo := 2500, dflt := 6000 },
  { area := 0x10, unit := 0x0, count := 1, item := 0x2, typ := 2, acc := 0, role := 0, size := 2, hi := 65535 },
  { area := 0x10, unit := 0x0, count := 1, item := 0x3, typ := 1, acc := 0, role := 0, size := 1, hi := 255 },
  { area := 0x10, unit := 0x0, count := 1, item := 0x4, typ := 0, acc := 3, role := 1, size := 1, hi := 1 },
  { area := 0x10, unit := 0x0, count := 1, item := 0x10, typ := 9, acc := 0, role := 0, size := 4 },
  { area := 0x10, unit := 0x0, count := 1, item := 0x11, typ := 9, acc := 0, role := 0, size := 4 },
  { area := 0x10, unit := 0x0, count := 1, item := 0x12, typ := 9, acc := 0, role := 0, size := 4 },
  { area := 0x10, unit := 0x0, count := 1, item := 0x13, typ := 4, acc := 0, role := 0, size := 8, hi := 18446744073709551615 },
  { area := 0x10, unit := 0x0, count := 1, item := 0x20, typ := 12, acc := 0, role := 2, size := 0 },
  { area := 0x10, unit := 0x0, count := 1, item := 0x30, typ := 13, acc := 0, role := 0, elem := 12, size := 2 },
  { area := 0x10, unit := 0x0, count := 1, item := 0x50, typ := 0, acc := 3, role := 1, size := 1, hi := 1 },
  { area := 0x10, unit := 0x0, count := 1, item := 0x51, typ := 12, acc := 4, role := 2, size := 24 },
  { area := 0x10, unit := 0x0, count := 1, item := 0x52, typ := 11, acc := 2, role := 2, size := 65535 },
  { area := 0x10, unit := 0x0, count := 1, item := 0x53, typ := 12, acc := 0, role := 0, size := 16 },
  { area := 0x10, unit := 0x100, count := 64, item := 0x40, typ := 1, acc := 0, role := 0, size := 1, hi := 255 },
  { area := 0x10, unit := 0x100, count := 64, item := 0x41, typ := 9, acc := 0, role := 0, size := 4 },
  { area := 0x10, unit := 0x100, count := 64, item := 0x42, typ := 1, acc := 0, role := 0, size := 1, hi := 255 },
  { area := 0x10, unit := 0x100, count := 64, item := 0x43, typ := 4, acc := 0, role := 0, size := 8, hi := 18446744073709551615 },
  { area := 0x10, unit := 0x100, count := 64, item := 0x44, typ := 4, acc := 0, role := 0, size := 8, hi := 18446744073709551615 },
  { area := 0x10, unit := 0x100, count := 64, item := 0x50, typ := 13, acc := 0, role := 0, elem := 9, size := 10 },
  { area := 0x10, unit := 0x100, count := 64, item := 0x51, typ := 1, acc := 0, role := 0, size := 1, hi := 255 } ]

/-- Objects of area 11 (R351). -/
def objs11 : List Obj := [
  { area := 0x11, unit := 0x0, count := 1, item := 0x1, typ := 13, acc := 0, role := 0, elem := 4, size := 18 },
  { area := 0x11, unit := 0x0, count := 1, item := 0x80, typ := 9, acc := 0, role := 0, size := 4 },
  { area := 0x11, unit := 0x0, count := 1, item := 0x81, typ := 9, acc := 0, role := 0, size := 4 },
  { area := 0x11, unit := 0x0, count := 1, item := 0x82, typ := 13, acc := 0, role := 0, elem := 1, size := 4 },
  { area := 0x11, unit := 0x100, count := 64, item := 0x10, typ := 9, acc := 0, role := 0, size := 4 },
  { area := 0x11, unit := 0x200, count := 9, item := 0x10, typ := 9, acc := 0, role := 0, size := 4 },
  { area := 0x11, unit := 0x300, count := 16, item := 0x10, typ := 9, acc := 0, role := 0, size := 4 },
  { area := 0x11, unit := 0x400, count := 2, item := 0x10, typ := 9, acc := 0, role := 0, size := 4 } ]

/-- Objects of area 12 (R351). -/
def objs12 : List Obj := [
  { area := 0x12, unit := 0x0, count := 1, item := 0x1, typ := 1, acc := 0, role := 0, size := 1, hi := 255 },
  { area := 0x12, unit := 0x0, count := 1, item := 0x2, typ := 13, acc := 0, role := 0, elem := 4, size := 34 },
  { area := 0x12, unit := 0x0, count := 1, item := 0x80, typ := 13, acc := 0, role := 0, elem := 9, size := 10 },
  { area := 0x12, unit := 0x0, count := 1, item := 0x81, typ := 9, acc := 0, role := 0, size := 4 },
  { area := 0x12, unit := 0x0, count := 1, item := 0x82, typ := 13, acc := 0, role := 2, elem := 4, size := 186 } ]

/-- Objects of area 20 (R351). -/
def objs20 : List Obj := [
  { area := 0x20, unit := 0x0, count := 64, item := 0x1, typ := 1, acc := 0, role := 0, size := 1, hi := 255 },
  { area := 0x20, unit := 0x0, count := 64, item := 0x2, typ := 1, acc := 0, role := 0, size := 1, hi := 255 },
  { area := 0x20, unit := 0x0, count := 64, item := 0x3, typ := 2, acc := 0, role := 0, size := 2, hi := 65535 },
  { area := 0x20, unit := 0x0, count := 64, item := 0x30, typ := 4, acc := 0, role := 0, size := 8, hi := 18446744073709551615 },
  { area := 0x20, unit := 0x0, count := 64, item := 0x40, typ := 2, acc := 0, role := 0, size := 2, hi := 65535 },
  { area := 0x20, unit := 0x0, count := 1, item := 0x41, typ := 12, acc := 4, role := 2, size := 24 },
  { area := 0x20, unit := 0x0, count := 1, item := 0x42, typ := 0, acc := 3, role := 1, size := 1, hi := 1, dflt := 1 },
  { area := 0x20, unit := 0x0, count := 64, item := 0x50, typ := 4, acc := 0, role := 0, size := 8, hi := 18446744073709551615 },
  { area := 0x20, unit := 0x0, count := 64, item := 0x51, typ := 4, acc := 0, role := 0, size := 8, hi := 18446744073709551615 },
  { area := 0x20, unit := 0x0, count := 64, item := 0x52, typ := 4, acc := 0, role := 0, size := 8, hi := 18446744073709551615 },
  { area := 0x20, unit := 0x0, count := 64, item := 0x53, typ := 4, acc := 0, role := 0, size := 8, hi := 18446744073709551615 },
  { area := 0x20, unit := 0x0, count := 64, item := 0x54, typ := 4, acc := 0, role := 0, size := 8, hi := 18446744073709551615 },
  { area := 0x20, unit := 0x0, count := 64, item := 0x55, typ := 3, acc := 0, role := 0, size := 4, hi := 4294967295 },
  { area := 0x20, unit := 0x0, count := 64, item := 0x60, typ := 13, acc := 0, role := 0, elem := 4, size := 18 },
  { area := 0x20, unit := 0x0, count := 64, item := 0x70, typ := 1, acc := 0, role := 0, size := 1, hi := 255 } ]

/-- Objects of area 21 (R351). -/
def objs21 : List Obj := [
  { area := 0x21, unit := 0x0, count := 1024, item := 0x1, typ := 1, acc := 0, role := 0, size := 1, hi := 255 },
  { area := 0x21, unit := 0x0, count := 1024, item := 0x2, typ := 2, acc := 0, role := 0, size := 2, hi := 65535 },
  { area := 0x21, unit := 0x0, count := 1024, item := 0x3, typ := 11, acc := 0, role := 2, size := 64 },
  { area := 0x21, unit := 0x0, count := 1024, item := 0x4, typ := 1, acc := 0, role := 0, size := 1, hi := 255 },
  { area := 0x21, unit := 0x0, count := 1024, item := 0x10, typ := 4, acc := 0, role := 0, size := 8, hi := 18446744073709551615 },
  { area := 0x21, unit := 0x0, count := 1024, item := 0x11, typ := 4, acc := 0, role := 0, size := 8, hi := 18446744073709551615 },
  { area := 0x21, unit := 0x0, count := 1024, item := 0x12, typ := 4, acc := 0, role := 0, size := 8, hi := 18446744073709551615 },
  { area := 0x21, unit := 0x0, count := 1024, item := 0x13, typ := 4, acc := 0, role := 0, size := 8, hi := 18446744073709551615 },
  { area := 0x21, unit := 0x0, count := 1024, item := 0x14, typ := 4, acc := 0, role := 0, size := 8, hi := 18446744073709551615 },
  { area := 0x21, unit := 0x0, count := 1024, item := 0x15, typ := 4, acc := 0, role := 0, size := 8, hi := 18446744073709551615 },
  { area := 0x21, unit := 0x0, count := 1024, item := 0x16, typ := 4, acc := 0, role := 0, size := 8, hi := 18446744073709551615 },
  { area := 0x21, unit := 0x0, count := 1024, item := 0x17, typ := 4, acc := 0, role := 0, size := 8, hi := 18446744073709551615 },
  { area := 0x21, unit := 0x0, count := 1024, item := 0x18, typ := 4, acc := 0, role := 0, size := 8, hi := 18446744073709551615 },
  { area := 0x21, unit := 0x0, count := 1024, item := 0x20, typ := 4, acc := 0, role := 0, size := 8, hi := 18446744073709551615 },
  { area := 0x21, unit := 0x0, count := 1024, item := 0x21, typ := 4, acc := 0, role := 0, size := 8, hi := 18446744073709551615 } ]

/-- Objects of area 22 (R351). -/
def objs22 : List Obj := [
  { area := 0x22, unit := 0x0, count := 16, item := 0x1, typ := 1, acc := 0, role := 0, size := 1, hi := 255 },
  { area := 0x22, unit := 0x0, count := 16, item := 0x2, typ := 3, acc := 0, role := 0, size := 4, hi := 4294967295 },
  { area := 0x22, unit := 0x0, count := 16, item := 0x3, typ := 4, acc := 0, role := 0, size := 8, hi := 18446744073709551615 },
  { area := 0x22, unit := 0x0, count := 16, item := 0x4, typ := 2, acc := 0, role := 0, size := 2, hi := 65535 },
  { area := 0x22, unit := 0x0, count := 16, item := 0x5, typ := 1, acc := 0, role := 0, size := 1, hi := 255 },
  { area := 0x22, unit := 0x0, count := 16, item := 0x10, typ := 4, acc := 0, role := 0, size := 8, hi := 18446744073709551615 },
  { area := 0x22, unit := 0x0, count := 16, item := 0x11, typ := 4, acc := 0, role := 0, size := 8, hi := 18446744073709551615 },
  { area := 0x22, unit := 0x0, count := 16, item := 0x12, typ := 4, acc := 0, role := 0, size := 8, hi := 18446744073709551615 },
  { area := 0x22, unit := 0x0, count := 16, item := 0x13, typ := 4, acc := 0, role := 0, size := 8, hi := 18446744073709551615 },
  { area := 0x22, unit := 0x0, count := 16, item := 0x14, typ := 4, acc := 0, role := 0, size := 8, hi := 18446744073709551615 },
  { area := 0x22, unit := 0x0, count := 16, item := 0x15, typ := 0, acc := 0, role := 0, size := 1, hi := 1 },
  { area := 0x22, unit := 0x0, count := 16, item := 0x16, typ := 4, acc := 0, role := 0, size := 8, hi := 18446744073709551615 },
  { area := 0x22, unit := 0x0, count := 1, item := 0x41, typ := 12, acc := 4, role := 1, size := 24 },
  { area := 0x22, unit := 0x0, count := 1, item := 0x42, typ := 2, acc := 3, role := 1, size := 2, hi := 65535, lo := 1, dflt := 2000 } ]

/-- Objects of area 30 (R351). -/
def objs30 : List Obj := [
  { area := 0x30, unit := 0x0, count := 16, item := 0x1, typ := 13, acc := 0, role := 0, elem := 1, size := 18 },
  { area := 0x30, unit := 0x0, count := 16, item := 0x2, typ := 13, acc := 0, role := 2, elem := 1, size := 4098 },
  { area := 0x30, unit := 0x0, count := 16, item := 0x60, typ := 1, acc := 0, role := 0, size := 1, hi := 255 },
  { area := 0x30, unit := 0x0, count := 16, item := 0x61, typ := 4, acc := 0, role := 0, size := 8, hi := 18446744073709551615 },
  { area := 0x30, unit := 0x0, count := 16, item := 0x62, typ := 4, acc := 0, role := 0, size := 8, hi := 18446744073709551615 },
  { area := 0x30, unit := 0x0, count := 16, item := 0x63, typ := 4, acc := 0, role := 0, size := 8, hi := 18446744073709551615 },
  { area := 0x30, unit := 0x0, count := 16, item := 0x64, typ := 4, acc := 0, role := 0, size := 8, hi := 18446744073709551615 },
  { area := 0x30, unit := 0x0, count := 16, item := 0x65, typ := 4, acc := 0, role := 0, size := 8, hi := 18446744073709551615 },
  { area := 0x30, unit := 0x0, count := 16, item := 0x66, typ := 4, acc := 0, role := 0, size := 8, hi := 18446744073709551615 } ]

/-- Objects of area 31 (R351). -/
def objs31 : List Obj := [
  { area := 0x31, unit := 0x0, count := 16, item := 0x1, typ := 1, acc := 0, role := 0, size := 1, hi := 255 },
  { area := 0x31, unit := 0x0, count := 16, item := 0x2, typ := 2, acc := 0, role := 2, size := 2, hi := 65535 },
  { area := 0x31, unit := 0x0, count := 16, item := 0x10, typ := 10, acc := 0, role := 0, size := 4098 },
  { area := 0x31, unit := 0x0, count := 16, item := 0x11, typ := 9, acc := 0, role := 0, size := 4 },
  { area := 0x31, unit := 0x0, count := 16, item := 0x20, typ := 1, acc := 0, role := 0, size := 1, hi := 255 },
  { area := 0x31, unit := 0x0, count := 1, item := 0x41, typ := 12, acc := 4, role := 2, size := 24 } ]

/-- Objects of area 32 (R351). -/
def objs32 : List Obj := [
  { area := 0x32, unit := 0x0, count := 8, item := 0x1, typ := 1, acc := 0, role := 0, size := 1, hi := 255 },
  { area := 0x32, unit := 0x0, count := 8, item := 0x2, typ := 13, acc := 0, role := 0, elem := 3, size := 10 },
  { area := 0x32, unit := 0x0, count := 8, item := 0x3, typ := 13, acc := 0, role := 0, elem := 3, size := 10 },
  { area := 0x32, unit := 0x0, count := 8, item := 0x10, typ := 13, acc := 0, role := 0, elem := 4, size := 34 },
  { area := 0x32, unit := 0x0, count := 8, item := 0x11, typ := 3, acc := 0, role := 0, size := 4, hi := 4294967295 },
  { area := 0x32, unit := 0x0, count := 8, item := 0x12, typ := 4, acc := 0, role := 0, size := 8, hi := 18446744073709551615 },
  { area := 0x32, unit := 0x0, count := 8, item := 0x20, typ := 1, acc := 0, role := 0, size := 1, hi := 255 },
  { area := 0x32, unit := 0x0, count := 1, item := 0x40, typ := 2, acc := 3, role := 1, size := 2, hi := 65535, lo := 1, dflt := 5000 },
  { area := 0x32, unit := 0x0, count := 1, item := 0x41, typ := 12, acc := 4, role := 1, size := 24 },
  { area := 0x32, unit := 0x0, count := 1, item := 0x43, typ := 0, acc := 3, role := 1, size := 1, hi := 1 },
  { area := 0x32, unit := 0x0, count := 1, item := 0x50, typ := 2, acc := 3, role := 1, size := 2, hi := 256, dflt := 16 },
  { area := 0x32, unit := 0x0, count := 1, item := 0x52, typ := 2, acc := 3, role := 1, size := 2, hi := 1000, lo := 1, dflt := 10 },
  { area := 0x32, unit := 0x0, count := 1, item := 0x53, typ := 1, acc := 3, role := 1, size := 1, hi := 255, lo := 1, dflt := 16 },
  { area := 0x32, unit := 0x0, count := 1, item := 0x54, typ := 1, acc := 3, role := 1, size := 1, hi := 254, dflt := 1 },
  { area := 0x32, unit := 0x0, count := 1, item := 0x55, typ := 2, acc := 3, role := 1, size := 2, hi := 65535, dflt := 8192 } ]

/-- Objects of area 40 (R351). -/
def objs40 : List Obj := [
  { area := 0x40, unit := 0x0, count := 12, item := 0x20, typ := 1, acc := 0, role := 0, size := 1, hi := 255 },
  { area := 0x40, unit := 0x0, count := 12, item := 0x21, typ := 1, acc := 0, role := 0, size := 1, hi := 255 },
  { area := 0x40, unit := 0x0, count := 12, item := 0x22, typ := 4, acc := 0, role := 0, size := 8, hi := 18446744073709551615 },
  { area := 0x40, unit := 0x0, count := 12, item := 0x23, typ := 4, acc := 0, role := 0, size := 8, hi := 18446744073709551615 },
  { area := 0x40, unit := 0x0, count := 1, item := 0x41, typ := 12, acc := 4, role := 1, size := 24 },
  { area := 0x40, unit := 0x0, count := 1, item := 0x42, typ := 12, acc := 4, role := 2, size := 24 },
  { area := 0x40, unit := 0x100, count := 9, item := 0x1, typ := 4, acc := 0, role := 0, size := 8, hi := 18446744073709551615 },
  { area := 0x40, unit := 0x100, count := 9, item := 0x2, typ := 4, acc := 0, role := 0, size := 8, hi := 18446744073709551615 },
  { area := 0x40, unit := 0x100, count := 9, item := 0x3, typ := 4, acc := 0, role := 0, size := 8, hi := 18446744073709551615 },
  { area := 0x40, unit := 0x100, count := 9, item := 0x4, typ := 4, acc := 0, role := 0, size := 8, hi := 18446744073709551615 },
  { area := 0x40, unit := 0x100, count := 9, item := 0x5, typ := 2, acc := 0, role := 0, size := 2, hi := 65535 },
  { area := 0x40, unit := 0x100, count := 9, item := 0x6, typ := 4, acc := 0, role := 0, size := 8, hi := 18446744073709551615 },
  { area := 0x40, unit := 0x100, count := 9, item := 0x7, typ := 4, acc := 0, role := 0, size := 8, hi := 18446744073709551615 },
  { area := 0x40, unit := 0x100, count := 9, item := 0x8, typ := 13, acc := 0, role := 0, elem := 4, size := 42 },
  { area := 0x40, unit := 0x100, count := 9, item := 0x9, typ := 1, acc := 0, role := 0, size := 1, hi := 255 },
  { area := 0x40, unit := 0x200, count := 8, item := 0x1, typ := 1, acc := 0, role := 0, size := 1, hi := 255 },
  { area := 0x40, unit := 0x200, count := 8, item := 0x2, typ := 1, acc := 0, role := 0, size := 1, hi := 255 },
  { area := 0x40, unit := 0x200, count := 8, item := 0x3, typ := 4, acc := 0, role := 0, size := 8, hi := 18446744073709551615 },
  { area := 0x40, unit := 0x200, count := 8, item := 0x4, typ := 13, acc := 0, role := 0, elem := 4, size := 18 },
  { area := 0x40, unit := 0x200, count := 8, item := 0x5, typ := 4, acc := 0, role := 0, size := 8, hi := 18446744073709551615 } ]

/-- Objects of area 50 (R351). -/
def objs50 : List Obj := [
  { area := 0x50, unit := 0x0, count := 2, item := 0x1, typ := 1, acc := 3, role := 1, size := 1, hi := 3 },
  { area := 0x50, unit := 0x0, count := 2, item := 0x2, typ := 13, acc := 0, role := 0, elem := 4, size := 66 },
  { area := 0x50, unit := 0x0, count := 2, item := 0x4, typ := 12, acc := 4, role := 1, size := 24 },
  { area := 0x50, unit := 0x0, count := 2, item := 0x5, typ := 1, acc := 3, role := 1, size := 1, hi := 255 },
  { area := 0x50, unit := 0x0, count := 2, item := 0x13, typ := 4, acc := 0, role := 0, size := 8, hi := 18446744073709551615 },
  { area := 0x50, unit := 0x0, count := 2, item := 0x20, typ := 11, acc := 3, role := 1, size := 40 },
  { area := 0x50, unit := 0x0, count := 2, item := 0x21, typ := 11, acc := 3, role := 1, size := 128 },
  { area := 0x50, unit := 0x0, count := 2, item := 0x30, typ := 3, acc := 3, role := 1, size := 4, hi := 4294967295, dflt := 8 },
  { area := 0x50, unit := 0x0, count := 2, item := 0x31, typ := 3, acc := 3, role := 1, size := 4, hi := 4294967295, dflt := 50 },
  { area := 0x50, unit := 0x0, count := 2, item := 0x32, typ := 3, acc := 3, role := 1, size := 4, hi := 4294967295, dflt := 55 },
  { area := 0x50, unit := 0x0, count := 2, item := 0x33, typ := 3, acc := 3, role := 1, size := 4, hi := 4294967295, dflt := 10240 },
  { area := 0x50, unit := 0x0, count := 2, item := 0x34, typ := 3, acc := 3, role := 1, size := 4, hi := 4294967295, dflt := 5000 },
  { area := 0x50, unit := 0x0, count := 2, item := 0x35, typ := 3, acc := 3, role := 1, size := 4, hi := 4294967295, dflt := 100 } ]

/-- Objects of area 51 (R351). -/
def objs51 : List Obj := [
  { area := 0x51, unit := 0x0, count := 4, item := 0x1, typ := 1, acc := 0, role := 0, size := 1, hi := 255 },
  { area := 0x51, unit := 0x0, count := 4, item := 0x2, typ := 3, acc := 0, role := 0, size := 4, hi := 4294967295 },
  { area := 0x51, unit := 0x0, count := 4, item := 0x3, typ := 3, acc := 0, role := 0, size := 4, hi := 4294967295 },
  { area := 0x51, unit := 0x0, count := 4, item := 0x4, typ := 9, acc := 0, role := 0, size := 4 },
  { area := 0x51, unit := 0x0, count := 4, item := 0x5, typ := 13, acc := 0, role := 0, elem := 2, size := 18 },
  { area := 0x51, unit := 0x0, count := 4, item := 0x6, typ := 1, acc := 0, role := 0, size := 1, hi := 255 },
  { area := 0x51, unit := 0x0, count := 4, item := 0x40, typ := 1, acc := 3, role := 1, size := 1, hi := 1 },
  { area := 0x51, unit := 0x0, count := 4, item := 0x41, typ := 12, acc := 4, role := 1, size := 24 } ]

/-- Objects of area 60 (R351). -/
def objs60 : List Obj := [
  { area := 0x60, unit := 0x0, count := 1, item := 0x1, typ := 4, acc := 0, role := 0, size := 8, hi := 18446744073709551615 },
  { area := 0x60, unit := 0x0, count := 1, item := 0x11, typ := 12, acc := 4, role := 0, size := 24 },
  { area := 0x60, unit := 0x0, count := 1, item := 0x12, typ := 4, acc := 0, role := 0, size := 8, hi := 18446744073709551615 },
  { area := 0x60, unit := 0x0, count := 1, item := 0x30, typ := 3, acc := 3, role := 1, size := 4, hi := 1000000, lo := 1, dflt := 1000 },
  { area := 0x60, unit := 0x0, count := 1, item := 0x31, typ := 2, acc := 3, role := 1, size := 2, hi := 65535, lo := 16, dflt := 256 },
  { area := 0x60, unit := 0x0, count := 1, item := 0x32, typ := 4, acc := 0, role := 0, size := 8, hi := 18446744073709551615 },
  { area := 0x60, unit := 0x0, count := 1, item := 0x40, typ := 12, acc := 4, role := 2, size := 24 },
  { area := 0x60, unit := 0x0, count := 1, item := 0x41, typ := 12, acc := 4, role := 0, size := 24 },
  { area := 0x60, unit := 0x0, count := 1, item := 0x42, typ := 12, acc := 4, role := 2, size := 24 },
  { area := 0x60, unit := 0x0, count := 1, item := 0x43, typ := 4, acc := 0, role := 0, size := 8, hi := 18446744073709551615 },
  { area := 0x60, unit := 0x0, count := 1, item := 0x44, typ := 4, acc := 0, role := 0, size := 8, hi := 18446744073709551615 },
  { area := 0x60, unit := 0x0, count := 1, item := 0x45, typ := 12, acc := 1, role := 1, size := 10 },
  { area := 0x60, unit := 0x0, count := 1, item := 0x46, typ := 13, acc := 0, role := 0, elem := 4, size := 42 },
  { area := 0x60, unit := 0x0, count := 1, item := 0x47, typ := 13, acc := 0, role := 0, elem := 4, size := 42 } ]

/-- Objects of area 61 (R351). -/
def objs61 : List Obj := [
  { area := 0x61, unit := 0x0, count := 1, item := 0x1, typ := 1, acc := 3, role := 1, size := 1, hi := 20, dflt := 12 },
  { area := 0x61, unit := 0x0, count := 1, item := 0x3, typ := 0, acc := 3, role := 1, size := 1, hi := 1 },
  { area := 0x61, unit := 0x0, count := 1, item := 0x5, typ := 11, acc := 3, role := 1, size := 32 },
  { area := 0x61, unit := 0x0, count := 1, item := 0x6, typ := 2, acc := 3, role := 1, size := 2, hi := 10000, lo := 10, dflt := 100 },
  { area := 0x61, unit := 0x0, count := 1, item := 0x10, typ := 2, acc := 3, role := 1, size := 2, hi := 720, dflt := 24 },
  { area := 0x61, unit := 0x0, count := 1, item := 0x11, typ := 2, acc := 3, role := 1, size := 2, hi := 10000, lo := 10, dflt := 500 },
  { area := 0x61, unit := 0x0, count := 1, item := 0x12, typ := 13, acc := 0, role := 0, elem := 4, size := 42 },
  { area := 0x61, unit := 0x0, count := 1, item := 0x15, typ := 4, acc := 0, role := 0, size := 8, hi := 18446744073709551615 },
  { area := 0x61, unit := 0x0, count := 1, item := 0x16, typ := 4, acc := 0, role := 0, size := 8, hi := 18446744073709551615 },
  { area := 0x61, unit := 0x0, count := 1, item := 0x20, typ := 2, acc := 3, role := 1, size := 2, hi := 720, lo := 1, dflt := 24 },
  { area := 0x61, unit := 0x0, count := 1, item := 0x21, typ := 12, acc := 4, role := 1, size := 24 },
  { area := 0x61, unit := 0x0, count := 1, item := 0x22, typ := 2, acc := 3, role := 1, size := 2, hi := 8760, lo := 1, dflt := 168 },
  { area := 0x61, unit := 0x0, count := 1, item := 0x23, typ := 12, acc := 4, role := 2, size := 24 },
  { area := 0x61, unit := 0x0, count := 1, item := 0x24, typ := 2, acc := 3, role := 1, size := 2, hi := 8760, lo := 1, dflt := 720 },
  { area := 0x61, unit := 0x0, count := 1, item := 0x30, typ := 1, acc := 0, role := 0, size := 1, hi := 255 },
  { area := 0x61, unit := 0x0, count := 1, item := 0x31, typ := 12, acc := 4, role := 1, size := 24 },
  { area := 0x61, unit := 0x0, count := 1, item := 0x32, typ := 2, acc := 3, role := 1, size := 2, hi := 3600, lo := 1, dflt := 60 },
  { area := 0x61, unit := 0x0, count := 1, item := 0x33, typ := 12, acc := 0, role := 0, size := 0 },
  { area := 0x61, unit := 0x100, count := 64, item := 0x1, typ := 4, acc := 0, role := 0, size := 8, hi := 18446744073709551615 },
  { area := 0x61, unit := 0x100, count := 64, item := 0x2, typ := 13, acc := 0, role := 0, elem := 4, size := 18 },
  { area := 0x61, unit := 0x100, count := 64, item := 0x3, typ := 13, acc := 0, role := 0, elem := 4, size := 18 } ]

/-- Objects of area 70 (R351). -/
def objs70 : List Obj := [
  { area := 0x70, unit := 0x0, count := 1, item := 0x1, typ := 4, acc := 0, role := 0, size := 8, hi := 18446744073709551615 },
  { area := 0x70, unit := 0x0, count := 1, item := 0x2, typ := 13, acc := 0, role := 2, elem := 4, size := 18 },
  { area := 0x70, unit := 0x0, count := 1, item := 0x3, typ := 4, acc := 0, role := 2, size := 8, hi := 18446744073709551615 },
  { area := 0x70, unit := 0x0, count := 1, item := 0x10, typ := 11, acc := 2, role := 2, size := 65535 },
  { area := 0x70, unit := 0x0, count := 1, item := 0x11, typ := 11, acc := 0, role := 2, size := 65535 },
  { area := 0x70, unit := 0x0, count := 1, item := 0x12, typ := 12, acc := 4, role := 2, size := 24 },
  { area := 0x70, unit := 0x0, count := 1, item := 0x20, typ := 11, acc := 2, role := 2, size := 65535 },
  { area := 0x70, unit := 0x0, count := 1, item := 0x21, typ := 11, acc := 0, role := 2, size := 65535 },
  { area := 0x70, unit := 0x0, count := 1, item := 0x80, typ := 13, acc := 0, role := 0, elem := 1, size := 4 } ]

/-- Objects of area 71 (R351). -/
def objs71 : List Obj := [
  { area := 0x71, unit := 0x0, count := 6, item := 0x1, typ := 1, acc := 0, role := 0, size := 1, hi := 255 },
  { area := 0x71, unit := 0x0, count := 6, item := 0x2, typ := 1, acc := 0, role := 0, size := 1, hi := 255 },
  { area := 0x71, unit := 0x0, count := 6, item := 0x3, typ := 13, acc := 0, role := 0, elem := 3, size := 10 },
  { area := 0x71, unit := 0x0, count := 6, item := 0x10, typ := 11, acc := 2, role := 2, size := 65535 },
  { area := 0x71, unit := 0x0, count := 6, item := 0x11, typ := 3, acc := 1, role := 2, size := 4, hi := 4294967295 },
  { area := 0x71, unit := 0x0, count := 6, item := 0x20, typ := 13, acc := 0, role := 0, elem := 1, size := 66 },
  { area := 0x71, unit := 0x0, count := 1, item := 0x31, typ := 2, acc := 0, role := 0, size := 2, hi := 65535 },
  { area := 0x71, unit := 0x0, count := 1, item := 0x41, typ := 12, acc := 4, role := 2, size := 24 },
  { area := 0x71, unit := 0x0, count := 1, item := 0x42, typ := 2, acc := 3, role := 1, size := 2, hi := 10000, lo := 10, dflt := 500 } ]

/-- Objects of area 78 (R351). -/
def objs78 : List Obj := [
  { area := 0x78, unit := 0x0, count := 1, item := 0x1, typ := 11, acc := 0, role := 0, size := 65535 },
  { area := 0x78, unit := 0x0, count := 1, item := 0x2, typ := 11, acc := 0, role := 0, size := 32 },
  { area := 0x78, unit := 0x0, count := 1, item := 0x10, typ := 13, acc := 0, role := 0, elem := 3, size := 26 },
  { area := 0x78, unit := 0x0, count := 1, item := 0x11, typ := 0, acc := 3, role := 2, size := 1, hi := 1, dflt := 1 },
  { area := 0x78, unit := 0x0, count := 1, item := 0x20, typ := 12, acc := 4, role := 0, size := 24 },
  { area := 0x78, unit := 0x0, count := 1, item := 0x30, typ := 11, acc := 3, role := 2, size := 65535 },
  { area := 0x78, unit := 0x0, count := 1, item := 0x40, typ := 11, acc := 0, role := 0, size := 32 },
  { area := 0x78, unit := 0x0, count := 1, item := 0x41, typ := 11, acc := 2, role := 3, size := 192 },
  { area := 0x78, unit := 0x0, count := 1, item := 0x42, typ := 1, acc := 0, role := 0, size := 1, hi := 255 },
  { area := 0x78, unit := 0x0, count := 1, item := 0x50, typ := 13, acc := 0, role := 0, elem := 1, size := 14 },
  { area := 0x78, unit := 0x0, count := 1, item := 0x51, typ := 4, acc := 0, role := 0, size := 8, hi := 18446744073709551615 },
  { area := 0x78, unit := 0x0, count := 1, item := 0x52, typ := 0, acc := 3, role := 2, size := 1, hi := 1 },
  { area := 0x78, unit := 0x0, count := 1, item := 0x60, typ := 11, acc := 0, role := 0, size := 65535 } ]

/-- Objects of area 7C (R351). -/
def objs7C : List Obj := [
  { area := 0x7C, unit := 0x0, count := 2, item := 0x1, typ := 1, acc := 0, role := 0, size := 1, hi := 255 },
  { area := 0x7C, unit := 0x0, count := 2, item := 0x10, typ := 13, acc := 1, role := 2, elem := 12, size := 514 },
  { area := 0x7C, unit := 0x0, count := 2, item := 0x12, typ := 13, acc := 3, role := 2, elem := 3, size := 10 },
  { area := 0x7C, unit := 0x0, count := 2, item := 0x20, typ := 12, acc := 4, role := 2, size := 24 },
  { area := 0x7C, unit := 0x0, count := 2, item := 0x30, typ := 4, acc := 0, role := 0, size := 8, hi := 18446744073709551615 },
  { area := 0x7C, unit := 0x0, count := 2, item := 0x31, typ := 9, acc := 0, role := 0, size := 4 } ]

/-- Every object of the light list (R351). -/
def objects : List Obj :=
  objs01 ++ objs02 ++ objs10 ++ objs11 ++ objs12 ++ objs20 ++ objs21 ++ objs22 ++ objs30 ++ objs31 ++ objs32 ++ objs40 ++ objs50 ++ objs51 ++ objs60 ++ objs61 ++ objs70 ++ objs71 ++ objs78 ++ objs7C

/-- Area, unit and item of an object number (R345). -/
def objArea (n : Nat) : Nat := n / 2 ^ 24
def objUnit (n : Nat) : Nat := n / 2 ^ 12 % 2 ^ 12
def objItem (n : Nat) : Nat := n % 2 ^ 12
/-- An object by number, none where the number names no object or no unit of the module (R345). -/
def objAt (n : Nat) : Option Obj :=
  objects.find? (fun (o : Obj) => decide (o.area = objArea n ∧ o.item = objItem n ∧ o.unit ≤ objUnit n ∧ objUnit n < o.unit + o.count))
/-- The least role for READ, and for WRITE and CMD, as ranks (R348). -/
def Obj.readRole (o : Obj) : Nat := if o.acc = 0 ∨ 2 ≤ o.role then o.role else 0

/-- Bytes of a number of the type codes 1 to 4 and of an F32 (R346). -/
def typSize : Nat → Nat
  | 0 => 1 | 1 => 1 | 2 => 2 | 3 => 4 | 4 => 8 | 9 => 4 | 12 => 32 | _ => 0

/-- An ARR value: element count, then the elements (R346). -/
def arr (es : List (List Byte)) : List Byte := leBytes 2 es.length ++ es.flatten
/-- An ARR of numbers of n bytes. -/
def arrN (n : Nat) (vs : List Nat) : List Byte := arr (vs.map (leBytes n))
/-- An F32 of an integer in thousandths, rounded to nearest even (R346). -/
def f32m (v : Int) : List Byte := leBytes 4 (round32Q (decide (v < 0)) v.natAbs 1000).toNat
/-- An F32 of a rational. -/
def f32q (q : Rat) : List Byte := leBytes 4 (round32Q (decide (q < 0)) q.num.natAbs q.den).toNat

/-- The default of an RWP or RW object (R347; log entry 47 names those the manual does not give). -/
def Obj.default (o : Obj) (n : Nat) : List Byte :=
  match o.area, o.item with
  | 0x61, 0x005 => List.replicate 32 0xFF#8
  | 0x7C, 0x012 => arrN 4 [500, 500]
  | 0x78, 0x030 => Config.factory n
  | _, _ => if o.typ = 10 then [0, 0] else if o.typ = 11 then List.replicate (if o.size = 0xFFFF then 0 else o.size) 0
            else leBytes o.size o.dflt

/-- Type and length of a value (R346, R350 step 5). -/
def Obj.typeOk (o : Obj) (v : List Byte) : Bool :=
  if o.typ = 0 then v == [0] || v == [1]
  else if o.typ = 10 then decide (2 ≤ v.length ∧ v.length ≤ o.size ∧ v.length = 2 + leNat (v.take 2))
  else if o.typ = 11 then (if o.size = 0xFFFF then decide (v.length ≤ 2 ^ 20) else decide (v.length = o.size))
  else if o.typ = 13 then decide (2 ≤ v.length ∧ v.length = 2 + leNat (v.take 2) * typSize o.elem ∧ v.length = o.size)
  else decide (v.length = o.size)

/-- Range of a value (R346, R349, R350 step 6): numbers between least and greatest; the elements of GuestRateLimits from 1
to 1,000 (R458). -/
def Obj.rangeOk (o : Obj) (v : List Byte) : Bool :=
  if o.typ = 1 ∨ o.typ = 2 ∨ o.typ = 3 ∨ o.typ = 4 then decide (o.lo ≤ leNat v ∧ leNat v ≤ o.hi)
  else if o.area = 0x7C ∧ o.item = 0x012 then
    [2, 6].all (fun i => decide (1 ≤ leNat ((v.drop i).take 4) ∧ leNat ((v.drop i).take 4) ≤ 1000))
  else true

/-- The value in force of an object that is written (R347). -/
def Block.inForceOf (b : Block) (o : Obj) (n : Nat) : List Byte := (tfind b.store.inForce n).getD (o.default n)

/-! ### Values of the read-only objects -/

/-- An entry of ObjectDirectory (R349). -/
def Obj.entry (o : Obj) (n : Nat) : List Byte :=
  leBytes 4 n ++ leBytes 2 (o.typ + o.acc * 2 ^ 4 + o.role * 2 ^ 8 + o.elem * 2 ^ 10) ++ leBytes 2 o.size ++
    leBytes 8 o.lo ++ leBytes 8 o.hi ++ leBytes 8 o.dflt
/-- Object numbers of a row of the catalogue. -/
def Obj.numbers (o : Obj) : List (Nat × Obj) :=
  (List.range o.count).map (fun i => (o.area * 2 ^ 24 + (o.unit + i) * 2 ^ 12 + o.item, o))
/-- A list of entries put in ascending object number. -/
def sortObjs (l : List (Nat × Obj)) : Tab Obj := l.foldl (fun (t : Tab Obj) e => tput t e.1 e.2) []
/-- The directory (R349). -/
def directory : List Byte := ((sortObjs ((objects.map Obj.numbers).flatten)).map (fun e => e.2.entry e.1)).flatten

/-- Code of a part of the state, in the order that its object gives. -/
def ctxCode : CtxSt → Nat | .free => 0 | .active => 1 | .extinguished => 2 | .destroying => 3
def groupCode : GroupSt → Nat | .free => 0 | .formed => 1 | .bound => 2 | .stopped => 3 | .degraded => 4
def throttleCode : Throttle → Nat | .full => 0 | .half => 1 | .quarter => 2 | .stopped => 3
def chanCode : ChanSt → Nat | .up => 0 | .held => 1 | .evacuated => 2 | .offline => 3 | .lost => 4
def bulkCode : ChanSt → Nat | .up => 0 | .held => 1 | .evacuated => 2 | .offline => 2 | .lost => 2
def svcChanCode : ChanSvc → Nat | .inUse => 0 | .evacuating => 1 | .out => 2 | .training => 3 | .returning => 4
def tierCode : TierSt → Nat
  | .normal => 0 | .evacuating => 1 | .evacuated => 2 | .repairing => 3 | .returning => 4 | .deferred => 5 | .offline => 6
def linkCode : LinkSt → Nat | .up => 0 | .half => 1 | .down => 2
def clusterCode : ClusterSt → Nat | .running => 0 | .reset => 1 | .lost => 2
def cartCode : CartSt → Nat | .empty => 0 | .checking => 1 | .shared => 2 | .sole => 3 | .standby => 4 | .fault => 5
def lossCode : Loss → Nat | .alive => 0 | .fencing => 1 | .lost => 2 | .relighting => 3
def svcCode : Svc → Nat | .inService => 0 | .draining => 1 | .condemned => 2
def guestCode : GuestSt → Nat | .empty => 0 | .admitting => 1 | .running => 2 | .suspended => 3 | .held => 4

/-- Statuses that RequestsEnded counts, ascending (R111, R115). -/
def endStatuses : List Nat := [0x00, 0x04, 0x08, 0x10, 0x18, 0x20, 0x28, 0x30, 0x38, 0x3C, 0x40, 0x44, 0x60, 0x70]

/-- The 24 bytes of a CMD object (R362). -/
def CmdRec.bytes (r : CmdRec) : List Byte :=
  leBytes 4 r.command ++ leBytes 1 (if r.running then 1 else 0) ++ leBytes 1 (stsCode r.result) ++ leBytes 2 0 ++ leBytes 16 r.ret

/-- Levels of this part (R6, R444): FL1. -/
def supportedLevels : Nat := 0x0002

/-- TraySignals (R326). -/
def Block.traySignals (b : Block) : Nat :=
  (if b.tray.flowOk then 1 else 0) + (if b.tray.pwrOk then 2 else 0) + 4 + (if b.modReady then 8 else 0) +
    (if b.modAlertN then 16 else 0) + (if b.tray.slotId.isNone then 32 else 0)

/-- Areas 01 and 02 (R115, R232, R326, R344, R374); PartNumber returns the value written, even before the start that takes it up (R2). -/
def Block.value02 (b : Block) (n u item : Nat) : List Byte :=
  let c := b.ctx u
  if n = 0x01000001 then (tfind b.store.persist n).getD (partValue b.tray.part)
  else if n = 0x01000010 then leBytes 2 supportedLevels
  else if n = 0x01000011 then leBytes 4 b.start.release
  else if n = 0x01000030 then directory
  else if n = 0x01000020 then serviceMac ++ [0, 0]
  else if n / 2 ^ 24 = 0x01 then Config.factory n
  else if item = 0x001 then leBytes 1 (ctxCode c.st)
  else if item = 0x010 then arrN 8 (endStatuses.map (fun s => tget 0 c.ended s))
  else if item = 0x011 then leBytes 8 c.unreachable
  else if item = 0x020 then leBytes 8 c.batches
  else if item = 0x021 then leBytes 8 c.records
  else if item = 0x022 then leBytes 8 c.withdrawals
  else if item = 0x023 then leBytes 8 c.lastAck
  else if item = 0x060 then leBytes 1 b.traySignals
  else if item = 0x061 then leBytes 1 (b.tray.slotId.getD 0xFF)
  else if item = 0x062 then leBytes 8 b.tray.runts
  else if item = 0x063 then leBytes 4 b.tray.alerts.toNat
  else if item = 0x070 then leBytes 1 (readyCode b.start.level)
  else if item = 0x071 then leBytes 1 b.start.step
  else if item = 0x072 then
    leBytes 1 b.start.failStep ++ padTo 24 (match b.start.failEv with | some e => strBytes (evName e) | none => [])
  else if item = 0x074 then leBytes 1 b.start.kind
  else if item = 0x075 then arrN 4 ((List.range 11).map (fun i => Config.startMs b.start.count (i + 1)))
  else leBytes 8 b.start.count

/-- Areas 10, 11 and 12 (R320, R326, R392, R447). -/
def Block.value10 (b : Block) (n l item : Nat) : List Byte :=
  let x := b.lantern l
  let p := b.power
  if n = 0x10000002 then leBytes 2 p.limit
  else if n = 0x10000003 then leBytes 1 p.source
  else if n = 0x10000010 then f32m (p.measured * 1000 : Nat)
  else if n = 0x10000011 then f32q (p.k * ((p.estimated : Nat) : Rat))
  else if n = 0x10000012 then f32q p.k
  else if n = 0x10000013 then leBytes 8 p.disagreements
  else if n = 0x10000053 then ((List.range 4).map (fun k => f32m (p.model.getD k 0 : Nat))).flatten
  else if objUnit n = 0 then Config.recBytes n [p.refits]
  else if item = 0x040 then leBytes 1 x.rate
  else if item = 0x041 then f32m (tget 0 p.lanterns l)
  else if item = 0x042 then leBytes 1 x.op
  else if item = 0x043 then leBytes 8 (tget 0 p.limited l)
  else if item = 0x044 then leBytes 8 (tget 0 p.filler l)
  else if item = 0x050 then arr [f32m ((tget 0 p.slowdown (b.siteOf l) * 100 : Nat) : Int), f32q (b.predicted l)]
  else leBytes 1 (tget 25 p.guard (b.siteOf l))
/-- LeakState of a trace: 0 DRY, 1 WET below 100 kΩ, 2 OPEN (R315, R320). -/
def Sensor.leak (x : Sensor) : Nat := if !x.valid ∨ x.value < 0 then 2 else if x.value < 100000 then 1 else 0
def Block.value11 (b : Block) (n : Nat) : List Byte :=
  if n = 0x11000001 then arrN 8 [b.power.limits, b.power.trips]
  else if n = 0x11000080 then f32m b.inlet
  else if n = 0x11000081 then f32m (b.sensor 4).value
  else if n = 0x11000082 then arrN 1 [(b.sensor 5).leak, (b.sensor 6).leak]
  else if n = 0x12000001 then leBytes 1 b.power.dim
  else if n = 0x12000002 then arrN 8 ([0, 1, 2, 3].map (fun i => tget 0 b.power.dimEntries i))
  else if n = 0x12000080 then arr (b.voltages.map (fun (v : Nat) => f32m v))
  else if n = 0x12000081 then f32m (if (b.sensor 2).substituted then 150000 else (b.sensor 2).value)
  else if n = 0x12000082 then arrN 8 (((List.range 7) ++ (List.range 16).map (· + 16)).map (fun k => (b.sensor k).invalids))
  else f32m (b.thermal (objUnit n)).milliC

/-- Areas 20 and 21 (R66, R97, R145, R164, R232, R270, R412). -/
def Block.retiredMask (b : Block) (l : Nat) : Nat :=
  ((List.range 16).map (fun m => if (b.beam (beamNo l m)).host.isSome then 2 ^ m else 0)).sum
def Block.value20 (b : Block) (l item : Nat) : List Byte :=
  let x := b.lantern l; let c := b.chart l
  if item = 0x001 then leBytes 1 (b.siteOf l)
  else if item = 0x002 then leBytes 1 (if b.outOfService l then 3 else b.retiredBeams l)
  else if item = 0x003 then leBytes 2 (b.retiredMask l)
  else if item = 0x030 then leBytes 8 x.stray
  else if item = 0x040 then leBytes 2 ((List.range 16).map (fun g => ((b.group g).member l).table.length)).sum
  else if item = 0x050 then leBytes 8 c.tlbMisses
  else if item = 0x051 then leBytes 8 c.nwalks
  else if item = 0x052 then leBytes 8 c.rangeLoads
  else if item = 0x053 then leBytes 8 c.runMerges
  else if item = 0x054 then leBytes 8 c.runMismatches
  else if item = 0x055 then leBytes 4 c.epoch
  else if item = 0x060 then arrN 8 [x.refetches, x.dirtyLosses]
  else leBytes 1 (lossCode x.loss)
def Block.value21 (b : Block) (u item : Nat) : List Byte :=
  let x := b.beam u; let w := b.width (u / 16) (u % 16)
  if item = 0x001 then leBytes 1 (if x.host.isSome then 2 else if w = 512 then 0 else 1)
  else if item = 0x002 then leBytes 2 w
  else if item = 0x003 then leBytes 64 x.mask.toNat
  else if item = 0x004 then leBytes 1 (x.host.getD (u % 16))
  else if item = 0x010 then leBytes 8 x.issues
  else if item = 0x011 then leBytes 8 x.busyCycles
  else if item ≤ 0x017 then leBytes 8 (tget 0 x.stalls item)
  else if item = 0x018 then leBytes 8 (x.zeroGated / 1024)
  else if item = 0x020 then leBytes 8 x.selftestRuns
  else leBytes 8 x.selftestFails

/-- Area 22 (R164). -/
def Block.value22 (b : Block) (g item : Nat) : List Byte :=
  let x := b.group g
  if item = 0x001 then leBytes 1 (groupCode x.st)
  else if item = 0x002 then leBytes 4 (if x.st = .bound ∨ x.st = .stopped then x.count else 0)
  else if item = 0x003 then leBytes 8 x.lanterns.toNat
  else if item = 0x004 then leBytes 2 x.sinkers.toNat
  else if item = 0x005 then leBytes 1 (if x.bound.isSome then x.ctx else 0xFF)
  else if item = 0x010 then leBytes 8 x.fired
  else if item = 0x011 then leBytes 8 x.hold
  else if item = 0x012 then leBytes 8 x.stalls
  else if item = 0x013 then leBytes 8 x.overruns
  else if item = 0x014 then leBytes 8 x.lastStall.toNat
  else if item = 0x015 then leBytes 1 (if x.overBudget then 1 else 0)
  else leBytes 8 x.runsReplaced

/-- Areas 30, 31 and 32 (R182, R210, R326, R447). -/
def Block.value30 (b : Block) (s item : Nat) : List Byte :=
  let x := b.sinker s
  if item = 0x001 then arrN 1 ((List.range 16).map (fun c => chanCode (b.channel (s * 16 + c)).st))
  else if item = 0x002 then
    arrN 1 ((List.range 4096).map (fun k => tget 0 (b.channel (s * 16 + k / 256)).spareRows (k % 256)))
  else if item = 0x060 then leBytes 1 (throttleCode x.throttle)
  else if item = 0x061 then leBytes 8 x.descriptors
  else if item = 0x062 then leBytes 8 x.rowsRead
  else if item = 0x063 then leBytes 8 x.bytesWritten
  else if item = 0x064 then leBytes 8 x.fullCycles
  else if item = 0x065 then leBytes 8 x.stoppedCycles
  else leBytes 8 x.hotEvents
def Block.value31 (b : Block) (c item : Nat) : List Byte :=
  let x := b.channel (256 + c)
  if item = 0x001 then leBytes 1 (bulkCode x.st)
  else if item = 0x002 then leBytes 2 x.ppr
  else if item = 0x010 then tget [] b.tray.dimmIds c
  else if item = 0x011 then f32m (if (b.sensor (16 + c)).substituted then 85000 else (b.sensor (16 + c)).value)
  else leBytes 1 (svcChanCode x.svc)
/-- Whether a domain's bulk tier is in single-channel mode: one of its channels is out or on its way back (R439, R440). -/
def Block.single (b : Block) (d : Nat) : Bool :=
  [2 * d, 2 * d + 1].any (fun c => let v := (b.channel (256 + c)).svc; v == .out || v == .training || v == .returning)
def Block.value32 (b : Block) (d item : Nat) : List Byte :=
  let x := b.domain d
  let gone (t : Nat) : Nat := (x.retired.filter (fun f => f.1 == t)).length
  if item = 0x001 then leBytes 1 (tierCode x.tier)
  else if item = 0x002 then arrN 4 [b.freeFrames d 0, b.freeFrames d 1]
  else if item = 0x003 then arrN 4 [gone 0, gone 1]
  else if item = 0x010 then arrN 8 [x.promotions, x.demotions, x.streamed, x.returned]
  else if item = 0x011 then leBytes 4 ((b.berthsOf d).filter (fun e => e.2.st == .failed)).length
  else if item = 0x012 then leBytes 8 x.lateWaits
  else leBytes 1 (if b.single d then 1 else 0)

/-- Area 40 (R34, R270, R289): links, tiles, keeper clusters. -/
def Block.value40 (b : Block) (u item : Nat) : List Byte :=
  let x := b.link u; let t := b.tile (u - 0x100); let c := b.cluster (u - 0x200)
  if u < 0x100 then
    (if item = 0x020 then leBytes 1 (linkCode x.st)
     else if item = 0x021 then leBytes 1 (x.spared0 + x.spared1)
     else if item = 0x022 then leBytes 8 x.replays else leBytes 8 x.retrains)
  else if u < 0x200 then
    (if item = 1 then leBytes 8 t.evictions
     else if item = 2 then leBytes 8 t.refetches
     else if item = 3 then leBytes 8 t.dirtyLosses
     else if item = 4 then leBytes 8 t.corrections
     else if item = 5 then leBytes 2 (b.lines.filter (fun (e : Nat × LineSt) =>
       tileOf (domOf (e.1 * 64)) == u - 0x100 && e.2.watchers != [])).length
     else if item = 6 then leBytes 8 t.watchRefusals
     else if item = 7 then leBytes 8 t.atomics
     else if item = 8 then arrN 8 ((List.range 5).map (fun i => tget 0 t.done i))
     else leBytes 1 t.rings.length)
  else
    (if item = 1 then leBytes 1 (clusterCode c.st)
     else if item = 2 then leBytes 1 c.grant
     else if item = 3 then leBytes 8 c.cappedTime
     else if item = 4 then arrN 8 [c.refetches, c.dirtyLosses]
     else leBytes 8 c.heartbeatResets)

/-- Areas 50 and 51 (13 R290, R303 to R307; the items that the manual names and does not number are the model's, log entry
48). -/
def Block.value50 (b : Block) (n u item : Nat) : List Byte :=
  if item = 0x002 then Config.factory n else leBytes 8 (b.port u).fecBad
def Block.value51 (b : Block) (u item : Nat) : List Byte :=
  let x := b.cart u
  if item = 0x001 then leBytes 1 (cartCode x.st)
  else if item = 0x002 then leBytes 4 x.hours
  else if item = 0x003 then leBytes 4 x.soleHours
  else if item = 0x004 then f32m x.caseMilliC
  else if item = 0x005 then arrN 2 ((List.range 8).map (fun i => x.drift.getD i 0))
  else leBytes 1 ((List.range 8).map (fun i => if x.outFaults.contains i then 2 ^ i else 0)).sum

/-- Areas 60 and 61 (R94, R374, R412, R429). -/
def Block.value60 (b : Block) (item : Nat) : List Byte :=
  let e := b.errors
  if item = 0x001 then leBytes 8 b.events.next
  else if item = 0x012 then leBytes 8 b.events.suppressed
  else if item = 0x032 then leBytes 8 b.silent.quietEvents
  else if item = 0x043 then leBytes 8 e.overflows
  else if item = 0x044 then leBytes 8 e.extinguished
  else if item = 0x045 then leBytes 8 e.targetAddr ++ leBytes 2 e.targetId
  else if item = 0x046 then arrN 8 ([1, 2, 3, 4, 5].map (fun i => tget 0 e.made i))
  else arrN 8 ((List.range 5).map (fun i => tget 0 e.consumed i))
/-- The verdicts that CheckVerdicts counts: 0 PASS, 1 INPUTS_CHANGED, 2 MISMATCH_CONFIRMED, 3 UNRESOLVED, 4 expired (R429). -/
def Block.value61 (b : Block) (n l item : Nat) : List Byte :=
  let x := b.silent
  if objUnit n = 0 then
    (if item = 0x012 then arrN 8 ((List.range 5).map (fun i => tget 0 x.verdicts i))
     else if item = 0x015 then leBytes 8 x.ignored
     else if item = 0x016 then leBytes 8 x.dropped
     else if item = 0x030 then leBytes 1 (svcCode x.svc)
     else match x.condemned with
       | some c => padTo 24 (strBytes (evName c.cause)) ++ leBytes 8 c.seq ++ (c.faults.map (fun (e : Ev × Nat × List Nat) =>
           padTo 24 (strBytes (evName e.1)) ++ leBytes 8 e.2.1 ++ (e.2.2.map (leBytes 8)).flatten)).flatten
       | none => List.replicate 32 0)
  else if item = 0x001 then leBytes 8 (tget 0 x.lastPass (b.siteOf l))
  else if item = 0x002 then arrN 8 [tget 0 x.completed l, tget 0 x.skipped l]
  else arrN 8 [tget 0 x.transient l, tget 0 x.persistent l]

/-- Bytes of an entry of a store record, padded to a multiple of four (R364). -/
def storeEntry (e : Nat × List Byte) : List Byte :=
  leBytes 4 e.1 ++ leBytes 2 e.2.length ++ leBytes 1 (match objAt e.1 with | some o => o.typ | none => 0) ++ [0] ++
    padTo ((e.2.length + 3) / 4 * 4) e.2
/-- A store record (R364): its digest and signature are the device key's (a free value of the model). -/
def storeBytes (s : StoreSlot) : List Byte :=
  let es := (s.record.map storeEntry).flatten
  let h := leBytes 4 0x43565347 ++ leBytes 4 1 ++ leBytes 8 s.seq ++ leBytes 4 es.length ++ leBytes 2 s.record.length ++ padTo 10 []
  h ++ padTo 96 (Config.recBytes 0x70000011 (s.seq :: (h ++ es).map BitVec.toNat)) ++ padTo 128 [] ++ es

/-- Areas 70, 71 and 78 (R326, R374, R447, R461). -/
def Block.value70 (b : Block) (item : Nat) : List Byte :=
  let s := b.store
  if item = 0x001 then leBytes 8 s.seq
  else if item = 0x002 then arrN 8 [s.a.seq, s.b.seq]
  else if item = 0x003 then leBytes 8 s.writes
  else if item = 0x011 then
    (match (s.a.slots ++ s.b.slots).find? (fun (e : Nat × StoreSlot) => e.2.seq == s.seq && !e.2.torn) with
     | some e => storeBytes e.2
     | none => [])
  else if item = 0x021 then Config.recBytes 0x70000021 [s.mapSeq]
  else arrN 1 [if b.tray.sf0Failed then 1 else 0, if b.tray.sf1Failed then 1 else 0]
/-- Units of a firmware class (R430). -/
def fwUnits : Nat → Nat
  | 0 => 1 | 1 => 9 | 2 => 16 | 3 => 64 | 4 => 8 | 5 => 2 | _ => 0
/-- The slot that a unit runs: 0 A, 1 B (R430). -/
def Firmware.slotOf (f : Firmware) (u : Nat) : Nat := if f.onCand.contains u then 1 - f.boot else f.boot
def Block.value71 (b : Block) (n u item : Nat) : List Byte :=
  let f := b.fw u
  if n = 0x71000031 then leBytes 2 (if (b.fw 0).onCand = [] then (b.fw 0).ifMax else (b.fw 0).candIfMax)
  else if item = 0x001 then leBytes 1 f.boot
  else if item = 0x002 then leBytes 1 f.cand
  else if item = 0x003 then arrN 4 [f.verA, f.verB]
  else arrN 1 ((List.range (fwUnits u)).map (fun i => if f.switching.any (fun e => e.1 == i) then 2 else f.slotOf i))
def roleByte (x : Option Session) : Nat := match x with
  | some s => if s.opened then roleRank s.role else 0xFF
  | none => 0xFF
def Block.value78 (b : Block) (n item : Nat) : List Byte :=
  let s := b.security
  if item = 0x010 then arrN 4 ((List.range 6).map (fun u => (b.fw u).floor))
  else if item = 0x040 then leBytes 32 (Config.debugNonce s.nonces)
  else if item = 0x042 then leBytes 1 s.scope.toNat
  else if item = 0x050 then arrN 1 ((List.range 12).map (fun i => roleByte (tfind b.sessions i)))
  else if item = 0x051 then leBytes 8 s.authFailures
  else if item = 0x060 then Config.recBytes n (s.measured.map (fun e => e.1 * 2 ^ 64 + e.2))
  else Config.factory n

/-- A guest window as its object holds it (R457). -/
def GuestWin.bytes (w : GuestWin) : List Byte :=
  leBytes 1 ((if w.v then 1 else 0) + (if w.r then 2 else 0) + (if w.w then 4 else 0) + (if w.signal then 8 else 0)) ++
    leBytes 1 w.ctx ++ leBytes 6 0 ++ leBytes 8 w.gbase ++ leBytes 8 w.length ++ leBytes 8 w.paBase
/-- A window at its reset value: closed, of system memory (R457). -/
def closedWin : GuestWin := ⟨false, false, false, false, true, 0xFF, 0, 0, 0⟩
def Block.value7C (b : Block) (g item : Nat) : List Byte :=
  let x := b.guest g
  if item = 0x001 then leBytes 1 (guestCode x.st)
  else if item = 0x010 then arr ((List.range 16).map (fun i => (tget closedWin x.windows i).bytes))
  else if item = 0x030 then leBytes 8 x.denials
  else f32m x.power

/-- The value that a READ of an object returns (R346, R347, R355, R362); SpreadSize, which applies from the next start, returns the
value written (DEDUCED, entry 50). -/
def Block.objValue (b : Block) (o : Obj) (n : Nat) : List Byte :=
  let u := objUnit n; let i := objItem n
  if o.acc = 4 then (tget {} b.cmds.recs n).bytes
  else if o.acc = 2 then []
  else if n = 0x32000050 then (tfind b.store.persist n).getD (b.inForceOf o n)
  else if (o.acc = 1 ∨ o.acc = 3) ∧ n ≠ 0x01000001 ∧ n ≠ 0x60000045 ∧ ¬ (o.area = 0x7C ∧ i = 0x010) then b.inForceOf o n
  else if o.area ≤ 0x02 then b.value02 n u i
  else if o.area = 0x10 then b.value10 n (u - 0x100) i
  else if o.area ≤ 0x12 then b.value11 n
  else if o.area = 0x20 then b.value20 u i
  else if o.area = 0x21 then b.value21 u i
  else if o.area = 0x22 then b.value22 u i
  else if o.area = 0x30 then b.value30 u i
  else if o.area = 0x31 then b.value31 u i
  else if o.area = 0x32 then b.value32 u i
  else if o.area = 0x40 then b.value40 u i
  else if o.area = 0x50 then b.value50 n u i
  else if o.area = 0x51 then b.value51 u i
  else if o.area = 0x60 then b.value60 i
  else if o.area = 0x61 then b.value61 n (u - 0x100) i
  else if o.area = 0x70 then b.value70 i
  else if o.area = 0x71 then b.value71 n u i
  else if o.area = 0x78 then b.value78 n i
  else b.value7C u i

end Sys2Proof.Machine
end

