-- ==== Sys2Proof/Machine/Start.lean ====
section
/-! DEFINITION. Starts and restarts: the hub's steps, the main rails, the boot scan, what a failed start leaves (15 R327 to
R343; 00 R3, R5; 14 R322 to R324; 16 R365, R366, R371; 19 R426; 21 R450, R451). Each command runs its steps whole; what
the world gives them is an operand. -/

namespace Sys2Proof.Machine

/-- The unit that scans and sites of a tile report by (R345). -/
def unitSite (site : Nat) : Nat := unitTile (site / 16)

/-- Changes the start record. -/
def Block.updStart (b : Block) (f : Start → Start) : Block := { b with start := f b.start }
/-- A start fails at a step (R339, R344). -/
def Block.startFail (b : Block) (step : Nat) (e : Option Ev) : Block :=
  b.updStart (fun x => { x with failStep := step, failEv := e })

/-! ### Firmware images (R430, R431, R450) -/

/-- A byte of a firmware slot: what SlotWindow programmed there, else what flash held (R430, R432). -/
def Block.slotByte (b : Block) (cls slot off : Nat) : Byte :=
  match tfind (b.fw cls).bytes (slot * 2 ^ 24 + off) with | some v => v | none => Config.slotByte cls slot off
/-- The fields of the 256 bytes of an image header (R431). -/
def headerOf (bs : List Byte) : FwHdr :=
  let h : BitVec 2048 := BitVec.ofNat 2048 (leNat bs)
  { magic := fld h 0 32, level := fld h 32 4, cls := fld h 36 4, version := fld h 64 32, ifMin := fld h 96 16, ifMax := fld h 112 16
    levels := fld h 128 16, length := fld h 160 32, secVersion := fld h 192 32, digest := fld h 256 256
    reservedZero := fld h 40 24 == 0 && fld h 144 16 == 0 && fld h 224 32 == 0 && fld h 1024 1024 == 0 }
/-- The header of the image in a slot. -/
def Block.imageHdr (b : Block) (cls slot : Nat) : FwHdr := headerOf ((List.range 256).map (b.slotByte cls slot))
/-- An image that a unit loads is measured, once for each distinct digest (R450). -/
def Block.measureImage (b : Block) (cls slot : Nat) : Block :=
  let e := (cls + 2, (b.imageHdr cls slot).digest)
  { b with security := { b.security with
    measured := if cls ≠ 0 ∧ b.security.measured.contains e then b.security.measured else b.security.measured ++ [e] } }

/-! ### Steps 1 and 2: hub ROM and image verification (R331, R434) -/

/-- The slot that the hub runs from: the boot slot, else the other one; a slot on a FAILED device is passed over (R331). -/
def Block.hubSlot (b : Block) (inp : ColdIn) : Option Nat :=
  let ok (s : Nat) : Bool := if s = 0 then inp.hubA && inp.sf0Ok else inp.hubB && inp.sf1Ok
  if ok (b.fw 0).boot then some (b.fw 0).boot else if ok (1 - (b.fw 0).boot) then some (1 - (b.fw 0).boot) else none

/-- The event log is opened: SEQ_BLOCK and SEQ_RESUMED are its first records of the start (R371). -/
def Block.openLog (b : Block) : Block := (b.reserveSeq).hubRecord .seqResumed []

/-- What the hub finds of the flash devices (R324). -/
def Block.flashFound (b : Block) (ok0 ok1 : Bool) : Block :=
  let b1 := { b with tray := { b.tray with sf0Failed := !ok0, sf1Failed := !ok1 } }
  let one (c : Block) (dev : Nat) : Block := (c.raise unitModule .flashDeviceFailed [dev]).raise unitModule .scanSetUnavailable [dev]
  let b2 := if ok0 then b1 else one b1 0
  let b3 := if ok1 then b2 else one b2 1
  if ok0 ∧ ok1 then b3.clearAlert 3 else b3.setAlert 3

/-- A flash device is FAILED (R324). -/
def Block.failDevice (b : Block) (k : Nat) : Block :=
  let c : Block := { b with tray := if k = 0 then { b.tray with sf0Failed := true } else { b.tray with sf1Failed := true } }
  ((c.raise unitModule .flashDeviceFailed [k]).raise unitModule .scanSetUnavailable [k]).setAlert 3
/-- The objects of a device that fail their digest: an event for each, the copy on the other device being used; three of them make the
device FAILED (R323, R324). -/
def Block.flashVerdicts (b : Block) (k : Nat) (bad : List Nat) : Block :=
  if (if k = 0 then b.tray.sf0Failed else b.tray.sf1Failed) then b
  else
    let c := bad.foldl (fun (d : Block) o => d.raise unitModule .flashObjectBad [k, o]) b
    let d : Block := { c with tray := if k = 0 then { c.tray with sf0Bad := bad.length } else { c.tray with sf1Bad := bad.length } }
    if 3 ≤ bad.length then d.failDevice k else d

/-- Step 2 ends: the hub firmware runs from a slot ; it senses the presence strap of each guest site (R2, R331, R371, R404, R313,
R450, R451). -/
def Block.hubRuns (b : Block) (inp : ColdIn) (slot : Nat) : Block :=
  let other := slot != (b.fw 0).boot
  let b1 := (b.updStart (fun x => { x with count := x.count + 1, retry := false, woken := false })).openLog
  let b2 := (({ b1.flashFound inp.sf0Ok inp.sf1Ok with
    tray := { (b1.flashFound inp.sf0Ok inp.sf1Ok).tray with guestFitted := [0, 1].filter inp.straps.contains } }).flashVerdicts 0
      inp.badObjects0).flashVerdicts 1 inp.badObjects1
  let b3 := (b2.updFw 0 (fun x => { x with onCand := if other then [0] else [] })).measureImage 0 slot
  let b4 := if other then b3.raise unitModule .bootSlotFallback [0] else b3
  let b5 := if inp.floorOk then b4
    else ({ b4 with firmware := tmap (fun (x : Firmware) => { x with floor := 0 }) b4.firmware }).raise unitModule .floorRecordNone []
  let b6 := b5.measure 8 ((List.range 6).map (fun u => (b5.fw u).floor * 2 ^ (32 * u))).sum
  let b7 := if b6.start.hubLost then (b6.raise unitModule .hubLost []).updStart (fun x => { x with hubLost := false }) else b6
  let b8 := if b7.start.overvoltage then
      (b7.raise unitModule .supplyOvervoltage []).updStart (fun x => { x with overvoltage := false }) else b7
  if b8.tray.latched then b8.setAlert 19 else b8

/-! ### Step 3: the configuration store (R332, R365, R366) -/

/-- The values of a set that differ from their defaults (R366). -/
def storeValues (t : Tab (List Byte)) : Tab (List Byte) :=
  t.filter (fun e => match objAt e.1 with | some o => o.default e.1 != e.2 | none => true)
/-- Slot of a copy that the next record goes into (R366). -/
def StoreCopy.target (c : StoreCopy) : Nat := (c.last + 1) % 48
/-- A record is programmed into the next slot; when it reads back, the slot after it is erased in the background (R366). -/
def StoreCopy.program (c : StoreCopy) (seq : Nat) (r : Tab (List Byte)) (ok : Bool) : StoreCopy :=
  { slots := tput c.slots c.target { seq := seq, record := r, torn := !ok }, last := c.target, erasing := ok }
/-- A copy of the store: 0 is A. -/
def Store.copy (s : Store) (k : Nat) : StoreCopy := if k = 0 then s.a else s.b
def Store.setCopy (s : Store) (k : Nat) (c : StoreCopy) : Store := if k = 0 then { s with a := c } else { s with b := c }
/-- The older copy: A where both have no valid slot or the same SEQ (R366). -/
def Store.older (s : Store) : Nat := if s.b.seq < s.a.seq then 1 else 0
/-- Whether the device of a copy is FAILED. -/
def Block.devFailed (b : Block) (k : Nat) : Bool := if k = 0 then b.tray.sf0Failed else b.tray.sf1Failed

/-- A store write that waits when the units stop in order, or at a dark stop, is made by the hub, which stays on: only a loss of power
or an abrupt reset loses it (R366, R367). Its read-back is valid: DESIGN CHOICE, unsafe (log 71). -/
def Block.settleStore (b : Block) : Block :=
  if !b.store.dirty ∨ (b.tray.sf0Failed ∧ b.tray.sf1Failed) then b
  else
    let k := if b.devFailed b.store.older then 1 - b.store.older else b.store.older
    let seq := b.store.nextSeq
    (b.updStore (fun s => { s.setCopy k ((s.copy k).program seq (storeValues s.persist) true) with
      seq := seq, writes := s.writes + 1, dirty := false })).measure 9 seq

/-- An entry of a record names an RWP object, with a value of its type and in its range (R365). -/
def storeEntryOk (e : Nat × List Byte) : Bool :=
  match objAt e.1 with
  | none => false
  | some o => o.acc == 3 && o.typeOk e.2 && o.rangeOk e.2 && (e.1 != 0x01000001 || (partOf e.2).isSome)

/-- The slot after `i` and those that follow it while they are not blank and not valid (R366). -/
def StoreCopy.lastFrom (c : StoreCopy) : Nat → Nat → Nat
  | 0, i => i
  | n + 1, i =>
    match tfind c.slots ((i + 1) % 48) with
    | some s => if s.torn then c.lastFrom n ((i + 1) % 48) else i
    | none => i
/-- A copy as a start reads it: slots that do not verify are never selected; an erase that was cut short leaves none valid;
the last slot programmed is found and the target erased if it is not blank (R365, R366). -/
def StoreCopy.scanned (c : StoreCopy) (bad : List Nat) : StoreCopy :=
  let target := (c.last + 1) % 48
  let c1 : StoreCopy := { c with slots := c.slots.map (fun (e : Nat × StoreSlot) =>
    (e.1, { e.2 with torn := e.2.torn || bad.contains e.1 || (c.erasing && e.1 == target) })) }
  let last := match c1.newest with | some e => c1.lastFrom 47 e.1 | none => c.last
  { c1 with last := last, erasing := thas c1.slots ((last + 1) % 48) }

/-- The record that a start selects: the newest valid slot of the copies whose device works; A where both carry the same SEQ
(R365). -/
def Store.selected (s : Store) (ok0 ok1 : Bool) : Option StoreSlot :=
  match (if ok0 then s.a.newest else none), (if ok1 then s.b.newest else none) with
  | some x, some y => if x.2.seq < y.2.seq then some y.2 else some x.2
  | some x, none => some x.2
  | none, some y => some y.2
  | none, none => none

/-- Step 3: the record is selected, its values are in force, the level is TENDED; with none the start ends there (R330, R339,
R365). Without a valid PartNumber entry the part that was in force stays (DESIGN CHOICE, log entry 86). The answer says whether the
start goes on. -/
def Block.storeStep (b : Block) (inp : ColdIn) : Block × Bool :=
  let s := b.store
  let st : Store := { s with a := s.a.scanned inp.badSlotsA, b := s.b.scanned inp.badSlotsB, dirty := false }
  match st.selected (inp.sf0Ok && !b.tray.sf0Failed) (inp.sf1Ok && !b.tray.sf1Failed) with
  | none =>
    let b1 := { b with store := { st with persist := [], inForce := [], seq := 0 } }
    (((((b1.setLevel .tended).raise unitModule .configStoreNone []).setAlert 15).startFail 3 (some .configStoreNone)).updStart
      (fun x => { x with stuck := true }), false)
  | some r =>
    let good := r.record.filter storeEntryOk
    let b1 := { b with
      store := { st with persist := r.record, inForce := good, seq := r.seq }
      tray := { b.tray with part := ((tfind good 0x01000001).bind partOf).getD b.tray.part } }
    let b2 := (r.record.filter (fun e => !storeEntryOk e)).foldl (fun (c : Block) (e : Nat × List Byte) =>
      c.raise unitModule .configEntryBad [e.1]) b1
    (((b2.measure 9 r.seq).setLevel .tended).updLimit, true)

/-! ### Step 4: the repair map (R332, R334) -/

/-- Outer tiles (R24). -/
def outerTiles : List Nat := [0, 1, 2, 3, 5, 6, 7, 8]
/-- The spare site that a repair map names for a tile. -/
def RepairMap.spare (m : RepairMap) (t : Nat) : Option Nat := (m.spares.find? (fun e => e.1 == t)).bind Prod.snd
/-- The site, tile × 16 + site, that a repair map gives a logical lantern; one without an entry has its place in ascending order with
the spare left out, as shipped (R25). -/
def RepairMap.siteFor (m : RepairMap) (l : Nat) : Nat :=
  match m.sites.find? (fun e => e.1 == l) with
  | some e => e.2
  | none => lampTile l * 16 + (((List.range 9).filter (fun s => some s != m.spare (lampTile l))).getD (l % 8) 8)
/-- Whether a repair map keeps every lantern on a site of its own tile, its alone, and off the spare (R18, R25). -/
def RepairMap.seated (m : RepairMap) : Bool :=
  (List.range 64).all (fun l =>
    let s := m.siteFor l
    s / 16 == lampTile l && decide (s % 16 < 9) && some (s % 16) != m.spare (lampTile l) &&
      (List.range 8).all (fun j => j == l % 8 || m.siteFor (l / 8 * 8 + j) != s))
/-- A repair map that R332 lets the start use: it names a spare, or none, for each outer tile, seats every lantern on its own tile, and
no mask leaves a beam below the rule of R49 without a host. -/
def RepairMap.valid (m : RepairMap) : Bool :=
  outerTiles.all (fun t => m.spares.any (fun e => e.1 == t)) && m.seated &&
  m.masks.all (fun e => m.hosts.any (fun h => h.1 == e.1) || decide (popBelow e.2 512 ≤ 64))

/-- A repair map written by RepairMapImage comes into use (R332, R334, R369, R426). -/
def Block.useMap (b : Block) (m : RepairMap) : Block :=
  let lanterns := (List.range 64).foldl (fun (t : Tab Lantern) l =>
    tput t l { tget {} t l with site := some (m.siteFor l) }) b.lanterns
  let beams := (List.range 1024).foldl (fun (t : Tab Beam) k =>
    let mask := ((m.masks.find? (fun e => e.1 == k)).map Prod.snd).getD 0
    let host := (m.hosts.find? (fun e => e.1 == k)).map Prod.snd
    if mask = 0 ∧ host = none ∧ thas t k = false then t else tput t k { tget {} t k with mask := mask, host := host }) b.beams
  let links := m.linkSpares.foldl (fun (t : Tab Link) e => tput t e.1 { tget {} t e.1 with spared0 := e.2.1, spared1 := e.2.2 }) b.links
  let channels := m.rows.foldl (fun (t : Tab Channel) e =>
    let x := tget {} t e.1
    tput t e.1 { x with remapped := tput x.remapped e.2 (max 1 (tget 0 x.remapped e.2)) }) b.channels
  { b with
    lanterns := lanterns, beams := beams, links := links, channels := channels
    silent := { b.silent with
      spares := m.spares.foldl (fun (t : Tab (Option Nat)) e => tput t e.1 e.2) [], retired := m.retired, siteMarks := []
      condemned := if m.condemned then b.silent.condemned else none }
    store := { b.store with mapNext := none } }

/-- Step 4: the map is selected, and the service state follows its condemnation record; a lantern that the map makes a candidate is
reported (R50, R328, R332, R339, R426). -/
def Block.mapStep (b : Block) (inp : ColdIn) : Block :=
  let okA := inp.mapA && inp.sf0Ok && !b.tray.sf0Failed && !inp.badObjects0.contains 1
  let okB := inp.mapB && inp.sf1Ok && !b.tray.sf1Failed && !inp.badObjects1.contains 1
  let next := match b.store.mapNext with | some m => m.valid | none => true
  if !(okA || okB) ∨ !next then
    (((b.raise unitModule .repairMapNone []).setAlert 15).startFail 4 (some .repairMapNone)).updStart (fun x => { x with stuck := true })
  else
    let sel := if okA && (!okB || decide (b.store.mapB ≤ b.store.mapA)) then b.store.mapA else b.store.mapB
    let b0 := (match b.store.mapNext with | some m => b.useMap m | none => b).updStore (fun x => { x with mapSeq := sel })
    let b1 := ((List.range 64).filter (fun l => b0.retiredBeams l = 2 ∧ b.retiredBeams l ≠ 2)).foldl (fun (c : Block) l =>
      c.raise (unitLantern l) .spareCandidate [l]) b0
    let b2 := b1.measure 10 b1.store.mapSeq
    let cond := b2.silent.condemned.isSome
    let b3 := b2.updSilent (fun x => { x with svc := if cond then .condemned else .inService })
    if cond then b3.setAlert 14 else b3.clearAlert 13

/-! ### Cold start (R329 to R332) -/

/-- Steps 1 to 4 (R330): a failure at step 1 or 2 leaves the module DARK and the hub ROM retries (R339). -/
def Block.coldSteps (b : Block) (kind : Nat) (inp : ColdIn) : Block :=
  let b0 := b.settleStore.updStart (fun x => { x with kind := kind })
  if !inp.pufOk then (b0.startFail 1 none).updStart (fun x => { x with retry := true, woken := false })
  else
    match b0.hubSlot inp with
    | none => (b0.startFail 2 none).updStart (fun x => { x with retry := true, woken := false })
    | some slot =>
      let b1 := { b0 with security := { b0.security with measured := [(1, 0)], nonces := b0.security.nonces + 1, scope := 0, spdm := 0 } }
      let b2 := (b1.hubRuns inp slot).measure 12 0
      let r := b2.storeStep inp
      if r.2 then r.1.mapStep inp else r.1

/-- The standby rail has come up: the state of its domain starts afresh (R312, R319, R320). -/
def Block.standbyUp (b : Block) : Block :=
  { b with
    tray := { b.tray with alerts := 0, flowOk := false, pwrOk := false, below58 := 0 }
    sensors := tmap (fun (x : Sensor) => { x with substituted := false, good := 0 }) b.sensors
    power := { b.power with coolant := none }
    events := { b.events with pend := [] } }

/-- COLD_START: by power, once the input has risen to 40.5 V, or after a reset. Power that comes up above DARK had been lost: the input
fell through 40 V, or the module was unseated, which is an abrupt loss (R311, R312, R329). The kinds are those of StartKind. -/
def execColdStart (kind : Nat) (inp : ColdIn) (s : State) : Host.Outcome State Fault Refusal :=
  s.run (fun b =>
    if kind = 0 then
      (if inp.inputMv < 40500 then b
       else ((if b.start.level = .dark then b else b.abruptReset).standbyUp).coldSteps 0 inp)
    else if b.start.level ≠ .dark ∨ 2 ≤ kind ∨ b.start.woken = false then b
    else b.coldSteps 1 inp)

/-- HUB_ROM_RETRY: ten seconds after a start that failed at step 1 or 2 (R329, R339). -/
def execHubRomRetry (inp : ColdIn) (s : State) : Host.Outcome State Fault Refusal :=
  s.run (fun b => if b.start.level = .dark ∧ b.start.retry then b.coldSteps b.start.kind inp else b)

/-! ### Main rails to LIT (R333 to R338) -/

/-- The condition of R333 that fails, none while all hold: 1 TRAY_PWR_OK, 2 TRAY_FLOW_OK, 3 an input voltage not above 46.5 V,
4 a latched disconnect. -/
def Block.railsHeld (b : Block) : Option Nat :=
  if !b.tray.pwrOk then some 1 else if !b.tray.flowOk then some 2 else if b.vLow ≤ 46500 then some 3
  else if b.tray.latched then some 4 else none

/-- The logical lantern behind a site. -/
def Block.lanternAt (b : Block) (site : Nat) : Option Nat := (List.range 64).find? (fun l => b.siteOf l == site)

/-- A site fails in step 6 or step 10 (R337, R339): a spare site is of no more use; behind a lantern, the spare takes its
place, or the lantern is out of service. -/
def Block.siteFails (b : Block) (e : Ev) (site : Nat) : Block :=
  let t := site / 16
  if b.spareSite t = some (site % 16) then
    ((b.updSilent (fun x => { x with spares := tput x.spares t none, retired := addLast x.retired site })).noteRepair).raise
      (unitSite site) e [site]
  else
    match b.lanternAt site with
    | none => b
    | some l =>
      let b1 := if e = .siteSilent then b.raise (unitLantern l) e [site] else b
      match b1.spareSite t with
      | some sp => b1.takeSpare l sp
      | none =>
        let b2 := b1.updLantern l (fun x => { x with out := true })
        (if e = .siteSilent then b2 else b2.raise (unitLantern l) e [site]).needSpare l

/-- Sites that fail, spare sites first, since a failed spare replaces nothing (R337). -/
def Block.sitesFail (b : Block) (e : Ev) (sites : List Nat) : Block :=
  let isSpare (s : Nat) : Bool := b.spareSite (s / 16) == some (s % 16)
  let own := sites.filter (fun s => outerTiles.contains (s / 16) && decide (s % 16 < 9))
  (own.filter isSpare ++ own.filter (fun s => !isSpare s)).foldl (fun (c : Block) s => c.siteFails e s) b

/-- Step 6: every die leaves reset with the image of its boot slot and its part of the repair map; deferred row remaps are made;
the keeper clusters wait (R334, R337, R338, R339, R434, R450). -/
def Block.clockStep (b : Block) (inp : RailsIn) : Block :=
  let b1 := [1, 2, 3, 4, 5].foldl (fun (c : Block) u =>
    let bad := inp.badSlots.contains u
    let d := (c.updFw u (fun x => { x with onCand := if bad then List.range (fwUnits u) else [], switching := [], paused := [], tries := [] })).measureImage
      u (if bad then 1 - (c.fw u).boot else (c.fw u).boot)
    if bad then d.raise unitModule .bootSlotFallback [u] else d) b
  let b2 := (List.range 8).foldl (fun (c : Block) k => c.updCluster k (fun x => { x with st := .reset })) b1
  let b3 := [0, 1].foldl (fun (c : Block) p => c.updPort p (fun x => { x with mode := c.cfg (objPort p 1) 0 % 4 })) b2
  let b4 := { b3 with channels := b3.channels.map (fun (e : Nat × Channel) =>
    let x := e.2
    (e.1, x.deferredRows.foldl (fun (y : Channel) (r : Nat × Nat) => { y with
      spareRows := if e.1 < 256 then tinc y.spareRows r.1 1 else y.spareRows
      ppr := if e.1 < 256 then y.ppr else y.ppr + 1
      remapped := tinc y.remapped (r.1 * 2 ^ 22 + r.2) 1 }) { x with deferredRows := [] })) }
  b4.sitesFail .siteSilent inp.silentSites

/-- Step 7: each link trains (R335). -/
def Block.linkStep (b : Block) (inp : RailsIn) : Block :=
  ((List.range 12).zip inp.links).foldl (fun (c : Block) e => c.trainLink e.1 e.2) b

/-- Capacity in GiB of a DIMM that matches the part number (R1, R3, R187). -/
def Block.dimmGiB (b : Block) : Nat := if b.tray.part = .a2t then 128 else 256

/-- Channels whose DIMM is absent or of another capacity (R3, R322). -/
def Block.dimmsBad (b : Block) (inp : RailsIn) : List Nat :=
  (List.range 16).filter (fun c => inp.dimms.getD c 0 != b.dimmGiB)

/-- A stack channel that does not calibrate, or a bulk channel that does not train (R339). -/
def Block.stackFails (b : Block) (d ch : Nat) : Block :=
  (((b.updChannel ch (fun x => { x with st := .offline })).setTier d .offline).raise (unitDomain d) .stackOffline [d]).setAlert 10
def Block.bulkFails (b : Block) (c : Nat) : Block :=
  ((b.updChannel (256 + c) (fun x => { x with st := .offline })).raise (unitChannel (256 + c)) .bulkOffline [c]).setAlert 11

/-- Steps 8 and 9 after the DIMM checks: training, initialisation, frames that fail their write-verify; CHARTED (R336,
R339). -/
def Block.memStep (b : Block) (inp : RailsIn) : Block :=
  let b1 := (inp.badStackCh.filter (fun c => decide (c < 256))).foldl (fun (c : Block) ch => c.stackFails (ch / 32) ch)
    (((b.clearAlert 4).clearAlert 10).clearAlert 11)
  let b2 := (inp.badBulkCh.filter (fun c => decide (c < 16))).foldl (fun (c : Block) ch => c.bulkFails ch) b1
  let b3 := inp.badFrames.foldl (fun (c : Block) f =>
    if 8 ≤ f.1 ∨ 2 ≤ f.2.1 ∨ c.frames f.1 f.2.1 ≤ f.2.2 then c
    else (c.retireNow f.1 f.2.1 f.2.2).raise (unitDomain f.1) .frameRetired [f.1, f.2.1, f.2.2]) b2
  b3.setLevel .charted

/-- Step 10: the boot scan of every die (R337). -/
def Block.scanStep (b : Block) (inp : RailsIn) : Block :=
  let b1 := b.sitesFail .bootScanFail inp.badSites
  let b2 := (inp.badSinkers.filter (fun k => decide (k < 16))).foldl (fun (c : Block) k =>
    (((c.updSinker k (fun x => { x with lost := true })).setTier (k / 2) .offline).raise (unitDomain (k / 2)) .stackOffline [k / 2]).setAlert 10) b1
  let b3 := (inp.badClusters.filter (fun k => decide (k < 8))).foldl (fun (c : Block) k => c.raise (unitCluster k) .bootScanFail [k]) b2
  let b4 := (inp.badPorts.filter (fun k => decide (k < 2))).foldl (fun (c : Block) k =>
    (c.updPort k (fun x => { x with resetting := true })).raise (unitPort k) .bootScanFail [k]) b3
  if inp.badTiles = [] then b4
  else
    (b4.updSilent (fun x => { x with faults := x.faults ++ [(.bootScanFail, b4.events.next + b4.events.pend.length, inp.badTiles)] })).condemn
      .bootScanFail

/-- An event of a guest die, with source 9 (R285). -/
def Block.guestEvent (b : Block) (g : Nat) (e : Ev) (args : List Nat) : Block := (b.raise (unitNo 0x7C g) e args).wire 9

/-- The admission of a guest die (R5, R456): its measurement, or HELD with GUEST_ATTEST_FAIL naming the step; a die admitted at dim
step 2 or deeper is SUSPENDED (R460). -/
def Block.admitGuest (b : Block) (g : Nat) (a : Admission) : Block :=
  match a.fail with
  | none =>
    (b.updGuest g (fun x => { x with st := if 2 ≤ b.power.dim then .suspended else .running, throttled := false })).measure (13 + g) a.digest
  | some n => (b.updGuest g (fun x => { x with st := .held, throttled := false })).guestEvent g .guestAttestFail [g, n]

/-- The condition of R338 that fails: 1 vectors, 2 no lantern, 3 no keeper cluster, 4 partition, 5 condemned. -/
def Block.unlit11 (b : Block) (inp : RailsIn) (scan : Bool) : Option Nat :=
  if (List.range 64).any (fun l => (b.lantern l).vectorsBad) then some 1
  else if (List.range 64).all (fun l => b.outOfService l) then some 2
  else if scan && (List.range 8).all (fun k => inp.badClusters.contains k) then some 3
  else if b.partitioned then some 4
  else if b.silent.svc = .condemned then some 5 else none

/-- Step 11: the vectors are loaded and checked; LIT, and the clusters that passed are released (R338, R352, R426). -/
def Block.lightStep (b : Block) (inp : RailsIn) (scan : Bool) : Block :=
  let b1 := ((inp.badVectors.filter (fun l => decide (l < 64))).foldl (fun (c : Block) l =>
    c.updLantern l (fun x => { x with vectorsBad := true })) (b.updStart (fun x => { x with release := inp.release }))).measure 11 0
  match b1.unlit11 inp scan with
  | some n =>
    (((b1.raise unitModule .startIncomplete [n]).setAlert 15).startFail 11 (some .startIncomplete)).updStart (fun x => { x with stuck := true })
  | none =>
    let b2 := (List.range 8).foldl (fun (c : Block) k =>
      if scan && inp.badClusters.contains k then c else c.updCluster k (fun x => { x with st := .running })) b1
    ((((b2.setLevel .lit).clearAlert 9).clearAlert 14).clearAlert 15).startFail 0 none

/-- A start that stays where it is until a cold start (R339). -/
def Block.stuckAt (b : Block) (step : Nat) (e : Ev) (alert : Nat) (args : List Nat) : Block :=
  (((b.raise unitModule e args).setAlert alert).startFail step (some e)).updStart (fun x => { x with stuck := true })

/-- Steps 5 to 11 (R330, R333 to R339). -/
def Block.railSteps (b : Block) (inp : RailsIn) (scan : Bool) : Block :=
  let off (c : Block) : Block := { c with tray := { c.tray with rails := false } }
  if !inp.railsOk then (off b).stuckAt 5 .railFail 15 []
  else
    let b1 := { b with tray := { b.tray with rails := true } }
    if !inp.clocksOk then (off b1).stuckAt 6 .clockLockFail 15 []
    else
      let b2 := (b1.clockStep inp).linkStep inp
      let bad := b2.dimmsBad inp
      let b3 := { b2 with tray := { b2.tray with
        dimms := inp.dimms, dimmIds := (List.range 16).map (fun c => (c, inp.identities.getD c [])) } }
      if bad ≠ [] then b3.stuckAt 8 .bulkPopulationMismatch 4 bad
      else if inp.unapproved ≠ [] then b3.stuckAt 8 .dimmUnapproved 4 inp.unapproved
      else
        let b4 := (b3.memStep inp).resense
        if b4.partitioned then b4.stuckAt 7 .linkPartition 9 []
        else
          let b5 := if scan then b4.scanStep inp else b4
          let b6 := if b5.tray.part = .g4t then
              b5.tray.guestFitted.foldl (fun (c : Block) g => c.admitGuest g (inp.guests.getD g {})) b5 else b5
          b6.lightStep inp scan

/-- MAIN_RAILS_START: the filtered tray signals are taken at every level while the main rails are off (R317); at TENDED, once the tray's
conditions hold, the start goes on; while one fails START_HELD is raised once (R333). -/
def execMainRailsStart (inp : RailsIn) (s : State) : Host.Outcome State Fault Refusal :=
  s.run (fun b =>
    if b.tray.rails then b
    else
      let c := { b with tray := { b.tray with flowOk := inp.flowOk, pwrOk := inp.pwrOk } }
      if b.start.level ≠ .tended ∨ b.start.stuck then c
      else match c.railsHeld with
      | some n =>
        if c.start.heldRaised then c
        else (c.raise unitModule .startHeld [n]).updStart (fun x => { x with heldRaised := true })
      | none => (c.updStart (fun x => { x with heldRaised := false })).railSteps inp true)

/-! ### Warm restart (R248, R340) -/

/-- StartCommand (R340). -/
def objStart : Nat := 0x02000073

/-- The units of a warm restart start afresh while the rails stay as they are; commands are numbered from 1 again (R248, R340,
R362). -/
def Block.warmUnits (b : Block) (n : Nat) : Block :=
  let c := (b.flushLog).clearUnits
  { c with
    cmds := { c.cmds with count := 0, recs := [(objStart, { command := n, running := true })] }
    start := { c.start with stuck := false, heldRaised := false, kind := 2 }
    security := { c.security with nonces := c.security.nonces + 1, scope := 0, spdm := 0 }
    firmware := tmap (fun (x : Firmware) => { x with onCand := [], switching := [], paused := [], tries := [], cmd := none }) c.firmware }

/-- Steps 2 or 3 to 11 of a warm restart; the boot scan runs with WarmScan (R340). -/
def Block.warmSteps (b : Block) (hub : Bool) (inp : RailsIn) (cold : ColdIn) : Block :=
  let b1 : Option Block :=
    if hub then (b.hubSlot cold).map (fun slot =>
      let c := b.settleStore.hubRuns cold slot
      { c with tray := { c.tray with slotTaken := false, busTx := false } })
    else some ((b.settleStore.updStart (fun x => { x with count := x.count + 1 })).openLog)
  match b1 with
  | none => ((b.settleStore.setLevel .dark).startFail 2 none).updStart (fun x => { x with retry := true })
  | some c =>
    let r := (c.measure 12 0).storeStep cold
    if !r.2 then r.1
    else
      let d := r.1.mapStep cold
      if d.start.stuck then d
      else if d.tray.rails ∨ d.railsHeld = none then d.railSteps inp (d.cfg 0x02000077 0 == 1)
      else if d.start.heldRaised then d
      else (d.raise unitModule .startHeld [(d.railsHeld).getD 0]).updStart (fun x => { x with heldRaised := true })

/-- WARM: every context is destroyed, stores drain and dirty lines are written back before memory is initialised again; the hub
firmware and the main rails stay; BUSY while a start runs (R248, R340). COMMAND_DONE is raised when its steps have run. -/
def execWarm (role : Role) (inp : RailsIn) (cold : ColdIn) (s : State) : Host.Outcome State Fault Refusal :=
  s.run (fun b => b.cmd role .operator 0x02 (fun c =>
    if c.startRuns then c.refuse .busy
    else
      let d := c.accept objStart
      let n := d.cmds.count
      let e := (d.liveContexts.foldl (fun (x : Block) k => x.destroyCtx k) d).settleSuspect.setLevel .tended
      let hub := decide ((e.fw 0).onCand ≠ [])
      let f := ((e.warmUnits n).warmSteps hub inp cold).finishSts objStart n .ok
      { f with cmds := { f.cmds with reply := d.cmds.reply } }))

end Sys2Proof.Machine
end

