-- ==== Sys2Proof/Machine/Keepers.lean ====
section
/-! DEFINITION. Keeper harts: device register regions, loads, stores, atomics, reservations, fences, cache-block operations,
waits, the Xgsv extension, clocks and interrupts (10 R238 to R244; 12 R271 to R288; 16 R363). A hart's address is the
physical one: translation is the RISC-V profile's, outside the table of commands. -/

namespace Sys2Proof.Machine

/-! ### Registers, exceptions -/

/-- Register x of a hart; x0 reads zero (R274). -/
def Block.kreg (b : Block) (h r : Nat) : W64 := if r = 0 then 0 else tget 0 (b.hart h).x r
/-- Writes register x of a hart; a write of x0 is discarded. -/
def Block.setX (b : Block) (h r : Nat) (v : W64) : Block :=
  if r = 0 then b else b.updHart h (fun x => { x with x := tput x.x r v })
/-- An exception of a hart: cause and trap value; its reservation is lost (R244). -/
def Block.trap (b : Block) (h cause tval : Nat) : Block :=
  b.updHart h (fun x => { x with trap := some { cause := cause, tval := tval }, res := none, wrs := .none })
/-- Causes of RISC-V that the rules name. -/
def cIllegal : Nat := 2
def cLoadAlign : Nat := 4
def cLoadFault : Nat := 5
def cStoreAlign : Nat := 6
def cStoreFault : Nat := 7
def cHardware : Nat := 19
def cVirtual : Nat := 22

/-- Whether a hart executes: its cluster is out of reset, its PLL locked, not stopped, the rails on, the hart not stalled (R272,
R273, R287). -/
def Block.hartRuns (b : Block) (h : Nat) : Bool :=
  let c := b.cluster (h / 16)
  decide (h < 128) && b.tray.rails && c.st == .running && !c.relocking && !c.stopped && (b.hart h).wrs == .none
/-- Runs a hart's instruction where the hart executes. -/
def Block.onHart (b : Block) (h : Nat) (f : Block → Block) : Block := if b.hartRuns h then f b else b
/-- The agent that a hart's accesses come from: the L3 of its cluster (R251). -/
def kAgent (h : Nat) : Nat := 64 + h / 16

/-! ### Mailboxes (R363) -/

/-- The control block's first word. -/
def Mailbox.word (m : Mailbox) : Nat :=
  (if m.busy then 2 else 0) + (if m.replyReady then 4 else 0) + (if m.eventPending then 8 else 0) + m.reqLen * 2 ^ 16 +
    m.replyLen * 2 ^ 32 + m.eventLen * 2 ^ 48
/-- SEND: refused while BUSY or REPLY_READY (R363). -/
def Block.mailSend (b : Block) (m len : Nat) : Option Block :=
  let x := b.mailbox m
  if x.busy || x.replyReady then none else some (b.setMailbox m { x with busy := true, reqLen := len })
/-- REPLY_DONE frees the reply window. -/
def Block.mailReplyDone (b : Block) (m : Nat) : Block := b.updMailbox m (fun x => { x with replyReady := false, replyLen := 0 })
/-- EVENT_DONE frees the event window for the next push (R358). -/
def Block.mailEventDone (b : Block) (m : Nat) : Block :=
  (b.updMailbox m (fun x => { x with eventPending := false, event := [], eventLen := 0 })).pushTo (8 + m)

/-- A store to a mailbox at an offset: the request window and REQ_LEN take it; SEND, REPLY_DONE and EVENT_DONE act; read-only
and reserved bits are discarded (R15, R363). -/
def Block.mailStore (b : Block) (m o : Nat) (v : W64) : Option Block :=
  if o = 0 then
    if bit v 0 then b.mailSend m (fld v 16 16) else some (b.updMailbox m (fun x => { x with reqLen := fld v 16 16 }))
  else if o = 8 then
    let c := if bit v 0 then b.mailReplyDone m else b
    some (if bit v 1 then c.mailEventDone m else c)
  else if 0x800 ≤ o ∧ o < 0x1000 then some (b.updMailbox m (fun x => { x with request := tput x.request (o / 8) v }))
  else some b
/-- A load from a mailbox: the reply and event windows hold messages whose bytes rest on the session's keys (R357). -/
def Block.mailLoad (b : Block) (m o : Nat) : Nat :=
  let x := b.mailbox m
  if o = 0 then x.word
  else if 0x800 ≤ o ∧ o < 0x1000 then (tget 0 x.request (o / 8)).toNat
  else if 0x1000 ≤ o then (Config.mailWord m o (tget { role := .observer } b.sessions (8 + m)).sent).toNat
  else 0

/-- MAILBOX_SEND: a hart writes SEND with REQ_LEN; refused with a store access fault while BUSY or REPLY_READY (R363). -/
def execMailboxSend (mb len hart : Nat) (s : State) : Host.Outcome State Fault Refusal :=
  s.run (fun b => b.onHart hart (fun c =>
    if 4 ≤ mb then c
    else match c.mailSend mb (len % 2 ^ 16) with
      | some d => d
      | none => c.trap hart cStoreFault (0x4000000600000 + mb * 0x2000)))

/-- REPLY_DONE (R363). -/
def execReplyDone (mb : Nat) (s : State) : Host.Outcome State Fault Refusal :=
  s.run (fun b => if 4 ≤ mb then b else b.mailReplyDone mb)

/-- EVENT_DONE (R363). -/
def execEventDone (mb : Nat) (s : State) : Host.Outcome State Fault Refusal :=
  s.run (fun b => if 4 ≤ mb then b else b.mailEventDone mb)

/-! ### Clocks (R273) -/

/-- The PERF register of a cluster. -/
def Block.perfWord (b : Block) (cl : Nat) : Nat :=
  let x := b.cluster cl
  x.req + x.grant * 2 ^ 8 + (if x.grant < x.req then 2 ^ 16 else 0)
/-- A write of PERF: REQ is clamped, GRANT follows. -/
def Block.perfStore (b : Block) (cl : Nat) (v : W64) : Block :=
  (b.updCluster cl (fun x => { x with req := max 8 (min 34 (fld v 0 6)) })).regrant cl

/-- PERF_WRITE (R273). -/
def execPerfWrite (cl : Nat) (v : W64) (s : State) : Host.Outcome State Fault Refusal :=
  s.run (fun b => if 8 ≤ cl ∨ !b.tray.rails then b else b.perfStore cl v)

/-- PLL_RELOCK_DONE: the cluster resumes; one that was reset leaves reset with fresh records, and the command that asked
completes (R273, R342, R370, R409, R410). -/
def execPllRelockDone (cl : Nat) (s : State) : Host.Outcome State Fault Refusal :=
  s.run (fun b =>
    let x := b.cluster cl
    if 8 ≤ cl ∨ !x.relocking then b
    else if x.st ≠ .reset then b.setCluster cl { x with relocking := false }
    else
      let b1 := b.setCluster cl { x with relocking := false, st := .running, cmd := none }
      let b2 := ({ b1 with errors := { b1.errors with banks := tdel b1.errors.banks (unitCluster cl) } }).restartLocal (unitCluster cl)
      match x.cmd with
      | some c => b2.finishSts c.2 c.1 .ok
      | none => b2)

/-! ### Device register regions (R243) -/

/-- The slot's word of a range engine (R264). -/
def RangeSlot.word (x : RangeSlot) (w : Nat) : Nat :=
  match w with
  | 0 => x.base
  | 1 => x.length
  | 2 => x.completion
  | 4 => (if x.busy then 1 else 0) + x.lastResult * 2 ^ 4 + x.lastToken * 2 ^ 32
  | _ => 0
/-- A write of a slot's word; OP nonzero starts the command, which the engine records (R264). -/
def Block.slotStore (b : Block) (t k w : Nat) (v : W64) : Option Block :=
  let x := tget {} (b.tile t).slots k
  let put (y : RangeSlot) : Block := b.updTile t (fun z => { z with slots := tput z.slots k y })
  match w with
  | 0 => some (put { x with base := fld v 0 52 })
  | 1 => some (put { x with length := fld v 0 41 })
  | 2 => some (put { x with completion := v.toNat })
  | 3 =>
    match rangeOpOf (fld v 0 2) with
    | none => some (put { x with token := fld v 32 32 })
    | some op =>
      if x.busy then none
      else
        let c := put { x with token := fld v 32 32, busy := true }
        some (c.updTile t (fun z => { z with asks := z.asks ++
          [{ slot := some k, op := op, base := x.base, length := x.length, completion := x.completion, token := fld v 32 32 }] }))
  | _ => some b

/-- Enables or disables a source of a domain, or sets or clears its pending bit, by number (log entry 49). -/
def Block.aplicBit (b : Block) (sup : Bool) (o src : Nat) : Block :=
  let x := b.aplic sup
  if !b.srcActive sup src then b
  else if o = 0x1CDC then b.aplicPend sup src
  else if o = 0x1DDC then b.setAplic sup { x with pending := x.pending.filter (· != src) }
  else if o = 0x1EDC then (b.setAplic sup { x with enabled := sput x.enabled src }).aplicDeliver sup src
  else if o = 0x1FDC then b.setAplic sup { x with enabled := x.enabled.filter (· != src) }
  else b
/-- Registers of an APLIC domain: domaincfg, whose DM reads 1; sourcecfg; setip and in_clrip; setie; target (R285; places
PRESUMED from the AIA, log entry 49). -/
def Block.aplicLoad (b : Block) (sup : Bool) (o : Nat) : Nat :=
  let x := b.aplic sup
  if o = 0 then 0x80000004 + (if x.ie then 0x100 else 0)
  else if o < 0x1000 then tget 0 x.sourcecfg (o / 4)
  else if o = 0x1C00 ∨ o = 0x1D00 then (x.pending.map (fun i => 2 ^ i)).sum
  else if o = 0x1E00 then (x.enabled.map (fun i => 2 ^ i)).sum
  else if 0x3004 ≤ o ∧ o < 0x4000 then tget 0 x.target (o % 0x1000 / 4)
  else 0
/-- A write of sourcecfg: in the machine domain D delegates the source, which then leaves it; the supervisor domain takes it only
for a source delegated to it (log entry 49). -/
def Block.aplicCfg (b : Block) (sup : Bool) (src v : Nat) : Block :=
  let x := b.aplic sup
  let c := if v.testBit 10 then (if sup then 0 else 0x400) else v % 8
  if src = 0 ∨ 9 < src ∨ (sup ∧ !b.delegated src) then b
  else
    b.setAplic sup { x with sourcecfg := tput x.sourcecfg src c,
                            pending := if c % 8 = 0 then x.pending.filter (· != src) else x.pending,
                            enabled := if c % 8 = 0 then x.enabled.filter (· != src) else x.enabled }
/-- A write of an APLIC register (R285, log entry 49). -/
def Block.aplicStore (b : Block) (sup : Bool) (o v : Nat) : Block :=
  let x := b.aplic sup
  let all (n : Nat) : Block := (List.range 10).foldl (fun (c : Block) i => if v.testBit i then c.aplicBit sup n i else c) b
  if o = 0 then
    (List.range 10).foldl (fun (c : Block) i => c.aplicDeliver sup i) (b.setAplic sup { x with ie := v.testBit 8 })
  else if o < 0x1000 then b.aplicCfg sup (o / 4) v
  else if o = 0x1CDC ∨ o = 0x1DDC ∨ o = 0x1EDC ∨ o = 0x1FDC then b.aplicBit sup o v
  else if o = 0x1C00 then all 0x1CDC
  else if o = 0x1D00 then all 0x1DDC
  else if o = 0x1E00 then all 0x1EDC
  else if o = 0x1F00 then all 0x1FDC
  else if o = 0x3000 then b.aplicSend sup v
  else if 0x3004 ≤ o ∧ o ≤ 0x3024 ∧ b.srcActive sup (o % 0x1000 / 4) then
    b.setAplic sup { x with target := tput x.target (o % 0x1000 / 4) (v % 2 ^ 32) }
  else b

/-- A guest's own registers answer while its die runs (R457). -/
def Block.guestUp (b : Block) (pa : Nat) : Bool := (b.guest ((pa - 0x4000003000000) / 0x1000000)).st == .running

/-- A load from a register region of class ACKED: its value, none for an access fault. -/
def Block.devLoad (b : Block) (pa n : Nat) : Option Nat :=
  let o := pa - 0x4000000000000
  if pa % n ≠ 0 then none
  else if o < 0x500000 then (if n = 4 then some 0 else none)
  else if 0x600000 ≤ o ∧ o < 0x608000 then (if n = 8 then some (b.mailLoad ((o - 0x600000) / 0x2000) (o % 0x2000)) else none)
  else if 0x800000 ≤ o ∧ o < 0x808000 then (if n = 4 then some (b.aplicLoad (decide (0x804000 ≤ o)) (o % 0x4000)) else none)
  else if 0x900000 ≤ o ∧ o < 0x908000 then
    (if n = 8 then some (if o % 0x1000 = 0 then b.perfWord ((o - 0x900000) / 0x1000) else 0) else none)
  else if 0x1000000 ≤ o ∧ o < 0x1090000 then
    (if n = 8 ∧ o % 0x10000 < 0x400 then
      some ((tget {} (b.tile ((o - 0x1000000) / 0x10000)).slots (o % 0x10000 / 0x40)).word (o % 0x40 / 8)) else none)
  else if 0x2000000 ≤ o ∧ o < 0x2020000 then
    (if n = 8 ∧ o % 0x10000 < 0x80 then some (b.portReg ((o - 0x2000000) / 0x10000) (o % 0x10000 / 8)) else none)
  else if 0x3000000 ≤ o ∧ o < 0x5000000 then
    (if b.guestUp pa then some ((Config.guestReg ((o - 0x3000000) / 0x1000000) (o % 0x1000000)).toNat % 2 ^ (8 * n)) else none)
  else none

/-- A store to a register region of class ACKED: none for an access fault. -/
def Block.devStore (b : Block) (pa n : Nat) (v : W64) : Option Block :=
  let o := pa - 0x4000000000000
  if pa % n ≠ 0 then none
  else if 0x600000 ≤ o ∧ o < 0x608000 then (if n = 8 then b.mailStore ((o - 0x600000) / 0x2000) (o % 0x2000) v else none)
  else if 0x800000 ≤ o ∧ o < 0x808000 then (if n = 4 then some (b.aplicStore (decide (0x804000 ≤ o)) (o % 0x4000) (v.toNat % 2 ^ 32)) else none)
  else if 0x900000 ≤ o ∧ o < 0x908000 then
    (if n = 8 then some (if o % 0x1000 = 0 then b.perfStore ((o - 0x900000) / 0x1000) v else b) else none)
  else if 0x1000000 ≤ o ∧ o < 0x1090000 then
    (if n = 8 ∧ o % 0x10000 < 0x400 then b.slotStore ((o - 0x1000000) / 0x10000) (o % 0x10000 / 0x40) (o % 0x40 / 8) v else none)
  else if 0x2000000 ≤ o ∧ o < 0x2020000 then
    (if n = 8 ∧ o % 0x10000 < 0x80 then some (b.portRegWrite ((o - 0x2000000) / 0x10000) (o % 0x10000 / 8) v.toNat) else none)
  else if 0x3000000 ≤ o ∧ o < 0x5000000 then (if b.guestUp pa then some b else none)
  else none

/-- POSTED_WRITE_PERFORM (R243). -/
def execPostedWritePerform (hart : Nat) (s : State) : Host.Outcome State Fault Refusal :=
  s.run (fun b => b.postedPerform hart)

/-- DEVICE_TIMEOUT: a register access has not been performed within 1 ms. The oldest posted write is discarded; an ACKED access
of the hart, a store or a load, gives an access fault; the event names the address (R243). -/
def execDeviceTimeout (access : LateAccess) (s : State) : Host.Outcome State Fault Refusal :=
  s.run (fun b =>
    match access with
    | .acked hart pa store =>
      b.onHart hart (fun c => (c.trap hart (if store then cStoreFault else cLoadFault) pa).raise unitModule .deviceTimeout [hart, pa])
    | .posted hart =>
      match (b.hart hart).posted with
      | [] => b
      | (pa, _, _) :: t => (b.updHart hart (fun x => { x with posted := t })).raise unitModule .deviceTimeout [hart, pa])

/-- INTERRUPT_WRITE: a write of a sender into the IMSIC region: a 4-byte write to a file delivers, any other of a non-hart
sender is discarded with DEVICE_WRITE_LOST (R284, R286, R288). -/
def execInterruptWrite (pa size : Nat) (v : W32) (fromHart : Bool) (s : State) : Host.Outcome State Fault Refusal :=
  s.run (fun b =>
    if !b.tray.rails then b
    else if size = 4 ∧ isFile pa then b.msi pa v.toNat .deviceWriteLost [pa]
    else if fromHart then b else b.raise unitModule .deviceWriteLost [pa])

/-! ### Main memory (R238, R275, R276, R396, R402) -/

/-- What a hart's load answers. -/
inductive KRes where
  /-- the access waits, its request queued at a BUSY line or a held channel (R32, R255) -/
  | wait (b : Block)
  /-- an access fault -/
  | fault
  /-- poison at this physical address -/
  | poison (b : Block) (pa : Nat)
  /-- the value -/
  | ok (b : Block) (v : Nat)

/-- A load of n bytes within one line; an NC access is RD_ONCE at the home (R275). -/
def Block.kLoadIn (b : Block) (h pa n : Nat) (nc : Bool := false) : KRes :=
  match b.dom pa with
  | none => .fault
  | some a =>
    match if nc then (b.readOnce (a / 64)).mapError (fun e => (e, b)) else b.loadLine (kAgent h) (a / 64) with
    | .error (.wait, c) => .wait c
    | .error _ => .fault
    | .ok (c, v, p) => if p then .poison c pa else .ok c (fld v (8 * (a % 64)) (8 * n))
/-- A load of main memory; one that crosses a line is made of its two parts (R276). -/
def Block.kLoad (b : Block) (h pa n : Nat) (nc : Bool := false) : KRes :=
  let m := 64 - pa % 64
  if n ≤ m then b.kLoadIn h pa n nc
  else
    match b.kLoadIn h pa m nc with
    | .ok c lo =>
      (match c.kLoadIn h (pa + m) (n - m) nc with
       | .ok d hi => .ok d (lo + hi * 2 ^ (8 * m))
       | r => r)
    | r => r

/-- The event of a store that is discarded, and the interrupt to KeeperErrorTarget (R402). -/
def Block.storeLost (b : Block) (h pa : Nat) (e : Ev) : Block :=
  let c := b.raise (unitCluster (h / 16)) e [h, pa]
  if c.errors.targetAddr = 0 then c else c.msi c.errors.targetAddr c.errors.targetId .deviceWriteLost [c.errors.targetAddr]

/-- A store of n bytes within one line; `error` where it waits, its request queued. One that the home refuses is discarded (R402);
an NC access is WR_PART at the home (R275). -/
def Block.kStoreIn (b : Block) (h pa n v : Nat) (nc : Bool := false) : Except Block Block :=
  match b.dom pa with
  | none => .ok (b.storeLost h pa .unmappedAccess)
  | some a =>
    match if nc then b.write (a / 64) (byteMask (a % 64) n) (linePut 0 (a % 64) n v) false
          else b.storeLine (kAgent h) (a / 64) (byteMask (a % 64) n) (linePut 0 (a % 64) n v) (· == h) with
    | .ok c => .ok c
    | .error (.wait, c) => .error c
    | .error (.failed, c) => .ok (c.storeLost h pa .failedBerthWrite)
    | .error (_, c) => .ok (c.storeLost h pa .unmappedAccess)
/-- A store to main memory; one that crosses a line is made of its two parts (R276). -/
def Block.kStore (b : Block) (h pa n v : Nat) (nc : Bool := false) : Except Block Block :=
  let m := 64 - pa % 64
  if n ≤ m then b.kStoreIn h pa n v nc
  else
    match b.kStoreIn h pa m (v % 2 ^ (8 * m)) nc with
    | .ok c => c.kStoreIn h (pa + m) (n - m) (v / 2 ^ (8 * m)) nc
    | .error c => .error c

/-- A hart consumes poison: hardware error, POISON_CONSUMED (R396, R412). -/
def Block.kPoison (b : Block) (h pa : Nat) : Block :=
  (({ b with errors := { b.errors with consumed := tinc b.errors.consumed 2 1 } }).raise (unitCluster (h / 16)) .poisonConsumed [h, pa]).trap
    h cHardware pa

/-- A value of n bytes as a register takes it. -/
def extend (n v : Nat) (signed : Bool) : W64 := if signed then sext n v else BitVec.ofNat 64 v
/-- Access sizes of a hart. -/
def kSize (n : Nat) : Bool := n == 1 || n == 2 || n == 4 || n == 8
/-- Sizes that a load register takes: an integer register 1 to 8 bytes, a floating-point register 2 to 8, a whole vector register
32 (R274; PRESUMED from RVA23, log entry 42). -/
def kFits (rd n : Nat) : Bool := if rd < 32 then kSize n else if rd < 64 then kSize n && n != 1 else decide (rd < 96) && n == 32
/-- A loaded value reaches its register: 0 to 31 an integer register, 32 to 63 a floating-point register, where a narrow value is
NaN-boxed, 64 to 95 a vector register (R274; log entry 42). -/
def Block.putReg (b : Block) (h rd n v : Nat) (signed : Bool) : Block :=
  if rd < 32 then b.setX h rd (extend n v signed)
  else if rd < 64 then
    b.updHart h (fun x => { x with f := tput x.f (rd - 32) (BitVec.ofNat 64 (2 ^ 64 - 2 ^ (8 * n) + v % 2 ^ (8 * n))) })
  else b.updHart h (fun x => { x with v := tput x.v (rd - 64) (BitVec.ofNat 256 v) })

/-- A load of a hart: from a register region, whose posted writes it pushes ahead of it, or from main memory (R243, R275,
R276). -/
def Block.hartLoad (b : Block) (h rd pa n : Nat) (signed : Bool) (nc : Bool := false) : Block :=
  if isDevice pa then
    let c := if pa < imsicEnd then b.postedAll h else b
    match c.devLoad pa n with
    | some v => c.putReg h rd n v signed
    | none => c.trap h cLoadFault pa
  else
    match b.kLoad h pa n nc with
    | .wait c => c
    | .fault => b.trap h cLoadFault pa
    | .poison c p => c.kPoison h p
    | .ok c v => c.putReg h rd n v signed

/-- A store of a hart: POSTED into the IMSIC region, ACKED into the others, or to main memory (R243, R274, R275, R402). -/
def Block.hartStore (b : Block) (h pa n : Nat) (v : W64) (nc : Bool := false) : Block :=
  if 2 ^ 52 ≤ pa then b.trap h cStoreFault pa
  else if isDevice pa then
    if pa < imsicEnd then
      if n = 4 ∧ pa % 4 = 0 then b.updHart h (fun x => { x with posted := x.posted ++ [(pa, 4, BitVec.ofNat 64 (v.toNat % 2 ^ 32))] })
      else b.trap h cStoreFault pa
    else (b.devStore pa n v).getD (b.trap h cStoreFault pa)
  else
    match b.kStore h pa n (v.toNat % 2 ^ (8 * n)) nc with
    | .ok c => c
    | .error c => c

/-- KEEPER_LOAD (R238, R275). -/
def execKeeperLoad (hart rd pa size : Nat) (kind : LoadKind) (s : State) : Host.Outcome State Fault Refusal :=
  s.run (fun b => b.onHart hart (fun c => if kFits rd size then c.hartLoad hart rd pa size kind.signed kind.nc else c))

/-- KEEPER_STORE (R238, R275). -/
def execKeeperStore (hart pa size : Nat) (v : StoreKind) (s : State) : Host.Outcome State Fault Refusal :=
  s.run (fun b => b.onHart hart (fun c => if kSize size then c.hartStore hart pa size v.value v.nc else c))

/-! ### Atomics and reservations (R244, R258, R276) -/

/-- Whether an access of n bytes crosses a 16-byte boundary (R276). -/
def crosses16 (pa n : Nat) : Bool := decide (16 < pa % 16 + n)

/-- The old value of an AMO of `n` bytes: a 16-byte one fills an even register and the next, discarded for x0 (Zacas). -/
def Block.putAmo (b : Block) (h rd n old : Nat) : Block :=
  if n = 16 then
    (if rd = 0 then b else (b.setX h rd (BitVec.ofNat 64 old)).setX h (rd + 1) (BitVec.ofNat 64 (old / 2 ^ 64)))
  else b.setX h rd (extend n old true)

/-- KEEPER_AMO: a far atomic of 4 or 8 bytes at the home, or a compare-and-swap of 16; its old value, a 32-bit one extended by
sign (R258, R274 to R276, R396, R402). -/
def execKeeperAmo (hart rd pa : Nat) (op : AtomOp) (size : Nat) (x cmp : BitVec 128) (s : State) : Host.Outcome State Fault Refusal :=
  s.run (fun b => b.onHart hart (fun c =>
    if size ≠ 4 ∧ size ≠ 8 ∧ ¬(size = 16 ∧ op = .cas ∧ rd % 2 = 0) then c
    else
      match c.dom pa with
      | none => c.trap hart cStoreFault pa
      | some a =>
        if crosses16 pa size then c.trap hart cStoreAlign pa
        else
          match c.atomicAt (a / 64) (a % 64) size op x.toNat cmp.toNat with
          | .error (.wait, _) => c
          | .error (_, d) => d.trap hart cStoreFault pa
          | .ok (d, old, poison) => if poison then d.kPoison hart pa else d.putAmo hart rd size old))

/-- LR: a load that takes the reservation of its granule (R244, R275, R276). -/
def execLr (hart rd pa size : Nat) (s : State) : Host.Outcome State Fault Refusal :=
  s.run (fun b => b.onHart hart (fun c =>
    if size ≠ 4 ∧ size ≠ 8 then c
    else
      match c.dom pa with
      | none => c.trap hart cLoadFault pa
      | some a =>
        if crosses16 pa size then c.trap hart cLoadAlign pa else
        match c.kLoad hart pa size with
        | .wait d => d
        | .fault => c.trap hart cLoadFault pa
        | .poison d p => d.kPoison hart p
        | .ok d v => (d.setX hart rd (extend size v true)).updHart hart (fun y => { y with res := some (a / 64) })))

/-- SC: it succeeds only while the reservation holds its granule, writes 0, else 1; the reservation is lost (R244, R275,
R276). -/
def execSc (hart rd pa size : Nat) (v : W64) (s : State) : Host.Outcome State Fault Refusal :=
  s.run (fun b => b.onHart hart (fun c =>
    if size ≠ 4 ∧ size ≠ 8 then c
    else
      let drop (d : Block) : Block := d.updHart hart (fun y => { y with res := none })
      match c.dom pa with
      | none => c.trap hart cStoreFault pa
      | some a =>
        if crosses16 pa size then c.trap hart cStoreAlign pa
        else if (c.hart hart).res ≠ some (a / 64) then drop (c.setX hart rd 1)
        else
          match c.storeLine (kAgent hart) (a / 64) (byteMask (a % 64) size) (linePut 0 (a % 64) size (v.toNat % 2 ^ (8 * size))) (· == hart) with
          | .ok d => drop (d.setX hart rd 0)
          | .error (.wait, d) => d
          | .error (_, d) => d.trap hart cStoreFault pa))

/-! ### Fences and cache blocks (R242, R277) -/

/-- KEEPER_FENCE: with I or O in its sets it waits until every POSTED write of the hart has reached its target (R242, R243). -/
def execKeeperFence (hart : Nat) (io : Bool) (s : State) : Host.Outcome State Fault Refusal :=
  s.run (fun b => b.onHart hart (fun c => if io then c.postedAll hart else c))

/-- A range operation on one block at its home; it waits on a BUSY line (R263, R277). -/
def Block.cbo (b : Block) (h pa : Nat) (o : RangeOp) : Block :=
  match b.dom pa with
  | none => b.trap h cStoreFault pa
  | some a => if b.rangeWaits o (a / 64) then b else (({ blk := b : RangeAcc }).op o (a / 64)).blk

/-- CBO.CLEAN (R277). -/
def execCboClean (hart pa : Nat) (s : State) : Host.Outcome State Fault Refusal :=
  s.run (fun b => b.onHart hart (fun c => c.cbo hart pa .clean))
/-- CBO.FLUSH (R277). -/
def execCboFlush (hart pa : Nat) (s : State) : Host.Outcome State Fault Refusal :=
  s.run (fun b => b.onHart hart (fun c => c.cbo hart pa .cleanInvalidate))
/-- CBO.INVAL: in M-mode it invalidates; below, the level's envcfg CBIE selects: 1 a flush, 3 the invalidation, else an
illegal-instruction or virtual-instruction exception (R277; CBIE's values PRESUMED from Zicbom, log entry 81). -/
def execCboInval (hart : HartLevel) (pa : Nat) (s : State) : Host.Outcome State Fault Refusal :=
  s.run (fun b => b.onHart hart.hart (fun c =>
    if hart.priv = .m ∨ hart.cbie = 3 then c.cbo hart.hart pa .invalidate
    else if hart.cbie = 1 then c.cbo hart.hart pa .cleanInvalidate
    else c.trap hart.hart (if hart.priv = .vs ∨ hart.priv = .vu then cVirtual else cIllegal) 0))
/-- CBO.ZERO: WR_LINE of zeros (R277, R402). -/
def execCboZero (hart pa : Nat) (s : State) : Host.Outcome State Fault Refusal :=
  s.run (fun b => b.onHart hart (fun c =>
    match c.dom pa with
    | none => c.trap hart cStoreFault pa
    | some a =>
      match c.write (a / 64) 0xFFFFFFFFFFFFFFFF#64 0 false with
      | .ok d => d
      | .error (.wait, _) => c
      | .error (.failed, d) => d.storeLost hart pa .failedBerthWrite
      | .error (_, d) => d.storeLost hart pa .unmappedAccess))

/-! ### Waits on lines (R287) -/

/-- Whether an interrupt is pending in any file of a hart. -/
def Block.irqPending (b : Block) (h : Nat) : Bool :=
  b.imsic.any (fun (e : Nat × List Nat) => e.2 != [] && fileHart (imsicBase + e.1 * 0x1000) == h)
/-- A WRS stalls the hart while its reservation stands and no interrupt is pending. -/
def Block.wrsStall (b : Block) (h : Nat) (w : Wrs) : Block :=
  if (b.hart h).res = none ∨ b.irqPending h then b else b.updHart h (fun x => { x with wrs := w })

/-- WRS.NTO, with the trap that mstatus.TW (some false) or hstatus.VTW (some true) makes of it (R287). -/
def execWrsNto (hart : Nat) (traps : Option Bool) (s : State) : Host.Outcome State Fault Refusal :=
  s.run (fun b => b.onHart hart (fun c => c.wrsStall hart (match traps with | none => .nto | some v => .ntoTrap v)))
/-- WRS.STO (R287). -/
def execWrsSto (hart : Nat) (s : State) : Host.Outcome State Fault Refusal :=
  s.run (fun b => b.onHart hart (fun c => c.wrsStall hart .sto))
/-- WRS_TIMEOUT: 1 µs of WRS.STO have passed, or 50 µs of a WRS.NTO that traps (R287). -/
def execWrsTimeout (hart : Nat) (s : State) : Host.Outcome State Fault Refusal :=
  s.run (fun b =>
    match (b.hart hart).wrs with
    | .sto => b.updHart hart (fun x => { x with wrs := .none })
    | .ntoTrap v => b.trap hart (if v then cVirtual else cIllegal) 0
    | _ => b)

/-! ### Xgsv (R279 to R283) -/

/-- An Xgsv word of one function: another word is not this command; funct3 from 4 to 7 is illegal (R279). -/
def Block.xgsv (b : Block) (h : Nat) (w : W32) (f3 : Nat) (rsvZero : Bool) (body : Block → Block) : Block :=
  b.onHart h (fun c =>
    if fld w 0 7 ≠ 0x0B then c
    else if 4 ≤ fld w 12 3 then c.trap h cIllegal w.toNat
    else if fld w 12 3 ≠ f3 then c
    else if rsvZero then body c else c.trap h cIllegal w.toNat)

/-- GSV.FENCE: it orders PRED ahead of SUCC for its scope; with O in PRED it waits for the hart's POSTED writes; I or O with
another scope than SYSTEM is illegal (R242, R280). -/
def execGsvFence (hart : Nat) (_priv : Priv) (w : W32) (s : State) : Host.Outcome State Fault Refusal :=
  s.run (fun b => b.xgsv hart w 0 (fld w 7 5 == 0 && fld w 15 5 == 0 && fld w 22 2 == 0 && fld w 20 2 != 3) (fun c =>
    let io := bit w 26 || bit w 27 || bit w 30 || bit w 31
    if io ∧ fld w 20 2 ≠ 2 then c.trap hart cIllegal w.toNat
    else if bit w 30 ∧ fld w 24 4 ≠ 0 then c.postedAll hart else c))

/-- GSV.LD.AQ: a load-acquire of SIZE bytes, naturally aligned (R281). -/
def execGsvLdAq (hart : Nat) (_priv : Priv) (w : W32) (s : State) : Host.Outcome State Fault Refusal :=
  s.run (fun b => b.xgsv hart w 1 (fld w 20 5 == 0 && fld w 28 4 == 0) (fun c =>
    let pa := (c.kreg hart (fld w 15 5)).toNat; let n := 2 ^ fld w 25 2
    if pa % n ≠ 0 then c.trap hart cLoadAlign pa else c.hartLoad hart (fld w 7 5) pa n (!bit w 27)))

/-- GSV.SD.RL: a store-release of SIZE bytes, naturally aligned (R281). -/
def execGsvSdRl (hart : Nat) (_priv : Priv) (w : W32) (s : State) : Host.Outcome State Fault Refusal :=
  s.run (fun b => b.xgsv hart w 2 (fld w 7 5 == 0 && fld w 27 5 == 0) (fun c =>
    let pa := (c.kreg hart (fld w 15 5)).toNat; let n := 2 ^ fld w 25 2
    if pa % n ≠ 0 then c.trap hart cStoreAlign pa else c.hartStore hart pa n (c.kreg hart (fld w 20 5))))

/-- The bits of a CSR that a write keeps: gsvrcw [51:3], gsvrtok [31:0] (R282). -/
def gsvMask (csr : Nat) : W64 := if csr = 0x5C0 then 0xFFFFFFFFFFFF8 else 0xFFFFFFFF
/-- Reads gsvrcw or gsvrtok. -/
def Block.gsvCsr (b : Block) (h csr : Nat) : W64 := if csr = 0x5C0 then (b.hart h).gsvrcw else (b.hart h).gsvrtok.setWidth 64
/-- Writes gsvrcw or gsvrtok; reserved bits are discarded (R15, R282). -/
def Block.setGsvCsr (b : Block) (h csr : Nat) (v : W64) : Block :=
  if csr = 0x5C0 then b.updHart h (fun x => { x with gsvrcw := v &&& gsvMask csr })
  else b.updHart h (fun x => { x with gsvrtok := (v &&& gsvMask csr).setWidth 32 })
/-- A CSR instruction of a hart that names gsvrcw, gsvrtok or mhartid, with its privileges (R271, R282, R283; its encoding and
that of mhartid PRESUMED from RISC-V, log entry 42). -/
def Block.csrAccess (b : Block) (h : Nat) (priv : Priv) (w : W32) : Block :=
  let csr := fld w 20 12; let f3 := fld w 12 3; let rs := fld w 15 5; let rd := fld w 7 5
  let writes := f3 % 4 = 1 ∨ rs ≠ 0
  if f3 % 4 = 0 then b
  else if csr = 0xF14 then
    if priv ≠ .m ∨ writes then b.trap h cIllegal w.toNat else b.setX h rd (BitVec.ofNat 64 h)
  else if csr ≠ 0x5C0 ∧ csr ≠ 0x5C1 then b
  else
    match priv with
    | .u => b.trap h cIllegal w.toNat
    | .vs => b.trap h cVirtual w.toNat
    | .vu => b.trap h cVirtual w.toNat
    | _ =>
      let old := b.gsvCsr h csr
      let x : W64 := if 4 ≤ f3 then BitVec.ofNat 64 rs else b.kreg h rs
      let new := if f3 % 4 = 1 then x else if f3 % 4 = 2 then old ||| x else old &&& ~~~x
      (if writes then b.setGsvCsr h csr new else b).setX h rd old

/-- GSV.RANGE: a range command of the hart to the engine of T4, in M-mode and HS-mode. A word of the SYSTEM opcode is a CSR instruction
on the registers that GSV.RANGE takes its completion word and token from (R282, R283). -/
def execGsvRange (hart : Nat) (priv : Priv) (w : W32) (s : State) : Host.Outcome State Fault Refusal :=
  s.run (fun b => if fld w 0 7 = 0x73 then b.onHart hart (fun c => c.csrAccess hart priv w) else
    b.xgsv hart w 3 (fld w 27 5 == 0 && fld w 25 2 != 0) (fun c =>
    match priv with
    | .u => c.trap hart cIllegal w.toNat
    | .vs => c.trap hart cVirtual w.toNat
    | .vu => c.trap hart cVirtual w.toNat
    | _ =>
      match rangeOpOf (fld w 25 2) with
      | none => c.trap hart cIllegal w.toNat
      | some op =>
        let base := (c.kreg hart (fld w 15 5)).toNat; let len := (c.kreg hart (fld w 20 5)).toNat
        let comp := fld (c.hart hart).gsvrcw 3 49 * 8
        let rd := fld w 7 5
        if !c.rangeGood base len ∨ !c.wordGood comp then c.setX hart rd 2
        else if 32 ≤ ((c.tile 4).asks.filter (fun (a : RangeAsk) => a.slot == none)).length then c.setX hart rd 1
        else
          let ask : RangeAsk :=
            { slot := none, op := op, base := base, length := len, completion := comp, token := (c.hart hart).gsvrtok.toNat }
          (c.updTile 4 (fun z => { z with asks := z.asks ++ [ask] })).setX hart rd 0))

end Sys2Proof.Machine
end

