-- ==== Sys2Proof/Machine/Scalar.lean ====
section
/-! DEFINITION. Control, integer and FP32 scalar instructions (05 R123 to R125), and words whose OPCODE is not listed
(R116). -/

namespace Sys2Proof.Machine

/-- An instruction that writes one general register and goes on. -/
def Block.writesD (b : Block) (k : Nat) (w : W64) (v : Hw → W64) : Block := (b.setG k (rD w) (v (b.hw k))).advance k

/-- A control instruction: bits [31:18] are reserved, and `unused` names the operand fields it does not use (R123). -/
def Block.control (b : Block) (l h : Nat) (w : W64) (op : Nat) (unused : Bool) (body : Block → Block) : Block :=
  b.issue l h w op false (fld w 18 14 != 0 || unused) body

/-- A conditional branch (R123). -/
def Block.branch (b : Block) (l h : Nat) (w : W64) (op : Nat) (cond : W64 → W64 → Bool) : Block :=
  b.control l h w op false (fun c =>
    let k := hwNo l h; let x := c.hw k
    if cond (x.reg (rD w)) (x.reg (rA w)) then c.goto k (target x.pc w) else c.advance k)

/-- An integer function of gA and operand B (R124). -/
def Block.integer (b : Block) (l h : Nat) (w : W64) (op : Nat) (f : W64 → W64 → W64) : Block :=
  b.issue l h w op false (intRsv w) (fun c => c.writesD (hwNo l h) w (fun x => f (x.reg (rA w)) (opB x w)))

/-- Bits [31:0] of a register. -/
def low32 (v : W64) : W32 := v.setWidth 32
/-- A zero-extended FP32 result. -/
def wide (v : W32) : W64 := v.setWidth 64

/-- An FP32 function of gA and operand B (R125). -/
def Block.float (b : Block) (l h : Nat) (w : W64) (op : Nat) (f : W32 → W32 → W64) : Block :=
  b.issue l h w op false (intRsv w) (fun c => c.writesD (hwNo l h) w (fun x => f (low32 (x.reg (rA w))) (low32 (opB x w))))

/-- A function of gA alone (R125). -/
def Block.unary (b : Block) (l h : Nat) (w : W64) (op : Nat) (f : W64 → W64) : Block :=
  b.issue l h w op false (unaryRsv w) (fun c => c.writesD (hwNo l h) w (fun x => f (x.reg (rA w))))

/-- A 0 or 1 result. -/
def flag (p : Bool) : W64 := if p then 1 else 0

/-- NOP does nothing (R123). -/
def execNop (l h : Nat) (w : W64) (s : State) : Host.Outcome State Fault Refusal :=
  s.run (fun b => b.control l h w 0x00 (fld w 8 10 != 0 || fld w 32 32 != 0) (fun c => c.advance (hwNo l h)))

/-- END finishes the program; the lantern joins with OK once its tallies are zero (R123). -/
def execEndProg (l h : Nat) (w : W64) (s : State) : Host.Outcome State Fault Refusal :=
  s.run (fun b => b.control l h w 0x01 (fld w 8 10 != 0 || fld w 32 32 != 0) (fun c => c.endReq (hwNo l h) 0 0))

/-- RAISE ends the request with EXCEPTION and DETAIL 0x8000 + OFF[14:0]; OFF[31:15] must be zero (R123). -/
def execRaise (l h : Nat) (w : W64) (s : State) : Host.Outcome State Fault Refusal :=
  s.run (fun b => b.control l h w 0x02 (fld w 8 10 != 0 || fld w 47 17 != 0) (fun c => c.exc (hwNo l h) (0x8000 + fld w 32 15)))

/-- J jumps to PC + OFF × 8 (R123). -/
def execJ (l h : Nat) (w : W64) (s : State) : Host.Outcome State Fault Refusal :=
  s.run (fun b => b.control l h w 0x03 (fld w 8 10 != 0) (fun c => c.goto (hwNo l h) (target (c.hw (hwNo l h)).pc w)))

/-- JR jumps to gA + OFF × 8, modulo 2^64; a bad target faults at its fetch (R123). -/
def execJr (l h : Nat) (w : W64) (s : State) : Host.Outcome State Fault Refusal :=
  s.run (fun b => b.control l h w 0x04 (fld w 13 5 != 0) (fun c => c.goto (hwNo l h) ((c.hw (hwNo l h)).reg (rD w) + imm32 w * 8).toNat))

/-- CALL writes PC + 8 into gA and jumps to PC + OFF × 8 (R123). -/
def execCall (l h : Nat) (w : W64) (s : State) : Host.Outcome State Fault Refusal :=
  s.run (fun b => b.control l h w 0x05 (fld w 13 5 != 0) (fun c =>
    let k := hwNo l h; let pc := (c.hw k).pc
    (c.setG k (rD w) (BitVec.ofNat 64 (pc + 8))).goto k (target pc w)))

/-- BR branches when gA equals gB (R123). -/
def execBrEq (l h : Nat) (w : W64) (s : State) : Host.Outcome State Fault Refusal :=
  s.run (fun b => b.branch l h w 0x06 (fun x y => x == y))

/-- BR branches when gA differs from gB (R123). -/
def execBrNe (l h : Nat) (w : W64) (s : State) : Host.Outcome State Fault Refusal :=
  s.run (fun b => b.branch l h w 0x07 (fun x y => x != y))

/-- BR branches when gA is less than, signed, gB (R123). -/
def execBrLt (l h : Nat) (w : W64) (s : State) : Host.Outcome State Fault Refusal :=
  s.run (fun b => b.branch l h w 0x08 (fun x y => x.slt y))

/-- BR branches when gA is at least, signed, gB (R123). -/
def execBrGe (l h : Nat) (w : W64) (s : State) : Host.Outcome State Fault Refusal :=
  s.run (fun b => b.branch l h w 0x09 (fun x y => !x.slt y))

/-- BR branches when gA is less than, unsigned, gB (R123). -/
def execBrLtu (l h : Nat) (w : W64) (s : State) : Host.Outcome State Fault Refusal :=
  s.run (fun b => b.branch l h w 0x0A (fun x y => x.ult y))

/-- BR branches when gA is at least, unsigned, gB (R123). -/
def execBrGeu (l h : Nat) (w : W64) (s : State) : Host.Outcome State Fault Refusal :=
  s.run (fun b => b.branch l h w 0x0B (fun x y => !x.ult y))

/-- LOOP subtracts 1 from gA and branches if the result is nonzero (R123). -/
def execLoop (l h : Nat) (w : W64) (s : State) : Host.Outcome State Fault Refusal :=
  s.run (fun b => b.control l h w 0x0C (fld w 13 5 != 0) (fun c =>
    let k := hwNo l h; let v := (c.hw k).reg (rD w) - 1; let d := c.setG k (rD w) v
    if v = 0 then d.advance k else d.goto k (target (c.hw k).pc w)))

/-- ADD: addition (R124). -/
def execAdd (l h : Nat) (w : W64) (s : State) : Host.Outcome State Fault Refusal :=
  s.run (fun b => b.integer l h w 0x10 (fun x y => x + y))

/-- SUB: subtraction (R124). -/
def execSub (l h : Nat) (w : W64) (s : State) : Host.Outcome State Fault Refusal :=
  s.run (fun b => b.integer l h w 0x11 (fun x y => x - y))

/-- AND: bitwise and (R124). -/
def execAnd (l h : Nat) (w : W64) (s : State) : Host.Outcome State Fault Refusal :=
  s.run (fun b => b.integer l h w 0x12 (fun x y => x &&& y))

/-- OR: bitwise or (R124). -/
def execOr (l h : Nat) (w : W64) (s : State) : Host.Outcome State Fault Refusal :=
  s.run (fun b => b.integer l h w 0x13 (fun x y => x ||| y))

/-- XOR: bitwise exclusive or (R124). -/
def execXor (l h : Nat) (w : W64) (s : State) : Host.Outcome State Fault Refusal :=
  s.run (fun b => b.integer l h w 0x14 (fun x y => x ^^^ y))

/-- SHL: shift left by operand B[5:0] (R124). -/
def execShl (l h : Nat) (w : W64) (s : State) : Host.Outcome State Fault Refusal :=
  s.run (fun b => b.integer l h w 0x15 (fun x y => x <<< (y.toNat % 64)))

/-- SHR: logical shift right by operand B[5:0] (R124). -/
def execShr (l h : Nat) (w : W64) (s : State) : Host.Outcome State Fault Refusal :=
  s.run (fun b => b.integer l h w 0x16 (fun x y => x >>> (y.toNat % 64)))

/-- SRA: arithmetic shift right by operand B[5:0] (R124). -/
def execSra (l h : Nat) (w : W64) (s : State) : Host.Outcome State Fault Refusal :=
  s.run (fun b => b.integer l h w 0x17 (fun x y => x.sshiftRight (y.toNat % 64)))

/-- MUL: low 64 bits of the product (R124). -/
def execMul (l h : Nat) (w : W64) (s : State) : Host.Outcome State Fault Refusal :=
  s.run (fun b => b.integer l h w 0x18 (fun x y => x * y))

/-- MULHU: high 64 bits of the unsigned product (R124). -/
def execMulhu (l h : Nat) (w : W64) (s : State) : Host.Outcome State Fault Refusal :=
  s.run (fun b => b.integer l h w 0x19 (fun x y => BitVec.ofNat 64 (x.toNat * y.toNat / 2 ^ 64)))

/-- DIVU: unsigned quotient, all ones on division by zero (R124). -/
def execDivu (l h : Nat) (w : W64) (s : State) : Host.Outcome State Fault Refusal :=
  s.run (fun b => b.integer l h w 0x1A (fun x y => if y = 0 then 0xFFFFFFFFFFFFFFFF#64 else x / y))

/-- REMU: unsigned remainder, gA on division by zero (R124). -/
def execRemu (l h : Nat) (w : W64) (s : State) : Host.Outcome State Fault Refusal :=
  s.run (fun b => b.integer l h w 0x1B (fun x y => if y = 0 then x else x % y))

/-- SLT: signed comparison (R124). -/
def execSlt (l h : Nat) (w : W64) (s : State) : Host.Outcome State Fault Refusal :=
  s.run (fun b => b.integer l h w 0x1C (fun x y => flag (x.slt y)))

/-- SLTU: unsigned comparison (R124). -/
def execSltu (l h : Nat) (w : W64) (s : State) : Host.Outcome State Fault Refusal :=
  s.run (fun b => b.integer l h w 0x1D (fun x y => flag (x.ult y)))

/-- LIH: gA[31:0] plus IMM32 in the upper half; IMM 0 is ILLEGAL, gB must be zero (R124). -/
def execLih (l h : Nat) (w : W64) (s : State) : Host.Outcome State Fault Refusal :=
  s.run (fun b => b.issue l h w 0x1E (!bit w 23) (fld w 24 8 != 0 || fld w 18 5 != 0) (fun c =>
    c.writesD (hwNo l h) w (fun x => wide (low32 (x.reg (rA w))) + BitVec.ofNat 64 (fld w 32 32 * 2 ^ 32))))

/-- MAXU: unsigned maximum (R124). -/
def execMaxu (l h : Nat) (w : W64) (s : State) : Host.Outcome State Fault Refusal :=
  s.run (fun b => b.integer l h w 0x1F (fun x y => if x.ult y then y else x))

/-- FADD: add_fp32 (R125). -/
def execFadd (l h : Nat) (w : W64) (s : State) : Host.Outcome State Fault Refusal :=
  s.run (fun b => b.float l h w 0x20 (fun x y => wide (add32 x y)))

/-- FSUB: subtraction (R125). -/
def execFsub (l h : Nat) (w : W64) (s : State) : Host.Outcome State Fault Refusal :=
  s.run (fun b => b.float l h w 0x21 (fun x y => wide (sub32 x y)))

/-- FMUL: mul_fp32 (R125). -/
def execFmul (l h : Nat) (w : W64) (s : State) : Host.Outcome State Fault Refusal :=
  s.run (fun b => b.float l h w 0x22 (fun x y => wide (mul32 x y)))

/-- FDIV: div_fp32 (R125). -/
def execFdiv (l h : Nat) (w : W64) (s : State) : Host.Outcome State Fault Refusal :=
  s.run (fun b => b.float l h w 0x23 (fun x y => wide (div32 x y)))

/-- FSQRT: sqrt_fp32 of gA (R125). -/
def execFsqrt (l h : Nat) (w : W64) (s : State) : Host.Outcome State Fault Refusal :=
  s.run (fun b => b.unary l h w 0x24 (fun x => wide (sqrt32 (low32 x))))

/-- FMA: fma_fp32(gA, operand B, gD) into gD (R125). -/
def execFma (l h : Nat) (w : W64) (s : State) : Host.Outcome State Fault Refusal :=
  s.run (fun b => b.issue l h w 0x25 false (intRsv w) (fun c =>
    c.writesD (hwNo l h) w (fun x => wide (fma32 (low32 (x.reg (rA w))) (low32 (opB x w)) (low32 (x.reg (rD w)))))))

/-- FMIN: minimum, the other operand where exactly one is a NaN, −0 below +0 (R125). -/
def execFmin (l h : Nat) (w : W64) (s : State) : Host.Outcome State Fault Refusal :=
  s.run (fun b => b.float l h w 0x26 (fun x y => wide (min32 x y)))

/-- FMAX: maximum, the other operand where exactly one is a NaN, −0 below +0 (R125). -/
def execFmax (l h : Nat) (w : W64) (s : State) : Host.Outcome State Fault Refusal :=
  s.run (fun b => b.float l h w 0x27 (fun x y => wide (max32 x y)))

/-- FCVT.F.I: signed 64-bit integer to FP32, to nearest even (R125). -/
def execFcvtFI (l h : Nat) (w : W64) (s : State) : Host.Outcome State Fault Refusal :=
  s.run (fun b => b.unary l h w 0x28 (fun x => wide (cvtFI x)))

/-- FCVT.I.F: FP32 to a signed 64-bit integer, saturating, 0 for a NaN (R125). -/
def execFcvtIF (l h : Nat) (w : W64) (s : State) : Host.Outcome State Fault Refusal :=
  s.run (fun b => b.unary l h w 0x29 (fun x => cvtIF (low32 x)))

/-- FLT: 1 where gA is less, 0 on a NaN (R125). -/
def execFlt (l h : Nat) (w : W64) (s : State) : Host.Outcome State Fault Refusal :=
  s.run (fun b => b.float l h w 0x2A (fun x y => flag (lt32 x y)))

/-- FEQ: 1 where equal, 0 on a NaN (R125). -/
def execFeq (l h : Nat) (w : W64) (s : State) : Host.Outcome State Fault Refusal :=
  s.run (fun b => b.float l h w 0x2B (fun x y => flag (eq32 x y)))

/-- TSCALE: the scale of R74 from the amax in gA for the format in IMM32[3:0]; IMM 0 is ILLEGAL, a reserved code raises
BAD_FORMAT (R125). -/
def execTscale (l h : Nat) (w : W64) (s : State) : Host.Outcome State Fault Refusal :=
  s.run (fun b => b.issue l h w 0x2C (!bit w 23) (fld w 24 8 != 0 || fld w 18 5 != 0 || fld w 36 28 != 0) (fun c =>
    let k := hwNo l h
    if fld w 32 4 ≥ 10 then c.exc k 0x02
    else c.writesD k w (fun x => wide (tensorScale (fld w 32 4) (low32 (x.reg (rA w)))))))

/-- A word whose OPCODE is not listed raises ILLEGAL (R116). -/
def execIllegal (l h : Nat) (w : W64) (s : State) : Host.Outcome State Fault Refusal :=
  s.run (fun b => b.fetch l h (fun c v =>
    if v = w ∧ !listedOpcodes.contains (fld w 0 8) then c.exc (hwNo l h) 1 else b))

end Sys2Proof.Machine
end

