-- ==== Sys2Proof/Machine/Silent.lean ====
section
/-! DEFINITION. Silent errors and test: the off-watch rotation, in-service scans, bearing checks, service states (19 R413 to
R428). -/

namespace Sys2Proof.Machine

/-- SEQ that the next event will get: the mark of a scan that passes now (R371, R429). -/
def Block.seqNow (b : Block) : Nat := b.events.next + b.events.pend.length

/-- A scan passed or failed: its mark, or SCAN_FAIL with the mark of the last one that passed (R417). The key is a site,
0x200 + cluster, 0x300 + tile, or 0x400 + 4 × sinker + engine. -/
def Block.scanResult (b : Block) (unit key : Nat) (pass : Bool) : Block :=
  if pass then b.updSilent (fun x => { x with lastPass := tput x.lastPass key b.seqNow })
  else b.raise unit .scanFail [key, tget 0 b.silent.lastPass key]

/-! ### Off-watch rotation (R414, R415) -/

/-- Whether a lantern takes part in the rotation (R414). -/
def Block.onWatch (b : Block) (l : Nat) : Bool := (b.lantern l).loss == .alive && !b.outOfService l

/-- The lantern whose slot falls due: the head of the order first, then ascending after the last one (R414). -/
def Block.watchPick (b : Block) : Option Nat :=
  (b.silent.head.find? b.onWatch).or (((List.range 64).map (fun i => (b.silent.next + i) % 64)).find? b.onWatch)

/-- A slot leaves a lantern where it is (R414, R415). -/
def Block.watchSkip (b : Block) (l : Nat) : Block :=
  (b.updSilent (fun x => { x with skipped := tinc x.skipped l 1 })).raise (unitLantern l) .offwatchSkipped [l]

/-- OFFWATCH_SLOT: a slot falls due while the module is IN SERVICE: the lantern and its tile's spare are chosen, and the drain
begins; one that is not eligible is passed over (R414, R415, R428). -/
def execOffwatchSlot (s : State) : Host.Outcome State Fault Refusal :=
  s.run (fun b =>
    if b.silent.svc ≠ .inService ∨ b.start.level ≠ .lit ∨ b.cfg 0x61000010 24 = 0 ∨ b.silent.watch ≠ .idle ∨ b.tray.sf0Failed then b
    else
      match b.watchPick with
      | none => b
      | some l =>
        let fromHead := b.silent.head.contains l
        let c := b.updSilent (fun x => { x with
          head := x.head.filter (· != l), next := if fromHead then x.next else (l + 1) % 64 })
        let waits := (List.range 64).any (fun m =>
          lampTile m == lampTile l && ((c.lantern m).relightWaits || (c.lantern m).promoteTo.isSome))
        match c.spareSite (lampTile l) with
        | some sp => if waits then c.watchSkip l else c.updSilent (fun x => { x with watch := .drain l sp })
        | none => c.watchSkip l)

/-- OFFWATCH_DRAIN_LIMIT: the drain has reached its limit: the step is abandoned and the lantern stays at the head of the order
(R415). -/
def execOffwatchDrainLimit (s : State) : Host.Outcome State Fault Refusal :=
  s.run (fun b =>
    match b.silent.watch with
    | .drain l _ =>
      (b.updSilent (fun x => { x with watch := .idle, head := l :: x.head.filter (· != l) })).watchSkip l
    | _ => b)

/-- OFFWATCH_SWAP: the lantern has drained: its dirty lines are written back, the spare takes its number, the vectors are loaded
and checked, and the old site is scanned (R97, R415). -/
def execOffwatchSwap (vectorsOk : Bool) (s : State) : Host.Outcome State Fault Refusal :=
  s.run (fun b =>
    match b.silent.watch with
    | .drain l sp =>
      if !b.quiet l then b
      else if b.spareSite (lampTile l) ≠ some sp ∨ !b.onWatch l then (b.updSilent (fun x => { x with watch := .idle })).watchSkip l
      else
        let old := b.siteOf l
        (b.swapTo l (fun c => (((c.reseat l (lampTile l * 16 + sp)).updSilent (fun x => { x with
          spares := tput x.spares (lampTile l) none, watch := .scan l old })).updLantern l (fun x => { x with vectorsBad := !vectorsOk }))))
    | _ => b)

/-- OFFWATCH_SCAN_DONE: the full set has run on the old site: on a pass it is the tile's spare, on a failure it is retired; its
slowdown was read when the scan began (R415, R417, R442). -/
def execOffwatchScanDone (pass : Bool) (slowdown : Nat) (s : State) : Host.Outcome State Fault Refusal :=
  s.run (fun b =>
    match b.silent.watch with
    | .scan l site =>
      let b1 := ({ b with power := { b.power with slowdown := tput b.power.slowdown site slowdown } }).replanSite l site
      let b2 := b1.updSilent (fun x => { x with
        watch := .idle, completed := tinc x.completed l 1
        spares := tput x.spares (site / 16) (if pass then some (site % 16) else none)
        retired := if pass then x.retired else addLast x.retired site })
      (b2.scanResult (unitLantern l) site pass).noteRepair
    | _ => b)

/-! ### Scans of the other dies (R416, R417) -/

/-- SINKER_SCAN: one engine of one sinker die is scanned while the others run; a failing one is retired (R416, R417). -/
def execSinkerScan (k eng : Nat) (pass : Bool) (s : State) : Host.Outcome State Fault Refusal :=
  s.run (fun b =>
    if 16 ≤ k ∨ 4 ≤ eng ∨ b.tray.sf1Failed ∨ (b.sinker k).lost ∨ !(b.sinker k).engines.getLsbD eng ∨ b.start.level ≠ .lit then b
    else
      let c := b.scanResult (unitNo 0x30 k) (0x400 + 4 * k + eng) pass
      if pass then c
      else
        ((c.updSinker k (fun x => { x with engines := x.engines &&& ~~~(BitVec.ofNat 4 (2 ^ eng)) })).raise (unitNo 0x30 k)
          .sinkerEngineRetired [k, eng]).noteRepair)

/-- KEEPER_SCAN: an orderly reset, the scan, and the release of a cluster whose harts the keeper OS has stopped; one that fails is
held in reset (R416, R417). -/
def execKeeperScan (role : Role) (cl : Nat) (pass : Bool) (s : State) : Host.Outcome State Fault Refusal :=
  s.run (fun b => b.cmd role .operator 0x61 (fun c =>
    if 8 ≤ cl then c.refuse .outOfRange
    else if (c.cluster cl).st ≠ .running ∨ !(c.cluster cl).stopped ∨ c.tray.sf1Failed then c.refuse .badState
    else
      let d := c.accept 0x61000021; let n := d.cmds.count
      let e := (((d.drainCluster cl).resetCluster cl).scanResult (unitCluster cl) (0x200 + cl) pass).updSilent (fun x => { x with
        dueClusters := x.dueClusters.filter (· != cl) })
      if pass then e.updCluster cl (fun x => { x with cmd := some (n, 0x61000021) })
      else (e.updCluster cl (fun x => { x with relocking := false })).finishSts 0x61000021 n .badState))

/-- TILE_SCAN: the scan of an outer tile whose domain is empty, under the conditions of a tile reset; one that fails makes the
module suspect (R409, R416, R417, R424). -/
def execTileScan (role : Role) (t : Nat) (pass : Bool) (s : State) : Host.Outcome State Fault Refusal :=
  s.run (fun b => b.cmd role .service 0x61 (fun c =>
    if 9 ≤ t then c.refuse .outOfRange
    else if t = 4 ∨ !c.tileEmpty t ∨ c.tray.sf0Failed then c.refuse .badState
    else
      let d := c.accept 0x61000023; let n := d.cmds.count
      let e := ((d.resetTile t).scanResult (unitTile t) (0x300 + t) pass).updSilent (fun x => { x with
        dueTiles := x.dueTiles.filter (· != t) })
      if pass then e.finishSts 0x61000023 n .ok else (e.suspect .scanFail [t]).finishSts 0x61000023 n .badState))

/-- KEEPER_SCAN_DUE: a cluster has gone its interval without a scan (R416). -/
def execKeeperScanDue (cl : Nat) (s : State) : Host.Outcome State Fault Refusal :=
  s.run (fun b =>
    if 8 ≤ cl ∨ b.silent.dueClusters.contains cl ∨ b.start.level ≠ .lit then b
    else (b.updSilent (fun x => { x with dueClusters := addLast x.dueClusters cl })).raise (unitCluster cl) .keeperScanDue [cl])

/-- TILE_SCAN_DUE: an outer tile has gone its interval without a scan (R416). -/
def execTileScanDue (t : Nat) (s : State) : Host.Outcome State Fault Refusal :=
  s.run (fun b =>
    if 9 ≤ t ∨ t = 4 ∨ b.silent.dueTiles.contains t ∨ b.start.level ≠ .lit then b
    else (b.updSilent (fun x => { x with dueTiles := addLast x.dueTiles t })).raise (unitTile t) .tileScanDue [t])

/-! ### Bearing checks (R419 to R421) -/

/-- Bytes at a virtual address of a context, as a lantern reads them: none while a walk or a line waits; the inner none for a
fault or an error. -/
def Block.readVa (b : Block) (l c va n : Nat) : Option (Option (List Byte)) :=
  (chunksOf va n).foldl (fun (r : Option (Option (List Byte))) (k : Nat × Nat) =>
    match r with
    | some (some bs) =>
      match (b.translate l c (va + k.1) 9 false).2 with
      | .wait => none
      | .fault _ _ => some none
      | .ok pa _ =>
        match b.readAt pa k.2 with
        | .ok v => some (some (bs ++ leBytes k.2 v))
        | .error .wait => none
        | .error _ => some none
    | e => e) (some (some []))

/-- The checksum of packed row bytes, each row padded with zeros to 8 bytes (R176, R420). -/
def rowsSum (rows rb : Nat) (bs : List Byte) : W64 :=
  gfSum (((List.range rows).map (fun r => wordsOf ((bs.drop (r * rb)).take rb))).flatten)

/-- The checksum of one input region, range-mapped in one domain, by that domain's sinker: none while it waits, the inner none
where it cannot be taken (R167, R419, R420). -/
def Block.regionSum (b : Block) (l c base bytes : Nat) : Option (Option W64) :=
  if bytes = 0 then some (some 0)
  else
    match b.regionsXl l c [(base, bytes, 7)] with
    | (_, _, _, true) => none
    | (_, _, _ :: _, false) => some none
    | (b1, xs, [], false) =>
      let dom := match xs with | x :: _ => x.2.2 / 2 ^ 40 | [] => 0
      let o : SinkOp := { id := 0, desc := BitVec.ofNat 512 (dom * 2 * 2 ^ 8), lantern := l, hw := 0, ctx := c, tally := none,
                          group := none, physical := false, xls := xs }
      if 8 ≤ dom ∨ !b1.regionDomain o (base, bytes, 7) then some none
      else
        match b1.sinkRead o base bytes with
        | .ok v => if v.2 then some none else some (some (gfSum (wordsOf v.1)))
        | .error .wait => none
        | .error _ => some none

/-- The checksums of input regions. -/
def Block.regionSums (b : Block) (l c : Nat) (rs : List (Nat × Nat)) : Option (Option (List W64)) :=
  rs.foldl (fun (a : Option (Option (List W64))) (r : Nat × Nat) =>
    match a with
    | some (some ws) =>
      (match b.regionSum l c r.1 r.2 with
       | none => none
       | some none => some none
       | some (some w) => some (some (ws ++ [w])))
    | e => e) (some (some []))

/-- Whether a recipe passes its checks: LEVEL, the reserved fields, NINPUTS, the alignment of RESULT (R419). -/
def recipeOk (r : Line) : Bool :=
  fld r 0 4 == 1 && fld r 4 4 == 0 && fld r 11 53 == 0 && fld r 217 39 == 0 && fld r 320 192 == 0 &&
    decide (fld r 8 3 ≤ 4) && fld r 192 25 % 64 == 0
/-- Whether an entry of INPUTS passes: its reserved bits, whole lines (R167, R419). -/
def inputOk (bs : List Byte) : Bool :=
  let v := leNat bs
  v / 2 ^ 104 == 0 && v / 2 ^ 64 % 64 == 0 && v % 64 == 0

/-- A check whose recipe is bad is dropped, with CHECK_RECIPE_BAD (R419). -/
def Block.badRecipe (b : Block) (x : Check) : Block :=
  (b.dropCheck x.id).raise (unitLantern x.lantern) .checkRecipeBad [x.lantern, x.ctx, x.key.toNat]

/-- The capture of a check (R420 step 1): the tile's checksum and those of its inputs; then the dispatch to a checker. -/
def Block.capture (b : Block) (x : Check) (r : Line) (rs : List (Nat × Nat)) : Block :=
  match b.regionSums x.lantern x.ctx rs with
  | none => b
  | some none => b.badRecipe x
  | some (some sums) =>
    let bs := b.packed (hwNo x.lantern x.hw) x.tile
    if bs.any Prod.snd then b.dropCheck x.id
    else
      let y : Check := { x with
        stage := 1, sum := rowsSum (tdRows x.tile) (tdRowBytes x.tile) (bs.map Prod.fst)
        rowBytes := tdRowBytes x.tile, rows := tdRows x.tile
        inputs := (rs.zip sums).map (fun e => (e.1.1, e.1.2, e.2))
        entry := fld r 64 64, args := fld r 128 64, result := fld r 192 25, site := b.siteOf x.lantern }
      let c : Block := { b with checks := b.checks.map (fun (z : Check) => if z.id = x.id then y else z) }
      let d := (c.boardDel (hwNo x.lantern x.hw) x.id).assignCheck y
      match (d.checks.find? (fun (z : Check) => z.id == x.id)).bind Check.turn with
      | some l => d.takeCheck l
      | none => d

/-- CHECK_CAPTURE: a selected check reads its recipe, its tile and its inputs, and is dispatched to a checker (R419, R420). -/
def execCheckCapture (l id : Nat) (s : State) : Host.Outcome State Fault Refusal :=
  s.run (fun b =>
    match b.checks.find? (fun (x : Check) => x.id == id && x.lantern == l && x.stage == 0) with
    | none => b
    | some x =>
      if x.key.toNat % 64 ≠ 0 then b.badRecipe x
      else
        match b.readVa l x.ctx x.key.toNat 64 with
        | none => b
        | some none => b.badRecipe x
        | some (some bs) =>
          let r := lineOf bs
          if !recipeOk r then b.badRecipe x
          else
            match b.readVa l x.ctx (fld r 256 64) (16 * fld r 8 3) with
            | none => b
            | some none => b.badRecipe x
            | some (some es) =>
              let ents := (List.range (fld r 8 3)).map (fun i => (es.drop (16 * i)).take 16)
              if !ents.all inputOk then b.badRecipe x
              else b.capture x r (ents.map (fun e => (leNat e % 2 ^ 64, leNat e / 2 ^ 64))))

/-- The end of a recompute program on a lantern: one that ends other than OK drops the check; else the checksum of RESULT is
taken (R420). -/
def Block.programEnd (b : Block) (x : Check) (l : Nat) (go : Block → W64 → Block) : Block :=
  match b.checkHw x.id with
  | none => b
  | some k =>
    match (b.hw k).phase with
    | .ended _ _ =>
      let c := b.drainStores l
      if !c.joinReady l (k % 4) then c
      else
        let n := x.rows * x.rowBytes
        let free (d : Block) : Block := d.freeHw l (k % 4)
        if (c.hw k).phase ≠ .ended 0 0 ∨ (c.hw k).share < x.result + n ∨ c.lensBad k x.result n then free (c.dropCheck x.id)
        else go (free c) (rowsSum x.rows x.rowBytes (c.lensBytes k x.result n))
    | _ => b

/-- CHECKER_DONE: an equal checksum is a PASS; on a difference a voter runs the recipe, and with none the check is UNRESOLVED
(R420, R421). -/
def execCheckerDone (id : Nat) (s : State) : Host.Outcome State Fault Refusal :=
  s.run (fun b =>
    match b.checks.find? (fun (x : Check) => x.id == id && x.stage == 1) with
    | none => b
    | some x =>
      b.programEnd x (x.checker.getD 0) (fun c sum =>
        if sum = x.sum then c.verdict id 0
        else
          let y : Check := { x with stage := 2, checkerSum := sum }
          let d := ({ c with checks := c.checks.map (fun (z : Check) => if z.id = id then y else z) }).assignCheck y
          match (d.checks.find? (fun (z : Check) => z.id == id)).bind Check.turn with
          | some l => d.takeCheck l
          | none => d))

/-- A confirmed mismatch: counted, BEARING_MISMATCH with the lanterns, their sites, the context and the checksums, and the module
is suspect (R421, R424). -/
def Block.confirmMismatch (b : Block) (x : Check) (voterSum : W64) : Block :=
  let k := x.checker.getD 0; let v := x.voter.getD 0
  let against : List Nat := if voterSum = x.checkerSum then [x.lantern] else if voterSum = x.sum then [k] else [k, v]
  let args := [x.lantern, k, v, x.site, b.siteOf k, b.siteOf v, x.ctx, x.sum.toNat, x.checkerSum.toNat, voterSum.toNat] ++ against
  ((b.verdict x.id 2).raise (unitLantern (against.headD x.lantern)) .bearingMismatch args).suspect .bearingMismatch args

/-- VOTER_DONE: the inputs are checksummed again, and the voter's result decides the verdict (R420, R421). -/
def execVoterDone (id : Nat) (s : State) : Host.Outcome State Fault Refusal :=
  s.run (fun b =>
    match b.checks.find? (fun (x : Check) => x.id == id && x.stage == 2) with
    | none => b
    | some x =>
      match b.regionSums (x.voter.getD 0) x.ctx (x.inputs.map (fun e => (e.1, e.2.1))) with
      | none => b
      | some again =>
        b.programEnd x (x.voter.getD 0) (fun c sum =>
          if again ≠ some (x.inputs.map (fun e => e.2.2)) then
            (c.verdict id 1).raise (unitLantern x.lantern) .checkInputsChanged [x.ctx, x.lantern]
          else c.confirmMismatch x sum))

/-- CHECK_EXPIRED: a check that has not concluded within CheckWindow is dropped (R420). -/
def execCheckExpired (id : Nat) (s : State) : Host.Outcome State Fault Refusal :=
  s.run (fun b =>
    match b.checks.find? (fun (x : Check) => x.id == id) with
    | none => b
    | some x =>
      ((b.dropCheck id).updSilent (fun y => { y with verdicts := tinc y.verdicts 4 1 })).raise (unitLantern x.lantern) .checkExpired
        [x.lantern, x.ctx])

/-! ### Service states (R424 to R426) -/

/-- ServiceCommand (R424). -/
def objService : Nat := 0x61000031

/-- DRAIN: from IN SERVICE to DRAINING by command, no fault (R424). -/
def execDrain (role : Role) (s : State) : Host.Outcome State Fault Refusal :=
  s.run (fun b => b.cmd role .operator 0x61 (fun c =>
    if c.silent.svc ≠ .inService then c.refuse .badState
    else ((((c.updSilent (fun x => { x with svc := .draining })).raise unitModule .moduleSuspect [7]).setAlert 13).wire 3).done objService 0))

/-- RESUME: a module drained only by DRAIN returns to IN SERVICE (R425). -/
def execResume (role : Role) (s : State) : Host.Outcome State Fault Refusal :=
  s.run (fun b => b.cmd role .operator 0x61 (fun c =>
    if c.silent.svc ≠ .draining ∨ c.silent.fault then c.refuse .badState
    else (((c.updSilent (fun x => { x with svc := .inService })).clearAlert 13).wire 3).done objService 0))

/-- Whether a hardware context runs a request of a queue, not a bearing check, and its program is not over. -/
def Hw.runsRequest (w : Hw) : Bool :=
  w.check.isNone && (match w.phase with | .free => false | .ended _ _ => false | .held 2 => false | _ => true)

/-- DRAIN_LIMIT: requests still running end with CANCELLED, DETAIL 1 (R425). -/
def execDrainLimit (s : State) : Host.Outcome State Fault Refusal :=
  s.run (fun b =>
    if b.silent.svc ≠ .draining then b
    else (b.hws.filter (fun (e : Nat × Hw) => e.2.runsRequest)).foldl (fun (c : Block) (e : Nat × Hw) => c.endReq e.1 8 1) b)

/-- MODULE_CONDEMNED: no request runs on a module drained for a fault (R425, R426). -/
def execModuleCondemned (s : State) : Host.Outcome State Fault Refusal :=
  s.run (fun b =>
    if b.silent.svc = .draining ∧ b.silent.fault ∧ b.hws.all (fun (e : Nat × Hw) => e.2.phase == .free || e.2.check.isSome) then
      b.condemn ((b.silent.cause).getD .moduleSuspect)
    else b)

end Sys2Proof.Machine
end

