-- ==== Sys2Proof/Machine/Service.lean ====
section
/-! DEFINITION. Live service: firmware slots, spare promotion, relight and bypass, DDR5 channels, the ageing-margin mode (20 R430
to R443; 18 R406; 21 R451). -/

namespace Sys2Proof.Machine

/-! ### Firmware slots (R430 to R433) -/

/-- FirmwareCommand. -/
def objFirmware : Nat := 0x71000041
/-- Size of a slot in bytes (R430). -/
def slotBytes : Nat → Nat
  | 0 => 0x400000 | 1 => 0x800000 | 2 => 0x400000 | 3 => 0x800000 | 4 => 0x1000000 | 5 => 0x400000 | _ => 0
/-- Whether the device that holds a slot is FAILED: slot A lies on SF0, slot B on SF1 (R430). -/
def Block.slotFailed (b : Block) (slot : Nat) : Bool := if slot = 0 then b.tray.sf0Failed else b.tray.sf1Failed
/-- The version record of a slot (R447). -/
def Firmware.setVer (f : Firmware) (slot v : Nat) : Firmware := if slot = 0 then { f with verA := v } else { f with verB := v }
/-- Whether a write of the candidate slot is refused: a unit runs it, or its device is FAILED (R432). -/
def Block.candBusy (b : Block) (u : Nat) : Bool :=
  (b.fw u).onCand != [] || (b.fw u).switching != [] || b.slotFailed (1 - (b.fw u).boot)

/-- A chunk of up to 1 MiB is programmed into the candidate slot at SlotWindowBase (R432). -/
def Block.slotWindow (c : Block) (cls : Nat) (bytes : List Byte) : Block :=
  let base := c.cfg (unitNo 0x71 cls + 0x11) 0
  if 2 ^ 20 < bytes.length then c.refuse .tooLarge
  else if c.candBusy cls then c.refuse .busy
  else if slotBytes cls < base + bytes.length then c.refuse .outOfRange
  else
    (c.updFw cls (fun x => ({ x with
      cand := 1, bytes := (bytes.zipIdx).foldl (fun (t : Tab Byte) (e : Byte × Nat) =>
        tput t ((1 - x.boot) * 2 ^ 24 + base + e.2) e.1) x.bytes }).setVer
        (1 - x.boot) 0)).refuse .ok

/-- SLOT_WINDOW (R432). -/
def execSlotWindow (role : Role) (cls : Nat) (bytes : List Byte) (s : State) : Host.Outcome State Fault Refusal :=
  s.run (fun b => b.cmd role .service 0x71 (fun c => if 6 ≤ cls then c.refuse .notFound else c.slotWindow cls bytes))

/-- The interface revision that the running hub image provides (R431). -/
def Block.hubIf (b : Block) : Nat := if (b.fw 0).onCand = [] then (b.fw 0).ifMax else (b.fw 0).candIfMax
/-- Whether a revision lies within the range of every image that a class runs (R432). -/
def Block.ifFits (b : Block) (rev u : Nat) : Bool :=
  let f := b.fw u
  (decide (fwUnits u ≤ f.onCand.length) || decide (f.ifMin ≤ rev ∧ rev ≤ f.ifMax)) &&
  (f.onCand == [] || decide (f.candIfMin ≤ rev ∧ rev ≤ f.candIfMax))
/-- The check of IF_MIN and IF_MAX by VERIFY (R432). -/
def Block.ifOk (b : Block) (cls : Nat) (h : FwHdr) : Bool :=
  if cls = 0 then [1, 2, 3, 4, 5].all (fun u => b.ifFits h.ifMax u)
  else decide (h.ifMin ≤ b.hubIf ∧ b.hubIf ≤ h.ifMax)

/-- VERIFY: the candidate image's digest and signature, the header that stands in the slot, its interface range, its levels and its
security version; then CandidateState is VALID (R431, R432, R444, R451). -/
def execVerify (role : Role) (cls : Nat) (img : ImageSeal) (s : State) : Host.Outcome State Fault Refusal :=
  s.run (fun b => b.cmd role .service 0x71 (fun c =>
    let f := c.fw cls; let hdr := c.imageHdr cls (1 - f.boot)
    if 6 ≤ cls then c.refuse .outOfRange
    else if f.cand = 0 then c.refuse .badState
    else if !img.sigOk || !img.digestOk then c.refuse .badSignature
    else if !hdr.reservedZero then c.refuse .rsvNonzero
    else if hdr.level ≠ 1 ∨ (hdr.levels &&& supportedLevels) ≠ supportedLevels then c.refuse .levelReject
    else if hdr.magic ≠ 0x46575347 ∨ hdr.cls ≠ cls ∨ slotBytes cls - 256 < hdr.length ∨ !c.ifOk cls hdr ∨ hdr.secVersion < f.floor then
      c.refuse .badState
    else
      (c.updFw cls (fun x => ({ x with
        cand := 2, candSec := hdr.secVersion, candIfMin := hdr.ifMin, candIfMax := hdr.ifMax }).setVer (1 - x.boot) hdr.version)).done
        objFirmware 0))

/-- A running ACTIVATE or REVERT completes once no unit waits (R432, R433). -/
def Block.switchesDone (b : Block) (u : Nat) : Block :=
  let f := b.fw u
  match f.cmd with
  | some n =>
    if f.switching = [] then (b.updFw u (fun x => { x with cmd := none, tries := [], paused := [] })).finishSts objFirmware n f.result else b
  | none => b

/-- Units that go to a slot: the command is accepted and they wait for their switch points (R432, R433). -/
def Block.switchUnits (b : Block) (u slot : Nat) (units : List Nat) : Block :=
  let c := b.accept objFirmware
  (c.updFw u (fun x => { x with
    switching := units.map (fun i => (i, slot)), paused := [], tries := [], cmd := some c.cmds.count, result := .ok })).switchesDone u

/-- ACTIVATE: each unit named goes to the candidate slot at its switch point (R432). -/
def execActivate (role : Role) (cls : Nat) (mask : W64) (s : State) : Host.Outcome State Fault Refusal :=
  s.run (fun b => b.cmd role .service 0x71 (fun c =>
    let f := c.fw cls
    if 6 ≤ cls ∨ mask.toNat ≥ 2 ^ fwUnits cls then c.refuse .outOfRange
    else if cls ≠ 0 ∧ !c.tray.rails then c.refuse .notNow
    else if f.cand ≠ 2 then c.refuse .badState
    else if f.cmd.isSome then c.refuse .busy
    else c.switchUnits cls (1 - f.boot) ((setBits mask 64).filter (fun i => !f.onCand.contains i))))

/-- REVERT: each unit named goes back to the boot slot in the same way (R432). -/
def execRevert (role : Role) (cls : Nat) (mask : W64) (s : State) : Host.Outcome State Fault Refusal :=
  s.run (fun b => b.cmd role .service 0x71 (fun c =>
    let f := c.fw cls
    if 6 ≤ cls ∨ mask.toNat ≥ 2 ^ fwUnits cls then c.refuse .outOfRange
    else if cls ≠ 0 ∧ !c.tray.rails then c.refuse .notNow
    else if f.cmd.isSome then c.refuse .busy
    else c.switchUnits cls f.boot ((setBits mask 64).filter (fun i => f.onCand.contains i))))

/-- COMMIT: with every unit of the class on the candidate slot it becomes the boot slot, the former one the candidate, INVALID; the
class floor rises with RaiseFloorOnCommit (R432, R451). -/
def execCommit (role : Role) (cls : Nat) (s : State) : Host.Outcome State Fault Refusal :=
  s.run (fun b => b.cmd role .service 0x71 (fun c =>
    let f := c.fw cls
    if 6 ≤ cls then c.refuse .outOfRange
    else if !((List.range (fwUnits cls)).all (fun i => f.onCand.contains i)) ∨ f.cmd.isSome then c.refuse .badState
    else
      let raise_ := decide (c.cfg 0x78000011 1 = 1 ∧ f.floor < f.candSec)
      let d := c.updFw cls (fun x => ({ x with
        boot := 1 - x.boot, cand := 0, onCand := [], ifMin := x.candIfMin, ifMax := x.candIfMax
        floor := if raise_ then x.candSec else x.floor }).setVer x.boot 0)
      let e := if raise_ then d.measure 8 ((List.range 6).map (fun u => (d.fw u).floor * 2 ^ (32 * u))).sum else d
      e.done objFirmware 0))

/-- Whether a unit is at its switch point (R433, R446): a tile between migration moves, a sinker with an empty queue, a lantern at
its quiescent point and in no off-watch step, a cluster whose harts are stopped. -/
def Block.atSwitch (b : Block) (cls u : Nat) : Bool :=
  match cls with
  | 1 => u == 4 || (b.berthsOf (domainOf u)).all (fun (e : Nat × Berth) => e.2.st != .copying)
  | 2 => (b.sinker u).ops == []
  | 3 => b.quiet u && (match b.silent.watch with | .idle => true | .drain l _ => l != u | .scan l _ => l != u)
  | 4 => (b.cluster u).stopped
  | _ => true

/-- What loading an image does to a unit (R433): the service partition of the hub restarts, closing the sessions, and the log goes
on as at a start; a cluster and a port are reset. -/
def Block.loadImage (b : Block) (cls u : Nat) : Block :=
  match cls with
  | 0 => ({ b with sessions := [] }).openLog
  | 3 => if (b.lantern u).loss = .alive then ((b.drainStores u).flushDie u).freshDie u else b
  | 4 => (b.drainCluster u).resetCluster u
  | 5 => b.resetPort u
  | _ => b

/-- A unit leaves the list of those that switch and runs a slot from now on. -/
def Block.nowRuns (b : Block) (cls u slot : Nat) : Block :=
  (b.updFw cls (fun x => { x with
    switching := x.switching.filter (fun e => e.1 != u), paused := x.paused.filter (· != u)
    onCand := if slot = x.boot then x.onCand.filter (· != u) else sput x.onCand u })).measureImage cls slot

/-- UNIT_SWITCH: a unit reaches its switch point and loads the other slot's image; a switch that was skipped is tried again
(R433). -/
def execUnitSwitch (cls unit : Nat) (s : State) : Host.Outcome State Fault Refusal :=
  s.run (fun b =>
    match (b.fw cls).switching.find? (fun e => e.1 == unit) with
    | none => b
    | some e =>
      if b.atSwitch cls unit then ((b.loadImage cls unit).nowRuns cls unit e.2).switchesDone cls
      else b.updFw cls (fun x => { x with paused := x.paused.filter (· != unit) }))

/-- FIRMWARE_SWITCH_SKIPPED: the drain of a sinker or a lantern reaches its limit: the held takes proceed, and the switch is tried
again, up to 16 times; then the command completes with BUSY (R433). -/
def execFirmwareSwitchSkipped (cls unit : Nat) (s : State) : Host.Outcome State Fault Refusal :=
  s.run (fun b =>
    if (cls ≠ 2 ∧ cls ≠ 3) ∨ !(b.fw cls).draining unit then b
    else
      let n := tget 0 (b.fw cls).tries unit + 1
      let c := b.updFw cls (fun x =>
        if n < 16 then { x with tries := tput x.tries unit n, paused := addLast x.paused unit }
        else { x with tries := tput x.tries unit n, switching := x.switching.filter (fun e => e.1 != unit),
                      result := if x.result = .badState then .badState else .busy })
      (c.raise (if cls = 2 then unitNo 0x30 unit else unitLantern unit) .firmwareSwitchSkipped [cls, unit]).switchesDone cls)

/-- FIRMWARE_REVERTED: the image that a unit loads at its switch point fails to start: it runs the boot slot, and the command
completes with BAD_STATE (R433). -/
def execFirmwareReverted (cls unit : Nat) (s : State) : Host.Outcome State Fault Refusal :=
  s.run (fun b =>
    if !((b.fw cls).switching.any (fun e => e.1 == unit)) ∨ !b.atSwitch cls unit then b
    else
      let c := ((b.loadImage cls unit).nowRuns cls unit (b.fw cls).boot).raise unitModule .firmwareReverted [cls, unit]
      (c.updFw cls (fun x => { x with result := .badState })).switchesDone cls)

/-! ### Spares, relight and bypass (R435 to R437) -/

/-- LanternService. -/
def objLamp : Nat := 0x20000041

/-- Whether the off-watch step that runs is on a tile (R428). -/
def Block.watchOn (b : Block) (t : Nat) : Bool :=
  match b.silent.watch with
  | .idle => false
  | .drain l _ => lampTile l == t
  | .scan _ site => site / 16 == t

/-- PROMOTE: a lantern moves to its tile's spare: a live one at its quiescent point, a lost one or one out of service at once
(R435). -/
def execPromote (role : Role) (l : Nat) (s : State) : Host.Outcome State Fault Refusal :=
  s.run (fun b => b.cmd role .service 0x20 (fun c =>
    let x := c.lantern l
    if 64 ≤ l then c.refuse .outOfRange
    else if c.watchOn (lampTile l) ∨ x.relightWaits ∨ x.promoteTo.isSome ∨ x.loss = .fencing ∨ x.loss = .relighting then c.refuse .busy
    else
      match c.spareSite (lampTile l) with
      | none => c.refuse .badState
      | some sp =>
        let d := c.accept objLamp; let n := d.cmds.count
        if x.loss = .lost ∨ x.out then (((d.freshDie l).takeSpare l sp).replan l).finishSts objLamp n .ok
        else (d.updLantern l (fun y => { y with promoteTo := some sp, cmd := some (n, objLamp) })).settle l))

/-- RELIGHT: reset, boot scan subset and vectors of a lost die or one out of service; a failure leaves it OUT_OF_SERVICE, and with
AutoPromote its tile's spare takes its place (R406, R435, R436). -/
def execRelight (role : Role) (l : Nat) (ok : Bool) (s : State) : Host.Outcome State Fault Refusal :=
  s.run (fun b => b.cmd role .service 0x20 (fun c =>
    if 64 ≤ l then c.refuse .outOfRange
    else if (c.lantern l).loss ≠ .lost ∧ !c.outOfService l then c.refuse .badState
    else if !c.quiet l then c.refuse .busy
    else
      let d := c.accept objLamp; let n := d.cmds.count
      if ok then ((d.freshDie l).updLantern l (fun x => { x with out := false, vectorsBad := false })).finishSts objLamp n .ok
      else (((d.updLantern l (fun x => { x with out := true })).dropMember l).autoPromote l).finishSts objLamp n .badState))

/-- BYPASS: a new mask for a beam waits for the quiescent point; one that clears a bit needs the vendor role (R437). -/
def execBypass (role : Role) (l b : Nat) (mask : BitVec 512) (s : State) : Host.Outcome State Fault Refusal :=
  s.run (fun x => x.cmd role .service 0x20 (fun c =>
    let y := c.beam (beamNo l b)
    if 64 ≤ l ∨ 16 ≤ b then c.refuse .outOfRange
    else if y.mask &&& ~~~mask ≠ 0 ∧ role ≠ .vendor then c.refuse .denied
    else if (c.lantern l).loss = .lost then c.refuse .badState
    else if y.want.isSome then c.refuse .busy
    else
      let d := c.accept objLamp
      d.updBeam (beamNo l b) (fun z => { z with want := some mask, wantCmd := some d.cmds.count })))

/-- A mask in force: W is recomputed; a beam that falls below 448 lanes is retired, one whose mask no longer does returns, and a
retired beam leaves its hosting to another (R49, R437). -/
def Block.applyMask (b : Block) (l m : Nat) (mask : Line) : Block :=
  let x := b.beam (beamNo l m)
  let below (v : Line) : Bool := decide (512 - popBelow v 512 < 448)
  let c := b.updBeam (beamNo l m) (fun y => { y with mask := mask, want := none, wantCmd := none })
  let d := if below mask then c.retireBeam l m
    else if below x.mask then c.updBeam (beamNo l m) (fun y => { y with host := none, loaded := none }) else c
  let e := d.raise (unitBeam l m) .bypassApplied [l, m, 512 - popBelow mask 512]
  match x.wantCmd with
  | some n => e.finishSts objLamp n .ok
  | none => e

/-- BYPASS_APPLIED: at the quiescent point of a lantern the masks that wait come into force and are recorded; a bypass change is an
orderly reset of the die (R51, R408, R437). -/
def execBypassApplied (l : Nat) (s : State) : Host.Outcome State Fault Refusal :=
  s.run (fun b =>
    let ms := (List.range 16).filter (fun m => (b.beam (beamNo l m)).want.isSome)
    if 64 ≤ l ∨ ms = [] ∨ !b.quiet l ∨ (b.lantern l).loss ≠ .alive then b
    else
      let c := ((b.drainStores l).flushDie l).freshDie l
      let d := ms.foldl (fun (e : Block) m =>
        match (e.beam (beamNo l m)).want with
        | some v => e.applyMask l m v
        | none => e) c
      (d.noteRepair).autoPromote l)

/-! ### DDR5 channels (R439, R440) -/

/-- TAKE_OUT: the checks of R440; then the evacuation of a DDR5 channel starts. -/
def execTakeOut (role : Role) (ch : Nat) (s : State) : Host.Outcome State Fault Refusal :=
  s.run (fun b => b.cmd role .service 0x31 (fun c =>
    if 16 ≤ ch then c.refuse .outOfRange
    else
      match c.takeOutStart (256 + ch) with
      | .error e => c.refuse e
      | .ok d =>
        let e := d.accept objBulk
        e.updChannel (256 + ch) (fun x => { x with cmd := some (e.cmds.count, objBulk), repair := false })))

/-- The command of a channel completes. -/
def Block.chanDone (b : Block) (ch : Nat) (res : Sts) : Block :=
  match (b.channel ch).cmd with
  | some n => (b.updChannel ch (fun x => { x with cmd := none })).finishSts n.2 n.1 res
  | none => b

/-- CHANNEL_EVACUATED: every half on the channel is on its partner: single-channel mode; the socket goes off, with BULK_OFFLINE. A
channel that goes out for repair is trained at once (R440). -/
def execChannelEvacuated (ch : Nat) (s : State) : Host.Outcome State Fault Refusal :=
  s.run (fun b =>
    let k := 256 + ch; let x := b.channel k
    if 16 ≤ ch ∨ x.svc ≠ .evacuating ∨ b.singleFrames - 64 < b.bulkUsed (chanDomain k) then b
    else
      let c := ((b.updChannel k (fun y => { y with svc := if y.repair then .training else .out, st := .offline })).raise
        (unitChannel k) .bulkOffline [ch]).setAlert 11
      c.chanDone k .ok)

/-- BRING_IN: a channel that is OUT is trained (R440). -/
def execBringIn (role : Role) (ch : Nat) (s : State) : Host.Outcome State Fault Refusal :=
  s.run (fun b => b.cmd role .service 0x31 (fun c =>
    if 16 ≤ ch then c.refuse .outOfRange
    else if (c.channel (256 + ch)).svc ≠ .out then c.refuse .badState
    else
      let d := c.accept objBulk
      d.updChannel (256 + ch) (fun x => { x with svc := .training, cmd := some (d.cmds.count, objBulk) })))

/-- CHANNEL_TRAINED: the DIMM's identity is read, its checks made in the order of R322, and the channel trained and initialised; a failure
leaves the channel OUT with the event of what failed (R322, R440). -/
def execChannelTrained (ch : Nat) (dimm : DimmTrain) (s : State) : Host.Outcome State Fault Refusal :=
  s.run (fun b =>
    let k := 256 + ch
    if 16 ≤ ch ∨ (b.channel k).svc ≠ .training then b
    else
      let c : Block := { b with tray := { b.tray with dimmIds := tput b.tray.dimmIds ch dimm.identity } }
      let fails (e : Ev) : Block :=
        ((c.updChannel k (fun x => { x with svc := .out, repair := false })).raise (unitChannel k) e [ch]).chanDone k .badState
      if dimm.gib ≠ c.dimmGiB then fails .bulkPopulationMismatch
      else if !dimm.approved then fails .dimmUnapproved
      else if !dimm.trained then fails .bulkOffline
      else c.updChannel k (fun x => { x with svc := .returning, st := .up, retrains := 0 }))

/-- CHANNEL_RETURNED: relocated halves are back on their channel: DUAL, IN_USE; BULK_OFFLINE clears when every bulk channel is up
(R352, R440). -/
def execChannelReturned (ch : Nat) (s : State) : Host.Outcome State Fault Refusal :=
  s.run (fun b =>
    let k := 256 + ch
    if 16 ≤ ch ∨ (b.channel k).svc ≠ .returning then b
    else
      let c := b.updChannel k (fun x => { x with svc := .inUse, repair := false })
      let d := if (List.range 16).all (fun i => (c.channel (256 + i)).st == .up || (c.channel (256 + i)).st == .held) then c.clearAlert 11 else c
      d.chanDone k .ok)

/-! ### Ageing-margin mode (R442, R443) -/

/-- MEASURE: the ring oscillator of a lantern is read at its quiescent point, and its guard planned again; a lantern that is not alive
is refused with BAD_STATE, one that a MEASURE waits for with BUSY (R442; log entry 95). -/
def execMeasure (role : Role) (l slowdown : Nat) (s : State) : Host.Outcome State Fault Refusal :=
  s.run (fun b => b.cmd role .service 0x10 (fun c =>
    if 64 ≤ l then c.refuse .outOfRange
    else if (c.lantern l).loss ≠ .alive then c.refuse .badState
    else if (c.lantern l).measureWaits.isSome then c.refuse .busy
    else
      let d := c.accept objAgeing
      (d.updLantern l (fun y => { y with measureWaits := some (slowdown, d.cmds.count) })).settle l))

/-- REPLAN: a lantern's guard is planned again; BAD_STATE while AgeingMode is 0 (R442). -/
def execReplan (role : Role) (l : Nat) (s : State) : Host.Outcome State Fault Refusal :=
  s.run (fun b => b.cmd role .service 0x10 (fun c =>
    if 64 ≤ l then c.refuse .outOfRange
    else if c.cfg 0x10000050 0 ≠ 1 then c.refuse .badState
    else (c.replan l).done objAgeing 0))

/-- RESET_GUARD: the one way by which a guard that the mode has applied is lowered, to what R442 gives now (R442). -/
def execResetGuard (role : Role) (l : Nat) (s : State) : Host.Outcome State Fault Refusal :=
  s.run (fun b => b.cmd role .vendor 0x10 (fun c =>
    if 64 ≤ l then c.refuse .outOfRange
    else
      let site := c.siteOf l; let raw := c.plannedGuard site
      let g := if c.cfg 0x10000050 0 = 1 then min 40 raw else 25
      let d := { c with power := { c.power with
        guardNext := tdel c.power.guardNext site
        noBoost := if raw ≤ 40 then c.power.noBoost.filter (· != site) else c.power.noBoost } }
      (d.planGuard l site g (decide (c.cfg 0x10000050 0 = 1 ∧ 40 < raw))).done objAgeing 0))

/-- A determinant of n rows, along its first row. -/
def det : Nat → List (List Int) → Int
  | 0, _ => 1
  | _ + 1, [] => 1
  | n + 1, r :: t =>
    (List.range (n + 1)).foldl (fun (a : Int) j =>
      a + (if j % 2 = 0 then 1 else -1) * r.getD j 0 * det n (t.map (fun (x : List Int) => x.eraseIdx j))) 0
/-- Hours of a record in band i. -/
def V3Record.hour (r : V3Record) (i : Nat) : Int := ([r.h0, r.h1, r.h2, r.h3].getD i 0 : Nat)
/-- The least-squares solution over the bands of a support, by Cramer's rule, as numerators over a determinant; none where the bands do
not fix it. -/
def fitOver (rs : List V3Record) (sup : List Nat) : Option (List Int × Int) :=
  let dot (f g : V3Record → Int) : Int := rs.foldl (fun (a : Int) r => a + f r * g r) 0
  let m := sup.map (fun i => sup.map (fun j => dot (·.hour i) (·.hour j)))
  let v := sup.map (fun i => dot (·.hour i) (fun r => (r.slowdown : Nat)))
  let d := det sup.length m
  if d = 0 then none
  else
    let xs := (List.range sup.length).map (fun j =>
      det sup.length (m.zip v |>.map (fun (e : List Int × Int) => e.1.set j e.2)))
    let gain := (xs.zip v).foldl (fun (a : Int) e => a + e.1 * e.2) 0
    if xs.all (fun x => decide (0 ≤ x * d)) then
      some ((List.range 4).map (fun i => match sup.findIdx? (· == i) with | some j => xs.getD j 0 * d | none => 0) ++ [gain * d], d * d)
    else none
/-- The non-negative coefficients that fit slowdown to hours with the least sum of squares and no constant term, in 0.001 % per 1,000 h,
rounded to nearest (R443): the least of the solutions over every support, whose gain, the fall of the sum, is greatest. -/
def fitAgeing (rs : List V3Record) : List Nat :=
  let best := (List.range 16).foldl (fun (a : List Int × Int) n =>
    match fitOver rs ((List.range 4).filter (fun i => n.testBit i)) with
    | some y => if a.1.getD 4 0 * y.2 < y.1.getD 4 0 * a.2 then y else a
    | none => a) ([0, 0, 0, 0, 0], 1)
  (best.1.take 4).map (fun x => min (2 ^ 32 - 1) ((200000 * x + best.2) / (2 * best.2)).toNat)

/-- AGEING_IMPORT: a file that verifies gives the records of V3 dies; the hub fits the coefficients of the ageing model, and every lantern
is planned again (R7, R442, R443). -/
def execAgeingImport (role : Role) (sigOk : Bool) (records : List V3Record) (s : State) : Host.Outcome State Fault Refusal :=
  s.run (fun b => b.cmd role .service 0x10 (fun c =>
    if !sigOk then c.refuse .badSignature
    else
      let d := { c with power := { c.power with model := fitAgeing records } }
      ((List.range 64).foldl (fun (e : Block) l => e.replan l) d).refuse .ok))

/-- AgeingMode: on plans every guard; off keeps each guard at the larger of 25 mV and the one in force (R442). -/
def Block.writeAgeing (c : Block) (on : Bool) : Block :=
  c.persistWrite 0x10000050 [if on then 1 else 0] true (fun d =>
    if on then
      if c.cfg 0x10000050 0 = 1 then d else (List.range 64).foldl (fun (e : Block) l => e.replan l) d
    else
      { d with power := { d.power with
          guard := d.power.guard.map (fun e => (e.1, max 25 e.2)), guardNext := d.power.guardNext.map (fun e => (e.1, max 25 e.2)) } })

/-- AGEING_MODE_WRITE: like every RWP object it answers from TENDED (R350, R442). -/
def execAgeingModeWrite (role : Role) (on : Bool) (s : State) : Host.Outcome State Fault Refusal :=
  s.run (fun b => b.cmd role .operator 0x70 (fun c => c.writeAgeing on))

end Sys2Proof.Machine
end

