-- ==== Sys2Proof/Machine/Security.lean ====
section
/-! DEFINITION. Security and guest dies: SPDM, debug authorisation, guest sites and the die firewall (21 R448 to R461). -/

namespace Sys2Proof.Machine

/-! ### SPDM (R452) -/

/-- SpdmExchange. -/
def objSpdm : Nat := 0x78000020
/-- SPDM 1.3 response code of a request code: 0x7F is ERROR (R452; the codes are those of the standard, PRESUMED). -/
def spdmCode : Nat → Nat
  | 0x84 => 0x04 | 0xE1 => 0x61 | 0xE3 => 0x63 | 0x81 => 0x01 | 0x82 => 0x02 | 0x83 => 0x03 | 0xE0 => 0x60 | _ => 0x7F
/-- The response to a request: its code and the error code, 0x41 VersionMismatch, 0x07 UnsupportedRequest (R452). -/
def spdmAnswer (code version : Nat) (algs : Bool) : Nat × Nat :=
  if code ≠ 0x84 ∧ version ≠ 0x13 then (0x7F, 0x41)
  else if code = 0xE3 ∧ algs = false then (0x7F, 0x07)
  else if spdmCode code = 0x7F then (0x7F, 0x07)
  else (spdmCode code, 0)

/-- SPDM_EXCHANGE: one request, and its response: version 1.3 alone, the algorithms of R452, ERROR for anything else. What a
response carries beyond its header is a free value (R452). -/
def execSpdmExchange (role : Role) (code version : Nat) (algsOffered : Bool) (s : State) : Host.Outcome State Fault Refusal :=
  s.run (fun b => b.cmd role .observer 0x78 (fun c =>
    let r := spdmAnswer code version algsOffered
    let d := ({ c with security := { c.security with spdm := r.1 } }).done objSpdm r.1
    let tail := if r.1 = 0x7F then [] else Config.recBytes objSpdm [code, d.cmds.count, b.start.count]
    { d with cmds := { d.cmds with reply := { d.cmds.reply with body :=
      [(if code = 0x84 then 0x10#8 else 0x13#8), BitVec.ofNat 8 r.1, BitVec.ofNat 8 r.2, 0] ++ tail } } }))

/-! ### Debug authorisation (R453) -/

/-- DEBUG_AUTHORISE: a token whose every field and signature hold opens the ports of its scope until the next start; a nonce is used
once (R450, R453). -/
def execDebugAuthorise (role : Role) (tok : Token) (s : State) : Host.Outcome State Fault Refusal :=
  s.run (fun b => b.cmd role .vendor 0x78 (fun c =>
    if !tok.reservedZero then c.refuse .rsvNonzero
    else if !tok.levelOk ∨ !tok.deviceOk ∨ tok.nonce ≠ Config.debugNonce c.security.nonces ∨ tok.startLimit < c.start.count % 2 ^ 32 ∨
        !tok.sigOk then c.refuse .badSignature
    else
      let d := { c with security := { c.security with scope := tok.scope, nonces := c.security.nonces + 1 } }
      (((d.measure 12 tok.scope.toNat).raise unitModule .debugEnabled [tok.scope.toNat])).refuse .ok))

/-! ### Guest sites (R455, R456, R458) -/

/-- GuestCommand of a site. -/
def objGuest (g : Nat) : Nat := unitNo 0x7C g + 0x20

/-- A light-list access in area 7C: role, then NOT_FITTED on a -A part, then readiness (R5, R350). -/
def Block.guestCmd (b : Block) (role : Role) (g : Nat) (f : Block → Block) : Block :=
  if 2 ≤ g then b.refuse .notFound
  else if roleRank role < roleRank .service then b.refuse .denied
  else if b.tray.part ≠ .g4t then b.refuse .notFitted
  else b.cmd role .service 0x7C f

/-- A guest die goes to HELD, in reset; a lost one and one in breach have their windows closed (R404, R455). -/
def Block.holdGuest (b : Block) (g : Nat) (close : Bool) : Block :=
  b.updGuest g (fun x => { x with
    st := .held, throttled := false, answer := none, windows := if close then [] else x.windows })

/-- Whether a die is fitted and not held. -/
def Guest.live (x : Guest) : Bool := x.st == .admitting || x.st == .running || x.st == .suspended

/-- HOLD (R455): a fitted die goes to HELD. -/
def execHold (role : Role) (g : Nat) (s : State) : Host.Outcome State Fault Refusal :=
  s.run (fun b => b.guestCmd role g (fun c =>
    if (c.guest g).st = .empty then c.refuse .badState else (c.holdGuest g false).done (objGuest g) 0))

/-- RELEASE: a HELD die is admitted again, with every window closed (R455, R456, R457). -/
def execGuestRelease (role : Role) (g : Nat) (a : Admission) (s : State) : Host.Outcome State Fault Refusal :=
  s.run (fun b => b.guestCmd role g (fun c =>
    if (c.guest g).st ≠ .held then c.refuse .badState
    else
      let d := c.accept (objGuest g)
      ((d.updGuest g (fun x => { x with windows := [] })).admitGuest g a).finishSts (objGuest g) d.cmds.count (if a.fail.isNone then .ok else .badState)))

/-- ATTEST: admission runs again without stopping the die; a failure holds it (R455, R456). -/
def execAttest (role : Role) (g : Nat) (a : Admission) (s : State) : Host.Outcome State Fault Refusal :=
  s.run (fun b => b.guestCmd role g (fun c =>
    if !(c.guest g).live then c.refuse .badState
    else
      let d := c.accept (objGuest g)
      (d.admitGuest g a).finishSts (objGuest g) d.cmds.count (if a.fail.isNone then .ok else .badState)))

/-- GUEST_POWER_SAMPLE: an average above 75 W asks for a throttle, with GUEST_POWER; one that stays there for 100 ms, or a sample
above 90 W for 1 ms, holds the die (R458). -/
def execGuestPowerSample (g _milliW avg10 : Nat) (above100ms above90 : Bool) (s : State) : Host.Outcome State Fault Refusal :=
  s.run (fun b =>
    if 2 ≤ g ∨ !(b.guest g).live then b
    else
      let x := b.guest g; let hot := decide (75000 < avg10)
      let c := b.updGuest g (fun y => { y with power := avg10, throttled := hot })
      let d := if hot ∧ !x.throttled then c.guestEvent g .guestPower [g, avg10] else c
      if above90 ∨ (hot ∧ x.throttled ∧ above100ms) then d.holdGuest g false else d)

/-- GUEST_LOST: no heartbeat for 8 µs, or an uncorrectable link: the die is held and its windows are closed (R404, R459). -/
def execGuestLost (g : Nat) (s : State) : Host.Outcome State Fault Refusal :=
  s.run (fun b => if 2 ≤ g ∨ !(b.guest g).live then b else b.holdGuest g true)

/-! ### The die firewall (R457, R459) -/

/-- Berths of a range that lie in regions of a context (R193). -/
def Block.berthsIn (b : Block) (ctx first n : Nat) : Nat :=
  (((b.domain (first / 2 ^ 24)).regions.filter (fun (r : Region) => r.owner == ctx)).map (fun (r : Region) =>
    min (first + n) (r.base + r.count) - max first r.base)).sum

/-- The rules of R457 for a valid window: its memory, its context's regions, no overlap with another window, R with W. -/
def Block.winOk (b : Block) (g idx : Nat) (v : GuestWin) : Bool :=
  b.rangeOk v.paBase v.length &&
  (v.ctx == 0xFF || (decide (v.paBase < 2 ^ 43) && b.berthsIn v.ctx (v.paBase / 65536) (v.length / 65536) == v.length / 65536)) &&
  (b.guest g).windows.all (fun (e : Nat × GuestWin) => e.1 == idx || !e.2.v ||
    decide (v.gbase + v.length ≤ e.2.gbase ∨ e.2.gbase + e.2.length ≤ v.gbase)) &&
  !(v.w && !v.r)

/-- Whether the fields of a window lie in their ranges (R457). -/
def GuestWin.inField (v : GuestWin) : Bool :=
  decide (v.gbase % 65536 = 0 ∧ v.gbase < 2 ^ 48 ∧ v.length % 65536 = 0 ∧ 0 < v.length ∧ v.length ≤ 2 ^ 40 ∧ v.paBase % 65536 = 0)

/-- GUEST_WINDOWS_WRITE: a window's reserved fields, its ranges, the rules of R457; a window that is not valid is closed. -/
def execGuestWindowsWrite (role : Role) (g idx : Nat) (win : GuestWin) (s : State) : Host.Outcome State Fault Refusal :=
  s.run (fun b => b.guestCmd role g (fun c =>
    if !win.rsvZero then c.refuse .rsvNonzero
    else if 16 ≤ idx ∨ 256 ≤ win.ctx then c.refuse .outOfRange
    else if win.v ∧ !win.inField then c.refuse .outOfRange
    else if win.v ∧ !c.winOk g idx win then c.refuse .badRange
    else (c.updGuest g (fun x => { x with windows := tput x.windows idx win })).refuse .ok))

/-- The window that lets an access pass: valid, with the permission, its context alive (R457, R459, R460). -/
def Block.window (b : Block) (g addr : Nat) (write : Bool) : Option GuestWin :=
  ((b.guest g).windows.find? (fun (e : Nat × GuestWin) =>
    e.2.v && (if write then e.2.w else e.2.r) && decide (e.2.gbase ≤ addr ∧ addr < e.2.gbase + e.2.length) &&
    (e.2.ctx == 0xFF || (b.ctx e.2.ctx).st == .active || (b.ctx e.2.ctx).st == .extinguished))).map Prod.snd

/-- An access that no window lets pass: refused, counted, GUEST_ACCESS_DENIED once in a second; 1,000 in a second are a breach (R459). -/
def Block.denyGuest (b : Block) (g addr : Nat) : Block :=
  let n := (b.guest g).denialsNow + 1
  let c := b.updGuest g (fun x => { x with denials := x.denials + 1, denialsNow := n, answer := none })
  let d := if n = 1 then c.guestEvent g .guestAccessDenied [g, addr] else c
  if 1000 ≤ n then (d.guestEvent g .guestBreach [g, n]).holdGuest g true else d

/-- A guest access is refused with nothing read or written (R459). -/
def Block.refuseGuest (b : Block) (g : Nat) : Block := b.updGuest g (fun x => { x with answer := none })

/-- GUEST_READ: a line through the firewall: at the home in a SIGNAL window, else the memory copy; a poisoned line is refused (R245,
R396, R457, R459). -/
def execGuestRead (g addr : Nat) (s : State) : Host.Outcome State Fault Refusal :=
  s.run (fun b =>
    if 2 ≤ g ∨ (b.guest g).st ≠ .running ∨ addr % 64 ≠ 0 ∨ 2 ^ 48 ≤ addr then b
    else
      match b.window g addr false with
      | none => b.denyGuest g addr
      | some v =>
        let pa := v.paBase + (addr - v.gbase)
        match b.dom pa with
        | none => b.refuseGuest g
        | some a =>
          let r : Except RdErr Line :=
            if v.signal then (b.readAt pa 64).map (BitVec.ofNat 512)
            else match b.under (a / 64) with
              | .ok x => if x.2 then .error .poison else .ok x.1
              | .error .wait => .error .wait
              | .error _ => .error .failed
          match r with
          | .ok x => b.updGuest g (fun y => { y with answer := some x })
          | .error .wait => b
          | .error .poison =>
            (({ b with errors := { b.errors with consumed := tinc b.errors.consumed 4 1 } }).guestEvent g .guestPoison [g, addr]).refuseGuest g
          | .error _ => b.refuseGuest g)

/-- GUEST_WRITE: a line under a byte mask through the firewall: at the home in a SIGNAL window, else beneath it; the poison flag is
written as poison (R245, R457, R459). -/
def execGuestWrite (g addr : Nat) (mask : W64) (data : Line) (poison : Bool) (s : State) : Host.Outcome State Fault Refusal :=
  s.run (fun b =>
    if 2 ≤ g ∨ (b.guest g).st ≠ .running ∨ addr % 64 ≠ 0 ∨ 2 ^ 48 ≤ addr then b
    else
      match b.window g addr true with
      | none => b.denyGuest g addr
      | some v =>
        match b.dom (v.paBase + (addr - v.gbase)) with
        | none => b.refuseGuest g
        | some a =>
          match if v.signal then b.write (a / 64) mask data poison else b.putUnder (a / 64) mask data poison with
          | .ok c => c.updGuest g (fun x => { x with answer := some data })
          | .error (.wait, _) => b
          | .error (_, c) => c.refuseGuest g)

end Sys2Proof.Machine
end

