-- ==== Sys2Proof/Machine/Sessions.lean ====
section
/-! DEFINITION. The Light List Protocol: sessions, READ, WRITE, SUBSCRIBE; the configuration store; alert acknowledgement (16 R345
to R374). -/

namespace Sys2Proof.Machine

/-! ### Sessions (R354 to R357, R360) -/

/-- The place of a session by its number: 0 to 7 service bus, 8 to 11 mailboxes. -/
def Block.sessionAt (b : Block) (sid : Nat) : Option (Nat × Session) :=
  b.sessions.find? (fun (e : Nat × Session) => e.2.number == sid)
/-- A message dropped without a reply (R354, R357). -/
def Block.dropMsg (b : Block) : Block :=
  { b with security := { b.security with authFailures := b.security.authFailures + 1 } }
/-- The bytes of a reply: header, body and tag (R354). -/
def replyBytes (body : List Byte) (tag : Bool) : Nat := 20 + body.length + (if tag then 32 else 0)
/-- A place on the service bus that the module does not transmit to: its transmitter is off, or it hears no beacon (R321). -/
def Block.muted (b : Block) (place : Nat) : Bool := decide (place < 8) && (!b.tray.busTx || b.tray.noBeacon)
/-- A reply leaves: a mailbox's is in its reply window, with source 1 (R363). -/
def Block.sendReply (b : Block) (place : Nat) (tag : Bool) : Block :=
  if place < 8 then b
  else (b.updMailbox (place - 8) (fun m => { m with
    busy := false, replyReady := true, replyLen := replyBytes b.cmds.reply.body tag })).wire 1
/-- The reply to a request is kept among the last 16 and sent, if the module transmits (R321, R360). -/
def Block.keepReply (b : Block) (place request : Nat) : Block :=
  match tfind b.sessions place with
  | none => b
  | some x =>
    let ks := x.kept.filter (fun k => k.1 != request) ++ [(request, b.cmds.reply.status, b.cmds.reply.body)]
    ({ b with sessions := tput b.sessions place { x with
      sent := if b.muted place then x.sent else x.sent + 1, kept := ks.drop (ks.length - 16) } }).sendReply place true

/-- A request on a session: dropped and counted where its form, its tag, its session or its COUNTER fails; a repeated one gets its
kept reply; unencrypted ones are DENIED under RequireEncryption; another VERSION is dropped silently (R354, R356, R357, R360). A
mailbox request stands in its window. -/
def Block.onSession (b : Block) (sid : Nat) (m : Msg) (run : Block → Nat → Session → Option Block) : Block :=
  match b.sessionAt sid with
  | none => if m.version = 1 then b.dropMsg else b
  | some (i, x) =>
    if (8 ≤ i ∧ !(b.mailbox (i - 8)).busy) ∨ m.version ≠ 1 then b
    else if !m.wellFormed ∨ !x.opened ∨ m.counter ≤ x.counter then b.dropMsg
    else
      let y : Session := { x with counter := m.counter, enc := m.enc }
      let c : Block := { b with sessions := tput b.sessions i y }
      match x.kept.find? (fun k => k.1 == m.request) with
      | some k =>
        let d : Block := { c with cmds := { c.cmds with reply := { status := k.2.1, body := k.2.2 } } }
        ({ d with sessions := tput d.sessions i { y with
          sent := if d.muted i then y.sent else y.sent + 1 } }).sendReply i true
      | none =>
        if c.cfg 0x78000052 0 = 1 ∧ !m.enc then (c.refuse .denied).keepReply i m.request
        else
          match run c i y with
          | some d => d.keepReply i m.request
          | none => c

/-- A message that opens or closes a session, through the mailbox or the bus. -/
def Block.replyTo (b : Block) (place : Nat) (st : Sts) (body : List Byte) (tag : Bool) : Block :=
  ({ b with cmds := { b.cmds with reply := { status := st, body := body } } }).sendReply place tag

/-- SESSION_INIT: on the bus while it transmits, to the module's own slot identity where it is multicast; in a mailbox; up to 8 bus
sessions and one for each mailbox, then BUSY; a body of more than 1,280 bytes is TOO_LARGE; a chain that does not verify is
BAD_SIGNATURE (R321, R353, R356, R361, R449). -/
def execSessionInit (mailbox : Option Nat) (slot : Nat) (multicast : Bool) (body : InitBody) (role : Role) (s : State) :
    Host.Outcome State Fault Refusal :=
  s.run (fun b =>
    let place : Option Nat := match mailbox with
      | some k => if thas b.sessions (8 + k) then none else some (8 + k)
      | none => (List.range 8).find? (fun i => !thas b.sessions i)
    let reply : Nat := match mailbox with | some k => 8 + k | none => 0
    let heard : Bool := match mailbox with
      | some k => decide (k < 4) && (b.mailbox k).busy
      | none => b.tray.busTx && !b.tray.noBeacon && (!multicast || slot == 0xFF || b.tray.slotId == some slot)
    if b.start.level = .dark ∨ !heard then b
    else if 1280 < body.bytes then b.replyTo reply .tooLarge [] false
    else
      match place with
      | none => b.replyTo reply .busy [] false
      | some i =>
        if !body.chainOk then b.replyTo reply .badSignature [] false
        else
          let n := b.security.nextSession
          let c : Block := { b with
            sessions := tput b.sessions i { number := n, role := role }
            security := { b.security with nextSession := (n + 1) % 2 ^ 32 } }
          c.replyTo i .ok (leBytes 4 n ++ Config.recBytes 0x78000001 [n]) false)

/-- SESSION_CONFIRM: the session is open once the client's confirmation value is right (R356). -/
def execSessionConfirm (sid : Nat) (ok : Bool) (s : State) : Host.Outcome State Fault Refusal :=
  s.run (fun b =>
    match b.sessionAt sid with
    | none => b.dropMsg
    | some (i, x) =>
      if (8 ≤ i ∧ !(b.mailbox (i - 8)).busy) ∨ x.opened then b
      else if ok then
        ({ b with sessions := tput b.sessions i { x with
          opened := true, sent := if b.muted i then x.sent else x.sent + 1 } }).replyTo i .ok [] true
      else b.replyTo i .badSignature [] true)

/-- SESSION_CLOSE: from either end, at once (R356). -/
def execSessionClose (sid : Nat) (s : State) : Host.Outcome State Fault Refusal :=
  s.run (fun b =>
    match b.sessionAt sid with
    | none => b
    | some (i, _) =>
      let c : Block := { b with sessions := tdel b.sessions i }
      if 8 ≤ i ∧ !(b.mailbox (i - 8)).busy then c else c.replyTo i .ok [] true)

/-- SESSION_TIMEOUT: no valid message for 60 s (R356). -/
def execSessionTimeout (sid : Nat) (s : State) : Host.Outcome State Fault Refusal :=
  s.run (fun b =>
    match b.sessionAt sid with
    | none => b
    | some (i, _) => { b with sessions := tdel b.sessions i })

/-! ### READ (R347, R348, R355) -/

/-- Whether an object answers at this level (R350 step 4). -/
def Block.answers (b : Block) (o : Obj) : Bool :=
  b.start.level != .dark && (o.acc == 3 || [0x01, 0x02, 0x60, 0x70, 0x71, 0x78].contains o.area || b.tray.rails)

/-- The flags of the telemetry objects of a cartridge, 51.0cc.002 to 006: stale, and untrusted while it is UNVERIFIED (R305, R307;
their places DESIGN CHOICE, log entry 89). -/
def Block.telemetryFlags (b : Block) (n : Nat) : Nat :=
  if objArea n = 0x51 ∧ 2 ≤ objItem n ∧ objItem n ≤ 6 then
    let x := b.cart (objUnit n); (if x.stale then 1 else 0) + (if x.untrusted then 2 else 0)
  else 0

/-- A READ: the value's whole length, then its bytes from OFFSET; the body holds 1,280 bytes. -/
def Block.readObj (b : Block) (role : Role) (n off maxlen : Nat) : Block :=
  match objAt n with
  | none => b.refuse .notFound
  | some o =>
    if roleRank role < o.readRole then b.refuse .denied
    else if !b.answers o then b.refuse .notNow
    else if 1280 < maxlen then b.refuse .tooLarge
    else if off ≠ 0 ∧ o.typ ≠ 10 ∧ o.typ ≠ 11 ∧ o.typ ≠ 13 then b.refuse .badType
    else
      let v := b.objValue o n
      let k := min 1276 (if maxlen = 0 then 1280 else maxlen)
      { b with cmds := { b.cmds with reply := { status := .ok, body := leBytes 4 v.length ++ (v.drop off).take k, flags := b.telemetryFlags n } } }

/-- READ (R355). -/
def execRead (sid : Nat) (m : Msg) (obj off maxlen : Nat) (s : State) : Host.Outcome State Fault Refusal :=
  s.run (fun b => b.onSession sid m (fun c _ x => some (c.readObj x.role obj off maxlen)))

/-! ### WRITE (R347, R350, R359, R366) -/

/-- A guest window from its 32 bytes (R457). -/
def guestWinOf (bs : List Byte) : GuestWin :=
  let v : BitVec 256 := BitVec.ofNat 256 (leNat bs)
  { v := bit v 0, r := bit v 1, w := bit v 2, signal := bit v 3
    rsvZero := fld v 4 4 == 0 && fld v 16 48 == 0 && fld v 244 12 == 0
    ctx := fld v 8 8, gbase := fld v 64 64, length := fld v 128 64, paBase := fld v 192 52 }

/-- GuestWindows as a whole: every window's rules against the windows that are to stand (R457). -/
def Block.writeWindows (b : Block) (g : Nat) (v : List Byte) : Block :=
  let ws := (List.range 16).map (fun i => guestWinOf ((v.drop (2 + 32 * i)).take 32))
  let c := b.updGuest g (fun x => { x with windows := (ws.zipIdx).map (fun (e : GuestWin × Nat) => (e.2, e.1)) })
  if ws.any (fun w => !w.rsvZero) then b.refuse .rsvNonzero
  else if ws.any (fun w => w.v && !w.inField) then b.refuse .outOfRange
  else if (ws.zipIdx).any (fun (e : GuestWin × Nat) => e.1.v && !c.winOk g e.2 e.1) then b.refuse .badRange
  else c.refuse .ok

/-- The conditions of an object's own table: what refuses a value that has passed its type and range (R115, R210, R349, R432). -/
def Block.ownRule (b : Block) (n : Nat) (v : List Byte) : Option Sts :=
  let x := leNat v
  if n = 0x02000040 then
    if x % 4096 ≠ 0 ∨ !b.rangeOk x 32768 then some .outOfRange
    else if b.contexts.any (fun (e : Nat × Context) => e.2.st != .free) then some .badState else none
  else if n = 0x32000053 then (if x ≤ b.cfg 0x32000054 1 then some .outOfRange else none)
  else if n = 0x32000054 then (if b.cfg 0x32000053 16 ≤ x then some .outOfRange else none)
  else if objArea n = 0x71 ∧ objItem n = 0x011 then
    if x % 2 ^ 20 ≠ 0 ∨ slotBytes (objUnit n) ≤ x then some .outOfRange else if b.candBusy (objUnit n) then some .busy else none
  else none

/-- What a value does at once, beyond standing in force (R37, R375, R385). -/
def Block.writeEffect (b : Block) (n : Nat) : Block :=
  if n = 0x10000001 then b.updLimit
  else if n = 0x10000004 then (List.range 64).foldl (fun (c : Block) l => c.reOp l) b
  else b

/-- A value that has passed every check is applied; none for the signed images, whose own rows bring their verdicts (R2, R347, R366,
R402, R432, R442, R457). SpreadSize applies from the next start (R210). -/
def Block.applyValue (b : Block) (o : Obj) (n : Nat) (v : List Byte) : Option Block :=
  if [0x10000052, 0x70000010, 0x70000020, 0x78000041].contains n then none
  else some (
    if n = 0x01000001 then b.writePart (partOf v)
    else if n = 0x10000050 then b.writeAgeing (leNat v == 1)
    else if o.area = 0x71 ∧ o.item = 0x010 then b.slotWindow (objUnit n) v
    else if o.area = 0x7C ∧ o.item = 0x010 then b.writeWindows (objUnit n) v
    else if n = 0x60000045 then
      ({ b with errors := { b.errors with targetAddr := leNat (v.take 8), targetId := leNat (v.drop 8) } }).refuse .ok
    else if o.acc = 3 then b.persistWrite n v (n != 0x32000050) (fun c => c.writeEffect n)
    else ({ b with store := { b.store with inForce := tput b.store.inForce n v } }).refuse .ok)

/-- A WRITE of a whole value: the checks of R350 in their order, then its effect. -/
def Block.writeObj (b : Block) (role : Role) (n : Nat) (v : List Byte) : Option Block :=
  match objAt n with
  | none => some (b.refuse .notFound)
  | some o =>
    if o.acc = 0 ∨ o.acc = 4 then some (b.refuse .notWritable)
    else if roleRank role < o.role then some (b.refuse .denied)
    else if o.area = 0x7C ∧ b.tray.part ≠ .g4t then some (b.refuse .notFitted)
    else if !b.answers o then some (b.refuse .notNow)
    else if !o.typeOk v then some (b.refuse .badType)
    else if !o.rangeOk v then some (b.refuse .outOfRange)
    else
      match b.ownRule n v with
      | some st => some (b.refuse st)
      | none =>
        (b.applyValue o n v).map (fun c =>
          let r := c.cmds.reply
          if o.acc = 3 ∧ (r.status = .ok ∨ r.status = .persistFailed) then
            { c with cmds := { c.cmds with reply := { r with body := leBytes 8 r.ret } } }
          else c)

/-- Changes what a session has staged. -/
def Block.stageValue (b : Block) (i : Nat) (x : Session) (st : Option (Nat × List Byte)) : Block :=
  { b with sessions := tput b.sessions i { x with staged := st } }

/-- A WRITE message: a whole value, or the next segment of one that is staged; a segment out of order, of another object, or a WRITE
between discards the staged value, with BAD_TYPE (R359). -/
def Block.writeMsg (b : Block) (i : Nat) (x : Session) (m : Msg) (obj off : Nat) (v : List Byte) : Option Block :=
  match x.staged with
  | some (o, bs) =>
    if o ≠ obj ∨ off ≠ bs.length ∨ 2 ^ 20 < bs.length + v.length then some ((b.stageValue i x none).refuse .badType)
    else if m.more then some ((b.stageValue i x (some (o, bs ++ v))).refuse .ok)
    else (b.stageValue i x none).writeObj x.role obj (bs ++ v)
  | none =>
    if off ≠ 0 then some (b.refuse .badType)
    else if m.more then some ((b.stageValue i x (some (obj, v))).refuse .ok)
    else b.writeObj x.role obj v

/-- WRITE (R350, R355, R359). -/
def execWrite (sid : Nat) (m : Msg) (obj off : Nat) (v : List Byte) (s : State) : Host.Outcome State Fault Refusal :=
  s.run (fun b => b.onSession sid m (fun c i x => c.writeMsg i x m obj off v))

/-! ### SUBSCRIBE (R358) -/

/-- SUBSCRIBE: the subscription is replaced; logged records from FROM on that match wait first, the last 256 of them (R358). -/
def execSubscribe (sid : Nat) (m : Msg) (minsev from_ : Nat) (areas : List Nat) (s : State) : Host.Outcome State Fault Refusal :=
  s.run (fun b =>
    let c := b.onSession sid m (fun c i x =>
      let rs := (c.events.log.filter (fun (r : EvRec) =>
        decide (from_ ≤ r.seq ∧ minsev ≤ r.sev) && areas.contains (objArea r.unit))).map EvRec.seq
      let y : Session := { x with minsev := minsev, areas := areas, waiting := rs.drop (rs.length - 256) }
      some (({ c with sessions := tput c.sessions i y }).refuse .ok))
    match b.sessionAt sid with
    | some (i, _) => c.pushTo i
    | none => c)

/-! ### The configuration store (R364 to R368) -/

/-- A record is written to a copy: each read-back that fails abandons its slot; after three the device is FAILED and the other copy
takes the record (R366, R367). The answer is whether a read-back was valid. -/
def Block.programCopy (seq : Nat) (r : Tab (List Byte)) : Block → Nat → Nat → List Bool → Block × Bool
  | b, _, _, [] => (b, false)
  | b, k, bad, ok :: t =>
    let c := b.updStore (fun s => s.setCopy k ((s.copy k).program seq r ok))
    if ok then (c, true)
    else if bad + 1 < 3 then Block.programCopy seq r c k (bad + 1) t
    else
      let d := c.failDevice k
      if d.devFailed (1 - k) then (d.raise unitModule .configStoreUnwritable [0], false)
      else Block.programCopy seq r d (1 - k) 0 t

/-- STORE_WRITE: waiting changes are written as one record to the older copy once its slot is erased; the read-backs are what the
device gives (R366, R367, R450). -/
def execStoreWrite (readbacks : List Bool) (s : State) : Host.Outcome State Fault Refusal :=
  s.run (fun b =>
    if b.start.level = .dark ∨ !b.store.dirty ∨ (b.tray.sf0Failed ∧ b.tray.sf1Failed) then b
    else
      let k := if b.devFailed b.store.older then 1 - b.store.older else b.store.older
      if (b.store.copy k).erasing then b
      else
        let seq := b.store.nextSeq
        let r := Block.programCopy seq (storeValues b.store.persist) b k 0 readbacks
        if r.2 then
          (r.1.updStore (fun x => { x with seq := seq, writes := x.writes + 1, dirty := false })).measure 9 seq
        else r.1)

/-- SLOT_ERASE_DONE: the slot after the last one programmed in a copy is blank (R366). -/
def execSlotEraseDone (dev : Nat) (s : State) : Host.Outcome State Fault Refusal :=
  s.run (fun b =>
    if 2 ≤ dev ∨ !(b.store.copy dev).erasing then b
    else b.updStore (fun x =>
      let c := x.copy dev
      x.setCopy dev { c with slots := tdel c.slots c.target, erasing := false }))

/-- A record is written to both copies, A first, under one number, and its values replace the persisted set (R368). -/
def Block.storeBoth (b : Block) (seq : Nat) (t : Tab (List Byte)) (finish : Block → Block) : Block :=
  if b.tray.sf0Failed ∧ b.tray.sf1Failed then (b.raise unitModule .configStoreUnwritable [0]).refuse .persistFailed
  else
    let n := max seq b.store.nextSeq
    let c := [0, 1].foldl (fun (x : Block) k =>
      if x.devFailed k then x
      else x.updStore (fun y => { y.setCopy k ((y.copy k).program n t true) with writes := y.writes + 1 })) b
    finish ((c.updStore (fun x => { x with persist := t, seq := n, dirty := false })).measure 9 n)

/-- STORE_IMAGE: a signed record goes to both copies and replaces the persisted set; its values take effect at the next start
(R368). Its PartNumber entry is taken without the role and strap checks of R2 (DESIGN CHOICE, log entry 86). -/
def execStoreImage (role : Role) (sigOk : Bool) (seq : Nat) (entries : List (Nat × List Byte)) (s : State) :
    Host.Outcome State Fault Refusal :=
  s.run (fun b => b.cmd role .service 0x70 (fun c =>
    if !sigOk then c.refuse .badSignature
    else c.storeBoth seq (entries.foldl (fun (t : Tab (List Byte)) e => tput t e.1 e.2) []) (fun d => d.refuse .ok)))

/-- STORE_RESET: a record that keeps only the objects of vendor role; the values in force stay until the next start (R368). -/
def execStoreReset (role : Role) (s : State) : Host.Outcome State Fault Refusal :=
  s.run (fun b => b.cmd role .service 0x70 (fun c =>
    c.storeBoth 0 (c.store.persist.filter (fun e => match objAt e.1 with | some o => o.role == 3 | none => false))
      (fun d => d.done 0x70000012 0)))

/-- REPAIR_MAP_IMAGE: a map that is signed and bound to this module takes effect at the next start (R369, R450). -/
def execRepairMapImage (role : Role) (sigOk bound rsvZero : Bool) (map : RepairMap) (s : State) : Host.Outcome State Fault Refusal :=
  s.run (fun b => b.cmd role .service 0x70 (fun c =>
    if !rsvZero then c.refuse .rsvNonzero
    else if !sigOk ∨ !bound then c.refuse .badSignature
    else if c.tray.sf0Failed ∧ c.tray.sf1Failed then c.refuse .persistFailed
    else ((c.updStore (fun x => { x with mapNext := some map })).noteRepair).refuse .ok))

/-! ### Alert causes (R352) -/

/-- ALERT_ACKNOWLEDGE: clears set bits among 16 to 18, and returns AlertCauses as it then stands (R352). -/
def execAlertAcknowledge (role : Role) (mask : W32) (s : State) : Host.Outcome State Fault Refusal :=
  s.run (fun b => b.cmd role .operator 0x02 (fun c =>
    let d := { c with tray := { c.tray with alerts := c.tray.alerts &&& ~~~(mask &&& 0x00070000#32) } }
    d.done 0x02000064 d.tray.alerts.toNat))

end Sys2Proof.Machine
end

