-- ==== Sys2Proof/Machine/Dispatch.lean ====
section
/-! DEFINITION. One arm per command: the meaning of each, or its rejection by name. -/

namespace Sys2Proof.Machine

open Sys2Proof

/-- The effect of a command on everything but the queue. -/
def exec (i : Instr) (s : State) : Host.Outcome State Fault Refusal :=
  match i with
  | .partNumberWrite role part => Sys2Proof.Machine.execPartNumberWrite role part s
  | .flitReplay link dir ok => Sys2Proof.Machine.execFlitReplay link dir ok s
  | .retrain link laneErrors => Sys2Proof.Machine.execRetrain link laneErrors s
  | .linkTrainingDone link out => Sys2Proof.Machine.execLinkTrainingDone link out s
  | .sidebandLaneFail link dir => Sys2Proof.Machine.execSidebandLaneFail link dir s
  | .aStage l b => Sys2Proof.Machine.execAStage l b s
  | .beamIssue l b => Sys2Proof.Machine.execBeamIssue l b s
  | .beamComplete l b chk verdict => Sys2Proof.Machine.execBeamComplete l b chk verdict s
  | .vectorReload l digestOk => Sys2Proof.Machine.execVectorReload l digestOk s
  | .nop l h w => Sys2Proof.Machine.execNop l h w s
  | .endProg l h w => Sys2Proof.Machine.execEndProg l h w s
  | .raise l h w => Sys2Proof.Machine.execRaise l h w s
  | .j l h w => Sys2Proof.Machine.execJ l h w s
  | .jr l h w => Sys2Proof.Machine.execJr l h w s
  | .call l h w => Sys2Proof.Machine.execCall l h w s
  | .brEq l h w => Sys2Proof.Machine.execBrEq l h w s
  | .brNe l h w => Sys2Proof.Machine.execBrNe l h w s
  | .brLt l h w => Sys2Proof.Machine.execBrLt l h w s
  | .brGe l h w => Sys2Proof.Machine.execBrGe l h w s
  | .brLtu l h w => Sys2Proof.Machine.execBrLtu l h w s
  | .brGeu l h w => Sys2Proof.Machine.execBrGeu l h w s
  | .loop l h w => Sys2Proof.Machine.execLoop l h w s
  | .add l h w => Sys2Proof.Machine.execAdd l h w s
  | .sub l h w => Sys2Proof.Machine.execSub l h w s
  | .and l h w => Sys2Proof.Machine.execAnd l h w s
  | .or l h w => Sys2Proof.Machine.execOr l h w s
  | .xor l h w => Sys2Proof.Machine.execXor l h w s
  | .shl l h w => Sys2Proof.Machine.execShl l h w s
  | .shr l h w => Sys2Proof.Machine.execShr l h w s
  | .sra l h w => Sys2Proof.Machine.execSra l h w s
  | .mul l h w => Sys2Proof.Machine.execMul l h w s
  | .mulhu l h w => Sys2Proof.Machine.execMulhu l h w s
  | .divu l h w => Sys2Proof.Machine.execDivu l h w s
  | .remu l h w => Sys2Proof.Machine.execRemu l h w s
  | .slt l h w => Sys2Proof.Machine.execSlt l h w s
  | .sltu l h w => Sys2Proof.Machine.execSltu l h w s
  | .lih l h w => Sys2Proof.Machine.execLih l h w s
  | .maxu l h w => Sys2Proof.Machine.execMaxu l h w s
  | .fadd l h w => Sys2Proof.Machine.execFadd l h w s
  | .fsub l h w => Sys2Proof.Machine.execFsub l h w s
  | .fmul l h w => Sys2Proof.Machine.execFmul l h w s
  | .fdiv l h w => Sys2Proof.Machine.execFdiv l h w s
  | .fsqrt l h w => Sys2Proof.Machine.execFsqrt l h w s
  | .fma l h w => Sys2Proof.Machine.execFma l h w s
  | .fmin l h w => Sys2Proof.Machine.execFmin l h w s
  | .fmax l h w => Sys2Proof.Machine.execFmax l h w s
  | .fcvtFI l h w => Sys2Proof.Machine.execFcvtFI l h w s
  | .fcvtIF l h w => Sys2Proof.Machine.execFcvtIF l h w s
  | .flt l h w => Sys2Proof.Machine.execFlt l h w s
  | .feq l h w => Sys2Proof.Machine.execFeq l h w s
  | .tscale l h w => Sys2Proof.Machine.execTscale l h w s
  | .ld l h w => Sys2Proof.Machine.execLd l h w s
  | .st l h w => Sys2Proof.Machine.execSt l h w s
  | .ldAcq l h w => Sys2Proof.Machine.execLdAcq l h w s
  | .stRel l h w => Sys2Proof.Machine.execStRel l h w s
  | .tld l h w => Sys2Proof.Machine.execTld l h w s
  | .tst l h w => Sys2Proof.Machine.execTst l h w s
  | .tset l h w => Sys2Proof.Machine.execTset l h w s
  | .tget l h w => Sys2Proof.Machine.execTget l h w s
  | .tadv l h w => Sys2Proof.Machine.execTadv l h w s
  | .ldl l h w => Sys2Proof.Machine.execLdl l h w s
  | .stl l h w => Sys2Proof.Machine.execStl l h w s
  | .moveM2L l h w => Sys2Proof.Machine.execMoveM2L l h w s
  | .moveL2M l h w => Sys2Proof.Machine.execMoveL2M l h w s
  | .moveL2F l h w => Sys2Proof.Machine.execMoveL2F l h w s
  | .moveDone id => Sys2Proof.Machine.execMoveDone id s
  | .beam l h w => Sys2Proof.Machine.execBeam l h w s
  | .claim l h w => Sys2Proof.Machine.execClaim l h w s
  | .claimGrant l => Sys2Proof.Machine.execClaimGrant l s
  | .release l h w => Sys2Proof.Machine.execRelease l h w s
  | .post l h w => Sys2Proof.Machine.execPost l h w s
  | .reduceSum l h w => Sys2Proof.Machine.execReduceSum l h w s
  | .reduceMax l h w => Sys2Proof.Machine.execReduceMax l h w s
  | .reduceMin l h w => Sys2Proof.Machine.execReduceMin l h w s
  | .amax l h w => Sys2Proof.Machine.execAmax l h w s
  | .amaxAcc l h w => Sys2Proof.Machine.execAmaxAcc l h w s
  | .optStep l h w => Sys2Proof.Machine.execOptStep l h w s
  | .optClose l h w => Sys2Proof.Machine.execOptClose l h w s
  | .sink l h w => Sys2Proof.Machine.execSink l h w s
  | .send l h w => Sys2Proof.Machine.execSend l h w s
  | .sendArrival id k => Sys2Proof.Machine.execSendArrival id k s
  | .recv l h w => Sys2Proof.Machine.execRecv l h w s
  | .recvTimeout l h => Sys2Proof.Machine.execRecvTimeout l h s
  | .waitflash l h w => Sys2Proof.Machine.execWaitflash l h w s
  | .waitstream l h w => Sys2Proof.Machine.execWaitstream l h w s
  | .waitLine l h w => Sys2Proof.Machine.execWaitLine l h w s
  | .waitLineTimeout l h => Sys2Proof.Machine.execWaitLineTimeout l h s
  | .watchPoll l h => Sys2Proof.Machine.execWatchPoll l h s
  | .waitTally l h w => Sys2Proof.Machine.execWaitTally l h w s
  | .atomAdd l h w => Sys2Proof.Machine.execAtomAdd l h w s
  | .atomAnd l h w => Sys2Proof.Machine.execAtomAnd l h w s
  | .atomOr l h w => Sys2Proof.Machine.execAtomOr l h w s
  | .atomXor l h w => Sys2Proof.Machine.execAtomXor l h w s
  | .atomMin l h w => Sys2Proof.Machine.execAtomMin l h w s
  | .atomMax l h w => Sys2Proof.Machine.execAtomMax l h w s
  | .atomMinu l h w => Sys2Proof.Machine.execAtomMinu l h w s
  | .atomMaxu l h w => Sys2Proof.Machine.execAtomMaxu l h w s
  | .atomSwap l h w => Sys2Proof.Machine.execAtomSwap l h w s
  | .atomCas l h w => Sys2Proof.Machine.execAtomCas l h w s
  | .fence l h w => Sys2Proof.Machine.execFence l h w s
  | .setop l h w => Sys2Proof.Machine.execSetop l h w s
  | .check l h w => Sys2Proof.Machine.execCheck l h w s
  | .selftest l h w => Sys2Proof.Machine.execSelftest l h w s
  | .create role c => Sys2Proof.Machine.execCreate role c s
  | .registerQueue role c d => Sys2Proof.Machine.execRegisterQueue role c d s
  | .unregisterQueue role q => Sys2Proof.Machine.execUnregisterQueue role q s
  | .destroy role c => Sys2Proof.Machine.execDestroy role c s
  | .destroyDone c => Sys2Proof.Machine.execDestroyDone c s
  | .watchNotice l slot => Sys2Proof.Machine.execWatchNotice l slot s
  | .take l => Sys2Proof.Machine.execTake l s
  | .queueHeadWait l slot => Sys2Proof.Machine.execQueueHeadWait l slot s
  | .join l h => Sys2Proof.Machine.execJoin l h s
  | .abandon l h => Sys2Proof.Machine.execAbandon l h s
  | .latenessExpiry l h => Sys2Proof.Machine.execLatenessExpiry l h s
  | .form role g d => Sys2Proof.Machine.execForm role g d s
  | .reform role g => Sys2Proof.Machine.execReform role g s
  | .dissolve role g => Sys2Proof.Machine.execDissolve role g s
  | .flashFire g held => Sys2Proof.Machine.execFlashFire g held s
  | .flashArrival g member => Sys2Proof.Machine.execFlashArrival g member s
  | .flashActionDone g member idx => Sys2Proof.Machine.execFlashActionDone g member idx s
  | .groupStall g => Sys2Proof.Machine.execGroupStall g s
  | .sinkAdmit k => Sys2Proof.Machine.execSinkAdmit k s
  | .gatherPool k id => Sys2Proof.Machine.execGatherPool k id s
  | .scoreTopk k id => Sys2Proof.Machine.execScoreTopk k id s
  | .stats k id => Sys2Proof.Machine.execStats k id s
  | .fill k id => Sys2Proof.Machine.execFill k id s
  | .checksum k id => Sys2Proof.Machine.execChecksum k id s
  | .copy k id => Sys2Proof.Machine.execCopy k id s
  | .sinkDone k id => Sys2Proof.Machine.execSinkDone k id s
  | .stackTempSample k milliC => Sys2Proof.Machine.execStackTempSample k milliC s
  | .sinkerLost k => Sys2Proof.Machine.execSinkerLost k s
  | .regionAdd role d base n c policy => Sys2Proof.Machine.execRegionAdd role d base n c policy s
  | .regionRemove role r => Sys2Proof.Machine.execRegionRemove role r s
  | .releaseBerths role base n => Sys2Proof.Machine.execReleaseBerths role base n s
  | .reload role base n => Sys2Proof.Machine.execReload role base n s
  | .streamAdd role pa => Sys2Proof.Machine.execStreamAdd role pa s
  | .streamRemove role k => Sys2Proof.Machine.execStreamRemove role k s
  | .evacuate role d => Sys2Proof.Machine.execEvacuate role d s
  | .tierReturn role d => Sys2Proof.Machine.execTierReturn role d s
  | .berthQuery role pa => Sys2Proof.Machine.execBerthQuery role pa s
  | .migrationEpoch d => Sys2Proof.Machine.execMigrationEpoch d s
  | .berthMoveFlip d berth => Sys2Proof.Machine.execBerthMoveFlip d berth s
  | .layerResident d k layer errs => Sys2Proof.Machine.execLayerResident d k layer errs s
  | .frameZeroed d tier frame => Sys2Proof.Machine.execFrameZeroed d tier frame s
  | .channelRetrain ch tooOften unreadable => Sys2Proof.Machine.execChannelRetrain ch tooOften unreadable s
  | .channelRetrainDone ch => Sys2Proof.Machine.execChannelRetrainDone ch s
  | .evacuationDone d => Sys2Proof.Machine.execEvacuationDone d s
  | .repairDone d pass => Sys2Proof.Machine.execRepairDone d pass s
  | .returnDone d => Sys2Proof.Machine.execReturnDone d s
  | .evacuationRetry d => Sys2Proof.Machine.execEvacuationRetry d s
  | .rowRemap ch bank row frames uncorrectable => Sys2Proof.Machine.execRowRemap ch bank row frames uncorrectable s
  | .rdS a pa ecc => Sys2Proof.Machine.execRdS a pa ecc s
  | .rdX a pa => Sys2Proof.Machine.execRdX a pa s
  | .upg a pa => Sys2Proof.Machine.execUpg a pa s
  | .rdOnce a pa => Sys2Proof.Machine.execRdOnce a pa s
  | .wrLine a pa data => Sys2Proof.Machine.execWrLine a pa data s
  | .wrPart a pa mask data => Sys2Proof.Machine.execWrPart a pa mask data s
  | .homeAtom a pa op w64 x cmp => Sys2Proof.Machine.execHomeAtom a pa op w64 x cmp s
  | .watch id pa => Sys2Proof.Machine.execWatch id pa s
  | .unwatch id pa => Sys2Proof.Machine.execUnwatch id pa s
  | .wb a pa => Sys2Proof.Machine.execWb a pa s
  | .evictClean a pa => Sys2Proof.Machine.execEvictClean a pa s
  | .snpInv a pa => Sys2Proof.Machine.execSnpInv a pa s
  | .snpFwdS a pa parity => Sys2Proof.Machine.execSnpFwdS a pa parity s
  | .snpFwdX a pa parity => Sys2Proof.Machine.execSnpFwdX a pa parity s
  | .snpPeek a pa parity => Sys2Proof.Machine.execSnpPeek a pa parity s
  | .snpRecall a pa parity => Sys2Proof.Machine.execSnpRecall a pa parity s
  | .grant a pa => Sys2Proof.Machine.execGrant a pa s
  | .data a pa => Sys2Proof.Machine.execData a pa s
  | .invAck a pa => Sys2Proof.Machine.execInvAck a pa s
  | .downgradeAck a pa => Sys2Proof.Machine.execDowngradeAck a pa s
  | .complete a pa => Sys2Proof.Machine.execComplete a pa s
  | .recallData a pa => Sys2Proof.Machine.execRecallData a pa s
  | .moved a b pa => Sys2Proof.Machine.execMoved a b pa s
  | .cacheScrub cache pa found => Sys2Proof.Machine.execCacheScrub cache pa found s
  | .clean t door => Sys2Proof.Machine.execClean t door s
  | .invalidate t door => Sys2Proof.Machine.execInvalidate t door s
  | .cleanInvalidate t door => Sys2Proof.Machine.execCleanInvalidate t door s
  | .rangeCommandDone t id => Sys2Proof.Machine.execRangeCommandDone t id s
  | .registerRing role t c header ring log2 => Sys2Proof.Machine.execRegisterRing role t c header ring log2 s
  | .removeRing role t k => Sys2Proof.Machine.execRemoveRing role t k s
  | .chartResume l c => Sys2Proof.Machine.execChartResume l c s
  | .faultBatchTimer c => Sys2Proof.Machine.execFaultBatchTimer c s
  | .faultRingRoom c => Sys2Proof.Machine.execFaultRingRoom c s
  | .withdraw role c va length ack => Sys2Proof.Machine.execWithdraw role c va length ack s
  | .withdrawAll role c ack => Sys2Proof.Machine.execWithdrawAll role c ack s
  | .withdrawAck seq => Sys2Proof.Machine.execWithdrawAck seq s
  | .withdrawLimit seq => Sys2Proof.Machine.execWithdrawLimit seq s
  | .bufferedStorePerform l => Sys2Proof.Machine.execBufferedStorePerform l s
  | .postedWritePerform hart => Sys2Proof.Machine.execPostedWritePerform hart s
  | .deviceTimeout access => Sys2Proof.Machine.execDeviceTimeout access s
  | .keeperLoad hart rd pa size kind => Sys2Proof.Machine.execKeeperLoad hart rd pa size kind s
  | .keeperStore hart pa size v => Sys2Proof.Machine.execKeeperStore hart pa size v s
  | .keeperAmo hart rd pa op size x cmp => Sys2Proof.Machine.execKeeperAmo hart rd pa op size x cmp s
  | .lr hart rd pa size => Sys2Proof.Machine.execLr hart rd pa size s
  | .sc hart rd pa size v => Sys2Proof.Machine.execSc hart rd pa size v s
  | .keeperFence hart io => Sys2Proof.Machine.execKeeperFence hart io s
  | .cboClean hart pa => Sys2Proof.Machine.execCboClean hart pa s
  | .cboFlush hart pa => Sys2Proof.Machine.execCboFlush hart pa s
  | .cboInval hart pa => Sys2Proof.Machine.execCboInval hart pa s
  | .cboZero hart pa => Sys2Proof.Machine.execCboZero hart pa s
  | .wrsNto hart traps => Sys2Proof.Machine.execWrsNto hart traps s
  | .wrsSto hart => Sys2Proof.Machine.execWrsSto hart s
  | .wrsTimeout hart => Sys2Proof.Machine.execWrsTimeout hart s
  | .gsvFence hart priv w => Sys2Proof.Machine.execGsvFence hart priv w s
  | .gsvLdAq hart priv w => Sys2Proof.Machine.execGsvLdAq hart priv w s
  | .gsvSdRl hart priv w => Sys2Proof.Machine.execGsvSdRl hart priv w s
  | .gsvRange hart priv w => Sys2Proof.Machine.execGsvRange hart priv w s
  | .perfWrite cl v => Sys2Proof.Machine.execPerfWrite cl v s
  | .pllRelockDone cl => Sys2Proof.Machine.execPllRelockDone cl s
  | .keeperClusterLost cl => Sys2Proof.Machine.execKeeperClusterLost cl s
  | .interruptWrite pa size v fromHart => Sys2Proof.Machine.execInterruptWrite pa size v fromHart s
  | .portEnable p on => Sys2Proof.Machine.execPortEnable p on s
  | .portReset r => Sys2Proof.Machine.execPortReset r s
  | .portHang p => Sys2Proof.Machine.execPortHang p s
  | .reloadQp p k => Sys2Proof.Machine.execReloadQp p k s
  | .reloadCq p k => Sys2Proof.Machine.execReloadCq p k s
  | .reloadMr p k => Sys2Proof.Machine.execReloadMr p k s
  | .reloadPostRing p k => Sys2Proof.Machine.execReloadPostRing p k s
  | .reloadEthQueue p k => Sys2Proof.Machine.execReloadEthQueue p k s
  | .postQpSend p ring => Sys2Proof.Machine.execPostQpSend p ring s
  | .postQpReceive p ring => Sys2Proof.Machine.execPostQpReceive p ring s
  | .postEthSend p ring => Sys2Proof.Machine.execPostEthSend p ring s
  | .postEthReceive p ring => Sys2Proof.Machine.execPostEthReceive p ring s
  | .cqArm p ring => Sys2Proof.Machine.execCqArm p ring s
  | .ethSend p q => Sys2Proof.Machine.execEthSend p q s
  | .roceSend p qpn => Sys2Proof.Machine.execRoceSend p qpn s
  | .sendImm p qpn => Sys2Proof.Machine.execSendImm p qpn s
  | .roceWrite p qpn => Sys2Proof.Machine.execRoceWrite p qpn s
  | .writeImm p qpn => Sys2Proof.Machine.execWriteImm p qpn s
  | .roceRead p qpn => Sys2Proof.Machine.execRoceRead p qpn s
  | .fetchAdd p qpn => Sys2Proof.Machine.execFetchAdd p qpn s
  | .cmpSwap p qpn => Sys2Proof.Machine.execCmpSwap p qpn s
  | .ethFrameRx p mac f => Sys2Proof.Machine.execEthFrameRx p mac f s
  | .roceRequestRx p r => Sys2Proof.Machine.execRoceRequestRx p r s
  | .roceResponseRx p r => Sys2Proof.Machine.execRoceResponseRx p r s
  | .ackTimeout p qpn => Sys2Proof.Machine.execAckTimeout p qpn s
  | .cnpRx p qpn => Sys2Proof.Machine.execCnpRx p qpn s
  | .ccTimer p qpn e => Sys2Proof.Machine.execCcTimer p qpn e s
  | .macLinkLoss p mac => Sys2Proof.Machine.execMacLinkLoss p mac s
  | .cartridgeInsert c => Sys2Proof.Machine.execCartridgeInsert c s
  | .cartridgeCheckDone c verified => Sys2Proof.Machine.execCartridgeCheckDone c verified s
  | .prepareSwap role c => Sys2Proof.Machine.execPrepareSwap role c s
  | .latchOpen c => Sys2Proof.Machine.execLatchOpen c s
  | .cartridgeFault c => Sys2Proof.Machine.execCartridgeFault c s
  | .cartridgePoll c r => Sys2Proof.Machine.execCartridgePoll c r s
  | .cartridgeSilent c => Sys2Proof.Machine.execCartridgeSilent c s
  | .supplyHigh => Sys2Proof.Machine.execSupplyHigh s
  | .supplyHighClear => Sys2Proof.Machine.execSupplyHighClear s
  | .supplyOvervoltage => Sys2Proof.Machine.execSupplyOvervoltage s
  | .coolantWarm => Sys2Proof.Machine.execCoolantWarm s
  | .coolantDerateClear => Sys2Proof.Machine.execCoolantDerateClear s
  | .coolantHot => Sys2Proof.Machine.execCoolantHot s
  | .coolantLeak trace => Sys2Proof.Machine.execCoolantLeak trace s
  | .flowLost returned => Sys2Proof.Machine.execFlowLost returned s
  | .trayPowerWarn => Sys2Proof.Machine.execTrayPowerWarn s
  | .trayReset lowNs => Sys2Proof.Machine.execTrayReset lowNs s
  | .slotIdSample samples atStart => Sys2Proof.Machine.execSlotIdSample samples atStart s
  | .sensorSample sensor reading => Sys2Proof.Machine.execSensorSample sensor reading s
  | .sensorInvalid sensor => Sys2Proof.Machine.execSensorInvalid sensor s
  | .serviceBusNoBeacon => Sys2Proof.Machine.execServiceBusNoBeacon s
  | .coldStart kind inp => Sys2Proof.Machine.execColdStart kind inp s
  | .hubRomRetry inp => Sys2Proof.Machine.execHubRomRetry inp s
  | .mainRailsStart inp => Sys2Proof.Machine.execMainRailsStart inp s
  | .warm role inp cold => Sys2Proof.Machine.execWarm role inp cold s
  | .dark role => Sys2Proof.Machine.execDark role s
  | .sessionInit mailbox slot multicast body role => Sys2Proof.Machine.execSessionInit mailbox slot multicast body role s
  | .sessionConfirm sid ok => Sys2Proof.Machine.execSessionConfirm sid ok s
  | .sessionClose sid => Sys2Proof.Machine.execSessionClose sid s
  | .sessionTimeout sid => Sys2Proof.Machine.execSessionTimeout sid s
  | .read sid m obj off maxlen => Sys2Proof.Machine.execRead sid m obj off maxlen s
  | .write sid m obj off v => Sys2Proof.Machine.execWrite sid m obj off v s
  | .subscribe sid m minsev from_ areas => Sys2Proof.Machine.execSubscribe sid m minsev from_ areas s
  | .mailboxSend mb len hart => Sys2Proof.Machine.execMailboxSend mb len hart s
  | .replyDone mb => Sys2Proof.Machine.execReplyDone mb s
  | .eventDone mb => Sys2Proof.Machine.execEventDone mb s
  | .storeWrite readbacks => Sys2Proof.Machine.execStoreWrite readbacks s
  | .slotEraseDone dev => Sys2Proof.Machine.execSlotEraseDone dev s
  | .storeImage role sigOk seq entries => Sys2Proof.Machine.execStoreImage role sigOk seq entries s
  | .storeReset role => Sys2Proof.Machine.execStoreReset role s
  | .repairMapImage role sigOk bound rsvZero map => Sys2Proof.Machine.execRepairMapImage role sigOk bound rsvZero map s
  | .alertAcknowledge role mask => Sys2Proof.Machine.execAlertAcknowledge role mask s
  | .eventFetch role from_ count => Sys2Proof.Machine.execEventFetch role from_ count s
  | .eventsSuppressed unit ev => Sys2Proof.Machine.execEventsSuppressed unit ev s
  | .eventLogWrite => Sys2Proof.Machine.execEventLogWrite s
  | .powerWindow acts => Sys2Proof.Machine.execPowerWindow acts s
  | .estimatorRefit => Sys2Proof.Machine.execEstimatorRefit s
  | .disagreementCheck m e persisted => Sys2Proof.Machine.execDisagreementCheck m e persisted s
  | .thermalSample unit milliC => Sys2Proof.Machine.execThermalSample unit milliC s
  | .thermalTrip unit => Sys2Proof.Machine.execThermalTrip unit s
  | .dimStepEnter step => Sys2Proof.Machine.execDimStepEnter step s
  | .dimStepExit step => Sys2Proof.Machine.execDimStepExit step s
  | .lanternLost l cause => Sys2Proof.Machine.execLanternLost l cause s
  | .hubLost => Sys2Proof.Machine.execHubLost s
  | .unitResetLantern role l mode => Sys2Proof.Machine.execUnitResetLantern role l mode s
  | .unitResetKeeperCluster role cl mode => Sys2Proof.Machine.execUnitResetKeeperCluster role cl mode s
  | .unitResetPort role p mode => Sys2Proof.Machine.execUnitResetPort role p mode s
  | .unitResetStackChannel role ch mode => Sys2Proof.Machine.execUnitResetStackChannel role ch mode s
  | .unitResetBulkChannel role ch mode => Sys2Proof.Machine.execUnitResetBulkChannel role ch mode s
  | .unitResetTile role t mode => Sys2Proof.Machine.execUnitResetTile role t mode s
  | .errorBankRead role unit idx => Sys2Proof.Machine.execErrorBankRead role unit idx s
  | .errorBankClear role unit => Sys2Proof.Machine.execErrorBankClear role unit s
  | .offwatchSlot => Sys2Proof.Machine.execOffwatchSlot s
  | .offwatchDrainLimit => Sys2Proof.Machine.execOffwatchDrainLimit s
  | .offwatchSwap vectorsOk => Sys2Proof.Machine.execOffwatchSwap vectorsOk s
  | .offwatchScanDone pass slowdown => Sys2Proof.Machine.execOffwatchScanDone pass slowdown s
  | .sinkerScan k eng pass => Sys2Proof.Machine.execSinkerScan k eng pass s
  | .keeperScan role cl pass => Sys2Proof.Machine.execKeeperScan role cl pass s
  | .tileScan role t pass => Sys2Proof.Machine.execTileScan role t pass s
  | .keeperScanDue cl => Sys2Proof.Machine.execKeeperScanDue cl s
  | .tileScanDue t => Sys2Proof.Machine.execTileScanDue t s
  | .checkCapture l id => Sys2Proof.Machine.execCheckCapture l id s
  | .checkerDone id => Sys2Proof.Machine.execCheckerDone id s
  | .voterDone id => Sys2Proof.Machine.execVoterDone id s
  | .checkExpired id => Sys2Proof.Machine.execCheckExpired id s
  | .drain role => Sys2Proof.Machine.execDrain role s
  | .resume role => Sys2Proof.Machine.execResume role s
  | .drainLimit => Sys2Proof.Machine.execDrainLimit s
  | .moduleCondemned => Sys2Proof.Machine.execModuleCondemned s
  | .slotWindow role cls bytes => Sys2Proof.Machine.execSlotWindow role cls bytes s
  | .verify role cls hdr => Sys2Proof.Machine.execVerify role cls hdr s
  | .activate role cls mask => Sys2Proof.Machine.execActivate role cls mask s
  | .revert role cls mask => Sys2Proof.Machine.execRevert role cls mask s
  | .commit role cls => Sys2Proof.Machine.execCommit role cls s
  | .unitSwitch cls unit => Sys2Proof.Machine.execUnitSwitch cls unit s
  | .firmwareSwitchSkipped cls unit => Sys2Proof.Machine.execFirmwareSwitchSkipped cls unit s
  | .firmwareReverted cls unit => Sys2Proof.Machine.execFirmwareReverted cls unit s
  | .promote role l => Sys2Proof.Machine.execPromote role l s
  | .relight role l ok => Sys2Proof.Machine.execRelight role l ok s
  | .bypass role l b mask => Sys2Proof.Machine.execBypass role l b mask s
  | .bypassApplied l => Sys2Proof.Machine.execBypassApplied l s
  | .linkRetrain role link => Sys2Proof.Machine.execLinkRetrain role link s
  | .takeOut role ch => Sys2Proof.Machine.execTakeOut role ch s
  | .channelEvacuated ch => Sys2Proof.Machine.execChannelEvacuated ch s
  | .bringIn role ch => Sys2Proof.Machine.execBringIn role ch s
  | .channelTrained ch dimm => Sys2Proof.Machine.execChannelTrained ch dimm s
  | .channelReturned ch => Sys2Proof.Machine.execChannelReturned ch s
  | .measure role l slowdown => Sys2Proof.Machine.execMeasure role l slowdown s
  | .replan role l => Sys2Proof.Machine.execReplan role l s
  | .resetGuard role l => Sys2Proof.Machine.execResetGuard role l s
  | .ageingImport role sigOk records => Sys2Proof.Machine.execAgeingImport role sigOk records s
  | .ageingModeWrite role on => Sys2Proof.Machine.execAgeingModeWrite role on s
  | .spdmExchange role code version algsOffered => Sys2Proof.Machine.execSpdmExchange role code version algsOffered s
  | .debugAuthorise role tok => Sys2Proof.Machine.execDebugAuthorise role tok s
  | .hold role g => Sys2Proof.Machine.execHold role g s
  | .guestRelease role g pass => Sys2Proof.Machine.execGuestRelease role g pass s
  | .attest role g pass => Sys2Proof.Machine.execAttest role g pass s
  | .guestWindowsWrite role g idx win => Sys2Proof.Machine.execGuestWindowsWrite role g idx win s
  | .guestRead g addr => Sys2Proof.Machine.execGuestRead g addr s
  | .guestWrite g addr mask data poison => Sys2Proof.Machine.execGuestWrite g addr mask data poison s
  | .guestPowerSample g milliW avg10 above100ms above90 => Sys2Proof.Machine.execGuestPowerSample g milliW avg10 above100ms above90 s
  | .guestLost g => Sys2Proof.Machine.execGuestLost g s
  | .operatingPointChangeDone l => Sys2Proof.Machine.execOperatingPointChangeDone l s
  | .macLinkUp p mac => Sys2Proof.Machine.execMacLinkUp p mac s
  | .serviceBusBeacon => Sys2Proof.Machine.execServiceBusBeacon s
  | .portHeartbeatLost p => Sys2Proof.Machine.execPortHeartbeatLost p s
  | .illegal l h w => Sys2Proof.Machine.execIllegal l h w s

end Sys2Proof.Machine
end

