-- ==== Sys2Proof/WellFormed.lean ====
section
/-! DEFINITION. Well-formed commands: every unit that a command names exists. -/

namespace Sys2Proof

open Sys2Proof.Machine

/-- Whether a lantern and a hardware context exist (R42, R101). -/
def wfLamp (l h : Nat) : Bool := decide (l < 64 ∧ h < 4)

/-- Whether every unit, agent or register that a command names exists. -/
def Instr.wf : Instr → Bool
  | .partNumberWrite _ _ => true
  | .flitReplay link dir _ => decide (link < 12) && decide (dir < 2)
  | .retrain link _ => decide (link < 12)
  | .linkTrainingDone link _ => decide (link < 12)
  | .sidebandLaneFail link dir => decide (link < 12) && decide (dir < 2)
  | .aStage l b => decide (l < 64) && decide (b < 16)
  | .beamIssue l b => decide (l < 64) && decide (b < 16)
  | .beamComplete l b _ _ => decide (l < 64) && decide (b < 16)
  | .vectorReload l _ => decide (l < 64)
  | .nop l h _ => wfLamp l h
  | .endProg l h _ => wfLamp l h
  | .raise l h _ => wfLamp l h
  | .j l h _ => wfLamp l h
  | .jr l h _ => wfLamp l h
  | .call l h _ => wfLamp l h
  | .brEq l h _ => wfLamp l h
  | .brNe l h _ => wfLamp l h
  | .brLt l h _ => wfLamp l h
  | .brGe l h _ => wfLamp l h
  | .brLtu l h _ => wfLamp l h
  | .brGeu l h _ => wfLamp l h
  | .loop l h _ => wfLamp l h
  | .add l h _ => wfLamp l h
  | .sub l h _ => wfLamp l h
  | .and l h _ => wfLamp l h
  | .or l h _ => wfLamp l h
  | .xor l h _ => wfLamp l h
  | .shl l h _ => wfLamp l h
  | .shr l h _ => wfLamp l h
  | .sra l h _ => wfLamp l h
  | .mul l h _ => wfLamp l h
  | .mulhu l h _ => wfLamp l h
  | .divu l h _ => wfLamp l h
  | .remu l h _ => wfLamp l h
  | .slt l h _ => wfLamp l h
  | .sltu l h _ => wfLamp l h
  | .lih l h _ => wfLamp l h
  | .maxu l h _ => wfLamp l h
  | .fadd l h _ => wfLamp l h
  | .fsub l h _ => wfLamp l h
  | .fmul l h _ => wfLamp l h
  | .fdiv l h _ => wfLamp l h
  | .fsqrt l h _ => wfLamp l h
  | .fma l h _ => wfLamp l h
  | .fmin l h _ => wfLamp l h
  | .fmax l h _ => wfLamp l h
  | .fcvtFI l h _ => wfLamp l h
  | .fcvtIF l h _ => wfLamp l h
  | .flt l h _ => wfLamp l h
  | .feq l h _ => wfLamp l h
  | .tscale l h _ => wfLamp l h
  | .ld l h _ => wfLamp l h
  | .st l h _ => wfLamp l h
  | .ldAcq l h _ => wfLamp l h
  | .stRel l h _ => wfLamp l h
  | .tld l h _ => wfLamp l h
  | .tst l h _ => wfLamp l h
  | .tset l h _ => wfLamp l h
  | .tget l h _ => wfLamp l h
  | .tadv l h _ => wfLamp l h
  | .ldl l h _ => wfLamp l h
  | .stl l h _ => wfLamp l h
  | .moveM2L l h _ => wfLamp l h
  | .moveL2M l h _ => wfLamp l h
  | .moveL2F l h _ => wfLamp l h
  | .moveDone _ => true
  | .beam l h _ => wfLamp l h
  | .claim l h _ => wfLamp l h
  | .claimGrant l => decide (l < 64)
  | .release l h _ => wfLamp l h
  | .post l h _ => wfLamp l h
  | .reduceSum l h _ => wfLamp l h
  | .reduceMax l h _ => wfLamp l h
  | .reduceMin l h _ => wfLamp l h
  | .amax l h _ => wfLamp l h
  | .amaxAcc l h _ => wfLamp l h
  | .optStep l h _ => wfLamp l h
  | .optClose l h _ => wfLamp l h
  | .sink l h _ => wfLamp l h
  | .send l h _ => wfLamp l h
  | .sendArrival _ _ => true
  | .recv l h _ => wfLamp l h
  | .recvTimeout l h => decide (l < 64) && decide (h < 4)
  | .waitflash l h _ => wfLamp l h
  | .waitstream l h _ => wfLamp l h
  | .waitLine l h _ => wfLamp l h
  | .waitLineTimeout l h => decide (l < 64) && decide (h < 4)
  | .watchPoll l h => decide (l < 64) && decide (h < 4)
  | .waitTally l h _ => wfLamp l h
  | .atomAdd l h _ => wfLamp l h
  | .atomAnd l h _ => wfLamp l h
  | .atomOr l h _ => wfLamp l h
  | .atomXor l h _ => wfLamp l h
  | .atomMin l h _ => wfLamp l h
  | .atomMax l h _ => wfLamp l h
  | .atomMinu l h _ => wfLamp l h
  | .atomMaxu l h _ => wfLamp l h
  | .atomSwap l h _ => wfLamp l h
  | .atomCas l h _ => wfLamp l h
  | .fence l h _ => wfLamp l h
  | .setop l h _ => wfLamp l h
  | .check l h _ => wfLamp l h
  | .selftest l h _ => wfLamp l h
  | .create _ c => decide (c < 256)
  | .registerQueue _ c d => decide (c < 256) && decide (d < 2 ^ 52)
  | .unregisterQueue _ q => decide (q < 1024)
  | .destroy _ c => decide (c < 256)
  | .destroyDone c => decide (c < 256)
  | .watchNotice l slot => decide (l < 64) && decide (slot < 16)
  | .take l => decide (l < 64)
  | .queueHeadWait l slot => decide (l < 64) && decide (slot < 16)
  | .join l h => decide (l < 64) && decide (h < 4)
  | .abandon l h => decide (l < 64) && decide (h < 4)
  | .latenessExpiry l h => decide (l < 64) && decide (h < 4)
  | .form _ g d => decide (g < 16) && decide (d < 2 ^ 52)
  | .reform _ g => decide (g < 16)
  | .dissolve _ g => decide (g < 16)
  | .flashFire g _ => decide (g < 16)
  | .flashArrival g a => decide (g < 16) && decide (a.member < 80)
  | .flashActionDone g member _ => decide (g < 16) && decide (member < 80)
  | .groupStall g => decide (g < 16)
  | .sinkAdmit s => decide (s < 16)
  | .gatherPool s _ => decide (s < 16)
  | .scoreTopk s _ => decide (s < 16)
  | .stats s _ => decide (s < 16)
  | .fill s _ => decide (s < 16)
  | .checksum s _ => decide (s < 16)
  | .copy s _ => decide (s < 16)
  | .sinkDone s _ => decide (s < 16)
  | .stackTempSample s _ => decide (s < 16)
  | .sinkerLost s => decide (s < 16)
  | .regionAdd _ d _ _ c _ => decide (d < 8) && decide (c < 256)
  | .regionRemove _ _ => true
  | .releaseBerths _ _ _ => true
  | .reload _ _ _ => true
  | .streamAdd _ pa => decide (pa < 2 ^ 52)
  | .streamRemove _ s => decide (s < 256)
  | .evacuate _ d => decide (d < 8)
  | .tierReturn _ d => decide (d < 8)
  | .berthQuery _ pa => decide (pa < 2 ^ 52)
  | .migrationEpoch d => decide (d < 8)
  | .berthMoveFlip d berth => decide (d < 8) && decide (berth.berth / 2 ^ 24 = d) && berth.bad.all (fun i => decide (i < 1024))
  | .layerResident d s _ _ => decide (d < 8) && decide (s / 32 = d)
  | .frameZeroed d tier frame => decide (d < 8) && decide (tier < 2) && decide (frame < 2 ^ 23)
  | .channelRetrain ch _ _ => decide (ch < 272)
  | .channelRetrainDone ch => decide (ch < 272)
  | .evacuationDone d => decide (d < 8)
  | .repairDone d _ => decide (d < 8)
  | .returnDone d => decide (d < 8)
  | .evacuationRetry d => decide (d < 8)
  | .rowRemap ch bank row _ _ => decide (bank < 256) && decide (row < 4194304) && decide (ch < 272)
  | .rdS a pa _ => decide (a < 73) && decide (pa < 2 ^ 52)
  | .rdX a pa => decide (a < 73) && decide (pa < 2 ^ 52)
  | .upg a pa => decide (a < 73) && decide (pa < 2 ^ 52)
  | .rdOnce a pa => decide (a < 73) && decide (pa < 2 ^ 52)
  | .wrLine a pa _ => decide (a < 73) && decide (pa < 2 ^ 52)
  | .wrPart a pa _ _ => decide (a < 73) && decide (pa < 2 ^ 52)
  | .homeAtom a pa _ _ _ _ => decide (a < 73) && decide (pa < 2 ^ 52)
  | .watch id pa => decide (id < 80) && decide (pa < 2 ^ 52)
  | .unwatch id pa => decide (id < 80) && decide (pa < 2 ^ 52)
  | .wb a pa => decide (a < 73) && decide (pa < 2 ^ 52)
  | .evictClean a pa => decide (a < 73) && decide (pa < 2 ^ 52)
  | .snpInv a pa => decide (a < 73) && decide (pa < 2 ^ 52)
  | .snpFwdS a pa _ => decide (a < 73) && decide (pa < 2 ^ 52)
  | .snpFwdX a pa _ => decide (a < 73) && decide (pa < 2 ^ 52)
  | .snpPeek a pa _ => decide (a < 73) && decide (pa < 2 ^ 52)
  | .snpRecall a pa _ => decide (a < 73) && decide (pa < 2 ^ 52)
  | .grant a pa => decide (a < 73) && decide (pa < 2 ^ 52)
  | .data a pa => decide (a < 73) && decide (pa < 2 ^ 52)
  | .invAck a pa => decide (a < 73) && decide (pa < 2 ^ 52)
  | .downgradeAck a pa => decide (a < 73) && decide (pa < 2 ^ 52)
  | .complete a pa => decide (a < 73) && decide (pa < 2 ^ 52)
  | .recallData a pa => decide (a < 73) && decide (pa < 2 ^ 52)
  | .moved a b pa => decide (a < 73) && decide (b < 73) && decide (pa < 2 ^ 52)
  | .cacheScrub cache pa _ => decide (cache < 459) && decide (pa < 2 ^ 52)
  | .clean t _ => decide (t < 9)
  | .invalidate t _ => decide (t < 9)
  | .cleanInvalidate t _ => decide (t < 9)
  | .rangeCommandDone t _ => decide (t < 9)
  | .registerRing _ t c header ring _ => decide (t < 9) && decide (c < 256) && decide (header < 2 ^ 52) && decide (ring < 2 ^ 52)
  | .removeRing _ t ring => decide (t < 9) && decide (ring < 64)
  | .chartResume l c => decide (l < 64) && decide (c < 256)
  | .faultBatchTimer c => decide (c < 256)
  | .faultRingRoom c => decide (c < 256)
  | .withdraw _ c _ _ _ => decide (c < 256)
  | .withdrawAll _ c _ => decide (c < 256)
  | .withdrawAck _ => true
  | .withdrawLimit _ => true
  | .bufferedStorePerform l => decide (l < 64)
  | .postedWritePerform hart => decide (hart < 128)
  | .deviceTimeout (.posted hart) => decide (hart < 128)
  | .deviceTimeout (.acked hart pa _) => decide (hart < 128) && decide (pa < 2 ^ 52)
  | .keeperLoad hart rd pa size _ => decide (hart < 128) && decide (pa < 2 ^ 52) &&
    (if rd < 32 then [1, 2, 4, 8].contains size else if rd < 64 then [2, 4, 8].contains size else decide (rd < 96) && size == 32)
  | .keeperStore hart pa size _ => decide (hart < 128) && decide (pa < 2 ^ 52) && [1, 2, 4, 8].contains size
  | .keeperAmo hart rd pa op size _ _ =>
    decide (hart < 128) && decide (rd < 32) && decide (pa < 2 ^ 52) && (size == 4 || size == 8 || (size == 16 && op == .cas && rd % 2 == 0))
  | .lr hart rd pa size => decide (hart < 128) && decide (rd < 32) && decide (pa < 2 ^ 52) && [4, 8].contains size
  | .sc hart rd pa size _ => decide (hart < 128) && decide (rd < 32) && decide (pa < 2 ^ 52) && [4, 8].contains size
  | .keeperFence hart _ => decide (hart < 128)
  | .cboClean hart pa => decide (hart < 128) && decide (pa < 2 ^ 52)
  | .cboFlush hart pa => decide (hart < 128) && decide (pa < 2 ^ 52)
  | .cboInval hart pa => decide (hart.hart < 128) && decide (pa < 2 ^ 52) && decide (hart.cbie < 4) && hart.cbie != 2
  | .cboZero hart pa => decide (hart < 128) && decide (pa < 2 ^ 52)
  | .wrsNto hart _ => decide (hart < 128)
  | .wrsSto hart => decide (hart < 128)
  | .wrsTimeout hart => decide (hart < 128)
  | .gsvFence hart _ _ => decide (hart < 128)
  | .gsvLdAq hart _ _ => decide (hart < 128)
  | .gsvSdRl hart _ _ => decide (hart < 128)
  | .gsvRange hart _ _ => decide (hart < 128)
  | .perfWrite cl _ => decide (cl < 8)
  | .pllRelockDone cl => decide (cl < 8)
  | .keeperClusterLost cl => decide (cl < 8)
  | .interruptWrite pa _ _ _ => decide (pa < 2 ^ 52)
  | .portEnable p _ => decide (p < 2)
  | .portReset r => decide (r.port < 2)
  | .portHang p => decide (p < 2)
  | .reloadQp p i => decide (p < 2) && decide (i < 16384)
  | .reloadCq p i => decide (p < 2) && decide (i < 4096)
  | .reloadMr p i => decide (p < 2) && decide (i < 2 ^ 16)
  | .reloadPostRing p i => decide (p < 2) && decide (i < 64)
  | .reloadEthQueue p i => decide (p < 2) && decide (i < 256)
  | .postQpSend p ring => decide (p < 2) && decide (ring < 64)
  | .postQpReceive p ring => decide (p < 2) && decide (ring < 64)
  | .postEthSend p ring => decide (p < 2) && decide (ring < 64)
  | .postEthReceive p ring => decide (p < 2) && decide (ring < 64)
  | .cqArm p ring => decide (p < 2) && decide (ring < 64)
  | .ethSend p q => decide (p < 2) && decide (q < 256)
  | .roceSend p qpn => decide (p < 2) && decide (qpn < 16384)
  | .sendImm p qpn => decide (p < 2) && decide (qpn < 16384)
  | .roceWrite p qpn => decide (p < 2) && decide (qpn < 16384)
  | .writeImm p qpn => decide (p < 2) && decide (qpn < 16384)
  | .roceRead p qpn => decide (p < 2) && decide (qpn < 16384)
  | .fetchAdd p qpn => decide (p < 2) && decide (qpn < 16384)
  | .cmpSwap p qpn => decide (p < 2) && decide (qpn < 16384)
  | .ethFrameRx p mac _ => decide (p < 2) && decide (mac < 8)
  | .roceRequestRx p _ => decide (p < 2)
  | .roceResponseRx p _ => decide (p < 2)
  | .ackTimeout p qpn => decide (p < 2) && decide (qpn < 16384)
  | .cnpRx p qpn => decide (p < 2) && decide (qpn < 16384)
  | .ccTimer p qpn _ => decide (p < 2) && decide (qpn < 16384)
  | .macLinkLoss p mac => decide (p < 2) && decide (mac < 8)
  | .cartridgeInsert c => decide (c < 4)
  | .cartridgeCheckDone c _ => decide (c < 4)
  | .prepareSwap _ c => decide (c < 4)
  | .latchOpen c => decide (c < 4)
  | .cartridgeFault c => decide (c < 4)
  | .cartridgePoll c _ => decide (c < 4)
  | .cartridgeSilent c => decide (c < 4)
  | .supplyHigh => true
  | .supplyHighClear => true
  | .supplyOvervoltage => true
  | .coolantWarm => true
  | .coolantDerateClear => true
  | .coolantHot => true
  | .coolantLeak i => decide (i < 2)
  | .flowLost _ => true
  | .trayPowerWarn => true
  | .trayReset _ => true
  | .slotIdSample _ _ => true
  | .sensorSample n _ => decide (n < 32)
  | .sensorInvalid n => decide (n < 32)
  | .serviceBusNoBeacon => true
  | .coldStart kind _ => decide (kind < 2)
  | .hubRomRetry _ => true
  | .mainRailsStart _ => true
  | .warm _ _ _ => true
  | .dark _ => true
  | .sessionInit _ slot _ _ _ => decide (slot < 256)
  | .sessionConfirm sid _ => decide (sid < 2 ^ 32)
  | .sessionClose sid => decide (sid < 2 ^ 32)
  | .sessionTimeout sid => decide (sid < 2 ^ 32)
  | .read sid _ _ _ _ => decide (sid < 2 ^ 32)
  | .write sid _ _ _ _ => decide (sid < 2 ^ 32)
  | .subscribe sid _ _ _ _ => decide (sid < 2 ^ 32)
  | .mailboxSend mb _ hart => decide (mb < 4) && decide (hart < 128)
  | .replyDone mb => decide (mb < 4)
  | .eventDone mb => decide (mb < 4)
  | .storeWrite _ => true
  | .slotEraseDone dev => decide (dev < 2)
  | .storeImage _ _ _ _ => true
  | .storeReset _ => true
  | .repairMapImage _ _ _ _ _ => true
  | .alertAcknowledge _ _ => true
  | .eventFetch _ _ _ => true
  | .eventsSuppressed _ _ => true
  | .eventLogWrite => true
  | .powerWindow _ => true
  | .estimatorRefit => true
  | .disagreementCheck _ _ _ => true
  | .thermalSample _ _ => true
  | .thermalTrip _ => true
  | .dimStepEnter step => decide (step < 5)
  | .dimStepExit step => decide (step < 5)
  | .lanternLost l _ => decide (l < 64)
  | .hubLost => true
  | .unitResetLantern _ l mode => decide (l < 64) && decide (mode < 2)
  | .unitResetKeeperCluster _ cl mode => decide (cl < 8) && decide (mode < 2)
  | .unitResetPort _ p mode => decide (p < 2) && decide (mode < 2)
  | .unitResetStackChannel _ ch mode => decide (mode < 2) && decide (ch < 256)
  | .unitResetBulkChannel _ ch mode => decide (mode < 2) && decide (ch < 16)
  | .unitResetTile _ t mode => decide (t < 9) && decide (mode < 2)
  | .errorBankRead _ _ _ => true
  | .errorBankClear _ _ => true
  | .offwatchSlot => true
  | .offwatchDrainLimit => true
  | .offwatchSwap _ => true
  | .offwatchScanDone _ _ => true
  | .sinkerScan s eng _ => decide (s < 16) && decide (eng < 4)
  | .keeperScan _ cl _ => decide (cl < 8)
  | .tileScan _ t _ => decide (t < 9)
  | .keeperScanDue cl => decide (cl < 8)
  | .tileScanDue t => decide (t < 9)
  | .checkCapture l _ => decide (l < 64)
  | .checkerDone _ => true
  | .voterDone _ => true
  | .checkExpired _ => true
  | .drain _ => true
  | .resume _ => true
  | .drainLimit => true
  | .moduleCondemned => true
  | .slotWindow _ cls _ => decide (cls < 6)
  | .verify _ cls _ => decide (cls < 6)
  | .activate _ cls _ => decide (cls < 6)
  | .revert _ cls _ => decide (cls < 6)
  | .commit _ cls => decide (cls < 6)
  | .unitSwitch cls unit => decide (cls < 6) && decide (unit < 64)
  | .firmwareSwitchSkipped cls unit => decide (cls < 6) && decide (unit < 64)
  | .firmwareReverted cls unit => decide (cls < 6) && decide (unit < 64)
  | .promote _ l => decide (l < 64)
  | .relight _ l _ => decide (l < 64)
  | .bypass _ l b _ => decide (l < 64) && decide (b < 16)
  | .bypassApplied l => decide (l < 64)
  | .linkRetrain _ link => decide (link < 12)
  | .takeOut _ ch => decide (ch < 16)
  | .channelEvacuated ch => decide (ch < 16)
  | .bringIn _ ch => decide (ch < 16)
  | .channelTrained ch _ => decide (ch < 16)
  | .channelReturned ch => decide (ch < 16)
  | .measure _ l _ => decide (l < 64)
  | .replan _ l => decide (l < 64)
  | .resetGuard _ l => decide (l < 64)
  | .ageingImport _ _ _ => true
  | .ageingModeWrite _ _ => true
  | .spdmExchange _ _ _ _ => true
  | .debugAuthorise _ _ => true
  | .hold _ g => decide (g < 2)
  | .guestRelease _ g _ => decide (g < 2)
  | .attest _ g _ => decide (g < 2)
  | .guestWindowsWrite _ g idx _ => decide (g < 2) && decide (idx < 16)
  | .guestRead g _ => decide (g < 2)
  | .guestWrite g _ _ _ _ => decide (g < 2)
  | .guestPowerSample g _ _ _ _ => decide (g < 2)
  | .guestLost g => decide (g < 2)
  | .operatingPointChangeDone l => decide (l < 64)
  | .macLinkUp p mac => decide (p < 2) && decide (mac < 8)
  | .serviceBusBeacon => true
  | .portHeartbeatLost p => decide (p < 2)
  | .illegal l h _ => wfLamp l h

end Sys2Proof
end

