-- ==== Sys2Proof/Safety.lean ====
section
/-! DEFINITION. What the statements speak of: a command that completes, an instruction that a hardware context fetches, a
run that stays safe, and the canonical form of memory. -/

namespace Sys2Proof

open Sys2Proof.Machine

/-- The state with another block and the same queue. -/
abbrev Machine.State.withBlk (s : State) (b : Block) : State := { s with blk := b }

/-- The outcome is a next state. -/
def Safe (o : Host.Outcome State Fault Refusal) : Prop := ∃ t, o = .next t

/-- The command answers a next state, and `P` holds of that state. -/
def Completes (i : Instr) (s : State) (P : State → Prop) : Prop := ∃ t, exec i s = .next t ∧ P t

/-- The fetch of a hardware context's next instruction succeeds: it finds the word `w`, and leaves the block `b1` (R116, R119). -/
def Fetches (b : Block) (l h : Nat) (b1 : Block) (w : W64) : Prop := ∀ go : Block → W64 → Block, b.fetch l h go = go b1 w

/-- The footprint check of an instruction succeeds: every page of it is found, `f` holds their physical pages, and the chart
is left as in `b1` (R129). -/
def Reaches (b : Block) (l h access : Nat) (rangeOnly : Bool) (rs : List (Nat × Nat)) (b1 : Block) (f : Foot) : Prop :=
  ∀ (um : Block → Nat → Block) (go : Block → Foot → Block), b.withFootU l h access rangeOnly rs um go = go b1 f

/-- A release has nothing left to wait for: the stores before it have performed, which leaves `b1` (R238, R239). -/
def Releases (b : Block) (l h : Nat) (b1 : Block) : Prop := ∀ go : Block → Block, b.released l h go = go b1

/-- A command of the light list is let in: the role suffices and the object answers (R348, R350). -/
def Admits (b : Block) (role least : Role) (area : Nat) : Prop := b.gate role least area = none

/-- The memory of both tiers keeps its canonical form. -/
def MemInv (s : State) : Prop := Memory.wf s.blk.mem

end Sys2Proof
end

