-- ==== Sys2Proof/Certificates/Slice0/Obligations.lean ====
section
/-! DEFINITION. The statements for the provers: what each command does to the block, by the numbered rules of spec/, what it
leaves alone, where it is refused, and what holds of the whole machine. `Completes i s P` says that the command i answers a
next state of which P holds; `Fetches b l h b1 w` says that the instruction fetch of hardware context h of lantern l finds the
word w and leaves the block b1, over which the instruction then works. -/

open Sys2Proof Sys2Proof.Machine



/-! ### The whole machine -/

/-- A step runs the command at the front of the queue on the state with the queue's rest (the model's queue of senders). On an empty queue
the block idles: no rule of the manual, the model's choice (log entry 3). -/
def Obligations.StepRunsFront : Prop :=
  (∀ (s : State) (c : Instr), step { s with pending := c :: s.pending } = exec c s) ∧
  (∀ s : State, s.pending = [] → step s = .next s)

/-- No command stops: every command, with any operands, in any state, answers a next state with the same queue. -/
def Obligations.EveryCommandAnswers : Prop := ∀ (i : Instr) (s : State), Completes i s (fun t => t.pending = s.pending)

/-- The canonical form of memory is kept by every step from every state that has it (R190, R336). -/
def Obligations.MemoryFormKept : Prop := ∀ s t : State, MemInv s → step s = .next t → MemInv t

/-! ### Chain links and the part number -/

/-- Replay, retraining, the outcome of training and the sideband of a chain link (R32, R33, R34, R438). The part number is written by the
vendor role only, must be one of the three, and must match the presence straps of the guest sites; it is persisted and not yet in force
(R2). Completes, with the effect that its rule gives it: PART_NUMBER_WRITE, FLIT_REPLAY, RETRAIN, LINK_TRAINING_DONE, SIDEBAND_LANE_FAIL,
LINK_RETRAIN. -/
def Obligations.LinksAndPartNumber : Prop :=
  (∀ (s : State) (i : Nat), i < 12 →
      let x := s.blk.link i
      let put := fun y : Link => (s.withBlk (s.blk.setLink i y))
      (∀ ok, x.held = false → x.st ≠ .down →
        exec (.flitReplay i 0 ok) s = .next (put { x with
          replays := x.replays + 1, fails0 := if ok then 0 else min 16 (x.fails0 + 1), pending0 := !ok }) ∧
        exec (.flitReplay i 1 ok) s = .next (put { x with
          replays := x.replays + 1, fails1 := if ok then 0 else min 16 (x.fails1 + 1), pending1 := !ok })) ∧
      (∀ laneErrors, x.held = false → x.st ≠ .down → (laneErrors = true ∨ 16 ≤ x.fails0 ∨ 16 ≤ x.fails1) →
        exec (.retrain i laneErrors) s =
          .next (s.withBlk (s.blk.noteLit.setLink i { x with held := true, retrains := x.retrains + 1 }))) ∧
      (∀ role, Admits s.blk role .service 0x40 → x.held = false → x.st ≠ .down →
        exec (.linkRetrain role i) s = .next (s.withBlk ((s.blk.noteLit.setLink i { x with held := true, retrains := x.retrains + 1 }).done 0x40000042 0))) ∧
      (∀ role, Admits s.blk role .service 0x40 → x.held = true →
        exec (.linkRetrain role i) s = .next (s.withBlk (s.blk.refuse .busy))) ∧
      (∀ out : LinkTrain, x.held = true → out.failed0 ≤ 8 → out.failed1 ≤ 8 → out.sbOk = true → x.waiting = [] →
        Completes (.linkTrainingDone i out) s (fun t =>
          (t.blk.link i) = { x with
            st := .up, spared0 := out.failed0, spared1 := out.failed1, held := false, fails0 := 0, fails1 := 0, pending0 := false,
            pending1 := false } ∧
          (s.blk.store.mapSeq < t.blk.store.mapSeq ↔ (x.spared0 < out.failed0 ∨ x.spared1 < out.failed1)) ∧
          (∀ j, j ≠ i → t.blk.link j = s.blk.link j) ∧ t.blk.mem = s.blk.mem ∧ t.blk.lines = s.blk.lines ∧
          t.blk.hws = s.blk.hws ∧ t.blk.events = s.blk.events)) ∧
      (∀ out : LinkTrain, x.held = true → (8 < out.failed0 ∨ 8 < out.failed1) →  out.halfOk = true → out.sbOk = true → x.waiting = [] →
        Completes (.linkTrainingDone i out) s (fun t => (t.blk.link i).st = .half ∧ (t.blk.link i).held = false ∧
          (x.st ≠ .half → t.blk.events = (s.blk.raise (unitLink i) .linkHalf [i]).events))) ∧
      (∀ out : LinkTrain, x.held = true → (8 < out.failed0 ∨ 8 < out.failed1) →  out.halfOk = false → out.sbOk = true → x.waiting = [] →
        Completes (.linkTrainingDone i out) s (fun t => (t.blk.link i).st = .down ∧
          (x.st ≠ .down → t.blk.alert 8 = true))) ∧
      (x.sbDown = false → x.sbSpare0 = false →
        exec (.sidebandLaneFail i 0) s = .next (put { x with sbSpare0 := true })) ∧
      (x.sbDown = false → x.sbSpare1 = false →
        exec (.sidebandLaneFail i 1) s = .next (put { x with sbSpare1 := true })) ∧
      (x.sbDown = false → x.sbSpare0 = true →
        exec (.sidebandLaneFail i 0) s = .next (s.withBlk (((s.blk.setLink i { x with sbDown := true }).raise (unitLink i) .flashPathDown [i]).tearGroups i)))) ∧
  (∀ (s : State) (role : Role), s.blk.start.level ≠ .dark →
      (role ≠ .vendor → ∀ p, exec (.partNumberWrite role p) s = .next (s.withBlk (s.blk.refuse .denied))) ∧
      exec (.partNumberWrite .vendor none) s = .next (s.withBlk (s.blk.refuse .outOfRange)) ∧
      (s.blk.tray.guestFitted ≠ [] → ∀ p, p ≠ .g4t →
        exec (.partNumberWrite .vendor (some p)) s = .next (s.withBlk (s.blk.refuse .badState))) ∧
      (s.blk.tray.guestFitted.length < 2 →
        exec (.partNumberWrite .vendor (some .g4t)) s = .next (s.withBlk (s.blk.refuse .badState))) ∧
      (∀ p : Part, (p = .g4t → 2 ≤ s.blk.tray.guestFitted.length) → (p ≠ .g4t → s.blk.tray.guestFitted = []) → s.blk.tray.sf0Failed = false →
        Completes (.partNumberWrite .vendor (some p)) s (fun t =>
          tfind t.blk.store.persist 0x01000001 = some (partValue p) ∧ t.blk.store.inForce = s.blk.store.inForce ∧
          t.blk.tray = s.blk.tray ∧ t.blk.cmds.reply.status = .ok ∧ t.blk.mem = s.blk.mem)))

/-! ### Scalar instructions -/

/-- What a write of a general register and the advance to the next instruction do: g0 stays zero, every other register and hardware
context stays, the program counter moves by 8, and no memory, lens or cache changes (R101, R116, R117). How a request ends: the hardware
context of a running program keeps the status and DETAIL of its ending and issues nothing more; a later ending does not replace a failure
(R112, R119). -/
def Obligations.RegisterWriteAndEnding : Prop :=
  (∀ (b : Block) (k d : Nat) (v : W64),
      let t := (b.setG k d v).advance k
      (t.hw k).reg 0 = 0 ∧ (d ≠ 0 → (t.hw k).reg d = v) ∧ (∀ i, i ≠ d → (t.hw k).reg i = (b.hw k).reg i) ∧
      (t.hw k).pc = (b.hw k).pc + 8 ∧ (t.hw k).t = (b.hw k).t ∧ (t.hw k).tallies = (b.hw k).tallies ∧
      (t.hw k).board = (b.hw k).board ∧ (t.hw k).granules = (b.hw k).granules ∧ (t.hw k).phase = (b.hw k).phase ∧
      (∀ j, j ≠ k → t.hw j = b.hw j) ∧ { t with hws := b.hws } = b) ∧
  (∀ (b : Block) (k st d : Nat),
      ((b.hw k).phase = .running → ((b.endReq k st d).hw k).phase = .ended st d ∧ (b.endReq k st d).canIssue (k / 4) (k % 4) = false ∧
        (b.endReq k st d).mem = b.mem ∧ (b.endReq k st d).lines = b.lines ∧ ∀ j, j ≠ k → (b.endReq k st d).hw j = b.hw j) ∧
      (∀ st0 d0, st0 ≠ 0 → (b.hw k).phase = .ended st0 d0 → b.endReq k st d = b) ∧
      ((b.hw k).phase = .free → b.endReq k st d = b))

/-- Integer instructions: the result goes to gD and the program goes on; a set reserved bit ends the request instead (R118, R119, R124).
Completes, with the effect that its rule gives it: ADD, SUB, AND, OR, XOR, SHL, SHR, SRA, MUL, MULHU, DIVU, REMU, SLT, SLTU, LIH, MAXU. -/
def Obligations.IntegerInstructions : Prop :=
  ∀ (s : State) (l h : Nat) (w : W64) (b1 : Block), Fetches s.blk l h b1 w →
    let k := hwNo l h
    let x := (b1.hw k).reg (rA w)
    let y := opB (b1.hw k) w
    let t := fun v : W64 => (s.withBlk ((b1.setG k (rD w) v).advance k))
    (intRsv w = false →
      (fld w 0 8 = 0x10 → exec (.add l h w) s = .next (t (x + y))) ∧
      (fld w 0 8 = 0x11 → exec (.sub l h w) s = .next (t (x - y))) ∧
      (fld w 0 8 = 0x12 → exec (.and l h w) s = .next (t (x &&& y))) ∧
      (fld w 0 8 = 0x13 → exec (.or l h w) s = .next (t (x ||| y))) ∧
      (fld w 0 8 = 0x14 → exec (.xor l h w) s = .next (t (x ^^^ y))) ∧
      (fld w 0 8 = 0x15 → exec (.shl l h w) s = .next (t (x <<< (y.toNat % 64)))) ∧
      (fld w 0 8 = 0x16 → exec (.shr l h w) s = .next (t (x >>> (y.toNat % 64)))) ∧
      (fld w 0 8 = 0x17 → exec (.sra l h w) s = .next (t (x.sshiftRight (y.toNat % 64)))) ∧
      (fld w 0 8 = 0x18 → exec (.mul l h w) s = .next (t (x * y))) ∧
      (fld w 0 8 = 0x19 → exec (.mulhu l h w) s = .next (t (BitVec.ofNat 64 (x.toNat * y.toNat / 2 ^ 64)))) ∧
      (fld w 0 8 = 0x1A → exec (.divu l h w) s = .next (t (if y = 0 then BitVec.allOnes 64 else x / y))) ∧
      (fld w 0 8 = 0x1B → exec (.remu l h w) s = .next (t (if y = 0 then x else x % y))) ∧
      (fld w 0 8 = 0x1C → exec (.slt l h w) s = .next (t (if x.toInt < y.toInt then 1 else 0))) ∧
      (fld w 0 8 = 0x1D → exec (.sltu l h w) s = .next (t (if x.toNat < y.toNat then 1 else 0))) ∧
      (fld w 0 8 = 0x1F → exec (.maxu l h w) s = .next (t (if x.toNat < y.toNat then y else x)))) ∧
    (fld w 0 8 = 0x1E → bit w 23 = true → fld w 24 8 = 0 → fld w 18 5 = 0 →
      exec (.lih l h w) s = .next (t (BitVec.ofNat 64 (x.toNat % 2 ^ 32 + fld w 32 32 * 2 ^ 32)))) ∧
    (fld w 0 8 = 0x1E → bit w 23 = false → exec (.lih l h w) s = .next (s.withBlk (b1.exc k 1))) ∧
    (fld w 0 8 = 0x10 → intRsv w = true → exec (.add l h w) s = .next (s.withBlk (b1.endReq k 0x38 1)))

/-- FP32 instructions: the rounded result, zero-extended, goes to gD; what a NaN, a zero of either sign, a value out of range and a
reserved field give (R125). Completes, with the effect that its rule gives it: FADD, FSUB, FMUL, FDIV, FSQRT, FMA, FMIN, FMAX, FCVT_F_I,
FCVT_I_F, FLT, FEQ, TSCALE. -/
def Obligations.FloatInstructions : Prop :=
  ∀ (s : State) (l h : Nat) (w : W64) (b1 : Block), Fetches s.blk l h b1 w →
    let k := hwNo l h
    let x := ((b1.hw k).reg (rA w)).setWidth 32
    let y := (opB (b1.hw k) w).setWidth 32
    let z := ((b1.hw k).reg (rD w)).setWidth 32
    let t := fun v : W64 => (s.withBlk ((b1.setG k (rD w) v).advance k))
    let f := fun v : W32 => t (v.setWidth 64)
    (intRsv w = false →
      (fld w 0 8 = 0x20 → exec (.fadd l h w) s = .next (f (add32 x y))) ∧
      (fld w 0 8 = 0x21 → exec (.fsub l h w) s = .next (f (sub32 x y))) ∧
      (fld w 0 8 = 0x22 → exec (.fmul l h w) s = .next (f (mul32 x y))) ∧
      (fld w 0 8 = 0x23 → exec (.fdiv l h w) s = .next (f (div32 x y))) ∧
      (fld w 0 8 = 0x25 → exec (.fma l h w) s = .next (f (fma32 x y z))) ∧
      (fld w 0 8 = 0x26 → exec (.fmin l h w) s = .next (f (min32 x y))) ∧
      (fld w 0 8 = 0x27 → exec (.fmax l h w) s = .next (f (max32 x y))) ∧
      (fld w 0 8 = 0x2A → exec (.flt l h w) s = .next (t (if lt32 x y then 1 else 0))) ∧
      (fld w 0 8 = 0x2B → exec (.feq l h w) s = .next (t (if eq32 x y then 1 else 0)))) ∧
    (unaryRsv w = false →
      (fld w 0 8 = 0x24 → exec (.fsqrt l h w) s = .next (f (sqrt32 x))) ∧
      (fld w 0 8 = 0x28 → exec (.fcvtFI l h w) s = .next (f (cvtFI ((b1.hw k).reg (rA w))))) ∧
      (fld w 0 8 = 0x29 → exec (.fcvtIF l h w) s = .next (t (cvtIF x)))) ∧
    (fld w 0 8 = 0x2C → bit w 23 = true → fld w 24 8 = 0 → fld w 18 5 = 0 → fld w 36 28 = 0 →
      (fld w 32 4 < 10 → exec (.tscale l h w) s = .next (f (tensorScale (fld w 32 4) x))) ∧
      (10 ≤ fld w 32 4 → exec (.tscale l h w) s = .next (s.withBlk (b1.exc k 2)))) ∧
    (fld w 0 8 = 0x2C → bit w 23 = false → exec (.tscale l h w) s = .next (s.withBlk (b1.exc k 1))) ∧
    (fld w 0 8 = 0x2C → bit w 23 = true → (fld w 24 8 ≠ 0 ∨ fld w 18 5 ≠ 0 ∨ fld w 36 28 ≠ 0) →
      exec (.tscale l h w) s = .next (s.withBlk (b1.endReq k 0x38 1))) ∧
    (∀ p q : W32, isNan32 p = true →
      (isNan32 q = false → min32 p q = q ∧ min32 q p = q ∧ max32 p q = q ∧ max32 q p = q) ∧
      lt32 p q = false ∧ lt32 q p = false ∧ eq32 p q = false ∧ eq32 q p = false ∧ cvtIF p = 0) ∧
    (min32 0x80000000#32 0 = 0x80000000#32 ∧ min32 0 0x80000000#32 = 0x80000000#32 ∧ max32 0x80000000#32 0 = 0 ∧
      max32 0 0x80000000#32 = 0 ∧ cvtIF 0x7F800000#32 = 0x7FFFFFFFFFFFFFFF#64 ∧ cvtIF 0x5F000000#32 = 0x7FFFFFFFFFFFFFFF#64 ∧
      cvtIF 0xFF800000#32 = 0x8000000000000000#64 ∧ cvtIF 0xDF000001#32 = 0x8000000000000000#64) ∧
    (∀ (g : Nat) (p : W32), g < 10 → tensorScale g p = tensorScale g (p &&& 0x7FFFFFFF#32) ∧
      (p &&& 0x7FFFFFFF#32 = 0 ∨ isFin32 p = false → tensorScale g p = one32))

/-- The pairwise tree: one value is itself; n values are the sum of the trees of the first h and of the rest, where h is the largest power
of two less than n (R77). -/
def Obligations.PairwiseTree : Prop :=
  (∀ x : W32, tree32 [x] = x) ∧
  (∀ (xs : List W32) (e : Nat), 2 ^ e < xs.length → xs.length ≤ 2 * 2 ^ e → xs.length ≤ 2 ^ 32 →
    tree32 xs = add32 (tree32 (xs.take (2 ^ e))) (tree32 (xs.drop (2 ^ e))))

/-- Control instructions: where the program goes on, and how it ends (R116, R123, R142). Completes, with the effect that its rule gives
it: NOP, END, RAISE, J, JR, CALL, BR_EQ, BR_NE, BR_LT, BR_GE, BR_LTU, BR_GEU, LOOP, ILLEGAL. -/
def Obligations.ControlInstructions : Prop :=
  ∀ (s : State) (l h : Nat) (w : W64) (b1 : Block), Fetches s.blk l h b1 w →
    let k := hwNo l h
    let pc := (b1.hw k).pc
    let x := (b1.hw k).reg (rD w)
    let y := (b1.hw k).reg (rA w)
    let tgt := target pc w
    let br := fun taken : Bool => (s.withBlk (b1.goto k (if taken then tgt else pc + 8)))
    (fld w 18 14 = 0 →
      (fld w 0 8 = 0x00 → fld w 8 10 = 0 → fld w 32 32 = 0 →
        exec (.nop l h w) s = .next (s.withBlk (b1.goto k (pc + 8)))) ∧
      (fld w 0 8 = 0x01 → fld w 8 10 = 0 → fld w 32 32 = 0 →
        exec (.endProg l h w) s = .next (s.withBlk (b1.endReq k 0 0))) ∧
      (fld w 0 8 = 0x02 → fld w 8 10 = 0 → fld w 47 17 = 0 →
        exec (.raise l h w) s = .next (s.withBlk (b1.endReq k 0x20 (0x8000 + fld w 32 15)))) ∧
      (fld w 0 8 = 0x03 → fld w 8 10 = 0 → exec (.j l h w) s = .next (s.withBlk (b1.goto k tgt))) ∧
      (fld w 0 8 = 0x04 → fld w 13 5 = 0 →
        exec (.jr l h w) s = .next (s.withBlk (b1.goto k (x + imm32 w * 8).toNat))) ∧
      (fld w 0 8 = 0x05 → fld w 13 5 = 0 →
        exec (.call l h w) s = .next (s.withBlk ((b1.setG k (rD w) (BitVec.ofNat 64 (pc + 8))).goto k tgt))) ∧
      (fld w 0 8 = 0x06 → exec (.brEq l h w) s = .next (br (decide (x = y)))) ∧
      (fld w 0 8 = 0x07 → exec (.brNe l h w) s = .next (br (decide (x ≠ y)))) ∧
      (fld w 0 8 = 0x08 → exec (.brLt l h w) s = .next (br (decide (x.toInt < y.toInt)))) ∧
      (fld w 0 8 = 0x09 → exec (.brGe l h w) s = .next (br (decide (y.toInt ≤ x.toInt)))) ∧
      (fld w 0 8 = 0x0A → exec (.brLtu l h w) s = .next (br (decide (x.toNat < y.toNat)))) ∧
      (fld w 0 8 = 0x0B → exec (.brGeu l h w) s = .next (br (decide (y.toNat ≤ x.toNat)))) ∧
      (fld w 0 8 = 0x0C → fld w 13 5 = 0 →
        exec (.loop l h w) s = .next (s.withBlk ((b1.setG k (rD w) (x - 1)).goto k (if x = 1 then pc + 8 else tgt))))) ∧
    (listedOpcodes.contains (fld w 0 8) = false → exec (.illegal l h w) s = .next (s.withBlk (b1.endReq k 0x20 1)))

/-! ### Accesses of a lantern program -/

/-- Scalar loads and stores: a load reads through the chart and the die cache; a plain store waits in the store buffer; a release store
performs at its home after every older store; a misaligned address is ALIGN (R126, R236, R239, R240). The oldest store of a store buffer
performs at its home and leaves the buffer; the others keep their order (R236). Completes, with the effect that its rule gives it: LD, ST,
LD_ACQ, ST_REL, BUFFERED_STORE_PERFORM. -/
def Obligations.ScalarAccesses : Prop :=
  (∀ (s : State) (l h : Nat) (w : W64) (b1 : Block), Fetches s.blk l h b1 w →
      let k := hwNo l h
      let x := b1.hw k
      let n := 2 ^ fld w 22 3
      let va := (x.reg (rA w) + imm32 w).toNat
      let stored : Line := BitVec.ofNat 512 ((x.reg (rD w)).toNat % 2 ^ (8 * n))
      (fld w 22 3 ≤ 3 → scalarRsv w false = false → va % n = 0 →
        ∀ b2 f, Reaches b1 l h 2 false [(va, n)] b2 f → ∀ b3 line, b2.ownLine l h (f.pa va) = .ok (b3, line, false) →
        let v := fld line (8 * (f.pa va % 64)) (8 * n)
        let t := (s.withBlk ((b3.setG k (rD w) (if bit w 25 then sext n v else BitVec.ofNat 64 v)).advance k))
        (fld w 0 8 = 0x30 → exec (.ld l h w) s = .next t) ∧
        (fld w 0 8 = 0x32 → 2 ≤ fld w 22 3 → exec (.ldAcq l h w) s = .next t)) ∧
      (fld w 22 3 ≤ 3 → scalarRsv w true = false → va % n = 0 → ∀ b2 f, Reaches b1 l h 3 false [(va, n)] b2 f →
      b2.ownMoveOn l h (((b2.dom (f.pa va)).getD 0) / 64) = false →
        (fld w 0 8 = 0x31 → exec (.st l h w) s = .next (s.withBlk ((b2.updLantern l (fun y => { y with
          stores := y.stores ++ [⟨h, f.pa va, n, stored, (b2.chart l).epoch⟩] })).advance k))) ∧
        (fld w 0 8 = 0x33 → 2 ≤ fld w 22 3 → ∀ b3 b4, Releases b2 l h b3 →
          b3.performStore l ⟨h, f.pa va, n, stored, 0⟩ = .ok b4 →
          exec (.stRel l h w) s = .next (s.withBlk (b4.advance k)))) ∧
      (fld w 0 8 = 0x30 → fld w 22 3 ≤ 3 → scalarRsv w false = false → va % n ≠ 0 →
        exec (.ld l h w) s = .next (s.withBlk (b1.exc k 0x0B)))) ∧
  (∀ (s : State) (l : Nat) (e : Buffered) (rest : List Buffered) (b1 : Block), (s.blk.lantern l).stores = e :: rest →
      s.blk.performStore l e = .ok b1 →
      Completes (.bufferedStorePerform l) s (fun t =>
        (t.blk.lantern l).stores = rest ∧ t.blk.mem = b1.mem ∧ t.blk.lines = b1.lines ∧ t.blk.hws = b1.hws ∧
        (∀ j, j ≠ l → t.blk.lantern j = b1.lantern j)))

/-- Tile descriptors: loaded, stored, and written, read and advanced field by field (R126). Scalar accesses of the lens: the bytes at the
offset of the share, within it, aligned and free of earlier users (R60, R122, R126). Completes, with the effect that its rule gives it:
TLD, TST, TSET, TGET, TADV, LDL, STL. -/
def Obligations.LensScalarsAndDescriptors : Prop :=
  (∀ (s : State) (l h : Nat) (w : W64) (b1 : Block), Fetches s.blk l h b1 w →
      let k := hwNo l h
      let x := b1.hw k
      let n := fld w 18 4
      let va := (x.reg (rA w) + imm32 w).toNat
      let place := tileField (fld w 26 5)
      (fld w 0 8 = 0x34 → fld w 8 5 = 0 → fld w 22 10 = 0 → va % 64 = 0 → ∀ b2 f, Reaches b1 l h 2 false [(va, 64)] b2 f →
        ∀ b3 line, b2.ownLine l h (f.pa va) = .ok (b3, line, false) → f.pa va % 64 = 0 →
        exec (.tld l h w) s = .next (s.withBlk ((b3.updHw k (fun y =>
          { y.setTile n line with tPoison := y.tPoison.filter (· != n) })).advance k))) ∧
      (fld w 0 8 = 0x35 → fld w 8 5 = 0 → fld w 22 10 = 0 → va % 64 = 0 → x.tPoison.contains n = false →
        ∀ b2 f, Reaches b1 l h 3 false [(va, 64)] b2 f → b2.ownMoveOn l h (((b2.dom (f.pa va)).getD 0) / 64) = false →
      exec (.tst l h w) s = .next (s.withBlk ((b2.updLantern l (fun y => { y with
          stores := y.stores ++ [⟨h, f.pa va, 64, x.tile n, (b2.chart l).epoch⟩] })).advance k))) ∧
      (fld w 13 5 = 0 → fld w 22 4 = 0 → bit w 31 = false → fld w 32 32 = 0 → fld w 26 5 ≤ 13 →
        (fld w 0 8 = 0x36 → exec (.tset l h w) s = .next (s.withBlk ((b1.updHw k (fun y => y.setTile n (setFld (y.tile n) place.1 place.2 (y.reg (rD w)).toNat))).advance k))) ∧
        (fld w 0 8 = 0x37 → x.tPoison.contains n = false → exec (.tget l h w) s = .next (s.withBlk ((b1.setG k (rD w) (BitVec.ofNat 64 (fld (x.tile n) place.1 place.2))).advance k)))) ∧
      (fld w 0 8 = 0x38 → fld w 22 10 = 0 → fld w 32 32 = 0 → x.tPoison.contains n = false →
        Completes (.tadv l h w) s (fun t =>
          tdBase ((t.blk.hw k).tile n) = (tdBase (x.tile n) + (x.reg (rD w)).toNat) % 2 ^ 64 ∧
          tdIndex ((t.blk.hw k).tile n) = (tdIndex (x.tile n) + (x.reg (rA w)).toNat) % 2 ^ 64 ∧
          (∀ m, m ≠ n → (t.blk.hw k).tile m = x.tile m) ∧ (t.blk.hw k).g = x.g ∧ (t.blk.hw k).pc = x.pc + 8 ∧
          { t.blk with hws := b1.hws } = b1))) ∧
  (∀ (s : State) (l h : Nat) (w : W64) (b1 : Block), Fetches s.blk l h b1 w →
      let k := hwNo l h
      let x := b1.hw k
      let n := 2 ^ fld w 22 3
      let off := (x.reg (rA w) + imm32 w).toNat
      fld w 22 3 ≤ 3 →
      (fld w 0 8 = 0x39 → scalarRsv w false = false → off % n = 0 → off + n ≤ x.share → x.mayRead off n = true →
        b1.lensBad k off n = false →
        let v := leNat (b1.lensBytes k off n)
        exec (.ldl l h w) s = .next (s.withBlk ((b1.setG k (rD w) (if bit w 25 then sext n v else BitVec.ofNat 64 v)).advance k))) ∧
      (fld w 0 8 = 0x39 → scalarRsv w false = false → off % n = 0 → x.share < off + n →
        exec (.ldl l h w) s = .next (s.withBlk (b1.exc k 0x09))) ∧
      (fld w 0 8 = 0x39 → scalarRsv w false = false → off % n = 0 → off + n ≤ x.share → x.mayRead off n = false →
        exec (.ldl l h w) s = .next (s.withBlk b1)) ∧
      (fld w 0 8 = 0x3A → scalarRsv w true = false → off % n = 0 → off + n ≤ x.share → x.mayWrite off n = true →
        exec (.stl l h w) s = .next (s.withBlk ((b1.lensPut k off (leBytes n (x.reg (rD w)).toNat) false).advance k))))

/-- Far atomics: performed at the home; gD holds the old value, and the program goes on (R139, R258). Completes, with the effect that its
rule gives it: ATOM_ADD, ATOM_AND, ATOM_OR, ATOM_XOR, ATOM_MIN, ATOM_MAX, ATOM_MINU, ATOM_MAXU, ATOM_SWAP, ATOM_CAS. -/
def Obligations.FarAtomics : Prop :=
  ∀ (s : State) (l h : Nat) (w : W64) (b1 : Block), Fetches s.blk l h b1 w → fld w 31 33 = 0 →
    let k := hwNo l h
    let x := b1.hw k
    let n := if bit w 28 then 8 else 4
    let va := (x.reg (rA w)).toNat
    let done := fun (op : Nat) (a : AtomOp) (i : Instr) =>
      fld w 0 8 = op → (a ≠ .cas → fld w 23 5 = 0) → va % n = 0 → ∀ b2 f, Reaches b1 l h 4 false [(va, n)] b2 f →
        ∀ b3, (if bit w 30 || b2.lineBuffered l (f.pa va) || b2.ownMoveOn l h (((b2.dom (f.pa va)).getD 0) / 64) then Releases b2 l h b3 else b3 = b2) →
        ∀ pa b4 old, b3.dom (f.pa va) = some pa →
        b3.atomic (pa / 64) (pa % 64) (bit w 28) a (x.reg (rB w)) (x.reg (fld w 23 5)) = .ok (b4, old, false) →
        exec i s = .next (s.withBlk ((b4.setG k (rD w) old).advance k))
    done 0xC0 .add (.atomAdd l h w) ∧ done 0xC1 .and (.atomAnd l h w) ∧ done 0xC2 .or (.atomOr l h w) ∧
    done 0xC3 .xor (.atomXor l h w) ∧ done 0xC4 .min (.atomMin l h w) ∧ done 0xC5 .max (.atomMax l h w) ∧
    done 0xC6 .minu (.atomMinu l h w) ∧ done 0xC7 .maxu (.atomMaxu l h w) ∧ done 0xC8 .swap (.atomSwap l h w) ∧
    done 0xC9 .cas (.atomCas l h w) ∧
    (fld w 0 8 = 0xC0 → fld w 23 5 = 0 → va % n ≠ 0 → exec (.atomAdd l h w) s = .next (s.withBlk (b1.exc k 0x0B)))

/-- Fences and the waits on a tally or a line: where they go on, and where they wait (R138, R140, R242, R260). Every 2 µs a refused line
watch reads its line again, and the chart's refused driver-line watches become due (R260). Completes, with the effect that its rule gives
it: WAIT_LINE, WAIT_LINE_TIMEOUT, WATCH_POLL, WAIT_TALLY, FENCE. -/
def Obligations.FencesAndWaits : Prop :=
  (∀ (s : State) (l h : Nat) (w : W64) (b1 : Block), Fetches s.blk l h b1 w →
      let k := hwNo l h
      let x := b1.hw k
      let va := (x.reg (rA w)).toNat
      (fld w 0 8 = 0xD0 → fld w 10 54 = 0 → fld w 8 2 < 2 → b1.moveWrites l h = false →
        exec (.fence l h w) s = .next (s.withBlk (b1.advance k))) ∧
      (fld w 0 8 = 0xD0 → fld w 10 54 = 0 → fld w 8 2 < 2 → b1.moveWrites l h = true →
        exec (.fence l h w) s = .next (s.withBlk b1)) ∧
      (fld w 0 8 = 0xD0 → fld w 10 54 = 0 → fld w 8 2 = 2 → ∀ b2, Releases b1 l h b2 →
        exec (.fence l h w) s = .next (s.withBlk (b2.advance k))) ∧
      (fld w 0 8 = 0xD0 → fld w 8 2 = 3 → exec (.fence l h w) s = .next (s.withBlk (b1.exc k 1))) ∧
      (fld w 0 8 = 0xB3 → fld w 10 54 = 0 → x.tally (fld w 8 2) = 0 →
        exec (.waitTally l h w) s = .next (s.withBlk (b1.advance k))) ∧
      (fld w 0 8 = 0xB3 → fld w 10 54 = 0 → x.tally (fld w 8 2) ≠ 0 →
        exec (.waitTally l h w) s = .next (s.withBlk b1)) ∧
      (va % 8 = 0 → ∀ b2 f, Reaches b1 l h 2 false [(va, 8)] b2 f → ∀ b3 line, b2.ownLine l h (f.pa va) = .ok (b3, line, false) →
        let word : W64 := BitVec.ofNat 64 (fld line (8 * (f.pa va % 64)) 64)
        let met := lineMeets w word (x.reg (rB w))
        (fld w 0 8 = 0xB2 → fld w 29 35 = 0 → met = true →
          exec (.waitLine l h w) s = .next (s.withBlk (((b3.dropWatch l h).setG k (rD w) word).advance k))) ∧
        (fld w 0 8 = 0xB2 → fld w 29 35 = 0 → met = false → x.watch = none → ∀ ln b4, b3.lineAt (f.pa va) = some ln →
          b3.watch l ln = some b4 →
          exec (.waitLine l h w) s = .next (s.withBlk ((b4.updHw k (fun y => { y with watch := some ln, polled := false, notice := false })).updHw k
              (fun y => { y with lastRead := word, waiting := true })))) ∧
        (fld w 0 8 = 0xB2 → x.waiting = true → x.reg (fld w 24 5) ≠ 0 → met = true →
          exec (.waitLineTimeout l h) s = .next (s.withBlk (((b3.dropWatch l h).setG k (rD w) word).advance k)))) ∧
      (fld w 0 8 = 0xB2 → x.waiting = true → x.reg (fld w 24 5) ≠ 0 →
        let d := b1.waitLineRead l h w
        (d.hw k).phase = .running → (d.hw k).waiting = true →
        exec (.waitLineTimeout l h) s = .next (s.withBlk (((d.dropWatch l h).setG k (rD w) (d.hw k).lastRead).advance k)))) ∧
  (∀ (s : State) (l h : Nat),
      let due0 := s.blk.updChart l (fun t => { t with resume := t.resume.map (fun e => (e.1, true)) })
      let due := if s.blk.compUnwatched l h then due0.updHw (hwNo l h) (fun y => { y with cnotice := true }) else due0
      ((s.blk.hw (hwNo l h)).polled = false → exec (.watchPoll l h) s = .next (s.withBlk due)) ∧
      ((s.blk.hw (hwNo l h)).polled = true → ∀ b1 w, Fetches due l h b1 w → fld w 0 8 = 0xB2 → (b1.hw (hwNo l h)).waiting = true →
        exec (.watchPoll l h) s = .next (s.withBlk (b1.waitLineRead l h w))))

/-! ### MOVE, SEND, RECV and claims -/

/-- The three MOVEs, once their checks and footprint pass: what goes into the lens, the memory writes or the lane-file half, and the
transfer that stays in flight until MOVE_DONE (R45, R127, R128, R129). MOVE_DONE: the transfer's writes perform, its tally and scoreboard
entries are given up, a loaded half is FULL; without writes no memory changes; data wait while a link of their path is held (R32, R39,
R45, R122, R129). A transfer starts: its tally rises by one, its chart reference is held where its footprint was translated, it is in
flight under the next number, and the program goes on (R122, R129, R227). Retiring a transfer takes its tally down, removes it and its
scoreboard entries, and changes no memory (R122). Completes, with the effect that its rule gives it: MOVE_M2L, MOVE_L2M, MOVE_L2F,
MOVE_DONE. -/
def Obligations.Moves : Prop :=
  (∀ (s : State) (l h : Nat) (w : W64) (b1 : Block), Fetches s.blk l h b1 w →
      let k := hwNo l h
      let x := b1.hw k
      let ts := x.tile (fld w 8 4)
      let td := x.tile (fld w 12 4)
      x.tPoison.contains (fld w 8 4) = false → tdLevelErr ts = none →
      (moveRsv w = false → x.tPoison.contains (fld w 12 4) = false → tdLevelErr td = none →
        (fld w 0 8 = 0x40 → firstErr (moveChk x.share true (bit w 16) ts td) = none → x.tileWritable td = true →
          x.boardRoom (tdRanges td) = true → ∀ b2 f, Reaches b1 l h 5 false (tdFoot ts) b2 f → ∀ b3 rows b4 xrows,
          b2.moveRows f l h (tdKeep ts) (tdBase ts) (tdStride ts) (tdRowBytes ts) (tdRows ts) = .ok (b3, rows) →
          b3.moveRows f l h (tdKeep ts) (tdXbase ts) (tdXstride ts) (if tdMx ts then tdCols ts / 32 else 0) (tdRows ts) = .ok (b4, xrows) →
          (bit w 16 = true → badPieces rows = false ∧ badPieces xrows = false) →
          exec (.moveM2L l h w) s = .next (s.withBlk (((b4.moveIn k x w ts td rows xrows).boardTile k b4.nextId td true).startXfer k
            (fld w 23 2) true (newXfer l h (b4.footHomes f) [] none false)))) ∧
        (fld w 0 8 = 0x41 → firstErr (moveChk x.share false (bit w 16) ts td) = none → x.tileReadable ts = true →
          x.boardRoom (tdRanges ts) = true → ∀ b2 f, Reaches b1 l h 6 false (tdFoot td) b2 f →
          (bit w 16 = true → b2.tilePoison k ts = false) → b2.canIssue l h = true →
          let ws := b2.pieceWrites f (tdBase td) (tdStride td) (b2.moveOut k x w ts td).1 ++
            b2.pieceWrites f (tdXbase td) (tdXstride td) (b2.moveOut k x w ts td).2
          (∀ y ∈ ws, b2.ownMoveOn l h y.1 = false ∧
            (b2.lantern l).stores.any (fun q => q.hw == h && q.pa / 64 == b2.linePa y.1 / 64) = false) →
          Completes (.moveL2M l h w) s (fun t => t.blk.mem = b2.mem ∧ t.blk.lines = b2.lines ∧
            (t.blk.hw k).pc = (b2.hw k).pc + 8 ∧
            ∃ y ∈ t.blk.xfers, y.id = b2.nextId ∧ y.lantern = k / 4 ∧ y.tally = some (fld w 23 2) ∧ y.keep = tdKeep td ∧
              y.homes = b2.footHomes f ∧ y.writes = ws))) ∧
      (fld w 0 8 = 0x42 → fld w 12 11 = 0 → fld w 30 34 = 0 →
        let n := fld w 25 4 * 2 + fld w 29 1
        tdChk ts x.share false = none → tdLens ts = true → tdRows ts ≤ 512 → tdCols ts ≤ beamK (tdFmt ts) →
        x.claims.contains n = true → x.tileReadable ts = true → x.boardRoom (tdRanges ts) = true → b1.halfRead l n = false →
        (b1.halfOf l n).st ≠ .loading → b1.tilePoison k ts = false →
        Completes (.moveL2F l h w) s (fun t => (t.blk.halfOf l n).st = .loading ∧ (t.blk.halfOf l n).fmt = tdFmt ts ∧
          (t.blk.halfOf l n).scale = tdScale ts ∧ (t.blk.halfOf l n).n = tdRows ts ∧ (t.blk.halfOf l n).k = tdCols ts ∧
          (t.blk.halfOf l n).cols = (List.range (tdRows ts)).map (fun r =>
            b1.lensBytes k (tdBase ts + r * tdStride ts) (tdRowBytes ts)) ∧
          (t.blk.hw k).pc = x.pc + 8 ∧ t.blk.mem = b1.mem ∧ t.blk.lines = b1.lines))) ∧
  (∀ (s : State) (id : Nat) (x : Xfer), s.blk.xfers.find? (fun y => y.id == id) = some x → x.group = none → x.chunks = [] →
      (s.blk.lantern x.lantern).loss = .alive →
      (x.homes.any (fun t => s.blk.pathHeld (lampTile x.lantern) t) = true → exec (.moveDone id) s = .next s) ∧
      (x.homes.any (fun t => s.blk.pathHeld (lampTile x.lantern) t) = false →
        (x.writes = [] → exec (.moveDone id) s = .next (s.withBlk (s.blk.retireXfer x))) ∧
        ∀ b1 rest, x.writes ≠ [] → s.blk.xferWrites x = (b1, none, rest) →
        exec (.moveDone id) s = .next (s.withBlk (b1.retireXfer x)))) ∧
  (∀ (b : Block) (k tally : Nat) (mem : Bool) (x : Xfer),
      let t := b.startXfer k tally mem x
      (t.chart (k / 4)).refs = (b.chart (k / 4)).refs ++ (if mem then [((b.chart (k / 4)).epoch, b.nextId)] else []) ∧
      (t.hw k).tally tally = (b.hw k).tally tally + 1 ∧ (t.hw k).pc = (b.hw k).pc + 8 ∧ t.nextId = b.nextId + 1 ∧
      t.xfers = b.xfers ++ [{ x with id := b.nextId, lantern := k / 4, hw := k % 4, req := (b.hw k).req, tally := some tally }] ∧
      (t.hw k).g = (b.hw k).g ∧ (t.hw k).board = (b.hw k).board ∧ (∀ j, j ≠ k → t.hw j = b.hw j) ∧ t.mem = b.mem ∧
      t.lines = b.lines ∧ t.lanterns = b.lanterns ∧ t.beams = b.beams) ∧
  (∀ (b : Block) (x : Xfer) (i : Nat), x.tally = some i → x.half = none → x.hw < 4 →
      let t := b.retireXfer x
      let k := hwNo x.lantern x.hw
      (t.hw k).tally i = (b.hw k).tally i - 1 ∧ (∀ y ∈ t.xfers, y.id ≠ x.id) ∧ (∀ e ∈ (t.hw k).board, e.1 ≠ x.id) ∧
      (t.hw k).pc = (b.hw k).pc ∧ (t.hw k).g = (b.hw k).g ∧ (∀ j, j ≠ k → t.hw j = b.hw j) ∧ t.mem = b.mem ∧ t.lines = b.lines)

/-- SEND and the arrival of its chunks; RECV and its time-out (R137). Claims of lane-file halves: granted at once or in turn, and given
back (R130). Completes, with the effect that its rule gives it: CLAIM, CLAIM_GRANT, RELEASE, SEND, SEND_ARRIVAL, RECV, RECV_TIMEOUT. -/
def Obligations.SendReceiveClaim : Prop :=
  (∀ (s : State) (l h : Nat) (w : W64),
      let k := hwNo l h
      (∀ b1, Fetches s.blk l h b1 w →
        let x := b1.hw k
        let ts := x.tile (fld w 8 4)
        x.tPoison.contains (fld w 8 4) = false → tdLevelErr ts = none →
        (fld w 0 8 = 0xA0 → fld w 28 36 = 0 → tdChk ts x.share false = none → tdLens ts = true →
          let peer := (x.reg (fld w 12 5)).toNat
          peer < 64 → x.mask.getLsbD peer = true → x.tileReadable ts = true → x.boardRoom 1 = true →
          Completes (.send l h w) s (fun t => (t.blk.hw k).pc = x.pc + 8 ∧
            (t.blk.hw k).tally (fld w 26 2) = x.tally (fld w 26 2) + 1 ∧ t.blk.mem = b1.mem ∧ t.blk.lines = b1.lines ∧
            ∃ y ∈ t.blk.xfers, y.id = b1.nextId ∧ y.peer = some peer ∧ y.tag = fld w 22 4 ∧
              y.chunks = sendChunks (x.reg (fld w 17 5)).toNat (b1.packed k ts))) ∧
        (fld w 0 8 = 0xA1 → fld w 26 38 = 0 → tdChk ts x.share true = none → tdLens ts = true → x.tileWritable ts = true →
          let n := (x.reg (fld w 12 5)).toNat
          let tag := fld w 22 4
          (n ≤ Machine.tget 0 x.tags tag → exec (.recv l h w) s = .next (s.withBlk ((b1.updHw k (fun y =>
            { y with tags := tput y.tags tag (Machine.tget 0 y.tags tag - n) })).advance k))) ∧
          (Machine.tget 0 x.tags tag < n → exec (.recv l h w) s = .next (s.withBlk (b1.updHw k (fun y => { y with waiting := true })))) ∧
          (Machine.tget 0 x.tags tag < n → x.waiting = true → x.reg (fld w 17 5) ≠ 0 →
            exec (.recvTimeout l h) s = .next (s.withBlk (b1.endReq k 0x20 0x12))))) ∧
      (∀ id i x p c w0, s.blk.xfers.find? (fun y => y.id == id) = some x → x.peer = some p →
        x.chunks.find? (fun c => c.1 == i) = some c → (s.blk.lantern p).loss = .alive → s.blk.hwFor p x.req = some w0 →
        s.blk.pathHeld (lampTile x.lantern) (lampTile p) = false → (s.blk.hw w0).phase = .running → (s.blk.request x.req).left.getLsbD p = false →
        c.2.1 + c.2.2.1.length ≤ (s.blk.hw w0).share →
        Completes (.sendArrival id i) s (fun t =>
          Machine.tget 0 (t.blk.hw w0).tags x.tag = (Machine.tget 0 (s.blk.hw w0).tags x.tag + c.2.2.1.length) % 2 ^ 32 ∧
          (∀ y ∈ t.blk.xfers, y.id = id → ∀ z ∈ y.chunks, z.1 ≠ c.1) ∧ t.blk.mem = s.blk.mem ∧ t.blk.lines = s.blk.lines))) ∧
  (∀ (s : State) (l h : Nat) (w : W64),
      let k := hwNo l h
      (∀ b1, Fetches s.blk l h b1 w → fld w 13 51 = 0 →
        let x := b1.hw k
        let want := setBits (x.reg (fld w 8 5)) 32
        (fld w 0 8 = 0x51 → x.claims = [] → (b1.lantern l).claimers = [] → b1.halvesFree l want = true →
          Completes (.claim l h w) s (fun t => (t.blk.hw k).claims = want ∧ (t.blk.hw k).pc = x.pc + 8 ∧
            (t.blk.hw k).phase = .running ∧ t.blk.mem = b1.mem ∧ t.blk.lines = b1.lines)) ∧
        (fld w 0 8 = 0x51 → x.claims = [] → (b1.lantern l).claimers ≠ [] →
          Completes (.claim l h w) s (fun t => (t.blk.hw k).phase = .claiming ∧ (t.blk.hw k).claimWant = want ∧
            (t.blk.lantern l).claimers = addLast (b1.lantern l).claimers h)) ∧
        (fld w 0 8 = 0x51 → x.claims ≠ [] → exec (.claim l h w) s = .next (s.withBlk (b1.endReq k 0x20 0x10))) ∧
        (fld w 0 8 = 0x52 → (∀ n ∈ want, n ∈ x.claims) →
          Completes (.release l h w) s (fun t => (t.blk.hw k).claims = x.claims.filter (fun n => !want.contains n) ∧
            (t.blk.hw k).pc = x.pc + 8 ∧ t.blk.mem = b1.mem ∧ t.blk.lines = b1.lines))) ∧
      (∀ rest, (s.blk.lantern l).claimers = h :: rest → h < 4 → s.blk.halvesFree l (s.blk.hw k).claimWant = true →
        (s.blk.lantern l).loss = .alive →
        Completes (.claimGrant l) s (fun t => (t.blk.lantern l).claimers = rest ∧ (t.blk.hw k).claims = (s.blk.hw k).claimWant ∧
          (t.blk.hw k).phase = .running ∧ (t.blk.hw k).pc = (s.blk.hw k).pc + 8 ∧ t.blk.mem = s.blk.mem)))

/-! ### Beams -/

/-- BEAM: the checks of R131 pass, and the operation enters the queue of its beam with its A operand on the scoreboard (R58, R131);
SELFTEST enters it likewise and the program waits (R97). A clean BEAM leaves its set OPEN with the products entered, the beam free and its
cycles counted (R52, R54, R79 to R82). Completes, with the effect that its rule gives it: BEAM, SELFTEST. -/
def Obligations.BeamQueueAndResult : Prop :=
  (∀ (s : State) (l h : Nat) (w : W64) (b1 : Block), Fetches s.blk l h b1 w →
      let k := hwNo l h
      let x := b1.hw k
      let m := fld w 8 4
      (fld w 0 8 = 0x50 → fld w 23 41 = 0 →
        let ta := x.tile (fld w 12 4)
        let hf := fld w 21 1
        let acc := fld w 16 5
        let y := (b1.beam (beamNo l m)).half hf
        x.tPoison.contains (fld w 12 4) = false → tdLevelErr ta = none → x.claims.contains (2 * m + hf) = true → y.st ≠ .empty →
        tdChk ta x.share false = none → tdLens ta = true → tdRowBytes ta ≤ 1024 → pairsOk (tdFmt ta) y.fmt = true →
        tdScale ta = y.scale → tdRows ta ≤ 32 → tdCols ta = y.k → y.k ≤ beamK (tdFmt ta) → acc < x.sets.length →
        (∃ z, setAfter (b1.projected l (x.sets.getD acc 0)) (bit w 22) (tdFmt ta) y.fmt (tdScale ta) (tdRows ta) y.n y.k
          (tdTensor ta) y.tscale = .ok z) →
        b1.queueRoom l m = true → x.boardRoom (tdRanges ta) = true →
        Completes (.beam l h w) s (fun t =>
          (∃ o, (t.blk.beam (beamNo l m)).queue = (b1.beam (beamNo l m)).queue ++ [o] ∧ o.id = b1.nextId ∧ o.hw = h ∧ o.beam = m ∧
            o.half = hf ∧ o.set = x.sets.getD acc 0 ∧ o.add = bit w 22 ∧ o.a = ta ∧ o.staged = none) ∧
          (t.blk.hw k).pc = x.pc + 8 ∧ (t.blk.hw k).g = x.g ∧ t.blk.sets = b1.sets ∧ t.blk.mem = b1.mem ∧ t.blk.lines = b1.lines)) ∧
      (fld w 0 8 = 0xE0 → fld w 27 37 = 0 →
        let acc := fld w 12 5
        x.waiting = false → x.claims.contains (2 * m) = true → x.claims.contains (2 * m + 1) = true → acc < x.sets.length →
        (b1.projected l (x.sets.getD acc 0)).st = .free → (b1.lantern l).vectorsBad = false → b1.queueRoom l m = true →
        Completes (.selftest l h w) s (fun t =>
          (∃ o, (t.blk.beam (beamNo l m)).queue = (b1.beam (beamNo l m)).queue ++ [o] ∧ o.beam = m ∧ o.set = x.sets.getD acc 0 ∧
            o.selftest = some (fld w 17 5, x.reg (fld w 22 5))) ∧
          (t.blk.hw k).waiting = true ∧ (t.blk.hw k).pc = x.pc ∧ t.blk.mem = b1.mem))) ∧
  (∀ (b : Block) (l m : Nat) (o : BeamOp), m < 16 → b.hostOf l m = m → ((b.beam (beamNo l m)).half o.half).poison = false →
      o.aPoison = false → ((b.beam (beamNo l m)).half o.half).xs = [] → (∀ n, n < 32 → (b.halfOf l n).releasing = false) →
      let y := (b.beam (beamNo l m)).half o.half
      let sg := o.staged.getD ([], [])
      let t := b.endBeam l m o .clean
      (t.beam (beamNo l m)).run = none ∧
      (t.beam (beamNo l m)).busyCycles = (b.beam (beamNo l m)).busyCycles +
        beamCycles y.n (b.width l m) (tdRows o.a) y.k (dotWidth (tdFmt o.a)) ∧
      (t.accSet (l * 32 + o.set)).st = .opn ∧
      (t.accSet (l * 32 + o.set)).entries = entriesAfter (b.accSet (l * 32 + o.set)) (tdFmt o.a) y.fmt (tdScale o.a) y.k
        (tdTensor o.a) y.tscale (nats sg.1) (nats sg.2) (nats y.cols) (y.cols.map (fun _ => 0)) ∧
      (∀ n, n ≠ l * 32 + o.set → t.accSet n = b.accSet n) ∧ t.hws = b.hws ∧ t.mem = b.mem ∧ t.lines = b.lines)

/-- Staging, issue and completion of the operation at the head of a beam's queue (R46, R54, R56, R57, R58, R97, R422). SETOP and the
change of the operating point, which never falls into a BEAM; the reload of the resident vectors (R37, R97, R140, R385). Completes, with
the effect that its rule gives it: A_STAGE, BEAM_ISSUE, BEAM_COMPLETE, VECTOR_RELOAD, SETOP, OPERATING_POINT_CHANGE_DONE. -/
def Obligations.BeamRunAndPoints : Prop :=
  (∀ (s : State) (l m : Nat), m < 16 → (s.blk.lantern l).loss = .alive →
      let b := s.blk
      let p := b.hostOf l m
      (∀ o, (b.beam (beamNo l m)).queue.find? (fun q => q.selftest.isNone && q.staged.isNone) = some o →
        ((b.carried l p).map (fun i => ((b.beam (beamNo l i)).run.toList ++ (b.beam (beamNo l i)).queue).countP
          (fun q => q.staged.isSome))).sum < 2 → b.aWriters l o = false →
        exec (.aStage l m) s = .next (s.withBlk (b.stage l o))) ∧
      (∀ o rest, (b.beam (beamNo l m)).queue = o :: rest →
        (b.beamRuns l p = true → exec (.beamIssue l m) s = .next s) ∧
        (b.issueBlocked l m o = 0 → (b.beam (beamNo l p)).loaded.getD p = m → p = m →
          0 ≤ creditTick (b.beam (beamNo l m)).credit (b.lantern l).rate →
          Completes (.beamIssue l m) s (fun t => (t.blk.beam (beamNo l m)).run = some o ∧ (t.blk.beam (beamNo l m)).queue = rest ∧
            (t.blk.accSet (l * 32 + o.set)).st = .busy ∧ t.blk.mem = b.mem ∧ t.blk.lines = b.lines ∧ t.blk.lanterns = b.lanterns)) ∧
        (b.issueBlocked l m o = 0 → (b.beam (beamNo l p)).loaded.getD p = m → p = m →
          creditTick (b.beam (beamNo l m)).credit (b.lantern l).rate < 0 →
          Completes (.beamIssue l m) s (fun t => (t.blk.beam (beamNo l m)).queue = o :: rest ∧
            Machine.tget 0 (t.blk.beam (beamNo l m)).stalls 0x15 = Machine.tget 0 (b.beam (beamNo l m)).stalls 0x15 + 1))) ∧
      (∀ o chk, (b.beam (beamNo l m)).run = some o → o.selftest = none → ∀ fail,
        exec (.beamComplete l m chk fail) s = .next (s.withBlk (b.endBeam l m o chk))) ∧
      (∀ o g suite fail, (b.beam (beamNo l m)).run = some o → o.selftest = some (g, suite) → ∀ chk,
        exec (.beamComplete l m chk fail) s = .next (s.withBlk (b.endSelftest l m o g suite fail)))) ∧
  (∀ (s : State) (l h : Nat) (w : W64),
      (∀ b1, Fetches s.blk l h b1 w → fld w 0 8 = 0xD1 → fld w 11 53 = 0 →
        Completes (.setop l h w) s (fun t => (t.blk.hw (hwNo l h)).op = some (fld w 8 3) ∧
          (t.blk.hw (hwNo l h)).pc = (b1.hw (hwNo l h)).pc + 8 ∧ t.blk.mem = b1.mem ∧ t.blk.lines = b1.lines)) ∧
      (∀ p, (∀ m, m < 16 → (s.blk.beam (beamNo l m)).run = none) → (s.blk.lantern l).opPending = some p →
        exec (.operatingPointChangeDone l) s = .next (s.withBlk (s.blk.setLantern l
          { s.blk.lantern l with op := p, opPending := none }))) ∧
      (∀ m, m < 16 → (s.blk.beam (beamNo l m)).run ≠ none → exec (.operatingPointChangeDone l) s = .next s) ∧
      (∀ ok, (∀ g, g < 4 → (s.blk.hw (hwNo l g)).phase = .free) →
        exec (.vectorReload l ok) s = .next (s.withBlk (s.blk.setLantern l { s.blk.lantern l with vectorsBad := !ok }))))

/-! ### POST, REDUCE, AMAX, the optimiser and CHECK -/

/-- POST, once its checks pass, the scoreboard and its set let it go and the unit's limiter grants it: the function row by row, converted
into the destination tile; a set source is FREE after it (R53, R58, R132, R133, R381). What the closing of a layer's step makes of its
record (R92, R93): the step counter rises, the counts of the step move to the second line and start again at zero, and the shift stays
within its range where it is automatic. CHECK: ignored in a context that takes no checks; a selected one puts its tile on the scoreboard
and joins the checks (R140, R418). Completes, with the effect that its rule gives it: POST, CHECK. -/
def Obligations.PostsAndLayers : Prop :=
  (∀ (s : State) (l h : Nat) (w : W64) (b1 : Block), Fetches s.blk l h b1 w → fld w 0 8 = 0x60 →
      let k := hwNo l h
      let x := b1.hw k
      let td := x.tile (fld w 24 4)
      let set := x.sets.getD (fld w 8 5) 0
      let y := b1.accSet (l * 32 + set)
      let hdr := b1.projected l set
      let rows := if bit w 13 then tdRows (x.tile (fld w 8 4)) else hdr.m
      let cols := if bit w 13 then tdCols (x.tile (fld w 8 4)) else hdr.n
      (postIllegal w = true → exec (.post l h w) s = .next (s.withBlk (b1.endReq k 0x20 1))) ∧
      (postIllegal w = false → postRsv w = false →
        (∀ i ∈ postTiles w, x.tPoison.contains i = false ∧ tdLevelErr (x.tile i) = none) →
        firstErr (postChk x w hdr.st rows cols) = none → postWaits x w = false →
        (bit w 13 = false → y.st ≠ .busy ∧ (b1.beamOps l).any (fun o => o.set == set) = false ∧
          y.entries.any (fun a => a.2.poison) = false) →
        ∀ b2, (∀ go, b1.postIssue l k (b1.hostOf l (if bit w 13 then fld w 14 4 else y.beam)) (rows * postCycles (fld w 18 6) + 16) go = go b2) →
        (bit w 13 = true → b2.tilePoison k (x.tile (fld w 8 4)) = false) →
        (postTile (fld w 18 6) (bit w 32) = true → b2.tilePoison k (x.tile (fld w 28 4)) = false) →
        let res := b2.putConverted k td (bit w 44) (bit w 38) (x.stream (fld w 39 5)) (b2.postRes k x w y)
        exec (.post l h w) s = .next (s.withBlk
          ((if bit w 13 then res else res.updAccSet (l * 32 + set) (fun a => { owner := a.owner })).advance k)))) ∧
  (∀ (d : Line) (ppm steps : Nat),
      let r := closeLayer d ppm steps
      fld r.1 32 32 = (fld d 32 32 + 1) % 2 ^ 32 ∧ fld r.1 128 384 = 0 ∧
      (∀ i, i < 6 → fld r.2.1 (64 * i) 64 = fld d (128 + 64 * i) 64) ∧ fld r.2.1 384 128 = 0 ∧
      (bit d 8 = true → -16 ≤ lyShift r.1 ∧ lyShift r.1 ≤ 16) ∧ (bit d 8 = false → lyShift r.1 = lyShift d) ∧
      (bit d 9 = false → r.2.2 = false)) ∧
  (∀ (s : State) (l h : Nat) (w : W64) (b1 : Block), Fetches s.blk l h b1 w → fld w 0 8 = 0xD2 → fld w 18 46 = 0 →
      let k := hwNo l h
      let x := b1.hw k
      let ts := x.tile (fld w 8 4)
      x.tPoison.contains (fld w 8 4) = false → tdLevelErr ts = none → tdChk ts x.share false = none → tdLens ts = true →
      ((b1.cfg 0x61000005 (2 ^ 256 - 1)).testBit x.ctx = false →
        Completes (.check l h w) s (fun t => t.blk.silent.ignored = b1.silent.ignored + 1 ∧ t.blk.checks = b1.checks ∧
          Machine.tget 0 t.blk.silent.issued l = Machine.tget 0 b1.silent.issued l + 1 ∧ (t.blk.hw k).pc = x.pc + 8)) ∧
      ((b1.cfg 0x61000005 (2 ^ 256 - 1)).testBit x.ctx = true → bit w 12 = true → x.tileReadable ts = true →
        x.boardRoom (tdRanges ts) = true →
        Completes (.check l h w) s (fun t => (t.blk.hw k).pc = x.pc + 8 ∧ t.blk.mem = b1.mem ∧ t.blk.lines = b1.lines ∧
          t.blk.lanterns = b1.lanterns ∧
          ∃ q, t.blk.checks = b1.checks ++ [q] ∧ q.id = b1.nextId ∧ q.lantern = l ∧ q.hw = h ∧ q.ctx = x.ctx ∧
            q.key = x.reg (fld w 13 5) ∧ q.tile = ts ∧ q.stage = 0)))

/-- REDUCE over the planes and AMAX over a tile (R134). OPT.STEP and OPT.CLOSE: the tiles take the updated elements, the counts are added
at the home of the layer record, and the closing writes both lines of the record (R88 to R93, R135). Completes, with the effect that its
rule gives it: REDUCE_SUM, REDUCE_MAX, REDUCE_MIN, AMAX, AMAX_ACC, OPT_STEP, OPT_CLOSE. -/
def Obligations.ReductionsAndOptimiser : Prop :=
  (∀ (s : State) (l h : Nat) (w : W64) (b1 : Block), Fetches s.blk l h b1 w →
      let k := hwNo l h
      let x := b1.hw k
      let ts := x.tile (fld w 8 4)
      x.tPoison.contains (fld w 8 4) = false → tdLevelErr ts = none → tdChk ts x.share false = none → tdLens ts = true →
      (let td := x.tile (fld w 12 4)
        let q := (x.reg (fld w 16 5)).toNat
        let p := (x.reg (fld w 21 5)).toNat
        let clean := (List.range q).any (fun i => (List.range (tdRows ts)).any (fun r =>
          b1.lensBad k (tdBase ts + i * p + r * tdStride ts) (tdRowBytes ts)))
        let planes := (List.range q).map (fun i => b1.plane k ts (i * p))
        let res := fun op => (List.range (tdRows ts)).map (fun r => (List.range (tdCols ts)).map (fun j =>
          reduceWith op (planes.map (fun pl => (pl.getD r []).getD j 0))))
        let t := fun op => s.withBlk ((b1.putConverted k td false (bit w 36) (x.stream (fld w 37 5)) (res op)).advance k)
        fld w 42 22 = 0 → fld w 26 10 = 0 → (bit w 36 = false → fld w 37 5 = 0) → x.tPoison.contains (fld w 12 4) = false →
        tdLevelErr td = none → tdChk td x.share true = none → tdLens td = true → tdFmt ts ≤ 1 → tdScale ts = 0 →
        tdMx td = false → tdRows ts = tdRows td → tdCols ts = tdCols td → 1 ≤ q → q ≤ 4096 → p % 64 = 0 →
        tdBase ts + (q - 1) * p + tdSpan ts ≤ x.share → x.mayRead (tdBase ts) ((q - 1) * p + tdSpan ts) = true →
        x.tileWritable td = true → clean = false →
        (fld w 0 8 = 0x70 → exec (.reduceSum l h w) s = .next (t 0)) ∧
        (fld w 0 8 = 0x71 → exec (.reduceMax l h w) s = .next (t 1)) ∧
        (fld w 0 8 = 0x72 → exec (.reduceMin l h w) s = .next (t 2))) ∧
      (let r := amaxOf (b1.lensVals k ts).flatten
        let gd := fld w 26 5
        let gc := fld w 31 5
        let t := fun (m : W32) (n : W64) => s.withBlk (((b1.setG k gd (BitVec.ofNat 64 m.toNat)).setG k gc n).advance k)
        fld w 36 28 = 0 → fld w 12 14 = 0 → tdScale ts = 0 → x.tileReadable ts = true → b1.tilePoison k ts = false →
        (fld w 0 8 = 0x73 → exec (.amax l h w) s = .next (t r.1 (BitVec.ofNat 64 r.2))) ∧
        (fld w 0 8 = 0x74 → exec (.amaxAcc l h w) s = .next
          (t (max32 (BitVec.ofNat 32 (x.reg gd).toNat) r.1) (x.reg gc + BitVec.ofNat 64 r.2))))) ∧
  (∀ (s : State) (l h : Nat) (w : W64) (b1 : Block), Fetches s.blk l h b1 w →
      let k := hwNo l h
      let x := b1.hw k
      let gl := (x.reg (fld w 29 5)).toNat
      (fld w 0 8 = 0x80 → fld w 39 25 = 0 →
        let tw := x.tile (fld w 8 4)
        let tm := x.tile (fld w 12 4)
        let tv := x.tile (fld w 16 4)
        let tg := x.tile (fld w 20 4)
        (∀ i ∈ [fld w 8 4, fld w 12 4, fld w 20 4], x.tPoison.contains i = false ∧ tdLevelErr (x.tile i) = none) →
        firstErr (optTileChk x w) = none →
        ∀ b2 hv, (∀ go, b1.dieRead l h 9 (x.reg (fld w 24 5)).toNat 64 go = go b2 hv) →
        ∀ b3 p0 p1 ly ly1, (∀ go, b2.withLayer l h gl go = go b3 p0 p1 ly ly1) → (b3.hw k).tPoison = x.tPoison →
        (b3.hw k).t = x.t →
        let hd : Line := BitVec.ofNat 512 hv
        let adam := decide (2 ≤ lyAlgo ly)
        (adam = true → x.tPoison.contains (fld w 16 4) = false ∧ tdLevelErr tv = none ∧ x.tileWritable tv = true ∧
          b3.tilePoison k tv = false) →
        firstErr (optRecChk x w hd ly ly1) = none →
        x.tileReadable tg = true → x.tileWritable tw = true → x.tileWritable tm = true →
        b3.tilePoison k tw = false → b3.tilePoison k tm = false → b3.tilePoison k tg = false →
        let outs := optRows (hyperOf hd) ly tw tg x.seed (x.stream (fld w 34 5)) (b3.lens32 k tw) (b3.lens32 k tm)
          (if adam then b3.lens32 k tv else []) (b3.lensRows k tg)
        ∀ b4, b3.addCounts (((b3.dom p0).getD 0) / 64) 16 (optCounts outs) = .ok b4 →
        exec (.optStep l h w) s = .next (s.withBlk ((b4.optWrite k x w adam outs).advance k))) ∧
      (fld w 0 8 = 0x81 → fld w 8 21 = 0 → fld w 34 30 = 0 → gl % 64 = 0 →
        ∀ b2 p0 p1 ly ly1, (∀ go, b1.withLayer l h gl go = go b2 p0 p1 ly ly1) → firstErr (layerChk ly ly1) = none →
        let r := closeLayer ly (b2.cfg 0x60000030 1000) (b2.cfg 0x60000031 256)
        ∀ b3 b4, b2.write (((b2.dom p0).getD 0) / 64) (BitVec.allOnes 64) r.1 false = .ok b3 →
          b3.write (((b2.dom p1).getD 0) / 64) (BitVec.allOnes 64) r.2.1 false = .ok b4 →
          exec (.optClose l h w) s = .next (s.withBlk ((if r.2.2 then
            ({ b4 with silent := { b4.silent with quietEvents := b4.silent.quietEvents + 1 } }).raise (unitNo 0x20 l) .quietLayer
              [x.ctx, p0, fld r.1 32 32] else b4).advance k))))

/-! ### Sinkers -/

/-- SINK passes a checked descriptor to its sinker, SINK_ADMIT admits one that waited, SINK_DONE retires one that has run (R122, R136,
R169). A stack's temperature sets the throttle of its sinker: upward at once, downward with hysteresis; a lost sinker die takes no
descriptor more and its domain's stack channels are LOST (R178, R180, R404). Completes, with the effect that its rule gives it: SINK,
SINK_ADMIT, SINK_DONE, STACK_TEMP_SAMPLE, SINKER_LOST. -/
def Obligations.SinkQueueAndConditions : Prop :=
  ((∀ (s : State) (l h : Nat) (w : W64) (b1 : Block), Fetches s.blk l h b1 w → fld w 0 8 = 0x90 → fld w 15 49 = 0 →
      let k := hwNo l h
      let va := ((b1.hw k).reg (rD w)).toNat
      (b1.hw k).waiting = false → va % 64 = 0 → ∀ b2 v, (∀ go, b1.dieRead l h 9 va 64 go = go b2 v) →
      ∀ b3 o, (∀ go, b2.sinkChecked l h v (some (fld w 13 2)) none go = go b3 o) →
      exec (.sink l h w) s = .next (s.withBlk (b3.enterSink l h o))) ∧
    (∀ (b : Block) (l h : Nat) (o : SinkOp) (i : Nat), o.tally = some i → skLens o.desc = false → h < 4 →
      (b.sinker (skStack o.desc)).queued < 256 → (∀ q ∈ (b.sinker (skStack o.desc)).ops, q.admitted = true) →
      let t := b.enterSink l h o
      let k := hwNo l h
      (t.sinker (skStack o.desc)).ops = (b.sinker (skStack o.desc)).ops ++ [{ o with admitted := true }] ∧
      (t.hw k).tally i = (b.hw k).tally i + 1 ∧ (t.hw k).pc = (b.hw k).pc + 8 ∧ t.mem = b.mem ∧ t.lines = b.lines) ∧
    (∀ (s : State) (n : Nat) (o : SinkOp), (s.blk.sinker n).next = some o → (s.blk.sinker n).queued < 256 → o.group = none →
      o.tally ≠ none → (s.blk.hw (hwNo o.lantern o.hw)).waiting = true → (s.blk.hw (hwNo o.lantern o.hw)).phase = .running →
      Completes (.sinkAdmit n) s (fun t => (t.blk.sinker n).last = o.lantern ∧
        (∀ q ∈ (t.blk.sinker n).ops, q.id = o.id → q.admitted = true) ∧
        (t.blk.hw (hwNo o.lantern o.hw)).pc = (s.blk.hw (hwNo o.lantern o.hw)).pc + 8 ∧ t.blk.mem = s.blk.mem)) ∧
    (∀ (s : State) (n id : Nat) (o : SinkOp), (s.blk.sinker n).ops.find? (fun q => q.id == id) = some o →
      (o.ran = true → exec (.sinkDone n id) s = .next (s.withBlk (s.blk.retireSink n o))) ∧
      (o.ran = false → exec (.sinkDone n id) s = .next s))) ∧
  (∀ (s : State) (n : Nat), n < 16 →
      let x := s.blk.sinker n
      (∀ t, t < 83000 → x.throttle = .full ∨ x.throttle = .half →
        Completes (.stackTempSample n t) s (fun u => (u.blk.sinker n).throttle = .full)) ∧
      (∀ t, t < 88000 → x.throttle = .quarter →
        Completes (.stackTempSample n t) s (fun u => (u.blk.sinker n).throttle = .half)) ∧
      (∀ t, t < 93000 → x.throttle = .stopped → Completes (.stackTempSample n t) s (fun u =>
        (u.blk.sinker n).throttle = .quarter ∧ (u.blk.sinker n).refresh2 = false)) ∧
      (∀ t, 85000 ≤ t → t < 90000 → x.throttle = .full →
        Completes (.stackTempSample n t) s (fun u => (u.blk.sinker n).throttle = .half)) ∧
      (∀ t, 83000 ≤ t → t < 85000 → x.throttle = .half →
        Completes (.stackTempSample n t) s (fun u => (u.blk.sinker n).throttle = .half)) ∧
      (∀ t, 88000 ≤ t → t < 95000 → x.throttle = .quarter →
        Completes (.stackTempSample n t) s (fun u => (u.blk.sinker n).throttle = .quarter)) ∧
      (∀ t, 95000 ≤ t → x.throttle ≠ .stopped → Completes (.stackTempSample n t) s (fun u =>
        (u.blk.sinker n).throttle = .stopped ∧ (u.blk.sinker n).refresh2 = true ∧ (u.blk.sinker n).hotEvents = x.hotEvents + 1 ∧
        u.blk.events = (s.blk.raise (unitNo 0x30 n) .stackHot [n]).events ∧ u.blk.mem = s.blk.mem)) ∧
      (x.lost = false → x.ops = [] → Completes (.sinkerLost n) s (fun u => (u.blk.sinker n).lost = true ∧
        (∀ i, i < 32 → (u.blk.channel (n / 2 * 32 + i)).st = .lost))))

/-- The six sinker operations on an admitted descriptor of a sinker that may issue: what they read, what they write to the destination,
and their counts (R171 to R176). Completes, with the effect that its rule gives it: GATHER_POOL, SCORE_TOPK, STATS, FILL, CHECKSUM,
COPY. -/
def Obligations.SinkerOperations : Prop :=
  ∀ (st : State) (n id : Nat) (o : SinkOp),
    let b := st.blk
    let d := o.desc
    (b.sinker n).ops.find? (fun q => q.id == id) = some o → o.admitted = true → o.ran = false → (b.sinker n).dead = false →
    (b.sinker n).throttle ≠ .stopped → b.statusWaits o = false →
    (skOp d = 1 → ∀ rows stat, b.gatherBags o = .ok (rows, stat, false) →
      let cv := rows.map (fun r => r.map (fun x => convertVal (skOfmt d) .rne (val32 x) 1 1))
      exec (.gatherPool n id) st = .next (st.withBlk (b.sinkFinish n o
        ((cv.zipIdx).map (fun r => (r.2 * pad64 (skCols d * (if skOfmt d = 1 then 2 else 4)), packRow (skOfmt d) (r.1.map Prod.fst))))
        stat ((cv.flatten).foldl (fun a e => a.add e.2) {})))) ∧
    (∀ rows, b.sinkRows o (List.range (skRows d)) = .ok (rows, false) →
      (skOp d = 5 → exec (.checksum n id) st = .next (st.withBlk (b.sinkFinish n o
        [(0, leBytes 8 (gfSum ((rows.map (fun r => wordsOf (leBytes (skRowBytes d) r))).flatten)).toNat)]
        { rowsRead := skRows d } {}))) ∧
      (skOp d = 3 → exec (.stats n id) st = .next (st.withBlk (b.sinkFinish n o
        [(0, (statsRec d rows).1)] { rowsRead := skRows d, nonfinite := (statsRec d rows).2 } {}))) ∧
      (skOp d = 2 → ∀ qv, b.sinkQueries o = .ok (qv, false) →
        let best := qv.map (fun q => topK d q rows)
        exec (.scoreTopk n id) st = .next (st.withBlk (b.sinkFinish n o
          ((best.zipIdx).map (fun e => (e.2 * pad64 (skK d * 8), topBytes d e.1.1)))
          { rowsRead := skRows d, nonfinite := (best.map (fun e => e.2)).sum } {})))) ∧
    (skOp d = 4 → ∀ b1, b.fillRows o = .ok b1 →
      exec (.fill n id) st = .next (st.withBlk (b1.sinkGood n o {} (skRows d * skRowBytes d) {}))) ∧
    (skOp d = 6 → ∀ b1, b.copyRows o = .ok b1 →
      exec (.copy n id) st = .next (st.withBlk (b1.sinkGood n o { rowsRead := skRows d } (skRows d * skRowBytes d) {})))

/-! ### Contexts, queues and requests -/

/-- CREATE loads the entry of a FREE context; REGISTER_QUEUE refuses a descriptor with a reserved bit, then one with a broken rule, and
registers one that is right; UNREGISTER_QUEUE drops a live queue, DESTROY starts the end of a context and DESTROY_DONE frees it once it is
ready; numbers out of range and the states FREE and DESTROYING in which CREATE, REGISTER_QUEUE and DESTROY are refused (R15, R99, R100,
R104). Completes, with the effect that its rule gives it: CREATE, REGISTER_QUEUE, UNREGISTER_QUEUE, DESTROY, DESTROY_DONE. -/
def Obligations.ContextCommands : Prop :=
  ∀ (s : State) (role : Role), Admits s.blk role .operator 0x02 →
    let b := s.blk
    (∀ c, 256 ≤ c → exec (.create role c) s = .next (s.withBlk (b.refuse .outOfRange)) ∧
      exec (.destroy role c) s = .next (s.withBlk (b.refuse .outOfRange))) ∧
    (∀ c, c < 256 → (b.ctx c).st = .destroying → exec (.create role c) s = .next (s.withBlk (b.refuse .busy)) ∧
      exec (.destroy role c) s = .next (s.withBlk (b.refuse .busy)) ∧
      (∀ d, exec (.registerQueue role c d) s = .next (s.withBlk (b.refuse .busy)))) ∧
    (∀ c, c < 256 → (b.ctx c).st = .free → exec (.destroy role c) s = .next (s.withBlk (b.refuse .badState))) ∧
    (∀ c ws, c < 256 → (b.ctx c).st = .free → b.readWords 64 (b.cfg 0x02000040 0 + 128 * c) 2 = .ok ws →
      let e : BitVec 1024 := BitVec.ofNat 1024 (ws.getD 0 0 + ws.getD 1 0 * 2 ^ 512)
      fld e 8 56 = 0 → fld e 352 672 = 0 → fld e 0 4 = 1 → bit e 4 = true →
      Completes (.create role c) s (fun t =>
        (t.blk.ctx c).st = .active ∧ (t.blk.ctx c).offset = bit e 5 ∧ (t.blk.ctx c).priority = fld e 6 2 ∧
        (t.blk.ctx c).xroot = fld e 64 64 ∧ (t.blk.ctx c).lanterns = BitVec.ofNat 64 (fld e 128 64) ∧
        (t.blk.ctx c).ring = fld e 192 64 ∧ (t.blk.ctx c).qStack = fld e 256 32 ∧ (t.blk.ctx c).qBulk = fld e 288 32 ∧
        (t.blk.ctx c).qWindow = fld e 320 32 ∧ (t.blk.ctx c).tail = 0 ∧ t.blk.cmds.reply.status = .ok ∧
        (∀ i, i ≠ c → t.blk.ctx i = b.ctx i) ∧ t.blk.mem = b.mem ∧ t.blk.hws = b.hws ∧ t.blk.queues = b.queues)) ∧
    (∀ c d v, c < 256 → (b.ctx c).st = .active → b.readBytes d 64 = .ok v →
      let w : Line := BitVec.ofNat 512 v
      ((fld w 4 4 ≠ 0 ∨ fld w 21 43 ≠ 0 ∨ fld w 256 256 ≠ 0) →
        exec (.registerQueue role c d) s = .next (s.withBlk (b.refuse .rsvNonzero))) ∧
      (fld w 4 4 = 0 → fld w 21 43 = 0 → fld w 256 256 = 0 →
        (fld w 0 4 ≠ 1 ∨ fld w 8 8 ≠ c ∨ fld w 16 5 < 4 ∨ 16 < fld w 16 5 ∨ fld w 64 64 % 64 ≠ 0 ∨ fld w 128 64 % 4096 ≠ 0 ∨
          fld w 192 64 = 0 ∨ (BitVec.ofNat 64 (fld w 192 64) : W64) &&& ~~~(b.ctx c).lanterns ≠ 0) →
        exec (.registerQueue role c d) s = .next (s.withBlk (b.refuse .badQueue)))) ∧
    (∀ c d v tail ln q b2, c < 256 → (b.ctx c).st = .active → b.readBytes d 64 = .ok v →
      let w : Line := BitVec.ofNat 512 v
      let ws := setBits (BitVec.ofNat 64 (fld w 192 64) : W64) 64
      queueRsv w = false → b.queueOk c w = true → b.readAt (fld w 64 64) 4 = .ok tail → b.lineAt (fld w 64 64) = some ln → b.freeQueue = some q →
      (∀ l ∈ ws, (b.lantern l).freeSlot ≠ none) → b.watch (ws.headD 0) ln = some b2 →
      Completes (.registerQueue role c d) s (fun t =>
        t.blk.queue q = { live := true, ctx := c, log2 := fld w 16 5, header := fld w 64 64, ring := fld w 128 64,
                          watchers := BitVec.ofNat 64 (fld w 192 64) } ∧
        t.blk.cmds.reply = { status := .ok, command := b.cmds.count + 1, ret := q } ∧ t.blk.mem = b.mem ∧ t.blk.hws = b.hws ∧
        t.blk.contexts = b.contexts ∧ (∀ i, i ≠ q → t.blk.queue i = b.queue i))) ∧
    (∀ q, q < 1024 → (b.queue q).live = true →
      ((b.ctx (b.queue q).ctx).st = .active ∨ (b.ctx (b.queue q).ctx).st = .extinguished) →
      exec (.unregisterQueue role q) s = .next (s.withBlk ((b.dropQueue q).done 0x02000041 0))) ∧
    (∀ c, c < 256 → ((b.ctx c).st = .active ∨ (b.ctx c).st = .extinguished) →
      let b2 := (b.destroyCtx c).accept 0x02000041
      exec (.destroy role c) s = .next (s.withBlk (b2.updCtx c (fun x => { x with destroyCmd := b2.cmds.count })))) ∧
    (∀ c, b.destroyReady c = true → Completes (.destroyDone c) s (fun t =>
      (t.blk.ctx c).st = .free ∧ (∀ e ∈ t.blk.requests, e.2.ctx ≠ c) ∧ t.blk.mem = b.mem ∧ t.blk.hws = b.hws ∧
      t.blk.queues = b.queues ∧ ∀ i, i ≠ c → t.blk.ctx i = b.ctx i)) ∧
    (∀ c, b.destroyReady c = false → exec (.destroyDone c) s = .next s)

/-- A queue's watcher reads TAIL at a notice; a TAIL more than the queue's length ahead is an overrun; a head that has waited is noted. A
take handles a slot of the order of R106, takes nothing unless the module is LIT and in service, and starts the program of a record that
passes its checks, whose lanterns are there and for which the resources are free (R106, R107, R108, R420, R425). The checks 2 to 8 of a
record in the order of R108: the first that fails gives STATUS and DETAIL. Completes, with the effect that its rule gives it:
WATCH_NOTICE, TAKE, QUEUE_HEAD_WAIT. -/
def Obligations.Takes : Prop :=
  (∀ (s : State) (l : Nat),
      let b := s.blk
      (∀ slot x tail, tfind (b.lantern l).slots slot = some x → x.notice = true → (b.lantern l).loss ≠ .fencing →
        (b.ctx (b.queue x.queue).ctx).st ≠ .extinguished → b.lampRead l (b.queue x.queue).header 4 = .ok tail →
        let n := 2 ^ (b.queue x.queue).log2
        let c := b.homeRead (b.queue x.queue).header
        ((tail + 2 ^ 32 - x.pos) % 2 ^ 32 ≤ n → exec (.watchNotice l slot) s = .next (s.withBlk (c.updLantern l (fun z =>
          { z with slots := tput z.slots slot { x with notice := false, tail := tail } })))) ∧
        (n < (tail + 2 ^ 32 - x.pos) % 2 ^ 32 → exec (.watchNotice l slot) s = .next (s.withBlk ((c.updLantern l (fun z =>
          { z with slots := tput z.slots slot { x with notice := false, tail := tail, pos := (tail + 2 ^ 32 - n) % 2 ^ 32,
                                                       starved := false, hold := none } })).raise
            (unitLantern l) .queueOverrun [x.queue])))) ∧
      (∀ slot x, tfind (b.lantern l).slots slot = some x →
        (x.pos ≠ x.tail → exec (.queueHeadWait l slot) s = .next (s.withBlk (b.updLantern l (fun z =>
          { z with slots := tput z.slots slot { x with starved := true } })))) ∧
        (x.pos = x.tail → exec (.queueHeadWait l slot) s = .next s)) ∧
      (b.start.level ≠ .lit → exec (.take l) s = .next s) ∧
      (b.start.level = .lit → b.silent.svc = .condemned → exec (.take l) s = .next s) ∧
      (b.start.level = .lit → b.silent.svc = .draining → exec (.take l) s = .next (s.withBlk (b.takeCheck l))) ∧
      (b.start.level = .lit → b.silent.svc = .inService →
        (b.takeOrder l = [] → exec (.take l) s = .next (s.withBlk (b.takeCheck l))) ∧
        (∀ i rest x, b.takeOrder l = i :: rest → tfind (b.lantern l).slots i = some x →
          let t : TakeAt := { l := l, slot := i, queue := x.queue, record := x.pos, held := none }
          (∀ b1, b.takeHead t = some b1 → exec (.take l) s = .next (s.withBlk b1)) ∧
          (b.takeHead t = none → exec (.take l) s = .next (s.withBlk (b.takeFirst l rest))) ∧
          (let q := b.queue x.queue
           let at_ := q.ring + 128 * (x.pos % 2 ^ q.log2)
           ∀ w0 w1, b.lampWords l 64 at_ 2 = .ok [w0, w1] →
           let r : BitVec 1024 := BitVec.ofNat 1024 (w0 + w1 * 2 ^ 512)
           let mask : W64 := BitVec.ofNat 64 (fld r 192 64)
           b.recordErr q r = none → mask.getLsbD l = true → fld r 256 64 % 64 = 0 → fld r 128 64 = 0 →
           ∀ b1 pa e1, ((b.homeRead at_).homeRead (at_ + 64)).translate l q.ctx (fld r 256 64) 4 false = (b1, .ok pa e1) →
           (b1.dom pa).isSome = true → (b1.lantern l).loss ≠ .fencing → b1.gone l = false →
           ∀ b2 epa e2, b1.translate l q.ctx (fld r 64 64) 9 false = (b2, .ok epa e2) →
           ∀ v, b2.lampRead l epa 64 = .ok v →
           let hd : Line := BitVec.ofNat 512 v
           let c := b2.homeRead epa
           headerErr hd = none → (∀ i ∈ setBits mask 64, b2.takesHeld i = false ∧ b2.gone i = false) →
           ∀ h, c.freeCtx l = some h → fld hd 8 8 ≤ (c.freeGranules l).length → fld hd 16 6 ≤ (c.freeSets l).length →
           ∀ o, c.lampRead l pa 4 = .ok o → o / 2 ^ 24 = 0 →
           exec (.take l) s = .next (s.withBlk (c.startProgram t (joinOf x.queue q r x.pos pa) r hd h)))))) ∧
  (∀ (b : Block) (q : Queue) (r : BitVec 1024),
      let mask : W64 := BitVec.ofNat 64 (fld r 192 64)
      let level : Prop := fld r 0 4 = 1
      let zeros : Prop := fld r 4 4 = 0 ∧ fld r 17 15 = 0 ∧ fld r 48 16 = 0 ∧ fld r 395 21 = 0 ∧ fld r 480 32 = 0 ∧ fld r 576 448 = 0
      let active : Prop := (b.ctx q.ctx).st = .active
      let own : Prop := fld r 8 8 = q.ctx
      let lanterns : Prop := mask ≠ 0 ∧ mask &&& ~~~q.watchers = 0 ∧ mask &&& ~~~(b.ctx q.ctx).lanterns = 0
      let places : Prop := fld r 64 64 % 64 = 0 ∧ fld r 128 64 % 64 = 0
      let file : Prop := bit r 16 = true → imsicBase ≤ fld r 320 64 ∧ fld r 320 64 < imsicEnd ∧ fld r 384 11 ≠ 0
      (¬level → b.recordErr q r = some (0x3C, 0)) ∧
      (level → ¬zeros → b.recordErr q r = some (0x38, 0)) ∧
      (level → zeros → ¬active → b.recordErr q r = some (8, 0)) ∧
      (level → zeros → active → ¬own → b.recordErr q r = some (0x40, 1)) ∧
      (level → zeros → active → own → ¬lanterns → b.recordErr q r = some (0x40, 2)) ∧
      (level → zeros → active → own → lanterns → ¬places → b.recordErr q r = some (0x40, 3)) ∧
      (level → zeros → active → own → lanterns → places → ¬file → b.recordErr q r = some (0x40, 4)) ∧
      (level → zeros → active → own → lanterns → places → file → b.recordErr q r = none))

/-- A started program: where a request lies in its hardware context, and which registers, descriptors and sets it finds; the pc counts
from ENTRY + 0x40, where the program starts (R109). -/
def Obligations.ProgramStart : Prop :=
  ∀ (b : Block) (t : TakeAt) (j : JoinInfo) (r : BitVec 1024) (hd : Line) (h : Nat), t.l < 64 → h < 4 →
    let c := b.startProgram t j r hd h
    let w := c.hw (hwNo t.l h)
    w.phase = .running ∧ w.ctx = j.ctx ∧ w.queue = j.queue ∧ w.record = j.record ∧ w.mask = j.mask ∧ w.pc = 0 ∧
    w.entry = fld r 64 64 ∧ w.reg 1 = BitVec.ofNat 64 (fld r 128 64) ∧ w.reg 2 = BitVec.ofNat 64 t.l ∧
    w.reg 3 = BitVec.ofNat 64 (popBelow j.mask t.l) ∧ w.reg 4 = BitVec.ofNat 64 (popBelow j.mask 64) ∧
    w.reg 5 = BitVec.ofNat 64 j.record ∧ w.reg 0 = 0 ∧ (∀ n, 6 ≤ n → n < 32 → w.reg n = 0) ∧ w.codeBytes = fld hd 32 32 ∧
    w.seed = BitVec.ofNat 64 (fld r 416 64) ∧ (∀ n, w.tile n = 0) ∧
    (∀ n ∈ w.sets, c.accSet (t.l * 32 + n) = { owner := some h }) ∧ c.mem = b.mem

/-- JOIN of an ended program whose work has performed joins its record and frees the hardware context; a program that a nonzero STATUS
calls off stops with its groups; a lateness wait that is still late ends the request (R110, R112, R202). The closing of a completion
record: LEVEL, TAG, DONE, the counted ending and the MSI it asks for; OUTCOME's word for a status (R110, R115). Completes, with the effect
that its rule gives it: JOIN, ABANDON, LATENESS_EXPIRY. -/
def Obligations.Joins : Prop :=
  (∀ (s : State) (l h : Nat),
      let k := hwNo l h
      let b := s.blk
      (∀ st d st1 d1, (b.hw k).phase = .ended st d → (b.hw k).check = none → (b.lantern l).loss = .alive →
        let c := b.drainStores l
        (c.hw k).phase = .ended st1 d1 →
        (c.joinReady l h = false → exec (.join l h) s = .next (s.withBlk c)) ∧
        (c.joinReady l h = true → ∀ b1 pa r, c.translate l (b.hw k).ctx (b.hw k).comp 4 false = (b1, .ok pa r) →
          (b1.dom pa).isSome = true → exec (.join l h) s = .next (s.withBlk (b1.joinHw l h pa st1 d1)))) ∧
      (∀ st d, (b.hw k).phase = .ended st d → (b.hw k).check = none → (b.lantern l).loss = .lost →
        exec (.join l h) s = .next (s.withBlk (b.joinHw l h (b.hw k).compPa st d))) ∧
      ((b.hw k).phase = .running → exec (.join l h) s = .next s) ∧
      (∀ o, (b.hw k).cnotice = true → (b.hw k).phase = .running → (b.lantern l).loss = .alive → b.lampRead l (b.hw k).compPa 4 = .ok o →
        let c := (b.homeRead (b.hw k).compPa).updHw k (fun y => { y with cnotice := false })
        (o / 2 ^ 24 ≠ 0 → exec (.abandon l h) s = .next (s.withBlk ((c.endReq k 4 0).stopGroups l (b.hw k).req))) ∧
        (o / 2 ^ 24 = 0 → exec (.abandon l h) s = .next (s.withBlk c))) ∧
      ((b.hw k).cnotice = false → exec (.abandon l h) s = .next s) ∧
      ((b.hw k).phase = .running → b.stillLate k = true →
        exec (.latenessExpiry l h) s = .next (s.withBlk ((b.endReq k 0x10 (b.hw k).lateKind).updDomain (b.hw k).lateDomain
          (fun y => { y with lateWaits := y.lateWaits + 1 })))) ∧
      (b.stillLate k = false → exec (.latenessExpiry l h) s = .next s)) ∧
  (∀ (b : Block) (j : JoinInfo),
      (∀ l st d, l < 64 → st < 256 → d < 2 ^ 16 → outcomeWord l st d / 2 ^ 24 = st ∧ outcomeWord l st d / 2 ^ 16 % 256 = 63 - l ∧
        outcomeWord l st d % 2 ^ 16 = d) ∧
      (let st := (b.peek (j.pa + 3) 1).getD 0
       let b2 := ((b.poke (j.pa + 24) 8 j.tag.toNat).1.poke (j.pa + 8) 1 0x11).1
       let b3 := b2.updCtx j.ctx (fun x => { x with ended := tinc x.ended st 1 })
       (j.msiEn = false → b.closeRecord j = b3) ∧
       (j.msiEn = true → b.closeRecord j = b3.msi j.msiAddr j.msiId .msiUndelivered [j.ctx])))

/-- Fault batches: the timer closes an open batch; a record that waited for room goes into the ring; at RESUME every held access of the
context on the lantern is tried, one whose batch is resolved goes on where it stood, or ends its request with XLATE_FAULT, and the chart
stops its watch once nothing is held (R223, R224, R225, R226). Withdrawals: the refusals in their order, the sequence number returned, and
the acknowledgement word that the oldest writes once it has drained; a withdrawal at its limit is forced, and the request of a transfer
that still refers to the old translations ends (R227, R228, R229). Completes, with the effect that its rule gives it: CHART_RESUME,
FAULT_BATCH_TIMER, FAULT_RING_ROOM, WITHDRAW, WITHDRAW_ALL, WITHDRAW_ACK, WITHDRAW_LIMIT. -/
def Obligations.FaultsAndWithdrawals : Prop :=
  (∀ (s : State) (c : Nat),
      let b := s.blk
      let x := b.ctx c
      (x.openCount = 0 → exec (.faultBatchTimer c) s = .next s) ∧
      (x.openCount ≠ 0 →
        let p1 := b.poke (x.ring + 0x1000 + 32 * ((x.tail + 2047) % 2048) + 20) 1 1
        let p2 := p1.1.poke x.ring 8 (x.tail % 2 ^ 32 + (x.closed + 1) % 2 ^ 32 * 2 ^ 32)
        p1.2 = true → p2.2 = true → Completes (.faultBatchTimer c) s (fun t => (t.blk.ctx c).openCount = 0 ∧
        (t.blk.ctx c).closed = x.closed + 1 ∧ (t.blk.ctx c).batches = x.batches + 1 ∧ (t.blk.ctx c).tail = x.tail ∧
        ∀ i, i ≠ c → t.blk.ctx i = b.ctx i)) ∧
      (b.ringRoom c = false → exec (.faultRingRoom c) s = .next s) ∧
      (∀ r b1, x.heldRecs = [r] → b.ringRoom c = true →
        (b.updCtx c (fun y => { y with heldRecs := [] })).ringWrite c r = some b1 →
        exec (.faultRingRoom c) s = .next (s.withBlk b1)) ∧
      (∀ l gen, thas (b.chart l).resume c = true → (b.lantern l).loss = .alive → b.lampRead l (x.ring + 0x44) 4 = .ok gen →
        let b1 := (b.homeRead (x.ring + 0x44)).updChart l (fun t => { t with resume := tput t.resume c false })
        let b2h := [0, 1, 2, 3].foldl (fun (a : Block) h => if (a.hw (hwNo l h)).ctx = c then a.resumeHw l h gen else a) b1
        let b2 := (List.range 16).foldl (fun (a : Block) i => match tfind (a.lantern l).slots i with
          | some s => if (a.queue s.queue).ctx = c then a.resumeSlot l i gen else a
          | none => a) b2h
        let still : Prop := (∃ e ∈ (b2.lantern l).slots, (b2.queue e.2.queue).ctx = c ∧ e.2.hold.isSome = true) ∨
          ∃ h, h < 4 ∧ (b2.hw (hwNo l h)).ctx = c ∧ ∃ n, (b2.hw (hwNo l h)).phase = .held n
        let b3 := b2.updChart l (fun t => { t with resume := tdel t.resume c })
        (still → exec (.chartResume l c) s = .next (s.withBlk b2)) ∧
        (¬still → exec (.chartResume l c) s = .next (s.withBlk (match b3.lineAt ((b3.ctx c).ring + 0x40) with
          | some ln => b3.unwatchLamp l ln
          | none => b3)))) ∧
      (∀ l, thas (b.chart l).resume c = false → exec (.chartResume l c) s = .next s) ∧
      (∀ l h gen, h < 4 →
        let w := b.hw (hwNo l h)
        w.phase = .held 0 → w.slots ≠ [] → (b.ctx w.ctx).heldRecs = [] →
        (gen + 2 ^ 32 - w.batch % 2 ^ 32) % 2 ^ 32 < 2 ^ 31 →
        let at_ := fun n => (b.ctx w.ctx).ring + 0x1000 + 32 * (n % 2048) + 31
        let poisoned : Prop := ∃ n ∈ w.slots, b.readAt (at_ n) 1 = .error .poison
        (¬poisoned → (∀ n ∈ w.slots, b.peek (at_ n) 1 = some 0) →
          ((b.resumeHw l h gen).hw (hwNo l h)).phase = .running ∧ ((b.resumeHw l h gen).hw (hwNo l h)).pc = w.pc) ∧
        (¬poisoned → (∃ n ∈ w.slots, b.peek (at_ n) 1 = some 1) →
          ((b.resumeHw l h gen).hw (hwNo l h)).phase = .ended 0x18 1) ∧
        (poisoned → ((b.resumeHw l h gen).hw (hwNo l h)).phase = .ended 0x18 4))) ∧
  (∀ (s : State) (role : Role) (c va len ack : Nat), Admits s.blk role .operator 0x02 →
      let b := s.blk
      (16 ≤ b.withdrawals.length → exec (.withdraw role c va len ack) s = .next (s.withBlk (b.refuse .busy)) ∧
        exec (.withdrawAll role c ack) s = .next (s.withBlk (b.refuse .busy))) ∧
      (b.withdrawals.length < 16 →
        ((256 ≤ c ∨ ¬ ((b.ctx c).st = .active ∨ (b.ctx c).st = .extinguished)) →
          exec (.withdraw role c va len ack) s = .next (s.withBlk (b.refuse .badContext)) ∧
          exec (.withdrawAll role c ack) s = .next (s.withBlk (b.refuse .badContext))) ∧
        (c < 256 → ((b.ctx c).st = .active ∨ (b.ctx c).st = .extinguished) →
          ((va % 4096 ≠ 0 ∨ len % 4096 ≠ 0 ∨ len = 0 ∨ ack % 8 ≠ 0) →
            exec (.withdraw role c va len ack) s = .next (s.withBlk (b.refuse .badRange))) ∧
          (ack % 8 = 0 → b.rangeOk ack 8 = true →
            exec (.withdrawAll role c ack) s = .next (s.withBlk ((b.pushWithdrawal c none (some ack)).done 0x02000042 b.nextWithdrawal)) ∧
            (va % 4096 = 0 → len % 4096 = 0 → len ≠ 0 → exec (.withdraw role c va len ack) s = .next (s.withBlk
              ((b.pushWithdrawal c (some (va, len)) (some ack)).done 0x02000042 b.nextWithdrawal)))))) ∧
      (∀ w rest a b1, b.withdrawals = w :: rest → b.drained w = true → w.ack = some ack → b.dom ack = some a →
        b.write (a / 64) (byteMask (a % 64) 8) (linePut 0 (a % 64) 8 w.seq) false = .ok b1 →
        exec (.withdrawAck w.seq) s = .next (s.withBlk (((({ b1 with withdrawals := rest } : Block).updCtx w.ctx (fun x =>
          { x with withdrawals := x.withdrawals + 1, lastAck := max x.lastAck w.seq })).tryDrops).admitDestroys))) ∧
      (∀ w rest seq, b.withdrawals = w :: rest → (w.seq ≠ seq ∨ b.drained w = false) → exec (.withdrawAck seq) s = .next s) ∧
      (∀ seq w, b.withdrawals.find? (fun x => x.seq == seq) = some w → w.dropped = true → b.drained w = false →
        Completes (.withdrawLimit seq) s (fun t => t.blk.mem = b.mem ∧ t.blk.withdrawals = b.withdrawals.map (fun x =>
          if x.seq = seq then { x with forced := true } else x)) ∧
        ∀ l e, l < 64 → (∀ i, i < 64 → i ≠ l → (b.chart i).refs = [] ∧ (b.lantern i).stores = []) → ∀ x ∈ b.xfers,
          (e, x.id) ∈ (b.chart l).refs → e ≤ tget 0 w.epochs l → (b.hw (hwNo x.lantern x.hw)).phase = .running →
          Completes (.withdrawLimit seq) s (fun t => (t.blk.hw (hwNo x.lantern x.hw)).phase = .ended 0x18 2)))

/-! ### Light groups -/

/-- FORM and REFORM load a group whose checks pass, a refusal is repeated in GROUP_REFUSED, DISSOLVE frees a group but for its counters;
the states in which each is accepted (R149, R159). The checks of FORM in their order, where the descriptor, the directory and the tables
are read: LEVEL, reserved bits of the descriptor, the directory and the tables, members, the remaining rules of the descriptor and the
directory, the tables, their space, and the sideband of the paths; what a group that passes holds (R147, R149). Completes, with the effect
that its rule gives it: FORM, REFORM, DISSOLVE. -/
def Obligations.GroupCommands : Prop :=
  (∀ (s : State) (role : Role) (g : Nat), Admits s.blk role .operator 0x22 →
      let b := s.blk
      let x := b.group g
      (16 ≤ g → (∀ d, exec (.form role g d) s = .next (s.withBlk (b.refuse .outOfRange))) ∧
        exec (.reform role g) s = .next (s.withBlk (b.refuse .outOfRange)) ∧
        exec (.dissolve role g) s = .next (s.withBlk (b.refuse .outOfRange))) ∧
      (g < 16 → (∀ d, x.st ≠ .free → exec (.form role g d) s = .next (s.withBlk (b.refuse .badState))) ∧
        (x.st ≠ .formed → x.st ≠ .degraded → exec (.reform role g) s = .next (s.withBlk (b.refuse .badState)) ∧
          exec (.dissolve role g) s = .next (s.withBlk (b.refuse .badState))) ∧
        (∀ d st m i, b.formCheck g d = .refused st m i →
          let u := s.withBlk ((b.refuse st).raise (unitGroup g) .groupRefused [g, stsCode st, m, i])
          (x.st = .free → exec (.form role g d) s = .next u) ∧
          ((x.st = .formed ∨ x.st = .degraded) → x.desc = d → exec (.reform role g) s = .next u)) ∧
        (∀ d y, b.formCheck g d = .ok y →
          let P := fun t : State =>
            (t.blk.group g).st = y.st ∧ (t.blk.group g).desc = y.desc ∧ (t.blk.group g).ctx = y.ctx ∧
            (t.blk.group g).leader = y.leader ∧ (t.blk.group g).period = y.period ∧ (t.blk.group g).stall = y.stall ∧
            (t.blk.group g).cycle = y.cycle ∧ (t.blk.group g).lanterns = y.lanterns ∧ (t.blk.group g).sinkers = y.sinkers ∧
            (t.blk.group g).members = y.members ∧ (t.blk.group g).bound = none ∧ (t.blk.group g).count = 0 ∧
            (t.blk.group g).overBudget = (b.overBudget y).isSome ∧ (t.blk.group g).stalls = x.stalls ∧
            (t.blk.group g).hold = x.hold ∧ (t.blk.group g).overruns = x.overruns ∧ t.blk.cmds.reply.status = .ok ∧
            t.blk.mem = b.mem ∧ t.blk.lines = b.lines ∧ t.blk.hws = b.hws ∧ ∀ j, j ≠ g → t.blk.group j = b.group j
          y.bound = none → y.count = 0 →
          (x.st = .free → Completes (.form role g d) s (fun t => P t ∧ (t.blk.group g).fired = 0)) ∧
          ((x.st = .formed ∨ x.st = .degraded) → x.desc = d →
            Completes (.reform role g) s (fun t => P t ∧ (t.blk.group g).fired = x.fired))) ∧
        ((x.st = .formed ∨ x.st = .degraded) → Completes (.dissolve role g) s (fun t =>
          (t.blk.group g).st = .free ∧ (t.blk.group g).members = [] ∧ (t.blk.group g).stalls = x.stalls ∧
          (t.blk.group g).fired = x.fired ∧ t.blk.cmds.reply.status = .ok ∧ t.blk.mem = b.mem ∧ t.blk.lines = b.lines ∧
          t.blk.hws = b.hws ∧ ∀ j, j ≠ g → t.blk.group j = b.group j)))) ∧
  (∀ (b : Block) (g d : Nat),
      (d % 64 ≠ 0 → b.formCheck g d = .refused .badGroupDesc 0 0) ∧
      (d % 64 = 0 → b.readAt d 64 = .error .failed → b.formCheck g d = .refused .badGroupDesc 0 0) ∧
      (∀ v, d % 64 = 0 → b.readAt d 64 = .ok v →
        let w : Line := BitVec.ofNat 512 v
        let lanterns := fld w 128 64
        let sinkers := fld w 192 16
        let leader := fld w 16 6
        let c := b.ctx (fld w 8 8)
        let lamps := setBits (BitVec.ofNat 64 lanterns) 64
        let dir := fld w 256 64
        (∀ y, b.formCheck g d = .ok y → fld w 0 4 = 1 ∧ y.st = .formed ∧ y.desc = d ∧ y.ctx = fld w 8 8 ∧ y.leader = leader ∧
          y.gcap = bit w 22 ∧ y.period = fld w 32 16 ∧ 32 ≤ y.period ∧ y.stall = fld w 48 16 ∧ y.cycle = fld w 64 12 ∧
          y.lanterns = BitVec.ofNat 64 lanterns ∧ y.sinkers = BitVec.ofNat 16 sinkers ∧ c.st = .active ∧
          y.bound = none ∧ y.count = 0) ∧
        (∀ ds ts, dir % 64 = 0 → b.readWords 16 dir 80 = .ok ds →
          b.readTables ((dirOf ds).filter (fun e => memberOf lanterns sinkers e.1)) = some ts →
          let bad := fun m => b.outOfService m || (b.lantern m).loss != .alive || !c.lanterns.getLsbD m
          let x : Group :=
            { st := .formed, desc := d, ctx := fld w 8 8, leader := leader, gcap := bit w 22, period := fld w 32 16,
              stall := fld w 48 16, cycle := fld w 64 12, lanterns := BitVec.ofNat 64 lanterns, sinkers := BitVec.ofNat 16 sinkers,
              members := ts.map (fun t => (t.1, { table := t.2.2.map entryOf })) }
          let rsv := (ds.zipIdx).find? (fun e => decide (e.1 / 2 ^ 77 % 2 ^ 51 ≠ 0))
          let odd := (ds.zipIdx).find? (fun e =>
            if memberOf lanterns sinkers e.2 then e.1 % 32 != 0 || decide (4096 < e.1 / 2 ^ 64 % 2 ^ 13) else e.1 != 0)
          let level : Prop := fld w 0 4 = 1
          let zeros : Prop := fld w 4 4 = 0 ∧ fld w 23 9 = 0 ∧ fld w 76 52 = 0 ∧ fld w 208 48 = 0 ∧ fld w 320 192 = 0
          let clean : Prop := rsv = none ∧ badEntry ts (fun _ e => entryRsv e) = none
          let members : Prop := c.st = .active ∧ lanterns ≠ 0 ∧ lanterns.testBit leader = true ∧ lamps.any bad = false
          let tables : Prop := ts.find? (fun t => !t.2.1) = none ∧
            badEntry ts (fun m e => !entryOk (decide (m < 64)) x.lanterns (entryOf e)) = none
          let room := ts.find? (fun t => decide (4096 < b.storeUsed g t.1 + t.2.2.length))
          (¬level → b.formCheck g d = .refused .levelReject 0 0) ∧
          (level → ¬zeros → b.formCheck g d = .refused .rsvNonzero 0 0) ∧
          (level → zeros → ∀ e, rsv = some e → b.formCheck g d = .refused .rsvNonzero e.2 0) ∧
          (level → zeros → rsv = none → ∀ p, badEntry ts (fun _ e => entryRsv e) = some p →
            b.formCheck g d = .refused .rsvNonzero p.1 p.2) ∧
          (level → zeros → clean → ¬members → b.formCheck g d = .refused .badMember ((lamps.find? bad).getD 0) 0) ∧
          (level → zeros → clean → members → fld w 32 16 < 32 → b.formCheck g d = .refused .badGroupDesc 0 0) ∧
          (level → zeros → clean → members → 32 ≤ fld w 32 16 → ∀ e, odd = some e →
            b.formCheck g d = .refused .badGroupDesc e.2 0) ∧
          (level → zeros → clean → members → 32 ≤ fld w 32 16 → odd = none →
            (∀ t, ts.find? (fun t => !t.2.1) = some t → b.formCheck g d = .refused .badTable t.1 0) ∧
            (ts.find? (fun t => !t.2.1) = none → ∀ p,
              badEntry ts (fun m e => !entryOk (decide (m < 64)) x.lanterns (entryOf e)) = some p →
              b.formCheck g d = .refused .badTable p.1 p.2) ∧
            (tables → ∀ t, room = some t → b.formCheck g d = .refused .noSpace t.1 0) ∧
            (tables → room = none → (∃ i ∈ x.paths, (b.link i).sbDown = true) → b.formCheck g d = .refused .pathDown 0 0) ∧
            (tables → room = none → (∀ i ∈ x.paths, (b.link i).sbDown = false) → b.formCheck g d = .ok x)))))

/-- A flash: fired when every member is lit, travelling to a member that it has not reached, launching the member's entries for its
number; the completion of an action; a stall (R152, R153, R154, R156, R158). WAITFLASH: the binding rules, the bind of an unbound group,
the return when the flash is here and the wait otherwise (R138, R151, R153). Which table entries a flash launches: entries with REL 0
never, the others at flash REL, or at each flash whose place in the cycle is REL (R157). An error of the characteristic
store stops the group (R393). Completes, with the effect that its rule gives it: WAITFLASH, FLASH_FIRE, FLASH_ARRIVAL, FLASH_ACTION_DONE, GROUP_STALL. -/
def Obligations.Flashes : Prop :=
  (∀ (s : State) (g m : Nat),
      let b := s.blk
      let x := b.group g
      (x.st ≠ .bound → (∀ held, exec (.flashFire g held) s = .next s) ∧ (∀ a, exec (.flashArrival g a) s = .next s) ∧
        exec (.groupStall g) s = .next s) ∧
      (x.st = .bound → b.groupBroken g = true → ∀ held,
        exec (.flashFire g held) s = .next (s.withBlk (b.updGroup g (fun y => { y with st := .stopped })))) ∧
      (x.st = .bound → b.groupBroken g = false → b.unlit g = ([], []) → ∀ held,
        (x.count ≠ 0xFFFFFFFF → exec (.flashFire g held) s = .next (s.withBlk (b.updGroup g (fun y =>
          { y with count := y.count + 1, fired := y.fired + 1, hold := y.hold + held }))))) ∧
      (x.st = .bound → b.groupBroken g = false → b.unlit g ≠ ([], []) →
        (∀ held, exec (.flashFire g held) s = .next s) ∧
        exec (.groupStall g) s = .next (s.withBlk (b.stallGroup g (b.stallDetail g false)))) ∧
      (x.st = .bound → m < 64 → x.lanterns.getLsbD m = true → (x.member m).seen < x.count →
        (route (lampTile x.leader) (memberTile m)).find? (fun i => (b.link i).held) = none →
        exec (.flashArrival g { member := m }) s = .next (s.withBlk (b.flashHere g m)) ∧
        exec (.flashArrival g { member := m, storeBad := true }) s = .next (s.withBlk (b.charStoreLost g m))) ∧
      ((b.charStoreLost g m).group g).st = .stopped ∧ ((b.charStoreLost g m).group g).storeBad = true ∧
      (x.st = .bound → m < 64 → x.lanterns.getLsbD m = true → (x.member m).seen < x.count →
        launchList x.cycle x.count (x.member m).table = [] →
        (route (lampTile x.leader) (memberTile m)).find? (fun i => (b.link i).held) = none →
        Completes (.flashArrival g { member := m }) s (fun t => ((t.blk.group g).member m).seen = x.count ∧
          ((t.blk.group g).member m).toLaunch = [] ∧ t.blk.mem = b.mem ∧ t.blk.hws = b.hws)) ∧
      (∀ i, (x.st = .bound ∨ x.st = .stopped) → (x.member m).toLaunch = [] → (x.member m).open_ = [i] →
        ((x.member m).entry i).action = 1 → b.xfers.find? (fun y => y.group == some (g, m, i)) = none →
        Completes (.flashActionDone g m i) s (fun t => ((t.blk.group g).member m).open_ = [] ∧ t.blk.mem = b.mem ∧
          t.blk.hws = b.hws)) ∧
      (∀ i, x.st ≠ .bound → x.st ≠ .stopped → exec (.flashActionDone g m i) s = .next s)) ∧
  (∀ (s : State) (l h : Nat) (w : W64) (b1 : Block), Fetches s.blk l h b1 w → fld w 0 8 = 0xB0 → fld w 18 46 = 0 →
      let k := hwNo l h
      let x := b1.hw k
      let g := fld w 8 4
      let y := b1.group g
      let n := (x.reg (fld w 13 5)).toNat
      ((y.st = .free ∨ y.st = .degraded ∨ y.ctx ≠ x.ctx ∨ y.lanterns.getLsbD l = false ∨ y.lanterns &&& ~~~x.mask ≠ 0) →
        exec (.waitflash l h w) s = .next (s.withBlk (b1.exc k 0x13))) ∧
      (y.st ≠ .free → y.st ≠ .degraded → y.ctx = x.ctx → y.lanterns.getLsbD l = true → y.lanterns &&& ~~~x.mask = 0 →
        (y.bound = some x.req → exec (.waitflash l h w) s = .next (s.withBlk (b1.waitFlash g l h (bit w 12) n))) ∧
        (y.bound = none → b1.liveWaiters g = [] →
          exec (.waitflash l h w) s = .next (s.withBlk ((b1.bindGroup g x.req).waitFlash g l h (bit w 12) n))) ∧
        (∀ r, y.bound = some r → r ≠ x.req → Completes (.waitflash l h w) s (fun t => (t.blk.hw k).waiting = true ∧
          (t.blk.hw k).pc = x.pc ∧ (t.blk.group g).waiters = addLast y.waiters x.req ∧ t.blk.mem = b1.mem ∧
          ∀ j, j ≠ k → t.blk.hw j = b1.hw j)) ∧
        (y.bound = some x.req → n ≤ (y.member l).seen → thas x.runs g = false →
          Completes (.waitflash l h w) s (fun t => (t.blk.hw k).pc = x.pc + 8 ∧ (t.blk.hw k).g = x.g ∧ t.blk.mem = b1.mem)) ∧
        (∀ off, y.bound = some x.req → n ≤ (y.member l).seen → tfind x.runs g = some off →
          exec (.waitflash l h w) s = .next (s.withBlk (((b1.updMember g l (fun m =>
            { m with hw := some h, declared := if bit w 12 then max m.declared n else m.declared })).updHw k (fun v =>
              { v with runs := tdel v.runs g })).goto k off))))) ∧
  (∀ (cycle n i : Nat) (t : List TableEntry), i ∈ launchList cycle n t ↔
      ∃ e, t[i]? = some e ∧ e.rel ≠ 0 ∧ (cycle = 0 → n = e.rel) ∧ (cycle ≠ 0 → (n - 1) % cycle + 1 = e.rel))

/-! ### Memory tiers -/

/-- Regions: a policy takes hold of berths that need no move at once, REGION_REMOVE gives them back to system memory, RELEASE and RELOAD
make berths VACANT, BERTH_QUERY returns the entry and the counter (R191, R193, R194, R201). The backing of a VACANT berth: the first tier
of its policy's list that has a free frame within its owner's quota; none is an event and an error (R192, R204). What becomes of a berth
that is made VACANT (R190, R194). Completes, with the effect that its rule gives it: REGION_ADD, REGION_REMOVE, RELEASE_BERTHS, RELOAD,
BERTH_QUERY. -/
def Obligations.Regions : Prop :=
  (∀ (s : State) (role : Role), Admits s.blk role .operator 0x32 →
      let b := s.blk
      (∀ base n, b.berthSpan base n = none → exec (.releaseBerths role base n) s = .next (s.withBlk (b.refuse .badRegion)) ∧
        exec (.reload role base n) s = .next (s.withBlk (b.refuse .badRegion)) ∧
        (∀ d c p, exec (.regionAdd role d base n c p) s = .next (s.withBlk (b.refuse .badRegion))) ∧
        (n = 1 → exec (.berthQuery role base) s = .next (s.withBlk (b.refuse .badRegion)))) ∧
      (∀ d base n c first i, b.berthSpan base n = some first → d < 8 → base / 2 ^ 40 = d → (b.ctx c).st = .active →
        (∀ r ∈ (b.domain d).regions, ¬ (r.base < first + n ∧ first < r.base + r.count)) →
        (List.range 1024).find? (fun j => !((b.domain d).regions.any (fun r => r.num == d * 1024 + j))) = some i →
        (∀ e ∈ b.entries first n, b.movedByCommand e.1 = false) →
        Completes (.regionAdd role d base n c 0) s (fun t =>
          (t.blk.domain d).regions = (b.domain d).regions ++ [{ num := d * 1024 + i, base := first, count := n, owner := c, policy := .auto }] ∧
          t.blk.cmds.reply = { status := .ok, command := b.cmds.count + 1, ret := d * 1024 + i } ∧ t.blk.berths = b.berths ∧
          t.blk.mem = b.mem ∧ t.blk.hws = b.hws)) ∧
      (∀ r x, (b.domain (r / 1024)).regions.find? (fun y => y.num == r) = some x →
        (b.streamUses x = true → exec (.regionRemove role r) s = .next (s.withBlk (b.refuse .busy))) ∧
        (b.streamUses x = false → (∀ e ∈ b.entries x.base x.count, b.movedByCommand e.1 = false) →
          Completes (.regionRemove role r) s (fun t => (∀ y ∈ (t.blk.domain (r / 1024)).regions, y.num ≠ r) ∧
            (∀ n, (t.blk.berth n).st = (b.berth n).st ∧ (t.blk.berth n).frame = (b.berth n).frame ∧
              (t.blk.berth n).tier = (b.berth n).tier) ∧ t.blk.cmds.reply.status = .ok ∧ t.blk.mem = b.mem ∧ t.blk.hws = b.hws))) ∧
      (∀ base n first, b.berthSpan base n = some first → (∀ e ∈ b.entries first n, b.movedByCommand e.1 = false) →
        (b.berthsBusy first n = true → exec (.releaseBerths role base n) s = .next s) ∧
        (b.berthsBusy first n = false → exec (.releaseBerths role base n) s = .next (s.withBlk
          ((((b.entries first n).foldl (fun (a : Block) (e : Nat × Berth) => a.vacate e.1) b).done 0x32000041 0).startQueued (first / 2 ^ 24))))) ∧
      (∀ base n first, b.berthSpan base n = some first → (∃ e ∈ b.entries first n, b.movedByCommand e.1 = true) →
        exec (.reload role base n) s = .next (s.withBlk (b.refuse .busy))) ∧
      (∀ base n first, b.berthSpan base n = some first → (∀ e ∈ b.entries first n, b.movedByCommand e.1 = false) →
        exec (.reload role base n) s = .next (s.withBlk ((((b.entries first n).filter (fun e => e.2.st == .failed)).foldl
          (fun (a : Block) (e : Nat × Berth) => (a.vacate e.1).unfail e.1) b).done 0x32000041 0))) ∧
      (∀ pa n, b.berthSpan pa 1 = some n → exec (.berthQuery role pa) s = .next (s.withBlk
        (b.done 0x32000041 (berthWord (b.berth n) + (b.berth n).counter * 2 ^ 32))))) ∧
  (∀ (b : Block) (n : Nat), b.cfg 0x32000043 0 ≠ 1 →
      let d := n / 2 ^ 24
      (∀ t, (b.tiersTried n).find? (fun t => b.freeFrames d t != 0 && b.ownerRoom n t) = some t → ∃ c, b.back n = .ok c ∧
        (c.berth n).st = .steady ∧ (c.berth n).tier = t ∧ (c.berth n).frame = b.pickFrame d t ∧
        (∀ m, m ≠ n → c.berth m = b.berth m) ∧ c.mem = b.mem ∧ c.lines = b.lines ∧ c.hws = b.hws ∧ c.domains = b.domains) ∧
      ((b.tiersTried n).find? (fun t => b.freeFrames d t != 0 && b.ownerRoom n t) = none →
        ∃ k, b.back n = .error (k, b.raise (unitNo 0x32 d) .tierNoFrame [d, n]) ∧ (k = 2 ∨ k = 3))) ∧
  (∀ (b : Block) (n : Nat),
      let x := b.berth n
      let d := n / 2 ^ 24
      (x.st = .vacant → b.vacate n = b) ∧
      (x.st = .steady → (b.domain d).retiring.contains (x.tier, x.frame) = false →
        ((b.vacate n).berth n).st = .vacant ∧ ((b.vacate n).berth n).counter = x.counter ∧
        (x.tier, x.frame) ∈ ((b.vacate n).domain d).zeroing ∧ (b.vacate n).mem = b.mem ∧ (b.vacate n).hws = b.hws ∧
        ∀ m, m ≠ n → (b.vacate n).berth m = b.berth m) ∧
      (x.st = .failed → x.hasFrame = true → ((b.vacate n).berth n).st = .vacant ∧ (x.tier, x.frame) ∈ ((b.vacate n).domain d).retired))

/-- Streams: STREAM_ADD registers a checked stream and waits for its window frames, STREAM_REMOVE drops it, WAITSTREAM finds it by the
physical address of its descriptor and waits for its layer, LAYER_RESIDENT brings a layer in (R197, R198, R199, R200). A berth streamed
into a window frame reads there what its bulk frame held; returned unwritten, it is back on its bulk frame and no memory has changed
(R198, R200). Completes, with the effect that its rule gives it: WAITSTREAM, STREAM_ADD, STREAM_REMOVE, LAYER_RESIDENT. -/
def Obligations.Streams : Prop :=
  (∀ (s : State) (role : Role),
      let b := s.blk
      (Admits b role .operator 0x32 →
        (∀ num, b.stream num = none → exec (.streamRemove role num) s = .next (s.withBlk (b.refuse .outOfRange))) ∧
        (∀ num t, b.stream num = some t → b.streamWaited t = true →
          exec (.streamRemove role num) s = .next (s.withBlk (b.refuse .busy))) ∧
        (∀ num t, b.stream num = some t → b.streamWaited t = false → t.resident = [] → t.frames = [] →
          (b.domain (num / 32)).waits = [] → Completes (.streamRemove role num) s (fun u => (∀ y ∈ (u.blk.domain (num / 32)).streams, y.num ≠ num) ∧
            u.blk.mem = b.mem ∧ u.blk.hws = b.hws ∧ u.blk.cmds.count = b.cmds.count + 1)) ∧
        (∀ pa, (pa % 64 ≠ 0 ∨ b.rangeOk pa 64 = false) → exec (.streamAdd role pa) s = .next (s.withBlk (b.refuse .badStreamDesc))) ∧
        (∀ pa v es i, pa % 64 = 0 → b.rangeOk pa 64 = true → b.readAt pa 64 = .ok v →
          let h : Line := BitVec.ofNat 512 v
          (fld h 0 4 ≠ 1 → exec (.streamAdd role pa) s = .next (s.withBlk (b.refuse .levelReject))) ∧
          (fld h 0 4 = 1 → streamRsv h = true → exec (.streamAdd role pa) s = .next (s.withBlk (b.refuse .rsvNonzero))) ∧
          (fld h 0 4 = 1 → streamRsv h = false → fld h 128 64 % 16 = 0 → fld h 32 16 ≠ 0 →
            b.rangeOk (fld h 128 64) (16 * fld h 32 16) = true → b.readWords 16 (fld h 128 64) (fld h 32 16) = .ok es →
            (∀ e ∈ es, e / 2 ^ 88 = 0) →
            let t0 := streamOf 0 pa h es
            let d := (t0.layers.headD (0, 0)).1 / 2 ^ 24
            (b.streamOk t0 es = false → exec (.streamAdd role pa) s = .next (s.withBlk (b.refuse .badStreamDesc))) ∧
            (b.streamOk t0 es = true →
              (∃ y ∈ t0.layers, ∃ e ∈ b.entries y.1 y.2, b.movedByCommand e.1 = true) →
              exec (.streamAdd role pa) s = .next (s.withBlk (b.refuse .busy))) ∧
            (b.streamOk t0 es = true → (∀ y ∈ t0.layers, ∀ e ∈ b.entries y.1 y.2, b.movedByCommand e.1 = false) →
              quotaRoom (b.ctx t0.ctx).qWindow (b.windowUse t0.ctx d) t0.window = true →
              (List.range 32).find? (fun j => !((b.domain d).streams.any (fun o => o.num == d * 32 + j))) = some i →
              let b1 := (b.updDomain d (fun y => { y with streams := y.streams ++ [{ t0 with num := d * 32 + i }] })).accept 0x32000041
              exec (.streamAdd role pa) s = .next (s.withBlk ((b1.addWait d { what := 1, cmd := b1.cmds.count, key := d * 32 + i }).checkWaits d)))))) ∧
      (∀ l h w b1 b2 f e v t, Fetches b l h b1 w → fld w 0 8 = 0xB1 → fld w 18 46 = 0 →
        let k := hwNo l h
        let va := ((b1.hw k).reg (fld w 8 5)).toNat
        let n := ((b1.hw k).reg (fld w 13 5)).toNat
        Reaches b1 l h 2 false [(va, 64)] b2 f →
        (((b2.domains.map (fun e : Nat × Domain => e.2.streams)).flatten.find? (fun y => y.pa == f.pa va && y.ctx == (b1.hw k).ctx)) = none →
          exec (.waitstream l h w) s = .next (s.withBlk (b2.exc k 0x14))) ∧
        (((b2.domains.map (fun e : Nat × Domain => e.2.streams)).flatten.find? (fun y => y.pa == f.pa va && y.ctx == (b1.hw k).ctx)) = some t →
          b2.ownLine l h (f.pa va) = .ok (e, v, false) → fld v 0 4 = 1 → streamRsv v = false →
          (t.exists_ n = false → exec (.waitstream l h w) s = .next (s.withBlk (e.exc k 0x14))) ∧
          (t.exists_ n = true →
            let e1 := (e.updStream t.num (fun y =>
              ({ y with marks := tput y.marks l n, markHw := tput y.markHw l h } : Stream).remark)).syncStream t.num
            ∀ y, e1.stream t.num = some y →
              (n ∈ y.failed → exec (.waitstream l h w) s = .next (s.withBlk (e1.endReq k 0x30 5))) ∧
              (n ∉ y.failed → n ∈ y.resident → exec (.waitstream l h w) s = .next (s.withBlk (e1.advance k))) ∧
              (n ∉ y.failed → n ∉ y.resident → exec (.waitstream l h w) s = .next (s.withBlk (e1.updHw k (fun z =>
                { z with waiting := true, lateKind := 1, lateDomain := t.num / 32, lateStream := t.num, lateLayer := n }))))))) ∧
      (∀ d num layer t, b.stream num = some t → num / 32 = d → t.nextLayer = some layer → b.tierOpen d 0 = true → b.domHeld d = false →
        (∀ w ∈ (b.domain d).waits, w.what ≠ 1) → (∀ n ∈ t.berths layer, (b.berth n).st ≠ .copying ∧ (b.berth n).st ≠ .failed) →
        exec (.layerResident d num layer []) s = .next (s.withBlk (((((t.berths layer).foldl (fun (a : Block) n => a.windowBerth num n) b).updStream num
          (fun y => { y with resident := y.resident ++ [layer] })).updDomain d
            (fun y => { y with streamed := y.streamed + ((t.berths layer).filter (fun n => (b.berth n).st == .steady)).length })))))) ∧
  (∀ (b : Block) (num n : Nat) (t : Stream) (f : Nat) (fs : List Nat),
      let x := b.berth n
      (b.stream num = some t → t.frames = f :: fs → x.st = .steady → x.tier = 1 →
        ((b.windowBerth num n).berth n).st = .window ∧ ((b.windowBerth num n).berth n).frame = f ∧
        ((b.windowBerth num n).berth n).own = x.frame ∧ (b.windowBerth num n).mem = (b.copyFrame (n / 2 ^ 24) 1 x.frame 0 f).mem) ∧
      (x.st = .window → x.wdirty = false → ((b.returnBerth num n).berth n).st = .steady ∧ ((b.returnBerth num n).berth n).tier = 1 ∧
        ((b.returnBerth num n).berth n).frame = x.own ∧ (b.returnBerth num n).mem = b.mem))

/-- Migration: an epoch halves every counter of its domain, a finished copy flips its berth to the destination frame and frees the old
one, a freed frame is cleared and joins the pool (R190, R195, R196). Evacuation, repair and return of a stack tier: which states each is
accepted in and where it leads (R205, R206, R207). Completes, with the effect that its rule gives it: EVACUATE, RETURN, MIGRATION_EPOCH,
BERTH_MOVE_FLIP, FRAME_ZEROED, EVACUATION_DONE, REPAIR_DONE, RETURN_DONE, EVACUATION_RETRY. -/
def Obligations.MigrationAndTiers : Prop :=
  (∀ (s : State) (d : Nat),
      let b := s.blk
      (8 ≤ d → exec (.migrationEpoch d) s = .next s) ∧
      (d < 8 → b.tierOpen d 0 = false → (b.domain d).moveQueue = [] → Completes (.migrationEpoch d) s (fun t => t.blk.mem = b.mem ∧
        (∀ n, n / 2 ^ 24 = d → (t.blk.berth n).counter = (b.berth n).counter / 2) ∧
        (∀ n, n / 2 ^ 24 ≠ d → t.blk.berth n = b.berth n))) ∧
      (∀ n bad, let x := b.berth n
        x.st = .copying → n / 2 ^ 24 = d → b.tierHeld d x.tier = false → b.tierHeld d x.destTier = false → (b.domain d).moveQueue = [] → (b.domain d).waits = [] →
        (b.domain d).tier = .normal → (b.domain d).retiring = [] →
        Completes (.berthMoveFlip d { berth := n, bad := bad }) s (fun t => (t.blk.berth n).st = .steady ∧ (t.blk.berth n).tier = x.destTier ∧
          (t.blk.berth n).frame = x.dest ∧ (x.tier, x.frame) ∈ (t.blk.domain d).zeroing ∧ t.blk.mem = b.mem ∧
          (∀ m, m ≠ n → t.blk.berth m = b.berth m) ∧
          (t.blk.domain d).promotions = (b.domain d).promotions + (if x.tier = 1 ∧ x.destTier = 0 then 1 else 0))) ∧
      (∀ n bad, ((b.berth n).st ≠ .copying ∨ n / 2 ^ 24 ≠ d ∨ b.tierHeld d (b.berth n).tier = true ∨
          b.tierHeld d (b.berth n).destTier = true) → exec (.berthMoveFlip d { berth := n, bad := bad }) s = .next s) ∧
      (∀ tier f, (tier, f) ∈ (b.domain d).zeroing → (b.domain d).moveQueue = [] → (b.domain d).waits = [] →
        Completes (.frameZeroed d tier f) s (fun t => (tier, f) ∉ (t.blk.domain d).zeroing ∧
          (∀ k, inFrame tier d f k = true → cellGet t.blk.mem k = 0) ∧
          (∀ k, inFrame tier d f k = false → cellGet t.blk.mem k = cellGet b.mem k) ∧ t.blk.berths = b.berths)) ∧
      (∀ tier f, (tier, f) ∉ (b.domain d).zeroing → exec (.frameZeroed d tier f) s = .next s)) ∧
  (∀ (s : State) (role : Role) (d : Nat),
      let b := s.blk
      let x := b.domain d
      (Admits b role .operator 0x32 →
        (8 ≤ d → exec (.evacuate role d) s = .next (s.withBlk (b.refuse .badRegion)) ∧
          exec (.tierReturn role d) s = .next (s.withBlk (b.refuse .badRegion))) ∧
        (d < 8 → x.tier ≠ .normal → x.tier ≠ .deferred → exec (.evacuate role d) s = .next (s.withBlk (b.refuse .busy))) ∧
        (d < 8 → (x.tier = .normal ∨ x.tier = .deferred) → (∀ w ∈ x.waits, w.what = 2) →
          let b1 := b.accept 0x32000041
          exec (.evacuate role d) s = .next (s.withBlk ((b1.addWait d { what := 3, cmd := b1.cmds.count, key := d }).startEvac d))) ∧
        (d < 8 → x.tier = .normal → exec (.tierReturn role d) s = .next (s.withBlk (b.done 0x32000041 0))) ∧
        (d < 8 → x.tier ≠ .normal → x.tier ≠ .evacuated → exec (.tierReturn role d) s = .next (s.withBlk (b.refuse .busy))) ∧
        (d < 8 → x.tier = .evacuated → x.moveQueue = [] →
          (∀ e ∈ b.berthsOf d, e.2.st = .steady → ∀ r, b.regionOf e.1 = some r → r.policy ≠ .stack) →
          Completes (.tierReturn role d) s (fun t => (t.blk.domain d).tier = .returning ∧ t.blk.mem = b.mem))) ∧
      (x.tier = .evacuating → b.onStack d = [] → x.waits = [] → x.repairing = none → Completes (.evacuationDone d) s (fun t =>
        (t.blk.domain d).tier = .evacuated ∧ t.blk.mem = b.mem ∧ t.blk.berths = b.berths)) ∧
      (x.tier = .evacuating → b.onStack d = [] → x.waits = [] → x.repairing ≠ none → Completes (.evacuationDone d) s (fun t =>
        (t.blk.domain d).tier = .repairing)) ∧
      ((x.tier ≠ .evacuating ∨ b.onStack d ≠ []) → exec (.evacuationDone d) s = .next s) ∧
      ((x.tier = .evacuated ∨ x.tier = .repairing) → Completes (.repairDone d false) s (fun t =>
        (t.blk.domain d).tier = .offline ∧ t.blk.alert 10 = true ∧ t.blk.mem = b.mem ∧ t.blk.berths = b.berths)) ∧
      ((x.tier = .evacuated ∨ x.tier = .repairing) → x.moveQueue = [] →
        (∀ e ∈ b.berthsOf d, e.2.st = .steady → ∀ r, b.regionOf e.1 = some r → r.policy ≠ .stack) →
        Completes (.repairDone d true) s (fun t => (t.blk.domain d).tier = .returning ∧ (t.blk.domain d).repairing = none ∧
          t.blk.mem = b.mem)) ∧
      (x.tier = .returning → x.moveQueue = [] → x.waits = [] → (∀ e ∈ b.berthsOf d, e.2.st ≠ .copying) →
        Completes (.returnDone d) s (fun t => (t.blk.domain d).tier = .normal ∧ t.blk.mem = b.mem ∧ t.blk.berths = b.berths)) ∧
      (x.tier = .deferred → exec (.evacuationRetry d) s = .next (s.withBlk (b.startEvac d))) ∧
      (x.tier ≠ .deferred → exec (.evacuationRetry d) s = .next s))

/-- Memory channels: a retrain holds the channel and ends with it UP, an unreadable one is LOST; a row is remapped to a spare, put off
while the channel is held, or retires its frames once the spares are used up (R205, R206, R208). Completes, with the effect that its rule
gives it: CHANNEL_RETRAIN, CHANNEL_RETRAIN_DONE, ROW_REMAP. -/
def Obligations.Channels : Prop :=
  ∀ (s : State) (ch : Nat), ch < 272 →
    let b := s.blk
    let x := b.channel ch
    (x.st = .up → Completes (.channelRetrain ch false false) s (fun t => (t.blk.channel ch).st = .held ∧
      (t.blk.channel ch).retrains = x.retrains + 1 ∧ t.blk.mem = b.mem ∧ t.blk.berths = b.berths ∧
      ∀ c, c ≠ ch → t.blk.channel c = b.channel c)) ∧
    (x.st = .up → 256 ≤ ch → ∀ often, Completes (.channelRetrain ch often true) s (fun t => (t.blk.channel ch).st = .lost ∧
      t.blk.alert 11 = true ∧ t.blk.events = (b.raise (unitChannel ch) .bulkOffline [ch - 256]).events ∧ t.blk.mem = b.mem)) ∧
    (x.st = .up → ch < 256 → ∀ often, exec (.channelRetrain ch often true) s = .next (s.withBlk (b.loseChannels (chanDomain ch) [ch]))) ∧
    (x.st ≠ .up → ∀ often un, exec (.channelRetrain ch often un) s = .next s) ∧
    (let b1 := (b.setChannel ch { x with st := .up, cmd := none }).resumeHeld (chanDomain ch)
     (x.st = .held → x.cmd = none → exec (.channelRetrainDone ch) s = .next (s.withBlk b1)) ∧
     (∀ c, x.st = .held → x.cmd = some c → exec (.channelRetrainDone ch) s = .next (s.withBlk (b1.finishSts c.2 c.1 .ok)))) ∧
    (x.st ≠ .held → exec (.channelRetrainDone ch) s = .next s) ∧
    (∀ bank row fs un, x.st = .held → (bank, row) ∉ x.deferredRows → exec (.rowRemap ch bank row fs un) s = .next (s.withBlk
      (b.setChannel ch { x with deferredRows := x.deferredRows ++ [(bank, row)] }))) ∧
    (∀ bank row fs, ch < 256 → x.st = .up → (b.domain (chanDomain ch)).tier ≠ .evacuating → x.svc ≠ .evacuating →
      Machine.tget 0 x.spareRows bank < 32 → Completes (.rowRemap ch bank row fs []) s (fun t =>
        Machine.tget 0 (t.blk.channel ch).spareRows bank = Machine.tget 0 x.spareRows bank + 1 ∧ t.blk.mem = b.mem ∧
        t.blk.memPoison = b.memPoison ∧ t.blk.berths = b.berths)) ∧
    (∀ bank row fs, ch < 256 → x.st = .up → (b.domain (chanDomain ch)).tier ≠ .evacuating → x.svc ≠ .evacuating →
      32 ≤ Machine.tget 0 x.spareRows bank →
      exec (.rowRemap ch bank row fs []) s = .next (s.withBlk (b.retireFrame (chanDomain ch) 0 row)))

/-! ### The coherence protocol -/

/-- A request at its home: it waits in order behind a transaction in flight, behind a held channel that it must read, or for a directory
way, and is served otherwise; watches, evictions and moves of lines, and what the scrub of a cache finds (R254, R255, R256, R258, R259,
R260, R262). What the home does with a request on a line of a backed berth whose slice and directory hold it: who is snooped, what is
sent, the state that is granted; a whole-line write reads back as written (R256, R258). Memory reads back what was written, byte by byte:
a line put into a frame is the line read from it, and every byte outside it is as before (R39, R188). Completes, with the effect that its
rule gives it: RD_S, RD_X, UPG, RD_ONCE, WR_LINE, WR_PART, HOME_ATOM, WATCH, UNWATCH, WB, EVICT_CLEAN, MOVED, CACHE_SCRUB. -/
def Obligations.HomeRequests : Prop :=
  (∀ (s : State) (a pa ln : Nat), s.blk.lineAt pa = some ln →
      let b := s.blk
      let x := b.line ln
      let Q := fun (i : Instr) (r : HomeReq) =>
        ((b.busy ln = true ∨ x.queue ≠ [] ∨ b.reqWaits ln r = true) →
          exec i s = .next (s.withBlk (b.updLine ln (fun l => { l with queue := l.queue ++ [r] })))) ∧
        (b.busy ln = false → x.queue = [] → b.reqWaits ln r = false → exec i s = .next (s.withBlk (b.serve ln r)))
      (thas x.copies a = false → Q (.rdS a pa .clean) { kind := .rdS, agent := a } ∧ Q (.rdX a pa) { kind := .rdX, agent := a }) ∧
      (∀ c, tfind x.copies a = some c → c.st = .s → Q (.upg a pa) { kind := .upg, agent := a }) ∧
      Q (.rdOnce a pa) { kind := .rdOnce, agent := a } ∧
      (∀ v, Q (.wrLine a pa v) { kind := .wrLine, agent := a, data := v }) ∧
      (∀ m v, Q (.wrPart a pa m v) { kind := .wrPart, agent := a, data := v, mask := m }) ∧
      (∀ op w64 y z, pa % (if w64 then 8 else 4) = 0 → Q (.homeAtom a pa op w64 y z)
        { kind := .atom, agent := a, off := pa % 64, op := op, w64 := w64, x := y, cmp := z }) ∧
      (a < 75 → Q (.watch a pa) { kind := .watch, agent := a }) ∧
      Q (.unwatch a pa) { kind := .unwatch, agent := a } ∧
      (∀ b1, b.watch a ln = some b1 → b.serve ln { kind := .watch, agent := a } = b1) ∧
      (b.watch a ln = none → b.serve ln { kind := .watch, agent := a } = b.watchRefused ln) ∧
      b.serve ln { kind := .unwatch, agent := a } = b.updLine ln (fun l => { l with watchers := l.watchers.filter (· != a) }) ∧
      (∀ c, tfind x.copies a = some c → c.st = .m → x.dir = .owned a → x.busy = none →
        ((b.pset (sliceKey ln)).wayOf ln).isSome = true → Completes (.wb a pa) s (fun t =>
          (t.blk.line ln).slice = some { data := c.data, dirty := true, poison := c.poison } ∧ (t.blk.line ln).dir = .untracked ∧
          thas (t.blk.line ln).copies a = false ∧ t.blk.mem = b.mem ∧ t.blk.hws = b.hws)) ∧
      (∀ c, tfind x.copies a = some c → c.st = .e → x.dir = .owned a → x.busy = none → Completes (.evictClean a pa) s (fun t =>
          (t.blk.line ln).slice = x.slice ∧ (t.blk.line ln).dir = .untracked ∧ thas (t.blk.line ln).copies a = false ∧
          t.blk.mem = b.mem ∧ t.blk.hws = b.hws)) ∧
      (64 ≤ a → a < 72 →
        (let M := fun (o n : Nat) => (b.moveCopy o n ln).updTxn ln (fun u =>
          { u with snoops := u.snoops.map (fun q => if q.1 = o then (n, q.2) else q) })
        (thas x.copies a = true → thas x.copies 72 = false → exec (.moved a 72 pa) s = .next (s.withBlk (M a 72))) ∧
        (thas x.copies 72 = true → thas x.copies a = false → exec (.moved 72 a pa) s = .next (s.withBlk (M 72 a))))) ∧
      (∀ c, exec (.cacheScrub c pa .clean) s = .next s) ∧
      (b.busy ln = false → ∀ c, c < 73 → exec (.cacheScrub c pa .dataParity) s = .next (s.withBlk (b.scrubCopy c ln))) ∧
      (b.busy ln = false → exec (.cacheScrub 73 pa .dataParity) s = .next (s.withBlk (b.scrubSlice ln))) ∧
      (b.busy ln = false → ∀ c, 75 ≤ c → c < 459 →
        exec (.cacheScrub c pa .dataParity) s = .next (s.withBlk (b.scrubCopy (64 + (c - 75) / 48) ln))) ∧
      (b.busy ln = false → ∀ c, 72 ≤ c → c < 75 → exec (.cacheScrub c pa .tagSingle) s = .next (s.withBlk
        (b.updTile (if c = 72 then 4 else tileOf (ln / 2 ^ 34)) (fun y => { y with corrections := y.corrections + 1 })))) ∧
      (b.busy ln = false → ∀ l, l < 64 → (b.lantern l).loss = .alive →
        exec (.cacheScrub l pa .tagDouble) s = .next (s.withBlk (b.loseLantern l 1))) ∧
      (b.tray.rails = true → ∀ l i, l < 64 → (b.lantern l).loss = .alive → i < 524288 →
        Completes (.cacheScrub l pa (.array (.lensLine i))) s (fun t => (t.blk.lantern l).lensPoison = sput (b.lantern l).lensPoison i ∧
          t.blk.mem = b.mem ∧ t.blk.hws = b.hws ∧ t.blk.lines = b.lines)) ∧
      (b.tray.rails = true → ∀ l code, l < 64 → exec (.cacheScrub l pa (.array (.rate code))) s = .next (s.withBlk
        ((b.record (unitNo 0x20 l) .correctedRate [code] (errRec 0 code l)).headOfWatch l))) ∧
      (b.tray.rails = true → exec (.cacheScrub 73 pa (.array .watchEntry)) s = .next (s.withBlk (b.watchLost ln)) ∧
        exec (.cacheScrub 73 pa (.array .berthEntry)) s = .next (s.withBlk (b.berthLost (ln / 1024)))) ∧
      ((b.berthLost (ln / 1024)).berth (ln / 1024)).st = .failed ∧ ((b.berthLost (ln / 1024)).berth (ln / 1024)).hasFrame = false) ∧
  (∀ (b : Block) (ln a : Nat) (sl : SliceLine), b.failed ln = false → (b.berth (ln / 1024)).st ≠ .vacant →
      (b.line ln).slice = some sl → ((b.pset (sliceKey ln)).wayOf ln).isSome = true → ((b.pset (dirKey ln)).wayOf ln).isSome = true →
      let x := b.line ln
      let t := fun (k : ReqKind) => (b.serve ln { kind := k, agent := a }).line ln
      let upg := fun l => ({ req := { kind := .upg, agent := a }, grant := true, gives := some .m, snoops := l } : Txn)
      let txn := fun (k : ReqKind) => ({ req := { kind := k, agent := a }, data := some (sl.data, sl.poison) } : Txn)
      (x.dir = .untracked →
        t .rdS = { x with dir := .owned a, busy := some { txn .rdS with gives := some .e } } ∧
        t .rdX = { x with dir := .owned a, busy := some { txn .rdX with gives := some .m } } ∧
        t .rdOnce = { x with busy := some (txn .rdOnce) }) ∧
      (∀ sh, x.dir = .shared sh →
        t .rdS = { x with dir := .shared (sput sh a), busy := some { txn .rdS with gives := some .s } } ∧
        t .rdX = { x with dir := .owned a, busy := some { txn .rdX with gives := some .m, snoops := (sh.filter (· != a)).map (fun o => (o, Snoop.inv)) } } ∧
        t .rdOnce = { x with busy := some (txn .rdOnce) } ∧
        (thas x.copies a = true → t .upg = { x with dir := .owned a, busy := some (upg ((sh.filter (· != a)).map (fun o => (o, Snoop.inv)))) })) ∧
      (∀ o, x.dir = .owned o → o ≠ a →
        t .rdS = { x with busy := some { req := { kind := .rdS, agent := a }, snoops := [(o, .fwdS)], gives := some .s } } ∧
        t .rdX = { x with dir := .owned a, busy := some { req := { kind := .rdX, agent := a }, snoops := [(o, .fwdX)], gives := some .m } } ∧
        t .rdOnce = { x with busy := some { req := { kind := .rdOnce, agent := a }, snoops := [(o, .peek)] } }) ∧
      (x.dir = .untracked → x.watchers = [] → ∀ v,
        let c := b.serve ln { kind := .wrLine, agent := a, data := v }
        (c.line ln) = { x with slice := some { data := v, dirty := true, poison := false } } ∧ c.curValue ln = (v, false) ∧
        c.mem = b.mem ∧ c.hws = b.hws)) ∧
  (∀ (b : Block) (tier d f i : Nat) (v : Line) (p : Bool), Memory.wf b.mem → i < 1024 →
      let c := b.putFrame tier d f i v p
      let k := memKey tier d f (i * 64)
      (∀ j, j < 64 → cellGet c.mem (k + j) = BitVec.ofNat 8 (v.toNat / 2 ^ (8 * j))) ∧
      (∀ a, a < k ∨ k + 64 ≤ a → cellGet c.mem a = cellGet b.mem a) ∧ Memory.wf c.mem ∧
      ((b.channel (b.chanAt tier d (i * 64))).st ≠ .lost → c.frameLine tier d f i = (v, p)) ∧
      c.lines = b.lines ∧ c.hws = b.hws ∧ c.berths = b.berths)

/-- Snoops that were sent, answered by their agents (R254, R256, R257, R258); responses and data at their receivers, the end of a
transaction and the return of a lent line (R255, R256, R261). Completes, with the effect that its rule gives it: SNP_INV, SNP_FWD_S,
SNP_FWD_X, SNP_PEEK, SNP_RECALL, GRANT, DATA, INV_ACK, DOWNGRADE_ACK, COMPLETE, RECALL_DATA. -/
def Obligations.SnoopsAndResponses : Prop :=
  ∀ (s : State) (a pa ln : Nat) (t : Txn), s.blk.lineAt pa = some ln → (s.blk.line ln).busy = some t →
    let b := s.blk
    let x := b.line ln
    let gone := fun k => t.snoops.filter (· != (a, k))
    let U := fun (f : Txn → Txn) => (s.withBlk (b.updTxn ln f))
    (t.snoops.contains (a, .inv) = true → exec (.snpInv a pa) s = .next (s.withBlk
      (((b.updTxn ln (fun u => { u with snoops := u.snoops.filter (· != (a, .inv)) })).dropCopy a ln).updTxn ln
        (fun u => { u with acks := u.acks ++ [a] })))) ∧
    (∀ c, tfind x.copies a = some c →
      (t.snoops.contains (a, .fwdS) = true → c.st = .e → Completes (.snpFwdS a pa false) s (fun u =>
        (u.blk.line ln).busy = some { t with snoops := gone .fwdS, downs := t.downs ++ [a], data := some (c.data, c.poison) } ∧
        tfind (u.blk.line ln).copies a = some { c with st := .s } ∧ (u.blk.line ln).dir = .shared (sput [a] t.req.agent) ∧
        u.blk.mem = b.mem)) ∧
      (t.snoops.contains (a, .fwdX) = true → Completes (.snpFwdX a pa false) s (fun u =>
        (u.blk.line ln).busy = some { t with snoops := gone .fwdX, acks := t.acks ++ [a], data := some (c.data, c.poison) } ∧
        tfind (u.blk.line ln).copies a = none ∧ u.blk.mem = b.mem)) ∧
      (t.snoops.contains (a, .peek) = true → Completes (.snpPeek a pa false) s (fun u =>
        (u.blk.line ln).busy = some { t with snoops := gone .peek, data := some (c.data, c.poison) } ∧
        (u.blk.line ln).copies = x.copies ∧ u.blk.mem = b.mem)) ∧
      (t.snoops.contains (a, .recall) = true → c.st = .m → ((b.pset (sliceKey ln)).wayOf ln).isSome = true →
        Completes (.snpRecall a pa false) s (fun u =>
          (u.blk.line ln).busy = some { t with snoops := gone .recall, acks := t.acks ++ [a] } ∧
          tfind (u.blk.line ln).copies a = none ∧
          (u.blk.line ln).slice = some { data := c.data, dirty := true, poison := c.poison } ∧ u.blk.mem = b.mem))) ∧
    (t.req.agent = a → t.grant = true → ∀ c, tfind x.copies a = some c → exec (.grant a pa) s = .next (s.withBlk
      ((b.install a ln { c with st := .m }).updTxn ln (fun u => { u with grant := false, got := true })))) ∧
    (t.req.agent = a → ∀ v, t.data = some v →
      (∀ st, t.gives = some st → exec (.data a pa) s = .next (s.withBlk
        ((b.install a ln { st := st, data := v.1, poison := v.2 }).updTxn ln (fun u => { u with data := none, got := true })))) ∧
      (t.gives = none → exec (.data a pa) s = .next (U (fun u => { u with data := none, got := true })))) ∧
    (t.acks.contains a = true → exec (.invAck a pa) s = .next (s.withBlk
      ((b.updTxn ln (fun u => { u with acks := u.acks.filter (· != a) })).progress ln))) ∧
    (t.downs.contains a = true → exec (.downgradeAck a pa) s = .next (s.withBlk
      ((b.updTxn ln (fun u => { u with downs := u.downs.filter (· != a) })).progress ln))) ∧
    (t.req.agent = a → t.got = true → t.lent = false → t.snoops = [] → t.acks = [] → t.downs = [] → t.data = none → t.grant = false →
      (x.watchers = [] → exec (.complete a pa) s = .next (s.withBlk (b.endTxn ln))) ∧
      (x.watchers ≠ [] → t.gives = some .m → thas x.copies a = true → exec (.complete a pa) s = .next (U (fun u => { u with lent := true })))) ∧
    (t.lent = true → t.req.agent = a → ∀ c, tfind x.copies a = some c → exec (.recallData a pa) s = .next (s.withBlk
      ((((b.putSlice ln c.data true c.poison).updLine ln (fun l =>
        { l with copies := tput l.copies a { c with st := .s }, dir := .shared [a] })).notify ln).endTxn ln)))

/-! ### Range engines -/

/-- A range operation at the slot door and the hart door runs on its whole range or waits; a command whose range breaks its rules has no
effect but its completion word; the word and what the slot tells afterwards (R263, R264, R265, R267). CLEAN of a line held M by an agent:
its data goes into the slice, the copy stays as S; INVALIDATE drops every copy and the slice line (R263). REGISTER_RING and REMOVE_RING
(R266). Completes, with the effect that its rule gives it: CLEAN, INVALIDATE, CLEAN_INVALIDATE, RANGE_COMMAND_DONE, REGISTER_RING,
REMOVE_RING. -/
def Obligations.RangeCommands : Prop :=
  (∀ (s : State) (t : Nat),
      let b := s.blk
      (∀ (i : Instr) op d slot a, (i = .clean t d ∧ op = .clean ∨ i = .invalidate t d ∧ op = .invalidate ∨
          i = .cleanInvalidate t d ∧ op = .cleanInvalidate) → (d = .hart ∧ slot = none ∨ ∃ k, d = .slot k ∧ slot = some k) →
        (b.tile t).asks.find? (fun (x : RangeAsk) => x.slot == slot) = some a → a.op = op →
        let b0 := b.updTile t (fun y => { y with asks := y.asks.erase a })
        (∀ c, b0.rangeRun t (b0.askCmd a) = some c → exec i s = .next (s.withBlk c)) ∧
        (b0.rangeRun t (b0.askCmd a) = none → exec i s = .next s)) ∧
      (∀ i, exec (.clean t (.ring i)) s = .next (s.withBlk (b.ringTake t i .clean)) ∧
        exec (.invalidate t (.ring i)) s = .next (s.withBlk (b.ringTake t i .invalidate)) ∧
        exec (.cleanInvalidate t (.ring i)) s = .next (s.withBlk (b.ringTake t i .cleanInvalidate))) ∧
      (∀ id c a b1, (b.tile t).running.find? (fun x => x.id == id) = some c → b.dom c.completion = some a → c.slot = none →
        b.write (a / 64) (byteMask (a % 64) 8) (linePut 0 (a % 64) 8 (rangeWord c)) false = .ok b1 →
        exec (.rangeCommandDone t id) s = .next (s.withBlk (b1.updTile t (fun y => { y with
          running := y.running.filter (fun z => z.id != id), done := tinc y.done c.result 1 })))) ∧
      (∀ id c, (b.tile t).running.find? (fun x => x.id == id) = some c → b.dom c.completion = none →
        Completes (.rangeCommandDone t id) s (fun u => (∀ z ∈ (u.blk.tile t).running, z.id ≠ id) ∧
          (∀ k, c.slot = some k → (Machine.tget {} (u.blk.tile t).slots k).busy = false ∧
            (Machine.tget {} (u.blk.tile t).slots k).lastResult = c.result ∧ (Machine.tget {} (u.blk.tile t).slots k).lastToken = c.token) ∧
          u.blk.events = (b.raise (unitTile t) .rangeCompletionUnreachable [c.completion]).events ∧ u.blk.mem = b.mem)) ∧
      (∀ c : RangeCmd, c.token < 2 ^ 32 → c.result < 8 → rangeWord c % 2 ^ 32 = c.token ∧ rangeWord c / 2 ^ 32 % 16 = c.result ∧
        (rangeWord c).testBit 36 = c.poisonSeen ∧ (rangeWord c).testBit 37 = c.dropped ∧ (rangeWord c).testBit 63 = true)) ∧
  (∀ (x : RangeAcc) (ln : Nat),
      let b := x.blk
      (((x.inval ln).blk.line ln).copies = [] ∧
        ((x.inval ln).blk.line ln).slice = none ∧ ((x.inval ln).blk.line ln).dir = .untracked ∧
        ((x.inval ln).blk.line ln).watchers = (b.line ln).watchers ∧ (x.inval ln).blk.mem = b.mem) ∧
      ((∀ e ∈ (b.line ln).copies, e.2.st ≠ .m) → (b.line ln).slice = none → x.clean ln = x) ∧
      (∀ sl, (∀ e ∈ (b.line ln).copies, e.2.st ≠ .m) → (b.line ln).slice = some sl → sl.dirty = true →
        (b.berth (ln / 1024)).st = .steady → ((x.clean ln).blk.line ln).slice = some { sl with dirty := false } ∧
        (x.clean ln).blk.mem = (b.putMem ln sl.data sl.poison).mem ∧ (x.clean ln).poison = (x.poison || sl.poison))) ∧
  (∀ (s : State) (role : Role) (t c header ring log2 : Nat), Admits s.blk role .operator 0x40 →
      let b := s.blk
      ((9 ≤ t ∨ 256 ≤ c) → exec (.registerRing role t c header ring log2) s = .next (s.withBlk (b.refuse .outOfRange))) ∧
      (t < 9 → c < 256 → (b.ctx c).st ≠ .active → exec (.registerRing role t c header ring log2) s = .next (s.withBlk (b.refuse .badState))) ∧
      (t < 9 → c < 256 → (b.ctx c).st = .active → (log2 < 4 ∨ 16 < log2 ∨ header % 64 ≠ 0 ∨ ring % 4096 ≠ 0) →
        exec (.registerRing role t c header ring log2) s = .next (s.withBlk (b.refuse .badQueue))) ∧
      (∀ i ln tail b1, t < 9 → c < 256 → (b.ctx c).st = .active → 4 ≤ log2 → log2 ≤ 16 → header % 64 = 0 → ring % 4096 = 0 →
        b.rangeOk header 64 = true → b.rangeOk ring (32 * 2 ^ log2) = true →
        (List.range 64).find? (fun i => !((b.tile t).rings.any (fun r => r.num == i))) = some i → b.lineAt header = some ln →
        b.readAt header 4 = .ok tail → b.watch (66 + t) ln = some b1 →
        exec (.registerRing role t c header ring log2) s = .next (s.withBlk ((b1.updTile t (fun y => { y with rings := y.rings ++
          [{ num := i, ctx := c, header := header, ring := ring, log2 := log2, pos := tail, notice := false }] })).done 0x40000041 i))) ∧
      (∀ i, (b.tile t).rings.find? (fun r => r.num == i) = none → exec (.removeRing role t i) s = .next (s.withBlk (b.refuse .outOfRange))) ∧
      (∀ i r, (b.tile t).rings.find? (fun r => r.num == i) = some r → Completes (.removeRing role t i) s (fun u =>
        (u.blk.tile t).rings = (b.tile t).rings.filter (fun y => y.num != i) ∧ u.blk.cmds.reply.status = .ok ∧ u.blk.mem = b.mem ∧
        u.blk.hws = b.hws)))

/-! ### Keeper harts -/

/-- Loads and stores of a running hart: main memory, the register regions, the posted writes of the IMSIC region and how they perform;
faults of an access that no memory or register takes; a register access that is late; x0 keeps reading zero (R238, R243, R274, R275, R276,
R402). Completes, with the effect that its rule gives it: POSTED_WRITE_PERFORM, DEVICE_TIMEOUT, KEEPER_LOAD, KEEPER_STORE,
KEEPER_FENCE. -/
def Obligations.KeeperAccesses : Prop :=
  ∀ (s : State) (h : Nat), s.blk.hartRuns h = true →
    let b := s.blk
    (∀ rd pa n (k : LoadKind), kFits rd n = true → isDevice pa = false →
      (∀ c v, b.kLoad h pa n k.nc = .ok c v → exec (.keeperLoad h rd pa n k) s = .next (s.withBlk (c.putReg h rd n v k.signed))) ∧
      (∀ c, b.kLoad h pa n k.nc = .wait c → exec (.keeperLoad h rd pa n k) s = .next (s.withBlk c)) ∧
      (b.kLoad h pa n k.nc = .fault → Completes (.keeperLoad h rd pa n k) s (fun t =>
        (t.blk.hart h).trap = some { cause := 5, tval := pa } ∧ (t.blk.hart h).res = none ∧ (t.blk.hart h).x = (b.hart h).x ∧
        t.blk.mem = b.mem ∧ t.blk.lines = b.lines ∧ ∀ j, j ≠ h → t.blk.hart j = b.hart j)) ∧
      (∀ c p, b.kLoad h pa n k.nc = .poison c p → exec (.keeperLoad h rd pa n k) s = .next (s.withBlk (c.kPoison h p)))) ∧
    (∀ rd pa n (k : LoadKind), kFits rd n = true → isDevice pa = true →
      let c := if pa < imsicEnd then b.postedAll h else b
      (∀ v, c.devLoad pa n = some v → exec (.keeperLoad h rd pa n k) s = .next (s.withBlk (c.putReg h rd n v k.signed))) ∧
      (c.devLoad pa n = none → exec (.keeperLoad h rd pa n k) s = .next (s.withBlk (c.trap h 5 pa)))) ∧
    (∀ rd pa n (k : LoadKind), kFits rd n = false → exec (.keeperLoad h rd pa n k) s = .next s) ∧
    (∀ pa n (v : StoreKind), kSize n = true → 2 ^ 52 ≤ pa → exec (.keeperStore h pa n v) s = .next (s.withBlk (b.trap h 7 pa))) ∧
    (∀ pa n (v : StoreKind), kSize n = true → pa < 2 ^ 52 →
      (isDevice pa = false →
        (∀ c, b.kStore h pa n (v.value.toNat % 2 ^ (8 * n)) v.nc = .ok c → exec (.keeperStore h pa n v) s = .next (s.withBlk c)) ∧
        (∀ c, b.kStore h pa n (v.value.toNat % 2 ^ (8 * n)) v.nc = .error c → exec (.keeperStore h pa n v) s = .next (s.withBlk c))) ∧
      (isDevice pa = true → pa < imsicEnd → n = 4 → pa % 4 = 0 → exec (.keeperStore h pa n v) s = .next (s.withBlk
        (b.updHart h (fun x => { x with posted := x.posted ++ [(pa, 4, BitVec.ofNat 64 (v.value.toNat % 2 ^ 32))] })))) ∧
      (isDevice pa = true → pa < imsicEnd → (n ≠ 4 ∨ pa % 4 ≠ 0) →
        exec (.keeperStore h pa n v) s = .next (s.withBlk (b.trap h 7 pa))) ∧
      (∀ c, isDevice pa = true → imsicEnd ≤ pa → b.devStore pa n v.value = some c →
        exec (.keeperStore h pa n v) s = .next (s.withBlk c)) ∧
      (isDevice pa = true → imsicEnd ≤ pa → b.devStore pa n v.value = none →
        exec (.keeperStore h pa n v) s = .next (s.withBlk (b.trap h 7 pa)))) ∧
    (exec (.keeperFence h false) s = .next s ∧ exec (.keeperFence h true) s = .next (s.withBlk (b.postedAll h))) ∧
    (∀ pa a n t, (b.hart h).posted = (pa, n, a) :: t →
      exec (.postedWritePerform h) s = .next (s.withBlk ((b.updHart h (fun x => { x with posted := t })).msi pa a.toNat .deviceWriteLost [pa])) ∧
      exec (.deviceTimeout (.posted h)) s = .next (s.withBlk
        ((b.updHart h (fun x => { x with posted := t })).raise unitModule .deviceTimeout [h, pa]))) ∧
    ((b.hart h).posted = [] → exec (.postedWritePerform h) s = .next s ∧ exec (.deviceTimeout (.posted h)) s = .next s) ∧
    (∀ pa, exec (.deviceTimeout (.acked h pa true)) s = .next (s.withBlk ((b.trap h 7 pa).raise unitModule .deviceTimeout [h, pa])) ∧
      exec (.deviceTimeout (.acked h pa false)) s = .next (s.withBlk ((b.trap h 5 pa).raise unitModule .deviceTimeout [h, pa]))) ∧
    (∀ c : Block, ∀ v, c.setX h 0 v = c ∧ c.kreg h 0 = 0 ∧ ∀ r, r ≠ 0 → (c.setX h r v).kreg h r = v ∧
      ∀ q, q ≠ r → (c.setX h r v).kreg h q = c.kreg h q)

/-- Far atomics and reservations of a running hart, the cache-block operations, the waits on a line and their end; a hart that does not
run does nothing (R244, R258, R272, R273, R276, R277, R287). Completes, with the effect that its rule gives it: KEEPER_AMO, LR, SC,
CBO_CLEAN, CBO_FLUSH, CBO_INVAL, CBO_ZERO, WRS_NTO, WRS_STO, WRS_TIMEOUT. -/
def Obligations.KeeperAtomics : Prop :=
  ∀ (s : State) (h pa : Nat),
    let b := s.blk
    (b.hartRuns h = false → (∀ rd n k, exec (.keeperLoad h rd pa n k) s = .next s) ∧ (∀ n v, exec (.keeperStore h pa n v) s = .next s) ∧
      (∀ rd op n x y, exec (.keeperAmo h rd pa op n x y) s = .next s) ∧ (∀ rd n, exec (.lr h rd pa n) s = .next s) ∧
      (∀ rd n v, exec (.sc h rd pa n v) s = .next s) ∧ (∀ io, exec (.keeperFence h io) s = .next s) ∧
      exec (.cboClean h pa) s = .next s ∧ exec (.cboFlush h pa) s = .next s ∧ exec (.cboZero h pa) s = .next s ∧
      (∀ w, exec (.wrsNto h w) s = .next s) ∧ exec (.wrsSto h) s = .next s) ∧
    (b.hartRuns h = true →
      (∀ rd op n x y, (n = 4 ∨ n = 8 ∨ (n = 16 ∧ op = .cas ∧ rd % 2 = 0)) →
        (b.dom pa = none → exec (.keeperAmo h rd pa op n x y) s = .next (s.withBlk (b.trap h 7 pa))) ∧
        (∀ a, b.dom pa = some a → crosses16 pa n = true → exec (.keeperAmo h rd pa op n x y) s = .next (s.withBlk (b.trap h 6 pa))) ∧
        (∀ a c old, b.dom pa = some a → crosses16 pa n = false →
          (b.atomicAt (a / 64) (a % 64) n op x.toNat y.toNat = .ok (c, old, false) →
            exec (.keeperAmo h rd pa op n x y) s = .next (s.withBlk (c.putAmo h rd n old))) ∧
          (b.atomicAt (a / 64) (a % 64) n op x.toNat y.toNat = .ok (c, old, true) →
            exec (.keeperAmo h rd pa op n x y) s = .next (s.withBlk (c.kPoison h pa))))) ∧
      (∀ rd n a, n = 4 ∨ n = 8 → b.dom pa = some a → crosses16 pa n = false →
        (∀ c v, b.kLoad h pa n = .ok c v → exec (.lr h rd pa n) s = .next (s.withBlk
          ((c.setX h rd (extend n v true)).updHart h (fun y => { y with res := some (a / 64) })))) ∧
        (∀ v, (b.hart h).res ≠ some (a / 64) → exec (.sc h rd pa n v) s = .next (s.withBlk
          ((b.setX h rd 1).updHart h (fun y => { y with res := none })))) ∧
        (∀ v c, (b.hart h).res = some (a / 64) →
          b.storeLine (64 + h / 16) (a / 64) (byteMask (a % 64) n) (linePut 0 (a % 64) n (v.toNat % 2 ^ (8 * n))) (· == h) = .ok c →
          exec (.sc h rd pa n v) s = .next (s.withBlk ((c.setX h rd 0).updHart h (fun y => { y with res := none }))))) ∧
      (∀ rd n v a, n = 4 ∨ n = 8 → b.dom pa = some a → crosses16 pa n = true →
        exec (.lr h rd pa n) s = .next (s.withBlk (b.trap h 4 pa)) ∧ exec (.sc h rd pa n v) s = .next (s.withBlk (b.trap h 6 pa))) ∧
      (∀ a, b.dom pa = some a →
        let flush := (s.withBlk ((({ blk := b } : RangeAcc).clean (a / 64)).inval (a / 64)).blk)
        (b.rangeWaits .clean (a / 64) = false →
          exec (.cboClean h pa) s = .next (s.withBlk (({ blk := b } : RangeAcc).clean (a / 64)).blk)) ∧
        (b.rangeWaits .cleanInvalidate (a / 64) = false → exec (.cboFlush h pa) s = .next flush) ∧
        (∀ p c, (p = .m ∨ c = 3) → b.rangeWaits .invalidate (a / 64) = false →
          exec (.cboInval { hart := h, priv := p, cbie := c } pa) s = .next (s.withBlk (({ blk := b } : RangeAcc).inval (a / 64)).blk)) ∧
        (∀ p, p ≠ .m → b.rangeWaits .cleanInvalidate (a / 64) = false →
          exec (.cboInval { hart := h, priv := p, cbie := 1 } pa) s = .next flush) ∧
        (∀ c, b.write (a / 64) 0xFFFFFFFFFFFFFFFF#64 0 false = .ok c → exec (.cboZero h pa) s = .next (s.withBlk c))) ∧
      (∀ c, c ≠ 1 → c ≠ 3 →
        (∀ p, (p = .hs ∨ p = .u) → exec (.cboInval { hart := h, priv := p, cbie := c } pa) s = .next (s.withBlk (b.trap h 2 0))) ∧
        (∀ p, (p = .vs ∨ p = .vu) → exec (.cboInval { hart := h, priv := p, cbie := c } pa) s = .next (s.withBlk (b.trap h 22 0)))) ∧
      (b.dom pa = none → exec (.cboClean h pa) s = .next (s.withBlk (b.trap h 7 pa)) ∧
        exec (.cboFlush h pa) s = .next (s.withBlk (b.trap h 7 pa)) ∧
        (∀ c, exec (.cboInval { hart := h, priv := .m, cbie := c } pa) s = .next (s.withBlk (b.trap h 7 pa))) ∧
        exec (.cboZero h pa) s = .next (s.withBlk (b.trap h 7 pa))) ∧
      ((b.hart h).res ≠ none → b.irqPending h = false →
        exec (.wrsNto h none) s = .next (s.withBlk (b.updHart h (fun x => { x with wrs := .nto }))) ∧
        (∀ v, exec (.wrsNto h (some v)) s = .next (s.withBlk (b.updHart h (fun x => { x with wrs := .ntoTrap v })))) ∧
        exec (.wrsSto h) s = .next (s.withBlk (b.updHart h (fun x => { x with wrs := .sto })))) ∧
      ((b.hart h).res = none → exec (.wrsNto h none) s = .next s ∧ exec (.wrsSto h) s = .next s)) ∧
    ((b.hart h).wrs = .sto → exec (.wrsTimeout h) s = .next (s.withBlk (b.updHart h (fun x => { x with wrs := .none })))) ∧
    ((b.hart h).wrs = .ntoTrap false → exec (.wrsTimeout h) s = .next (s.withBlk (b.trap h 2 0))) ∧
    ((b.hart h).wrs = .ntoTrap true → exec (.wrsTimeout h) s = .next (s.withBlk (b.trap h 22 0)))

/-- The four Xgsv instructions on a running hart: what each does on a word with its reserved fields zero, and the illegal ones (R279,
R280, R281, R282, R283); the CSR instructions on gsvrcw and gsvrtok by privilege (R282, R283; their encoding is RISC-V's, log entry 42).
Completes, with the effect that its rule gives it: GSV_FENCE, GSV_LD_AQ, GSV_SD_RL, GSV_RANGE. -/
def Obligations.KeeperExtension : Prop :=
  ∀ (s : State) (h : Nat) (p : Priv) (w : W32), s.blk.hartRuns h = true →
    let b := s.blk
    let f3 := fld w 12 3
    let csr := fld w 20 12
    (fld w 0 7 = 0x73 → (csr = 0x5C0 ∨ csr = 0x5C1) → (f3 = 1 ∨ f3 = 2 ∨ f3 = 3) →
      let x := b.kreg h (fld w 15 5)
      let old := b.gsvCsr h csr
      let new := if f3 = 1 then x else if f3 = 2 then old ||| x else old &&& ~~~x
      (p = .u → exec (.gsvRange h p w) s = .next (s.withBlk (b.trap h 2 w.toNat))) ∧
      ((p = .vs ∨ p = .vu) → exec (.gsvRange h p w) s = .next (s.withBlk (b.trap h 22 w.toNat))) ∧
      ((p = .m ∨ p = .hs) →
        ((f3 = 1 ∨ fld w 15 5 ≠ 0) → exec (.gsvRange h p w) s = .next (s.withBlk ((b.setGsvCsr h csr new).setX h (fld w 7 5) old))) ∧
        (f3 ≠ 1 → fld w 15 5 = 0 → exec (.gsvRange h p w) s = .next (s.withBlk (b.setX h (fld w 7 5) old))))) ∧
    (fld w 0 7 = 0x0B →
    (4 ≤ f3 → exec (.gsvFence h p w) s = .next (s.withBlk (b.trap h 2 w.toNat)) ∧
      exec (.gsvLdAq h p w) s = .next (s.withBlk (b.trap h 2 w.toNat)) ∧ exec (.gsvSdRl h p w) s = .next (s.withBlk (b.trap h 2 w.toNat)) ∧
      exec (.gsvRange h p w) s = .next (s.withBlk (b.trap h 2 w.toNat))) ∧
    (f3 = 0 → fld w 7 5 = 0 → fld w 15 5 = 0 → fld w 22 2 = 0 → fld w 20 2 ≠ 3 →
      let io := bit w 26 || bit w 27 || bit w 30 || bit w 31
      (io = true → fld w 20 2 ≠ 2 → exec (.gsvFence h p w) s = .next (s.withBlk (b.trap h 2 w.toNat))) ∧
      (io = false → exec (.gsvFence h p w) s = .next s) ∧
      (fld w 20 2 = 2 → bit w 30 = true → fld w 24 4 ≠ 0 → exec (.gsvFence h p w) s = .next (s.withBlk (b.postedAll h))) ∧
      (fld w 20 2 = 2 → bit w 30 = false → exec (.gsvFence h p w) s = .next s)) ∧
    (f3 = 1 → fld w 20 5 = 0 → fld w 28 4 = 0 →
      let pa := (b.kreg h (fld w 15 5)).toNat
      let n := 2 ^ fld w 25 2
      (pa % n ≠ 0 → exec (.gsvLdAq h p w) s = .next (s.withBlk (b.trap h 4 pa))) ∧
      (pa % n = 0 → exec (.gsvLdAq h p w) s = .next (s.withBlk (b.hartLoad h (fld w 7 5) pa n (!bit w 27))))) ∧
    (f3 = 2 → fld w 7 5 = 0 → fld w 27 5 = 0 →
      let pa := (b.kreg h (fld w 15 5)).toNat
      let n := 2 ^ fld w 25 2
      (pa % n ≠ 0 → exec (.gsvSdRl h p w) s = .next (s.withBlk (b.trap h 6 pa))) ∧
      (pa % n = 0 → exec (.gsvSdRl h p w) s = .next (s.withBlk (b.hartStore h pa n (b.kreg h (fld w 20 5)))))) ∧
    (f3 = 3 → fld w 27 5 = 0 → fld w 25 2 ≠ 0 →
      let base := (b.kreg h (fld w 15 5)).toNat
      let len := (b.kreg h (fld w 20 5)).toNat
      let comp := fld (b.hart h).gsvrcw 3 49 * 8
      let rd := fld w 7 5
      (p = .u → exec (.gsvRange h p w) s = .next (s.withBlk (b.trap h 2 w.toNat))) ∧
      ((p = .vs ∨ p = .vu) → exec (.gsvRange h p w) s = .next (s.withBlk (b.trap h 22 w.toNat))) ∧
      (p ≠ .u → p ≠ .vs → p ≠ .vu →
        ((b.rangeGood base len = false ∨ b.wordGood comp = false) →
          exec (.gsvRange h p w) s = .next (s.withBlk (b.setX h rd 2))) ∧
        (b.rangeGood base len = true → b.wordGood comp = true →
          let n := ((b.tile 4).asks.filter (fun a => a.slot == none)).length
          (32 ≤ n → exec (.gsvRange h p w) s = .next (s.withBlk (b.setX h rd 1))) ∧
          (∀ op, n < 32 → rangeOpOf (fld w 25 2) = some op → Completes (.gsvRange h p w) s (fun t =>
            (t.blk.tile 4).asks = (b.tile 4).asks ++ [{ slot := none, op := op, base := base, length := len, completion := comp,
                                                        token := (b.hart h).gsvrtok.toNat }] ∧
            t.blk.kreg h rd = 0 ∧ (∀ q, q ≠ rd → t.blk.kreg h q = b.kreg h q) ∧ t.blk.mem = b.mem ∧ t.blk.lines = b.lines))))))

/-- Clusters, mailboxes and interrupts: PERF clamps what it asks, a PLL relock restarts the cluster, a mailbox takes a message only while
it is free, an interrupt write delivers to a file or is lost (R273, R284, R286, R288, R363). Completes, with the effect that its rule
gives it: PERF_WRITE, PLL_RELOCK_DONE, KEEPER_CLUSTER_LOST, INTERRUPT_WRITE, MAILBOX_SEND, REPLY_DONE, EVENT_DONE. -/
def Obligations.KeeperPlatform : Prop :=
  ∀ (s : State),
    let b := s.blk
    (∀ cl v, cl < 8 → b.tray.rails = true → exec (.perfWrite cl v) s = .next (s.withBlk
      ((b.updCluster cl (fun x => { x with req := max 8 (min 34 (fld v 0 6)) })).regrant cl))) ∧
    (∀ cl v, (8 ≤ cl ∨ b.tray.rails = false) → exec (.perfWrite cl v) s = .next s) ∧
    (∀ cl, cl < 8 → (b.cluster cl).relocking = true → (b.cluster cl).st = .running →
      exec (.pllRelockDone cl) s = .next (s.withBlk (b.setCluster cl { b.cluster cl with relocking := false }))) ∧
    (∀ cl, cl < 8 → (b.cluster cl).relocking = true → (b.cluster cl).st = .reset → Completes (.pllRelockDone cl) s (fun t =>
      (t.blk.cluster cl).st = .running ∧ (t.blk.cluster cl).relocking = false ∧ t.blk.mem = b.mem ∧ t.blk.lines = b.lines)) ∧
    (∀ cl, (b.cluster cl).relocking = false → exec (.pllRelockDone cl) s = .next s) ∧
    (∀ m len h, m < 4 → b.hartRuns h = true →
      let x := b.mailbox m
      (x.busy = false → x.replyReady = false → exec (.mailboxSend m len h) s = .next (s.withBlk
        (b.setMailbox m { x with busy := true, reqLen := len % 2 ^ 16 }))) ∧
      ((x.busy = true ∨ x.replyReady = true) → exec (.mailboxSend m len h) s = .next (s.withBlk
        (b.trap h 7 (0x4000000600000 + m * 0x2000))))) ∧
    (∀ m, m < 4 → exec (.replyDone m) s = .next (s.withBlk (b.updMailbox m (fun x => { x with replyReady := false, replyLen := 0 }))) ∧
      exec (.eventDone m) s = .next (s.withBlk ((b.updMailbox m (fun x =>
        { x with eventPending := false, event := [], eventLen := 0 })).pushTo (8 + m)))) ∧
    (∀ m, 4 ≤ m → exec (.replyDone m) s = .next s ∧ exec (.eventDone m) s = .next s) ∧
    (b.tray.rails = true → ∀ pa v,
      (isFile pa = true → b.fileTakes pa = true → 1 ≤ v.toNat → v.toNat ≤ 2047 →
        (∀ fh, exec (.interruptWrite pa 4 v fh) s = .next (s.withBlk (b.pend pa v.toNat)))) ∧
      (∀ n, n ≠ 4 → exec (.interruptWrite pa n v true) s = .next s ∧
        exec (.interruptWrite pa n v false) s = .next (s.withBlk (b.raise unitModule .deviceWriteLost [pa])))) ∧
    (∀ cl, cl < 8 → b.tray.rails = true → (b.cluster cl).st = .running → Completes (.keeperClusterLost cl) s (fun t =>
      (t.blk.cluster cl).st = .reset ∧ (t.blk.cluster cl).relocking = true ∧ t.blk.alert 16 = true ∧
      (t.blk.cluster cl).heartbeatResets = (b.cluster cl).heartbeatResets + 1 ∧ ∀ h, h / 16 = cl → t.blk.hart h = {})) ∧
    (∀ cl, (b.cluster cl).st ≠ .running → exec (.keeperClusterLost cl) s = .next s)

/-! ### Ethernet ports and lamp cartridges -/

/-- A port is enabled and stopped, reset, and its tables reloaded; a port without work cannot hang (R294, R302, R303). Completes, with the
effect that its rule gives it: PORT_ENABLE, PORT_RESET, PORT_HANG, RELOAD_QP, RELOAD_CQ, RELOAD_MR, RELOAD_POST_RING, RELOAD_ETH_QUEUE,
PORT_HEARTBEAT_LOST. -/
def Obligations.PortControl : Prop :=
  ∀ (s : State) (p : Nat), p < 2 → s.blk.tray.rails = true →
    let b := s.blk
    let x := b.port p
    (∀ i : Nat, exec (.portEnable p false) s = .next (s.withBlk (b.updPort p (fun y => { y with enable := false }))) ∧
      exec (.reloadMr p i) s = .next (s.withBlk (b.updPort p (fun y => { y with mrs := tdel y.mrs i }))) ∧
      (i < 16384 → Completes (.reloadQp p i) s (fun t => ((t.blk.pq p false i).copy = none ∧
        (t.blk.pq p false i).sqProd = (b.pq p false i).sqProd ∧ ∀ j, j ≠ i → t.blk.pq p false j = b.pq p false j) ∧ t.blk.mem = b.mem)) ∧
      (i < 4096 → Completes (.reloadCq p i) s (fun t => (Machine.tget {} (t.blk.port p).cqs i).copy = none ∧ t.blk.mem = b.mem)) ∧
      (i < 256 → Completes (.reloadEthQueue p i) s (fun t => (t.blk.pq p true i).copy = none ∧
        (∀ j, j ≠ i → t.blk.pq p true j = b.pq p true j) ∧ t.blk.mem = b.mem)) ∧
      (i < 64 → exec (.reloadPostRing p i) s = .next (s.withBlk
        (let c := b.dropPost p i; if c.portOn p then c.loadPost p i else c)))) ∧
    (x.enable = true → exec (.portEnable p true) s = .next (s.withBlk (b.updPort p (fun y => { y with enable := true })))) ∧
    (x.enable = false → x.resetting = false → (∀ i, i < 64 → thas x.rings i = true) →
      Completes (.portEnable p true) s (fun t => (t.blk.port p).enable = true ∧ (t.blk.port p).qps = x.qps ∧ t.blk.mem = b.mem ∧
        t.blk.hws = b.hws)) ∧
    (x.resetting = false → x.qps = [] → x.eths = [] → Completes (.portReset { port := p, role := none }) s (fun t =>
      (t.blk.port p).mode = b.cfg (0x50000001 + p * 0x1000) 0 % 4 ∧ (t.blk.port p).linkUp = 0 ∧ (t.blk.port p).resets = x.resets + 1 ∧
      (t.blk.port p).enable = false ∧ (t.blk.port p).qpTable = 0 ∧ (t.blk.port p).qps = [] ∧ (t.blk.port p).rings = [] ∧
      t.blk.mem = b.mem ∧ t.blk.hws = b.hws)) ∧
    (∀ role, Admits b role .operator 0x50 →
      (x.resetting = false → exec (.portReset { port := p, role := some role }) s = .next (s.withBlk
        ((b.resetPort p).done (0x50000004 + p * 0x1000) 0))) ∧
      (x.resetting = true → exec (.portReset { port := p, role := some role }) s = .next (s.withBlk (b.refuse .busy)))) ∧
    (x.resetting = false → exec (.portReset { port := p, role := none }) s = .next (s.withBlk (b.resetPort p)) ∧
      exec (.portHeartbeatLost p) s = .next (s.withBlk ((b.record (unitPort p) .portHang [p] (errRec 3 0x14 p)).resetPort p))) ∧
    (x.resetting = true → exec (.portReset { port := p, role := none }) s = .next s ∧ exec (.portHeartbeatLost p) s = .next s) ∧
    (b.portOn p = true → (∃ e ∈ x.qps, e.2.busy = true) →
      exec (.portHang p) s = .next (s.withBlk ((b.record (unitPort p) .portHang [p] (errRec 3 0x14 p)).resetPort p))) ∧
    ((∀ e ∈ x.qps, e.2.busy = false) → (∀ e ∈ x.eths, e.2.busy = false) → (∀ e ∈ x.rings, b.ringBusy e.2 = false) → exec (.portHang p) s = .next s)

/-- Posting: the entry of a ring that is due, if its KIND is the row's, moves the count of its queue on and the ring past it; an entry
that names no queue is passed over (R296). Sending: a frame is read, segmented, tagged and put on the wire; a RoCE request takes its
packet numbers and is kept until it is acknowledged; a descriptor with a fault completes with its status (R292, R297, R299, R303).
Completes, with the effect that its rule gives it: ROCE_SEND, SEND_IMM, ROCE_WRITE, WRITE_IMM, ROCE_READ, FETCH_ADD, CMP_SWAP,
POST_QP_SEND, POST_QP_RECEIVE, POST_ETH_SEND, POST_ETH_RECEIVE, CQ_ARM, ETH_SEND. -/
def Obligations.PortRequests : Prop :=
  (∀ (s : State) (p i tail v : Nat) (e : Line) (b1 : Block),
      let b := s.blk
      let x := Machine.tget {} (b.port p).rings i
      let w : W64 := BitVec.ofNat 64 v
      let q := fld w 0 16
      let n := fld w 32 32
      let c := b1.updPort p (fun y => { y with rings := tput y.rings i { x with pos := (x.pos + 1) % 2 ^ 32, notice := false } })
      x.copy = some e → b.portOn p = true → bit e 127 = true → b.peek (fld e 0 52) 4 = some tail → ahead32 tail x.pos ≠ 0 →
      b.dmaWaits false (fld e 64 52 + 8 * (x.pos % 2 ^ fld e 120 4)) 8 = false →
      b.dmaWord p (fld e 64 52 + 8 * (x.pos % 2 ^ fld e 120 4)) 8 = (b1, some v) →
      (fld w 19 13 = 0 → (q < 16384 →
        (fld w 16 3 = 0 → exec (.postQpSend p i) s = .next (s.withBlk (c.post p false false q n))) ∧
        (fld w 16 3 = 1 → exec (.postQpReceive p i) s = .next (s.withBlk (c.post p false true q n)))) ∧
        (q < 256 → (fld w 16 3 = 2 → exec (.postEthSend p i) s = .next (s.withBlk (c.post p true false q n))) ∧
          (fld w 16 3 = 3 → exec (.postEthReceive p i) s = .next (s.withBlk (c.post p true true q n)))) ∧
        (q < 4096 → fld w 16 3 = 4 → exec (.cqArm p i) s = .next (s.withBlk ((c.loadCq p q).updCq p q (fun y =>
          { y with cons := if ahead32 n y.cons = 0 then y.cons else n, armed := true })))) ∧
        (fld w 16 3 = 1 → q < 16384 → exec (.postQpSend p i) s = .next s)) ∧
      ((5 ≤ fld w 16 3 ∨ fld w 19 13 ≠ 0) → exec (.postQpSend p i) s = .next (s.withBlk c) ∧
        exec (.postQpReceive p i) s = .next (s.withBlk c) ∧ exec (.postEthSend p i) s = .next (s.withBlk c) ∧
        exec (.postEthReceive p i) s = .next (s.withBlk c) ∧ exec (.cqArm p i) s = .next (s.withBlk c))) ∧
  (∀ (s : State) (p i : Nat) (b1 : Block) (h : Head),
      let b := s.blk
      let d := h.d
      (i < 256 → (∀ go, b.headDo p true i 1 [1] true go = go b1 h) →
        (∀ st, (ethErr (b1.port p).macs h.r).or (ethDescErr d) = some st →
          exec (.ethSend p i) s = .next (s.withBlk (b1.headEnd p true i h st 0))) ∧
        ((ethErr (b1.port p).macs h.r).or (ethDescErr d) = none →
          ((b1.port p).up (fld h.r 657 3) = false → exec (.ethSend p i) s = .next (s.withBlk (b1.headEnd p true i h .linkDown 0))) ∧
          ((b1.port p).up (fld h.r 657 3) = true → (b1.port p).pausedAt (fld h.r 657 3) (fld h.r 19 3) = true →
            exec (.ethSend p i) s = .next (s.withBlk b1)) ∧
          (∀ b2 bs, (b1.port p).up (fld h.r 657 3) = true → (b1.port p).pausedAt (fld h.r 657 3) (fld h.r 19 3) = false → bit d 11 = false →
            b1.bufRead p (fld d 128 32) (fld h.r 288 16) (fld d 64 64) (fld d 160 32) 0 = (b2, .ok bs) →
            exec (.ethSend p i) s = .next (s.withBlk ((b2.wireOut p
              { mac := fld h.r 657 3, kind := 0, queue := i, op := 1, psn := 0, bytes := if bit d 10 then putSums bs else bs,
                vlan := if bit d 12 then some (fld d 32 16) else if bit h.r 656 then some (fld h.r 640 16) else none,
                hdr := { prio := fld h.r 19 3 } }).headEnd
                p true i h .ok bs.length))))) ∧
      (∀ (c : Instr) (op : Nat) (any : Bool),
        (c = .roceSend p i ∧ op = 2 ∧ any = true ∨ c = .sendImm p i ∧ op = 3 ∧ any = false ∨ c = .roceWrite p i ∧ op = 4 ∧ any = false ∨
          c = .writeImm p i ∧ op = 5 ∧ any = false ∨ c = .roceRead p i ∧ op = 6 ∧ any = false ∨ c = .fetchAdd p i ∧ op = 7 ∧ any = false ∨
          c = .cmpSwap p i ∧ op = 8 ∧ any = false) →
        i < 16384 → (∀ go, b.headDo p false i op [2, 3, 4, 5, 6, 7, 8] any go = go b1 h) →
        (∀ st, (qpErr (b1.port p).macs h.r).or (roceDescErr d) = some st → exec c s = .next (s.withBlk (b1.headEnd p false i h st 0))) ∧
        ((qpErr (b1.port p).macs h.r).or (roceDescErr d) = none → (b1.port p).pausedAt (fld h.r 657 3) (fld h.r 19 3) = true →
          exec c s = .next (s.withBlk b1)) ∧
        ((qpErr (b1.port p).macs h.r).or (roceDescErr d) = none → (b1.port p).pausedAt (fld h.r 657 3) (fld h.r 19 3) = false → bit d 9 = false →
          (∀ b2 bs, b1.sendReq p i h.r d h.q.psn = (b2, .ok bs) →
            let n := psnsOf h.r (if 7 ≤ fld d 0 8 then 0 else fld d 160 32)
            exec c s = .next (s.withBlk (b2.updPq p false i (fun y => { y with
              sqCons := (y.sqCons + 1) % 2 ^ 32, psn := (y.psn + n) % 2 ^ 24,
              sent := y.sent ++ [{ psn := y.psn, psns := n, desc := d }] })))) ∧
          (∀ b2 st, b1.sendReq p i h.r d h.q.psn = (b2, .err st) →
            exec c s = .next (s.withBlk ((b2.poisonEv p (fld d 64 64) st).headEnd p false i h st 0))))))

/-- Receiving: a priority flow control frame pauses what it names; any other goes to the queue of its hash and into the next buffer, or is
dropped and counted; the responder of a queue pair serves the request it expects and answers a duplicate again (R292, R297, R298, R299).
The requester: an ACK completes what it covers, a NAK ends or repeats the oldest request, a time-out repeats it up to its limit;
congestion control cuts the rate at a CNP and recovers at its timer and its byte counter (R299, R301). The bits of a completion entry
(R300), and one that finds its queue full is an overrun (R299, R300). Completes, with the effect that its rule gives it: ETH_FRAME_RX,
ROCE_REQUEST_RX, ROCE_RESPONSE_RX, ACK_TIMEOUT, CNP_RX, CC_TIMER. -/
def Obligations.PortReceiving : Prop :=
  (∀ (s : State) (p : Nat),
      let b := s.blk
      (∀ mac g, (b.portOn p = false ∨ (b.port p).up mac = false) → exec (.ethFrameRx p mac g) s = .next s) ∧
      (∀ mac g, b.portOn p = true → (b.port p).up mac = true → g.fecBad = true →
        exec (.ethFrameRx p mac g) s = .next (s.withBlk (b.updPort p (fun x => { x with fecBad := x.fecBad + 1 })))) ∧
      (∀ mac g, b.portOn p = true → (b.port p).up mac = true → g.fecBad = false →
        let f := (stripTag g.bytes).2
        (∀ named held, pfcOf f = some (named, held) → exec (.ethFrameRx p mac g) s = .next (s.withBlk (b.updPort p (fun x => { x with
          paused := tput x.paused mac ((Machine.tget 0 x.paused mac &&& ~~~named) |||
            (held &&& BitVec.ofNat 8 (b.cfg (0x50000005 + p * 0x1000) 0))) })))) ∧
        (pfcOf f = none →
          let hash := toeplitz (b.cfgBytes (0x50000020 + p * 0x1000)) (rssTuple f)
          let q := if toQp1 f then 0 else ((b.cfgBytes (0x50000021 + p * 0x1000)).getD (hash % 128) 0).toNat
          let b1 := b.loadPq p true q
          ∀ r, (b1.pq p true q).copy = some r → ethErr (b1.port p).macs r = none → f.length ≤ 9216 →
            (b1.recvHead (b1.pq p true q) r = .none → exec (.ethFrameRx p mac g) s = .next (s.withBlk (b1.dropFrame p))) ∧
            (∀ d, b1.recvHead (b1.pq p true q) r = .ok d →
              (fld d 96 32 < f.length → exec (.ethFrameRx p mac g) s = .next (s.withBlk (b1.dropFrame p))) ∧
              (∀ c, f.length ≤ fld d 96 32 → b1.bufWrite p (fld d 64 32) (fld r 288 16) (fld d 0 64) f 1 = (c, .ok []) →
                exec (.ethFrameRx p mac g) s = .next (s.withBlk ((c.recvTake p true q).complete p (fld r 272 12)
                  { wrId := fld d 128 64, op := 0x83, st := .ok, queue := q, eth := true, bytes := f.length, csumOk := sumsOk f,
                    ce := ceMarked f, hash := if toQp1 f then 0 else hash, vlan := (stripTag g.bytes).1.getD 0 })))))) ∧
      (∀ (q : RoceReq) r, b.portOn p = true → q.qpn < 16384 →
        let i := q.qpn
        let b1 := b.loadPq p false i
        let x := b1.pq p false i
        x.copy = some r → (x.st = 2 ∨ x.st = 3) → qpErr (b1.port p).macs r = none → (b1.port p).up (fld r 657 3) = true →
        let c := b1.owesCnp p i r q.ce
        (q.psn % 2 ^ 24 = x.epsn →
          ((q.op = 2 ∨ q.op = 3) → exec (.roceRequestRx p q) s = .next (s.withBlk (c.rxSend p i r q))) ∧
          ((q.op = 4 ∨ q.op = 5) → exec (.roceRequestRx p q) s = .next (s.withBlk (c.rxWrite p i r q))) ∧
          (q.op = 6 → exec (.roceRequestRx p q) s = .next (s.withBlk (c.rxRead p i r q true))) ∧
          ((q.op = 7 ∨ q.op = 8) → exec (.roceRequestRx p q) s = .next (s.withBlk (c.rxAtomic p i r q)))) ∧
        (q.psn % 2 ^ 24 ≠ x.epsn → psnDiff x.epsn q.psn < 2 ^ 23 →
          ((q.op = 2 ∨ q.op = 3 ∨ q.op = 4 ∨ q.op = 5) → exec (.roceRequestRx p q) s = .next (s.withBlk (c.respond p i r 0 q.psn []))) ∧
          (q.op = 6 → exec (.roceRequestRx p q) s = .next (s.withBlk (c.rxRead p i r q false)))) ∧
        (q.psn % 2 ^ 24 ≠ x.epsn → 2 ^ 23 ≤ psnDiff x.epsn q.psn → exec (.roceRequestRx p q) s = .next (s.withBlk c)))) ∧
  (∀ (s : State) (p i : Nat) (r : BitVec 1024), i < 16384 → s.blk.portOn p = true →
      let b := s.blk
      (∀ (q : RoceResp), q.qpn = i →
        let b1 := b.loadPq p false i
        let x := b1.pq p false i
        x.copy = some r → x.st = 3 → (b1.port p).up (fld r 657 3) = true →
        let n := x.sent.length
        let before := (q.psn + 2 ^ 24 - 1) % 2 ^ 24
        (q.kind = 0 → exec (.roceResponseRx p q) s = .next (s.withBlk (Block.ackTo p i r q.psn n b1))) ∧
        (q.kind = 1 → exec (.roceResponseRx p q) s = .next (s.withBlk ((Block.ackTo p i r before n b1).gotData p i r q.psn q.data false))) ∧
        (q.kind = 2 → exec (.roceResponseRx p q) s = .next (s.withBlk ((Block.ackTo p i r before n b1).gotData p i r q.psn q.data true))) ∧
        (∀ z rest, x.sent = z :: rest → z.psn = q.psn → Block.ackTo p i r before n b1 = b1 →
          (q.kind = 4 → exec (.roceResponseRx p q) s = .next (s.withBlk (b1.sentEnd p i r .remoteAccess))) ∧
          (q.kind = 5 → exec (.roceResponseRx p q) s = .next (s.withBlk (b1.sentEnd p i r .remoteOperation))) ∧
          (q.kind = 3 → fld r 11 3 ≠ 7 → fld r 11 3 ≤ x.rnrRetries →
            exec (.roceResponseRx p q) s = .next (s.withBlk (b1.sentEnd p i r .rnrRetryExceeded))) ∧
          (q.kind = 3 → fld r 11 3 = 7 → exec (.roceResponseRx p q) s = .next (s.withBlk (b1.goBack p i r))))) ∧
      ((b.pq p false i).copy = some r → (b.pq p false i).st = 3 → (b.pq p false i).sent ≠ [] →
        ((b.pq p false i).retries < fld r 8 3 → exec (.ackTimeout p i) s = .next (s.withBlk
          ((b.updPq p false i (fun y => { y with retries := y.retries + 1 })).goBack p i r))) ∧
        (fld r 8 3 ≤ (b.pq p false i).retries → exec (.ackTimeout p i) s = .next (s.withBlk (b.sentEnd p i r .retryExceeded)))) ∧
      ((b.pq p false i).sent = [] → exec (.ackTimeout p i) s = .next s) ∧
      Completes (.cnpRx p i) s (fun t =>
        let g := b.ccGain p
        let y := b.pq p false i
        let rc := y.rc.getD (((b.port p).lineRate : Nat) : Rat)
        (t.blk.pq p false i).rt = some rc ∧ (t.blk.pq p false i).alpha = (1 - g) * y.alpha + g ∧
        (t.blk.pq p false i).rc = some (max (rc * (1 - y.alpha / 2)) ((b.cfg (0x50000035 + p * 0x1000) 100 : Nat) : Rat)) ∧
        (t.blk.pq p false i).stage = 0 ∧ t.blk.mem = b.mem ∧ ∀ j, j ≠ i → t.blk.pq p false j = b.pq p false j) ∧
      (let line : Rat := ((b.port p).lineRate : Nat)
       let y := b.pq p false i
       let rt := if 5 < y.stage + 1 then min (y.rt.getD line + ((b.cfg (0x50000034 + p * 0x1000) 5000 : Nat) : Rat)) line else y.rt.getD line
       (∀ since, Completes (.ccTimer p i (.timer since)) s (fun t =>
         (t.blk.pq p false i).stage = y.stage + 1 ∧ (t.blk.pq p false i).rt = some rt ∧
         (t.blk.pq p false i).rc = some ((rt + y.rc.getD line) / 2) ∧ (t.blk.pq p false i).cnpDue = y.cnpDue ∧
         (since = true → (t.blk.pq p false i).alpha = y.alpha) ∧
         (since = false → (t.blk.pq p false i).alpha = (1 - b.ccGain p) * y.alpha) ∧ t.blk.mem = b.mem)) ∧
       Completes (.ccTimer p i .bytes) s (fun t =>
         (t.blk.pq p false i).stage = y.stage + 1 ∧ (t.blk.pq p false i).rt = some rt ∧
         (t.blk.pq p false i).rc = some ((rt + y.rc.getD line) / 2) ∧ (t.blk.pq p false i).alpha = y.alpha ∧ t.blk.mem = b.mem) ∧
       Completes (.ccTimer p i .cnpInterval) s (fun t =>
         (t.blk.pq p false i).cnpDue = false ∧ (t.blk.pq p false i).rc = y.rc ∧ (t.blk.pq p false i).stage = y.stage ∧
         t.blk.mem = b.mem))) ∧
  ((∀ (w : Wc) (ph : Bool), w.wrId < 2 ^ 64 → w.op < 2 ^ 8 → w.queue < 2 ^ 16 → w.imm < 2 ^ 32 → w.hash < 2 ^ 32 → w.vlan < 2 ^ 16 →
      let v := w.word ph
      fld v 0 64 = w.wrId ∧ fld v 64 8 = w.op ∧ fld v 72 8 = wcCode w.st ∧ fld v 80 16 = w.queue ∧ bit v 96 = w.eth ∧ bit v 97 = ph ∧
      bit v 98 = w.csumOk ∧ bit v 99 = w.ce ∧ fld v 128 32 = w.bytes % 2 ^ 32 ∧ fld v 160 32 = w.imm ∧ fld v 192 32 = w.hash ∧
      fld v 224 16 = w.vlan) ∧
    (∀ (b : Block) (p i : Nat) (w : Wc) (e : Line),
      let c := b.loadCq p i
      let q := Machine.tget {} (c.port p).cqs i
      q.copy = some e → cqValid e = true →
      (2 ^ fld e 56 4 ≤ ahead32 q.prod q.cons → b.pushWc p i w = (c, true)) ∧
      (ahead32 q.prod q.cons < 2 ^ fld e 56 4 → (b.pushWc p i w).2 = false ∧
        (Machine.tget {} ((b.pushWc p i w).1.port p).cqs i).prod = (q.prod + 1) % 2 ^ 32 ∧
        (Machine.tget {} ((b.pushWc p i w).1.port p).cqs i).armed = false)))

/-- Lamp cartridges: insertion and its check, the swap that is prepared, the latch, faults, telemetry and silence; links of the MACs come
up only with light on every lane (R303, R304, R305, R306, R307, R308). Completes, with the effect that its rule gives it: MAC_LINK_LOSS,
CARTRIDGE_INSERT, CARTRIDGE_CHECK_DONE, PREPARE_SWAP, LATCH_OPEN, CARTRIDGE_FAULT, CARTRIDGE_POLL, CARTRIDGE_SILENT, MAC_LINK_UP. -/
def Obligations.Cartridges : Prop :=
  ∀ (s : State) (c : Nat), c < 4 →
    let b := s.blk
    let x := b.cart c
    let y := b.cart (mate c)
    (x.st = .empty → exec (.cartridgeInsert c) s = .next (s.withBlk (((b.setCart c { st := .checking }).settleCart c).wire 8))) ∧
    (x.st ≠ .empty → exec (.cartridgeInsert c) s = .next s) ∧
    (x.st = .checking → b.start.level ≠ .dark → y.st = .empty → Completes (.cartridgeCheckDone c true) s (fun t =>
      (t.blk.cart c).verified = true ∧ (t.blk.cart c).st = .sole ∧ t.blk.mem = b.mem ∧ t.blk.hws = b.hws)) ∧
    (x.st = .checking → b.start.level ≠ .dark → b.cfg (0x51000040 + c * 0x1000) 0 = 1 → Completes (.cartridgeCheckDone c false) s (fun t =>
      (t.blk.cart c).verified = false ∧ (t.blk.cart c).st = .standby)) ∧
    (∀ role, Admits b role .operator 0x51 → (y.st ≠ .shared ∨ y.outFaults ≠ []) →
      exec (.prepareSwap role c) s = .next (s.withBlk (b.refuse .busy))) ∧
    (∀ role, Admits b role .operator 0x51 → y.st = .shared → y.outFaults = [] → Completes (.prepareSwap role c) s (fun t =>
      (t.blk.cart c).st = .standby ∧ (t.blk.cart (mate c)).st = .sole ∧ t.blk.bayIndicator c = .blue ∧ t.blk.cmds.reply.status = .ok)) ∧
    (x.st ≠ .empty → Completes (.latchOpen c) s (fun t => (t.blk.cart c) = {} ∧ t.blk.mem = b.mem ∧ t.blk.hws = b.hws)) ∧
    (x.st ≠ .empty → x.st ≠ .fault → exec (.cartridgeFault c) s = .next (s.withBlk
      ((b.updCart c (fun z => { z with st := .fault })).settleCart c))) ∧
    (x.st = .empty → (∀ r, exec (.cartridgePoll c r) s = .next s) ∧ exec (.cartridgeSilent c) s = .next s ∧
      exec (.latchOpen c) s = .next s ∧ exec (.cartridgeFault c) s = .next s) ∧
    (∀ r : CartRead, x.st ≠ .empty → Completes (.cartridgePoll c r) s (fun t =>
      (t.blk.cart c).hours = r.hours ∧ (t.blk.cart c).caseMilliC = r.caseMilliC ∧ (t.blk.cart c).stale = false ∧
      ((t.blk.cart c).replace = true ↔ (∃ d ∈ r.drift, 300 ≤ d) ∨ 50000 ≤ r.hours) ∧
      (70000 < r.caseMilliC → (t.blk.cart c).st = .fault) ∧ t.blk.mem = b.mem)) ∧
    (x.st ≠ .empty → x.stale = false → exec (.cartridgeSilent c) s = .next (s.withBlk
      ((b.updCart c (fun z => { z with stale := true })).raise (unitCart c) .cartridgeSilent [c]))) ∧
    (∀ p m, p < 2 → m < 8 → (b.port p).up m = true → exec (.macLinkLoss p m) s = .next (s.withBlk
      ((b.updPort p (fun z => { z with linkUp := z.linkUp &&& ~~~(BitVec.ofNat 8 (2 ^ m)) })).wire (6 + p)))) ∧
    (∀ p m, (b.port p).up m = false → exec (.macLinkLoss p m) s = .next s) ∧
    (∀ p m, p < 2 → b.tray.rails = true → (b.port p).resetting = false → m < (b.port p).macs → (b.port p).up m = false →
      (b.macLit p m = true → exec (.macLinkUp p m) s = .next (s.withBlk
        ((b.updPort p (fun z => { z with linkUp := z.linkUp ||| BitVec.ofNat 8 (2 ^ m) })).wire (6 + p)))) ∧
      (b.macLit p m = false → exec (.macLinkUp p m) s = .next s))

/-! ### Tray, power and temperatures -/

/-- When each warning of the supply and of the coolant is raised and cleared, what a dark stop and the disconnect leave, the glitch and
loss of the flow signal, the power warning and the widths of the reset line (R313, R315, R317, R319). The agreed slot identity, what a
valid and an invalid reading of a sensor leave, that a substitute comes into use, and the beacon of the service bus (R317, R318, R320,
R321). Completes, with the effect that its rule gives it: SUPPLY_HIGH, SUPPLY_HIGH_CLEAR, SUPPLY_OVERVOLTAGE, COOLANT_WARM,
COOLANT_DERATE_CLEAR, COOLANT_HOT, COOLANT_LEAK, FLOW_LOST, TRAY_POWER_WARN, TRAY_RESET, SLOT_ID_SAMPLE, SENSOR_SAMPLE, SENSOR_INVALID,
SERVICE_BUS_NO_BEACON, SERVICE_BUS_BEACON. -/
def Obligations.Tray : Prop :=
  (∀ (s : State),
      let b := s.blk
      (58000 < b.vHigh → b.alert 1 = false → b.start.overvoltage = false → exec .supplyHigh s = .next (s.withBlk ((b.raise unitModule .supplyHigh []).setAlert 1))) ∧
      ((b.vHigh ≤ 58000 ∨ b.alert 1 = true ∨ b.start.overvoltage = true) → exec .supplyHigh s = .next s) ∧
      (b.vLow < 57500 → exec .supplyHighClear s = .next (s.withBlk (b.clearAlert 1))) ∧
      (57500 ≤ b.vLow → exec .supplyHighClear s = .next s) ∧
      (b.tray.latched = false → Completes .supplyOvervoltage s (fun t => t.blk.tray.latched = true ∧ t.blk.tray.rails = false ∧
        t.blk.start.level = .dark ∧ t.blk.start.overvoltage = true ∧ t.blk.mem = [] ∧ t.blk.hws = [] ∧ t.blk.events.pend = [])) ∧
      (40000 < b.inlet → b.alert 2 = false → exec .coolantWarm s = .next (s.withBlk ((((b.raise unitModule .coolantWarm []).setAlert 2).updPower
        (fun x => { x with coolant := coolantLimit b.inlet })).updLimit))) ∧
      ((b.inlet ≤ 40000 ∨ b.alert 2 = true) → exec .coolantWarm s = .next s) ∧
      (39000 ≤ b.inlet → exec .coolantDerateClear s = .next s) ∧
      (b.inlet < 39000 → exec .coolantDerateClear s = .next (s.withBlk
        (((b.clearAlert 2).updPower (fun x => { x with coolant := none })).updLimit))) ∧
      (50000 < b.inlet → b.start.level ≠ .dark → Completes .coolantHot s (fun t => t.blk.start.level = .dark ∧ t.blk.tray.rails = false ∧
        t.blk.alert 18 = true ∧ t.blk.mem = [])) ∧
      (b.inlet ≤ 50000 → exec .coolantHot s = .next s) ∧
      (∀ i, i < 2 → (b.sensor (5 + i)).valid = true → 100 ≤ (b.sensor (5 + i)).value → (b.sensor (5 + i)).value < 100000 →
        b.start.level ≠ .dark → Completes (.coolantLeak i) s (fun t => t.blk.start.level = .dark ∧ t.blk.tray.rails = false ∧
          t.blk.alert 18 = true)) ∧
      (∀ i, (b.sensor (5 + i)).valid = false → exec (.coolantLeak i) s = .next s) ∧
      (b.tray.flowOk = true → b.start.level ≠ .dark → exec (.flowLost true) s = .next (s.withBlk (b.raise unitModule .flowGlitch []))) ∧
      ((b.tray.flowOk = false ∨ b.start.level = .dark) → exec (.flowLost true) s = .next s) ∧
      (b.tray.rails = false → exec (.flowLost false) s = .next (s.withBlk { b with tray := { b.tray with flowOk := false } })) ∧
      (b.tray.rails = true → Completes (.flowLost false) s (fun t => t.blk.tray.flowOk = false ∧ t.blk.tray.rails = false ∧
        t.blk.start.level = .dark ∧ t.blk.alert 18 = true)) ∧
      (b.tray.rails = true → Completes .trayPowerWarn s (fun t => t.blk.tray.pwrOk = false ∧ t.blk.tray.rails = false ∧
        t.blk.start.level = .dark)) ∧
      (b.tray.rails = false → exec .trayPowerWarn s = .next (s.withBlk { b with tray := { b.tray with pwrOk := false } })) ∧
      (∀ n, n < 1000 → exec (.trayReset n) s = .next s) ∧
      (∀ n, 1000 ≤ n → n < 10000 → exec (.trayReset n) s = .next (s.withBlk { b with tray := { b.tray with runts := b.tray.runts + 1 } })) ∧
      (∀ n, 10000 ≤ n → Completes (.trayReset n) s (fun t => t.blk.start.level = .dark ∧ t.blk.tray.rails = false ∧
        t.blk.start.woken = true ∧ t.blk.mem = [] ∧ t.blk.contexts = [] ∧ (b.tray.latched = true → 1000 ≤ b.tray.below58 → t.blk.tray.latched = false) ∧
        ((b.tray.latched = false ∨ b.tray.below58 < 1000) → t.blk.tray.latched = b.tray.latched)))) ∧
  (∀ (s : State),
      let b := s.blk
      (∀ xs, b.start.level ≠ .dark → b.tray.slotTaken = false → ∀ v, agreed 4 xs = some v → Completes (.slotIdSample xs true) s (fun t =>
        t.blk.tray.slotId = some v ∧ t.blk.tray.slotNow = some v ∧ t.blk.tray.slotTaken = true ∧ t.blk.tray.busTx = true ∧
        t.blk.alert 0 = false ∧ t.blk.mem = b.mem ∧ t.blk.hws = b.hws)) ∧
      (∀ xs, b.start.level ≠ .dark → b.tray.slotTaken = false → agreed 4 xs = none → Completes (.slotIdSample xs true) s (fun t =>
        t.blk.tray.slotId = none ∧ t.blk.tray.busTx = false ∧ t.blk.alert 0 = true)) ∧
      (∀ xs, b.start.level ≠ .dark → b.tray.slotTaken = true → Completes (.slotIdSample xs false) s (fun t =>
        t.blk.tray.slotId = b.tray.slotId ∧ t.blk.tray.slotNow = agreed 4 xs ∧ t.blk.tray.busTx = b.tray.busTx)) ∧
      (∀ n lo hi (r : Int), sensorRange n = some (lo, hi) → lo ≤ r → r ≤ hi →
        ((b.sensor n).substituted = false → Completes (.sensorSample n r) s (fun t => (t.blk.sensor n).value = r ∧
          (t.blk.sensor n).valid = true ∧ t.blk.mem = b.mem ∧ t.blk.hws = b.hws ∧ ∀ j, j ≠ n → t.blk.sensor j = b.sensor j)) ∧
        ((b.sensor n).substituted = true → (b.sensor n).good + 1 < 1000 → Completes (.sensorSample n r) s (fun t =>
          (t.blk.sensor n).substituted = true ∧ (t.blk.sensor n).good = (b.sensor n).good + 1))) ∧
      (∀ n lo hi (r : Int), sensorRange n = some (lo, hi) → (r < lo ∨ hi < r) → Completes (.sensorSample n r) s (fun t =>
        (t.blk.sensor n).valid = false ∧ (t.blk.sensor n).invalids = (b.sensor n).invalids + 1 ∧
        (t.blk.sensor n).substituted = (b.sensor n).substituted)) ∧
      (∀ n, (sensorRange n).isSome = true → (b.sensor n).valid = false → (b.sensor n).substituted = false →
        Completes (.sensorInvalid n) s (fun t => (t.blk.sensor n).substituted = true ∧ t.blk.mem = b.mem)) ∧
      (∀ n, ((b.sensor n).valid = true ∨ (b.sensor n).substituted = true) → exec (.sensorInvalid n) s = .next s) ∧
      (b.start.level ≠ .dark → b.tray.busTx = true → b.tray.noBeacon = false → exec .serviceBusNoBeacon s = .next (s.withBlk
        (({ b with tray := { b.tray with noBeacon := true } } : Block).raise unitModule .serviceBusNoBeacon []))) ∧
      exec .serviceBusBeacon s = .next (s.withBlk { b with tray := { b.tray with noBeacon := false } }))

/-- While the main rails are on: the module limit is the lowest of its sources and names the one it comes from; a window counts and keeps
every rate within 16; a reading at a unit's limit lowers its ceiling a step and one below its release raises it; a trip writes the log and
turns the rails off; a dim step is entered and left. While the rails are off none of these acts. The unit that raises THERMAL_TRIP is the
model's reading (log entry 72) (R375, R387, R388, R389, R390). Completes, with the effect that its rule gives it: POWER_WINDOW, ESTIMATOR_REFIT,
DISAGREEMENT_CHECK, THERMAL_SAMPLE, THERMAL_TRIP, DIM_STEP_ENTER, DIM_STEP_EXIT. -/
def Obligations.PowerLimits : Prop :=
  (∀ (s : State), s.blk.tray.rails = true →
    let b := s.blk
    (∀ x ∈ b.limits, b.updLimit.power.limit ≤ x.1) ∧ (∃ x ∈ b.limits, b.updLimit.power.limit = x.1 ∧ b.updLimit.power.source = x.2) ∧
    (∀ acts, Completes (.powerWindow acts) s (fun t => t.blk.power.windows = b.power.windows + 1 ∧ t.blk.mem = b.mem ∧
      t.blk.lines = b.lines ∧ t.blk.hws = b.hws ∧ t.blk.contexts = b.contexts ∧
      ∀ l, l < 64 → (t.blk.lantern l).rate ≤ 16)) ∧
    (b.readingsBad = false → exec .estimatorRefit s = .next (s.withBlk (b.updPower (fun x => { x with refits := x.refits + 1 })))) ∧
    (b.readingsBad = true → exec .estimatorRefit s = .next s) ∧
    (∀ m e p, Completes (.disagreementCheck m e p) s (fun t => t.blk.power.measured = m ∧ t.blk.mem = b.mem ∧ t.blk.hws = b.hws)) ∧
    (∀ u (v : Int), exec (.thermalSample u v) s = .next (s.withBlk (b.heat u v))) ∧
    (∀ u lim rel trip most, thermalLimits u = some (lim, rel, trip, most) →
      (∀ v : Int, lim ≤ v → ((b.heat u v).thermal u).milliC = v ∧ ((b.heat u v).thermal u).limited = true ∧
        ((b.heat u v).thermal u).lowered = min most ((b.thermal u).lowered + 1)) ∧
      (∀ v : Int, v < rel → rel ≤ lim → ((b.heat u v).thermal u).milliC = v ∧ ((b.heat u v).thermal u).limited = false ∧
        ((b.heat u v).thermal u).lowered = (b.thermal u).lowered - 1) ∧
      (trip ≤ (b.thermal u).milliC → exec (.thermalTrip u) s = .next (s.withBlk
        (((b.updPower (fun x => { x with trips := x.trips + 1 })).raise (thermalUnit u) .thermalTrip [u]).logAndOff))) ∧
      ((b.thermal u).milliC < trip → exec (.thermalTrip u) s = .next s)) ∧
    (∀ n, b.power.dim < n → n < 4 → ((b.sensor 0).substituted = false ∨ (b.sensor 1).substituted = false ∨ n = 1) → Completes (.dimStepEnter n) s (fun t => t.blk.power.dim = n ∧
      t.blk.mem = b.mem ∧ t.blk.contexts = b.contexts)) ∧
    (b.power.dim < 4 → ((b.sensor 0).substituted = false ∨ (b.sensor 1).substituted = false) → Completes (.dimStepEnter 4) s (fun t => t.blk.start.level = .dark ∧
      t.blk.tray.rails = false)) ∧
    (∀ n, n ≤ b.power.dim → exec (.dimStepEnter n) s = .next s) ∧
    (∀ n, 1 < n → (b.sensor 0).substituted = true → (b.sensor 1).substituted = true → exec (.dimStepEnter n) s = .next s) ∧
    (∀ n, 1 ≤ n → n < 4 → n ≤ b.power.dim → ((b.sensor 0).substituted = false ∨ (b.sensor 1).substituted = false) →
      Completes (.dimStepExit n) s (fun t => t.blk.power.dim = n - 1 ∧ t.blk.mem = b.mem))) ∧
  (∀ (s : State), s.blk.tray.rails = false →
    (∀ acts, exec (.powerWindow acts) s = .next s) ∧ exec .estimatorRefit s = .next s ∧
    (∀ m e p, exec (.disagreementCheck m e p) s = .next s) ∧ (∀ u (v : Int), exec (.thermalSample u v) s = .next s) ∧
    (∀ u, exec (.thermalTrip u) s = .next s) ∧ (∀ n, exec (.dimStepEnter n) s = .next s ∧ exec (.dimStepExit n) s = .next s))

/-! ### Starts, stops, losses and error records -/

/-- What the manual says of the state right after the standby rail has risen: DARK, the main rails off, no context, group, request or
hardware context in use, nothing waiting and no alert (R327, R328, R341). Reset memory lists nothing and has the canonical form. -/
def Obligations.ResetValues : Prop :=
  (
    let b := State.reset.blk
    State.reset.pending = [] ∧ b.start.level = .dark ∧ b.tray.rails = false ∧ b.modReady = false ∧
    (∀ c, (b.ctx c).st = .free) ∧ (∀ k, (b.hw k).phase = .free) ∧ (∀ g, (b.group g).st = .free) ∧
    (∀ q, (b.queue q).live = false) ∧ (∀ d, (b.domain d).regions = [] ∧ (b.domain d).tier = .normal) ∧ (∀ n, (b.berth n).st = .vacant) ∧
    (∀ l, (b.line l).dir = .untracked ∧ (b.line l).busy = none) ∧ (∀ c, (b.cart c).st = .empty) ∧ b.sessions = [] ∧ b.cmds.count = 0) ∧
  (MemInv State.reset ∧ ∀ k, cellGet State.reset.blk.mem k = 0)

/-- The gate of every command of the light list: a role below the least one is DENIED, at DARK the answer is NOT_NOW, and away from the
areas that answer at TENDED it is NOT_NOW while the main rails are off; a refusal changes nothing but the reply (R348, R350). -/
def Obligations.CommandGate : Prop :=
  (∀ (b : Block) (role least : Role) (area : Nat) (f : Block → Block),
    (roleRank role < roleRank least → b.cmd role least area f = b.refuse .denied) ∧
    (roleRank least ≤ roleRank role → b.start.level = .dark → b.cmd role least area f = b.refuse .notNow) ∧
    (roleRank least ≤ roleRank role → b.start.level ≠ .dark → area ∉ [0x01, 0x02, 0x60, 0x70, 0x71, 0x78] → b.tray.rails = false →
      b.cmd role least area f = b.refuse .notNow) ∧
    (roleRank least ≤ roleRank role → b.start.level ≠ .dark → (area ∈ [0x01, 0x02, 0x60, 0x70, 0x71, 0x78] ∨ b.tray.rails = true) →
      b.cmd role least area f = f b)) ∧
  (∀ (s : State) (st : Sts) , s.blk.refuse st = { s.blk with cmds := { s.blk.cmds with reply := { status := st } } }) ∧
  (∀ (s : State), let den := s.withBlk (s.blk.refuse .denied)
    (∀ c, exec (.create .observer c) s = .next den ∧ exec (.destroy .observer c) s = .next den) ∧
    (∀ c d, exec (.registerQueue .observer c d) s = .next den) ∧ (∀ g d, exec (.form .observer g d) s = .next den) ∧
    (∀ d, exec (.evacuate .observer d) s = .next den) ∧ exec (.dark .observer) s = .next den ∧
    (∀ l b, exec (.bypass .operator l b 0) s = .next den) ∧ (∀ l m, exec (.unitResetLantern .operator l m) s = .next den) ∧
    (∀ p, exec (.partNumberWrite .service p) s = .next den) ∧ exec (.drain .observer) s = .next den)

/-- The starts: a cold start by power runs its steps once the input has risen to 40.5 V, after an abrupt loss where the module was not at
DARK; one whose first step fails stays DARK and is tried again; one after a reset runs where the reset asked for it. The main rails start
only at TENDED and only while the tray allows it, and START_HELD is raised once. DARK and WARM are accepted, BUSY while a start runs (what
counts as one is the model's reading, log entry 72); what a lost hub leaves (R311, R312, R329, R330, R331, R333, R339, R340, R341, R404).
Completes, with the effect that its rule gives it: COLD_START, HUB_ROM_RETRY, MAIN_RAILS_START, WARM, DARK, HUB_LOST. -/
def Obligations.Starts : Prop :=
  ∀ (s : State),
    let b := s.blk
    (∀ i : ColdIn, i.inputMv < 40500 → exec (.coldStart 0 i) s = .next s) ∧
    (∀ i : ColdIn, 40500 ≤ i.inputMv →
      (b.start.level = .dark → exec (.coldStart 0 i) s = .next (s.withBlk (b.standbyUp.coldSteps 0 i))) ∧
      (b.start.level ≠ .dark → exec (.coldStart 0 i) s = .next (s.withBlk (b.abruptReset.standbyUp.coldSteps 0 i))) ∧
      (i.pufOk = false → Completes (.coldStart 0 i) s (fun t => t.blk.start.level = .dark ∧ t.blk.start.retry = true ∧
        t.blk.start.failStep = 1))) ∧
    (∀ i, (b.start.level = .dark → b.start.woken = true → exec (.coldStart 1 i) s = .next (s.withBlk (b.coldSteps 1 i))) ∧
      ((b.start.level ≠ .dark ∨ b.start.woken = false) → exec (.coldStart 1 i) s = .next s) ∧
      (b.start.level = .dark → b.start.retry = true → exec (.hubRomRetry i) s = .next (s.withBlk (b.coldSteps b.start.kind i))) ∧
      ((b.start.level ≠ .dark ∨ b.start.retry = false) → exec (.hubRomRetry i) s = .next s)) ∧
    (b.tray.rails = true → ∀ i, exec (.mainRailsStart i) s = .next s) ∧
    (b.tray.rails = false → ∀ i : RailsIn,
      let c : Block := { b with tray := { b.tray with flowOk := i.flowOk, pwrOk := i.pwrOk } }
      ((b.start.level ≠ .tended ∨ b.start.stuck = true) → exec (.mainRailsStart i) s = .next (s.withBlk c)) ∧
      (b.start.level = .tended → b.start.stuck = false →
        (∀ n, c.railsHeld = some n → c.start.heldRaised = false → exec (.mainRailsStart i) s = .next (s.withBlk
          ((c.raise unitModule .startHeld [n]).updStart (fun x => { x with heldRaised := true })))) ∧
        (∀ n, c.railsHeld = some n → c.start.heldRaised = true → exec (.mainRailsStart i) s = .next (s.withBlk c)) ∧
        (c.railsHeld = none → exec (.mainRailsStart i) s = .next (s.withBlk
          ((c.updStart (fun x => { x with heldRaised := false })).railSteps i true))) ∧
        (c.railsHeld = none → i.railsOk = false → Completes (.mainRailsStart i) s (fun t => t.blk.start.stuck = true ∧
          t.blk.start.failStep = 5 ∧ t.blk.tray.rails = false ∧ t.blk.alert 15 = true)))) ∧
    (∀ role i c, Admits b role .operator 0x02 → b.startRuns = true → exec (.dark role) s = .next (s.withBlk (b.refuse .busy)) ∧
      exec (.warm role i c) s = .next (s.withBlk (b.refuse .busy))) ∧
    (∀ role, Admits b role .operator 0x02 → b.startRuns = false → Completes (.dark role) s (fun t => t.blk.start.level = .dark ∧ t.blk.tray.rails = false ∧
      t.blk.contexts = [] ∧ t.blk.hws = [] ∧ t.blk.mem = [] ∧ t.blk.sessions = [] ∧ t.blk.cmds.reply.status = .accepted)) ∧
    (∀ role i c, Admits b role .operator 0x02 → b.startRuns = false → Completes (.warm role i c) s (fun t => t.blk.cmds.reply.status = .accepted)) ∧
    (b.start.level ≠ .dark → Completes .hubLost s (fun t => t.blk.start.level = .dark ∧ t.blk.start.hubLost = true ∧
      t.blk.tray.rails = false ∧ t.blk.mem = [])) ∧
    (b.start.level = .dark → exec .hubLost s = .next s)

/-- LANTERN_LOST runs the loss of a lantern that is alive, with its DETAIL; with nothing in flight on it the lantern is then LOST, bit 17
of AlertCauses stands and memory is as before. UnitReset of a lantern, a keeper cluster, a port, a memory channel and an empty tile: what
is accepted and where each is refused (R400, R404, R405, R409). Completes, with the effect that its rule gives it: LANTERN_LOST,
UNIT_RESET_LANTERN, UNIT_RESET_KEEPER_CLUSTER, UNIT_RESET_PORT, UNIT_RESET_STACK_CHANNEL, UNIT_RESET_BULK_CHANNEL, UNIT_RESET_TILE. -/
def Obligations.LossesAndResets : Prop :=
  ∀ (s : State),
    let b := s.blk
    (∀ l c, l < 64 → b.tray.rails = true → (b.lantern l).loss = .alive → exec (.lanternLost l c) s = .next (s.withBlk (b.loseLantern l (lossDetail c)))) ∧
    (∀ l c, (64 ≤ l ∨ b.tray.rails = false ∨ (b.lantern l).loss ≠ .alive) → exec (.lanternLost l c) s = .next s) ∧
    (∀ l d, l < 64 → b.hws = [] → b.lines = [] → b.checks = [] → b.groups = [] → b.withdrawals = [] → (b.lantern l).cmd = none →
      b.cfg 0x20000042 1 ≠ 1 → ((b.loseLantern l d).lantern l).loss = .lost ∧ ((b.loseLantern l d).lantern l).lossDetail = d ∧
        (b.loseLantern l d).alert 17 = true ∧ (b.loseLantern l d).mem = b.mem) ∧
    (∀ role m, Admits b role .service 0x60 →
      (∀ l, 64 ≤ l → exec (.unitResetLantern role l m) s = .next (s.withBlk (b.refuse .outOfRange))) ∧
      (b.tray.rails = true → ∀ l, l < 64 → (b.lantern l).loss = .alive → (b.lantern l).relightWaits = false → (b.lantern l).promoteTo = none →
        let d := b.accept 0x60000040
        exec (.unitResetLantern role l 0) s = .next (s.withBlk ((d.updLantern l (fun y =>
          { y with relightWaits := true, cmd := some (d.cmds.count, 0x60000040) })).settle l)) ∧
        exec (.unitResetLantern role l 1) s = .next (s.withBlk ((d.loseLantern l 4).finishSts 0x60000040 d.cmds.count .ok))) ∧
      (b.tray.rails = true → ∀ cl, cl < 8 → (b.cluster cl).st = .running →
        let d := b.accept 0x60000040
        exec (.unitResetKeeperCluster role cl 0) s = .next (s.withBlk (((d.drainCluster cl).resetCluster cl).updCluster cl (fun x =>
          { x with cmd := some (d.cmds.count, 0x60000040) }))) ∧
        exec (.unitResetKeeperCluster role cl 1) s = .next (s.withBlk ((d.loseCluster cl).updCluster cl (fun x =>
          { x with cmd := some (d.cmds.count, 0x60000040) })))) ∧
      (b.tray.rails = true → ∀ p, p < 2 → m < 2 → (b.port p).resetting = false →
        let d := b.accept 0x60000040
        exec (.unitResetPort role p m) s = .next (s.withBlk ((d.resetPort p).finishSts 0x60000040 d.cmds.count .ok))) ∧
      (∀ ch, (m ≠ 0 ∨ 256 ≤ ch) → exec (.unitResetStackChannel role ch m) s = .next (s.withBlk (b.refuse .outOfRange))) ∧
      (b.tray.rails = true → ∀ ch, ch < 256 → (b.channel ch).st = .up → Completes (.unitResetStackChannel role ch 0) s (fun t =>
        (t.blk.channel ch).st = .held ∧ (t.blk.channel ch).cmd = some (b.cmds.count + 1, 0x60000040) ∧
        t.blk.cmds.reply.status = .accepted ∧ t.blk.mem = b.mem)) ∧
      (b.tray.rails = true → ∀ ch, ch < 16 → (b.channel (256 + ch)).st = .up → Completes (.unitResetBulkChannel role ch 0) s (fun t =>
        (t.blk.channel (256 + ch)).st = .held ∧ t.blk.cmds.reply.status = .accepted ∧ t.blk.mem = b.mem)) ∧
      (b.tray.rails = true → (b.tileEmpty m = false ∨ m = 4) → m < 9 → exec (.unitResetTile role m 0) s = .next (s.withBlk (b.refuse .badState))) ∧
      (b.tray.rails = true → ∀ t, t < 9 → t ≠ 4 → b.tileEmpty t = true → let e := b.accept 0x60000040
        exec (.unitResetTile role t 0) s = .next (s.withBlk ((e.resetTile t).finishSts 0x60000040 e.cmds.count .ok))))

/-- Error banks are read and cleared, the event log is written in order with its numbers and read back, a second's excess is reported in
one record (R358, R370, R371, R372, R410, R412). Completes, with the effect that its rule gives it: EVENT_FETCH, EVENTS_SUPPRESSED,
EVENT_LOG_WRITE, ERROR_BANK_READ, ERROR_BANK_CLEAR. -/
def Obligations.Records : Prop :=
  ∀ (s : State) (role : Role),
    let b := s.blk
    (Admits b role .observer 0x60 → ∀ u i, Completes (.errorBankRead role u i) s (fun t =>
      t.blk.cmds.reply.status = .ok ∧ t.blk.cmds.reply.body = ((((Machine.tget [] b.errors.banks u).drop i).take 16).map errBytes).flatten ∧
      t.blk.errors = b.errors ∧ t.blk.mem = b.mem ∧ t.blk.events = b.events)) ∧
    (Admits b role .service 0x60 → ∀ u, Completes (.errorBankClear role u) s (fun t => Machine.tget [] t.blk.errors.banks u = [] ∧
      (∀ v, v ≠ u → Machine.tget [] t.blk.errors.banks v = Machine.tget [] b.errors.banks v) ∧ t.blk.mem = b.mem)) ∧
    (b.start.level = .dark → exec .eventLogWrite s = .next s) ∧
    (b.start.level ≠ .dark → b.events.pend = [] → exec .eventLogWrite s = .next (s.withBlk b.pushAll)) ∧
    (b.start.level ≠ .dark → ∀ r t, b.events.pend = r :: t →
      exec .eventLogWrite s = .next (s.withBlk ((({ b with events := { b.events with pend := t } } : Block).putLog r).pushAll))) ∧
    (∀ r, b.events.left ≠ 0 → b.tray.sf0Failed = false → b.events.log.length < 262144 →
      (b.putLog r).events.log = b.events.log ++ [{ r with seq := b.events.next }] ∧ (b.putLog r).events.next = b.events.next + 1 ∧
      (b.putLog r).events.left = b.events.left - 1) ∧
    (Admits b role .observer 0x60 →
      (∀ f n, (n < 1 ∨ 20 < n) → exec (.eventFetch role f n) s = .next (s.withBlk (b.refuse .outOfRange))) ∧
      (∀ f n, 1 ≤ n → n ≤ 20 → Completes (.eventFetch role f n) s (fun t => t.blk.cmds.reply.status = .ok ∧
        t.blk.cmds.reply.body = (((b.events.log.filter (fun r => decide (f ≤ r.seq))).take n).map eventBytes).flatten ∧
        t.blk.events = b.events ∧ t.blk.mem = b.mem))) ∧
    (∀ u e x, b.events.second.find? (fun y => y.1 == u && y.2.1 == e) = some x → 16 < x.2.2 → e ≠ .guestAccessDenied →
      exec (.eventsSuppressed u e) s = .next (s.withBlk (({ b with events := { b.events with
        second := b.events.second.filter (fun y => !(y.1 == u && y.2.1 == e)) } } : Block).raise u .eventsSuppressed
          [leNat ((strBytes (evName e)).take 8), x.2.2 - 16]))) ∧
    (∀ (r : EvRec), (eventBytes r).length = 64) ∧ (∀ r : ErrRec, (errBytes r).length = 64)

/-! ### Silent errors and test -/

/-- The off-watch rotation: a slot names a lantern and its tile's spare or passes it over, the drain limit abandons the step, the swap
waits for the drain, a site that fails its scan is retired (R414, R415, R417). Scans of engines, clusters and tiles: what a pass and a
failure leave, and where each is refused (R409, R416, R417, R424). Completes, with the effect that its rule gives it: OFFWATCH_SLOT,
OFFWATCH_DRAIN_LIMIT, OFFWATCH_SWAP, OFFWATCH_SCAN_DONE, SINKER_SCAN, KEEPER_SCAN, TILE_SCAN, KEEPER_SCAN_DUE, TILE_SCAN_DUE. -/
def Obligations.OffWatchAndScans : Prop :=
  (∀ (s : State),
      let b := s.blk
      let may := b.silent.svc = .inService ∧ b.start.level = .lit ∧ b.cfg 0x61000010 24 ≠ 0 ∧ b.silent.watch = .idle ∧
        b.tray.sf0Failed = false
      (¬ may → exec .offwatchSlot s = .next s) ∧
      (may → ∀ l, b.watchPick = some l → b.spareSite (lampTile l) = none → Completes .offwatchSlot s (fun t =>
        t.blk.silent.watch = .idle ∧ t.blk.silent.skipped = tinc b.silent.skipped l 1 ∧ t.blk.lanterns = b.lanterns ∧
        t.blk.mem = b.mem ∧ t.blk.hws = b.hws)) ∧
      (may → ∀ l sp, b.watchPick = some l → b.spareSite (lampTile l) = some sp →
        (∀ m, m < 64 → lampTile m = lampTile l → (b.lantern m).relightWaits = false ∧ (b.lantern m).promoteTo = none) →
        Completes .offwatchSlot s (fun t => t.blk.silent.watch = .drain l sp ∧ t.blk.silent.skipped = b.silent.skipped ∧
          t.blk.lanterns = b.lanterns ∧ t.blk.mem = b.mem ∧ t.blk.hws = b.hws ∧ t.blk.events = b.events)) ∧
      (may → ∀ l m sp, b.watchPick = some l → b.spareSite (lampTile l) = some sp → m < 64 → lampTile m = lampTile l →
        ((b.lantern m).relightWaits = true ∨ (b.lantern m).promoteTo ≠ none) → Completes .offwatchSlot s (fun t =>
          t.blk.silent.watch = .idle ∧ t.blk.silent.skipped = tinc b.silent.skipped l 1 ∧ t.blk.lanterns = b.lanterns ∧
          t.blk.mem = b.mem)) ∧
      (may → b.watchPick = none → exec .offwatchSlot s = .next s) ∧
      (∀ l, b.watchPick = some l → (b.lantern l).loss = .alive ∧ b.outOfService l = false) ∧
      (∀ l sp, b.silent.watch = .drain l sp →
        Completes .offwatchDrainLimit s (fun t => t.blk.silent.watch = .idle ∧ t.blk.silent.head.head? = some l ∧
          t.blk.silent.skipped = tinc b.silent.skipped l 1 ∧ t.blk.lanterns = b.lanterns ∧ t.blk.mem = b.mem ∧ t.blk.hws = b.hws) ∧
        (b.quiet l = false → ∀ v, exec (.offwatchSwap v) s = .next s) ∧
        (b.quiet l = true → (b.onWatch l = false ∨ b.spareSite (lampTile l) ≠ some sp) → ∀ v, Completes (.offwatchSwap v) s (fun t =>
          t.blk.silent.watch = .idle ∧ t.blk.silent.skipped = tinc b.silent.skipped l 1 ∧ t.blk.lanterns = b.lanterns)) ∧
        (b.quiet l = true → b.onWatch l = true → b.spareSite (lampTile l) = some sp → ∀ v, exec (.offwatchSwap v) s = .next (s.withBlk
          (b.swapTo l (fun c => (((c.reseat l (lampTile l * 16 + sp)).updSilent (fun x => { x with
            spares := tput x.spares (lampTile l) none, watch := .scan l (b.siteOf l) })).updLantern l (fun x =>
              { x with vectorsBad := !v }))))))) ∧
      ((∀ l sp, b.silent.watch ≠ .drain l sp) → exec .offwatchDrainLimit s = .next s ∧ ∀ v, exec (.offwatchSwap v) s = .next s) ∧
      (∀ l site pass slow, b.silent.watch = .scan l site → Completes (.offwatchScanDone pass slow) s (fun t =>
        t.blk.silent.watch = .idle ∧ t.blk.silent.completed = tinc b.silent.completed l 1 ∧
        t.blk.silent.spares = tput b.silent.spares (site / 16) (if pass then some (site % 16) else none) ∧
        t.blk.silent.retired = (if pass then b.silent.retired else addLast b.silent.retired site) ∧ t.blk.mem = b.mem ∧
        t.blk.hws = b.hws)) ∧
      ((∀ l site, b.silent.watch ≠ .scan l site) → ∀ pass slow, exec (.offwatchScanDone pass slow) s = .next s)) ∧
  (∀ (s : State) (role : Role),
      let b := s.blk
      (∀ k g, k < 16 → g < 4 → b.tray.sf1Failed = false → (b.sinker k).lost = false → (b.sinker k).engines.getLsbD g = true →
        b.start.level = .lit →
        exec (.sinkerScan k g true) s = .next (s.withBlk (b.updSilent (fun x => { x with
          lastPass := tput x.lastPass (0x400 + 4 * k + g) b.seqNow }))) ∧
        Completes (.sinkerScan k g false) s (fun t => (t.blk.sinker k).engines.getLsbD g = false ∧
          (∀ j, j ≠ g → (t.blk.sinker k).engines.getLsbD j = (b.sinker k).engines.getLsbD j) ∧
          (∀ j, j ≠ k → t.blk.sinker j = b.sinker j) ∧ t.blk.silent.lastPass = b.silent.lastPass ∧ t.blk.mem = b.mem ∧
          t.blk.store.mapSeq = b.store.mapSeq + 1)) ∧
      (∀ k g pass, (b.sinker k).engines.getLsbD g = false → exec (.sinkerScan k g pass) s = .next s) ∧
      (Admits b role .operator 0x61 →
        (∀ k pass, 8 ≤ k → exec (.keeperScan role k pass) s = .next (s.withBlk (b.refuse .outOfRange))) ∧
        (∀ k pass, k < 8 → (b.cluster k).stopped = false → exec (.keeperScan role k pass) s = .next (s.withBlk (b.refuse .badState))) ∧
        (∀ k pass, k < 8 → (b.cluster k).st = .running → (b.cluster k).stopped = true → b.tray.sf1Failed = false →
          Completes (.keeperScan role k pass) s (fun t => (t.blk.cluster k).st = .reset ∧ (t.blk.cluster k).relocking = pass ∧
            t.blk.cmds.reply.status = .accepted ∧ (∀ h, h / 16 = k → t.blk.hart h = {}) ∧
            (pass = true → ∃ n, t.blk.silent.lastPass = tput b.silent.lastPass (0x200 + k) n)))) ∧
      (Admits b role .service 0x61 →
        (∀ k pass, 9 ≤ k → exec (.tileScan role k pass) s = .next (s.withBlk (b.refuse .outOfRange))) ∧
        (∀ k pass, k < 9 → (k = 4 ∨ b.tileEmpty k = false) →
          exec (.tileScan role k pass) s = .next (s.withBlk (b.refuse .badState))) ∧
        (∀ k, k < 9 → k ≠ 4 → b.tileEmpty k = true → b.tray.sf0Failed = false → Completes (.tileScan role k true) s (fun t =>
          (∃ n, t.blk.silent.lastPass = tput b.silent.lastPass (0x300 + k) n) ∧ t.blk.silent.svc = b.silent.svc ∧
          t.blk.cmds.reply.status = .accepted)) ∧
        (∀ k, k < 9 → k ≠ 4 → b.tileEmpty k = true → b.tray.sf0Failed = false → b.silent.svc = .inService →
          Completes (.tileScan role k false) s (fun t => t.blk.silent.lastPass = b.silent.lastPass ∧ t.blk.silent.svc = .draining ∧
            t.blk.silent.fault = true ∧ t.blk.alert 13 = true))) ∧
      (∀ k, b.start.level = .lit → k < 8 → k ∉ b.silent.dueClusters → exec (.keeperScanDue k) s = .next (s.withBlk
        ((b.updSilent (fun x => { x with dueClusters := addLast x.dueClusters k })).raise (unitCluster k) .keeperScanDue [k]))) ∧
      (∀ k, (8 ≤ k ∨ k ∈ b.silent.dueClusters) → exec (.keeperScanDue k) s = .next s) ∧
      (∀ k, b.start.level = .lit → k < 9 → k ≠ 4 → k ∉ b.silent.dueTiles → exec (.tileScanDue k) s = .next (s.withBlk
        ((b.updSilent (fun x => { x with dueTiles := addLast x.dueTiles k })).raise (unitTile k) .tileScanDue [k]))) ∧
      (∀ k, (9 ≤ k ∨ k = 4 ∨ k ∈ b.silent.dueTiles) → exec (.tileScanDue k) s = .next s))

/-- Bearing checks: a bad recipe drops the check, a checker's equal checksum passes it and a different one asks for a voter, the voter's
result decides, a check that takes too long is dropped (R419, R420, R421). The service states: DRAIN and RESUME, the drain limit ends what
runs, a module drained for a fault is condemned once nothing runs (R424, R425, R426). Completes, with the effect that its rule gives it:
CHECK_CAPTURE, CHECKER_DONE, VOTER_DONE, CHECK_EXPIRED, DRAIN, RESUME, DRAIN_LIMIT, MODULE_CONDEMNED. -/
def Obligations.BearingChecks : Prop :=
  (∀ (s : State) (id : Nat),
      let b := s.blk
      let find := fun st : Nat => b.checks.find? (fun (x : Check) => x.id == id && x.stage == st)
      (∀ l, b.checks.find? (fun (x : Check) => x.id == id && x.lantern == l && x.stage == 0) = none →
        exec (.checkCapture l id) s = .next s) ∧
      (∀ l x, b.checks.find? (fun (x : Check) => x.id == id && x.lantern == l && x.stage == 0) = some x →
        (x.key.toNat % 64 ≠ 0 → exec (.checkCapture l id) s = .next (s.withBlk (b.badRecipe x))) ∧
        (∀ bs, x.key.toNat % 64 = 0 → b.readVa l x.ctx x.key.toNat 64 = some (some bs) → recipeOk (lineOf bs) = false →
          exec (.checkCapture l id) s = .next (s.withBlk (b.badRecipe x))) ∧
        (∀ bs, x.key.toNat % 64 = 0 → b.readVa l x.ctx x.key.toNat 64 = some (some bs) → recipeOk (lineOf bs) = true →
          fld (lineOf bs) 8 3 = 0 → exec (.checkCapture l id) s = .next (s.withBlk (b.capture x (lineOf bs) [])))) ∧
      (∀ r : Line, recipeOk r = true → fld r 0 4 = 1 ∧ fld r 8 3 ≤ 4 ∧ fld r 192 25 % 64 = 0) ∧
      (find 1 = none → exec (.checkerDone id) s = .next s) ∧
      (∀ x b1 sum, find 1 = some x → (∀ go : Block → W64 → Block, b.programEnd x (x.checker.getD 0) go = go b1 sum) →
        (sum = x.sum → exec (.checkerDone id) s = .next (s.withBlk (b1.verdict id 0))) ∧
        (sum ≠ x.sum → ∀ v, b1.chooseChecker { x with stage := 2, checkerSum := sum } (x.checker.getD x.lantern)
            [x.lantern, x.checker.getD x.lantern] = some v → (∃ z ∈ b1.checks, z.id = id) →
          exec (.checkerDone id) s = .next (s.withBlk (({ b1 with checks := b1.checks.map (fun (z : Check) =>
            if z.id = id then { x with stage := 2, checkerSum := sum, voter := some v } else z) } : Block).takeCheck v)))) ∧
      (find 2 = none → exec (.voterDone id) s = .next s) ∧
      (∀ x b1 sum again, find 2 = some x → b.regionSums (x.voter.getD 0) x.ctx (x.inputs.map (fun e => (e.1, e.2.1))) = some again →
        (∀ go : Block → W64 → Block, b.programEnd x (x.voter.getD 0) go = go b1 sum) →
        (again ≠ some (x.inputs.map (fun e => e.2.2)) → exec (.voterDone id) s = .next (s.withBlk
          ((b1.verdict id 1).raise (unitLantern x.lantern) .checkInputsChanged [x.ctx, x.lantern]))) ∧
        (again = some (x.inputs.map (fun e => e.2.2)) → b1.silent.svc = .inService → Completes (.voterDone id) s (fun t =>
          t.blk.silent.verdicts = tinc b1.silent.verdicts 2 1 ∧ (∀ y ∈ t.blk.checks, y.id ≠ id) ∧ t.blk.silent.svc = .draining ∧
          t.blk.silent.fault = true ∧ t.blk.alert 13 = true ∧ t.blk.mem = b1.mem ∧ t.blk.hws = b1.hws))) ∧
      (b.checks.find? (fun (x : Check) => x.id == id) = none → exec (.checkExpired id) s = .next s) ∧
      (∀ x, b.checks.find? (fun (x : Check) => x.id == id) = some x → x.stage = 0 → b.checkHw id = none →
        Completes (.checkExpired id) s (fun t => (∀ y ∈ t.blk.checks, y.id ≠ id) ∧ t.blk.silent.dropped = b.silent.dropped + 1 ∧
          t.blk.silent.verdicts = tinc b.silent.verdicts 4 1 ∧ t.blk.mem = b.mem ∧ t.blk.lines = b.lines))) ∧
  (∀ (s : State) (role : Role),
      let b := s.blk
      (Admits b role .operator 0x61 →
        (b.silent.svc = .inService → Completes (.drain role) s (fun t => t.blk.silent.svc = .draining ∧ t.blk.silent.fault = b.silent.fault ∧
          t.blk.alert 13 = true ∧ t.blk.cmds.reply.status = .ok ∧ t.blk.mem = b.mem ∧ t.blk.hws = b.hws ∧ t.blk.contexts = b.contexts)) ∧
        (b.silent.svc ≠ .inService → exec (.drain role) s = .next (s.withBlk (b.refuse .badState))) ∧
        (b.silent.svc = .draining → b.silent.fault = false → Completes (.resume role) s (fun t => t.blk.silent.svc = .inService ∧
          t.blk.alert 13 = false ∧ t.blk.cmds.reply.status = .ok ∧ t.blk.mem = b.mem ∧ t.blk.hws = b.hws)) ∧
        ((b.silent.svc ≠ .draining ∨ b.silent.fault = true) → exec (.resume role) s = .next (s.withBlk (b.refuse .badState)))) ∧
      (b.silent.svc ≠ .draining → exec .drainLimit s = .next s) ∧
      (∀ k, b.silent.svc = .draining → (b.hw k).phase = .running → (b.hw k).check = none → Completes .drainLimit s (fun t =>
        (t.blk.hw k).phase = .ended 8 1 ∧ t.blk.mem = b.mem ∧ t.blk.lines = b.lines ∧ t.blk.silent.svc = .draining)) ∧
      (b.silent.svc = .draining → b.silent.fault = true → b.hws = [] →
        exec .moduleCondemned s = .next (s.withBlk (b.condemn ((b.silent.cause).getD .moduleSuspect)))) ∧
      (∀ c, b.silent.svc = .draining → (b.condemn c).silent.svc = .condemned ∧ (b.condemn c).alert 14 = true ∧
        (b.condemn c).mem = b.mem ∧ (b.silent.condemned = none →
          ∃ n, (b.condemn c).silent.condemned = some { cause := c, seq := n, faults := b.silent.faults })) ∧
      (∀ c as, b.silent.svc = .draining → (b.suspect c as).silent.svc = .draining ∧
        ∃ n, (b.suspect c as).silent.faults = b.silent.faults ++ [(c, n, as)]) ∧
      ((b.silent.svc ≠ .draining ∨ b.silent.fault = false) → exec .moduleCondemned s = .next s))

/-! ### Live service -/

/-- Firmware slots: a chunk goes into the candidate slot, VERIFY makes it VALID or names what fails, ACTIVATE, REVERT and COMMIT and the
states in which they are refused (R430, R431, R432, R451). A unit switches at its switch point and not before, a switch that is skipped is
tried again up to 16 times, an image that does not start leaves the unit on the boot slot (R433, R446). Completes, with the effect that
its rule gives it: SLOT_WINDOW, VERIFY, ACTIVATE, REVERT, COMMIT, UNIT_SWITCH, FIRMWARE_SWITCH_SKIPPED, FIRMWARE_REVERTED. -/
def Obligations.Firmware : Prop :=
  (∀ (s : State) (role : Role), Admits s.blk role .service 0x71 →
      let b := s.blk
      (∀ u, 6 ≤ u → (∀ bs, exec (.slotWindow role u bs) s = .next (s.withBlk (b.refuse .notFound))) ∧
        (∀ h, exec (.verify role u h) s = .next (s.withBlk (b.refuse .outOfRange))) ∧
        (∀ m, exec (.activate role u m) s = .next (s.withBlk (b.refuse .outOfRange)) ∧
          exec (.revert role u m) s = .next (s.withBlk (b.refuse .outOfRange))) ∧
        exec (.commit role u) s = .next (s.withBlk (b.refuse .outOfRange))) ∧
      (∀ u, u < 6 →
        let f := b.fw u
        let base := b.cfg (unitNo 0x71 u + 0x11) 0
        (∀ bs : List Byte, 2 ^ 20 < bs.length → exec (.slotWindow role u bs) s = .next (s.withBlk (b.refuse .tooLarge))) ∧
        (∀ bs : List Byte, bs.length ≤ 2 ^ 20 → b.candBusy u = true → exec (.slotWindow role u bs) s = .next (s.withBlk (b.refuse .busy))) ∧
        (∀ bs : List Byte, bs.length ≤ 2 ^ 20 → b.candBusy u = false → base + bs.length ≤ slotBytes u →
          Completes (.slotWindow role u bs) s (fun t => (t.blk.fw u).cand = 1 ∧ (t.blk.fw u).boot = f.boot ∧
            (t.blk.fw u).onCand = f.onCand ∧ t.blk.cmds.reply.status = .ok ∧
            (∀ i v, bs[i]? = some v → t.blk.slotByte u (1 - f.boot) (base + i) = v) ∧
            (∀ i, (i < base ∨ base + bs.length ≤ i) → t.blk.slotByte u (1 - f.boot) i = b.slotByte u (1 - f.boot) i) ∧
            t.blk.mem = b.mem ∧ ∀ v, v ≠ u → t.blk.fw v = b.fw v)) ∧
        (∀ v, f.cand = 0 → exec (.verify role u v) s = .next (s.withBlk (b.refuse .badState))) ∧
        (∀ v : ImageSeal, f.cand ≠ 0 → (v.sigOk = false ∨ v.digestOk = false) →
          exec (.verify role u v) s = .next (s.withBlk (b.refuse .badSignature))) ∧
        (f.cand ≠ 0 → ∀ v : ImageSeal, v.sigOk = true → v.digestOk = true →
          let h := b.imageHdr u (1 - f.boot)
          (h.reservedZero = false → exec (.verify role u v) s = .next (s.withBlk (b.refuse .rsvNonzero))) ∧
          (h.reservedZero = true → (h.level ≠ 1 ∨ h.levels &&& supportedLevels ≠ supportedLevels) →
            exec (.verify role u v) s = .next (s.withBlk (b.refuse .levelReject))) ∧
          (h.reservedZero = true → h.level = 1 → h.levels &&& supportedLevels = supportedLevels →
            ((h.magic ≠ 0x46575347 ∨ h.cls ≠ u ∨ slotBytes u - 256 < h.length ∨ b.ifOk u h = false ∨ h.secVersion < f.floor) →
              exec (.verify role u v) s = .next (s.withBlk (b.refuse .badState))) ∧
            (h.magic = 0x46575347 → h.cls = u → h.length ≤ slotBytes u - 256 → b.ifOk u h = true → f.floor ≤ h.secVersion →
              Completes (.verify role u v) s (fun t => (t.blk.fw u).cand = 2 ∧ (t.blk.fw u).candSec = h.secVersion ∧
                (t.blk.fw u).boot = f.boot ∧ t.blk.cmds.reply.status = .ok ∧ ∀ v, v ≠ u → t.blk.fw v = b.fw v)))) ∧
        (b.tray.rails = true → ∀ m : W64, m.toNat < 2 ^ fwUnits u →
          (f.cand ≠ 2 → exec (.activate role u m) s = .next (s.withBlk (b.refuse .badState))) ∧
          (f.cand = 2 → f.cmd.isSome = true → exec (.activate role u m) s = .next (s.withBlk (b.refuse .busy))) ∧
          (f.cand = 2 → f.cmd = none → f.onCand = [] → m ≠ 0 → Completes (.activate role u m) s (fun t =>
            (t.blk.fw u).switching = (setBits m 64).map (fun i => (i, 1 - f.boot)) ∧ (t.blk.fw u).cmd = some (b.cmds.count + 1) ∧
            t.blk.cmds.reply.status = .accepted ∧ t.blk.mem = b.mem ∧ t.blk.hws = b.hws)) ∧
          (f.cmd.isSome = true → exec (.revert role u m) s = .next (s.withBlk (b.refuse .busy))) ∧
          (f.cmd = none → (∀ i, m.getLsbD i = true → i ∈ f.onCand) → m ≠ 0 → Completes (.revert role u m) s (fun t =>
            (t.blk.fw u).switching = (setBits m 64).map (fun i => (i, f.boot)) ∧ (t.blk.fw u).cmd = some (b.cmds.count + 1) ∧
            t.blk.cmds.reply.status = .accepted ∧ t.blk.mem = b.mem))) ∧
        ((∃ i, i < fwUnits u ∧ i ∉ f.onCand) → exec (.commit role u) s = .next (s.withBlk (b.refuse .badState))) ∧
        (f.cmd = none → (∀ i, i < fwUnits u → i ∈ f.onCand) → Completes (.commit role u) s (fun t =>
          (t.blk.fw u).boot = 1 - f.boot ∧ (t.blk.fw u).cand = 0 ∧ (t.blk.fw u).onCand = [] ∧
          (t.blk.fw u).floor = (if b.cfg 0x78000011 1 = 1 ∧ f.floor < f.candSec then f.candSec else f.floor) ∧
          t.blk.cmds.reply.status = .ok ∧ ∀ v, v ≠ u → t.blk.fw v = b.fw v)))) ∧
  (∀ (s : State) (c u : Nat),
      let b := s.blk
      let f := b.fw c
      (f.switching.find? (fun e => e.1 == u) = none →
        exec (.unitSwitch c u) s = .next s ∧ exec (.firmwareReverted c u) s = .next s) ∧
      (∀ e, f.switching.find? (fun e => e.1 == u) = some e →
        (b.atSwitch c u = true → exec (.unitSwitch c u) s = .next (s.withBlk (((b.loadImage c u).nowRuns c u e.2).switchesDone c))) ∧
        (b.atSwitch c u = false → exec (.firmwareReverted c u) s = .next s ∧ exec (.unitSwitch c u) s = .next (s.withBlk
          (b.updFw c (fun x => { x with paused := x.paused.filter (· != u) }))))) ∧
      (∀ v slot, ((b.nowRuns c u slot).fw c).switching = f.switching.filter (fun e => e.1 != u) ∧
        (slot = f.boot → ((b.nowRuns c u slot).fw c).onCand = f.onCand.filter (· != u)) ∧ (b.nowRuns c u slot).mem = b.mem ∧
        (v ≠ c → (b.nowRuns c u slot).fw v = b.fw v)) ∧
      (∀ e, f.switching.find? (fun e => e.1 == u) = some e → b.atSwitch c u = true → c = 1 → f.cmd = none →
        Completes (.firmwareReverted c u) s (fun t => (t.blk.fw c).result = .badState ∧
          (t.blk.fw c).onCand = f.onCand.filter (· != u) ∧ t.blk.mem = b.mem ∧ t.blk.hws = b.hws)) ∧
      ((c ≠ 2 ∧ c ≠ 3) → exec (.firmwareSwitchSkipped c u) s = .next s) ∧
      ((c = 2 ∨ c = 3) → f.draining u = true → f.cmd = none →
        (Machine.tget 0 f.tries u + 1 < 16 → Completes (.firmwareSwitchSkipped c u) s (fun t =>
          Machine.tget 0 (t.blk.fw c).tries u = Machine.tget 0 f.tries u + 1 ∧ (t.blk.fw c).switching = f.switching ∧ u ∈ (t.blk.fw c).paused ∧
          t.blk.mem = b.mem)) ∧
        (16 ≤ Machine.tget 0 f.tries u + 1 → f.result ≠ .badState → Completes (.firmwareSwitchSkipped c u) s (fun t =>
          (t.blk.fw c).switching = f.switching.filter (fun e => e.1 != u) ∧ (t.blk.fw c).result = .busy))))

/-- Promotion, relight and bypass: the states in which each is refused, what waits for the quiescent point, what each leaves (R406, R408,
R435, R436, R437). Completes, with the effect that its rule gives it: PROMOTE, RELIGHT, BYPASS, BYPASS_APPLIED. -/
def Obligations.LanternService : Prop :=
  ∀ (s : State) (role : Role), Admits s.blk role .service 0x20 →
    let b := s.blk
    (∀ l, 64 ≤ l → exec (.promote role l) s = .next (s.withBlk (b.refuse .outOfRange)) ∧
      (∀ ok, exec (.relight role l ok) s = .next (s.withBlk (b.refuse .outOfRange))) ∧
      (∀ m x, exec (.bypass role l m x) s = .next (s.withBlk (b.refuse .outOfRange)))) ∧
    (∀ l, l < 64 →
      let x := b.lantern l
      (b.watchOn (lampTile l) = true ∨ x.relightWaits = true ∨ x.promoteTo ≠ none ∨ x.loss = .fencing ∨ x.loss = .relighting →
        exec (.promote role l) s = .next (s.withBlk (b.refuse .busy))) ∧
      (b.watchOn (lampTile l) = false → x.relightWaits = false → x.promoteTo = none → x.loss ≠ .fencing → x.loss ≠ .relighting →
        (b.spareSite (lampTile l) = none → exec (.promote role l) s = .next (s.withBlk (b.refuse .badState))) ∧
        (∀ sp, b.spareSite (lampTile l) = some sp → (x.loss = .lost ∨ x.out = true) → exec (.promote role l) s = .next (s.withBlk
          (((((b.accept objLamp).freshDie l).takeSpare l sp).replan l).finishSts objLamp (b.cmds.count + 1) .ok))) ∧
        (∀ sp, b.spareSite (lampTile l) = some sp → x.loss = .alive → x.out = false → b.quiet l = false →
          Completes (.promote role l) s (fun t => (t.blk.lantern l).promoteTo = some sp ∧
            (t.blk.lantern l).cmd = some (b.cmds.count + 1, objLamp) ∧ (t.blk.lantern l).site = x.site ∧
            t.blk.cmds.reply.status = .accepted ∧ t.blk.mem = b.mem ∧ t.blk.hws = b.hws))) ∧
      (x.loss ≠ .lost → b.outOfService l = false → ∀ ok, exec (.relight role l ok) s = .next (s.withBlk (b.refuse .badState))) ∧
      (x.loss = .lost → b.quiet l = false → ∀ ok, exec (.relight role l ok) s = .next (s.withBlk (b.refuse .busy))) ∧
      (x.loss = .lost → b.quiet l = true →
        Completes (.relight role l true) s (fun t => (t.blk.lantern l).loss = .alive ∧ (t.blk.lantern l).out = false ∧
          (t.blk.lantern l).vectorsBad = false ∧ (t.blk.lantern l).lens = [] ∧ t.blk.cmds.reply.status = .accepted ∧
          t.blk.mem = b.mem ∧ t.blk.hws = b.hws ∧ ∀ j, j ≠ l → t.blk.lantern j = b.lantern j) ∧
        (b.cfg 0x20000042 1 ≠ 1 → Completes (.relight role l false) s (fun t => (t.blk.lantern l).out = true ∧
          (t.blk.lantern l).loss = .lost ∧ t.blk.mem = b.mem))) ∧
      (∀ m v, 16 ≤ m → exec (.bypass role l m v) s = .next (s.withBlk (b.refuse .outOfRange))) ∧
      (∀ m v, m < 16 → (b.beam (beamNo l m)).mask &&& ~~~v ≠ 0 → role ≠ .vendor →
        exec (.bypass role l m v) s = .next (s.withBlk (b.refuse .denied))) ∧
      (∀ m v, m < 16 → (b.beam (beamNo l m)).mask &&& ~~~v = 0 → x.loss = .alive → (b.beam (beamNo l m)).want = none →
        Completes (.bypass role l m v) s (fun t => (t.blk.beam (beamNo l m)).want = some v ∧
          (t.blk.beam (beamNo l m)).mask = (b.beam (beamNo l m)).mask ∧ t.blk.cmds.reply.status = .accepted ∧
          t.blk.mem = b.mem ∧ ∀ j, j ≠ beamNo l m → t.blk.beam j = b.beam j)) ∧
      ((∀ m, m < 16 → (b.beam (beamNo l m)).want = none) → exec (.bypassApplied l) s = .next s) ∧
      (b.quiet l = false → exec (.bypassApplied l) s = .next s) ∧
      (∀ m v, m < 16 → b.quiet l = true → x.loss = .alive → (b.beam (beamNo l m)).want = some v →
        (∀ j, j < 16 → j ≠ m → (b.beam (beamNo l j)).want = none) → b.cfg 0x20000042 1 ≠ 1 → Completes (.bypassApplied l) s (fun t =>
          (t.blk.beam (beamNo l m)).mask = v ∧ (t.blk.beam (beamNo l m)).want = none ∧
          (512 - popBelow v 512 < 448 → (t.blk.beam (beamNo l m)).host ≠ none) ∧ (t.blk.lantern l).lens = [])))

/-- A DDR5 channel goes out and comes back: where TAKE_OUT and BRING_IN are refused, what each step leaves, and what a replacement DIMM
that fails a check leaves (R322, R352, R440). The ageing-margin mode: what MEASURE, REPLAN and RESET_GUARD leave, that an import that
verifies puts the fitted model in force, and that a guard the mode has applied is not lowered by a re-plan (R442, R443). Completes, with
the effect that its rule gives it: TAKE_OUT, CHANNEL_EVACUATED, BRING_IN, CHANNEL_TRAINED, CHANNEL_RETURNED, MEASURE, REPLAN, RESET_GUARD,
AGEING_IMPORT, AGEING_MODE_WRITE. -/
def Obligations.ChannelsAndAgeing : Prop :=
  (∀ (s : State) (role : Role),
      let b := s.blk
      (Admits b role .service 0x31 →
        (∀ c, 16 ≤ c → exec (.takeOut role c) s = .next (s.withBlk (b.refuse .outOfRange)) ∧
          exec (.bringIn role c) s = .next (s.withBlk (b.refuse .outOfRange))) ∧
        (∀ c e, c < 16 → b.takeOutStart (256 + c) = .error e → exec (.takeOut role c) s = .next (s.withBlk (b.refuse e))) ∧
        (∀ c, c < 16 → ((b.channel (256 + c)).svc ≠ .inUse ∨ (b.channel (partner (256 + c))).svc ≠ .inUse) →
          b.takeOutStart (256 + c) = .error .badState) ∧
        (∀ c d, c < 16 → b.takeOutStart (256 + c) = .ok d → Completes (.takeOut role c) s (fun t =>
          (t.blk.channel (256 + c)).cmd = some (d.cmds.count + 1, objBulk) ∧ (t.blk.channel (256 + c)).svc = (d.channel (256 + c)).svc ∧
          t.blk.cmds.reply.status = .accepted ∧ t.blk.mem = d.mem)) ∧
        (∀ c, c < 16 → (b.channel (256 + c)).svc ≠ .out → exec (.bringIn role c) s = .next (s.withBlk (b.refuse .badState))) ∧
        (∀ c, c < 16 → (b.channel (256 + c)).svc = .out → Completes (.bringIn role c) s (fun t =>
          (t.blk.channel (256 + c)).svc = .training ∧ (t.blk.channel (256 + c)).cmd = some (b.cmds.count + 1, objBulk) ∧
          t.blk.cmds.reply.status = .accepted ∧ t.blk.mem = b.mem ∧ t.blk.lines = b.lines))) ∧
      (∀ c, c < 16 → (b.channel (256 + c)).svc = .evacuating → b.bulkUsed (chanDomain (256 + c)) ≤ b.singleFrames - 64 →
        Completes (.channelEvacuated c) s (fun t =>
          (t.blk.channel (256 + c)).svc = (if (b.channel (256 + c)).repair then .training else .out) ∧
          (t.blk.channel (256 + c)).st = .offline ∧ t.blk.alert 11 = true ∧ t.blk.mem = b.mem)) ∧
      (∀ c, c < 16 → (b.channel (256 + c)).svc ≠ .evacuating → exec (.channelEvacuated c) s = .next s) ∧
      (∀ c, c < 16 → (b.channel (256 + c)).svc = .training →
        (∀ x : DimmTrain, x.gib = b.dimmGiB → x.approved = true → x.trained = true → Completes (.channelTrained c x) s (fun t =>
          (t.blk.channel (256 + c)).svc = .returning ∧ (t.blk.channel (256 + c)).st = .up ∧
          tfind t.blk.tray.dimmIds c = some x.identity ∧ t.blk.mem = b.mem ∧ t.blk.events = b.events)) ∧
        (∀ x : DimmTrain, (x.gib ≠ b.dimmGiB ∨ x.approved = false ∨ x.trained = false) → Completes (.channelTrained c x) s (fun t =>
          (t.blk.channel (256 + c)).svc = .out ∧ (t.blk.channel (256 + c)).st = (b.channel (256 + c)).st ∧
          tfind t.blk.tray.dimmIds c = some x.identity ∧ t.blk.mem = b.mem))) ∧
      (∀ c x, c < 16 → (b.channel (256 + c)).svc ≠ .training → exec (.channelTrained c x) s = .next s) ∧
      (∀ c, c < 16 → (b.channel (256 + c)).svc = .returning → Completes (.channelReturned c) s (fun t =>
        (t.blk.channel (256 + c)).svc = .inUse ∧ (t.blk.channel (256 + c)).repair = false ∧
        ((∀ i, i < 16 → (b.channel (256 + i)).st = .up) → t.blk.alert 11 = false) ∧ t.blk.mem = b.mem)) ∧
      (∀ c, c < 16 → (b.channel (256 + c)).svc ≠ .returning → exec (.channelReturned c) s = .next s)) ∧
  (∀ (s : State) (role : Role),
      let b := s.blk
      (Admits b role .service 0x10 →
        (∀ l, 64 ≤ l → (∀ x, exec (.measure role l x) s = .next (s.withBlk (b.refuse .outOfRange))) ∧
          exec (.replan role l) s = .next (s.withBlk (b.refuse .outOfRange))) ∧
        (∀ l x, l < 64 → (b.lantern l).loss ≠ .alive → exec (.measure role l x) s = .next (s.withBlk (b.refuse .badState))) ∧
        (∀ l x, l < 64 → (b.lantern l).loss = .alive → (b.lantern l).measureWaits ≠ none →
          exec (.measure role l x) s = .next (s.withBlk (b.refuse .busy))) ∧
        (∀ l x, l < 64 → (b.lantern l).loss = .alive → (b.lantern l).measureWaits = none →
          (b.quiet l = false → Completes (.measure role l x) s (fun t =>
            (t.blk.lantern l).measureWaits = some (x, b.cmds.count + 1) ∧ t.blk.power = b.power ∧ t.blk.cmds.reply.status = .accepted ∧
            t.blk.mem = b.mem ∧ t.blk.hws = b.hws ∧ ∀ j, j ≠ l → t.blk.lantern j = b.lantern j)) ∧
          (b.quiet l = true → (b.lantern l).promoteTo = none → (b.lantern l).relightWaits = false → b.silent.retireBeams = [] →
            Completes (.measure role l x) s (fun t => Machine.tget 0 t.blk.power.slowdown (b.siteOf l) = x ∧
              (t.blk.lantern l).measureWaits = none ∧ t.blk.cmds.reply.status = .accepted ∧ t.blk.mem = b.mem ∧ t.blk.hws = b.hws))) ∧
        (∀ l, l < 64 → b.cfg 0x10000050 0 ≠ 1 → exec (.replan role l) s = .next (s.withBlk (b.refuse .badState))) ∧
        (∀ l, l < 64 → b.cfg 0x10000050 0 = 1 → exec (.replan role l) s = .next (s.withBlk ((b.replan l).done objAgeing 0))) ∧
        (∀ cs, exec (.ageingImport role false cs) s = .next (s.withBlk (b.refuse .badSignature))) ∧
        (∀ cs, Completes (.ageingImport role true cs) s (fun t => t.blk.power.model = fitAgeing cs ∧ t.blk.cmds.reply.status = .ok ∧
          t.blk.mem = b.mem ∧ t.blk.hws = b.hws))) ∧
      (Admits b role .vendor 0x10 →
        (∀ l, 64 ≤ l → exec (.resetGuard role l) s = .next (s.withBlk (b.refuse .outOfRange))) ∧
        (∀ l, l < 64 → b.quiet l = true → Completes (.resetGuard role l) s (fun t =>
          Machine.tget 25 t.blk.power.guard (b.siteOf l) = (if b.cfg 0x10000050 0 = 1 then min 40 (b.plannedGuard (b.siteOf l)) else 25) ∧
          t.blk.cmds.reply.status = .ok ∧ t.blk.mem = b.mem))) ∧
      (Admits b role .operator 0x70 → ∀ on, (b.tray.sf0Failed = false ∨ b.tray.sf1Failed = false) →
        Completes (.ageingModeWrite role on) s (fun t => t.blk.cfg 0x10000050 0 = (if on then 1 else 0) ∧ t.blk.cmds.reply.status = .ok ∧
          t.blk.mem = b.mem ∧ t.blk.hws = b.hws)) ∧
      (∀ l, l < 64 → b.quiet l = true → tfind b.power.guardNext (b.siteOf l) = none →
        Machine.tget 0 b.power.guard (b.siteOf l) ≤ Machine.tget 0 (b.replan l).power.guard (b.siteOf l)))

/-! ### Security and guest dies -/

/-- SPDM answers with the response code of R452 or ERROR, a debug token opens its scope once, and only with every field right (R450, R452,
R453). The commands of a guest site: DENIED below the service role, NOT_FITTED where no guest die is fitted; HOLD, RELEASE and ATTEST; a
guest die that draws too much, or is lost, is held (R5, R404, R455, R456, R458, R460). Completes, with the effect that its rule gives it:
SPDM_EXCHANGE, DEBUG_AUTHORISE, HOLD, GUEST_RELEASE, ATTEST, GUEST_POWER_SAMPLE, GUEST_LOST. -/
def Obligations.SpdmDebugGuests : Prop :=
  (∀ (s : State) (role : Role),
      let b := s.blk
      (Admits b role .observer 0x78 → ∀ code ver algs, Completes (.spdmExchange role code ver algs) s (fun t =>
        t.blk.security.spdm = (spdmAnswer code ver algs).1 ∧ t.blk.cmds.reply.status = .ok ∧
        t.blk.cmds.reply.ret = (spdmAnswer code ver algs).1 ∧ t.blk.mem = b.mem ∧ t.blk.events = b.events ∧
        t.blk.security.scope = b.security.scope)) ∧
      (∀ code ver algs, code ≠ 0x84 → ver ≠ 0x13 → spdmAnswer code ver algs = (0x7F, 0x41)) ∧
      (∀ ver algs, spdmAnswer 0x84 ver algs = (0x04, 0)) ∧
      (spdmAnswer 0xE3 0x13 false = (0x7F, 0x07)) ∧
      (Admits b role .vendor 0x78 → ∀ tok : Token,
        (tok.reservedZero = false → exec (.debugAuthorise role tok) s = .next (s.withBlk (b.refuse .rsvNonzero))) ∧
        (tok.reservedZero = true → (tok.levelOk = false ∨ tok.deviceOk = false ∨ tok.sigOk = false ∨
            tok.nonce ≠ Config.debugNonce b.security.nonces ∨ tok.startLimit < b.start.count % 2 ^ 32) →
          exec (.debugAuthorise role tok) s = .next (s.withBlk (b.refuse .badSignature))) ∧
        (tok.reservedZero = true → tok.levelOk = true → tok.deviceOk = true → tok.sigOk = true →
          tok.nonce = Config.debugNonce b.security.nonces → b.start.count % 2 ^ 32 ≤ tok.startLimit →
          Completes (.debugAuthorise role tok) s (fun t => t.blk.security.scope = tok.scope ∧
            t.blk.security.nonces = b.security.nonces + 1 ∧ t.blk.cmds.reply.status = .ok ∧ t.blk.mem = b.mem ∧ t.blk.hws = b.hws)))) ∧
  (∀ (s : State) (role : Role) (g : Nat), g < 2 →
      let b := s.blk
      let x := b.guest g
      (roleRank role < roleRank .service → exec (.hold role g) s = .next (s.withBlk (b.refuse .denied)) ∧
        (∀ p, exec (.guestRelease role g p) s = .next (s.withBlk (b.refuse .denied)) ∧
          exec (.attest role g p) s = .next (s.withBlk (b.refuse .denied)))) ∧
      (roleRank .service ≤ roleRank role → b.tray.part ≠ .g4t → exec (.hold role g) s = .next (s.withBlk (b.refuse .notFitted)) ∧
        ∀ i w, exec (.guestWindowsWrite role g i w) s = .next (s.withBlk (b.refuse .notFitted))) ∧
      (b.tray.part = .g4t → Admits b role .service 0x7C →
        (x.st = .empty → exec (.hold role g) s = .next (s.withBlk (b.refuse .badState))) ∧
        (x.st ≠ .empty → Completes (.hold role g) s (fun t => (t.blk.guest g).st = .held ∧ (t.blk.guest g).windows = x.windows ∧
          t.blk.cmds.reply.status = .ok ∧ t.blk.mem = b.mem ∧ ∀ j, j ≠ g → t.blk.guest j = b.guest j)) ∧
        (x.st ≠ .held → ∀ p, exec (.guestRelease role g p) s = .next (s.withBlk (b.refuse .badState))) ∧
        (x.st = .held →
          (∀ a : Admission, a.fail = none → Completes (.guestRelease role g a) s (fun t => (t.blk.guest g).st = (if 2 ≤ b.power.dim then .suspended else .running) ∧
            (t.blk.guest g).windows = [] ∧ t.blk.cmds.reply.status = .accepted ∧ t.blk.mem = b.mem ∧
            t.blk.security.measured = b.security.measured ++ [(13 + g, a.digest)])) ∧
          (∀ a : Admission, a.fail ≠ none → Completes (.guestRelease role g a) s (fun t => (t.blk.guest g).st = .held ∧
            (t.blk.guest g).windows = [] ∧ t.blk.mem = b.mem ∧ t.blk.security = b.security))) ∧
        (x.live = false → ∀ p, exec (.attest role g p) s = .next (s.withBlk (b.refuse .badState))) ∧
        (x.live = true →
          (∀ a : Admission, a.fail = none → Completes (.attest role g a) s (fun t => (t.blk.guest g).st = (if 2 ≤ b.power.dim then .suspended else .running) ∧
            (t.blk.guest g).windows = x.windows ∧ t.blk.mem = b.mem)) ∧
          (∀ a : Admission, a.fail ≠ none → Completes (.attest role g a) s (fun t => (t.blk.guest g).st = .held ∧ t.blk.mem = b.mem)))) ∧
      (x.live = false → (∀ m a y z, exec (.guestPowerSample g m a y z) s = .next s) ∧ exec (.guestLost g) s = .next s) ∧
      (x.live = true →
        (∀ m a y, a ≤ 75000 → Completes (.guestPowerSample g m a y false) s (fun t => (t.blk.guest g).power = a ∧
          (t.blk.guest g).throttled = false ∧ (t.blk.guest g).st = x.st ∧ t.blk.mem = b.mem ∧ t.blk.events = b.events)) ∧
        (∀ m a, 75000 < a → Completes (.guestPowerSample g m a false false) s (fun t => (t.blk.guest g).throttled = true ∧
          (t.blk.guest g).st = x.st ∧ t.blk.mem = b.mem)) ∧
        (∀ m a y, Completes (.guestPowerSample g m a y true) s (fun t => (t.blk.guest g).st = .held ∧ t.blk.mem = b.mem)) ∧
        Completes (.guestLost g) s (fun t => (t.blk.guest g).st = .held ∧ (t.blk.guest g).windows = [] ∧ t.blk.mem = b.mem ∧
          t.blk.lines = b.lines)))

/-- The die firewall: what a window must be to open, and that an access passes only through an open window with the permission; one that
no window lets pass reads and writes nothing and is counted (R245, R457, R459). Completes, with the effect that its rule gives it:
GUEST_WINDOWS_WRITE, GUEST_READ, GUEST_WRITE. -/
def Obligations.Firewall : Prop :=
  ∀ (s : State) (g : Nat), g < 2 →
    let b := s.blk
    let x := b.guest g
    (∀ role i (w : GuestWin), b.tray.part = .g4t → Admits b role .service 0x7C →
      (w.rsvZero = false → exec (.guestWindowsWrite role g i w) s = .next (s.withBlk (b.refuse .rsvNonzero))) ∧
      (w.rsvZero = true → (16 ≤ i ∨ 256 ≤ w.ctx) → exec (.guestWindowsWrite role g i w) s = .next (s.withBlk (b.refuse .outOfRange))) ∧
      (w.rsvZero = true → i < 16 → w.ctx < 256 → w.v = true → w.inField = true → w.w = true → w.r = false →
        exec (.guestWindowsWrite role g i w) s = .next (s.withBlk (b.refuse .badRange))) ∧
      (w.rsvZero = true → i < 16 → w.ctx < 256 → (w.v = false ∨ (w.inField = true ∧ b.winOk g i w = true)) →
        Completes (.guestWindowsWrite role g i w) s (fun t => tfind (t.blk.guest g).windows i = some w ∧
          t.blk.cmds.reply.status = .ok ∧ t.blk.mem = b.mem ∧ (t.blk.guest g).st = x.st ∧
          ∀ j, j ≠ g → t.blk.guest j = b.guest j))) ∧
    (∀ a wr v, b.window g a wr = some v → v.v = true ∧ (if wr then v.w else v.r) = true ∧ v.gbase ≤ a ∧ a < v.gbase + v.length) ∧
    (∀ a m d p, (x.st ≠ .running ∨ a % 64 ≠ 0 ∨ 2 ^ 48 ≤ a) → exec (.guestRead g a) s = .next s ∧
      exec (.guestWrite g a m d p) s = .next s) ∧
    (∀ a, x.st = .running → a % 64 = 0 → a < 2 ^ 48 →
      (b.window g a false = none → exec (.guestRead g a) s = .next (s.withBlk (b.denyGuest g a))) ∧
      (∀ m d p, b.window g a true = none → exec (.guestWrite g a m d p) s = .next (s.withBlk (b.denyGuest g a))) ∧
      (∀ v da, b.window g a false = some v → b.dom (v.paBase + (a - v.gbase)) = some da →
        (∀ ln, v.signal = false → b.under (da / 64) = .ok (ln, false) → exec (.guestRead g a) s = .next (s.withBlk
          (b.updGuest g (fun y => { y with answer := some ln })))) ∧
        (∀ n, v.signal = true → b.readAt (v.paBase + (a - v.gbase)) 64 = .ok n → exec (.guestRead g a) s = .next (s.withBlk
          (b.updGuest g (fun y => { y with answer := some (BitVec.ofNat 512 n) })))) ∧
        (∀ ln, v.signal = false → b.under (da / 64) = .ok (ln, true) → Completes (.guestRead g a) s (fun t =>
          (t.blk.guest g).answer = none ∧ t.blk.mem = b.mem ∧ t.blk.lines = b.lines))) ∧
      (∀ v da m d p c, b.window g a true = some v → b.dom (v.paBase + (a - v.gbase)) = some da →
        (v.signal = true → b.write (da / 64) m d p = .ok c → exec (.guestWrite g a m d p) s = .next (s.withBlk
          (c.updGuest g (fun y => { y with answer := some d })))) ∧
        (v.signal = false → b.putUnder (da / 64) m d p = .ok c → exec (.guestWrite g a m d p) s = .next (s.withBlk
          (c.updGuest g (fun y => { y with answer := some d })))))) ∧
    (∀ a, x.denialsNow + 1 < 1000 → ((b.denyGuest g a).guest g).denials = x.denials + 1 ∧ ((b.denyGuest g a).guest g).answer = none ∧
      ((b.denyGuest g a).guest g).st = x.st ∧ (b.denyGuest g a).mem = b.mem ∧ (b.denyGuest g a).lines = b.lines) ∧
    (∀ a, 1000 ≤ x.denialsNow + 1 → ((b.denyGuest g a).guest g).st = .held ∧ ((b.denyGuest g a).guest g).windows = [] ∧
      (b.denyGuest g a).mem = b.mem ∧ (b.denyGuest g a).lines = b.lines)

/-! ### Sessions, objects and the configuration store -/

/-- SESSION_INIT, SESSION_CONFIRM, SESSION_CLOSE and SESSION_TIMEOUT: what each leaves and where it does nothing (R321, R353, R356). READ
and WRITE: a bad message, a replayed one and one of an unknown session do nothing but be counted, a repeated request gets its kept reply
and is not run again; SUBSCRIBE puts its filter in force (R354, R357, R358, R360). Completes, with the effect that its rule gives it:
SESSION_INIT, SESSION_CONFIRM, SESSION_CLOSE, SESSION_TIMEOUT, READ, WRITE, SUBSCRIBE. -/
def Obligations.Sessions : Prop :=
  (∀ (s : State),
      let b := s.blk
      (b.start.level = .dark → ∀ p sl mc body role, exec (.sessionInit p sl mc body role) s = .next s) ∧
      (b.start.level ≠ .dark → b.tray.busTx = true → b.tray.noBeacon = false → ∀ sl role, ∀ body : InitBody,
        (1280 < body.bytes → Completes (.sessionInit none sl false body role) s (fun t =>
          t.blk.sessions = b.sessions ∧ t.blk.cmds.reply.status = .tooLarge)) ∧
        (body.bytes ≤ 1280 → (∀ i, (List.range 8).find? (fun k => !thas b.sessions k) = some i →
          (body.chainOk = true → Completes (.sessionInit none sl false body role) s (fun t =>
            tfind t.blk.sessions i = some { number := b.security.nextSession, role := role } ∧
            t.blk.security.nextSession = (b.security.nextSession + 1) % 2 ^ 32 ∧ t.blk.cmds.reply.status = .ok ∧
            (∀ j, j ≠ i → tfind t.blk.sessions j = tfind b.sessions j) ∧ t.blk.mem = b.mem)) ∧
          (body.chainOk = false → Completes (.sessionInit none sl false body role) s (fun t =>
            t.blk.sessions = b.sessions ∧ t.blk.cmds.reply.status = .badSignature))) ∧
        ((∀ i, i < 8 → thas b.sessions i = true) → Completes (.sessionInit none sl false body role) s (fun t =>
          t.blk.sessions = b.sessions ∧ t.blk.cmds.reply.status = .busy)))) ∧
      (∀ sl body role, (b.tray.busTx = false ∨ (sl ≠ 0xFF ∧ b.tray.slotId ≠ some sl)) →
        exec (.sessionInit none sl true body role) s = .next s) ∧
      (∀ m sl mc role, ∀ body : InitBody, body.chainOk = true → body.bytes ≤ 1280 → b.start.level ≠ .dark → m < 4 →
        (b.mailbox m).busy = true → thas b.sessions (8 + m) = false →
        Completes (.sessionInit (some m) sl mc body role) s (fun t =>
          tfind t.blk.sessions (8 + m) = some { number := b.security.nextSession, role := role } ∧
          (t.blk.mailbox m).busy = false ∧ (t.blk.mailbox m).replyReady = true ∧ t.blk.mem = b.mem)) ∧
      (∀ n, b.sessionAt n = none → (∀ ok, exec (.sessionConfirm n ok) s = .next (s.withBlk b.dropMsg)) ∧
        exec (.sessionClose n) s = .next s ∧ exec (.sessionTimeout n) s = .next s) ∧
      (∀ n i x, b.sessionAt n = some (i, x) →
        ((i < 8 ∨ (b.mailbox (i - 8)).busy = true) → x.opened = false →
          Completes (.sessionConfirm n true) s (fun t =>
            tfind t.blk.sessions i = some { x with opened := true, sent := if b.muted i then x.sent else x.sent + 1 } ∧
            t.blk.cmds.reply.status = .ok ∧ t.blk.mem = b.mem) ∧
          Completes (.sessionConfirm n false) s (fun t => t.blk.sessions = b.sessions ∧ t.blk.cmds.reply.status = .badSignature)) ∧
        (x.opened = true → ∀ ok, exec (.sessionConfirm n ok) s = .next s) ∧
        (8 ≤ i → (b.mailbox (i - 8)).busy = false → (∀ ok, exec (.sessionConfirm n ok) s = .next s) ∧
          exec (.sessionClose n) s = .next (s.withBlk { b with sessions := tdel b.sessions i })) ∧
        ((i < 8 ∨ (b.mailbox (i - 8)).busy = true) → Completes (.sessionClose n) s (fun t => t.blk.sessions = tdel b.sessions i ∧ t.blk.cmds.reply.status = .ok ∧
          t.blk.mem = b.mem)) ∧
        exec (.sessionTimeout n) s = .next (s.withBlk { b with sessions := tdel b.sessions i }))) ∧
  (∀ (s : State) (n : Nat) (m : Msg) (obj off len : Nat) (v : List Byte) (from_ sev : Nat) (areas : List Nat),
      let b := s.blk
      (m.version ≠ 1 → exec (.read n m obj off len) s = .next s ∧ exec (.write n m obj off v) s = .next s) ∧
      (m.version = 1 → (b.sessionAt n = none → exec (.read n m obj off len) s = .next (s.withBlk b.dropMsg) ∧
        exec (.write n m obj off v) s = .next (s.withBlk b.dropMsg)) ∧
      (∀ i x, b.sessionAt n = some (i, x) → (i < 8 ∨ (b.mailbox (i - 8)).busy = true) →
        (m.wellFormed = false ∨ x.opened = false ∨ m.counter ≤ x.counter) →
        exec (.read n m obj off len) s = .next (s.withBlk b.dropMsg) ∧ exec (.write n m obj off v) s = .next (s.withBlk b.dropMsg)) ∧
      (∀ i x, b.sessionAt n = some (i, x) → 8 ≤ i → (b.mailbox (i - 8)).busy = false → exec (.read n m obj off len) s = .next s ∧
        exec (.write n m obj off v) s = .next s) ∧
      (b.dropMsg.security.authFailures = b.security.authFailures + 1 ∧ b.dropMsg.sessions = b.sessions ∧ b.dropMsg.cmds = b.cmds ∧
        b.dropMsg.store = b.store ∧ b.dropMsg.mem = b.mem) ∧
      (∀ i x k, b.sessionAt n = some (i, x) → (i < 8 ∨ (b.mailbox (i - 8)).busy = true) →
        m.wellFormed = true → x.opened = true → x.counter < m.counter →
        x.kept.find? (fun k => k.1 == m.request) = some k →
        Completes (.write n m obj off v) s (fun t => t.blk.cmds.reply = { status := k.2.1, body := k.2.2 } ∧
          tfind t.blk.sessions i = some { x with
            counter := m.counter, enc := m.enc, sent := if b.muted i then x.sent else x.sent + 1 } ∧
          t.blk.store = b.store ∧ t.blk.mem = b.mem) ∧
        Completes (.read n m obj off len) s (fun t => t.blk.cmds.reply = { status := k.2.1, body := k.2.2 } ∧
          t.blk.store = b.store ∧ t.blk.mem = b.mem)) ∧
      (∀ i x, b.sessionAt n = some (i, x) → (i < 8 ∨ (b.mailbox (i - 8)).busy = true) →
        m.wellFormed = true → x.opened = true → x.counter < m.counter →
        x.kept.find? (fun k => k.1 == m.request) = none →
        (b.cfg 0x78000052 0 = 1 → m.enc = false → Completes (.read n m obj off len) s (fun t =>
          t.blk.cmds.reply.status = .denied ∧ t.blk.store = b.store ∧ t.blk.mem = b.mem)) ∧
        (b.cfg 0x78000052 0 ≠ 1 ∨ m.enc = true →
          Completes (.subscribe n m sev from_ areas) s (fun t => t.blk.cmds.reply.status = .ok ∧ t.blk.mem = b.mem ∧
            (∃ y, tfind t.blk.sessions i = some y ∧ y.minsev = sev ∧ y.areas = areas ∧ y.counter = m.counter))))))

/-- READ and WRITE: the checks in the order of R350, the bytes that a READ answers, and what an accepted WRITE of a persistent object
leaves (R347, R350, R355, R366, R367). Completes, with the effect that its rule gives it: READ, WRITE. -/
def Obligations.ReadAndWrite : Prop :=
  ∀ (s : State) (n : Nat) (m : Msg) (i : Nat) (x : Session), let b := s.blk; m.version = 1 → b.sessionAt n = some (i, x) →
    (i < 8 ∨ (b.mailbox (i - 8)).busy = true) → m.wellFormed = true → x.opened = true → x.counter < m.counter →
    x.kept.find? (fun k => k.1 == m.request) = none → (b.cfg 0x78000052 0 ≠ 1 ∨ m.enc = true) →
    (∀ obj off len, objAt obj = none → Completes (.read n m obj off len) s (fun t => t.blk.cmds.reply.status = .notFound)) ∧
    (∀ obj off len o, objAt obj = some o →
      (roleRank x.role < o.readRole → Completes (.read n m obj off len) s (fun t => t.blk.cmds.reply.status = .denied)) ∧
      (o.readRole ≤ roleRank x.role → b.answers o = false →
        Completes (.read n m obj off len) s (fun t => t.blk.cmds.reply.status = .notNow)) ∧
      (o.readRole ≤ roleRank x.role → b.answers o = true → 1280 < len →
        Completes (.read n m obj off len) s (fun t => t.blk.cmds.reply.status = .tooLarge)) ∧
      (o.readRole ≤ roleRank x.role → b.answers o = true → 0 < len → len ≤ 1276 → off = 0 →
        Completes (.read n m obj off len) s (fun t => t.blk.cmds.reply.status = .ok ∧ t.blk.cmds.reply.body.length ≤ 1280 ∧
          t.blk.mem = b.mem ∧ t.blk.store = b.store ∧ t.blk.hws = b.hws))) ∧
    (m.more = false → x.staged = none → ∀ obj (v : List Byte),
      (objAt obj = none → Completes (.write n m obj 0 v) s (fun t => t.blk.cmds.reply.status = .notFound ∧ t.blk.store = b.store)) ∧
      (∀ o, objAt obj = some o →
        ((o.acc = 0 ∨ o.acc = 4) → Completes (.write n m obj 0 v) s (fun t =>
          t.blk.cmds.reply.status = .notWritable ∧ t.blk.store = b.store)) ∧
        (o.acc ≠ 0 → o.acc ≠ 4 → roleRank x.role < o.role → Completes (.write n m obj 0 v) s (fun t =>
          t.blk.cmds.reply.status = .denied ∧ t.blk.store = b.store)) ∧
        (o.acc ≠ 0 → o.acc ≠ 4 → o.role ≤ roleRank x.role → o.area ≠ 0x7C → b.answers o = true → o.typeOk v = false →
          Completes (.write n m obj 0 v) s (fun t => t.blk.cmds.reply.status = .badType ∧ t.blk.store = b.store)) ∧
        (o.acc ≠ 0 → o.acc ≠ 4 → o.role ≤ roleRank x.role → o.area ≠ 0x7C → b.answers o = true → o.typeOk v = true →
          o.rangeOk v = false → Completes (.write n m obj 0 v) s (fun t => t.blk.cmds.reply.status = .outOfRange ∧
            t.blk.store = b.store)))) ∧
    (m.more = false → x.staged = none → ∀ v : List Byte, b.start.level ≠ .dark → roleRank .operator ≤ roleRank x.role →
      v.length = 2 → 1 ≤ leNat v → leNat v ≤ 1000 → b.tray.sf0Failed = false →
      Completes (.write n m 0x02000043 0 v) s (fun t => t.blk.cmds.reply.status = .ok ∧
        tfind t.blk.store.inForce 0x02000043 = some v ∧ tfind t.blk.store.persist 0x02000043 = some v ∧
        t.blk.cmds.reply.body = leBytes 8 b.store.nextSeq ∧ t.blk.store.dirty = true ∧ t.blk.mem = b.mem)) ∧
    (∀ obj off v, off ≠ 0 → x.staged = none → Completes (.write n m obj off v) s (fun t =>
      t.blk.cmds.reply.status = .badType ∧ t.blk.store = b.store)) ∧
    (∀ obj v, m.more = true → x.staged = none → Completes (.write n m obj 0 v) s (fun t =>
      t.blk.cmds.reply.status = .ok ∧ t.blk.store = b.store ∧
        ∃ y, tfind t.blk.sessions i = some y ∧ y.staged = some (obj, v)))

/-- The configuration store, the repair map and the alert causes: a record goes to the older copy and its slot, a slot that is being
erased waits, an image or a reset goes to both copies and takes effect at the next start (R352, R366, R367, R368, R369). Completes, with
the effect that its rule gives it: STORE_WRITE, SLOT_ERASE_DONE, STORE_IMAGE, STORE_RESET, REPAIR_MAP_IMAGE, ALERT_ACKNOWLEDGE. -/
def Obligations.StoreAndAlerts : Prop :=
  ∀ (s : State) (role : Role),
    let b := s.blk
    let k := b.store.older
    (b.store.dirty = false → ∀ rs, exec (.storeWrite rs) s = .next s) ∧
    (b.start.level ≠ .dark → b.store.dirty = true → b.tray.sf0Failed = false → b.tray.sf1Failed = false →
      ((b.store.copy k).erasing = true → ∀ rs, exec (.storeWrite rs) s = .next s) ∧
      ((b.store.copy k).erasing = false → ∀ rs, Completes (.storeWrite (true :: rs)) s (fun t =>
        t.blk.store.copy k = (b.store.copy k).program b.store.nextSeq (storeValues b.store.persist) true ∧
        t.blk.store.copy (1 - k) = b.store.copy (1 - k) ∧ t.blk.store.seq = b.store.nextSeq ∧ t.blk.store.dirty = false ∧
        t.blk.store.writes = b.store.writes + 1 ∧ t.blk.mem = b.mem ∧ t.blk.store.inForce = b.store.inForce)) ∧
      ((b.store.copy k).erasing = false → Completes (.storeWrite [false, false, false]) s (fun t =>
        t.blk.devFailed k = true ∧ t.blk.store.dirty = true ∧ t.blk.alert 3 = true))) ∧
    (∀ d, d < 2 → (b.store.copy d).erasing = true → Completes (.slotEraseDone d) s (fun t =>
      (t.blk.store.copy d).erasing = false ∧ tfind (t.blk.store.copy d).slots (b.store.copy d).target = none ∧
      t.blk.store.copy (1 - d) = b.store.copy (1 - d) ∧ t.blk.mem = b.mem)) ∧
    (∀ d, (2 ≤ d ∨ (b.store.copy d).erasing = false) → exec (.slotEraseDone d) s = .next s) ∧
    (Admits b role .service 0x70 →
      (∀ q es, exec (.storeImage role false q es) s = .next (s.withBlk (b.refuse .badSignature))) ∧
      (b.tray.sf0Failed = false → b.tray.sf1Failed = false →
        (∀ q es, Completes (.storeImage role true q es) s (fun t =>
          t.blk.store.persist = es.foldl (fun (t : Tab (List Byte)) e => tput t e.1 e.2) [] ∧ t.blk.store.inForce = b.store.inForce ∧
          t.blk.store.seq = max q b.store.nextSeq ∧ t.blk.cmds.reply.status = .ok ∧ t.blk.mem = b.mem)) ∧
        Completes (.storeReset role) s (fun t =>
          t.blk.store.persist = b.store.persist.filter (fun e => match objAt e.1 with | some o => o.role == 3 | none => false) ∧
          t.blk.store.inForce = b.store.inForce ∧ t.blk.cmds.reply.status = .ok ∧ t.blk.mem = b.mem)) ∧
      (b.tray.sf0Failed = true → b.tray.sf1Failed = true → Completes (.storeReset role) s (fun t =>
        t.blk.store = b.store ∧ t.blk.cmds.reply.status = .persistFailed)) ∧
      (∀ sg bd mp, exec (.repairMapImage role sg bd false mp) s = .next (s.withBlk (b.refuse .rsvNonzero))) ∧
      (∀ sg bd mp, (sg = false ∨ bd = false) →
        exec (.repairMapImage role sg bd true mp) s = .next (s.withBlk (b.refuse .badSignature))) ∧
      (∀ mp, b.tray.sf0Failed = false → Completes (.repairMapImage role true true true mp) s (fun t =>
        t.blk.store.mapNext = some mp ∧ t.blk.store.mapSeq = b.store.mapSeq + 1 ∧ t.blk.cmds.reply.status = .ok ∧
        t.blk.lanterns = b.lanterns ∧ t.blk.beams = b.beams ∧ t.blk.mem = b.mem))) ∧
    (Admits b role .operator 0x02 → ∀ m : W32, Completes (.alertAcknowledge role m) s (fun t =>
      (∀ i, 16 ≤ i → i ≤ 18 → t.blk.alert i = (b.alert i && !m.getLsbD i)) ∧ (∀ i, (i < 16 ∨ 18 < i) → t.blk.alert i = b.alert i) ∧
      t.blk.cmds.reply.status = .ok ∧ t.blk.cmds.reply.ret = t.blk.tray.alerts.toNat ∧ t.blk.mem = b.mem))
end

