-- ==== Sys2Proof/Laws/Tables.lean ====
section
/-! SUPPORT. Laws of the sparse tables and of the canonical byte lists: a read after a write, other keys, and the canonical
form that every memory operation keeps. -/

-- One declaration after the other: the proofs of this file all at once would take a thread and its stack each.
set_option Elab.async false

namespace Sys2Proof.Machine

/-! ### Tables -/

@[simp] theorem tget_tput_same {α : Type} (d : α) (t : Tab α) (k : Nat) (v : α) : tget d (tput t k v) k = v := by
  induction t with
  | nil => simp [tput, tget]
  | cons e t ih =>
    obtain ⟨j, w⟩ := e
    unfold tput
    split
    · simp [tget]
    · split
      · simp [tget]
      · simp [tget, *]

theorem tget_tput_ne {α : Type} (d : α) (t : Tab α) (k j : Nat) (v : α) (h : j ≠ k) :
    tget d (tput t k v) j = tget d t j := by
  induction t with
  | nil => simp [tput, tget, Ne.symm h]
  | cons e t ih =>
    obtain ⟨i, w⟩ := e
    unfold tput
    split
    · simp [tget, Ne.symm h]
    · split
      · subst_vars; simp [tget, Ne.symm h]
      · simp [tget, ih]

@[simp] theorem thas_tput_same {α : Type} (t : Tab α) (k : Nat) (v : α) : thas (tput t k v) k = true := by
  induction t with
  | nil => simp [tput, thas]
  | cons e t ih =>
    obtain ⟨j, w⟩ := e
    unfold tput
    split
    · simp [thas]
    · split
      · simp [thas]
      · simp [thas, *]

/-! ### Bytes -/

theorem cellGet_del_ne (m : List Host.Cell) (k j : Nat) (h : j ≠ k) : cellGet (cellDel m k) j = cellGet m j := by
  induction m with
  | nil => rfl
  | cons e t ih =>
    obtain ⟨i, w⟩ := e
    unfold cellDel
    split
    · subst_vars; simp [cellGet, Ne.symm h]
    · split
      · rfl
      · simp [cellGet, ih]

theorem cellGet_ins_same (m : List Host.Cell) (k : Nat) (v : Byte) : cellGet (cellIns m k v) k = v := by
  induction m with
  | nil => simp [cellIns, cellGet]
  | cons e t ih =>
    obtain ⟨i, w⟩ := e
    unfold cellIns
    split
    · simp [cellGet]
    · split
      · simp [cellGet]
      · simp [cellGet, *]

theorem cellGet_ins_ne (m : List Host.Cell) (k j : Nat) (v : Byte) (h : j ≠ k) :
    cellGet (cellIns m k v) j = cellGet m j := by
  induction m with
  | nil => simp [cellIns, cellGet, Ne.symm h]
  | cons e t ih =>
    obtain ⟨i, w⟩ := e
    unfold cellIns
    split
    · simp [cellGet, Ne.symm h]
    · split
      · subst_vars; simp [cellGet, Ne.symm h]
      · simp [cellGet, ih]

/-- A key below every listed key reads 0. -/
theorem cellGet_low (m : List Host.Cell) (k : Nat) (h : ∀ c ∈ m, k < c.1) : cellGet m k = 0 := by
  induction m with
  | nil => rfl
  | cons e t ih =>
    obtain ⟨i, w⟩ := e
    have hi : k < i := h (i, w) (by simp)
    simp [cellGet, Nat.ne_of_gt hi, ih (fun c hc => h c (by simp [hc]))]

theorem cellGet_del_same (m : List Host.Cell) (k : Nat) (h : m.Pairwise (fun a c => a.1 < c.1)) :
    cellGet (cellDel m k) k = 0 := by
  induction m with
  | nil => rfl
  | cons e t ih =>
    obtain ⟨i, w⟩ := e
    have ht := List.pairwise_cons.1 h
    unfold cellDel
    split
    · subst_vars; exact cellGet_low t _ (fun c hc => ht.1 c hc)
    · split
      · rename_i h1 h2
        simp only [cellGet, if_neg h1]
        exact cellGet_low t k (fun c hc => Nat.lt_trans h2 (ht.1 c hc))
      · simp [cellGet, *]

/-- A byte reads as it was last written (R13, R190). -/
theorem cellGet_put_same (m : List Host.Cell) (k : Nat) (v : Byte) (h : Memory.wf m) : cellGet (cellPut m k v) k = v := by
  unfold cellPut
  split
  · subst_vars; exact cellGet_del_same m k h.1
  · exact cellGet_ins_same m k v

/-- A write leaves every other byte alone. -/
theorem cellGet_put_ne (m : List Host.Cell) (k j : Nat) (v : Byte) (h : j ≠ k) :
    cellGet (cellPut m k v) j = cellGet m j := by
  unfold cellPut
  split
  · exact cellGet_del_ne m k j h
  · exact cellGet_ins_ne m k j v h

theorem cellDel_mem (m : List Host.Cell) (k : Nat) (c : Host.Cell) (h : c ∈ cellDel m k) : c ∈ m := by
  induction m with
  | nil => exact h
  | cons e t ih =>
    obtain ⟨i, w⟩ := e
    unfold cellDel at h
    split at h
    · exact List.mem_cons_of_mem _ h
    · split at h
      · exact h
      · rcases List.mem_cons.1 h with h1 | h1
        · simp [h1]
        · exact List.mem_cons_of_mem _ (ih h1)

theorem cellIns_mem (m : List Host.Cell) (k : Nat) (v : Byte) (c : Host.Cell) (h : c ∈ cellIns m k v) :
    c = (k, v) ∨ c ∈ m := by
  induction m with
  | nil => simpa [cellIns] using h
  | cons e t ih =>
    obtain ⟨i, w⟩ := e
    unfold cellIns at h
    split at h
    · rcases List.mem_cons.1 h with h1 | h1
      · exact Or.inl h1
      · exact Or.inr h1
    · split at h
      · rcases List.mem_cons.1 h with h1 | h1
        · exact Or.inl h1
        · exact Or.inr (List.mem_cons_of_mem _ h1)
      · rcases List.mem_cons.1 h with h1 | h1
        · exact Or.inr (by simp [h1])
        · rcases ih h1 with h2 | h2
          · exact Or.inl h2
          · exact Or.inr (List.mem_cons_of_mem _ h2)

theorem cellDel_wf (m : List Host.Cell) (k : Nat) (h : Memory.wf m) : Memory.wf (cellDel m k) := by
  refine ⟨?_, fun c hc => h.2 c (cellDel_mem m k c hc)⟩
  obtain ⟨hp, -⟩ := h
  induction m with
  | nil => exact hp
  | cons e t ih =>
    obtain ⟨i, w⟩ := e
    have ht := List.pairwise_cons.1 hp
    unfold cellDel
    split
    · exact ht.2
    · split
      · exact hp
      · exact List.pairwise_cons.2 ⟨fun c hc => ht.1 c (cellDel_mem t k c hc), ih ht.2⟩

theorem cellIns_wf (m : List Host.Cell) (k : Nat) (v : Byte) (hv : v ≠ 0) (h : Memory.wf m) :
    Memory.wf (cellIns m k v) := by
  refine ⟨?_, fun c hc => ?_⟩
  · obtain ⟨hp, -⟩ := h
    induction m with
    | nil => simp [cellIns]
    | cons e t ih =>
      obtain ⟨i, w⟩ := e
      have ht := List.pairwise_cons.1 hp
      unfold cellIns
      split
      · rename_i hk
        refine List.pairwise_cons.2 ⟨fun c hc => ?_, hp⟩
        rcases List.mem_cons.1 hc with h1 | h1
        · simpa [h1] using hk
        · exact Nat.lt_trans hk (ht.1 c h1)
      · split
        · subst_vars; exact List.pairwise_cons.2 ⟨fun c hc => ht.1 c hc, ht.2⟩
        · rename_i h1 h2
          refine List.pairwise_cons.2 ⟨fun c hc => ?_, ih ht.2⟩
          rcases cellIns_mem t k v c hc with h3 | h3
          · subst h3; show i < k; omega
          · exact ht.1 c h3
  · rcases cellIns_mem m k v c hc with h1 | h1
    · subst h1; exact hv
    · exact h.2 c h1

/-- A write keeps the canonical form. -/
theorem cellPut_wf (m : List Host.Cell) (k : Nat) (v : Byte) (h : Memory.wf m) : Memory.wf (cellPut m k v) := by
  unfold cellPut
  split
  · exact cellDel_wf m k h
  · exact cellIns_wf m k v (by assumption) h

/-- Writes at ascending keys keep the canonical form. -/
theorem cellPuts_wf (m : List Host.Cell) (k : Nat) (vs : List Byte) (h : Memory.wf m) : Memory.wf (cellPuts m k vs) := by
  induction vs generalizing m k with
  | nil => exact h
  | cons v t ih => exact ih _ _ (cellPut_wf m k v h)

/-- Keeping some of the bytes keeps the canonical form. -/
theorem cellFilter_wf (m : List Host.Cell) (p : Host.Cell → Bool) (h : Memory.wf m) : Memory.wf (m.filter p) :=
  ⟨h.1.filter p, fun c hc => h.2 c (List.mem_of_mem_filter hc)⟩

end Sys2Proof.Machine
end

