-- ==== Sys2Proof/Laws/State.lean ====
section
/-! SUPPORT. What each update of the state leaves alone and what it sets: one frame lemma per update, each clause of it a
rewriting rule, and one lemma for the field that it sets. -/

namespace Sys2Proof.Machine

/-! ### The queue and the hardware -/

@[simp] theorem State.run_eq (s : State) (f : Block → Block) : s.run f = .next { s with blk := f s.blk } := rfl
@[simp] theorem State.reset_pending : State.reset.pending = [] := rfl
@[simp] theorem State.reset_blk : State.reset.blk = {} := rfl

/-! ### Updates of one table -/

@[simp] theorem Block.setBerth_berths (b : Block) (k : Nat) (v : Berth) : (b.setBerth k v).berths = tput b.berths k v := rfl
@[simp] theorem Block.setBerth_berth (b : Block) (k : Nat) (v : Berth) : (b.setBerth k v).berth k = v := tget_tput_same _ _ _ _
theorem Block.setBerth_berth_ne (b : Block) (k j : Nat) (v : Berth) (h : j ≠ k) : (b.setBerth k v).berth j = b.berth j :=
  tget_tput_ne _ _ _ _ _ h
@[simp] theorem Block.updBerth_eq (b : Block) (k : Nat) (g : Berth → Berth) : b.updBerth k g = b.setBerth k (g (b.berth k)) := rfl
@[simp] theorem Block.setBerth_frame (b : Block) (k : Nat) (v : Berth) :
    (b.setBerth k v).mem = b.mem ∧ (b.setBerth k v).memPoison = b.memPoison ∧
    (b.setBerth k v).domains = b.domains ∧ (b.setBerth k v).channels = b.channels ∧
    (b.setBerth k v).lines = b.lines ∧ (b.setBerth k v).psets = b.psets ∧ (b.setBerth k v).tiles = b.tiles ∧
    (b.setBerth k v).charts = b.charts ∧ (b.setBerth k v).withdrawals = b.withdrawals ∧
    (b.setBerth k v).nextWithdrawal = b.nextWithdrawal ∧ (b.setBerth k v).contexts = b.contexts ∧
    (b.setBerth k v).queues = b.queues ∧ (b.setBerth k v).requests = b.requests ∧
    (b.setBerth k v).lanterns = b.lanterns ∧ (b.setBerth k v).hws = b.hws ∧ (b.setBerth k v).beams = b.beams ∧
    (b.setBerth k v).sets = b.sets ∧ (b.setBerth k v).xfers = b.xfers ∧ (b.setBerth k v).nextId = b.nextId ∧
    (b.setBerth k v).groups = b.groups ∧ (b.setBerth k v).sinkers = b.sinkers ∧
    (b.setBerth k v).checks = b.checks ∧ (b.setBerth k v).harts = b.harts ∧
    (b.setBerth k v).clusters = b.clusters ∧ (b.setBerth k v).imsic = b.imsic ∧
    (b.setBerth k v).aplicM = b.aplicM ∧ (b.setBerth k v).aplicS = b.aplicS ∧ (b.setBerth k v).ports = b.ports ∧
    (b.setBerth k v).carts = b.carts ∧ (b.setBerth k v).links = b.links ∧ (b.setBerth k v).sensors = b.sensors ∧
    (b.setBerth k v).tray = b.tray ∧ (b.setBerth k v).start = b.start ∧ (b.setBerth k v).events = b.events ∧
    (b.setBerth k v).errors = b.errors ∧ (b.setBerth k v).cmds = b.cmds ∧ (b.setBerth k v).sessions = b.sessions ∧
    (b.setBerth k v).mailboxes = b.mailboxes ∧ (b.setBerth k v).store = b.store ∧
    (b.setBerth k v).power = b.power ∧ (b.setBerth k v).silent = b.silent ∧
    (b.setBerth k v).firmware = b.firmware ∧ (b.setBerth k v).security = b.security ∧
    (b.setBerth k v).guests = b.guests ∧ (b.setBerth k v).picks = b.picks ∧
    (∀ j, (b.setBerth k v).domain j = b.domain j) ∧ (∀ j, (b.setBerth k v).channel j = b.channel j) ∧
    (∀ j, (b.setBerth k v).line j = b.line j) ∧ (∀ j, (b.setBerth k v).pset j = b.pset j) ∧
    (∀ j, (b.setBerth k v).tile j = b.tile j) ∧ (∀ j, (b.setBerth k v).chart j = b.chart j) ∧
    (∀ j, (b.setBerth k v).ctx j = b.ctx j) ∧ (∀ j, (b.setBerth k v).queue j = b.queue j) ∧
    (∀ j, (b.setBerth k v).request j = b.request j) ∧ (∀ j, (b.setBerth k v).lantern j = b.lantern j) ∧
    (∀ j, (b.setBerth k v).hw j = b.hw j) ∧ (∀ j, (b.setBerth k v).beam j = b.beam j) ∧
    (∀ j, (b.setBerth k v).accSet j = b.accSet j) ∧ (∀ j, (b.setBerth k v).group j = b.group j) ∧
    (∀ j, (b.setBerth k v).sinker j = b.sinker j) ∧ (∀ j, (b.setBerth k v).hart j = b.hart j) ∧
    (∀ j, (b.setBerth k v).cluster j = b.cluster j) ∧ (∀ j, (b.setBerth k v).port j = b.port j) ∧
    (∀ j, (b.setBerth k v).cart j = b.cart j) ∧ (∀ j, (b.setBerth k v).link j = b.link j) ∧
    (∀ j, (b.setBerth k v).sensor j = b.sensor j) ∧ (∀ j, (b.setBerth k v).mailbox j = b.mailbox j) ∧
    (∀ j, (b.setBerth k v).fw j = b.fw j) ∧ (∀ j, (b.setBerth k v).guest j = b.guest j) := by
  and_intros <;> first | rfl | (intro _; rfl)

@[simp] theorem Block.setDomain_domains (b : Block) (k : Nat) (v : Domain) : (b.setDomain k v).domains = tput b.domains k v := rfl
@[simp] theorem Block.setDomain_domain (b : Block) (k : Nat) (v : Domain) : (b.setDomain k v).domain k = v := tget_tput_same _ _ _ _
theorem Block.setDomain_domain_ne (b : Block) (k j : Nat) (v : Domain) (h : j ≠ k) : (b.setDomain k v).domain j = b.domain j :=
  tget_tput_ne _ _ _ _ _ h
@[simp] theorem Block.updDomain_eq (b : Block) (k : Nat) (g : Domain → Domain) : b.updDomain k g = b.setDomain k (g (b.domain k)) := rfl
@[simp] theorem Block.setDomain_frame (b : Block) (k : Nat) (v : Domain) :
    (b.setDomain k v).mem = b.mem ∧ (b.setDomain k v).memPoison = b.memPoison ∧
    (b.setDomain k v).berths = b.berths ∧ (b.setDomain k v).channels = b.channels ∧
    (b.setDomain k v).lines = b.lines ∧ (b.setDomain k v).psets = b.psets ∧ (b.setDomain k v).tiles = b.tiles ∧
    (b.setDomain k v).charts = b.charts ∧ (b.setDomain k v).withdrawals = b.withdrawals ∧
    (b.setDomain k v).nextWithdrawal = b.nextWithdrawal ∧ (b.setDomain k v).contexts = b.contexts ∧
    (b.setDomain k v).queues = b.queues ∧ (b.setDomain k v).requests = b.requests ∧
    (b.setDomain k v).lanterns = b.lanterns ∧ (b.setDomain k v).hws = b.hws ∧ (b.setDomain k v).beams = b.beams ∧
    (b.setDomain k v).sets = b.sets ∧ (b.setDomain k v).xfers = b.xfers ∧ (b.setDomain k v).nextId = b.nextId ∧
    (b.setDomain k v).groups = b.groups ∧ (b.setDomain k v).sinkers = b.sinkers ∧
    (b.setDomain k v).checks = b.checks ∧ (b.setDomain k v).harts = b.harts ∧
    (b.setDomain k v).clusters = b.clusters ∧ (b.setDomain k v).imsic = b.imsic ∧
    (b.setDomain k v).aplicM = b.aplicM ∧ (b.setDomain k v).aplicS = b.aplicS ∧ (b.setDomain k v).ports = b.ports ∧
    (b.setDomain k v).carts = b.carts ∧ (b.setDomain k v).links = b.links ∧ (b.setDomain k v).sensors = b.sensors ∧
    (b.setDomain k v).tray = b.tray ∧ (b.setDomain k v).start = b.start ∧ (b.setDomain k v).events = b.events ∧
    (b.setDomain k v).errors = b.errors ∧ (b.setDomain k v).cmds = b.cmds ∧
    (b.setDomain k v).sessions = b.sessions ∧ (b.setDomain k v).mailboxes = b.mailboxes ∧
    (b.setDomain k v).store = b.store ∧ (b.setDomain k v).power = b.power ∧ (b.setDomain k v).silent = b.silent ∧
    (b.setDomain k v).firmware = b.firmware ∧ (b.setDomain k v).security = b.security ∧
    (b.setDomain k v).guests = b.guests ∧ (b.setDomain k v).picks = b.picks ∧
    (∀ j, (b.setDomain k v).berth j = b.berth j) ∧ (∀ j, (b.setDomain k v).channel j = b.channel j) ∧
    (∀ j, (b.setDomain k v).line j = b.line j) ∧ (∀ j, (b.setDomain k v).pset j = b.pset j) ∧
    (∀ j, (b.setDomain k v).tile j = b.tile j) ∧ (∀ j, (b.setDomain k v).chart j = b.chart j) ∧
    (∀ j, (b.setDomain k v).ctx j = b.ctx j) ∧ (∀ j, (b.setDomain k v).queue j = b.queue j) ∧
    (∀ j, (b.setDomain k v).request j = b.request j) ∧ (∀ j, (b.setDomain k v).lantern j = b.lantern j) ∧
    (∀ j, (b.setDomain k v).hw j = b.hw j) ∧ (∀ j, (b.setDomain k v).beam j = b.beam j) ∧
    (∀ j, (b.setDomain k v).accSet j = b.accSet j) ∧ (∀ j, (b.setDomain k v).group j = b.group j) ∧
    (∀ j, (b.setDomain k v).sinker j = b.sinker j) ∧ (∀ j, (b.setDomain k v).hart j = b.hart j) ∧
    (∀ j, (b.setDomain k v).cluster j = b.cluster j) ∧ (∀ j, (b.setDomain k v).port j = b.port j) ∧
    (∀ j, (b.setDomain k v).cart j = b.cart j) ∧ (∀ j, (b.setDomain k v).link j = b.link j) ∧
    (∀ j, (b.setDomain k v).sensor j = b.sensor j) ∧ (∀ j, (b.setDomain k v).mailbox j = b.mailbox j) ∧
    (∀ j, (b.setDomain k v).fw j = b.fw j) ∧ (∀ j, (b.setDomain k v).guest j = b.guest j) := by
  and_intros <;> first | rfl | (intro _; rfl)

@[simp] theorem Block.setChannel_channels (b : Block) (k : Nat) (v : Channel) : (b.setChannel k v).channels = tput b.channels k v := rfl
@[simp] theorem Block.setChannel_channel (b : Block) (k : Nat) (v : Channel) : (b.setChannel k v).channel k = v := tget_tput_same _ _ _ _
theorem Block.setChannel_channel_ne (b : Block) (k j : Nat) (v : Channel) (h : j ≠ k) : (b.setChannel k v).channel j = b.channel j :=
  tget_tput_ne _ _ _ _ _ h
@[simp] theorem Block.updChannel_eq (b : Block) (k : Nat) (g : Channel → Channel) : b.updChannel k g = b.setChannel k (g (b.channel k)) := rfl
@[simp] theorem Block.setChannel_frame (b : Block) (k : Nat) (v : Channel) :
    (b.setChannel k v).mem = b.mem ∧ (b.setChannel k v).memPoison = b.memPoison ∧
    (b.setChannel k v).berths = b.berths ∧ (b.setChannel k v).domains = b.domains ∧
    (b.setChannel k v).lines = b.lines ∧ (b.setChannel k v).psets = b.psets ∧ (b.setChannel k v).tiles = b.tiles ∧
    (b.setChannel k v).charts = b.charts ∧ (b.setChannel k v).withdrawals = b.withdrawals ∧
    (b.setChannel k v).nextWithdrawal = b.nextWithdrawal ∧ (b.setChannel k v).contexts = b.contexts ∧
    (b.setChannel k v).queues = b.queues ∧ (b.setChannel k v).requests = b.requests ∧
    (b.setChannel k v).lanterns = b.lanterns ∧ (b.setChannel k v).hws = b.hws ∧
    (b.setChannel k v).beams = b.beams ∧ (b.setChannel k v).sets = b.sets ∧ (b.setChannel k v).xfers = b.xfers ∧
    (b.setChannel k v).nextId = b.nextId ∧ (b.setChannel k v).groups = b.groups ∧
    (b.setChannel k v).sinkers = b.sinkers ∧ (b.setChannel k v).checks = b.checks ∧
    (b.setChannel k v).harts = b.harts ∧ (b.setChannel k v).clusters = b.clusters ∧
    (b.setChannel k v).imsic = b.imsic ∧ (b.setChannel k v).aplicM = b.aplicM ∧
    (b.setChannel k v).aplicS = b.aplicS ∧ (b.setChannel k v).ports = b.ports ∧
    (b.setChannel k v).carts = b.carts ∧ (b.setChannel k v).links = b.links ∧
    (b.setChannel k v).sensors = b.sensors ∧ (b.setChannel k v).tray = b.tray ∧
    (b.setChannel k v).start = b.start ∧ (b.setChannel k v).events = b.events ∧
    (b.setChannel k v).errors = b.errors ∧ (b.setChannel k v).cmds = b.cmds ∧
    (b.setChannel k v).sessions = b.sessions ∧ (b.setChannel k v).mailboxes = b.mailboxes ∧
    (b.setChannel k v).store = b.store ∧ (b.setChannel k v).power = b.power ∧
    (b.setChannel k v).silent = b.silent ∧ (b.setChannel k v).firmware = b.firmware ∧
    (b.setChannel k v).security = b.security ∧ (b.setChannel k v).guests = b.guests ∧
    (b.setChannel k v).picks = b.picks ∧ (∀ j, (b.setChannel k v).berth j = b.berth j) ∧
    (∀ j, (b.setChannel k v).domain j = b.domain j) ∧ (∀ j, (b.setChannel k v).line j = b.line j) ∧
    (∀ j, (b.setChannel k v).pset j = b.pset j) ∧ (∀ j, (b.setChannel k v).tile j = b.tile j) ∧
    (∀ j, (b.setChannel k v).chart j = b.chart j) ∧ (∀ j, (b.setChannel k v).ctx j = b.ctx j) ∧
    (∀ j, (b.setChannel k v).queue j = b.queue j) ∧ (∀ j, (b.setChannel k v).request j = b.request j) ∧
    (∀ j, (b.setChannel k v).lantern j = b.lantern j) ∧ (∀ j, (b.setChannel k v).hw j = b.hw j) ∧
    (∀ j, (b.setChannel k v).beam j = b.beam j) ∧ (∀ j, (b.setChannel k v).accSet j = b.accSet j) ∧
    (∀ j, (b.setChannel k v).group j = b.group j) ∧ (∀ j, (b.setChannel k v).sinker j = b.sinker j) ∧
    (∀ j, (b.setChannel k v).hart j = b.hart j) ∧ (∀ j, (b.setChannel k v).cluster j = b.cluster j) ∧
    (∀ j, (b.setChannel k v).port j = b.port j) ∧ (∀ j, (b.setChannel k v).cart j = b.cart j) ∧
    (∀ j, (b.setChannel k v).link j = b.link j) ∧ (∀ j, (b.setChannel k v).sensor j = b.sensor j) ∧
    (∀ j, (b.setChannel k v).mailbox j = b.mailbox j) ∧ (∀ j, (b.setChannel k v).fw j = b.fw j) ∧
    (∀ j, (b.setChannel k v).guest j = b.guest j) := by
  and_intros <;> first | rfl | (intro _; rfl)

@[simp] theorem Block.setLine_lines (b : Block) (k : Nat) (v : LineSt) : (b.setLine k v).lines = tput b.lines k v := rfl
@[simp] theorem Block.setLine_line (b : Block) (k : Nat) (v : LineSt) : (b.setLine k v).line k = v := tget_tput_same _ _ _ _
theorem Block.setLine_line_ne (b : Block) (k j : Nat) (v : LineSt) (h : j ≠ k) : (b.setLine k v).line j = b.line j :=
  tget_tput_ne _ _ _ _ _ h
@[simp] theorem Block.updLine_eq (b : Block) (k : Nat) (g : LineSt → LineSt) : b.updLine k g = b.setLine k (g (b.line k)) := rfl
@[simp] theorem Block.setLine_frame (b : Block) (k : Nat) (v : LineSt) :
    (b.setLine k v).mem = b.mem ∧ (b.setLine k v).memPoison = b.memPoison ∧ (b.setLine k v).berths = b.berths ∧
    (b.setLine k v).domains = b.domains ∧ (b.setLine k v).channels = b.channels ∧ (b.setLine k v).psets = b.psets ∧
    (b.setLine k v).tiles = b.tiles ∧ (b.setLine k v).charts = b.charts ∧
    (b.setLine k v).withdrawals = b.withdrawals ∧ (b.setLine k v).nextWithdrawal = b.nextWithdrawal ∧
    (b.setLine k v).contexts = b.contexts ∧ (b.setLine k v).queues = b.queues ∧
    (b.setLine k v).requests = b.requests ∧ (b.setLine k v).lanterns = b.lanterns ∧ (b.setLine k v).hws = b.hws ∧
    (b.setLine k v).beams = b.beams ∧ (b.setLine k v).sets = b.sets ∧ (b.setLine k v).xfers = b.xfers ∧
    (b.setLine k v).nextId = b.nextId ∧ (b.setLine k v).groups = b.groups ∧ (b.setLine k v).sinkers = b.sinkers ∧
    (b.setLine k v).checks = b.checks ∧ (b.setLine k v).harts = b.harts ∧ (b.setLine k v).clusters = b.clusters ∧
    (b.setLine k v).imsic = b.imsic ∧ (b.setLine k v).aplicM = b.aplicM ∧ (b.setLine k v).aplicS = b.aplicS ∧
    (b.setLine k v).ports = b.ports ∧ (b.setLine k v).carts = b.carts ∧ (b.setLine k v).links = b.links ∧
    (b.setLine k v).sensors = b.sensors ∧ (b.setLine k v).tray = b.tray ∧ (b.setLine k v).start = b.start ∧
    (b.setLine k v).events = b.events ∧ (b.setLine k v).errors = b.errors ∧ (b.setLine k v).cmds = b.cmds ∧
    (b.setLine k v).sessions = b.sessions ∧ (b.setLine k v).mailboxes = b.mailboxes ∧
    (b.setLine k v).store = b.store ∧ (b.setLine k v).power = b.power ∧ (b.setLine k v).silent = b.silent ∧
    (b.setLine k v).firmware = b.firmware ∧ (b.setLine k v).security = b.security ∧
    (b.setLine k v).guests = b.guests ∧ (b.setLine k v).picks = b.picks ∧
    (∀ j, (b.setLine k v).berth j = b.berth j) ∧ (∀ j, (b.setLine k v).domain j = b.domain j) ∧
    (∀ j, (b.setLine k v).channel j = b.channel j) ∧ (∀ j, (b.setLine k v).pset j = b.pset j) ∧
    (∀ j, (b.setLine k v).tile j = b.tile j) ∧ (∀ j, (b.setLine k v).chart j = b.chart j) ∧
    (∀ j, (b.setLine k v).ctx j = b.ctx j) ∧ (∀ j, (b.setLine k v).queue j = b.queue j) ∧
    (∀ j, (b.setLine k v).request j = b.request j) ∧ (∀ j, (b.setLine k v).lantern j = b.lantern j) ∧
    (∀ j, (b.setLine k v).hw j = b.hw j) ∧ (∀ j, (b.setLine k v).beam j = b.beam j) ∧
    (∀ j, (b.setLine k v).accSet j = b.accSet j) ∧ (∀ j, (b.setLine k v).group j = b.group j) ∧
    (∀ j, (b.setLine k v).sinker j = b.sinker j) ∧ (∀ j, (b.setLine k v).hart j = b.hart j) ∧
    (∀ j, (b.setLine k v).cluster j = b.cluster j) ∧ (∀ j, (b.setLine k v).port j = b.port j) ∧
    (∀ j, (b.setLine k v).cart j = b.cart j) ∧ (∀ j, (b.setLine k v).link j = b.link j) ∧
    (∀ j, (b.setLine k v).sensor j = b.sensor j) ∧ (∀ j, (b.setLine k v).mailbox j = b.mailbox j) ∧
    (∀ j, (b.setLine k v).fw j = b.fw j) ∧ (∀ j, (b.setLine k v).guest j = b.guest j) := by
  and_intros <;> first | rfl | (intro _; rfl)

@[simp] theorem Block.setPset_psets (b : Block) (k : Nat) (v : PSet) : (b.setPset k v).psets = tput b.psets k v := rfl
@[simp] theorem Block.setPset_pset (b : Block) (k : Nat) (v : PSet) : (b.setPset k v).pset k = v := tget_tput_same _ _ _ _
theorem Block.setPset_pset_ne (b : Block) (k j : Nat) (v : PSet) (h : j ≠ k) : (b.setPset k v).pset j = b.pset j :=
  tget_tput_ne _ _ _ _ _ h
@[simp] theorem Block.updPset_eq (b : Block) (k : Nat) (g : PSet → PSet) : b.updPset k g = b.setPset k (g (b.pset k)) := rfl
@[simp] theorem Block.setPset_frame (b : Block) (k : Nat) (v : PSet) :
    (b.setPset k v).mem = b.mem ∧ (b.setPset k v).memPoison = b.memPoison ∧ (b.setPset k v).berths = b.berths ∧
    (b.setPset k v).domains = b.domains ∧ (b.setPset k v).channels = b.channels ∧ (b.setPset k v).lines = b.lines ∧
    (b.setPset k v).tiles = b.tiles ∧ (b.setPset k v).charts = b.charts ∧
    (b.setPset k v).withdrawals = b.withdrawals ∧ (b.setPset k v).nextWithdrawal = b.nextWithdrawal ∧
    (b.setPset k v).contexts = b.contexts ∧ (b.setPset k v).queues = b.queues ∧
    (b.setPset k v).requests = b.requests ∧ (b.setPset k v).lanterns = b.lanterns ∧ (b.setPset k v).hws = b.hws ∧
    (b.setPset k v).beams = b.beams ∧ (b.setPset k v).sets = b.sets ∧ (b.setPset k v).xfers = b.xfers ∧
    (b.setPset k v).nextId = b.nextId ∧ (b.setPset k v).groups = b.groups ∧ (b.setPset k v).sinkers = b.sinkers ∧
    (b.setPset k v).checks = b.checks ∧ (b.setPset k v).harts = b.harts ∧ (b.setPset k v).clusters = b.clusters ∧
    (b.setPset k v).imsic = b.imsic ∧ (b.setPset k v).aplicM = b.aplicM ∧ (b.setPset k v).aplicS = b.aplicS ∧
    (b.setPset k v).ports = b.ports ∧ (b.setPset k v).carts = b.carts ∧ (b.setPset k v).links = b.links ∧
    (b.setPset k v).sensors = b.sensors ∧ (b.setPset k v).tray = b.tray ∧ (b.setPset k v).start = b.start ∧
    (b.setPset k v).events = b.events ∧ (b.setPset k v).errors = b.errors ∧ (b.setPset k v).cmds = b.cmds ∧
    (b.setPset k v).sessions = b.sessions ∧ (b.setPset k v).mailboxes = b.mailboxes ∧
    (b.setPset k v).store = b.store ∧ (b.setPset k v).power = b.power ∧ (b.setPset k v).silent = b.silent ∧
    (b.setPset k v).firmware = b.firmware ∧ (b.setPset k v).security = b.security ∧
    (b.setPset k v).guests = b.guests ∧ (b.setPset k v).picks = b.picks ∧
    (∀ j, (b.setPset k v).berth j = b.berth j) ∧ (∀ j, (b.setPset k v).domain j = b.domain j) ∧
    (∀ j, (b.setPset k v).channel j = b.channel j) ∧ (∀ j, (b.setPset k v).line j = b.line j) ∧
    (∀ j, (b.setPset k v).tile j = b.tile j) ∧ (∀ j, (b.setPset k v).chart j = b.chart j) ∧
    (∀ j, (b.setPset k v).ctx j = b.ctx j) ∧ (∀ j, (b.setPset k v).queue j = b.queue j) ∧
    (∀ j, (b.setPset k v).request j = b.request j) ∧ (∀ j, (b.setPset k v).lantern j = b.lantern j) ∧
    (∀ j, (b.setPset k v).hw j = b.hw j) ∧ (∀ j, (b.setPset k v).beam j = b.beam j) ∧
    (∀ j, (b.setPset k v).accSet j = b.accSet j) ∧ (∀ j, (b.setPset k v).group j = b.group j) ∧
    (∀ j, (b.setPset k v).sinker j = b.sinker j) ∧ (∀ j, (b.setPset k v).hart j = b.hart j) ∧
    (∀ j, (b.setPset k v).cluster j = b.cluster j) ∧ (∀ j, (b.setPset k v).port j = b.port j) ∧
    (∀ j, (b.setPset k v).cart j = b.cart j) ∧ (∀ j, (b.setPset k v).link j = b.link j) ∧
    (∀ j, (b.setPset k v).sensor j = b.sensor j) ∧ (∀ j, (b.setPset k v).mailbox j = b.mailbox j) ∧
    (∀ j, (b.setPset k v).fw j = b.fw j) ∧ (∀ j, (b.setPset k v).guest j = b.guest j) := by
  and_intros <;> first | rfl | (intro _; rfl)

@[simp] theorem Block.setTile_tiles (b : Block) (k : Nat) (v : Tile) : (b.setTile k v).tiles = tput b.tiles k v := rfl
@[simp] theorem Block.setTile_tile (b : Block) (k : Nat) (v : Tile) : (b.setTile k v).tile k = v := tget_tput_same _ _ _ _
theorem Block.setTile_tile_ne (b : Block) (k j : Nat) (v : Tile) (h : j ≠ k) : (b.setTile k v).tile j = b.tile j :=
  tget_tput_ne _ _ _ _ _ h
@[simp] theorem Block.updTile_eq (b : Block) (k : Nat) (g : Tile → Tile) : b.updTile k g = b.setTile k (g (b.tile k)) := rfl
@[simp] theorem Block.setTile_frame (b : Block) (k : Nat) (v : Tile) :
    (b.setTile k v).mem = b.mem ∧ (b.setTile k v).memPoison = b.memPoison ∧ (b.setTile k v).berths = b.berths ∧
    (b.setTile k v).domains = b.domains ∧ (b.setTile k v).channels = b.channels ∧ (b.setTile k v).lines = b.lines ∧
    (b.setTile k v).psets = b.psets ∧ (b.setTile k v).charts = b.charts ∧
    (b.setTile k v).withdrawals = b.withdrawals ∧ (b.setTile k v).nextWithdrawal = b.nextWithdrawal ∧
    (b.setTile k v).contexts = b.contexts ∧ (b.setTile k v).queues = b.queues ∧
    (b.setTile k v).requests = b.requests ∧ (b.setTile k v).lanterns = b.lanterns ∧ (b.setTile k v).hws = b.hws ∧
    (b.setTile k v).beams = b.beams ∧ (b.setTile k v).sets = b.sets ∧ (b.setTile k v).xfers = b.xfers ∧
    (b.setTile k v).nextId = b.nextId ∧ (b.setTile k v).groups = b.groups ∧ (b.setTile k v).sinkers = b.sinkers ∧
    (b.setTile k v).checks = b.checks ∧ (b.setTile k v).harts = b.harts ∧ (b.setTile k v).clusters = b.clusters ∧
    (b.setTile k v).imsic = b.imsic ∧ (b.setTile k v).aplicM = b.aplicM ∧ (b.setTile k v).aplicS = b.aplicS ∧
    (b.setTile k v).ports = b.ports ∧ (b.setTile k v).carts = b.carts ∧ (b.setTile k v).links = b.links ∧
    (b.setTile k v).sensors = b.sensors ∧ (b.setTile k v).tray = b.tray ∧ (b.setTile k v).start = b.start ∧
    (b.setTile k v).events = b.events ∧ (b.setTile k v).errors = b.errors ∧ (b.setTile k v).cmds = b.cmds ∧
    (b.setTile k v).sessions = b.sessions ∧ (b.setTile k v).mailboxes = b.mailboxes ∧
    (b.setTile k v).store = b.store ∧ (b.setTile k v).power = b.power ∧ (b.setTile k v).silent = b.silent ∧
    (b.setTile k v).firmware = b.firmware ∧ (b.setTile k v).security = b.security ∧
    (b.setTile k v).guests = b.guests ∧ (b.setTile k v).picks = b.picks ∧
    (∀ j, (b.setTile k v).berth j = b.berth j) ∧ (∀ j, (b.setTile k v).domain j = b.domain j) ∧
    (∀ j, (b.setTile k v).channel j = b.channel j) ∧ (∀ j, (b.setTile k v).line j = b.line j) ∧
    (∀ j, (b.setTile k v).pset j = b.pset j) ∧ (∀ j, (b.setTile k v).chart j = b.chart j) ∧
    (∀ j, (b.setTile k v).ctx j = b.ctx j) ∧ (∀ j, (b.setTile k v).queue j = b.queue j) ∧
    (∀ j, (b.setTile k v).request j = b.request j) ∧ (∀ j, (b.setTile k v).lantern j = b.lantern j) ∧
    (∀ j, (b.setTile k v).hw j = b.hw j) ∧ (∀ j, (b.setTile k v).beam j = b.beam j) ∧
    (∀ j, (b.setTile k v).accSet j = b.accSet j) ∧ (∀ j, (b.setTile k v).group j = b.group j) ∧
    (∀ j, (b.setTile k v).sinker j = b.sinker j) ∧ (∀ j, (b.setTile k v).hart j = b.hart j) ∧
    (∀ j, (b.setTile k v).cluster j = b.cluster j) ∧ (∀ j, (b.setTile k v).port j = b.port j) ∧
    (∀ j, (b.setTile k v).cart j = b.cart j) ∧ (∀ j, (b.setTile k v).link j = b.link j) ∧
    (∀ j, (b.setTile k v).sensor j = b.sensor j) ∧ (∀ j, (b.setTile k v).mailbox j = b.mailbox j) ∧
    (∀ j, (b.setTile k v).fw j = b.fw j) ∧ (∀ j, (b.setTile k v).guest j = b.guest j) := by
  and_intros <;> first | rfl | (intro _; rfl)

@[simp] theorem Block.setChart_charts (b : Block) (k : Nat) (v : Chart) : (b.setChart k v).charts = tput b.charts k v := rfl
@[simp] theorem Block.setChart_chart (b : Block) (k : Nat) (v : Chart) : (b.setChart k v).chart k = v := tget_tput_same _ _ _ _
theorem Block.setChart_chart_ne (b : Block) (k j : Nat) (v : Chart) (h : j ≠ k) : (b.setChart k v).chart j = b.chart j :=
  tget_tput_ne _ _ _ _ _ h
@[simp] theorem Block.updChart_eq (b : Block) (k : Nat) (g : Chart → Chart) : b.updChart k g = b.setChart k (g (b.chart k)) := rfl
@[simp] theorem Block.setChart_frame (b : Block) (k : Nat) (v : Chart) :
    (b.setChart k v).mem = b.mem ∧ (b.setChart k v).memPoison = b.memPoison ∧ (b.setChart k v).berths = b.berths ∧
    (b.setChart k v).domains = b.domains ∧ (b.setChart k v).channels = b.channels ∧
    (b.setChart k v).lines = b.lines ∧ (b.setChart k v).psets = b.psets ∧ (b.setChart k v).tiles = b.tiles ∧
    (b.setChart k v).withdrawals = b.withdrawals ∧ (b.setChart k v).nextWithdrawal = b.nextWithdrawal ∧
    (b.setChart k v).contexts = b.contexts ∧ (b.setChart k v).queues = b.queues ∧
    (b.setChart k v).requests = b.requests ∧ (b.setChart k v).lanterns = b.lanterns ∧
    (b.setChart k v).hws = b.hws ∧ (b.setChart k v).beams = b.beams ∧ (b.setChart k v).sets = b.sets ∧
    (b.setChart k v).xfers = b.xfers ∧ (b.setChart k v).nextId = b.nextId ∧ (b.setChart k v).groups = b.groups ∧
    (b.setChart k v).sinkers = b.sinkers ∧ (b.setChart k v).checks = b.checks ∧ (b.setChart k v).harts = b.harts ∧
    (b.setChart k v).clusters = b.clusters ∧ (b.setChart k v).imsic = b.imsic ∧
    (b.setChart k v).aplicM = b.aplicM ∧ (b.setChart k v).aplicS = b.aplicS ∧ (b.setChart k v).ports = b.ports ∧
    (b.setChart k v).carts = b.carts ∧ (b.setChart k v).links = b.links ∧ (b.setChart k v).sensors = b.sensors ∧
    (b.setChart k v).tray = b.tray ∧ (b.setChart k v).start = b.start ∧ (b.setChart k v).events = b.events ∧
    (b.setChart k v).errors = b.errors ∧ (b.setChart k v).cmds = b.cmds ∧ (b.setChart k v).sessions = b.sessions ∧
    (b.setChart k v).mailboxes = b.mailboxes ∧ (b.setChart k v).store = b.store ∧
    (b.setChart k v).power = b.power ∧ (b.setChart k v).silent = b.silent ∧
    (b.setChart k v).firmware = b.firmware ∧ (b.setChart k v).security = b.security ∧
    (b.setChart k v).guests = b.guests ∧ (b.setChart k v).picks = b.picks ∧
    (∀ j, (b.setChart k v).berth j = b.berth j) ∧ (∀ j, (b.setChart k v).domain j = b.domain j) ∧
    (∀ j, (b.setChart k v).channel j = b.channel j) ∧ (∀ j, (b.setChart k v).line j = b.line j) ∧
    (∀ j, (b.setChart k v).pset j = b.pset j) ∧ (∀ j, (b.setChart k v).tile j = b.tile j) ∧
    (∀ j, (b.setChart k v).ctx j = b.ctx j) ∧ (∀ j, (b.setChart k v).queue j = b.queue j) ∧
    (∀ j, (b.setChart k v).request j = b.request j) ∧ (∀ j, (b.setChart k v).lantern j = b.lantern j) ∧
    (∀ j, (b.setChart k v).hw j = b.hw j) ∧ (∀ j, (b.setChart k v).beam j = b.beam j) ∧
    (∀ j, (b.setChart k v).accSet j = b.accSet j) ∧ (∀ j, (b.setChart k v).group j = b.group j) ∧
    (∀ j, (b.setChart k v).sinker j = b.sinker j) ∧ (∀ j, (b.setChart k v).hart j = b.hart j) ∧
    (∀ j, (b.setChart k v).cluster j = b.cluster j) ∧ (∀ j, (b.setChart k v).port j = b.port j) ∧
    (∀ j, (b.setChart k v).cart j = b.cart j) ∧ (∀ j, (b.setChart k v).link j = b.link j) ∧
    (∀ j, (b.setChart k v).sensor j = b.sensor j) ∧ (∀ j, (b.setChart k v).mailbox j = b.mailbox j) ∧
    (∀ j, (b.setChart k v).fw j = b.fw j) ∧ (∀ j, (b.setChart k v).guest j = b.guest j) := by
  and_intros <;> first | rfl | (intro _; rfl)

@[simp] theorem Block.setCtx_contexts (b : Block) (k : Nat) (v : Context) : (b.setCtx k v).contexts = tput b.contexts k v := rfl
@[simp] theorem Block.setCtx_ctx (b : Block) (k : Nat) (v : Context) : (b.setCtx k v).ctx k = v := tget_tput_same _ _ _ _
theorem Block.setCtx_ctx_ne (b : Block) (k j : Nat) (v : Context) (h : j ≠ k) : (b.setCtx k v).ctx j = b.ctx j :=
  tget_tput_ne _ _ _ _ _ h
@[simp] theorem Block.updCtx_eq (b : Block) (k : Nat) (g : Context → Context) : b.updCtx k g = b.setCtx k (g (b.ctx k)) := rfl
@[simp] theorem Block.setCtx_frame (b : Block) (k : Nat) (v : Context) :
    (b.setCtx k v).mem = b.mem ∧ (b.setCtx k v).memPoison = b.memPoison ∧ (b.setCtx k v).berths = b.berths ∧
    (b.setCtx k v).domains = b.domains ∧ (b.setCtx k v).channels = b.channels ∧ (b.setCtx k v).lines = b.lines ∧
    (b.setCtx k v).psets = b.psets ∧ (b.setCtx k v).tiles = b.tiles ∧ (b.setCtx k v).charts = b.charts ∧
    (b.setCtx k v).withdrawals = b.withdrawals ∧ (b.setCtx k v).nextWithdrawal = b.nextWithdrawal ∧
    (b.setCtx k v).queues = b.queues ∧ (b.setCtx k v).requests = b.requests ∧
    (b.setCtx k v).lanterns = b.lanterns ∧ (b.setCtx k v).hws = b.hws ∧ (b.setCtx k v).beams = b.beams ∧
    (b.setCtx k v).sets = b.sets ∧ (b.setCtx k v).xfers = b.xfers ∧ (b.setCtx k v).nextId = b.nextId ∧
    (b.setCtx k v).groups = b.groups ∧ (b.setCtx k v).sinkers = b.sinkers ∧ (b.setCtx k v).checks = b.checks ∧
    (b.setCtx k v).harts = b.harts ∧ (b.setCtx k v).clusters = b.clusters ∧ (b.setCtx k v).imsic = b.imsic ∧
    (b.setCtx k v).aplicM = b.aplicM ∧ (b.setCtx k v).aplicS = b.aplicS ∧ (b.setCtx k v).ports = b.ports ∧
    (b.setCtx k v).carts = b.carts ∧ (b.setCtx k v).links = b.links ∧ (b.setCtx k v).sensors = b.sensors ∧
    (b.setCtx k v).tray = b.tray ∧ (b.setCtx k v).start = b.start ∧ (b.setCtx k v).events = b.events ∧
    (b.setCtx k v).errors = b.errors ∧ (b.setCtx k v).cmds = b.cmds ∧ (b.setCtx k v).sessions = b.sessions ∧
    (b.setCtx k v).mailboxes = b.mailboxes ∧ (b.setCtx k v).store = b.store ∧ (b.setCtx k v).power = b.power ∧
    (b.setCtx k v).silent = b.silent ∧ (b.setCtx k v).firmware = b.firmware ∧
    (b.setCtx k v).security = b.security ∧ (b.setCtx k v).guests = b.guests ∧ (b.setCtx k v).picks = b.picks ∧
    (∀ j, (b.setCtx k v).berth j = b.berth j) ∧ (∀ j, (b.setCtx k v).domain j = b.domain j) ∧
    (∀ j, (b.setCtx k v).channel j = b.channel j) ∧ (∀ j, (b.setCtx k v).line j = b.line j) ∧
    (∀ j, (b.setCtx k v).pset j = b.pset j) ∧ (∀ j, (b.setCtx k v).tile j = b.tile j) ∧
    (∀ j, (b.setCtx k v).chart j = b.chart j) ∧ (∀ j, (b.setCtx k v).queue j = b.queue j) ∧
    (∀ j, (b.setCtx k v).request j = b.request j) ∧ (∀ j, (b.setCtx k v).lantern j = b.lantern j) ∧
    (∀ j, (b.setCtx k v).hw j = b.hw j) ∧ (∀ j, (b.setCtx k v).beam j = b.beam j) ∧
    (∀ j, (b.setCtx k v).accSet j = b.accSet j) ∧ (∀ j, (b.setCtx k v).group j = b.group j) ∧
    (∀ j, (b.setCtx k v).sinker j = b.sinker j) ∧ (∀ j, (b.setCtx k v).hart j = b.hart j) ∧
    (∀ j, (b.setCtx k v).cluster j = b.cluster j) ∧ (∀ j, (b.setCtx k v).port j = b.port j) ∧
    (∀ j, (b.setCtx k v).cart j = b.cart j) ∧ (∀ j, (b.setCtx k v).link j = b.link j) ∧
    (∀ j, (b.setCtx k v).sensor j = b.sensor j) ∧ (∀ j, (b.setCtx k v).mailbox j = b.mailbox j) ∧
    (∀ j, (b.setCtx k v).fw j = b.fw j) ∧ (∀ j, (b.setCtx k v).guest j = b.guest j) := by
  and_intros <;> first | rfl | (intro _; rfl)

@[simp] theorem Block.setQueue_queues (b : Block) (k : Nat) (v : Queue) : (b.setQueue k v).queues = tput b.queues k v := rfl
@[simp] theorem Block.setQueue_queue (b : Block) (k : Nat) (v : Queue) : (b.setQueue k v).queue k = v := tget_tput_same _ _ _ _
theorem Block.setQueue_queue_ne (b : Block) (k j : Nat) (v : Queue) (h : j ≠ k) : (b.setQueue k v).queue j = b.queue j :=
  tget_tput_ne _ _ _ _ _ h
@[simp] theorem Block.updQueue_eq (b : Block) (k : Nat) (g : Queue → Queue) : b.updQueue k g = b.setQueue k (g (b.queue k)) := rfl
@[simp] theorem Block.setQueue_frame (b : Block) (k : Nat) (v : Queue) :
    (b.setQueue k v).mem = b.mem ∧ (b.setQueue k v).memPoison = b.memPoison ∧ (b.setQueue k v).berths = b.berths ∧
    (b.setQueue k v).domains = b.domains ∧ (b.setQueue k v).channels = b.channels ∧
    (b.setQueue k v).lines = b.lines ∧ (b.setQueue k v).psets = b.psets ∧ (b.setQueue k v).tiles = b.tiles ∧
    (b.setQueue k v).charts = b.charts ∧ (b.setQueue k v).withdrawals = b.withdrawals ∧
    (b.setQueue k v).nextWithdrawal = b.nextWithdrawal ∧ (b.setQueue k v).contexts = b.contexts ∧
    (b.setQueue k v).requests = b.requests ∧ (b.setQueue k v).lanterns = b.lanterns ∧
    (b.setQueue k v).hws = b.hws ∧ (b.setQueue k v).beams = b.beams ∧ (b.setQueue k v).sets = b.sets ∧
    (b.setQueue k v).xfers = b.xfers ∧ (b.setQueue k v).nextId = b.nextId ∧ (b.setQueue k v).groups = b.groups ∧
    (b.setQueue k v).sinkers = b.sinkers ∧ (b.setQueue k v).checks = b.checks ∧ (b.setQueue k v).harts = b.harts ∧
    (b.setQueue k v).clusters = b.clusters ∧ (b.setQueue k v).imsic = b.imsic ∧
    (b.setQueue k v).aplicM = b.aplicM ∧ (b.setQueue k v).aplicS = b.aplicS ∧ (b.setQueue k v).ports = b.ports ∧
    (b.setQueue k v).carts = b.carts ∧ (b.setQueue k v).links = b.links ∧ (b.setQueue k v).sensors = b.sensors ∧
    (b.setQueue k v).tray = b.tray ∧ (b.setQueue k v).start = b.start ∧ (b.setQueue k v).events = b.events ∧
    (b.setQueue k v).errors = b.errors ∧ (b.setQueue k v).cmds = b.cmds ∧ (b.setQueue k v).sessions = b.sessions ∧
    (b.setQueue k v).mailboxes = b.mailboxes ∧ (b.setQueue k v).store = b.store ∧
    (b.setQueue k v).power = b.power ∧ (b.setQueue k v).silent = b.silent ∧
    (b.setQueue k v).firmware = b.firmware ∧ (b.setQueue k v).security = b.security ∧
    (b.setQueue k v).guests = b.guests ∧ (b.setQueue k v).picks = b.picks ∧
    (∀ j, (b.setQueue k v).berth j = b.berth j) ∧ (∀ j, (b.setQueue k v).domain j = b.domain j) ∧
    (∀ j, (b.setQueue k v).channel j = b.channel j) ∧ (∀ j, (b.setQueue k v).line j = b.line j) ∧
    (∀ j, (b.setQueue k v).pset j = b.pset j) ∧ (∀ j, (b.setQueue k v).tile j = b.tile j) ∧
    (∀ j, (b.setQueue k v).chart j = b.chart j) ∧ (∀ j, (b.setQueue k v).ctx j = b.ctx j) ∧
    (∀ j, (b.setQueue k v).request j = b.request j) ∧ (∀ j, (b.setQueue k v).lantern j = b.lantern j) ∧
    (∀ j, (b.setQueue k v).hw j = b.hw j) ∧ (∀ j, (b.setQueue k v).beam j = b.beam j) ∧
    (∀ j, (b.setQueue k v).accSet j = b.accSet j) ∧ (∀ j, (b.setQueue k v).group j = b.group j) ∧
    (∀ j, (b.setQueue k v).sinker j = b.sinker j) ∧ (∀ j, (b.setQueue k v).hart j = b.hart j) ∧
    (∀ j, (b.setQueue k v).cluster j = b.cluster j) ∧ (∀ j, (b.setQueue k v).port j = b.port j) ∧
    (∀ j, (b.setQueue k v).cart j = b.cart j) ∧ (∀ j, (b.setQueue k v).link j = b.link j) ∧
    (∀ j, (b.setQueue k v).sensor j = b.sensor j) ∧ (∀ j, (b.setQueue k v).mailbox j = b.mailbox j) ∧
    (∀ j, (b.setQueue k v).fw j = b.fw j) ∧ (∀ j, (b.setQueue k v).guest j = b.guest j) := by
  and_intros <;> first | rfl | (intro _; rfl)

@[simp] theorem Block.setRequest_requests (b : Block) (k : Nat) (v : Request) : (b.setRequest k v).requests = tput b.requests k v := rfl
@[simp] theorem Block.setRequest_request (b : Block) (k : Nat) (v : Request) : (b.setRequest k v).request k = v := tget_tput_same _ _ _ _
theorem Block.setRequest_request_ne (b : Block) (k j : Nat) (v : Request) (h : j ≠ k) : (b.setRequest k v).request j = b.request j :=
  tget_tput_ne _ _ _ _ _ h
@[simp] theorem Block.updRequest_eq (b : Block) (k : Nat) (g : Request → Request) : b.updRequest k g = b.setRequest k (g (b.request k)) := rfl
@[simp] theorem Block.setRequest_frame (b : Block) (k : Nat) (v : Request) :
    (b.setRequest k v).mem = b.mem ∧ (b.setRequest k v).memPoison = b.memPoison ∧
    (b.setRequest k v).berths = b.berths ∧ (b.setRequest k v).domains = b.domains ∧
    (b.setRequest k v).channels = b.channels ∧ (b.setRequest k v).lines = b.lines ∧
    (b.setRequest k v).psets = b.psets ∧ (b.setRequest k v).tiles = b.tiles ∧
    (b.setRequest k v).charts = b.charts ∧ (b.setRequest k v).withdrawals = b.withdrawals ∧
    (b.setRequest k v).nextWithdrawal = b.nextWithdrawal ∧ (b.setRequest k v).contexts = b.contexts ∧
    (b.setRequest k v).queues = b.queues ∧ (b.setRequest k v).lanterns = b.lanterns ∧
    (b.setRequest k v).hws = b.hws ∧ (b.setRequest k v).beams = b.beams ∧ (b.setRequest k v).sets = b.sets ∧
    (b.setRequest k v).xfers = b.xfers ∧ (b.setRequest k v).nextId = b.nextId ∧
    (b.setRequest k v).groups = b.groups ∧ (b.setRequest k v).sinkers = b.sinkers ∧
    (b.setRequest k v).checks = b.checks ∧ (b.setRequest k v).harts = b.harts ∧
    (b.setRequest k v).clusters = b.clusters ∧ (b.setRequest k v).imsic = b.imsic ∧
    (b.setRequest k v).aplicM = b.aplicM ∧ (b.setRequest k v).aplicS = b.aplicS ∧
    (b.setRequest k v).ports = b.ports ∧ (b.setRequest k v).carts = b.carts ∧ (b.setRequest k v).links = b.links ∧
    (b.setRequest k v).sensors = b.sensors ∧ (b.setRequest k v).tray = b.tray ∧
    (b.setRequest k v).start = b.start ∧ (b.setRequest k v).events = b.events ∧
    (b.setRequest k v).errors = b.errors ∧ (b.setRequest k v).cmds = b.cmds ∧
    (b.setRequest k v).sessions = b.sessions ∧ (b.setRequest k v).mailboxes = b.mailboxes ∧
    (b.setRequest k v).store = b.store ∧ (b.setRequest k v).power = b.power ∧
    (b.setRequest k v).silent = b.silent ∧ (b.setRequest k v).firmware = b.firmware ∧
    (b.setRequest k v).security = b.security ∧ (b.setRequest k v).guests = b.guests ∧
    (b.setRequest k v).picks = b.picks ∧ (∀ j, (b.setRequest k v).berth j = b.berth j) ∧
    (∀ j, (b.setRequest k v).domain j = b.domain j) ∧ (∀ j, (b.setRequest k v).channel j = b.channel j) ∧
    (∀ j, (b.setRequest k v).line j = b.line j) ∧ (∀ j, (b.setRequest k v).pset j = b.pset j) ∧
    (∀ j, (b.setRequest k v).tile j = b.tile j) ∧ (∀ j, (b.setRequest k v).chart j = b.chart j) ∧
    (∀ j, (b.setRequest k v).ctx j = b.ctx j) ∧ (∀ j, (b.setRequest k v).queue j = b.queue j) ∧
    (∀ j, (b.setRequest k v).lantern j = b.lantern j) ∧ (∀ j, (b.setRequest k v).hw j = b.hw j) ∧
    (∀ j, (b.setRequest k v).beam j = b.beam j) ∧ (∀ j, (b.setRequest k v).accSet j = b.accSet j) ∧
    (∀ j, (b.setRequest k v).group j = b.group j) ∧ (∀ j, (b.setRequest k v).sinker j = b.sinker j) ∧
    (∀ j, (b.setRequest k v).hart j = b.hart j) ∧ (∀ j, (b.setRequest k v).cluster j = b.cluster j) ∧
    (∀ j, (b.setRequest k v).port j = b.port j) ∧ (∀ j, (b.setRequest k v).cart j = b.cart j) ∧
    (∀ j, (b.setRequest k v).link j = b.link j) ∧ (∀ j, (b.setRequest k v).sensor j = b.sensor j) ∧
    (∀ j, (b.setRequest k v).mailbox j = b.mailbox j) ∧ (∀ j, (b.setRequest k v).fw j = b.fw j) ∧
    (∀ j, (b.setRequest k v).guest j = b.guest j) := by
  and_intros <;> first | rfl | (intro _; rfl)

@[simp] theorem Block.setLantern_lanterns (b : Block) (k : Nat) (v : Lantern) : (b.setLantern k v).lanterns = tput b.lanterns k v := rfl
@[simp] theorem Block.setLantern_lantern (b : Block) (k : Nat) (v : Lantern) : (b.setLantern k v).lantern k = v := tget_tput_same _ _ _ _
theorem Block.setLantern_lantern_ne (b : Block) (k j : Nat) (v : Lantern) (h : j ≠ k) : (b.setLantern k v).lantern j = b.lantern j :=
  tget_tput_ne _ _ _ _ _ h
@[simp] theorem Block.updLantern_eq (b : Block) (k : Nat) (g : Lantern → Lantern) : b.updLantern k g = b.setLantern k (g (b.lantern k)) := rfl
@[simp] theorem Block.setLantern_frame (b : Block) (k : Nat) (v : Lantern) :
    (b.setLantern k v).mem = b.mem ∧ (b.setLantern k v).memPoison = b.memPoison ∧
    (b.setLantern k v).berths = b.berths ∧ (b.setLantern k v).domains = b.domains ∧
    (b.setLantern k v).channels = b.channels ∧ (b.setLantern k v).lines = b.lines ∧
    (b.setLantern k v).psets = b.psets ∧ (b.setLantern k v).tiles = b.tiles ∧
    (b.setLantern k v).charts = b.charts ∧ (b.setLantern k v).withdrawals = b.withdrawals ∧
    (b.setLantern k v).nextWithdrawal = b.nextWithdrawal ∧ (b.setLantern k v).contexts = b.contexts ∧
    (b.setLantern k v).queues = b.queues ∧ (b.setLantern k v).requests = b.requests ∧
    (b.setLantern k v).hws = b.hws ∧ (b.setLantern k v).beams = b.beams ∧ (b.setLantern k v).sets = b.sets ∧
    (b.setLantern k v).xfers = b.xfers ∧ (b.setLantern k v).nextId = b.nextId ∧
    (b.setLantern k v).groups = b.groups ∧ (b.setLantern k v).sinkers = b.sinkers ∧
    (b.setLantern k v).checks = b.checks ∧ (b.setLantern k v).harts = b.harts ∧
    (b.setLantern k v).clusters = b.clusters ∧ (b.setLantern k v).imsic = b.imsic ∧
    (b.setLantern k v).aplicM = b.aplicM ∧ (b.setLantern k v).aplicS = b.aplicS ∧
    (b.setLantern k v).ports = b.ports ∧ (b.setLantern k v).carts = b.carts ∧ (b.setLantern k v).links = b.links ∧
    (b.setLantern k v).sensors = b.sensors ∧ (b.setLantern k v).tray = b.tray ∧
    (b.setLantern k v).start = b.start ∧ (b.setLantern k v).events = b.events ∧
    (b.setLantern k v).errors = b.errors ∧ (b.setLantern k v).cmds = b.cmds ∧
    (b.setLantern k v).sessions = b.sessions ∧ (b.setLantern k v).mailboxes = b.mailboxes ∧
    (b.setLantern k v).store = b.store ∧ (b.setLantern k v).power = b.power ∧
    (b.setLantern k v).silent = b.silent ∧ (b.setLantern k v).firmware = b.firmware ∧
    (b.setLantern k v).security = b.security ∧ (b.setLantern k v).guests = b.guests ∧
    (b.setLantern k v).picks = b.picks ∧ (∀ j, (b.setLantern k v).berth j = b.berth j) ∧
    (∀ j, (b.setLantern k v).domain j = b.domain j) ∧ (∀ j, (b.setLantern k v).channel j = b.channel j) ∧
    (∀ j, (b.setLantern k v).line j = b.line j) ∧ (∀ j, (b.setLantern k v).pset j = b.pset j) ∧
    (∀ j, (b.setLantern k v).tile j = b.tile j) ∧ (∀ j, (b.setLantern k v).chart j = b.chart j) ∧
    (∀ j, (b.setLantern k v).ctx j = b.ctx j) ∧ (∀ j, (b.setLantern k v).queue j = b.queue j) ∧
    (∀ j, (b.setLantern k v).request j = b.request j) ∧ (∀ j, (b.setLantern k v).hw j = b.hw j) ∧
    (∀ j, (b.setLantern k v).beam j = b.beam j) ∧ (∀ j, (b.setLantern k v).accSet j = b.accSet j) ∧
    (∀ j, (b.setLantern k v).group j = b.group j) ∧ (∀ j, (b.setLantern k v).sinker j = b.sinker j) ∧
    (∀ j, (b.setLantern k v).hart j = b.hart j) ∧ (∀ j, (b.setLantern k v).cluster j = b.cluster j) ∧
    (∀ j, (b.setLantern k v).port j = b.port j) ∧ (∀ j, (b.setLantern k v).cart j = b.cart j) ∧
    (∀ j, (b.setLantern k v).link j = b.link j) ∧ (∀ j, (b.setLantern k v).sensor j = b.sensor j) ∧
    (∀ j, (b.setLantern k v).mailbox j = b.mailbox j) ∧ (∀ j, (b.setLantern k v).fw j = b.fw j) ∧
    (∀ j, (b.setLantern k v).guest j = b.guest j) := by
  and_intros <;> first | rfl | (intro _; rfl)

@[simp] theorem Block.setHw_hws (b : Block) (k : Nat) (v : Hw) : (b.setHw k v).hws = tput b.hws k v := rfl
@[simp] theorem Block.setHw_hw (b : Block) (k : Nat) (v : Hw) : (b.setHw k v).hw k = v := tget_tput_same _ _ _ _
theorem Block.setHw_hw_ne (b : Block) (k j : Nat) (v : Hw) (h : j ≠ k) : (b.setHw k v).hw j = b.hw j :=
  tget_tput_ne _ _ _ _ _ h
@[simp] theorem Block.updHw_eq (b : Block) (k : Nat) (g : Hw → Hw) : b.updHw k g = b.setHw k (g (b.hw k)) := rfl
@[simp] theorem Block.setHw_frame (b : Block) (k : Nat) (v : Hw) :
    (b.setHw k v).mem = b.mem ∧ (b.setHw k v).memPoison = b.memPoison ∧ (b.setHw k v).berths = b.berths ∧
    (b.setHw k v).domains = b.domains ∧ (b.setHw k v).channels = b.channels ∧ (b.setHw k v).lines = b.lines ∧
    (b.setHw k v).psets = b.psets ∧ (b.setHw k v).tiles = b.tiles ∧ (b.setHw k v).charts = b.charts ∧
    (b.setHw k v).withdrawals = b.withdrawals ∧ (b.setHw k v).nextWithdrawal = b.nextWithdrawal ∧
    (b.setHw k v).contexts = b.contexts ∧ (b.setHw k v).queues = b.queues ∧ (b.setHw k v).requests = b.requests ∧
    (b.setHw k v).lanterns = b.lanterns ∧ (b.setHw k v).beams = b.beams ∧ (b.setHw k v).sets = b.sets ∧
    (b.setHw k v).xfers = b.xfers ∧ (b.setHw k v).nextId = b.nextId ∧ (b.setHw k v).groups = b.groups ∧
    (b.setHw k v).sinkers = b.sinkers ∧ (b.setHw k v).checks = b.checks ∧ (b.setHw k v).harts = b.harts ∧
    (b.setHw k v).clusters = b.clusters ∧ (b.setHw k v).imsic = b.imsic ∧ (b.setHw k v).aplicM = b.aplicM ∧
    (b.setHw k v).aplicS = b.aplicS ∧ (b.setHw k v).ports = b.ports ∧ (b.setHw k v).carts = b.carts ∧
    (b.setHw k v).links = b.links ∧ (b.setHw k v).sensors = b.sensors ∧ (b.setHw k v).tray = b.tray ∧
    (b.setHw k v).start = b.start ∧ (b.setHw k v).events = b.events ∧ (b.setHw k v).errors = b.errors ∧
    (b.setHw k v).cmds = b.cmds ∧ (b.setHw k v).sessions = b.sessions ∧ (b.setHw k v).mailboxes = b.mailboxes ∧
    (b.setHw k v).store = b.store ∧ (b.setHw k v).power = b.power ∧ (b.setHw k v).silent = b.silent ∧
    (b.setHw k v).firmware = b.firmware ∧ (b.setHw k v).security = b.security ∧ (b.setHw k v).guests = b.guests ∧
    (b.setHw k v).picks = b.picks ∧ (∀ j, (b.setHw k v).berth j = b.berth j) ∧
    (∀ j, (b.setHw k v).domain j = b.domain j) ∧ (∀ j, (b.setHw k v).channel j = b.channel j) ∧
    (∀ j, (b.setHw k v).line j = b.line j) ∧ (∀ j, (b.setHw k v).pset j = b.pset j) ∧
    (∀ j, (b.setHw k v).tile j = b.tile j) ∧ (∀ j, (b.setHw k v).chart j = b.chart j) ∧
    (∀ j, (b.setHw k v).ctx j = b.ctx j) ∧ (∀ j, (b.setHw k v).queue j = b.queue j) ∧
    (∀ j, (b.setHw k v).request j = b.request j) ∧ (∀ j, (b.setHw k v).lantern j = b.lantern j) ∧
    (∀ j, (b.setHw k v).beam j = b.beam j) ∧ (∀ j, (b.setHw k v).accSet j = b.accSet j) ∧
    (∀ j, (b.setHw k v).group j = b.group j) ∧ (∀ j, (b.setHw k v).sinker j = b.sinker j) ∧
    (∀ j, (b.setHw k v).hart j = b.hart j) ∧ (∀ j, (b.setHw k v).cluster j = b.cluster j) ∧
    (∀ j, (b.setHw k v).port j = b.port j) ∧ (∀ j, (b.setHw k v).cart j = b.cart j) ∧
    (∀ j, (b.setHw k v).link j = b.link j) ∧ (∀ j, (b.setHw k v).sensor j = b.sensor j) ∧
    (∀ j, (b.setHw k v).mailbox j = b.mailbox j) ∧ (∀ j, (b.setHw k v).fw j = b.fw j) ∧
    (∀ j, (b.setHw k v).guest j = b.guest j) := by
  and_intros <;> first | rfl | (intro _; rfl)

@[simp] theorem Block.setBeam_beams (b : Block) (k : Nat) (v : Beam) : (b.setBeam k v).beams = tput b.beams k v := rfl
@[simp] theorem Block.setBeam_beam (b : Block) (k : Nat) (v : Beam) : (b.setBeam k v).beam k = v := tget_tput_same _ _ _ _
theorem Block.setBeam_beam_ne (b : Block) (k j : Nat) (v : Beam) (h : j ≠ k) : (b.setBeam k v).beam j = b.beam j :=
  tget_tput_ne _ _ _ _ _ h
@[simp] theorem Block.updBeam_eq (b : Block) (k : Nat) (g : Beam → Beam) : b.updBeam k g = b.setBeam k (g (b.beam k)) := rfl
@[simp] theorem Block.setBeam_frame (b : Block) (k : Nat) (v : Beam) :
    (b.setBeam k v).mem = b.mem ∧ (b.setBeam k v).memPoison = b.memPoison ∧ (b.setBeam k v).berths = b.berths ∧
    (b.setBeam k v).domains = b.domains ∧ (b.setBeam k v).channels = b.channels ∧ (b.setBeam k v).lines = b.lines ∧
    (b.setBeam k v).psets = b.psets ∧ (b.setBeam k v).tiles = b.tiles ∧ (b.setBeam k v).charts = b.charts ∧
    (b.setBeam k v).withdrawals = b.withdrawals ∧ (b.setBeam k v).nextWithdrawal = b.nextWithdrawal ∧
    (b.setBeam k v).contexts = b.contexts ∧ (b.setBeam k v).queues = b.queues ∧
    (b.setBeam k v).requests = b.requests ∧ (b.setBeam k v).lanterns = b.lanterns ∧ (b.setBeam k v).hws = b.hws ∧
    (b.setBeam k v).sets = b.sets ∧ (b.setBeam k v).xfers = b.xfers ∧ (b.setBeam k v).nextId = b.nextId ∧
    (b.setBeam k v).groups = b.groups ∧ (b.setBeam k v).sinkers = b.sinkers ∧ (b.setBeam k v).checks = b.checks ∧
    (b.setBeam k v).harts = b.harts ∧ (b.setBeam k v).clusters = b.clusters ∧ (b.setBeam k v).imsic = b.imsic ∧
    (b.setBeam k v).aplicM = b.aplicM ∧ (b.setBeam k v).aplicS = b.aplicS ∧ (b.setBeam k v).ports = b.ports ∧
    (b.setBeam k v).carts = b.carts ∧ (b.setBeam k v).links = b.links ∧ (b.setBeam k v).sensors = b.sensors ∧
    (b.setBeam k v).tray = b.tray ∧ (b.setBeam k v).start = b.start ∧ (b.setBeam k v).events = b.events ∧
    (b.setBeam k v).errors = b.errors ∧ (b.setBeam k v).cmds = b.cmds ∧ (b.setBeam k v).sessions = b.sessions ∧
    (b.setBeam k v).mailboxes = b.mailboxes ∧ (b.setBeam k v).store = b.store ∧ (b.setBeam k v).power = b.power ∧
    (b.setBeam k v).silent = b.silent ∧ (b.setBeam k v).firmware = b.firmware ∧
    (b.setBeam k v).security = b.security ∧ (b.setBeam k v).guests = b.guests ∧ (b.setBeam k v).picks = b.picks ∧
    (∀ j, (b.setBeam k v).berth j = b.berth j) ∧ (∀ j, (b.setBeam k v).domain j = b.domain j) ∧
    (∀ j, (b.setBeam k v).channel j = b.channel j) ∧ (∀ j, (b.setBeam k v).line j = b.line j) ∧
    (∀ j, (b.setBeam k v).pset j = b.pset j) ∧ (∀ j, (b.setBeam k v).tile j = b.tile j) ∧
    (∀ j, (b.setBeam k v).chart j = b.chart j) ∧ (∀ j, (b.setBeam k v).ctx j = b.ctx j) ∧
    (∀ j, (b.setBeam k v).queue j = b.queue j) ∧ (∀ j, (b.setBeam k v).request j = b.request j) ∧
    (∀ j, (b.setBeam k v).lantern j = b.lantern j) ∧ (∀ j, (b.setBeam k v).hw j = b.hw j) ∧
    (∀ j, (b.setBeam k v).accSet j = b.accSet j) ∧ (∀ j, (b.setBeam k v).group j = b.group j) ∧
    (∀ j, (b.setBeam k v).sinker j = b.sinker j) ∧ (∀ j, (b.setBeam k v).hart j = b.hart j) ∧
    (∀ j, (b.setBeam k v).cluster j = b.cluster j) ∧ (∀ j, (b.setBeam k v).port j = b.port j) ∧
    (∀ j, (b.setBeam k v).cart j = b.cart j) ∧ (∀ j, (b.setBeam k v).link j = b.link j) ∧
    (∀ j, (b.setBeam k v).sensor j = b.sensor j) ∧ (∀ j, (b.setBeam k v).mailbox j = b.mailbox j) ∧
    (∀ j, (b.setBeam k v).fw j = b.fw j) ∧ (∀ j, (b.setBeam k v).guest j = b.guest j) := by
  and_intros <;> first | rfl | (intro _; rfl)

@[simp] theorem Block.setAccSet_sets (b : Block) (k : Nat) (v : AccSet) : (b.setAccSet k v).sets = tput b.sets k v := rfl
@[simp] theorem Block.setAccSet_accSet (b : Block) (k : Nat) (v : AccSet) : (b.setAccSet k v).accSet k = v := tget_tput_same _ _ _ _
theorem Block.setAccSet_accSet_ne (b : Block) (k j : Nat) (v : AccSet) (h : j ≠ k) : (b.setAccSet k v).accSet j = b.accSet j :=
  tget_tput_ne _ _ _ _ _ h
@[simp] theorem Block.updAccSet_eq (b : Block) (k : Nat) (g : AccSet → AccSet) : b.updAccSet k g = b.setAccSet k (g (b.accSet k)) := rfl
@[simp] theorem Block.setAccSet_frame (b : Block) (k : Nat) (v : AccSet) :
    (b.setAccSet k v).mem = b.mem ∧ (b.setAccSet k v).memPoison = b.memPoison ∧
    (b.setAccSet k v).berths = b.berths ∧ (b.setAccSet k v).domains = b.domains ∧
    (b.setAccSet k v).channels = b.channels ∧ (b.setAccSet k v).lines = b.lines ∧
    (b.setAccSet k v).psets = b.psets ∧ (b.setAccSet k v).tiles = b.tiles ∧ (b.setAccSet k v).charts = b.charts ∧
    (b.setAccSet k v).withdrawals = b.withdrawals ∧ (b.setAccSet k v).nextWithdrawal = b.nextWithdrawal ∧
    (b.setAccSet k v).contexts = b.contexts ∧ (b.setAccSet k v).queues = b.queues ∧
    (b.setAccSet k v).requests = b.requests ∧ (b.setAccSet k v).lanterns = b.lanterns ∧
    (b.setAccSet k v).hws = b.hws ∧ (b.setAccSet k v).beams = b.beams ∧ (b.setAccSet k v).xfers = b.xfers ∧
    (b.setAccSet k v).nextId = b.nextId ∧ (b.setAccSet k v).groups = b.groups ∧
    (b.setAccSet k v).sinkers = b.sinkers ∧ (b.setAccSet k v).checks = b.checks ∧
    (b.setAccSet k v).harts = b.harts ∧ (b.setAccSet k v).clusters = b.clusters ∧
    (b.setAccSet k v).imsic = b.imsic ∧ (b.setAccSet k v).aplicM = b.aplicM ∧ (b.setAccSet k v).aplicS = b.aplicS ∧
    (b.setAccSet k v).ports = b.ports ∧ (b.setAccSet k v).carts = b.carts ∧ (b.setAccSet k v).links = b.links ∧
    (b.setAccSet k v).sensors = b.sensors ∧ (b.setAccSet k v).tray = b.tray ∧ (b.setAccSet k v).start = b.start ∧
    (b.setAccSet k v).events = b.events ∧ (b.setAccSet k v).errors = b.errors ∧ (b.setAccSet k v).cmds = b.cmds ∧
    (b.setAccSet k v).sessions = b.sessions ∧ (b.setAccSet k v).mailboxes = b.mailboxes ∧
    (b.setAccSet k v).store = b.store ∧ (b.setAccSet k v).power = b.power ∧ (b.setAccSet k v).silent = b.silent ∧
    (b.setAccSet k v).firmware = b.firmware ∧ (b.setAccSet k v).security = b.security ∧
    (b.setAccSet k v).guests = b.guests ∧ (b.setAccSet k v).picks = b.picks ∧
    (∀ j, (b.setAccSet k v).berth j = b.berth j) ∧ (∀ j, (b.setAccSet k v).domain j = b.domain j) ∧
    (∀ j, (b.setAccSet k v).channel j = b.channel j) ∧ (∀ j, (b.setAccSet k v).line j = b.line j) ∧
    (∀ j, (b.setAccSet k v).pset j = b.pset j) ∧ (∀ j, (b.setAccSet k v).tile j = b.tile j) ∧
    (∀ j, (b.setAccSet k v).chart j = b.chart j) ∧ (∀ j, (b.setAccSet k v).ctx j = b.ctx j) ∧
    (∀ j, (b.setAccSet k v).queue j = b.queue j) ∧ (∀ j, (b.setAccSet k v).request j = b.request j) ∧
    (∀ j, (b.setAccSet k v).lantern j = b.lantern j) ∧ (∀ j, (b.setAccSet k v).hw j = b.hw j) ∧
    (∀ j, (b.setAccSet k v).beam j = b.beam j) ∧ (∀ j, (b.setAccSet k v).group j = b.group j) ∧
    (∀ j, (b.setAccSet k v).sinker j = b.sinker j) ∧ (∀ j, (b.setAccSet k v).hart j = b.hart j) ∧
    (∀ j, (b.setAccSet k v).cluster j = b.cluster j) ∧ (∀ j, (b.setAccSet k v).port j = b.port j) ∧
    (∀ j, (b.setAccSet k v).cart j = b.cart j) ∧ (∀ j, (b.setAccSet k v).link j = b.link j) ∧
    (∀ j, (b.setAccSet k v).sensor j = b.sensor j) ∧ (∀ j, (b.setAccSet k v).mailbox j = b.mailbox j) ∧
    (∀ j, (b.setAccSet k v).fw j = b.fw j) ∧ (∀ j, (b.setAccSet k v).guest j = b.guest j) := by
  and_intros <;> first | rfl | (intro _; rfl)

@[simp] theorem Block.setGroup_groups (b : Block) (k : Nat) (v : Group) : (b.setGroup k v).groups = tput b.groups k v := rfl
@[simp] theorem Block.setGroup_group (b : Block) (k : Nat) (v : Group) : (b.setGroup k v).group k = v := tget_tput_same _ _ _ _
theorem Block.setGroup_group_ne (b : Block) (k j : Nat) (v : Group) (h : j ≠ k) : (b.setGroup k v).group j = b.group j :=
  tget_tput_ne _ _ _ _ _ h
@[simp] theorem Block.updGroup_eq (b : Block) (k : Nat) (g : Group → Group) : b.updGroup k g = b.setGroup k (g (b.group k)) := rfl
@[simp] theorem Block.setGroup_frame (b : Block) (k : Nat) (v : Group) :
    (b.setGroup k v).mem = b.mem ∧ (b.setGroup k v).memPoison = b.memPoison ∧ (b.setGroup k v).berths = b.berths ∧
    (b.setGroup k v).domains = b.domains ∧ (b.setGroup k v).channels = b.channels ∧
    (b.setGroup k v).lines = b.lines ∧ (b.setGroup k v).psets = b.psets ∧ (b.setGroup k v).tiles = b.tiles ∧
    (b.setGroup k v).charts = b.charts ∧ (b.setGroup k v).withdrawals = b.withdrawals ∧
    (b.setGroup k v).nextWithdrawal = b.nextWithdrawal ∧ (b.setGroup k v).contexts = b.contexts ∧
    (b.setGroup k v).queues = b.queues ∧ (b.setGroup k v).requests = b.requests ∧
    (b.setGroup k v).lanterns = b.lanterns ∧ (b.setGroup k v).hws = b.hws ∧ (b.setGroup k v).beams = b.beams ∧
    (b.setGroup k v).sets = b.sets ∧ (b.setGroup k v).xfers = b.xfers ∧ (b.setGroup k v).nextId = b.nextId ∧
    (b.setGroup k v).sinkers = b.sinkers ∧ (b.setGroup k v).checks = b.checks ∧ (b.setGroup k v).harts = b.harts ∧
    (b.setGroup k v).clusters = b.clusters ∧ (b.setGroup k v).imsic = b.imsic ∧
    (b.setGroup k v).aplicM = b.aplicM ∧ (b.setGroup k v).aplicS = b.aplicS ∧ (b.setGroup k v).ports = b.ports ∧
    (b.setGroup k v).carts = b.carts ∧ (b.setGroup k v).links = b.links ∧ (b.setGroup k v).sensors = b.sensors ∧
    (b.setGroup k v).tray = b.tray ∧ (b.setGroup k v).start = b.start ∧ (b.setGroup k v).events = b.events ∧
    (b.setGroup k v).errors = b.errors ∧ (b.setGroup k v).cmds = b.cmds ∧ (b.setGroup k v).sessions = b.sessions ∧
    (b.setGroup k v).mailboxes = b.mailboxes ∧ (b.setGroup k v).store = b.store ∧
    (b.setGroup k v).power = b.power ∧ (b.setGroup k v).silent = b.silent ∧
    (b.setGroup k v).firmware = b.firmware ∧ (b.setGroup k v).security = b.security ∧
    (b.setGroup k v).guests = b.guests ∧ (b.setGroup k v).picks = b.picks ∧
    (∀ j, (b.setGroup k v).berth j = b.berth j) ∧ (∀ j, (b.setGroup k v).domain j = b.domain j) ∧
    (∀ j, (b.setGroup k v).channel j = b.channel j) ∧ (∀ j, (b.setGroup k v).line j = b.line j) ∧
    (∀ j, (b.setGroup k v).pset j = b.pset j) ∧ (∀ j, (b.setGroup k v).tile j = b.tile j) ∧
    (∀ j, (b.setGroup k v).chart j = b.chart j) ∧ (∀ j, (b.setGroup k v).ctx j = b.ctx j) ∧
    (∀ j, (b.setGroup k v).queue j = b.queue j) ∧ (∀ j, (b.setGroup k v).request j = b.request j) ∧
    (∀ j, (b.setGroup k v).lantern j = b.lantern j) ∧ (∀ j, (b.setGroup k v).hw j = b.hw j) ∧
    (∀ j, (b.setGroup k v).beam j = b.beam j) ∧ (∀ j, (b.setGroup k v).accSet j = b.accSet j) ∧
    (∀ j, (b.setGroup k v).sinker j = b.sinker j) ∧ (∀ j, (b.setGroup k v).hart j = b.hart j) ∧
    (∀ j, (b.setGroup k v).cluster j = b.cluster j) ∧ (∀ j, (b.setGroup k v).port j = b.port j) ∧
    (∀ j, (b.setGroup k v).cart j = b.cart j) ∧ (∀ j, (b.setGroup k v).link j = b.link j) ∧
    (∀ j, (b.setGroup k v).sensor j = b.sensor j) ∧ (∀ j, (b.setGroup k v).mailbox j = b.mailbox j) ∧
    (∀ j, (b.setGroup k v).fw j = b.fw j) ∧ (∀ j, (b.setGroup k v).guest j = b.guest j) := by
  and_intros <;> first | rfl | (intro _; rfl)

@[simp] theorem Block.setSinker_sinkers (b : Block) (k : Nat) (v : Sinker) : (b.setSinker k v).sinkers = tput b.sinkers k v := rfl
@[simp] theorem Block.setSinker_sinker (b : Block) (k : Nat) (v : Sinker) : (b.setSinker k v).sinker k = v := tget_tput_same _ _ _ _
theorem Block.setSinker_sinker_ne (b : Block) (k j : Nat) (v : Sinker) (h : j ≠ k) : (b.setSinker k v).sinker j = b.sinker j :=
  tget_tput_ne _ _ _ _ _ h
@[simp] theorem Block.updSinker_eq (b : Block) (k : Nat) (g : Sinker → Sinker) : b.updSinker k g = b.setSinker k (g (b.sinker k)) := rfl
@[simp] theorem Block.setSinker_frame (b : Block) (k : Nat) (v : Sinker) :
    (b.setSinker k v).mem = b.mem ∧ (b.setSinker k v).memPoison = b.memPoison ∧
    (b.setSinker k v).berths = b.berths ∧ (b.setSinker k v).domains = b.domains ∧
    (b.setSinker k v).channels = b.channels ∧ (b.setSinker k v).lines = b.lines ∧
    (b.setSinker k v).psets = b.psets ∧ (b.setSinker k v).tiles = b.tiles ∧ (b.setSinker k v).charts = b.charts ∧
    (b.setSinker k v).withdrawals = b.withdrawals ∧ (b.setSinker k v).nextWithdrawal = b.nextWithdrawal ∧
    (b.setSinker k v).contexts = b.contexts ∧ (b.setSinker k v).queues = b.queues ∧
    (b.setSinker k v).requests = b.requests ∧ (b.setSinker k v).lanterns = b.lanterns ∧
    (b.setSinker k v).hws = b.hws ∧ (b.setSinker k v).beams = b.beams ∧ (b.setSinker k v).sets = b.sets ∧
    (b.setSinker k v).xfers = b.xfers ∧ (b.setSinker k v).nextId = b.nextId ∧ (b.setSinker k v).groups = b.groups ∧
    (b.setSinker k v).checks = b.checks ∧ (b.setSinker k v).harts = b.harts ∧
    (b.setSinker k v).clusters = b.clusters ∧ (b.setSinker k v).imsic = b.imsic ∧
    (b.setSinker k v).aplicM = b.aplicM ∧ (b.setSinker k v).aplicS = b.aplicS ∧ (b.setSinker k v).ports = b.ports ∧
    (b.setSinker k v).carts = b.carts ∧ (b.setSinker k v).links = b.links ∧ (b.setSinker k v).sensors = b.sensors ∧
    (b.setSinker k v).tray = b.tray ∧ (b.setSinker k v).start = b.start ∧ (b.setSinker k v).events = b.events ∧
    (b.setSinker k v).errors = b.errors ∧ (b.setSinker k v).cmds = b.cmds ∧
    (b.setSinker k v).sessions = b.sessions ∧ (b.setSinker k v).mailboxes = b.mailboxes ∧
    (b.setSinker k v).store = b.store ∧ (b.setSinker k v).power = b.power ∧ (b.setSinker k v).silent = b.silent ∧
    (b.setSinker k v).firmware = b.firmware ∧ (b.setSinker k v).security = b.security ∧
    (b.setSinker k v).guests = b.guests ∧ (b.setSinker k v).picks = b.picks ∧
    (∀ j, (b.setSinker k v).berth j = b.berth j) ∧ (∀ j, (b.setSinker k v).domain j = b.domain j) ∧
    (∀ j, (b.setSinker k v).channel j = b.channel j) ∧ (∀ j, (b.setSinker k v).line j = b.line j) ∧
    (∀ j, (b.setSinker k v).pset j = b.pset j) ∧ (∀ j, (b.setSinker k v).tile j = b.tile j) ∧
    (∀ j, (b.setSinker k v).chart j = b.chart j) ∧ (∀ j, (b.setSinker k v).ctx j = b.ctx j) ∧
    (∀ j, (b.setSinker k v).queue j = b.queue j) ∧ (∀ j, (b.setSinker k v).request j = b.request j) ∧
    (∀ j, (b.setSinker k v).lantern j = b.lantern j) ∧ (∀ j, (b.setSinker k v).hw j = b.hw j) ∧
    (∀ j, (b.setSinker k v).beam j = b.beam j) ∧ (∀ j, (b.setSinker k v).accSet j = b.accSet j) ∧
    (∀ j, (b.setSinker k v).group j = b.group j) ∧ (∀ j, (b.setSinker k v).hart j = b.hart j) ∧
    (∀ j, (b.setSinker k v).cluster j = b.cluster j) ∧ (∀ j, (b.setSinker k v).port j = b.port j) ∧
    (∀ j, (b.setSinker k v).cart j = b.cart j) ∧ (∀ j, (b.setSinker k v).link j = b.link j) ∧
    (∀ j, (b.setSinker k v).sensor j = b.sensor j) ∧ (∀ j, (b.setSinker k v).mailbox j = b.mailbox j) ∧
    (∀ j, (b.setSinker k v).fw j = b.fw j) ∧ (∀ j, (b.setSinker k v).guest j = b.guest j) := by
  and_intros <;> first | rfl | (intro _; rfl)

@[simp] theorem Block.setHart_harts (b : Block) (k : Nat) (v : Hart) : (b.setHart k v).harts = tput b.harts k v := rfl
@[simp] theorem Block.setHart_hart (b : Block) (k : Nat) (v : Hart) : (b.setHart k v).hart k = v := tget_tput_same _ _ _ _
theorem Block.setHart_hart_ne (b : Block) (k j : Nat) (v : Hart) (h : j ≠ k) : (b.setHart k v).hart j = b.hart j :=
  tget_tput_ne _ _ _ _ _ h
@[simp] theorem Block.updHart_eq (b : Block) (k : Nat) (g : Hart → Hart) : b.updHart k g = b.setHart k (g (b.hart k)) := rfl
@[simp] theorem Block.setHart_frame (b : Block) (k : Nat) (v : Hart) :
    (b.setHart k v).mem = b.mem ∧ (b.setHart k v).memPoison = b.memPoison ∧ (b.setHart k v).berths = b.berths ∧
    (b.setHart k v).domains = b.domains ∧ (b.setHart k v).channels = b.channels ∧ (b.setHart k v).lines = b.lines ∧
    (b.setHart k v).psets = b.psets ∧ (b.setHart k v).tiles = b.tiles ∧ (b.setHart k v).charts = b.charts ∧
    (b.setHart k v).withdrawals = b.withdrawals ∧ (b.setHart k v).nextWithdrawal = b.nextWithdrawal ∧
    (b.setHart k v).contexts = b.contexts ∧ (b.setHart k v).queues = b.queues ∧
    (b.setHart k v).requests = b.requests ∧ (b.setHart k v).lanterns = b.lanterns ∧ (b.setHart k v).hws = b.hws ∧
    (b.setHart k v).beams = b.beams ∧ (b.setHart k v).sets = b.sets ∧ (b.setHart k v).xfers = b.xfers ∧
    (b.setHart k v).nextId = b.nextId ∧ (b.setHart k v).groups = b.groups ∧ (b.setHart k v).sinkers = b.sinkers ∧
    (b.setHart k v).checks = b.checks ∧ (b.setHart k v).clusters = b.clusters ∧ (b.setHart k v).imsic = b.imsic ∧
    (b.setHart k v).aplicM = b.aplicM ∧ (b.setHart k v).aplicS = b.aplicS ∧ (b.setHart k v).ports = b.ports ∧
    (b.setHart k v).carts = b.carts ∧ (b.setHart k v).links = b.links ∧ (b.setHart k v).sensors = b.sensors ∧
    (b.setHart k v).tray = b.tray ∧ (b.setHart k v).start = b.start ∧ (b.setHart k v).events = b.events ∧
    (b.setHart k v).errors = b.errors ∧ (b.setHart k v).cmds = b.cmds ∧ (b.setHart k v).sessions = b.sessions ∧
    (b.setHart k v).mailboxes = b.mailboxes ∧ (b.setHart k v).store = b.store ∧ (b.setHart k v).power = b.power ∧
    (b.setHart k v).silent = b.silent ∧ (b.setHart k v).firmware = b.firmware ∧
    (b.setHart k v).security = b.security ∧ (b.setHart k v).guests = b.guests ∧ (b.setHart k v).picks = b.picks ∧
    (∀ j, (b.setHart k v).berth j = b.berth j) ∧ (∀ j, (b.setHart k v).domain j = b.domain j) ∧
    (∀ j, (b.setHart k v).channel j = b.channel j) ∧ (∀ j, (b.setHart k v).line j = b.line j) ∧
    (∀ j, (b.setHart k v).pset j = b.pset j) ∧ (∀ j, (b.setHart k v).tile j = b.tile j) ∧
    (∀ j, (b.setHart k v).chart j = b.chart j) ∧ (∀ j, (b.setHart k v).ctx j = b.ctx j) ∧
    (∀ j, (b.setHart k v).queue j = b.queue j) ∧ (∀ j, (b.setHart k v).request j = b.request j) ∧
    (∀ j, (b.setHart k v).lantern j = b.lantern j) ∧ (∀ j, (b.setHart k v).hw j = b.hw j) ∧
    (∀ j, (b.setHart k v).beam j = b.beam j) ∧ (∀ j, (b.setHart k v).accSet j = b.accSet j) ∧
    (∀ j, (b.setHart k v).group j = b.group j) ∧ (∀ j, (b.setHart k v).sinker j = b.sinker j) ∧
    (∀ j, (b.setHart k v).cluster j = b.cluster j) ∧ (∀ j, (b.setHart k v).port j = b.port j) ∧
    (∀ j, (b.setHart k v).cart j = b.cart j) ∧ (∀ j, (b.setHart k v).link j = b.link j) ∧
    (∀ j, (b.setHart k v).sensor j = b.sensor j) ∧ (∀ j, (b.setHart k v).mailbox j = b.mailbox j) ∧
    (∀ j, (b.setHart k v).fw j = b.fw j) ∧ (∀ j, (b.setHart k v).guest j = b.guest j) := by
  and_intros <;> first | rfl | (intro _; rfl)

@[simp] theorem Block.setCluster_clusters (b : Block) (k : Nat) (v : Cluster) : (b.setCluster k v).clusters = tput b.clusters k v := rfl
@[simp] theorem Block.setCluster_cluster (b : Block) (k : Nat) (v : Cluster) : (b.setCluster k v).cluster k = v := tget_tput_same _ _ _ _
theorem Block.setCluster_cluster_ne (b : Block) (k j : Nat) (v : Cluster) (h : j ≠ k) : (b.setCluster k v).cluster j = b.cluster j :=
  tget_tput_ne _ _ _ _ _ h
@[simp] theorem Block.updCluster_eq (b : Block) (k : Nat) (g : Cluster → Cluster) : b.updCluster k g = b.setCluster k (g (b.cluster k)) := rfl
@[simp] theorem Block.setCluster_frame (b : Block) (k : Nat) (v : Cluster) :
    (b.setCluster k v).mem = b.mem ∧ (b.setCluster k v).memPoison = b.memPoison ∧
    (b.setCluster k v).berths = b.berths ∧ (b.setCluster k v).domains = b.domains ∧
    (b.setCluster k v).channels = b.channels ∧ (b.setCluster k v).lines = b.lines ∧
    (b.setCluster k v).psets = b.psets ∧ (b.setCluster k v).tiles = b.tiles ∧
    (b.setCluster k v).charts = b.charts ∧ (b.setCluster k v).withdrawals = b.withdrawals ∧
    (b.setCluster k v).nextWithdrawal = b.nextWithdrawal ∧ (b.setCluster k v).contexts = b.contexts ∧
    (b.setCluster k v).queues = b.queues ∧ (b.setCluster k v).requests = b.requests ∧
    (b.setCluster k v).lanterns = b.lanterns ∧ (b.setCluster k v).hws = b.hws ∧
    (b.setCluster k v).beams = b.beams ∧ (b.setCluster k v).sets = b.sets ∧ (b.setCluster k v).xfers = b.xfers ∧
    (b.setCluster k v).nextId = b.nextId ∧ (b.setCluster k v).groups = b.groups ∧
    (b.setCluster k v).sinkers = b.sinkers ∧ (b.setCluster k v).checks = b.checks ∧
    (b.setCluster k v).harts = b.harts ∧ (b.setCluster k v).imsic = b.imsic ∧
    (b.setCluster k v).aplicM = b.aplicM ∧ (b.setCluster k v).aplicS = b.aplicS ∧
    (b.setCluster k v).ports = b.ports ∧ (b.setCluster k v).carts = b.carts ∧ (b.setCluster k v).links = b.links ∧
    (b.setCluster k v).sensors = b.sensors ∧ (b.setCluster k v).tray = b.tray ∧
    (b.setCluster k v).start = b.start ∧ (b.setCluster k v).events = b.events ∧
    (b.setCluster k v).errors = b.errors ∧ (b.setCluster k v).cmds = b.cmds ∧
    (b.setCluster k v).sessions = b.sessions ∧ (b.setCluster k v).mailboxes = b.mailboxes ∧
    (b.setCluster k v).store = b.store ∧ (b.setCluster k v).power = b.power ∧
    (b.setCluster k v).silent = b.silent ∧ (b.setCluster k v).firmware = b.firmware ∧
    (b.setCluster k v).security = b.security ∧ (b.setCluster k v).guests = b.guests ∧
    (b.setCluster k v).picks = b.picks ∧ (∀ j, (b.setCluster k v).berth j = b.berth j) ∧
    (∀ j, (b.setCluster k v).domain j = b.domain j) ∧ (∀ j, (b.setCluster k v).channel j = b.channel j) ∧
    (∀ j, (b.setCluster k v).line j = b.line j) ∧ (∀ j, (b.setCluster k v).pset j = b.pset j) ∧
    (∀ j, (b.setCluster k v).tile j = b.tile j) ∧ (∀ j, (b.setCluster k v).chart j = b.chart j) ∧
    (∀ j, (b.setCluster k v).ctx j = b.ctx j) ∧ (∀ j, (b.setCluster k v).queue j = b.queue j) ∧
    (∀ j, (b.setCluster k v).request j = b.request j) ∧ (∀ j, (b.setCluster k v).lantern j = b.lantern j) ∧
    (∀ j, (b.setCluster k v).hw j = b.hw j) ∧ (∀ j, (b.setCluster k v).beam j = b.beam j) ∧
    (∀ j, (b.setCluster k v).accSet j = b.accSet j) ∧ (∀ j, (b.setCluster k v).group j = b.group j) ∧
    (∀ j, (b.setCluster k v).sinker j = b.sinker j) ∧ (∀ j, (b.setCluster k v).hart j = b.hart j) ∧
    (∀ j, (b.setCluster k v).port j = b.port j) ∧ (∀ j, (b.setCluster k v).cart j = b.cart j) ∧
    (∀ j, (b.setCluster k v).link j = b.link j) ∧ (∀ j, (b.setCluster k v).sensor j = b.sensor j) ∧
    (∀ j, (b.setCluster k v).mailbox j = b.mailbox j) ∧ (∀ j, (b.setCluster k v).fw j = b.fw j) ∧
    (∀ j, (b.setCluster k v).guest j = b.guest j) := by
  and_intros <;> first | rfl | (intro _; rfl)

@[simp] theorem Block.setPort_ports (b : Block) (k : Nat) (v : Port) : (b.setPort k v).ports = tput b.ports k v := rfl
@[simp] theorem Block.setPort_port (b : Block) (k : Nat) (v : Port) : (b.setPort k v).port k = v := tget_tput_same _ _ _ _
theorem Block.setPort_port_ne (b : Block) (k j : Nat) (v : Port) (h : j ≠ k) : (b.setPort k v).port j = b.port j :=
  tget_tput_ne _ _ _ _ _ h
@[simp] theorem Block.updPort_eq (b : Block) (k : Nat) (g : Port → Port) : b.updPort k g = b.setPort k (g (b.port k)) := rfl
@[simp] theorem Block.setPort_frame (b : Block) (k : Nat) (v : Port) :
    (b.setPort k v).mem = b.mem ∧ (b.setPort k v).memPoison = b.memPoison ∧ (b.setPort k v).berths = b.berths ∧
    (b.setPort k v).domains = b.domains ∧ (b.setPort k v).channels = b.channels ∧ (b.setPort k v).lines = b.lines ∧
    (b.setPort k v).psets = b.psets ∧ (b.setPort k v).tiles = b.tiles ∧ (b.setPort k v).charts = b.charts ∧
    (b.setPort k v).withdrawals = b.withdrawals ∧ (b.setPort k v).nextWithdrawal = b.nextWithdrawal ∧
    (b.setPort k v).contexts = b.contexts ∧ (b.setPort k v).queues = b.queues ∧
    (b.setPort k v).requests = b.requests ∧ (b.setPort k v).lanterns = b.lanterns ∧ (b.setPort k v).hws = b.hws ∧
    (b.setPort k v).beams = b.beams ∧ (b.setPort k v).sets = b.sets ∧ (b.setPort k v).xfers = b.xfers ∧
    (b.setPort k v).nextId = b.nextId ∧ (b.setPort k v).groups = b.groups ∧ (b.setPort k v).sinkers = b.sinkers ∧
    (b.setPort k v).checks = b.checks ∧ (b.setPort k v).harts = b.harts ∧ (b.setPort k v).clusters = b.clusters ∧
    (b.setPort k v).imsic = b.imsic ∧ (b.setPort k v).aplicM = b.aplicM ∧ (b.setPort k v).aplicS = b.aplicS ∧
    (b.setPort k v).carts = b.carts ∧ (b.setPort k v).links = b.links ∧ (b.setPort k v).sensors = b.sensors ∧
    (b.setPort k v).tray = b.tray ∧ (b.setPort k v).start = b.start ∧ (b.setPort k v).events = b.events ∧
    (b.setPort k v).errors = b.errors ∧ (b.setPort k v).cmds = b.cmds ∧ (b.setPort k v).sessions = b.sessions ∧
    (b.setPort k v).mailboxes = b.mailboxes ∧ (b.setPort k v).store = b.store ∧ (b.setPort k v).power = b.power ∧
    (b.setPort k v).silent = b.silent ∧ (b.setPort k v).firmware = b.firmware ∧
    (b.setPort k v).security = b.security ∧ (b.setPort k v).guests = b.guests ∧ (b.setPort k v).picks = b.picks ∧
    (∀ j, (b.setPort k v).berth j = b.berth j) ∧ (∀ j, (b.setPort k v).domain j = b.domain j) ∧
    (∀ j, (b.setPort k v).channel j = b.channel j) ∧ (∀ j, (b.setPort k v).line j = b.line j) ∧
    (∀ j, (b.setPort k v).pset j = b.pset j) ∧ (∀ j, (b.setPort k v).tile j = b.tile j) ∧
    (∀ j, (b.setPort k v).chart j = b.chart j) ∧ (∀ j, (b.setPort k v).ctx j = b.ctx j) ∧
    (∀ j, (b.setPort k v).queue j = b.queue j) ∧ (∀ j, (b.setPort k v).request j = b.request j) ∧
    (∀ j, (b.setPort k v).lantern j = b.lantern j) ∧ (∀ j, (b.setPort k v).hw j = b.hw j) ∧
    (∀ j, (b.setPort k v).beam j = b.beam j) ∧ (∀ j, (b.setPort k v).accSet j = b.accSet j) ∧
    (∀ j, (b.setPort k v).group j = b.group j) ∧ (∀ j, (b.setPort k v).sinker j = b.sinker j) ∧
    (∀ j, (b.setPort k v).hart j = b.hart j) ∧ (∀ j, (b.setPort k v).cluster j = b.cluster j) ∧
    (∀ j, (b.setPort k v).cart j = b.cart j) ∧ (∀ j, (b.setPort k v).link j = b.link j) ∧
    (∀ j, (b.setPort k v).sensor j = b.sensor j) ∧ (∀ j, (b.setPort k v).mailbox j = b.mailbox j) ∧
    (∀ j, (b.setPort k v).fw j = b.fw j) ∧ (∀ j, (b.setPort k v).guest j = b.guest j) := by
  and_intros <;> first | rfl | (intro _; rfl)

@[simp] theorem Block.setCart_carts (b : Block) (k : Nat) (v : Cart) : (b.setCart k v).carts = tput b.carts k v := rfl
@[simp] theorem Block.setCart_cart (b : Block) (k : Nat) (v : Cart) : (b.setCart k v).cart k = v := tget_tput_same _ _ _ _
theorem Block.setCart_cart_ne (b : Block) (k j : Nat) (v : Cart) (h : j ≠ k) : (b.setCart k v).cart j = b.cart j :=
  tget_tput_ne _ _ _ _ _ h
@[simp] theorem Block.updCart_eq (b : Block) (k : Nat) (g : Cart → Cart) : b.updCart k g = b.setCart k (g (b.cart k)) := rfl
@[simp] theorem Block.setCart_frame (b : Block) (k : Nat) (v : Cart) :
    (b.setCart k v).mem = b.mem ∧ (b.setCart k v).memPoison = b.memPoison ∧ (b.setCart k v).berths = b.berths ∧
    (b.setCart k v).domains = b.domains ∧ (b.setCart k v).channels = b.channels ∧ (b.setCart k v).lines = b.lines ∧
    (b.setCart k v).psets = b.psets ∧ (b.setCart k v).tiles = b.tiles ∧ (b.setCart k v).charts = b.charts ∧
    (b.setCart k v).withdrawals = b.withdrawals ∧ (b.setCart k v).nextWithdrawal = b.nextWithdrawal ∧
    (b.setCart k v).contexts = b.contexts ∧ (b.setCart k v).queues = b.queues ∧
    (b.setCart k v).requests = b.requests ∧ (b.setCart k v).lanterns = b.lanterns ∧ (b.setCart k v).hws = b.hws ∧
    (b.setCart k v).beams = b.beams ∧ (b.setCart k v).sets = b.sets ∧ (b.setCart k v).xfers = b.xfers ∧
    (b.setCart k v).nextId = b.nextId ∧ (b.setCart k v).groups = b.groups ∧ (b.setCart k v).sinkers = b.sinkers ∧
    (b.setCart k v).checks = b.checks ∧ (b.setCart k v).harts = b.harts ∧ (b.setCart k v).clusters = b.clusters ∧
    (b.setCart k v).imsic = b.imsic ∧ (b.setCart k v).aplicM = b.aplicM ∧ (b.setCart k v).aplicS = b.aplicS ∧
    (b.setCart k v).ports = b.ports ∧ (b.setCart k v).links = b.links ∧ (b.setCart k v).sensors = b.sensors ∧
    (b.setCart k v).tray = b.tray ∧ (b.setCart k v).start = b.start ∧ (b.setCart k v).events = b.events ∧
    (b.setCart k v).errors = b.errors ∧ (b.setCart k v).cmds = b.cmds ∧ (b.setCart k v).sessions = b.sessions ∧
    (b.setCart k v).mailboxes = b.mailboxes ∧ (b.setCart k v).store = b.store ∧ (b.setCart k v).power = b.power ∧
    (b.setCart k v).silent = b.silent ∧ (b.setCart k v).firmware = b.firmware ∧
    (b.setCart k v).security = b.security ∧ (b.setCart k v).guests = b.guests ∧ (b.setCart k v).picks = b.picks ∧
    (∀ j, (b.setCart k v).berth j = b.berth j) ∧ (∀ j, (b.setCart k v).domain j = b.domain j) ∧
    (∀ j, (b.setCart k v).channel j = b.channel j) ∧ (∀ j, (b.setCart k v).line j = b.line j) ∧
    (∀ j, (b.setCart k v).pset j = b.pset j) ∧ (∀ j, (b.setCart k v).tile j = b.tile j) ∧
    (∀ j, (b.setCart k v).chart j = b.chart j) ∧ (∀ j, (b.setCart k v).ctx j = b.ctx j) ∧
    (∀ j, (b.setCart k v).queue j = b.queue j) ∧ (∀ j, (b.setCart k v).request j = b.request j) ∧
    (∀ j, (b.setCart k v).lantern j = b.lantern j) ∧ (∀ j, (b.setCart k v).hw j = b.hw j) ∧
    (∀ j, (b.setCart k v).beam j = b.beam j) ∧ (∀ j, (b.setCart k v).accSet j = b.accSet j) ∧
    (∀ j, (b.setCart k v).group j = b.group j) ∧ (∀ j, (b.setCart k v).sinker j = b.sinker j) ∧
    (∀ j, (b.setCart k v).hart j = b.hart j) ∧ (∀ j, (b.setCart k v).cluster j = b.cluster j) ∧
    (∀ j, (b.setCart k v).port j = b.port j) ∧ (∀ j, (b.setCart k v).link j = b.link j) ∧
    (∀ j, (b.setCart k v).sensor j = b.sensor j) ∧ (∀ j, (b.setCart k v).mailbox j = b.mailbox j) ∧
    (∀ j, (b.setCart k v).fw j = b.fw j) ∧ (∀ j, (b.setCart k v).guest j = b.guest j) := by
  and_intros <;> first | rfl | (intro _; rfl)

@[simp] theorem Block.setLink_links (b : Block) (k : Nat) (v : Link) : (b.setLink k v).links = tput b.links k v := rfl
@[simp] theorem Block.setLink_link (b : Block) (k : Nat) (v : Link) : (b.setLink k v).link k = v := tget_tput_same _ _ _ _
theorem Block.setLink_link_ne (b : Block) (k j : Nat) (v : Link) (h : j ≠ k) : (b.setLink k v).link j = b.link j :=
  tget_tput_ne _ _ _ _ _ h
@[simp] theorem Block.updLink_eq (b : Block) (k : Nat) (g : Link → Link) : b.updLink k g = b.setLink k (g (b.link k)) := rfl
@[simp] theorem Block.setLink_frame (b : Block) (k : Nat) (v : Link) :
    (b.setLink k v).mem = b.mem ∧ (b.setLink k v).memPoison = b.memPoison ∧ (b.setLink k v).berths = b.berths ∧
    (b.setLink k v).domains = b.domains ∧ (b.setLink k v).channels = b.channels ∧ (b.setLink k v).lines = b.lines ∧
    (b.setLink k v).psets = b.psets ∧ (b.setLink k v).tiles = b.tiles ∧ (b.setLink k v).charts = b.charts ∧
    (b.setLink k v).withdrawals = b.withdrawals ∧ (b.setLink k v).nextWithdrawal = b.nextWithdrawal ∧
    (b.setLink k v).contexts = b.contexts ∧ (b.setLink k v).queues = b.queues ∧
    (b.setLink k v).requests = b.requests ∧ (b.setLink k v).lanterns = b.lanterns ∧ (b.setLink k v).hws = b.hws ∧
    (b.setLink k v).beams = b.beams ∧ (b.setLink k v).sets = b.sets ∧ (b.setLink k v).xfers = b.xfers ∧
    (b.setLink k v).nextId = b.nextId ∧ (b.setLink k v).groups = b.groups ∧ (b.setLink k v).sinkers = b.sinkers ∧
    (b.setLink k v).checks = b.checks ∧ (b.setLink k v).harts = b.harts ∧ (b.setLink k v).clusters = b.clusters ∧
    (b.setLink k v).imsic = b.imsic ∧ (b.setLink k v).aplicM = b.aplicM ∧ (b.setLink k v).aplicS = b.aplicS ∧
    (b.setLink k v).ports = b.ports ∧ (b.setLink k v).carts = b.carts ∧ (b.setLink k v).sensors = b.sensors ∧
    (b.setLink k v).tray = b.tray ∧ (b.setLink k v).start = b.start ∧ (b.setLink k v).events = b.events ∧
    (b.setLink k v).errors = b.errors ∧ (b.setLink k v).cmds = b.cmds ∧ (b.setLink k v).sessions = b.sessions ∧
    (b.setLink k v).mailboxes = b.mailboxes ∧ (b.setLink k v).store = b.store ∧ (b.setLink k v).power = b.power ∧
    (b.setLink k v).silent = b.silent ∧ (b.setLink k v).firmware = b.firmware ∧
    (b.setLink k v).security = b.security ∧ (b.setLink k v).guests = b.guests ∧ (b.setLink k v).picks = b.picks ∧
    (∀ j, (b.setLink k v).berth j = b.berth j) ∧ (∀ j, (b.setLink k v).domain j = b.domain j) ∧
    (∀ j, (b.setLink k v).channel j = b.channel j) ∧ (∀ j, (b.setLink k v).line j = b.line j) ∧
    (∀ j, (b.setLink k v).pset j = b.pset j) ∧ (∀ j, (b.setLink k v).tile j = b.tile j) ∧
    (∀ j, (b.setLink k v).chart j = b.chart j) ∧ (∀ j, (b.setLink k v).ctx j = b.ctx j) ∧
    (∀ j, (b.setLink k v).queue j = b.queue j) ∧ (∀ j, (b.setLink k v).request j = b.request j) ∧
    (∀ j, (b.setLink k v).lantern j = b.lantern j) ∧ (∀ j, (b.setLink k v).hw j = b.hw j) ∧
    (∀ j, (b.setLink k v).beam j = b.beam j) ∧ (∀ j, (b.setLink k v).accSet j = b.accSet j) ∧
    (∀ j, (b.setLink k v).group j = b.group j) ∧ (∀ j, (b.setLink k v).sinker j = b.sinker j) ∧
    (∀ j, (b.setLink k v).hart j = b.hart j) ∧ (∀ j, (b.setLink k v).cluster j = b.cluster j) ∧
    (∀ j, (b.setLink k v).port j = b.port j) ∧ (∀ j, (b.setLink k v).cart j = b.cart j) ∧
    (∀ j, (b.setLink k v).sensor j = b.sensor j) ∧ (∀ j, (b.setLink k v).mailbox j = b.mailbox j) ∧
    (∀ j, (b.setLink k v).fw j = b.fw j) ∧ (∀ j, (b.setLink k v).guest j = b.guest j) := by
  and_intros <;> first | rfl | (intro _; rfl)

@[simp] theorem Block.setSensor_sensors (b : Block) (k : Nat) (v : Sensor) : (b.setSensor k v).sensors = tput b.sensors k v := rfl
@[simp] theorem Block.setSensor_sensor (b : Block) (k : Nat) (v : Sensor) : (b.setSensor k v).sensor k = v := tget_tput_same _ _ _ _
theorem Block.setSensor_sensor_ne (b : Block) (k j : Nat) (v : Sensor) (h : j ≠ k) : (b.setSensor k v).sensor j = b.sensor j :=
  tget_tput_ne _ _ _ _ _ h
@[simp] theorem Block.updSensor_eq (b : Block) (k : Nat) (g : Sensor → Sensor) : b.updSensor k g = b.setSensor k (g (b.sensor k)) := rfl
@[simp] theorem Block.setSensor_frame (b : Block) (k : Nat) (v : Sensor) :
    (b.setSensor k v).mem = b.mem ∧ (b.setSensor k v).memPoison = b.memPoison ∧
    (b.setSensor k v).berths = b.berths ∧ (b.setSensor k v).domains = b.domains ∧
    (b.setSensor k v).channels = b.channels ∧ (b.setSensor k v).lines = b.lines ∧
    (b.setSensor k v).psets = b.psets ∧ (b.setSensor k v).tiles = b.tiles ∧ (b.setSensor k v).charts = b.charts ∧
    (b.setSensor k v).withdrawals = b.withdrawals ∧ (b.setSensor k v).nextWithdrawal = b.nextWithdrawal ∧
    (b.setSensor k v).contexts = b.contexts ∧ (b.setSensor k v).queues = b.queues ∧
    (b.setSensor k v).requests = b.requests ∧ (b.setSensor k v).lanterns = b.lanterns ∧
    (b.setSensor k v).hws = b.hws ∧ (b.setSensor k v).beams = b.beams ∧ (b.setSensor k v).sets = b.sets ∧
    (b.setSensor k v).xfers = b.xfers ∧ (b.setSensor k v).nextId = b.nextId ∧ (b.setSensor k v).groups = b.groups ∧
    (b.setSensor k v).sinkers = b.sinkers ∧ (b.setSensor k v).checks = b.checks ∧
    (b.setSensor k v).harts = b.harts ∧ (b.setSensor k v).clusters = b.clusters ∧
    (b.setSensor k v).imsic = b.imsic ∧ (b.setSensor k v).aplicM = b.aplicM ∧ (b.setSensor k v).aplicS = b.aplicS ∧
    (b.setSensor k v).ports = b.ports ∧ (b.setSensor k v).carts = b.carts ∧ (b.setSensor k v).links = b.links ∧
    (b.setSensor k v).tray = b.tray ∧ (b.setSensor k v).start = b.start ∧ (b.setSensor k v).events = b.events ∧
    (b.setSensor k v).errors = b.errors ∧ (b.setSensor k v).cmds = b.cmds ∧
    (b.setSensor k v).sessions = b.sessions ∧ (b.setSensor k v).mailboxes = b.mailboxes ∧
    (b.setSensor k v).store = b.store ∧ (b.setSensor k v).power = b.power ∧ (b.setSensor k v).silent = b.silent ∧
    (b.setSensor k v).firmware = b.firmware ∧ (b.setSensor k v).security = b.security ∧
    (b.setSensor k v).guests = b.guests ∧ (b.setSensor k v).picks = b.picks ∧
    (∀ j, (b.setSensor k v).berth j = b.berth j) ∧ (∀ j, (b.setSensor k v).domain j = b.domain j) ∧
    (∀ j, (b.setSensor k v).channel j = b.channel j) ∧ (∀ j, (b.setSensor k v).line j = b.line j) ∧
    (∀ j, (b.setSensor k v).pset j = b.pset j) ∧ (∀ j, (b.setSensor k v).tile j = b.tile j) ∧
    (∀ j, (b.setSensor k v).chart j = b.chart j) ∧ (∀ j, (b.setSensor k v).ctx j = b.ctx j) ∧
    (∀ j, (b.setSensor k v).queue j = b.queue j) ∧ (∀ j, (b.setSensor k v).request j = b.request j) ∧
    (∀ j, (b.setSensor k v).lantern j = b.lantern j) ∧ (∀ j, (b.setSensor k v).hw j = b.hw j) ∧
    (∀ j, (b.setSensor k v).beam j = b.beam j) ∧ (∀ j, (b.setSensor k v).accSet j = b.accSet j) ∧
    (∀ j, (b.setSensor k v).group j = b.group j) ∧ (∀ j, (b.setSensor k v).sinker j = b.sinker j) ∧
    (∀ j, (b.setSensor k v).hart j = b.hart j) ∧ (∀ j, (b.setSensor k v).cluster j = b.cluster j) ∧
    (∀ j, (b.setSensor k v).port j = b.port j) ∧ (∀ j, (b.setSensor k v).cart j = b.cart j) ∧
    (∀ j, (b.setSensor k v).link j = b.link j) ∧ (∀ j, (b.setSensor k v).mailbox j = b.mailbox j) ∧
    (∀ j, (b.setSensor k v).fw j = b.fw j) ∧ (∀ j, (b.setSensor k v).guest j = b.guest j) := by
  and_intros <;> first | rfl | (intro _; rfl)

@[simp] theorem Block.setMailbox_mailboxes (b : Block) (k : Nat) (v : Mailbox) : (b.setMailbox k v).mailboxes = tput b.mailboxes k v := rfl
@[simp] theorem Block.setMailbox_mailbox (b : Block) (k : Nat) (v : Mailbox) : (b.setMailbox k v).mailbox k = v := tget_tput_same _ _ _ _
theorem Block.setMailbox_mailbox_ne (b : Block) (k j : Nat) (v : Mailbox) (h : j ≠ k) : (b.setMailbox k v).mailbox j = b.mailbox j :=
  tget_tput_ne _ _ _ _ _ h
@[simp] theorem Block.updMailbox_eq (b : Block) (k : Nat) (g : Mailbox → Mailbox) : b.updMailbox k g = b.setMailbox k (g (b.mailbox k)) := rfl
@[simp] theorem Block.setMailbox_frame (b : Block) (k : Nat) (v : Mailbox) :
    (b.setMailbox k v).mem = b.mem ∧ (b.setMailbox k v).memPoison = b.memPoison ∧
    (b.setMailbox k v).berths = b.berths ∧ (b.setMailbox k v).domains = b.domains ∧
    (b.setMailbox k v).channels = b.channels ∧ (b.setMailbox k v).lines = b.lines ∧
    (b.setMailbox k v).psets = b.psets ∧ (b.setMailbox k v).tiles = b.tiles ∧
    (b.setMailbox k v).charts = b.charts ∧ (b.setMailbox k v).withdrawals = b.withdrawals ∧
    (b.setMailbox k v).nextWithdrawal = b.nextWithdrawal ∧ (b.setMailbox k v).contexts = b.contexts ∧
    (b.setMailbox k v).queues = b.queues ∧ (b.setMailbox k v).requests = b.requests ∧
    (b.setMailbox k v).lanterns = b.lanterns ∧ (b.setMailbox k v).hws = b.hws ∧
    (b.setMailbox k v).beams = b.beams ∧ (b.setMailbox k v).sets = b.sets ∧ (b.setMailbox k v).xfers = b.xfers ∧
    (b.setMailbox k v).nextId = b.nextId ∧ (b.setMailbox k v).groups = b.groups ∧
    (b.setMailbox k v).sinkers = b.sinkers ∧ (b.setMailbox k v).checks = b.checks ∧
    (b.setMailbox k v).harts = b.harts ∧ (b.setMailbox k v).clusters = b.clusters ∧
    (b.setMailbox k v).imsic = b.imsic ∧ (b.setMailbox k v).aplicM = b.aplicM ∧
    (b.setMailbox k v).aplicS = b.aplicS ∧ (b.setMailbox k v).ports = b.ports ∧
    (b.setMailbox k v).carts = b.carts ∧ (b.setMailbox k v).links = b.links ∧
    (b.setMailbox k v).sensors = b.sensors ∧ (b.setMailbox k v).tray = b.tray ∧
    (b.setMailbox k v).start = b.start ∧ (b.setMailbox k v).events = b.events ∧
    (b.setMailbox k v).errors = b.errors ∧ (b.setMailbox k v).cmds = b.cmds ∧
    (b.setMailbox k v).sessions = b.sessions ∧ (b.setMailbox k v).store = b.store ∧
    (b.setMailbox k v).power = b.power ∧ (b.setMailbox k v).silent = b.silent ∧
    (b.setMailbox k v).firmware = b.firmware ∧ (b.setMailbox k v).security = b.security ∧
    (b.setMailbox k v).guests = b.guests ∧ (b.setMailbox k v).picks = b.picks ∧
    (∀ j, (b.setMailbox k v).berth j = b.berth j) ∧ (∀ j, (b.setMailbox k v).domain j = b.domain j) ∧
    (∀ j, (b.setMailbox k v).channel j = b.channel j) ∧ (∀ j, (b.setMailbox k v).line j = b.line j) ∧
    (∀ j, (b.setMailbox k v).pset j = b.pset j) ∧ (∀ j, (b.setMailbox k v).tile j = b.tile j) ∧
    (∀ j, (b.setMailbox k v).chart j = b.chart j) ∧ (∀ j, (b.setMailbox k v).ctx j = b.ctx j) ∧
    (∀ j, (b.setMailbox k v).queue j = b.queue j) ∧ (∀ j, (b.setMailbox k v).request j = b.request j) ∧
    (∀ j, (b.setMailbox k v).lantern j = b.lantern j) ∧ (∀ j, (b.setMailbox k v).hw j = b.hw j) ∧
    (∀ j, (b.setMailbox k v).beam j = b.beam j) ∧ (∀ j, (b.setMailbox k v).accSet j = b.accSet j) ∧
    (∀ j, (b.setMailbox k v).group j = b.group j) ∧ (∀ j, (b.setMailbox k v).sinker j = b.sinker j) ∧
    (∀ j, (b.setMailbox k v).hart j = b.hart j) ∧ (∀ j, (b.setMailbox k v).cluster j = b.cluster j) ∧
    (∀ j, (b.setMailbox k v).port j = b.port j) ∧ (∀ j, (b.setMailbox k v).cart j = b.cart j) ∧
    (∀ j, (b.setMailbox k v).link j = b.link j) ∧ (∀ j, (b.setMailbox k v).sensor j = b.sensor j) ∧
    (∀ j, (b.setMailbox k v).fw j = b.fw j) ∧ (∀ j, (b.setMailbox k v).guest j = b.guest j) := by
  and_intros <;> first | rfl | (intro _; rfl)

@[simp] theorem Block.setFw_firmware (b : Block) (k : Nat) (v : Firmware) : (b.setFw k v).firmware = tput b.firmware k v := rfl
@[simp] theorem Block.setFw_fw (b : Block) (k : Nat) (v : Firmware) : (b.setFw k v).fw k = v := tget_tput_same _ _ _ _
theorem Block.setFw_fw_ne (b : Block) (k j : Nat) (v : Firmware) (h : j ≠ k) : (b.setFw k v).fw j = b.fw j :=
  tget_tput_ne _ _ _ _ _ h
@[simp] theorem Block.updFw_eq (b : Block) (k : Nat) (g : Firmware → Firmware) : b.updFw k g = b.setFw k (g (b.fw k)) := rfl
@[simp] theorem Block.setFw_frame (b : Block) (k : Nat) (v : Firmware) :
    (b.setFw k v).mem = b.mem ∧ (b.setFw k v).memPoison = b.memPoison ∧ (b.setFw k v).berths = b.berths ∧
    (b.setFw k v).domains = b.domains ∧ (b.setFw k v).channels = b.channels ∧ (b.setFw k v).lines = b.lines ∧
    (b.setFw k v).psets = b.psets ∧ (b.setFw k v).tiles = b.tiles ∧ (b.setFw k v).charts = b.charts ∧
    (b.setFw k v).withdrawals = b.withdrawals ∧ (b.setFw k v).nextWithdrawal = b.nextWithdrawal ∧
    (b.setFw k v).contexts = b.contexts ∧ (b.setFw k v).queues = b.queues ∧ (b.setFw k v).requests = b.requests ∧
    (b.setFw k v).lanterns = b.lanterns ∧ (b.setFw k v).hws = b.hws ∧ (b.setFw k v).beams = b.beams ∧
    (b.setFw k v).sets = b.sets ∧ (b.setFw k v).xfers = b.xfers ∧ (b.setFw k v).nextId = b.nextId ∧
    (b.setFw k v).groups = b.groups ∧ (b.setFw k v).sinkers = b.sinkers ∧ (b.setFw k v).checks = b.checks ∧
    (b.setFw k v).harts = b.harts ∧ (b.setFw k v).clusters = b.clusters ∧ (b.setFw k v).imsic = b.imsic ∧
    (b.setFw k v).aplicM = b.aplicM ∧ (b.setFw k v).aplicS = b.aplicS ∧ (b.setFw k v).ports = b.ports ∧
    (b.setFw k v).carts = b.carts ∧ (b.setFw k v).links = b.links ∧ (b.setFw k v).sensors = b.sensors ∧
    (b.setFw k v).tray = b.tray ∧ (b.setFw k v).start = b.start ∧ (b.setFw k v).events = b.events ∧
    (b.setFw k v).errors = b.errors ∧ (b.setFw k v).cmds = b.cmds ∧ (b.setFw k v).sessions = b.sessions ∧
    (b.setFw k v).mailboxes = b.mailboxes ∧ (b.setFw k v).store = b.store ∧ (b.setFw k v).power = b.power ∧
    (b.setFw k v).silent = b.silent ∧ (b.setFw k v).security = b.security ∧ (b.setFw k v).guests = b.guests ∧
    (b.setFw k v).picks = b.picks ∧ (∀ j, (b.setFw k v).berth j = b.berth j) ∧
    (∀ j, (b.setFw k v).domain j = b.domain j) ∧ (∀ j, (b.setFw k v).channel j = b.channel j) ∧
    (∀ j, (b.setFw k v).line j = b.line j) ∧ (∀ j, (b.setFw k v).pset j = b.pset j) ∧
    (∀ j, (b.setFw k v).tile j = b.tile j) ∧ (∀ j, (b.setFw k v).chart j = b.chart j) ∧
    (∀ j, (b.setFw k v).ctx j = b.ctx j) ∧ (∀ j, (b.setFw k v).queue j = b.queue j) ∧
    (∀ j, (b.setFw k v).request j = b.request j) ∧ (∀ j, (b.setFw k v).lantern j = b.lantern j) ∧
    (∀ j, (b.setFw k v).hw j = b.hw j) ∧ (∀ j, (b.setFw k v).beam j = b.beam j) ∧
    (∀ j, (b.setFw k v).accSet j = b.accSet j) ∧ (∀ j, (b.setFw k v).group j = b.group j) ∧
    (∀ j, (b.setFw k v).sinker j = b.sinker j) ∧ (∀ j, (b.setFw k v).hart j = b.hart j) ∧
    (∀ j, (b.setFw k v).cluster j = b.cluster j) ∧ (∀ j, (b.setFw k v).port j = b.port j) ∧
    (∀ j, (b.setFw k v).cart j = b.cart j) ∧ (∀ j, (b.setFw k v).link j = b.link j) ∧
    (∀ j, (b.setFw k v).sensor j = b.sensor j) ∧ (∀ j, (b.setFw k v).mailbox j = b.mailbox j) ∧
    (∀ j, (b.setFw k v).guest j = b.guest j) := by
  and_intros <;> first | rfl | (intro _; rfl)

@[simp] theorem Block.setGuest_guests (b : Block) (k : Nat) (v : Guest) : (b.setGuest k v).guests = tput b.guests k v := rfl
@[simp] theorem Block.setGuest_guest (b : Block) (k : Nat) (v : Guest) : (b.setGuest k v).guest k = v := tget_tput_same _ _ _ _
theorem Block.setGuest_guest_ne (b : Block) (k j : Nat) (v : Guest) (h : j ≠ k) : (b.setGuest k v).guest j = b.guest j :=
  tget_tput_ne _ _ _ _ _ h
@[simp] theorem Block.updGuest_eq (b : Block) (k : Nat) (g : Guest → Guest) : b.updGuest k g = b.setGuest k (g (b.guest k)) := rfl
@[simp] theorem Block.setGuest_frame (b : Block) (k : Nat) (v : Guest) :
    (b.setGuest k v).mem = b.mem ∧ (b.setGuest k v).memPoison = b.memPoison ∧ (b.setGuest k v).berths = b.berths ∧
    (b.setGuest k v).domains = b.domains ∧ (b.setGuest k v).channels = b.channels ∧
    (b.setGuest k v).lines = b.lines ∧ (b.setGuest k v).psets = b.psets ∧ (b.setGuest k v).tiles = b.tiles ∧
    (b.setGuest k v).charts = b.charts ∧ (b.setGuest k v).withdrawals = b.withdrawals ∧
    (b.setGuest k v).nextWithdrawal = b.nextWithdrawal ∧ (b.setGuest k v).contexts = b.contexts ∧
    (b.setGuest k v).queues = b.queues ∧ (b.setGuest k v).requests = b.requests ∧
    (b.setGuest k v).lanterns = b.lanterns ∧ (b.setGuest k v).hws = b.hws ∧ (b.setGuest k v).beams = b.beams ∧
    (b.setGuest k v).sets = b.sets ∧ (b.setGuest k v).xfers = b.xfers ∧ (b.setGuest k v).nextId = b.nextId ∧
    (b.setGuest k v).groups = b.groups ∧ (b.setGuest k v).sinkers = b.sinkers ∧
    (b.setGuest k v).checks = b.checks ∧ (b.setGuest k v).harts = b.harts ∧
    (b.setGuest k v).clusters = b.clusters ∧ (b.setGuest k v).imsic = b.imsic ∧
    (b.setGuest k v).aplicM = b.aplicM ∧ (b.setGuest k v).aplicS = b.aplicS ∧ (b.setGuest k v).ports = b.ports ∧
    (b.setGuest k v).carts = b.carts ∧ (b.setGuest k v).links = b.links ∧ (b.setGuest k v).sensors = b.sensors ∧
    (b.setGuest k v).tray = b.tray ∧ (b.setGuest k v).start = b.start ∧ (b.setGuest k v).events = b.events ∧
    (b.setGuest k v).errors = b.errors ∧ (b.setGuest k v).cmds = b.cmds ∧ (b.setGuest k v).sessions = b.sessions ∧
    (b.setGuest k v).mailboxes = b.mailboxes ∧ (b.setGuest k v).store = b.store ∧
    (b.setGuest k v).power = b.power ∧ (b.setGuest k v).silent = b.silent ∧
    (b.setGuest k v).firmware = b.firmware ∧ (b.setGuest k v).security = b.security ∧
    (b.setGuest k v).picks = b.picks ∧ (∀ j, (b.setGuest k v).berth j = b.berth j) ∧
    (∀ j, (b.setGuest k v).domain j = b.domain j) ∧ (∀ j, (b.setGuest k v).channel j = b.channel j) ∧
    (∀ j, (b.setGuest k v).line j = b.line j) ∧ (∀ j, (b.setGuest k v).pset j = b.pset j) ∧
    (∀ j, (b.setGuest k v).tile j = b.tile j) ∧ (∀ j, (b.setGuest k v).chart j = b.chart j) ∧
    (∀ j, (b.setGuest k v).ctx j = b.ctx j) ∧ (∀ j, (b.setGuest k v).queue j = b.queue j) ∧
    (∀ j, (b.setGuest k v).request j = b.request j) ∧ (∀ j, (b.setGuest k v).lantern j = b.lantern j) ∧
    (∀ j, (b.setGuest k v).hw j = b.hw j) ∧ (∀ j, (b.setGuest k v).beam j = b.beam j) ∧
    (∀ j, (b.setGuest k v).accSet j = b.accSet j) ∧ (∀ j, (b.setGuest k v).group j = b.group j) ∧
    (∀ j, (b.setGuest k v).sinker j = b.sinker j) ∧ (∀ j, (b.setGuest k v).hart j = b.hart j) ∧
    (∀ j, (b.setGuest k v).cluster j = b.cluster j) ∧ (∀ j, (b.setGuest k v).port j = b.port j) ∧
    (∀ j, (b.setGuest k v).cart j = b.cart j) ∧ (∀ j, (b.setGuest k v).link j = b.link j) ∧
    (∀ j, (b.setGuest k v).sensor j = b.sensor j) ∧ (∀ j, (b.setGuest k v).mailbox j = b.mailbox j) ∧
    (∀ j, (b.setGuest k v).fw j = b.fw j) := by
  and_intros <;> first | rfl | (intro _; rfl)

/-! ### Events, alerts, interrupts and replies -/

@[simp] theorem Block.raiseRec_frame (b : Block) (u : Nat) (e : Ev) (args : List Nat) (cl : Bool) :
    (b.raiseRec u e args cl).mem = b.mem ∧ (b.raiseRec u e args cl).memPoison = b.memPoison ∧
    (b.raiseRec u e args cl).berths = b.berths ∧ (b.raiseRec u e args cl).domains = b.domains ∧
    (b.raiseRec u e args cl).channels = b.channels ∧ (b.raiseRec u e args cl).lines = b.lines ∧
    (b.raiseRec u e args cl).psets = b.psets ∧ (b.raiseRec u e args cl).tiles = b.tiles ∧
    (b.raiseRec u e args cl).charts = b.charts ∧ (b.raiseRec u e args cl).withdrawals = b.withdrawals ∧
    (b.raiseRec u e args cl).nextWithdrawal = b.nextWithdrawal ∧ (b.raiseRec u e args cl).contexts = b.contexts ∧
    (b.raiseRec u e args cl).queues = b.queues ∧ (b.raiseRec u e args cl).requests = b.requests ∧
    (b.raiseRec u e args cl).lanterns = b.lanterns ∧ (b.raiseRec u e args cl).hws = b.hws ∧
    (b.raiseRec u e args cl).beams = b.beams ∧ (b.raiseRec u e args cl).sets = b.sets ∧
    (b.raiseRec u e args cl).xfers = b.xfers ∧ (b.raiseRec u e args cl).nextId = b.nextId ∧
    (b.raiseRec u e args cl).groups = b.groups ∧ (b.raiseRec u e args cl).sinkers = b.sinkers ∧
    (b.raiseRec u e args cl).checks = b.checks ∧ (b.raiseRec u e args cl).harts = b.harts ∧
    (b.raiseRec u e args cl).clusters = b.clusters ∧ (b.raiseRec u e args cl).imsic = b.imsic ∧
    (b.raiseRec u e args cl).aplicM = b.aplicM ∧ (b.raiseRec u e args cl).aplicS = b.aplicS ∧
    (b.raiseRec u e args cl).ports = b.ports ∧ (b.raiseRec u e args cl).carts = b.carts ∧
    (b.raiseRec u e args cl).links = b.links ∧ (b.raiseRec u e args cl).sensors = b.sensors ∧
    (b.raiseRec u e args cl).tray = b.tray ∧ (b.raiseRec u e args cl).start = b.start ∧
    (b.raiseRec u e args cl).errors = b.errors ∧ (b.raiseRec u e args cl).cmds = b.cmds ∧
    (b.raiseRec u e args cl).sessions = b.sessions ∧ (b.raiseRec u e args cl).mailboxes = b.mailboxes ∧
    (b.raiseRec u e args cl).store = b.store ∧ (b.raiseRec u e args cl).power = b.power ∧
    (b.raiseRec u e args cl).silent = b.silent ∧ (b.raiseRec u e args cl).firmware = b.firmware ∧
    (b.raiseRec u e args cl).security = b.security ∧ (b.raiseRec u e args cl).guests = b.guests ∧
    (b.raiseRec u e args cl).picks = b.picks ∧ (∀ j, (b.raiseRec u e args cl).berth j = b.berth j) ∧
    (∀ j, (b.raiseRec u e args cl).domain j = b.domain j) ∧
    (∀ j, (b.raiseRec u e args cl).channel j = b.channel j) ∧ (∀ j, (b.raiseRec u e args cl).line j = b.line j) ∧
    (∀ j, (b.raiseRec u e args cl).pset j = b.pset j) ∧ (∀ j, (b.raiseRec u e args cl).tile j = b.tile j) ∧
    (∀ j, (b.raiseRec u e args cl).chart j = b.chart j) ∧ (∀ j, (b.raiseRec u e args cl).ctx j = b.ctx j) ∧
    (∀ j, (b.raiseRec u e args cl).queue j = b.queue j) ∧ (∀ j, (b.raiseRec u e args cl).request j = b.request j) ∧
    (∀ j, (b.raiseRec u e args cl).lantern j = b.lantern j) ∧ (∀ j, (b.raiseRec u e args cl).hw j = b.hw j) ∧
    (∀ j, (b.raiseRec u e args cl).beam j = b.beam j) ∧ (∀ j, (b.raiseRec u e args cl).accSet j = b.accSet j) ∧
    (∀ j, (b.raiseRec u e args cl).group j = b.group j) ∧ (∀ j, (b.raiseRec u e args cl).sinker j = b.sinker j) ∧
    (∀ j, (b.raiseRec u e args cl).hart j = b.hart j) ∧ (∀ j, (b.raiseRec u e args cl).cluster j = b.cluster j) ∧
    (∀ j, (b.raiseRec u e args cl).port j = b.port j) ∧ (∀ j, (b.raiseRec u e args cl).cart j = b.cart j) ∧
    (∀ j, (b.raiseRec u e args cl).link j = b.link j) ∧ (∀ j, (b.raiseRec u e args cl).sensor j = b.sensor j) ∧
    (∀ j, (b.raiseRec u e args cl).mailbox j = b.mailbox j) ∧ (∀ j, (b.raiseRec u e args cl).fw j = b.fw j) ∧
    (∀ j, (b.raiseRec u e args cl).guest j = b.guest j) := by
  unfold Block.raiseRec; and_intros <;> (try intro _) <;> dsimp only <;> split <;> rfl

@[simp] theorem Block.raise_frame (b : Block) (u : Nat) (e : Ev) (args : List Nat) :
    (b.raise u e args).mem = b.mem ∧ (b.raise u e args).memPoison = b.memPoison ∧
    (b.raise u e args).berths = b.berths ∧ (b.raise u e args).domains = b.domains ∧
    (b.raise u e args).channels = b.channels ∧ (b.raise u e args).lines = b.lines ∧
    (b.raise u e args).psets = b.psets ∧ (b.raise u e args).tiles = b.tiles ∧
    (b.raise u e args).charts = b.charts ∧ (b.raise u e args).withdrawals = b.withdrawals ∧
    (b.raise u e args).nextWithdrawal = b.nextWithdrawal ∧ (b.raise u e args).contexts = b.contexts ∧
    (b.raise u e args).queues = b.queues ∧ (b.raise u e args).requests = b.requests ∧
    (b.raise u e args).lanterns = b.lanterns ∧ (b.raise u e args).hws = b.hws ∧
    (b.raise u e args).beams = b.beams ∧ (b.raise u e args).sets = b.sets ∧ (b.raise u e args).xfers = b.xfers ∧
    (b.raise u e args).nextId = b.nextId ∧ (b.raise u e args).groups = b.groups ∧
    (b.raise u e args).sinkers = b.sinkers ∧ (b.raise u e args).checks = b.checks ∧
    (b.raise u e args).harts = b.harts ∧ (b.raise u e args).clusters = b.clusters ∧
    (b.raise u e args).imsic = b.imsic ∧ (b.raise u e args).aplicM = b.aplicM ∧
    (b.raise u e args).aplicS = b.aplicS ∧ (b.raise u e args).ports = b.ports ∧
    (b.raise u e args).carts = b.carts ∧ (b.raise u e args).links = b.links ∧
    (b.raise u e args).sensors = b.sensors ∧ (b.raise u e args).tray = b.tray ∧
    (b.raise u e args).start = b.start ∧ (b.raise u e args).errors = b.errors ∧ (b.raise u e args).cmds = b.cmds ∧
    (b.raise u e args).sessions = b.sessions ∧ (b.raise u e args).mailboxes = b.mailboxes ∧
    (b.raise u e args).store = b.store ∧ (b.raise u e args).power = b.power ∧
    (b.raise u e args).silent = b.silent ∧ (b.raise u e args).firmware = b.firmware ∧
    (b.raise u e args).security = b.security ∧ (b.raise u e args).guests = b.guests ∧
    (b.raise u e args).picks = b.picks ∧ (∀ j, (b.raise u e args).berth j = b.berth j) ∧
    (∀ j, (b.raise u e args).domain j = b.domain j) ∧ (∀ j, (b.raise u e args).channel j = b.channel j) ∧
    (∀ j, (b.raise u e args).line j = b.line j) ∧ (∀ j, (b.raise u e args).pset j = b.pset j) ∧
    (∀ j, (b.raise u e args).tile j = b.tile j) ∧ (∀ j, (b.raise u e args).chart j = b.chart j) ∧
    (∀ j, (b.raise u e args).ctx j = b.ctx j) ∧ (∀ j, (b.raise u e args).queue j = b.queue j) ∧
    (∀ j, (b.raise u e args).request j = b.request j) ∧ (∀ j, (b.raise u e args).lantern j = b.lantern j) ∧
    (∀ j, (b.raise u e args).hw j = b.hw j) ∧ (∀ j, (b.raise u e args).beam j = b.beam j) ∧
    (∀ j, (b.raise u e args).accSet j = b.accSet j) ∧ (∀ j, (b.raise u e args).group j = b.group j) ∧
    (∀ j, (b.raise u e args).sinker j = b.sinker j) ∧ (∀ j, (b.raise u e args).hart j = b.hart j) ∧
    (∀ j, (b.raise u e args).cluster j = b.cluster j) ∧ (∀ j, (b.raise u e args).port j = b.port j) ∧
    (∀ j, (b.raise u e args).cart j = b.cart j) ∧ (∀ j, (b.raise u e args).link j = b.link j) ∧
    (∀ j, (b.raise u e args).sensor j = b.sensor j) ∧ (∀ j, (b.raise u e args).mailbox j = b.mailbox j) ∧
    (∀ j, (b.raise u e args).fw j = b.fw j) ∧ (∀ j, (b.raise u e args).guest j = b.guest j) := by
  unfold Block.raise; simp

@[simp] theorem Block.setAlert_frame (b : Block) (i : Nat) :
    (b.setAlert i).mem = b.mem ∧ (b.setAlert i).memPoison = b.memPoison ∧ (b.setAlert i).berths = b.berths ∧
    (b.setAlert i).domains = b.domains ∧ (b.setAlert i).channels = b.channels ∧ (b.setAlert i).lines = b.lines ∧
    (b.setAlert i).psets = b.psets ∧ (b.setAlert i).tiles = b.tiles ∧ (b.setAlert i).charts = b.charts ∧
    (b.setAlert i).withdrawals = b.withdrawals ∧ (b.setAlert i).nextWithdrawal = b.nextWithdrawal ∧
    (b.setAlert i).contexts = b.contexts ∧ (b.setAlert i).queues = b.queues ∧
    (b.setAlert i).requests = b.requests ∧ (b.setAlert i).lanterns = b.lanterns ∧ (b.setAlert i).hws = b.hws ∧
    (b.setAlert i).beams = b.beams ∧ (b.setAlert i).sets = b.sets ∧ (b.setAlert i).xfers = b.xfers ∧
    (b.setAlert i).nextId = b.nextId ∧ (b.setAlert i).groups = b.groups ∧ (b.setAlert i).sinkers = b.sinkers ∧
    (b.setAlert i).checks = b.checks ∧ (b.setAlert i).harts = b.harts ∧ (b.setAlert i).clusters = b.clusters ∧
    (b.setAlert i).imsic = b.imsic ∧ (b.setAlert i).aplicM = b.aplicM ∧ (b.setAlert i).aplicS = b.aplicS ∧
    (b.setAlert i).ports = b.ports ∧ (b.setAlert i).carts = b.carts ∧ (b.setAlert i).links = b.links ∧
    (b.setAlert i).sensors = b.sensors ∧ (b.setAlert i).start = b.start ∧ (b.setAlert i).events = b.events ∧
    (b.setAlert i).errors = b.errors ∧ (b.setAlert i).cmds = b.cmds ∧ (b.setAlert i).sessions = b.sessions ∧
    (b.setAlert i).mailboxes = b.mailboxes ∧ (b.setAlert i).store = b.store ∧ (b.setAlert i).power = b.power ∧
    (b.setAlert i).silent = b.silent ∧ (b.setAlert i).firmware = b.firmware ∧
    (b.setAlert i).security = b.security ∧ (b.setAlert i).guests = b.guests ∧ (b.setAlert i).picks = b.picks ∧
    (∀ j, (b.setAlert i).berth j = b.berth j) ∧ (∀ j, (b.setAlert i).domain j = b.domain j) ∧
    (∀ j, (b.setAlert i).channel j = b.channel j) ∧ (∀ j, (b.setAlert i).line j = b.line j) ∧
    (∀ j, (b.setAlert i).pset j = b.pset j) ∧ (∀ j, (b.setAlert i).tile j = b.tile j) ∧
    (∀ j, (b.setAlert i).chart j = b.chart j) ∧ (∀ j, (b.setAlert i).ctx j = b.ctx j) ∧
    (∀ j, (b.setAlert i).queue j = b.queue j) ∧ (∀ j, (b.setAlert i).request j = b.request j) ∧
    (∀ j, (b.setAlert i).lantern j = b.lantern j) ∧ (∀ j, (b.setAlert i).hw j = b.hw j) ∧
    (∀ j, (b.setAlert i).beam j = b.beam j) ∧ (∀ j, (b.setAlert i).accSet j = b.accSet j) ∧
    (∀ j, (b.setAlert i).group j = b.group j) ∧ (∀ j, (b.setAlert i).sinker j = b.sinker j) ∧
    (∀ j, (b.setAlert i).hart j = b.hart j) ∧ (∀ j, (b.setAlert i).cluster j = b.cluster j) ∧
    (∀ j, (b.setAlert i).port j = b.port j) ∧ (∀ j, (b.setAlert i).cart j = b.cart j) ∧
    (∀ j, (b.setAlert i).link j = b.link j) ∧ (∀ j, (b.setAlert i).sensor j = b.sensor j) ∧
    (∀ j, (b.setAlert i).mailbox j = b.mailbox j) ∧ (∀ j, (b.setAlert i).fw j = b.fw j) ∧
    (∀ j, (b.setAlert i).guest j = b.guest j) := by
  and_intros <;> first | rfl | (intro _; rfl)

@[simp] theorem Block.clearAlert_frame (b : Block) (i : Nat) :
    (b.clearAlert i).mem = b.mem ∧ (b.clearAlert i).memPoison = b.memPoison ∧ (b.clearAlert i).berths = b.berths ∧
    (b.clearAlert i).domains = b.domains ∧ (b.clearAlert i).channels = b.channels ∧
    (b.clearAlert i).lines = b.lines ∧ (b.clearAlert i).psets = b.psets ∧ (b.clearAlert i).tiles = b.tiles ∧
    (b.clearAlert i).charts = b.charts ∧ (b.clearAlert i).withdrawals = b.withdrawals ∧
    (b.clearAlert i).nextWithdrawal = b.nextWithdrawal ∧ (b.clearAlert i).contexts = b.contexts ∧
    (b.clearAlert i).queues = b.queues ∧ (b.clearAlert i).requests = b.requests ∧
    (b.clearAlert i).lanterns = b.lanterns ∧ (b.clearAlert i).hws = b.hws ∧ (b.clearAlert i).beams = b.beams ∧
    (b.clearAlert i).sets = b.sets ∧ (b.clearAlert i).xfers = b.xfers ∧ (b.clearAlert i).nextId = b.nextId ∧
    (b.clearAlert i).groups = b.groups ∧ (b.clearAlert i).sinkers = b.sinkers ∧
    (b.clearAlert i).checks = b.checks ∧ (b.clearAlert i).harts = b.harts ∧
    (b.clearAlert i).clusters = b.clusters ∧ (b.clearAlert i).imsic = b.imsic ∧
    (b.clearAlert i).aplicM = b.aplicM ∧ (b.clearAlert i).aplicS = b.aplicS ∧ (b.clearAlert i).ports = b.ports ∧
    (b.clearAlert i).carts = b.carts ∧ (b.clearAlert i).links = b.links ∧ (b.clearAlert i).sensors = b.sensors ∧
    (b.clearAlert i).start = b.start ∧ (b.clearAlert i).events = b.events ∧ (b.clearAlert i).errors = b.errors ∧
    (b.clearAlert i).cmds = b.cmds ∧ (b.clearAlert i).sessions = b.sessions ∧
    (b.clearAlert i).mailboxes = b.mailboxes ∧ (b.clearAlert i).store = b.store ∧
    (b.clearAlert i).power = b.power ∧ (b.clearAlert i).silent = b.silent ∧
    (b.clearAlert i).firmware = b.firmware ∧ (b.clearAlert i).security = b.security ∧
    (b.clearAlert i).guests = b.guests ∧ (b.clearAlert i).picks = b.picks ∧
    (∀ j, (b.clearAlert i).berth j = b.berth j) ∧ (∀ j, (b.clearAlert i).domain j = b.domain j) ∧
    (∀ j, (b.clearAlert i).channel j = b.channel j) ∧ (∀ j, (b.clearAlert i).line j = b.line j) ∧
    (∀ j, (b.clearAlert i).pset j = b.pset j) ∧ (∀ j, (b.clearAlert i).tile j = b.tile j) ∧
    (∀ j, (b.clearAlert i).chart j = b.chart j) ∧ (∀ j, (b.clearAlert i).ctx j = b.ctx j) ∧
    (∀ j, (b.clearAlert i).queue j = b.queue j) ∧ (∀ j, (b.clearAlert i).request j = b.request j) ∧
    (∀ j, (b.clearAlert i).lantern j = b.lantern j) ∧ (∀ j, (b.clearAlert i).hw j = b.hw j) ∧
    (∀ j, (b.clearAlert i).beam j = b.beam j) ∧ (∀ j, (b.clearAlert i).accSet j = b.accSet j) ∧
    (∀ j, (b.clearAlert i).group j = b.group j) ∧ (∀ j, (b.clearAlert i).sinker j = b.sinker j) ∧
    (∀ j, (b.clearAlert i).hart j = b.hart j) ∧ (∀ j, (b.clearAlert i).cluster j = b.cluster j) ∧
    (∀ j, (b.clearAlert i).port j = b.port j) ∧ (∀ j, (b.clearAlert i).cart j = b.cart j) ∧
    (∀ j, (b.clearAlert i).link j = b.link j) ∧ (∀ j, (b.clearAlert i).sensor j = b.sensor j) ∧
    (∀ j, (b.clearAlert i).mailbox j = b.mailbox j) ∧ (∀ j, (b.clearAlert i).fw j = b.fw j) ∧
    (∀ j, (b.clearAlert i).guest j = b.guest j) := by
  and_intros <;> first | rfl | (intro _; rfl)

theorem Block.raise_shape (b : Block) (u : Nat) (e : Ev) (args : List Nat) : ∃ ev, b.raise u e args = { b with events := ev } := by
  unfold Block.raise Block.raiseRec
  dsimp only
  split <;> exact ⟨_, rfl⟩

theorem Block.msi_shape (b : Block) (pa id : Nat) (e : Ev) (args : List Nat) :
    ∃ im hs ev, b.msi pa id e args = { b with imsic := im, harts := hs, events := ev } := by
  unfold Block.msi
  split
  · exact ⟨_, _, _, rfl⟩
  · obtain ⟨ev, h⟩ := b.raise_shape unitModule e args
    exact ⟨_, _, ev, h⟩

/-- All that raising a wired source of the APLIC can change: its domains, and, where an MSI is sent, the interrupt files, the waits of
the harts and the event of a write that is lost. -/
theorem Block.wire_shape (b : Block) (i : Nat) :
    ∃ m s im hs ev, b.wire i = { b with aplicM := m, aplicS := s, imsic := im, harts := hs, events := ev } := by
  unfold Block.wire Block.aplicPend
  split
  · unfold Block.aplicDeliver
    dsimp only
    split
    · unfold Block.aplicSend
      obtain ⟨im, hs, ev, h⟩ := Block.msi_shape _ _ _ _ _
      rw [h]
      unfold Block.setAplic
      split <;> exact ⟨_, _, _, _, _, rfl⟩
    · unfold Block.setAplic
      split <;> exact ⟨_, _, _, _, _, rfl⟩
  · exact ⟨_, _, _, _, _, rfl⟩

@[simp] theorem Block.wire_frame (b : Block) (i : Nat) :
    (b.wire i).mem = b.mem ∧ (b.wire i).memPoison = b.memPoison ∧ (b.wire i).berths = b.berths ∧
    (b.wire i).domains = b.domains ∧ (b.wire i).channels = b.channels ∧ (b.wire i).lines = b.lines ∧
    (b.wire i).psets = b.psets ∧ (b.wire i).tiles = b.tiles ∧ (b.wire i).charts = b.charts ∧
    (b.wire i).withdrawals = b.withdrawals ∧ (b.wire i).nextWithdrawal = b.nextWithdrawal ∧
    (b.wire i).contexts = b.contexts ∧ (b.wire i).queues = b.queues ∧ (b.wire i).requests = b.requests ∧
    (b.wire i).lanterns = b.lanterns ∧ (b.wire i).hws = b.hws ∧ (b.wire i).beams = b.beams ∧
    (b.wire i).sets = b.sets ∧ (b.wire i).xfers = b.xfers ∧ (b.wire i).nextId = b.nextId ∧
    (b.wire i).groups = b.groups ∧ (b.wire i).sinkers = b.sinkers ∧ (b.wire i).checks = b.checks ∧
    (b.wire i).clusters = b.clusters ∧ (b.wire i).ports = b.ports ∧ (b.wire i).carts = b.carts ∧
    (b.wire i).links = b.links ∧ (b.wire i).sensors = b.sensors ∧ (b.wire i).tray = b.tray ∧
    (b.wire i).start = b.start ∧ (b.wire i).errors = b.errors ∧ (b.wire i).cmds = b.cmds ∧
    (b.wire i).sessions = b.sessions ∧ (b.wire i).mailboxes = b.mailboxes ∧ (b.wire i).store = b.store ∧
    (b.wire i).power = b.power ∧ (b.wire i).silent = b.silent ∧ (b.wire i).firmware = b.firmware ∧
    (b.wire i).security = b.security ∧ (b.wire i).guests = b.guests ∧ (b.wire i).picks = b.picks ∧
    (∀ j, (b.wire i).berth j = b.berth j) ∧ (∀ j, (b.wire i).domain j = b.domain j) ∧
    (∀ j, (b.wire i).channel j = b.channel j) ∧ (∀ j, (b.wire i).line j = b.line j) ∧
    (∀ j, (b.wire i).pset j = b.pset j) ∧ (∀ j, (b.wire i).tile j = b.tile j) ∧
    (∀ j, (b.wire i).chart j = b.chart j) ∧ (∀ j, (b.wire i).ctx j = b.ctx j) ∧
    (∀ j, (b.wire i).queue j = b.queue j) ∧ (∀ j, (b.wire i).request j = b.request j) ∧
    (∀ j, (b.wire i).lantern j = b.lantern j) ∧ (∀ j, (b.wire i).hw j = b.hw j) ∧
    (∀ j, (b.wire i).beam j = b.beam j) ∧ (∀ j, (b.wire i).accSet j = b.accSet j) ∧
    (∀ j, (b.wire i).group j = b.group j) ∧ (∀ j, (b.wire i).sinker j = b.sinker j) ∧
    (∀ j, (b.wire i).cluster j = b.cluster j) ∧ (∀ j, (b.wire i).port j = b.port j) ∧
    (∀ j, (b.wire i).cart j = b.cart j) ∧ (∀ j, (b.wire i).link j = b.link j) ∧
    (∀ j, (b.wire i).sensor j = b.sensor j) ∧ (∀ j, (b.wire i).mailbox j = b.mailbox j) ∧
    (∀ j, (b.wire i).fw j = b.fw j) ∧ (∀ j, (b.wire i).guest j = b.guest j) := by
  obtain ⟨_, _, _, _, _, h⟩ := b.wire_shape i
  rw [h]; and_intros <;> intros <;> rfl

@[simp] theorem Block.refuse_frame (b : Block) (st : Sts) :
    (b.refuse st).mem = b.mem ∧ (b.refuse st).memPoison = b.memPoison ∧ (b.refuse st).berths = b.berths ∧
    (b.refuse st).domains = b.domains ∧ (b.refuse st).channels = b.channels ∧ (b.refuse st).lines = b.lines ∧
    (b.refuse st).psets = b.psets ∧ (b.refuse st).tiles = b.tiles ∧ (b.refuse st).charts = b.charts ∧
    (b.refuse st).withdrawals = b.withdrawals ∧ (b.refuse st).nextWithdrawal = b.nextWithdrawal ∧
    (b.refuse st).contexts = b.contexts ∧ (b.refuse st).queues = b.queues ∧ (b.refuse st).requests = b.requests ∧
    (b.refuse st).lanterns = b.lanterns ∧ (b.refuse st).hws = b.hws ∧ (b.refuse st).beams = b.beams ∧
    (b.refuse st).sets = b.sets ∧ (b.refuse st).xfers = b.xfers ∧ (b.refuse st).nextId = b.nextId ∧
    (b.refuse st).groups = b.groups ∧ (b.refuse st).sinkers = b.sinkers ∧ (b.refuse st).checks = b.checks ∧
    (b.refuse st).harts = b.harts ∧ (b.refuse st).clusters = b.clusters ∧ (b.refuse st).imsic = b.imsic ∧
    (b.refuse st).aplicM = b.aplicM ∧ (b.refuse st).aplicS = b.aplicS ∧ (b.refuse st).ports = b.ports ∧
    (b.refuse st).carts = b.carts ∧ (b.refuse st).links = b.links ∧ (b.refuse st).sensors = b.sensors ∧
    (b.refuse st).tray = b.tray ∧ (b.refuse st).start = b.start ∧ (b.refuse st).events = b.events ∧
    (b.refuse st).errors = b.errors ∧ (b.refuse st).sessions = b.sessions ∧ (b.refuse st).mailboxes = b.mailboxes ∧
    (b.refuse st).store = b.store ∧ (b.refuse st).power = b.power ∧ (b.refuse st).silent = b.silent ∧
    (b.refuse st).firmware = b.firmware ∧ (b.refuse st).security = b.security ∧ (b.refuse st).guests = b.guests ∧
    (b.refuse st).picks = b.picks ∧ (∀ j, (b.refuse st).berth j = b.berth j) ∧
    (∀ j, (b.refuse st).domain j = b.domain j) ∧ (∀ j, (b.refuse st).channel j = b.channel j) ∧
    (∀ j, (b.refuse st).line j = b.line j) ∧ (∀ j, (b.refuse st).pset j = b.pset j) ∧
    (∀ j, (b.refuse st).tile j = b.tile j) ∧ (∀ j, (b.refuse st).chart j = b.chart j) ∧
    (∀ j, (b.refuse st).ctx j = b.ctx j) ∧ (∀ j, (b.refuse st).queue j = b.queue j) ∧
    (∀ j, (b.refuse st).request j = b.request j) ∧ (∀ j, (b.refuse st).lantern j = b.lantern j) ∧
    (∀ j, (b.refuse st).hw j = b.hw j) ∧ (∀ j, (b.refuse st).beam j = b.beam j) ∧
    (∀ j, (b.refuse st).accSet j = b.accSet j) ∧ (∀ j, (b.refuse st).group j = b.group j) ∧
    (∀ j, (b.refuse st).sinker j = b.sinker j) ∧ (∀ j, (b.refuse st).hart j = b.hart j) ∧
    (∀ j, (b.refuse st).cluster j = b.cluster j) ∧ (∀ j, (b.refuse st).port j = b.port j) ∧
    (∀ j, (b.refuse st).cart j = b.cart j) ∧ (∀ j, (b.refuse st).link j = b.link j) ∧
    (∀ j, (b.refuse st).sensor j = b.sensor j) ∧ (∀ j, (b.refuse st).mailbox j = b.mailbox j) ∧
    (∀ j, (b.refuse st).fw j = b.fw j) ∧ (∀ j, (b.refuse st).guest j = b.guest j) := by
  and_intros <;> first | rfl | (intro _; rfl)

@[simp] theorem Block.done_frame (b : Block) (o r : Nat) :
    (b.done o r).mem = b.mem ∧ (b.done o r).memPoison = b.memPoison ∧ (b.done o r).berths = b.berths ∧
    (b.done o r).domains = b.domains ∧ (b.done o r).channels = b.channels ∧ (b.done o r).lines = b.lines ∧
    (b.done o r).psets = b.psets ∧ (b.done o r).tiles = b.tiles ∧ (b.done o r).charts = b.charts ∧
    (b.done o r).withdrawals = b.withdrawals ∧ (b.done o r).nextWithdrawal = b.nextWithdrawal ∧
    (b.done o r).contexts = b.contexts ∧ (b.done o r).queues = b.queues ∧ (b.done o r).requests = b.requests ∧
    (b.done o r).lanterns = b.lanterns ∧ (b.done o r).hws = b.hws ∧ (b.done o r).beams = b.beams ∧
    (b.done o r).sets = b.sets ∧ (b.done o r).xfers = b.xfers ∧ (b.done o r).nextId = b.nextId ∧
    (b.done o r).groups = b.groups ∧ (b.done o r).sinkers = b.sinkers ∧ (b.done o r).checks = b.checks ∧
    (b.done o r).harts = b.harts ∧ (b.done o r).clusters = b.clusters ∧ (b.done o r).imsic = b.imsic ∧
    (b.done o r).aplicM = b.aplicM ∧ (b.done o r).aplicS = b.aplicS ∧ (b.done o r).ports = b.ports ∧
    (b.done o r).carts = b.carts ∧ (b.done o r).links = b.links ∧ (b.done o r).sensors = b.sensors ∧
    (b.done o r).tray = b.tray ∧ (b.done o r).start = b.start ∧ (b.done o r).events = b.events ∧
    (b.done o r).errors = b.errors ∧ (b.done o r).sessions = b.sessions ∧ (b.done o r).mailboxes = b.mailboxes ∧
    (b.done o r).store = b.store ∧ (b.done o r).power = b.power ∧ (b.done o r).silent = b.silent ∧
    (b.done o r).firmware = b.firmware ∧ (b.done o r).security = b.security ∧ (b.done o r).guests = b.guests ∧
    (b.done o r).picks = b.picks ∧ (∀ j, (b.done o r).berth j = b.berth j) ∧
    (∀ j, (b.done o r).domain j = b.domain j) ∧ (∀ j, (b.done o r).channel j = b.channel j) ∧
    (∀ j, (b.done o r).line j = b.line j) ∧ (∀ j, (b.done o r).pset j = b.pset j) ∧
    (∀ j, (b.done o r).tile j = b.tile j) ∧ (∀ j, (b.done o r).chart j = b.chart j) ∧
    (∀ j, (b.done o r).ctx j = b.ctx j) ∧ (∀ j, (b.done o r).queue j = b.queue j) ∧
    (∀ j, (b.done o r).request j = b.request j) ∧ (∀ j, (b.done o r).lantern j = b.lantern j) ∧
    (∀ j, (b.done o r).hw j = b.hw j) ∧ (∀ j, (b.done o r).beam j = b.beam j) ∧
    (∀ j, (b.done o r).accSet j = b.accSet j) ∧ (∀ j, (b.done o r).group j = b.group j) ∧
    (∀ j, (b.done o r).sinker j = b.sinker j) ∧ (∀ j, (b.done o r).hart j = b.hart j) ∧
    (∀ j, (b.done o r).cluster j = b.cluster j) ∧ (∀ j, (b.done o r).port j = b.port j) ∧
    (∀ j, (b.done o r).cart j = b.cart j) ∧ (∀ j, (b.done o r).link j = b.link j) ∧
    (∀ j, (b.done o r).sensor j = b.sensor j) ∧ (∀ j, (b.done o r).mailbox j = b.mailbox j) ∧
    (∀ j, (b.done o r).fw j = b.fw j) ∧ (∀ j, (b.done o r).guest j = b.guest j) := by
  and_intros <;> first | rfl | (intro _; rfl)

@[simp] theorem Block.accept_frame (b : Block) (o : Nat) :
    (b.accept o).mem = b.mem ∧ (b.accept o).memPoison = b.memPoison ∧ (b.accept o).berths = b.berths ∧
    (b.accept o).domains = b.domains ∧ (b.accept o).channels = b.channels ∧ (b.accept o).lines = b.lines ∧
    (b.accept o).psets = b.psets ∧ (b.accept o).tiles = b.tiles ∧ (b.accept o).charts = b.charts ∧
    (b.accept o).withdrawals = b.withdrawals ∧ (b.accept o).nextWithdrawal = b.nextWithdrawal ∧
    (b.accept o).contexts = b.contexts ∧ (b.accept o).queues = b.queues ∧ (b.accept o).requests = b.requests ∧
    (b.accept o).lanterns = b.lanterns ∧ (b.accept o).hws = b.hws ∧ (b.accept o).beams = b.beams ∧
    (b.accept o).sets = b.sets ∧ (b.accept o).xfers = b.xfers ∧ (b.accept o).nextId = b.nextId ∧
    (b.accept o).groups = b.groups ∧ (b.accept o).sinkers = b.sinkers ∧ (b.accept o).checks = b.checks ∧
    (b.accept o).harts = b.harts ∧ (b.accept o).clusters = b.clusters ∧ (b.accept o).imsic = b.imsic ∧
    (b.accept o).aplicM = b.aplicM ∧ (b.accept o).aplicS = b.aplicS ∧ (b.accept o).ports = b.ports ∧
    (b.accept o).carts = b.carts ∧ (b.accept o).links = b.links ∧ (b.accept o).sensors = b.sensors ∧
    (b.accept o).tray = b.tray ∧ (b.accept o).start = b.start ∧ (b.accept o).events = b.events ∧
    (b.accept o).errors = b.errors ∧ (b.accept o).sessions = b.sessions ∧ (b.accept o).mailboxes = b.mailboxes ∧
    (b.accept o).store = b.store ∧ (b.accept o).power = b.power ∧ (b.accept o).silent = b.silent ∧
    (b.accept o).firmware = b.firmware ∧ (b.accept o).security = b.security ∧ (b.accept o).guests = b.guests ∧
    (b.accept o).picks = b.picks ∧ (∀ j, (b.accept o).berth j = b.berth j) ∧
    (∀ j, (b.accept o).domain j = b.domain j) ∧ (∀ j, (b.accept o).channel j = b.channel j) ∧
    (∀ j, (b.accept o).line j = b.line j) ∧ (∀ j, (b.accept o).pset j = b.pset j) ∧
    (∀ j, (b.accept o).tile j = b.tile j) ∧ (∀ j, (b.accept o).chart j = b.chart j) ∧
    (∀ j, (b.accept o).ctx j = b.ctx j) ∧ (∀ j, (b.accept o).queue j = b.queue j) ∧
    (∀ j, (b.accept o).request j = b.request j) ∧ (∀ j, (b.accept o).lantern j = b.lantern j) ∧
    (∀ j, (b.accept o).hw j = b.hw j) ∧ (∀ j, (b.accept o).beam j = b.beam j) ∧
    (∀ j, (b.accept o).accSet j = b.accSet j) ∧ (∀ j, (b.accept o).group j = b.group j) ∧
    (∀ j, (b.accept o).sinker j = b.sinker j) ∧ (∀ j, (b.accept o).hart j = b.hart j) ∧
    (∀ j, (b.accept o).cluster j = b.cluster j) ∧ (∀ j, (b.accept o).port j = b.port j) ∧
    (∀ j, (b.accept o).cart j = b.cart j) ∧ (∀ j, (b.accept o).link j = b.link j) ∧
    (∀ j, (b.accept o).sensor j = b.sensor j) ∧ (∀ j, (b.accept o).mailbox j = b.mailbox j) ∧
    (∀ j, (b.accept o).fw j = b.fw j) ∧ (∀ j, (b.accept o).guest j = b.guest j) := by
  and_intros <;> first | rfl | (intro _; rfl)

@[simp] theorem Block.finish_frame (b : Block) (o n : Nat) (r : Sts) (c t : Nat) :
    (b.finish o n r c t).mem = b.mem ∧ (b.finish o n r c t).memPoison = b.memPoison ∧
    (b.finish o n r c t).berths = b.berths ∧ (b.finish o n r c t).domains = b.domains ∧
    (b.finish o n r c t).channels = b.channels ∧ (b.finish o n r c t).lines = b.lines ∧
    (b.finish o n r c t).psets = b.psets ∧ (b.finish o n r c t).tiles = b.tiles ∧
    (b.finish o n r c t).charts = b.charts ∧ (b.finish o n r c t).withdrawals = b.withdrawals ∧
    (b.finish o n r c t).nextWithdrawal = b.nextWithdrawal ∧ (b.finish o n r c t).contexts = b.contexts ∧
    (b.finish o n r c t).queues = b.queues ∧ (b.finish o n r c t).requests = b.requests ∧
    (b.finish o n r c t).lanterns = b.lanterns ∧ (b.finish o n r c t).hws = b.hws ∧
    (b.finish o n r c t).beams = b.beams ∧ (b.finish o n r c t).sets = b.sets ∧
    (b.finish o n r c t).xfers = b.xfers ∧ (b.finish o n r c t).nextId = b.nextId ∧
    (b.finish o n r c t).groups = b.groups ∧ (b.finish o n r c t).sinkers = b.sinkers ∧
    (b.finish o n r c t).checks = b.checks ∧ (b.finish o n r c t).harts = b.harts ∧
    (b.finish o n r c t).clusters = b.clusters ∧ (b.finish o n r c t).imsic = b.imsic ∧
    (b.finish o n r c t).aplicM = b.aplicM ∧ (b.finish o n r c t).aplicS = b.aplicS ∧
    (b.finish o n r c t).ports = b.ports ∧ (b.finish o n r c t).carts = b.carts ∧
    (b.finish o n r c t).links = b.links ∧ (b.finish o n r c t).sensors = b.sensors ∧
    (b.finish o n r c t).tray = b.tray ∧ (b.finish o n r c t).start = b.start ∧
    (b.finish o n r c t).errors = b.errors ∧ (b.finish o n r c t).sessions = b.sessions ∧
    (b.finish o n r c t).mailboxes = b.mailboxes ∧ (b.finish o n r c t).store = b.store ∧
    (b.finish o n r c t).power = b.power ∧ (b.finish o n r c t).silent = b.silent ∧
    (b.finish o n r c t).firmware = b.firmware ∧ (b.finish o n r c t).security = b.security ∧
    (b.finish o n r c t).guests = b.guests ∧ (b.finish o n r c t).picks = b.picks ∧
    (∀ j, (b.finish o n r c t).berth j = b.berth j) ∧ (∀ j, (b.finish o n r c t).domain j = b.domain j) ∧
    (∀ j, (b.finish o n r c t).channel j = b.channel j) ∧ (∀ j, (b.finish o n r c t).line j = b.line j) ∧
    (∀ j, (b.finish o n r c t).pset j = b.pset j) ∧ (∀ j, (b.finish o n r c t).tile j = b.tile j) ∧
    (∀ j, (b.finish o n r c t).chart j = b.chart j) ∧ (∀ j, (b.finish o n r c t).ctx j = b.ctx j) ∧
    (∀ j, (b.finish o n r c t).queue j = b.queue j) ∧ (∀ j, (b.finish o n r c t).request j = b.request j) ∧
    (∀ j, (b.finish o n r c t).lantern j = b.lantern j) ∧ (∀ j, (b.finish o n r c t).hw j = b.hw j) ∧
    (∀ j, (b.finish o n r c t).beam j = b.beam j) ∧ (∀ j, (b.finish o n r c t).accSet j = b.accSet j) ∧
    (∀ j, (b.finish o n r c t).group j = b.group j) ∧ (∀ j, (b.finish o n r c t).sinker j = b.sinker j) ∧
    (∀ j, (b.finish o n r c t).hart j = b.hart j) ∧ (∀ j, (b.finish o n r c t).cluster j = b.cluster j) ∧
    (∀ j, (b.finish o n r c t).port j = b.port j) ∧ (∀ j, (b.finish o n r c t).cart j = b.cart j) ∧
    (∀ j, (b.finish o n r c t).link j = b.link j) ∧ (∀ j, (b.finish o n r c t).sensor j = b.sensor j) ∧
    (∀ j, (b.finish o n r c t).mailbox j = b.mailbox j) ∧ (∀ j, (b.finish o n r c t).fw j = b.fw j) ∧
    (∀ j, (b.finish o n r c t).guest j = b.guest j) := by
  unfold Block.finish; simp only [Block.raise_frame]; and_intros <;> (try intro _) <;> split <;> rfl

@[simp] theorem Block.finishSts_frame (b : Block) (o n : Nat) (r : Sts) (t : Nat) :
    (b.finishSts o n r t).mem = b.mem ∧ (b.finishSts o n r t).memPoison = b.memPoison ∧
    (b.finishSts o n r t).berths = b.berths ∧ (b.finishSts o n r t).domains = b.domains ∧
    (b.finishSts o n r t).channels = b.channels ∧ (b.finishSts o n r t).lines = b.lines ∧
    (b.finishSts o n r t).psets = b.psets ∧ (b.finishSts o n r t).tiles = b.tiles ∧
    (b.finishSts o n r t).charts = b.charts ∧ (b.finishSts o n r t).withdrawals = b.withdrawals ∧
    (b.finishSts o n r t).nextWithdrawal = b.nextWithdrawal ∧ (b.finishSts o n r t).contexts = b.contexts ∧
    (b.finishSts o n r t).queues = b.queues ∧ (b.finishSts o n r t).requests = b.requests ∧
    (b.finishSts o n r t).lanterns = b.lanterns ∧ (b.finishSts o n r t).hws = b.hws ∧
    (b.finishSts o n r t).beams = b.beams ∧ (b.finishSts o n r t).sets = b.sets ∧
    (b.finishSts o n r t).xfers = b.xfers ∧ (b.finishSts o n r t).nextId = b.nextId ∧
    (b.finishSts o n r t).groups = b.groups ∧ (b.finishSts o n r t).sinkers = b.sinkers ∧
    (b.finishSts o n r t).checks = b.checks ∧ (b.finishSts o n r t).harts = b.harts ∧
    (b.finishSts o n r t).clusters = b.clusters ∧ (b.finishSts o n r t).imsic = b.imsic ∧
    (b.finishSts o n r t).aplicM = b.aplicM ∧ (b.finishSts o n r t).aplicS = b.aplicS ∧
    (b.finishSts o n r t).ports = b.ports ∧ (b.finishSts o n r t).carts = b.carts ∧
    (b.finishSts o n r t).links = b.links ∧ (b.finishSts o n r t).sensors = b.sensors ∧
    (b.finishSts o n r t).tray = b.tray ∧ (b.finishSts o n r t).start = b.start ∧
    (b.finishSts o n r t).errors = b.errors ∧ (b.finishSts o n r t).sessions = b.sessions ∧
    (b.finishSts o n r t).mailboxes = b.mailboxes ∧ (b.finishSts o n r t).store = b.store ∧
    (b.finishSts o n r t).power = b.power ∧ (b.finishSts o n r t).silent = b.silent ∧
    (b.finishSts o n r t).firmware = b.firmware ∧ (b.finishSts o n r t).security = b.security ∧
    (b.finishSts o n r t).guests = b.guests ∧ (b.finishSts o n r t).picks = b.picks ∧
    (∀ j, (b.finishSts o n r t).berth j = b.berth j) ∧ (∀ j, (b.finishSts o n r t).domain j = b.domain j) ∧
    (∀ j, (b.finishSts o n r t).channel j = b.channel j) ∧ (∀ j, (b.finishSts o n r t).line j = b.line j) ∧
    (∀ j, (b.finishSts o n r t).pset j = b.pset j) ∧ (∀ j, (b.finishSts o n r t).tile j = b.tile j) ∧
    (∀ j, (b.finishSts o n r t).chart j = b.chart j) ∧ (∀ j, (b.finishSts o n r t).ctx j = b.ctx j) ∧
    (∀ j, (b.finishSts o n r t).queue j = b.queue j) ∧ (∀ j, (b.finishSts o n r t).request j = b.request j) ∧
    (∀ j, (b.finishSts o n r t).lantern j = b.lantern j) ∧ (∀ j, (b.finishSts o n r t).hw j = b.hw j) ∧
    (∀ j, (b.finishSts o n r t).beam j = b.beam j) ∧ (∀ j, (b.finishSts o n r t).accSet j = b.accSet j) ∧
    (∀ j, (b.finishSts o n r t).group j = b.group j) ∧ (∀ j, (b.finishSts o n r t).sinker j = b.sinker j) ∧
    (∀ j, (b.finishSts o n r t).hart j = b.hart j) ∧ (∀ j, (b.finishSts o n r t).cluster j = b.cluster j) ∧
    (∀ j, (b.finishSts o n r t).port j = b.port j) ∧ (∀ j, (b.finishSts o n r t).cart j = b.cart j) ∧
    (∀ j, (b.finishSts o n r t).link j = b.link j) ∧ (∀ j, (b.finishSts o n r t).sensor j = b.sensor j) ∧
    (∀ j, (b.finishSts o n r t).mailbox j = b.mailbox j) ∧ (∀ j, (b.finishSts o n r t).fw j = b.fw j) ∧
    (∀ j, (b.finishSts o n r t).guest j = b.guest j) := by
  unfold Block.finishSts; simp

end Sys2Proof.Machine
end

