-- ==== Sys2Proof/Laws/Memory.lean ====
section
/-! SUPPORT. The canonical form of memory: each operation that writes the byte list keeps it, and what a write of a line into a
frame leaves alone. -/

-- One declaration after the other: the proofs of this file all at once would take a thread and its stack each.
set_option Elab.async false

namespace Sys2Proof.Machine

/-- A write of a line into a frame keeps the form. -/
theorem Block.putFrame_memWf (b : Block) (tier d frame i : Nat) (v : Line) (p : Bool) (h : Memory.wf b.mem) :
    Memory.wf (b.putFrame tier d frame i v p).mem := cellPuts_wf _ _ _ h

/-- A write of the memory copy of a line keeps the form, in every state of its berth. -/
theorem Block.putMem_memWf (b : Block) (ln : Nat) (v : Line) (p : Bool) (h : Memory.wf b.mem) : Memory.wf (b.putMem ln v p).mem := by
  unfold Block.putMem
  dsimp only
  split
  · exact h
  · exact h
  · exact Block.putFrame_memWf _ _ _ _ _ _ _ h
  · exact Block.putFrame_memWf _ _ _ _ _ _ _ (Block.putFrame_memWf _ _ _ _ _ _ _ h)
  · exact Block.putFrame_memWf b _ _ _ _ v p h

/-- Clearing a frame keeps the form. -/
theorem Block.clearFrame_memWf (b : Block) (tier d frame : Nat) (h : Memory.wf b.mem) :
    Memory.wf (b.clearFrame tier d frame).mem := cellFilter_wf _ _ h

/-- Writing cells one by one keeps the form. -/
theorem cellPut_foldl_wf (cs : List Host.Cell) (f : Host.Cell → Nat) (m : List Host.Cell) (h : Memory.wf m) :
    Memory.wf (cs.foldl (fun (m : List Host.Cell) (c : Host.Cell) => cellPut m (f c) c.2) m) := by
  induction cs generalizing m with
  | nil => exact h
  | cons c t ih => exact ih _ (cellPut_wf m (f c) c.2 h)

/-- Copying a frame keeps the form. -/
theorem Block.copyFrame_memWf (b : Block) (d t0 f0 t1 f1 : Nat) (h : Memory.wf b.mem) :
    Memory.wf (b.copyFrame d t0 f0 t1 f1).mem :=
  cellPut_foldl_wf _ (fun c => c.1 - memKey t0 d f0 0 + memKey t1 d f1 0) _ (Block.clearFrame_memWf b t1 d f1 h)

/-- A stop that clears the units leaves the empty list. -/
@[simp] theorem Block.clearUnits_mem (b : Block) : b.clearUnits.mem = [] := rfl
/-- The main rails go off with the memory. -/
@[simp] theorem Block.powerOff_mem (b : Block) : b.powerOff.mem = [] := rfl
/-- The empty list has the form. -/
theorem nil_memWf : Memory.wf [] := ⟨List.Pairwise.nil, fun _ h => absurd h (List.not_mem_nil)⟩

/-- A fold of steps that each keep the form keeps it. -/
theorem foldl_memWf {α : Type} (l : List α) (f : Block → α → Block) (b : Block)
    (hf : ∀ c x, Memory.wf c.mem → Memory.wf (f c x).mem) (h : Memory.wf b.mem) : Memory.wf (l.foldl f b).mem := by
  induction l generalizing b with
  | nil => exact h
  | cons x t ih => exact ih _ (hf b x h)

/-- A byte of a line written into a frame reads back, a byte at another key as before. -/
theorem cellGet_puts_ne (m : List Host.Cell) (k j : Nat) (vs : List Byte) (h : j < k ∨ k + vs.length ≤ j) :
    cellGet (cellPuts m k vs) j = cellGet m j := by
  induction vs generalizing m k with
  | nil => rfl
  | cons v t ih =>
    simp only [List.length_cons] at h
    rw [cellPuts, ih _ _ (by omega), cellGet_put_ne _ _ _ _ (by omega)]

end Sys2Proof.Machine
end

