-- ==== Sys2Proof/Laws/Ops.lean ====
section
/-! SUPPORT. What the shared operations can do, once for each: the gate of a light-list command, a footprint, a release, a
fetch and the issue of an instruction, the reply to a command, the sparse record of a hardware context. -/

-- One declaration after the other: the proofs of this file all at once would take a thread and its stack each.
set_option Elab.async false

namespace Sys2Proof

open Sys2Proof.Machine

/-- Every command answers the state with another block. -/
theorem Completes.of_exec {i : Instr} {s : State} {b : Block} {P : State → Prop} (h : exec i s = .next (s.withBlk b))
    (hp : P (s.withBlk b)) : Completes i s P := ⟨_, h, hp⟩

/-- A command that is let in runs its body. -/
theorem Admits.cmd {b : Block} {role least : Role} {area : Nat} (h : Admits b role least area) (f : Block → Block) :
    b.cmd role least area f = f b := by
  unfold Admits at h
  simp [Block.cmd, h]

/-- A command that is let in has a role that suffices, and the module is not DARK. -/
theorem Admits.role {b : Block} {role least : Role} {area : Nat} (h : Admits b role least area) :
    roleRank least ≤ roleRank role ∧ b.start.level ≠ .dark := by
  unfold Admits Block.gate at h
  split at h
  · cases h
  · split at h
    · cases h
    · rename_i h1 h2
      exact ⟨Nat.le_of_not_lt h1, h2⟩

/-- A footprint with nothing that waits, no fault and every page mapped is reached. -/
theorem Reaches.of_footprint {b : Block} {l h access : Nat} {rangeOnly : Bool} {rs : List (Nat × Nat)} {b1 : Block} {f : Foot}
    (hr : b.footprint l (b.hw (hwNo l h)).ctx access rangeOnly rs = (b1, f)) (hw : f.wait = false)
    (hn : f.xs.length + f.misses ≤ 1024) (hf : f.faults = [])
    (hp : f.pages.find? (fun (p : Nat × Nat) => (b.dom p.2).isNone) = none) : Reaches b l h access rangeOnly rs b1 f := by
  intro um go
  unfold Block.withFootU
  simp [hr, hw, hf, hp, Nat.not_lt.2 hn]

/-- A release whose stores have performed goes on. -/
theorem Releases.of_drained {b : Block} {l h : Nat} (hc : (b.drainStores l).canIssue l h = true)
    (hd : (b.drainStores l).drainedStores l = true) (hm : (b.drainStores l).moveWrites l h = false) :
    Releases b l h (b.drainStores l) := by
  intro go
  unfold Block.released
  simp [hc, hd, hm]

/-- A fetch whose line is in reach finds the word at the program counter, and fetches ahead. -/
theorem Fetches.of_line {b b1 b2 : Block} {l h : Nat} {f : Foot} {v : Line} {w : W64} (hc : b.canIssue l h = true)
    (hp : (b.hw (hwNo l h)).pc % 8 = 0) (hb : (b.hw (hwNo l h)).pc + 8 ≤ (b.hw (hwNo l h)).codeBytes)
    (hr : Reaches b l h 1 false [((b.hw (hwNo l h)).entry + 0x40 + (b.hw (hwNo l h)).pc, 8)] b1 f)
    (hl : b1.dieLine l (f.pa (((b.hw (hwNo l h)).entry + 0x40 + (b.hw (hwNo l h)).pc) % 2 ^ 64)) = .ok (b2, v, false))
    (hw : w = BitVec.ofNat 64 (fld v (8 * (f.pa (((b.hw (hwNo l h)).entry + 0x40 + (b.hw (hwNo l h)).pc) % 2 ^ 64) % 64)) 64)) :
    Fetches b l h (b2.fetchAhead l (b.hw (hwNo l h)) (f.pa (((b.hw (hwNo l h)).entry + 0x40 + (b.hw (hwNo l h)).pc) % 2 ^ 64))) w := by
  intro go
  unfold Block.fetch Block.withFoot
  simp only [hc, Bool.not_true, Bool.false_eq_true, if_false]
  rw [if_neg (by omega), hr]
  rw [hl, hw]
  rfl

/-- The issue of the instruction that stands at the program counter: ILLEGAL, then RSV_NONZERO, then its body. -/
theorem Fetches.issue {b b1 : Block} {l h : Nat} {w : W64} (hf : Fetches b l h b1 w) {op : Nat} (ho : fld w 0 8 = op)
    (illegal rsv : Bool) (body : Block → Block) :
    b.issue l h w op illegal rsv body =
      (if illegal then b1.exc (hwNo l h) 1 else if rsv then b1.endReq (hwNo l h) 0x38 1 else body b1) := by
  unfold Block.issue
  rw [hf]
  simp [ho]

/-- An instruction that is not the one at the program counter has no effect. -/
theorem Fetches.issue_other {b b1 : Block} {l h : Nat} {w v : W64} (hf : Fetches b l h b1 w) {op : Nat}
    (ho : w ≠ v ∨ fld v 0 8 ≠ op) (illegal rsv : Bool) (body : Block → Block) : b.issue l h v op illegal rsv body = b := by
  unfold Block.issue
  rw [hf]
  simp [ho]

/-- A reply changes nothing but the reply. -/
theorem refuse_status (b : Block) (st : Sts) : (b.refuse st).cmds.reply.status = st := rfl
/-- A command that is done answers OK with its return value. -/
theorem done_reply (b : Block) (o r : Nat) : (b.done o r).cmds.reply = { status := .ok, command := b.cmds.count + 1, ret := r } := rfl
/-- A longer command answers ACCEPTED with its number. -/
theorem accept_reply (b : Block) (o : Nat) : (b.accept o).cmds.reply = { status := .accepted, command := b.cmds.count + 1 } := rfl

/-- A hardware context that runs stops with the status and DETAIL of its ending. -/
theorem endReq_running (b : Block) (k st d : Nat) (h : (b.hw k).phase = .running) :
    ((b.endReq k st d).hw k).phase = .ended st d := by
  unfold Block.endReq
  simp [h]

end Sys2Proof
end

