-- ==== Sys2Proof/Tests/Fixtures.lean ====
section
/-! SUPPORT. Small states for the tests: a machine that is LIT, a program that stands at an instruction, and what an access in it
answers. -/

-- One declaration after the other: the proofs of this file all at once would take a thread and its stack each.
set_option Elab.async false

namespace Sys2Proof.Tests

open Sys2Proof Sys2Proof.Machine

/-- A machine that is LIT with its main rails on. -/
def lit : Block := { State.reset.blk with
  start := { State.reset.blk.start with level := .lit }, tray := { State.reset.blk.tray with rails := true, busTx := true } }
/-- A state without waiting commands. -/
def st (b : Block) : State := { blk := b, pending := [] }
/-- The block after a command. -/
def nx (b : Block) (i : Instr) : Block := match exec i (st b) with | .next t => t.blk | _ => b

/-- Inputs of the steps of a start, from flash devices that work. -/
def coldIn (ok : Bool) : ColdIn := {
  pufOk := ok, sf0Ok := true, sf1Ok := true, hubA := true, hubB := true, mapA := true, mapB := true
  badSlotsA := [], badSlotsB := [], floorOk := true }
/-- A word from its fields: least bit and value. -/
def enc (fs : List (Nat × Nat)) : W64 := BitVec.ofNat 64 (fs.map (fun e => e.2 * 2 ^ e.1)).sum
/-- A line from the fields of its words. -/
def encLine (fs : List (Nat × Nat)) : Line := BitVec.ofNat 512 (fs.map (fun e => e.2 * 2 ^ e.1)).sum

/-- A block whose home slices hold some lines. -/
def withLines (b : Block) (xs : List (Nat × Line)) : Block :=
  xs.foldl (fun c e => c.updLine e.1 (fun x => { x with slice := some { data := e.2, dirty := true, poison := false } })) b

/-- Hardware context 0 of lantern 0 runs a program for context 1, over a range entry for the whole of domain 0; the word is at its
first instruction, in the die cache with the lines 2 to 4, which hold zeros. -/
def runs (v : W64) (w : Hw) : Block := { lit with
  contexts := [(1, { st := .active, lanterns := BitVec.allOnes 64 })]
  hws := [(0, { w with phase := .running, ctx := 1, codeBytes := 64, mask := 3 })]
  charts := [(0, { ranges := [{ ctx := 1, va := 0, len := 2 ^ 30, pa := 0, r := true, w := true, x := true }] })]
  lines := [(1, { dir := .shared [0], copies := [(0, { st := .s, data := v.setWidth 512, poison := false })] }),
            (2, { dir := .owned 0, copies := [(0, { st := .m, data := 0, poison := false })] }),
            (3, { dir := .owned 0, copies := [(0, { st := .m, data := 0, poison := false })] }),
            (4, { dir := .owned 0, copies := [(0, { st := .m, data := 0, poison := false })] })] }

/-- What the fetch of a hardware context finds: the block it leaves and the word. -/
def fetched (b : Block) (l h : Nat) : Block × W64 :=
  let w := b.hw (hwNo l h)
  let r := b.footprint l w.ctx 1 false [(w.entry + 0x40 + w.pc, 8)]
  let pa := r.2.pa ((w.entry + 0x40 + w.pc) % 2 ^ 64)
  match r.1.dieLine l pa with
  | .ok (c, v, _) => (c.fetchAhead l w pa, BitVec.ofNat 64 (fld v (8 * (pa % 64)) 64))
  | .error _ => (b, 0)
/-- Whether an operation that may wait or fail goes on: what it goes on with marks the block. -/
def goesOn (f : (Block → Block) → Block) : Bool :=
  decide ((f (fun c => { c with nextId := 0 })).nextId = 0) && decide ((f (fun c => { c with nextId := 7777777 })).nextId = 7777777)
/-- Whether a footprint is reached. -/
def footOk (b : Block) (l h access : Nat) (ro : Bool) (rs : List (Nat × Nat)) : Bool :=
  let r := b.footprint l (b.hw (hwNo l h)).ctx access ro rs
  !r.2.wait && decide (r.2.xs.length + r.2.misses ≤ 1024) && decide (r.2.faults = []) &&
  (r.2.pages.find? (fun (p : Nat × Nat) => (b.dom p.2).isNone)).isNone
/-- Whether a line is read without poison. -/
def lineOk (b : Block) (l pa : Nat) : Bool := match b.dieLine l pa with | .ok (_, _, p) => !p | .error _ => false
/-- Whether a program reads a line of memory, its own transfers' writes among it, without poison. -/
def ownOk (b : Block) (l h pa : Nat) : Bool := match b.ownLine l h pa with | .ok (_, _, p) => !p | .error _ => false
/-- Whether the fetch of a hardware context finds a word. -/
def fetchOk (b : Block) (l h : Nat) : Bool :=
  let w := b.hw (hwNo l h)
  let r := b.footprint l w.ctx 1 false [(w.entry + 0x40 + w.pc, 8)]
  b.canIssue l h && decide (w.pc % 8 = 0 ∧ w.pc + 8 ≤ w.codeBytes) && footOk b l h 1 false [(w.entry + 0x40 + w.pc, 8)] &&
  lineOk r.1 l (r.2.pa ((w.entry + 0x40 + w.pc) % 2 ^ 64))

/-- A footprint that passes the check is reached. -/
theorem reaches_of_ok {b : Block} {l h access : Nat} {ro : Bool} {rs : List (Nat × Nat)} (ok : footOk b l h access ro rs = true) :
    Reaches b l h access ro rs (b.footprint l (b.hw (hwNo l h)).ctx access ro rs).1
      (b.footprint l (b.hw (hwNo l h)).ctx access ro rs).2 := by
  simp only [footOk, Bool.and_eq_true, Bool.not_eq_true', decide_eq_true_eq, Option.isNone_iff_eq_none] at ok
  exact Reaches.of_footprint rfl ok.1.1.1 ok.1.1.2 ok.1.2 ok.2

/-- A fetch that passes the check finds its word. -/
theorem fetches_of_ok {b : Block} {l h : Nat} (ok : fetchOk b l h = true) : Fetches b l h (fetched b l h).1 (fetched b l h).2 := by
  simp only [fetchOk, Bool.and_eq_true, decide_eq_true_eq] at ok
  obtain ⟨⟨⟨hc, hp⟩, hf⟩, hl⟩ := ok
  have hr := reaches_of_ok hf
  unfold lineOk at hl
  split at hl
  · rename_i c v p hd
    have hp0 : p = false := by simpa using hl
    subst hp0
    have e : fetched b l h = (c.fetchAhead l (b.hw (hwNo l h)) ((b.footprint l (b.hw (hwNo l h)).ctx 1 false
        [((b.hw (hwNo l h)).entry + 0x40 + (b.hw (hwNo l h)).pc, 8)]).2.pa
          (((b.hw (hwNo l h)).entry + 0x40 + (b.hw (hwNo l h)).pc) % 2 ^ 64)), BitVec.ofNat 64 (fld v (8 * ((b.footprint l (b.hw (hwNo l h)).ctx 1 false
        [((b.hw (hwNo l h)).entry + 0x40 + (b.hw (hwNo l h)).pc, 8)]).2.pa
          (((b.hw (hwNo l h)).entry + 0x40 + (b.hw (hwNo l h)).pc) % 2 ^ 64) % 64)) 64)) := by
      unfold fetched
      dsimp only
      rw [hd]
    rw [e]
    exact Fetches.of_line hc hp.1 hp.2 hr hd rfl
  · cases hl

end Sys2Proof.Tests
end

