-- ==== Sys2Proof/Tests/Slice0.lean ====
section
/-! SUPPORT. Tests: commands that are not well formed, and single steps whose results the manual's words give. -/

-- One declaration after the other: the proofs of this file all at once would take a thread and its stack each.
set_option Elab.async false

namespace Sys2Proof.Tests

open Sys2Proof Sys2Proof.Machine

/-! A command that names a unit, agent, register or address that does not exist, for each check of `Instr.wf`. -/

/-- A unit, agent, register or address that does not exist is refused. -/
theorem test_wf_0 : ([.flitReplay 12 0 false, .flitReplay 0 2 false, .retrain 12 false, .linkTrainingDone 12 ⟨0, 0, true, true⟩, .sidebandLaneFail 12 0, .sidebandLaneFail 0 2, .aStage 64 0, .aStage 0 16, .beamIssue 64 0, .beamIssue 0 16, .beamComplete 64 0 .clean .pass, .beamComplete 0 16 .clean .pass, .vectorReload 64 false, .nop 64 0 0, .nop 0 4 0, .endProg 64 0 0, .endProg 0 4 0, .raise 64 0 0, .raise 0 4 0, .j 64 0 0, .j 0 4 0, .jr 64 0 0, .jr 0 4 0, .call 64 0 0] : List Instr).all (fun i => !i.wf) = true := by decide +kernel

/-- A unit, agent, register or address that does not exist is refused. -/
theorem test_wf_1 : ([.call 0 4 0, .brEq 64 0 0, .brEq 0 4 0, .brNe 64 0 0, .brNe 0 4 0, .brLt 64 0 0, .brLt 0 4 0, .brGe 64 0 0, .brGe 0 4 0, .brLtu 64 0 0, .brLtu 0 4 0, .brGeu 64 0 0, .brGeu 0 4 0, .loop 64 0 0, .loop 0 4 0, .add 64 0 0, .add 0 4 0, .sub 64 0 0, .sub 0 4 0, .and 64 0 0, .and 0 4 0, .or 64 0 0, .or 0 4 0, .xor 64 0 0] : List Instr).all (fun i => !i.wf) = true := by decide +kernel

/-- A unit, agent, register or address that does not exist is refused. -/
theorem test_wf_2 : ([.xor 0 4 0, .shl 64 0 0, .shl 0 4 0, .shr 64 0 0, .shr 0 4 0, .sra 64 0 0, .sra 0 4 0, .mul 64 0 0, .mul 0 4 0, .mulhu 64 0 0, .mulhu 0 4 0, .divu 64 0 0, .divu 0 4 0, .remu 64 0 0, .remu 0 4 0, .slt 64 0 0, .slt 0 4 0, .sltu 64 0 0, .sltu 0 4 0, .lih 64 0 0, .lih 0 4 0, .maxu 64 0 0, .maxu 0 4 0, .fadd 64 0 0] : List Instr).all (fun i => !i.wf) = true := by decide +kernel

/-- A unit, agent, register or address that does not exist is refused. -/
theorem test_wf_3 : ([.fadd 0 4 0, .fsub 64 0 0, .fsub 0 4 0, .fmul 64 0 0, .fmul 0 4 0, .fdiv 64 0 0, .fdiv 0 4 0, .fsqrt 64 0 0, .fsqrt 0 4 0, .fma 64 0 0, .fma 0 4 0, .fmin 64 0 0, .fmin 0 4 0, .fmax 64 0 0, .fmax 0 4 0, .fcvtFI 64 0 0, .fcvtFI 0 4 0, .fcvtIF 64 0 0, .fcvtIF 0 4 0, .flt 64 0 0, .flt 0 4 0, .feq 64 0 0, .feq 0 4 0, .tscale 64 0 0] : List Instr).all (fun i => !i.wf) = true := by decide +kernel

/-- A unit, agent, register or address that does not exist is refused. -/
theorem test_wf_4 : ([.tscale 0 4 0, .ld 64 0 0, .ld 0 4 0, .st 64 0 0, .st 0 4 0, .ldAcq 64 0 0, .ldAcq 0 4 0, .stRel 64 0 0, .stRel 0 4 0, .tld 64 0 0, .tld 0 4 0, .tst 64 0 0, .tst 0 4 0, .tset 64 0 0, .tset 0 4 0, .tget 64 0 0, .tget 0 4 0, .tadv 64 0 0, .tadv 0 4 0, .ldl 64 0 0, .ldl 0 4 0, .stl 64 0 0, .stl 0 4 0, .moveM2L 64 0 0] : List Instr).all (fun i => !i.wf) = true := by decide +kernel

/-- A unit, agent, register or address that does not exist is refused. -/
theorem test_wf_5 : ([.moveM2L 0 4 0, .moveL2M 64 0 0, .moveL2M 0 4 0, .moveL2F 64 0 0, .moveL2F 0 4 0, .beam 64 0 0, .beam 0 4 0, .claim 64 0 0, .claim 0 4 0, .claimGrant 64, .release 64 0 0, .release 0 4 0, .post 64 0 0, .post 0 4 0, .reduceSum 64 0 0, .reduceSum 0 4 0, .reduceMax 64 0 0, .reduceMax 0 4 0, .reduceMin 64 0 0, .reduceMin 0 4 0, .amax 64 0 0, .amax 0 4 0, .amaxAcc 64 0 0, .amaxAcc 0 4 0] : List Instr).all (fun i => !i.wf) = true := by decide +kernel

/-- A unit, agent, register or address that does not exist is refused. -/
theorem test_wf_6 : ([.optStep 64 0 0, .optStep 0 4 0, .optClose 64 0 0, .optClose 0 4 0, .sink 64 0 0, .sink 0 4 0, .send 64 0 0, .send 0 4 0, .recv 64 0 0, .recv 0 4 0, .recvTimeout 64 0, .recvTimeout 0 4, .waitflash 64 0 0, .waitflash 0 4 0, .waitstream 64 0 0, .waitstream 0 4 0, .waitLine 64 0 0, .waitLine 0 4 0, .waitLineTimeout 64 0, .waitLineTimeout 0 4, .watchPoll 64 0, .watchPoll 0 4, .waitTally 64 0 0, .waitTally 0 4 0] : List Instr).all (fun i => !i.wf) = true := by decide +kernel

/-- A unit, agent, register or address that does not exist is refused. -/
theorem test_wf_7 : ([.atomAdd 64 0 0, .atomAdd 0 4 0, .atomAnd 64 0 0, .atomAnd 0 4 0, .atomOr 64 0 0, .atomOr 0 4 0, .atomXor 64 0 0, .atomXor 0 4 0, .atomMin 64 0 0, .atomMin 0 4 0, .atomMax 64 0 0, .atomMax 0 4 0, .atomMinu 64 0 0, .atomMinu 0 4 0, .atomMaxu 64 0 0, .atomMaxu 0 4 0, .atomSwap 64 0 0, .atomSwap 0 4 0, .atomCas 64 0 0, .atomCas 0 4 0, .fence 64 0 0, .fence 0 4 0, .setop 64 0 0, .setop 0 4 0] : List Instr).all (fun i => !i.wf) = true := by decide +kernel

/-- A unit, agent, register or address that does not exist is refused. -/
theorem test_wf_8 : ([.check 64 0 0, .check 0 4 0, .selftest 64 0 0, .selftest 0 4 0, .create .operator 256, .registerQueue .operator 256 0, .registerQueue .operator 0 (2 ^ 52), .unregisterQueue .operator 1024, .destroy .operator 256, .destroyDone 256, .watchNotice 64 0, .watchNotice 0 16, .take 64, .queueHeadWait 64 0, .queueHeadWait 0 16, .join 64 0, .join 0 4, .abandon 64 0, .abandon 0 4, .latenessExpiry 64 0, .latenessExpiry 0 4, .form .operator 16 0, .form .operator 0 (2 ^ 52), .reform .operator 16] : List Instr).all (fun i => !i.wf) = true := by decide +kernel

/-- A unit, agent, register or address that does not exist is refused. -/
theorem test_wf_9 : ([.dissolve .operator 16, .flashFire 16 0, .flashArrival 16 { member := 0 }, .flashArrival 0 { member := 80 }, .flashActionDone 16 0 0, .flashActionDone 0 80 0, .groupStall 16, .sinkAdmit 16, .gatherPool 16 0, .scoreTopk 16 0, .stats 16 0, .fill 16 0, .checksum 16 0, .copy 16 0, .sinkDone 16 0, .stackTempSample 16 0, .sinkerLost 16, .regionAdd .operator 8 0 0 0 0, .regionAdd .operator 0 0 0 256 0, .streamAdd .operator (2 ^ 52), .streamRemove .operator 256, .evacuate .operator 8, .tierReturn .operator 8, .berthQuery .operator (2 ^ 52)] : List Instr).all (fun i => !i.wf) = true := by decide +kernel

/-- A unit, agent, register or address that does not exist is refused. -/
theorem test_wf_10 : ([.migrationEpoch 8, .berthMoveFlip 8 ⟨0, []⟩, .berthMoveFlip 0 ⟨134217728, []⟩, .berthMoveFlip 0 ⟨0, [1024]⟩, .layerResident 8 0 0 [], .layerResident 0 134217728 0 [], .frameZeroed 8 0 0, .frameZeroed 0 2 0, .frameZeroed 0 0 (2 ^ 23), .channelRetrain 272 false false, .channelRetrainDone 272, .evacuationDone 8, .repairDone 8 false, .returnDone 8, .evacuationRetry 8, .rowRemap 0 256 0 [] [], .rowRemap 0 0 4194304 [] [], .rowRemap 272 0 0 [] [], .rdS 73 0 .clean, .rdS 0 (2 ^ 52) .clean, .rdX 73 0, .rdX 0 (2 ^ 52), .upg 73 0, .upg 0 (2 ^ 52), .rdOnce 73 0] : List Instr).all (fun i => !i.wf) = true := by decide +kernel

/-- A unit, agent, register or address that does not exist is refused. -/
theorem test_wf_11 : ([.rdOnce 0 (2 ^ 52), .wrLine 73 0 0, .wrLine 0 (2 ^ 52) 0, .wrPart 73 0 0 0, .wrPart 0 (2 ^ 52) 0 0, .homeAtom 73 0 .add false 0 0, .homeAtom 0 (2 ^ 52) .add false 0 0, .watch 80 0, .watch 0 (2 ^ 52), .unwatch 80 0, .unwatch 0 (2 ^ 52), .wb 73 0, .wb 0 (2 ^ 52), .evictClean 73 0, .evictClean 0 (2 ^ 52), .snpInv 73 0, .snpInv 0 (2 ^ 52), .snpFwdS 73 0 false, .snpFwdS 0 (2 ^ 52) false, .snpFwdX 73 0 false, .snpFwdX 0 (2 ^ 52) false, .snpPeek 73 0 false, .snpPeek 0 (2 ^ 52) false, .snpRecall 73 0 false] : List Instr).all (fun i => !i.wf) = true := by decide +kernel

/-- A unit, agent, register or address that does not exist is refused. -/
theorem test_wf_12 : ([.snpRecall 0 (2 ^ 52) false, .grant 73 0, .grant 0 (2 ^ 52), .data 73 0, .data 0 (2 ^ 52), .invAck 73 0, .invAck 0 (2 ^ 52), .downgradeAck 73 0, .downgradeAck 0 (2 ^ 52), .complete 73 0, .complete 0 (2 ^ 52), .recallData 73 0, .recallData 0 (2 ^ 52), .moved 73 0 0, .moved 0 73 0, .moved 0 0 (2 ^ 52), .cacheScrub 459 0 .clean, .cacheScrub 0 (2 ^ 52) .clean, .clean 9 .hart, .invalidate 9 .hart, .cleanInvalidate 9 .hart, .rangeCommandDone 9 0, .registerRing .operator 9 0 0 0 0, .registerRing .operator 0 256 0 0 0] : List Instr).all (fun i => !i.wf) = true := by decide +kernel

/-- A unit, agent, register or address that does not exist is refused. -/
theorem test_wf_13 : ([.registerRing .operator 0 0 (2 ^ 52) 0 0, .registerRing .operator 0 0 0 (2 ^ 52) 0, .removeRing .operator 9 0, .removeRing .operator 0 64, .chartResume 64 0, .chartResume 0 256, .faultBatchTimer 256, .faultRingRoom 256, .withdraw .operator 256 0 0 0, .withdrawAll .operator 256 0, .bufferedStorePerform 64, .postedWritePerform 128, .deviceTimeout (.posted 128), .deviceTimeout (.acked 128 0 false), .deviceTimeout (.acked 0 (2 ^ 52) true), .keeperLoad 128 0 0 8 ⟨false, false⟩, .keeperLoad 0 96 0 8 ⟨false, false⟩, .keeperLoad 0 0 (2 ^ 52) 8 ⟨false, false⟩, .keeperLoad 0 0 0 3 ⟨false, false⟩, .keeperLoad 0 64 0 8 ⟨false, false⟩, .keeperStore 128 0 8 ⟨0, false⟩, .keeperStore 0 (2 ^ 52) 8 ⟨0, false⟩, .keeperStore 0 0 3 ⟨0, false⟩, .keeperAmo 128 0 0 .add 4 0 0, .keeperAmo 0 32 0 .add 4 0 0, .keeperAmo 0 0 (2 ^ 52) .add 4 0 0, .keeperAmo 0 0 0 .add 16 0 0, .lr 128 0 0 8] : List Instr).all (fun i => !i.wf) = true := by decide +kernel

/-- A unit, agent, register or address that does not exist is refused. -/
theorem test_wf_14 : ([.lr 0 32 0 8, .lr 0 0 (2 ^ 52) 8, .lr 0 0 0 3, .sc 128 0 0 8 0, .sc 0 32 0 8 0, .sc 0 0 (2 ^ 52) 8 0, .sc 0 0 0 3 0, .keeperFence 128 false, .cboClean 128 0, .cboClean 0 (2 ^ 52), .cboFlush 128 0, .cboFlush 0 (2 ^ 52), .cboInval ⟨128, .m, 1⟩ 0, .cboInval ⟨0, .m, 1⟩ (2 ^ 52), .cboInval ⟨0, .m, 2⟩ 0, .cboZero 128 0, .cboZero 0 (2 ^ 52), .wrsNto 128 none, .wrsSto 128, .wrsTimeout 128, .gsvFence 128 .m 0, .gsvLdAq 128 .m 0, .gsvSdRl 128 .m 0, .gsvRange 128 .m 0, .perfWrite 8 0] : List Instr).all (fun i => !i.wf) = true := by decide +kernel

/-- A unit, agent, register or address that does not exist is refused. -/
theorem test_wf_15 : ([.pllRelockDone 8, .keeperClusterLost 8, .interruptWrite (2 ^ 52) 0 0 false, .portEnable 2 false, .portReset ⟨2, none⟩, .portHang 2, .reloadQp 2 0, .reloadQp 0 16384, .reloadCq 2 0, .reloadCq 0 4096, .reloadMr 2 0, .reloadMr 0 (2 ^ 16), .reloadPostRing 2 0, .reloadPostRing 0 64, .reloadEthQueue 2 0, .reloadEthQueue 0 256, .postQpSend 2 0, .postQpSend 0 64, .postQpReceive 2 0, .postQpReceive 0 64, .postEthSend 2 0, .postEthSend 0 64, .postEthReceive 2 0, .postEthReceive 0 64] : List Instr).all (fun i => !i.wf) = true := by decide +kernel

/-- A unit, agent, register or address that does not exist is refused. -/
theorem test_wf_16 : ([.cqArm 2 0, .cqArm 0 64, .ethSend 2 0, .ethSend 0 256, .roceSend 2 0, .roceSend 0 16384, .sendImm 2 0, .sendImm 0 16384, .roceWrite 2 0, .roceWrite 0 16384, .writeImm 2 0, .writeImm 0 16384, .roceRead 2 0, .roceRead 0 16384, .fetchAdd 2 0, .fetchAdd 0 16384, .cmpSwap 2 0, .cmpSwap 0 16384, .ethFrameRx 2 0 ⟨[], false⟩, .ethFrameRx 0 8 ⟨[], false⟩, .roceRequestRx 2 ⟨0, 0, 2, 0, 0, 0, [], none, 0, 0, false⟩, .roceResponseRx 2 ⟨0, 0, 0, []⟩, .ackTimeout 2 0, .ackTimeout 0 16384] : List Instr).all (fun i => !i.wf) = true := by decide +kernel

/-- A unit, agent, register or address that does not exist is refused. -/
theorem test_wf_17 : ([.cnpRx 2 0, .cnpRx 0 16384, .ccTimer 2 0 .bytes, .ccTimer 0 16384 .bytes, .macLinkLoss 2 0, .macLinkLoss 0 8, .cartridgeInsert 4, .cartridgeCheckDone 4 false, .prepareSwap .operator 4, .latchOpen 4, .cartridgeFault 4, .cartridgePoll 4 ⟨0, 0, 0, [], []⟩, .cartridgeSilent 4, .coolantLeak 2, .sensorSample 32 0, .sensorInvalid 32, .coldStart 2 (coldIn true), .sessionInit none 256 false ⟨false, 0⟩ .operator, .sessionConfirm (2 ^ 32) false, .sessionClose (2 ^ 32), .sessionTimeout (2 ^ 32), .read (2 ^ 32) { wellFormed := true, enc := true, counter := 1, request := 1, more := false } 0 0 0, .write (2 ^ 32) { wellFormed := true, enc := true, counter := 1, request := 1, more := false } 0 0 [], .subscribe (2 ^ 32) { wellFormed := true, enc := true, counter := 1, request := 1, more := false } 0 0 []] : List Instr).all (fun i => !i.wf) = true := by decide +kernel

/-- A unit, agent, register or address that does not exist is refused. -/
theorem test_wf_18 : ([.mailboxSend 4 0 0, .mailboxSend 0 0 128, .replyDone 4, .eventDone 4, .slotEraseDone 2, .dimStepEnter 5, .dimStepExit 5, .lanternLost 64 .heartbeat, .unitResetLantern .operator 64 0, .unitResetLantern .operator 0 2, .unitResetKeeperCluster .operator 8 0, .unitResetKeeperCluster .operator 0 2, .unitResetPort .operator 2 0, .unitResetPort .operator 0 2, .unitResetStackChannel .operator 0 2, .unitResetStackChannel .operator 256 0, .unitResetBulkChannel .operator 0 2, .unitResetBulkChannel .operator 16 0, .unitResetTile .operator 9 0, .unitResetTile .operator 0 2, .sinkerScan 16 0 false, .sinkerScan 0 4 false, .keeperScan .operator 8 false, .tileScan .operator 9 false] : List Instr).all (fun i => !i.wf) = true := by decide +kernel

/-- A unit, agent, register or address that does not exist is refused. -/
theorem test_wf_19 : ([.keeperScanDue 8, .tileScanDue 9, .checkCapture 64 0, .slotWindow .operator 6 [], .verify .operator 6 ⟨true, true⟩, .activate .operator 6 0, .revert .operator 6 0, .commit .operator 6, .unitSwitch 6 0, .unitSwitch 0 64, .firmwareSwitchSkipped 6 0, .firmwareSwitchSkipped 0 64, .firmwareReverted 6 0, .firmwareReverted 0 64, .promote .operator 64, .relight .operator 64 false, .bypass .operator 64 0 0, .bypass .operator 0 16 0, .bypassApplied 64, .linkRetrain .operator 12, .takeOut .operator 16, .channelEvacuated 16, .bringIn .operator 16, .channelTrained 16 ⟨128, true, true, []⟩] : List Instr).all (fun i => !i.wf) = true := by decide +kernel

/-- A unit, agent, register or address that does not exist is refused. -/
theorem test_wf_20 : ([.channelReturned 16, .measure .operator 64 0, .replan .operator 64, .resetGuard .operator 64, .hold .operator 2, .guestRelease .operator 2 {}, .attest .operator 2 {}, .guestWindowsWrite .operator 2 0 ⟨false, false, false, false, true, 0, 0, 0, 0⟩, .guestWindowsWrite .operator 0 16 ⟨false, false, false, false, true, 0, 0, 0, 0⟩, .guestRead 2 0, .guestWrite 2 0 0 0 false, .guestPowerSample 2 0 0 false false, .guestLost 2, .operatingPointChangeDone 64, .macLinkUp 2 0, .macLinkUp 0 8, .portHeartbeatLost 2, .illegal 64 0 0, .illegal 0 4 0] : List Instr).all (fun i => !i.wf) = true := by decide +kernel

/-- Well-formed commands at the last unit of each range. -/
theorem test_wf_last : ([.add 63 3 0, .flitReplay 11 1 false, .take 63, .create .operator 255, .flashFire 15 0, .copy 15 0,
    .keeperLoad 127 31 (2 ^ 52 - 1) 8 ⟨true, false⟩, .keeperLoad 127 95 0 32 ⟨false, true⟩, .cacheScrub 458 0 .clean, .ethSend 1 255, .perfWrite 7 0, .channelRetrain 271 false false] : List Instr).all
    Instr.wf = true := by decide +kernel

/-! Behaviour, each expected result taken from the words of the manual. -/

/-- The worked encoding of R145, step 1: 0x751 is CLAIM g7, and the mask 0xC00 names halves 10 and 11. -/
theorem test_claim_example : ((nx (runs 0x751 { g := [(7, 0xC00)] }) (.claim 0 0 0x751)).hw 0).claims = [10, 11] := by
  decide +kernel

/-- The worked encoding of R288, step 3: 0x04B5200B stores the 4 bytes of x11 at the address in x10. -/
theorem test_sd_rl_example :
    let b : Block := { lit with harts := [(17, { x := [(10, 0xC0), (11, 1537)] })] }
    ((nx b (.gsvSdRl 17 .m 0x04B5200B)).peek 0xC0 4) = some 1537 := by
  decide +kernel

/-- The worked encoding of R288, step 5: 0x0606960B loads the 8 bytes at the address in x13 into x12. -/
theorem test_ld_aq_example :
    let b : Block := { withLines lit [(3, encLine [(64, 0xFEDCBA9876543210)])] with harts := [(17, { x := [(13, 0xC8)] })] }
    ((nx b (.gsvLdAq 17 .m 0x0606960B)).kreg 17 12) = 0xFEDCBA9876543210 := by
  decide +kernel

/-- The worked encoding of R288: 0x3320000B is GSV.FENCE SYSTEM with PRED R, W and SUCC R, W, which leaves posted writes waiting. -/
theorem test_fence_example :
    let b : Block := { lit with harts := [(17, { posted := [(imsicBase, 4, 3)] })] }
    ((nx b (.gsvFence 17 .m 0x3320000B)).hart 17) = { posted := [(imsicBase, 4, 3)] } := by
  decide +kernel

/-- R77: seven values combine as ((x0 + x1) + (x2 + x3)) + ((x4 + x5) + x6); the values make the order show. -/
theorem test_tree_of_seven :
    tree32 [0x3F800000, 0x4B800000, 0x3F800000, 0xCB800000, 0x3F800000, 0x3F800000, 0x3F800000] =
    add32 (add32 (add32 0x3F800000 0x4B800000) (add32 0x3F800000 0xCB800000)) (add32 (add32 0x3F800000 0x3F800000) 0x3F800000) ∧
    tree32 [0x3F800000, 0x4B800000, 0x3F800000, 0xCB800000, 0x3F800000, 0x3F800000, 0x3F800000] = 0x40800000 := by
  decide +kernel

/-- R85: a finite value above the range of E4M3 saturates to 448, a NaN gives 0x7F; −129 in INT8 gives −128. -/
theorem test_convert_limits :
    (convertVal 3 .rne (val32 0x43FA0000) 1 1).1 = 0x7E ∧ (convertVal 3 .rne .nan 1 1).1 = 0x7F ∧ (convertVal 4 .rne .nan 1 1).1 = 0x7E ∧
    (convertVal 8 .rne (val32 0xC3010000) 1 1).1 = 0x80 := by
  decide +kernel

/-- R64: RELU of −0 is +0, and of a NaN the canonical NaN. -/
theorem test_relu : relu32 0x80000000 = 0 ∧ relu32 0xFFC00001 = 0x7FC00000 := by decide +kernel

/-- R124: DIVU by zero gives all ones, REMU by zero gives gA. -/
theorem test_divide_by_zero :
    let w := enc [(0, 0x1A), (8, 3), (13, 1), (18, 2)]
    let v := enc [(0, 0x1B), (8, 3), (13, 1), (18, 2)]
    ((nx (runs w { g := [(1, 77)] }) (.divu 0 0 w)).hw 0).reg 3 = 0xFFFFFFFFFFFFFFFF ∧
    ((nx (runs v { g := [(1, 77)] }) (.remu 0 0 v)).hw 0).reg 3 = 77 := by
  decide +kernel

/-- R117: a write to g0 is discarded. -/
theorem test_g0 :
    let w := enc [(0, 0x10), (23, 1), (32, 5)]
    ((nx (runs w {}) (.add 0 0 w)).hw 0).reg 0 = 0 ∧ ((nx (runs w {}) (.add 0 0 w)).hw 0).pc = 8 := by
  decide +kernel

/-- R118: an RSV bit that is set ends the request with RSV_NONZERO and DETAIL 1. -/
theorem test_rsv : ((nx (runs 0x100 {}) (.nop 0 0 0x100)).hw 0).phase = .ended 0x38 1 := by decide +kernel

/-- R116: an OPCODE that the table does not list raises ILLEGAL, DETAIL 1 of an exception. -/
theorem test_illegal : ((nx (runs 0xFF {}) (.illegal 0 0 0xFF)).hw 0).phase = .ended 0x20 1 := by decide +kernel

/-- R327, R343: at DARK a command of the light list is answered NOT_NOW. -/
theorem test_dark_gate : (nx State.reset.blk (.drain .operator)).cmds.reply.status = .notNow := by decide +kernel

/-- No row of the opcode table gives bits, so no word spells a command. -/
theorem test_no_word : decodeTableWord 64 0x751 = none ∧ State.reset.withFetchWord 64 0x751 = State.reset := ⟨rfl, rfl⟩

end Sys2Proof.Tests
end

