-- ==== Sys2Proof/Tests/WitnessA.lean ====
section
/-! SUPPORT. Witnesses: for each statement with hypotheses, concrete states and operands that meet them, clause by clause. -/

-- One declaration after the other: the proofs of this file all at once would take a thread and its stack each.
set_option Elab.async false

namespace Sys2Proof.Tests

open Sys2Proof Sys2Proof.Machine

/-- A tile descriptor of FP32 elements. -/
def tileOf32 (lens rows cols base stride : Nat) : Line :=
  encLine [(0, 1), (4, lens), (8, 0), (16, rows), (32, cols), (64, base), (128, stride)]

/-- A word stands at the program counter of a running program. -/
def stands (v : W64) (x : Hw) : Bool := fetchOk (runs v x) 0 0 && (fetched (runs v x) 0 0).2 == v

/-- The block that the fetch leaves. -/
def after (v : W64) (x : Hw) : Block := (fetched (runs v x) 0 0).1

/-- Meets hypotheses of `Obligations.StepRunsFront`. -/
theorem witness_StepRunsFront : State.reset.pending = [] := rfl

/-- Meets hypotheses of `Obligations.MemoryFormKept`. -/
theorem witness_MemoryFormKept : MemInv State.reset ∧ ∃ t, step { State.reset with pending := [.eventLogWrite] } = .next t :=
  ⟨nil_memWf, _, rfl⟩

/-- A fetch that finds its word, the premise of every statement about an instruction. -/
theorem witness_Fetches : Fetches (runs (enc [(0, 0x10)]) {}) 0 0 (after (enc [(0, 0x10)]) {}) (fetched (runs (enc [(0, 0x10)]) {}) 0 0).2 :=
  fetches_of_ok (by decide +kernel)

/-- A link in some state. -/
def withLink (y : Link) : Block := lit.setLink 11 y

/-- Meets hypotheses of `Obligations.LinksAndPartNumber` (its part LinkCommands). -/
theorem witness_LinkCommands : ((withLink { st := .up }).link 11 == { st := .up } && (withLink { st := .up }).gate .service .service 0x40 == none &&
  decide (16 ≤ ({ st := .up, fails0 := 16 } : Link).fails0) && ({ st := .up, held := true } : Link).waiting == [] &&
  ({ failed0 := 8, failed1 := 8, halfOk := false, sbOk := true } : LinkTrain).failed0 == 8) = true := by decide +kernel

/-- Meets hypotheses of `Obligations.LinksAndPartNumber` (its part PartNumber). -/
theorem witness_PartNumber : (decide (lit.start.level ≠ .dark) && lit.tray.guestFitted == [] && !lit.tray.sf0Failed &&
  ({ lit with tray := { lit.tray with guestFitted := [0, 1] } } : Block).tray.guestFitted == [0, 1]) = true := by decide +kernel

/-- Meets hypotheses of `Obligations.IntegerInstructions`. -/
theorem witness_IntegerInstructions : (((List.range 16).all (fun i => i == 14 || (stands (enc [(0, 0x10 + i)]) {} && !intRsv (enc [(0, 0x10 + i)])))) &&
  (let v := enc [(0, 0x1E), (23, 1)]; stands v {} && bit v 23 && fld v 24 8 == 0 && fld v 18 5 == 0) &&
  stands (enc [(0, 0x1E)]) {} && stands (enc [(0, 0x10), (24, 1)]) {} && intRsv (enc [(0, 0x10), (24, 1)])) = true := by decide +kernel

/-- Meets hypotheses of `Obligations.FloatInstructions`. -/
theorem witness_FloatInstructions : (([0x20, 0x21, 0x22, 0x23, 0x25, 0x26, 0x27, 0x2A, 0x2B].all (fun i => stands (enc [(0, i)]) {} && !intRsv (enc [(0, i)]))) &&
  ([0x24, 0x28, 0x29].all (fun i => stands (enc [(0, i)]) {} && !unaryRsv (enc [(0, i)]))) &&
  ([9, 10].all (fun f => let v := enc [(0, 0x2C), (23, 1), (32, f)]; stands v {} && fld v 24 8 == 0 && fld v 18 5 == 0 && fld v 36 28 == 0 && fld v 32 4 == f)) &&
  stands (enc [(0, 0x2C)]) {} && [(24, 1), (18, 1), (36, 1)].all (fun q => stands (enc [(0, 0x2C), (23, 1), q]) {}) &&
  isNan32 0x7FC00001#32 && !isNan32 1#32 && !isFin32 0xFF800000#32) = true := by decide +kernel

/-- Meets hypotheses of `Obligations.PairwiseTree`. -/
theorem witness_PairwiseTree : 2 ^ 2 < ([1, 2, 3, 4, 5] : List W32).length ∧ ([1, 2, 3, 4, 5] : List W32).length ≤ 2 * 2 ^ 2 ∧
    ([1, 2, 3, 4, 5] : List W32).length ≤ 2 ^ 32 := by decide

/-- Meets hypotheses of `Obligations.ControlInstructions`. -/
theorem witness_ControlInstructions : (((List.range 13).all (fun i => stands (enc [(0, i)]) {} && fld (enc [(0, i)]) 18 14 == 0)) &&
  stands (enc [(0, 0xFF)]) {} && !listedOpcodes.contains 0xFF) = true := by decide +kernel

/-- Meets hypotheses of `Obligations.RegisterWriteAndEnding` (its part RequestEnding). -/
theorem witness_RequestEnding : (((runs 0 {}).hw 0).phase == .running && ((lit).hw 0).phase == .free &&
  ((lit.setHw 0 { phase := .ended 8 1 }).hw 0).phase == .ended 8 1) = true := by decide +kernel

/-- Meets hypotheses of `Obligations.ScalarAccesses`. -/
theorem witness_ScalarAccesses : (([0x30, 0x32].all (fun op => let v := enc [(0, op), (22, 3), (32, 0x80)]; let b := after v {}
    let r := b.footprint 0 1 2 false [(0x80, 8)]
    stands v {} && !scalarRsv v false && fld v 22 3 == 3 && footOk b 0 0 2 false [(0x80, 8)] && ownOk r.1 0 0 (r.2.pa 0x80))) &&
  ([0x31, 0x33].all (fun op => let v := enc [(0, op), (22, 3), (32, 0x80)]; let b := after v {}
    let r := b.footprint 0 1 3 false [(0x80, 8)]; let d := r.1.drainStores 0
    stands v {} && !scalarRsv v true && footOk b 0 0 3 false [(0x80, 8)] && !r.1.ownMoveOn 0 0 (((r.1.dom (r.2.pa 0x80)).getD 0) / 64) && d.canIssue 0 0 && d.drainedStores 0 && !d.moveWrites 0 0 &&
      (match d.performStore 0 ⟨0, r.2.pa 0x80, 8, 0, 0⟩ with | .ok _ => true | .error _ => false))) &&
  (let v := enc [(0, 0x30), (22, 3), (32, 0x81)]; stands v {} && !scalarRsv v false)) = true := by decide +kernel

/-- A store buffer with two stores. -/
def buffered : Block := (runs 0 {}).setLantern 0 { stores := [⟨0, 0x80, 8, 1, 0⟩, ⟨0, 0xC0, 8, 2, 0⟩] }

/-- Meets hypotheses of `Obligations.ScalarAccesses` (its part BufferedStore). -/
theorem witness_BufferedStore : ((match buffered.performStore 0 ⟨0, 0x80, 8, 1, 0⟩ with | .ok _ => true | .error _ => false)) = true := by decide +kernel

/-- Meets hypotheses of `Obligations.LensScalarsAndDescriptors` (its part TileDescriptors). -/
theorem witness_TileDescriptors : ((let v := enc [(0, 0x34), (32, 0x80)]; let b := after v {}; let r := b.footprint 0 1 2 false [(0x80, 64)]
    stands v {} && fld v 8 5 == 0 && fld v 22 10 == 0 && footOk b 0 0 2 false [(0x80, 64)] && ownOk r.1 0 0 (r.2.pa 0x80) && r.2.pa 0x80 % 64 == 0) &&
  (let v := enc [(0, 0x35), (32, 0x80)]; let b := after v {}; let r := b.footprint 0 1 3 false [(0x80, 64)]; stands v {} && footOk b 0 0 3 false [(0x80, 64)] && !r.1.ownMoveOn 0 0 (((r.1.dom (r.2.pa 0x80)).getD 0) / 64) && !(b.hw 0).tPoison.contains 0) &&
  ([0x36, 0x37].all (fun op => let v := enc [(0, op), (26, 13)]; stands v {} && fld v 13 5 == 0 && fld v 22 4 == 0 && !bit v 31 && fld v 32 32 == 0 && fld v 26 5 == 13)) &&
  (let v := enc [(0, 0x38)]; stands v {} && fld v 22 10 == 0)) = true := by decide +kernel

/-- Meets hypotheses of `Obligations.LensScalarsAndDescriptors` (its part LensScalars). -/
theorem witness_LensScalars : ((let x : Hw := { granules := [3] }
  ([0x39, 0x3A].all (fun op => let v := enc [(0, op), (22, 3), (32, 0x3FFF8)]; let b := after v x; stands v x && !scalarRsv v (op == 0x3A) &&
    (b.hw 0).mayRead 0x3FFF8 8 && (b.hw 0).mayWrite 0x3FFF8 8 && !b.lensBad 0 0x3FFF8 8 && decide (0x3FFF8 + 8 ≤ (b.hw 0).share))) &&
  (let v := enc [(0, 0x39), (22, 3), (32, 0x40000)]; stands v x && decide ((((after v x).hw 0)).share < 0x40008)) &&
  (let y : Hw := { x with board := [(7, 0, 0, true)] }; let v := enc [(0, 0x39), (22, 3)]; stands v y && !((after v y).hw 0).mayRead 0 8))) = true := by decide +kernel

/-- Meets hypotheses of `Obligations.FarAtomics`. -/
theorem witness_FarAtomics : (((List.range 10).all (fun i => [0, 1].all (fun rel => let v := enc [(0, 0xC0 + i), (28, 1), (30, rel), (13, 1)]
    let x : Hw := { g := [(1, 0x80)] }; let b := after v x
    let r := b.footprint 0 1 4 false [(0x80, 8)]; let d := r.1.drainStores 0
    stands v x && fld v 31 33 == 0 && fld v 23 5 == 0 && footOk b 0 0 4 false [(0x80, 8)] && !r.1.lineBuffered 0 (r.2.pa 0x80) && !r.1.ownMoveOn 0 0 (((r.1.dom (r.2.pa 0x80)).getD 0) / 64) && d.canIssue 0 0 && d.drainedStores 0 && !d.moveWrites 0 0 &&
    (match d.dom (r.2.pa 0x80) with
     | some pa => (match d.atomic (pa / 64) (pa % 64) true .add 0 0 with | .ok (_, _, p) => !p | .error _ => false)
     | none => false)))) &&
  (let v := enc [(0, 0xC0), (13, 1)]; stands v { g := [(1, 2)] })) = true := by decide +kernel

/-- Meets hypotheses of `Obligations.FencesAndWaits`. -/
theorem witness_FencesAndWaits : (([0, 1, 2].all (fun sc => let v := enc [(0, 0xD0), (8, sc)]; let b := after v {}; let d := b.drainStores 0
    stands v {} && !b.moveWrites 0 0 && d.canIssue 0 0 && d.drainedStores 0 && !d.moveWrites 0 0)) &&
  (let v := enc [(0, 0xD0)]; let b := { runs v {} with xfers := [{ id := 1, lantern := 0, hw := 0, req := 0, tally := some 0, writes := [(2, 1, 0, false)] }] }
    fetchOk b 0 0 && (fetched b 0 0).1.moveWrites 0 0) &&
  stands (enc [(0, 0xD0), (8, 3)]) {} && stands (enc [(0, 0xB3)]) {} && stands (enc [(0, 0xB3)]) { tallies := [(0, 1)] } &&
  (([(0, true), (1, false)] : List (Nat × Bool)).all (fun e => let v := enc [(0, 0xB2), (13, 1), (18, 2), (29, 0)]; let x : Hw := { g := [(1, 0x80), (2, BitVec.ofNat 64 e.1)], waiting := !e.2 }
    let b := after v x; let r := b.footprint 0 1 2 false [(0x80, 8)]
    stands v x && footOk b 0 0 2 false [(0x80, 8)] && ownOk r.1 0 0 (r.2.pa 0x80) && lineMeets v 0 (BitVec.ofNat 64 e.1) == e.2 &&
    (r.1.lineAt (r.2.pa 0x80) == some 2) && (r.1.watch 0 2).isSome)) &&
  (let v := enc [(0, 0xB2), (13, 1), (18, 2), (24, 3)]; let x : Hw := { g := [(1, 0x80), (2, 1), (3, 9)], waiting := true }
    let b := after v x; let d := b.waitLineRead 0 0 v; stands v x && (d.hw 0).phase == .running && (d.hw 0).waiting && (b.hw 0).waiting && (b.hw 0).reg 3 != 0)) = true := by decide +kernel

/-- Meets hypotheses of `Obligations.FencesAndWaits` (its part WatchPoll). -/
theorem witness_WatchPoll : (!((runs 0 {}).hw 0).polled && (let v := enc [(0, 0xB2), (13, 1)]; let x : Hw := { g := [(1, 0x80)], waiting := true, polled := true }
  let due := (runs v x).updChart 0 (fun t => { t with resume := t.resume.map (fun e => (e.1, true)) })
  fetchOk due 0 0 && (fetched due 0 0).2 == v && ((fetched due 0 0).1.hw 0).waiting)) = true := by decide +kernel

end Sys2Proof.Tests
end

