-- ==== Sys2Proof/Tests/WitnessB.lean ====
section
/-! SUPPORT. Witnesses: for each statement with hypotheses, concrete states and operands that meet them, clause by clause. -/

-- One declaration after the other: the proofs of this file all at once would take a thread and its stack each.
set_option Elab.async false

namespace Sys2Proof.Tests

open Sys2Proof Sys2Proof.Machine

/-- A tile descriptor of FP32 elements. -/
def tile32 (lens rows cols base stride : Nat) : Line :=
  encLine [(0, 1), (4, lens), (8, 0), (16, rows), (32, cols), (64, base), (128, stride)]

/-- A word stands at the program counter of a running program. -/
def at' (v : W64) (x : Hw) : Bool := fetchOk (runs v x) 0 0 && (fetched (runs v x) 0 0).2 == v

/-- The block that the fetch leaves. -/
def ft (v : W64) (x : Hw) : Block := (fetched (runs v x) 0 0).1

/-- Registers for moves: t0 in memory at line 2, t1 in the lens; all halves claimed. -/
def mover : Hw := { granules := [0], t := [(0, tile32 0 2 16 0x80 64), (1, tile32 1 2 16 0 64)], claims := [0, 1, 31], record := 7 }

/-- What of MOVE.M2L holds but its rows. -/
def m2l (v : W64) (x : Hw) : Bool :=
  let b := ft v x; let y := b.hw 0; let ts := y.tile 0; let td := y.tile 1
  at' v x && !moveRsv v && (tdLevelErr ts).isNone && (tdLevelErr td).isNone && (firstErr (moveChk y.share true false ts td)).isNone && y.tileWritable td && y.boardRoom (tdRanges td)

/-- Meets hypotheses of `Obligations.Moves`. -/
theorem witness_Moves : ((let v := enc [(0, 0x40), (8, 0), (12, 1)]; let b := ft v mover; let ts := (b.hw 0).tile 0
    let r := b.footprint 0 1 5 false (tdFoot ts)
    m2l v mover && footOk b 0 0 5 false (tdFoot ts) &&
    (match r.1.moveRows r.2 0 0 (tdKeep ts) (tdBase ts) (tdStride ts) (tdRowBytes ts) (tdRows ts) with
     | .ok (c, _) => (match c.moveRows r.2 0 0 (tdKeep ts) (tdXbase ts) (tdXstride ts) 0 (tdRows ts) with | .ok _ => true | .error _ => false)
     | .error _ => false)) &&
  (let v := enc [(0, 0x41), (8, 1), (12, 0)]; let b := ft v mover; let y := b.hw 0; let ts := y.tile 1; let td := y.tile 0
    at' v mover && !moveRsv v && (firstErr (moveChk y.share false false ts td)).isNone && y.tileReadable ts && y.boardRoom (tdRanges ts) && footOk b 0 0 6 false (tdFoot td) &&
    (let r := b.footprint 0 1 6 false (tdFoot td); let m := r.1.moveOut 0 y v ts td
     r.1.canIssue 0 0 && (r.1.pieceWrites r.2 (tdBase td) (tdStride td) m.1 ++ r.1.pieceWrites r.2 (tdXbase td) (tdXstride td) m.2).all (fun y =>
       !r.1.ownMoveOn 0 0 y.1 && !(r.1.lantern 0).stores.any (fun q => q.hw == 0 && q.pa / 64 == r.1.linePa y.1 / 64)))) &&
  (let v := enc [(0, 0x42), (8, 1), (25, 15), (29, 1)]; let b := ft v mover; let y := b.hw 0; let ts := y.tile 1
    at' v mover && fld v 12 11 == 0 && fld v 30 34 == 0 && (tdChk ts y.share false).isNone && tdLens ts && decide (tdRows ts ≤ 512) && decide (tdCols ts ≤ beamK (tdFmt ts)) &&
    y.claims.contains 31 && y.tileReadable ts && y.boardRoom (tdRanges ts) && !b.halfRead 0 31 && (b.halfOf 0 31).st != .loading && !b.tilePoison 0 ts)) = true := by decide +kernel

/-- A transfer in flight. -/
def moving (x : Xfer) : Block := { runs 0 { tallies := [(0, 2)], board := [(5, 0, 1, true), (6, 2, 2, false)], record := 7 } with xfers := [x], nextId := 6 }

/-- Meets hypotheses of `Obligations.Moves` (its part MoveDone). -/
theorem witness_MoveDone : ([([] : List (Nat × W64 × Line × Bool)), [(2, 1, 5, false)]].all (fun ws => let x : Xfer := { id := 5, lantern := 0, hw := 0, req := 7, tally := some 0, writes := ws }
  let b := moving x; (b.xfers.find? (fun y => y.id == 5)) == some x && (b.lantern 0).loss == .alive && x.group.isNone && x.chunks == [] &&
  [[0], [1]].all (fun hs => !hs.any (fun t => b.pathHeld (lampTile 0) t)) && (ws == [] || (b.xferWrites x).2.1.isNone))) = true := by decide +kernel

/-- Registers for SEND and RECV: t1 in the lens, g1 a lantern, g2 an offset or a count. -/
def talker (p n : W64) (tags : Tab Nat) (wait : Bool) : Hw := { mover with g := [(1, p), (2, n), (3, 9)], tags := tags, waiting := wait }

/-- Meets hypotheses of `Obligations.SendReceiveClaim`. -/
theorem witness_SendReceiveClaim : ((let v := enc [(0, 0xA0), (8, 1), (12, 1), (17, 2)]; let x := talker 1 0x3FF80 [] false; let b := ft v x; let y := b.hw 0; let ts := y.tile 1
    at' v x && fld v 28 36 == 0 && (tdLevelErr ts).isNone && (tdChk ts y.share false).isNone && tdLens ts && y.mask.getLsbD 1 && y.tileReadable ts && y.boardRoom 1) &&
  ([(0, 5, false), (5, 5, false), (6, 5, true)] : List (Nat × Nat × Bool)).all (fun e => let v := enc [(0, 0xA1), (8, 1), (12, 2), (17, 3)]; let x := talker 0 (BitVec.ofNat 64 e.1) [(0, e.2.1)] e.2.2
    let y := (ft v x).hw 0; let ts := y.tile 1
    at' v x && fld v 26 38 == 0 && (tdChk ts y.share true).isNone && y.tileWritable ts && (decide ((y.reg 2).toNat ≤ tget 0 y.tags 0) == !e.2.2) && (!e.2.2 || (y.waiting && y.reg 3 != 0)))) = true := by decide +kernel

/-- A SEND in flight from lantern 1 to lantern 0. -/
def sent : Block := let x : Xfer := { id := 5, lantern := 1, hw := 0, req := 7, tally := some 0, peer := some 0, tag := 2, chunks := [(0, 64, [1, 2, 3], false), (1, 128, [4], false)] }
  { runs 0 { mover with record := 7 } with xfers := [x], nextId := 6, requests := [(7, { mask := 3 })] }

/-- Meets hypotheses of `Obligations.SendReceiveClaim` (its part SendArrival). -/
theorem witness_SendArrival : ((sent.xfers.find? (fun y => y.id == 5)).isSome && sent.hwFor 0 7 == some 0 && (sent.hw 0).phase == .running && !(sent.request 7).left.getLsbD 0 && decide (64 + 3 ≤ (sent.hw 0).share) && (sent.lantern 0).loss == .alive && !sent.pathHeld (lampTile 1) (lampTile 0)) = true := by decide +kernel

/-- Meets hypotheses of `Obligations.SendReceiveClaim` (its part Claims). -/
theorem witness_Claims : ((let v := enc [(0, 0x51), (8, 1)]; let x : Hw := { g := [(1, 0x80000001)] }
    at' v x && fld v 13 51 == 0 && ((ft v x).hw 0).claims == [] && ((ft v x).lantern 0).claimers == [] && (ft v x).halvesFree 0 [0, 31] && setBits (((ft v x).hw 0).reg 1) 32 == [0, 31]) &&
  (let v := enc [(0, 0x51), (8, 1)]; let b := (runs v {}).setLantern 0 { claimers := [3] }; fetchOk b 0 0 && (((fetched b 0 0).1).lantern 0).claimers == [3]) &&
  at' (enc [(0, 0x51)]) { claims := [4] } &&
  (let v := enc [(0, 0x52), (8, 1)]; let x : Hw := { g := [(1, 0x80000000)], claims := [0, 31] }; at' v x && (setBits (((ft v x).hw 0).reg 1) 32).all (fun n => ((ft v x).hw 0).claims.contains n)) &&
  (let b := (runs 0 { claimWant := [3, 4] }).setLantern 0 { claimers := [0, 1] }; (b.lantern 0).claimers == [0, 1] && b.halvesFree 0 (b.hw 0).claimWant && (b.lantern 0).loss == .alive)) = true := by decide +kernel

/-- A full half in beam 15 and a claimed, received set. -/
def beamer : Hw := { mover with claims := [30, 31], sets := [4], t := [(1, tile32 1 2 16 0 64)], g := [(1, 5)] }

/-- The same machine with the half. -/
def withHalf (v : W64) (x : Hw) : Block := { runs v x with beams := [(15, { halves := [(1, { st := .full, owner := some 0, fmt := 0, n := 2, k := 16, tscale := one32, cols := [[1], [2]] })] })], sets := [(4, { owner := some 0 })] }

/-- Meets hypotheses of `Obligations.BeamQueueAndResult` (its part BeamQueue). -/
theorem witness_BeamQueue : ((let v := enc [(0, 0x50), (8, 15), (12, 1), (16, 0), (21, 1)]; let b0 := withHalf v beamer; let b := (fetched b0 0 0).1; let x := b.hw 0; let ta := x.tile 1; let y := (b.beam 15).half 1
    fetchOk b0 0 0 && (fetched b0 0 0).2 == v && fld v 23 41 == 0 && (tdLevelErr ta).isNone && x.claims.contains 31 && y.st != .empty && (tdChk ta x.share false).isNone && tdLens ta &&
    decide (tdRowBytes ta ≤ 1024) && pairsOk (tdFmt ta) y.fmt && tdScale ta == y.scale && decide (tdRows ta ≤ 32) && tdCols ta == y.k && decide (y.k ≤ beamK (tdFmt ta)) && decide (0 < x.sets.length) &&
    (match setAfter (b.projected 0 4) false (tdFmt ta) y.fmt (tdScale ta) (tdRows ta) y.n y.k (tdTensor ta) y.tscale with | .ok _ => true | .error _ => false) &&
    b.queueRoom 0 15 && x.boardRoom (tdRanges ta)) &&
  (let v := enc [(0, 0xE0), (8, 15), (12, 0), (22, 1)]; let b0 := withHalf v beamer; let b := (fetched b0 0 0).1; let x := b.hw 0
    fetchOk b0 0 0 && fld v 27 37 == 0 && !x.waiting && x.claims.contains 30 && x.claims.contains 31 && (b.projected 0 4).st == .free && !(b.lantern 0).vectorsBad && b.queueRoom 0 15)) = true := by decide +kernel

/-- A BEAM in the queue of beam 15, staged or running. -/
def queued (staged running : Bool) (credit : Int) (self : Bool) : Block :=
  let o : BeamOp := { id := 1, hw := 0, beam := 15, half := 1, set := 4, add := false, a := tile32 1 2 16 0 64, aFirst := 0, aLast := 1, selftest := if self then some (3, 1) else none, staged := if staged then some ([[1], [2]], []) else none }
  { runs 0 beamer with beams := [(15, { queue := if running then [] else [o], run := if running then some o else none, credit := credit, loaded := some 15, halves := [(1, { st := .full, owner := some 0, fmt := 0, n := 2, k := 16, tscale := one32, cols := [[1], [2]] })] })], sets := [(4, { owner := some 0 })] }

/-- Meets hypotheses of `Obligations.BeamRunAndPoints` (its part BeamRun). -/
theorem witness_BeamRun : ((let b := queued false false 0 false; (b.beam 15).queue.any (fun q => q.selftest.isNone && q.staged.isNone) && (b.beam 15).queue.all (fun o => !b.aWriters 0 o) && b.hostOf 0 15 == 15) &&
  (let b := queued true false 0 false; (b.beam 15).queue.all (fun o => b.issueBlocked 0 15 o == 0) && !b.beamRuns 0 15 && (b.beam 15).loaded.getD 15 == 15 && decide (0 ≤ creditTick (b.beam 15).credit (b.lantern 0).rate)) &&
  (let b := (queued true false (-64) false).updLantern 0 (fun x => { x with rate := 0 }); (b.beam 15).queue.all (fun o => b.issueBlocked 0 15 o == 0) && decide (creditTick (b.beam 15).credit (b.lantern 0).rate < 0)) &&
  (queued true true 0 false).beamRuns 0 15 && (((queued true true 0 true).beam 15).run.bind BeamOp.selftest).isSome) = true := by decide +kernel

/-- Meets hypotheses of `Obligations.BeamQueueAndResult` (its part BeamResult). -/
theorem witness_BeamResult : ((let b := queued true true 0 false; b.hostOf 0 15 == 15 && !((b.beam 15).half 1).poison && ((b.beam 15).half 1).xs == [] && (List.range 32).all (fun n => !(b.halfOf 0 n).releasing))) = true := by decide +kernel

/-- Meets hypotheses of `Obligations.BeamRunAndPoints` (its part OperatingPoints). -/
theorem witness_OperatingPoints : (at' (enc [(0, 0xD1), (8, 7)]) {} && fld (enc [(0, 0xD1), (8, 7)]) 11 53 == 0 && ((lit.setLantern 63 { opPending := some 3 }).lantern 63).opPending == some 3 &&
  (((queued true true 0 false).beam 15).run).isSome && [0, 1, 2, 3].all (fun g => (lit.hw (hwNo 63 g)).phase == .free)) = true := by decide +kernel

end Sys2Proof.Tests
end

