-- ==== Sys2Proof/Tests/WitnessC.lean ====
section
/-! SUPPORT. Witnesses: for each statement with hypotheses, concrete states and operands that meet them, clause by clause. -/

-- One declaration after the other: the proofs of this file all at once would take a thread and its stack each.
set_option Elab.async false

namespace Sys2Proof.Tests

open Sys2Proof Sys2Proof.Machine

/-- A tile descriptor in the lens: format, rows, columns, base, stride. -/
def lensTile (fmt scale rows cols base stride : Nat) : Line :=
  encLine [(0, 1), (4, 1), (8, fmt), (12, scale), (16, rows), (32, cols), (64, base), (128, stride), (192, 0x3F800000)]

/-- Registers for the post unit: t1 source, t2 destination, t3 a BF16 gradient; g1 is 1. -/
def poster : Hw := { granules := [0], sets := [4], g := [(1, 1), (2, 0), (3, 0x80), (4, 0x80)], t := [(1, lensTile 0 0 2 16 0 64), (2, lensTile 0 0 2 16 4096 64), (3, lensTile 1 0 2 16 8192 64)] }

/-- The same with an OPEN set. -/
def posts (v : W64) : Block := { runs v poster with sets := [(4, { st := .opn, m := 2, n := 16, owner := some 0, ta := one32, tb := one32 })] }

/-- The block after the fetch. -/
def pf (v : W64) : Block := (fetched (posts v) 0 0).1

/-- A word stands at the program counter. -/
def pAt (v : W64) : Bool := fetchOk (posts v) 0 0 && (fetched (posts v) 0 0).2 == v

/-- Meets hypotheses of `Obligations.PostsAndLayers` (its part Posts). -/
theorem witness_Posts : (([enc [(0, 0x60), (8, 1), (13, 1), (18, 1), (24, 2)], enc [(0, 0x60), (8, 0), (18, 0), (24, 2)]] : List W64).all (fun v => let b := pf v; let x := b.hw 0
    let lens := bit v 13; let y := b.accSet 4; let hdr := b.projected 0 4
    pAt v && !postIllegal v && !postRsv v && (postTiles v).all (fun i => !x.tPoison.contains i && (tdLevelErr (x.tile i)).isNone) &&
    (firstErr (postChk x v hdr.st 2 16)).isNone && !postWaits x v && (lens || (y.st != .busy && !(b.beamOps 0).any (fun o => o.set == 4) && !y.entries.any (fun a => a.2.poison))) &&
    goesOn (fun go => b.postIssue 0 0 (b.hostOf 0 (if lens then 0 else y.beam)) (2 * postCycles (fld v 18 6) + 16) go) && !b.tilePoison 0 (x.tile 1)) &&
  (let v := enc [(0, 0x60), (18, 0x19)]; pAt v && postIllegal v)) = true := by decide +kernel

/-- Meets hypotheses of `Obligations.ReductionsAndOptimiser` (its part Reductions). -/
theorem witness_Reductions : (([0x70, 0x71, 0x72].all (fun op => let v := enc [(0, op), (8, 1), (12, 2), (16, 1), (21, 2)]; let b := pf v; let x := b.hw 0; let ts := x.tile 1; let td := x.tile 2
    pAt v && fld v 42 22 == 0 && fld v 26 10 == 0 && (tdLevelErr ts).isNone && (tdChk ts x.share false).isNone && (tdLevelErr td).isNone && (tdChk td x.share true).isNone && tdLens td &&
    (x.reg 1).toNat == 1 && decide (tdBase ts + tdSpan ts ≤ x.share) && x.mayRead 0 (tdSpan ts) && x.tileWritable td && !b.lensBad 0 0 64)) &&
  ([0x73, 0x74].all (fun op => let v := enc [(0, op), (8, 1), (26, 5), (31, 6)]; let b := pf v; let x := b.hw 0; pAt v && fld v 36 28 == 0 && fld v 12 14 == 0 && x.tileReadable (x.tile 1) && !b.tilePoison 0 (x.tile 1)))) = true := by decide +kernel

/-- Meets hypotheses of `Obligations.ReductionsAndOptimiser` (its part Optimiser). -/
theorem witness_Optimiser : ((let v := enc [(0, 0x80), (8, 1), (12, 2), (16, 2), (20, 3), (24, 3), (29, 4)]; let b := pf v; let x := b.hw 0
    pAt v && fld v 39 25 == 0 && [1, 2, 3].all (fun i => (tdLevelErr (x.tile i)).isNone) && (firstErr (optTileChk x v)).isNone && goesOn (fun go => b.dieRead 0 0 9 0x80 64 (fun c _ => go c)) &&
    goesOn (fun go => b.withLayer 0 0 0x80 (fun c _ _ _ _ => go c)) && decide (lyAlgo (0 : Line) < 2) && (firstErr (optRecChk x v 0 0 0)).isNone &&
    x.tileReadable (x.tile 3) && x.tileWritable (x.tile 1) && x.tileWritable (x.tile 2) && [1, 2, 3].all (fun i => !b.tilePoison 0 (x.tile i)) &&
    (match b.addCounts 2 16 [0, 0] with | .ok _ => true | .error _ => false)) &&
  (let v := enc [(0, 0x81), (29, 4)]; let b := pf v; let r := closeLayer 0 1000 256
    pAt v && fld v 8 21 == 0 && fld v 34 30 == 0 && goesOn (fun go => b.withLayer 0 0 0x80 (fun c _ _ _ _ => go c)) && (firstErr (layerChk 0 0)).isNone &&
    (match b.write 2 (BitVec.allOnes 64) r.1 false with | .ok c => (match c.write 3 (BitVec.allOnes 64) r.2.1 false with | .ok _ => true | .error _ => false) | .error _ => false))) = true := by decide +kernel

/-- Meets hypotheses of `Obligations.PostsAndLayers` (its part CheckSelection). -/
theorem witness_CheckSelection : (let v := enc [(0, 0xD2), (8, 1), (12, 1), (13, 1)]; let b := pf v; let x := b.hw 0
  pAt v && fld v 18 46 == 0 && (tdLevelErr (x.tile 1)).isNone && (tdChk (x.tile 1) x.share false).isNone && (b.cfg 0x61000005 (2 ^ 256 - 1)).testBit x.ctx && x.tileReadable (x.tile 1) && x.boardRoom (tdRanges (x.tile 1)) &&
  !((({ b with store := { b.store with inForce := [(0x61000005, List.replicate 32 0)] } } : Block).cfg 0x61000005 (2 ^ 256 - 1)).testBit x.ctx)) = true := by decide +kernel

/-- A CHECKSUM descriptor: a region, a destination and a status word in the range entry of context 1. -/
def skD (op : Nat) : Line := encLine [(0, 1), (4, op), (8, 0), (24, 0), (64, 0x1000), (128, 0x2000), (192, 2), (224, 16), (240, 1), (448, 0x3000)]

/-- Meets hypotheses of `Obligations.SinkQueueAndConditions` (its part SinkQueue). -/
theorem witness_SinkQueue : ((let v := enc [(0, 0x90), (8, 3)]; let b := pf v
    pAt v && fld v 15 49 == 0 && !(b.hw 0).waiting && goesOn (fun go => b.dieRead 0 0 9 0x80 64 (fun c _ => go c)) && goesOn (fun go => b.sinkChecked 0 0 (skD 5).toNat (some 0) none (fun c _ => go c)) &&
    !skLens (skD 5) && decide ((b.sinker (skStack (skD 5))).queued < 256) && (b.sinker (skStack (skD 5))).ops.all (fun q => q.admitted))) = true := by decide +kernel

/-- A descriptor that waits at sinker 0. -/
def skWaits (adm ran : Bool) (tally : Option Nat) (op : Nat) : SinkOp := { id := 9, desc := skD op, lantern := 0, hw := 0, ctx := 1, tally := tally, group := none, physical := true, admitted := adm, ran := ran }

/-- Sinker 0 with a descriptor. -/
def sinks (o : SinkOp) : Block := (runs 0 { waiting := true }).setSinker 0 { ops := [o] }

/-- Meets hypotheses of `Obligations.SinkQueueAndConditions` (its part SinkAdmitDone). -/
theorem witness_SinkAdmitDone : (((sinks (skWaits false false (some 1) 5)).sinker 0).next == some (skWaits false false (some 1) 5) && decide (((sinks (skWaits false false (some 1) 5)).sinker 0).queued < 256) &&
  ((sinks (skWaits false false (some 1) 5)).hw 0).waiting && ((sinks (skWaits false false (some 1) 5)).hw 0).phase == .running && [true, false].all (fun r => ((sinks (skWaits true r (some 1) 5)).sinker 0).ops.any (fun q => q.id == 9))) = true := by decide +kernel

/-- A sinker that may run a descriptor. -/
def skRun (op : Nat) : Block := sinks (skWaits true false (some 1) op)

/-- Meets hypotheses of `Obligations.SinkerOperations`. -/
theorem witness_SinkerOperations : (let b := skRun 5; let o := skWaits true false (some 1) 5
  !(b.sinker 0).dead && (b.sinker 0).throttle != .stopped && !b.statusWaits o && [5, 3].all (fun i => skOp (skD i) == i) && (match b.sinkRows o (List.range 2) with | .ok r => !r.2 | .error _ => false)) = true := by decide +kernel

/-- Meets hypotheses of `Obligations.SinkerOperations` (its part SinkerOps2). -/
theorem witness_SinkerOps2 : ((let o := skWaits true false (some 1) 4; match (skRun 4).fillRows o with | .ok _ => skOp o.desc == 4 && !(skRun 4).statusWaits o | .error _ => false) &&
  (let o := skWaits true false (some 1) 6; match (skRun 6).copyRows o with | .ok _ => skOp o.desc == 6 && !(skRun 6).statusWaits o | .error _ => false) &&
  (let o := { skWaits true false (some 1) 1 with desc := encLine [(0, 1), (4, 1), (128, 0x2000), (192, 2), (224, 16), (240, 1), (256, 1), (288, 1), (320, 0x4000), (448, 0x3000)] }; match (skRun 1).gatherBags o with | .ok (_, _, p) => !p && !(skRun 1).statusWaits o | .error _ => false) &&
  (let o := { skWaits true false (some 1) 2 with desc := encLine [(0, 1), (4, 2), (128, 0x2000), (192, 2), (224, 16), (240, 1), (256, 0x4000), (326, 1), (331, 1), (448, 0x3000)] }; match (skRun 2).sinkQueries o with | .ok (_, p) => !p && !(skRun 2).statusWaits o | .error _ => false)) = true := by decide +kernel

/-- A sinker at a throttle. -/
def skThr (t : Throttle) : Block := lit.setSinker 15 { throttle := t }

/-- Meets hypotheses of `Obligations.SinkQueueAndConditions` (its part SinkerConditions). -/
theorem witness_SinkerConditions : (((skThr .half).sinker 15).throttle == .half && ((skThr .quarter).sinker 15).throttle == .quarter && ((skThr .stopped).sinker 15).throttle == .stopped && !((skThr .full).sinker 15).lost && ((skThr .full).sinker 15).ops == []) = true := by decide +kernel

end Sys2Proof.Tests
end

