-- ==== Sys2Proof/Tests/WitnessD.lean ====
section
/-! SUPPORT. Witnesses: for each statement with hypotheses, concrete states and operands that meet them, clause by clause. -/

-- One declaration after the other: the proofs of this file all at once would take a thread and its stack each.
set_option Elab.async false

namespace Sys2Proof.Tests

open Sys2Proof Sys2Proof.Machine

/-- The memory of contexts: an entry for context 255, a queue descriptor at 0x1000 with watcher 63 and its TAIL at 0x2000. -/
def ctxMem : List (Nat × Line) := [(64, encLine [(0, 1), (8, 255), (16, 4), (64, 0x2000), (128, 0x3000), (255, 1)]), (128, encLine [(0, 3)]),
  (510, encLine [(0, 1), (4, 1), (5, 1), (6, 2), (64, 0x5000), (128, 2 ^ 63 + 1), (192, 0x6000), (256, 1), (288, 2), (320, 3)])]

/-- Context 255 in a state. -/
def withCtx (s : CtxSt) : Block := { withLines lit ctxMem with contexts := [(255, { st := s, lanterns := BitVec.allOnes 64 })] }

/-- Context 255 with a queue descriptor whose first word is given. -/
def withDesc (x : Nat) : Block := { withLines (withCtx .active) [(64, encLine [(0, x), (8, 255), (16, 4), (64, 0x2000), (128, 0x3000), (255, 1)])] with
  queues := [(1023, { live := true, ctx := 255 })] }

/-- Meets hypotheses of `Obligations.ContextCommands`. -/
theorem witness_ContextCommands : ([lit.gate .operator .operator 0x02 == none, ((withCtx .destroying).ctx 255).st == .destroying, ((withCtx .free).ctx 255).st == .free,
  (match (withCtx .free).readWords 64 ((withCtx .free).cfg 0x02000040 0 + 128 * 255) 2 with | .ok ws => (let e : BitVec 1024 := BitVec.ofNat 1024 (ws.getD 0 0 + ws.getD 1 0 * 2 ^ 512); fld e 8 56 == 0 && fld e 352 672 == 0 && fld e 0 4 == 1 && bit e 4) | .error _ => false),
  (match (withDesc 0x11).readBytes 0x1000 64 with | .ok v => fld (BitVec.ofNat 512 v) 4 4 != 0 | .error _ => false),
  (match (withDesc 2).readBytes 0x1000 64 with | .ok v => !queueRsv (BitVec.ofNat 512 v) && fld (BitVec.ofNat 512 v) 0 4 != 1 | .error _ => false),
  (let b := withDesc 1; match b.readBytes 0x1000 64 with
   | .ok v => (let w : Line := BitVec.ofNat 512 v; !queueRsv w && b.queueOk 255 w && (match b.readAt (fld w 64 64) 4 with | .ok t => t == 3 | .error _ => false) && b.lineAt 0x2000 == some 128 && b.freeQueue == some 0 && setBits (BitVec.ofNat 64 (fld w 192 64) : W64) 64 == [63] && (b.lantern 63).freeSlot == some 0 && (b.watch 63 128).isSome)
   | .error _ => false),
  (let b := withDesc 1; (b.queue 1023).live && (b.ctx (b.queue 1023).ctx).st == .active), (withCtx .destroying).destroyReady 255, !(withCtx .active).destroyReady 255]).all id = true := by decide +kernel

/-- The memory of a queue: TAIL 3 at 0x2000, a record for lantern 63 at 0x3000, its program's header at 0x5000, its completion record at
0x6000. -/
def takeMem : List (Nat × Line) := [(128, encLine [(0, 3)]), (192, encLine [(0, 1), (8, 255), (64, 0x5000), (255, 1), (256, 0x6000)]), (193, 0),
  (320, encLine [(0, 1), (8, 1), (32, 64)]), (384, 0)]
/-- Lantern 63 watches queue 0 of context 255 at a position. -/
def watching (pos tail : Nat) (notice : Bool) : Block := { withLines lit takeMem with
  contexts := [(255, { st := .active, lanterns := BitVec.allOnes 64 })]
  charts := [(63, { ranges := [{ ctx := 255, va := 0, len := 2 ^ 30, pa := 0, r := true, w := true, x := true }] })]
  queues := [(0, { live := true, ctx := 255, log2 := 4, header := 0x2000, ring := 0x3000, watchers := BitVec.ofNat 64 (2 ^ 63) })]
  lanterns := [(63, { slots := [(15, { queue := 0, pos := pos, tail := tail, notice := notice })] })] }

/-- Meets hypotheses of `Obligations.Takes`. -/
theorem witness_Takes : ([[0, 2 ^ 32 - 13, 2 ^ 32 - 14].all (fun p => let b := watching p 0 true; (b.lantern 63).loss != .fencing && (b.ctx (b.queue 0).ctx).st != .extinguished && (match b.lampRead 63 (b.queue 0).header 4 with | .ok t => t == 3 | .error _ => false)),
  (watching 2 3 false).start.level == .lit, State.reset.blk.start.level != .lit, lit.silent.svc == .inService,
  [Svc.draining, .condemned].all (fun v => let b := { lit with silent := { lit.silent with svc := v } }; b.start.level == .lit && b.silent.svc == v),
  (watching 3 3 false).takeOrder 63 == [],
  (let b := { watching 0 3 false with hws := [0, 1, 2, 3].map (fun h => (hwNo 63 h, { phase := .running, ctx := 9, queue := 5 })) }; b.takeOrder 63 == [15] && (b.takeHead { l := 63, slot := 15, queue := 0, record := 0, held := none }).isNone),
  (let b := watching 0 3 false; b.takeOrder 63 == [15] && (b.takeHead { l := 63, slot := 15, queue := 0, record := 0, held := none }).isSome)]).all id = true := by decide +kernel

/-- Meets hypotheses of `Obligations.Takes`: a record that starts its program. -/
theorem witness_Started : ((let b := watching 0 3 false; let q := b.queue 0
   match b.lampWords 63 64 (q.ring + 128 * (0 % 2 ^ q.log2)) 2 with
   | .ok [w0, w1] =>
     let r : BitVec 1024 := BitVec.ofNat 1024 (w0 + w1 * 2 ^ 512); let mask : W64 := BitVec.ofNat 64 (fld r 192 64)
     match ((b.homeRead 0x3000).homeRead 0x3040).translate 63 255 (fld r 256 64) 4 false with
     | (b1, .ok pa _) =>
       match b1.translate 63 255 (fld r 64 64) 9 false with
       | (b2, .ok epa _) =>
         match b2.lampRead 63 epa 64 with
         | .ok v =>
           let hd : Line := BitVec.ofNat 512 v; let c := b2.homeRead epa
           [b.recordErr q r == none, mask.getLsbD 63, fld r 256 64 % 64 == 0, fld r 128 64 == 0, (b1.dom pa).isSome, (b1.lantern 63).loss != Loss.fencing,
            !b1.gone 63, headerErr hd == none, (setBits mask 64).all (fun i => !b2.takesHeld i && !b2.gone i), c.freeCtx 63 == some 0,
            decide (fld hd 8 8 ≤ (c.freeGranules 63).length ∧ fld hd 16 6 ≤ (c.freeSets 63).length),
            (match c.lampRead 63 pa 4 with | .ok o => o / 2 ^ 24 == 0 | .error _ => false)]
         | .error _ => [false]
       | _ => [false]
     | _ => [false]
   | _ => [false])).all id = true := by decide +kernel

/-- A record's words. -/
def record (fs : List (Nat × Nat)) : BitVec 1024 := BitVec.ofNat 1024 (fs.map (fun e => e.2 * 2 ^ e.1)).sum

/-- Meets hypotheses of `Obligations.Takes`: a record for each check that may fail first, and one that passes. -/
theorem witness_RecordChecks : ((let b := watching 0 3 false; let q := b.queue 0
   let f := [(0, 1), (8, 255), (64, 0x5000), (255, 1), (256, 0x6000)]
   [fld (record [(0, 2)]) 0 4 != 1, fld (record [(0, 1), (1023, 1)]) 576 448 != 0, ((withCtx .extinguished).ctx 255).st != .active,
    fld (record [(0, 1), (8, 254)]) 8 8 != q.ctx, fld (record [(0, 1), (8, 255)]) 192 64 == 0, fld (record (f ++ [(128, 1)])) 128 64 % 64 != 0,
    bit (record (f ++ [(16, 1)])) 16 && fld (record (f ++ [(16, 1)])) 320 64 == 0,
    bit (record (f ++ [(16, 1), (320, imsicBase), (384, 2047)])) 16 && decide (imsicBase < imsicEnd), b.recordErr q (record f) == none])).all id = true := by decide +kernel

/-- Meets hypotheses of `Obligations.ProgramStart`. -/
theorem witness_ProgramStart : (decide ((63 : Nat) < 64 ∧ (3 : Nat) < 4)) = true := by decide +kernel

/-- An ended program of context 1. -/
def ended (w : Hw) : Block := { runs 0 {} with hws := [(0, { w with ctx := 1, comp := 0x80, compPa := 0x80 })] }

/-- Meets hypotheses of `Obligations.Joins`. -/
theorem witness_Joins : ([(let b := ended { phase := .ended 0 0 }; let d := b.drainStores 0; (b.hw 0).check.isNone && (b.lantern 0).loss == .alive && (d.hw 0).phase == .ended 0 0 && d.joinReady 0 0 && (match d.translate 0 1 0x80 4 false with | (c, .ok pa _) => (c.dom pa).isSome | _ => false)),
  (let b := ended { phase := .ended 0 0, tallies := [(0, 1)] }; !(b.drainStores 0).joinReady 0 0),
  (let b := { ended { phase := .ended 0 0 } with lanterns := [(0, { loss := .lost })] }; (b.lantern 0).loss == .lost && (b.hw 0).check.isNone), ((runs 0 {}).hw 0).phase == .running,
  (let b := runs 0 { cnotice := true, compPa := 0x80 }; (b.hw 0).cnotice && (b.lantern 0).loss == .alive && (match b.lampRead 0 0x80 4 with | .ok v => v / 2 ^ 24 == 0 | .error _ => false)),
  (let b := withLines (runs 0 { cnotice := true, compPa := 0x1000 }) [(64, encLine [(24, 8)])]; (b.hw 0).phase == .running && (match b.lampRead 0 0x1000 4 with | .ok v => v / 2 ^ 24 != 0 | .error _ => false)),
  (let b := { runs 0 { lateKind := 1, lateDomain := 7, lateStream := 224, lateLayer := 3 } with domains := [(7, { streams := [{ ctx := 1, num := 224, pa := 0, wrap := false, ahead := 2, replica := -1, layers := [], window := 2, resident := [0, 1] }] })] }; b.stillLate 0), !(runs 0 {}).stillLate 0]).all id = true := by decide +kernel

/-- Context 1 with its fault ring at 0x4000. -/
def ringed (x : Context) : Block := (runs 0 {}).setCtx 1 { x with ring := 0x4000 }
/-- A program of context 1 whose access is held, with the ring's lines 0x101 (the driver's) and 0x140 (the first records). -/
def heldAccess (v : Nat) (poison : Bool) (batch : Nat) : Block :=
  ((withLines (((ringed { st := .active }).setHw 0 { phase := .held 0, ctx := 1, slots := [0], batch := batch }).setChart 0 { resume := [(1, true)] }) [(320, encLine [(248, v)])]).updLine 320
    (fun y => { y with slice := some { data := encLine [(248, v)], dirty := true, poison := poison } }))
/-- What the chart leaves held after RESUME, as the statement says it. -/
def stillHeld (b : Block) (gen : Nat) : Bool :=
  let b1 := (b.homeRead (0x4000 + 0x44)).updChart 0 (fun t => { t with resume := tput t.resume 1 false })
  let b2 := [0, 1, 2, 3].foldl (fun (a : Block) h => if (a.hw (hwNo 0 h)).ctx = 1 then a.resumeHw 0 h gen else a) b1
  [0, 1, 2, 3].any (fun h => match (b2.hw (hwNo 0 h)).phase with | .held _ => (b2.hw (hwNo 0 h)).ctx == 1 | _ => false)

/-- Meets hypotheses of `Obligations.FaultsAndWithdrawals` (its part on fault batches). -/
theorem witness_FaultBatches : ([(ringed {}).ringRoom 1, !(ringed { tail := 2048 }).ringRoom 1, ((ringed {}).ctx 1).openCount == 0,
  (let b := ringed { openCount := 1, tail := 1 }; let x := b.ctx 1; let p1 := b.poke (x.ring + 0x1000 + 32 * ((x.tail + 2047) % 2048) + 20) 1 1
   x.openCount == 1 && p1.2 && (p1.1.poke x.ring 8 (x.tail % 2 ^ 32 + (x.closed + 1) % 2 ^ 32 * 2 ^ 32)).2),
  (let r : FaultRec := ⟨0, 0, 1, 1, 2, 3, 4, 5, none⟩; let b := ringed { heldRecs := [r] }; (b.ctx 1).heldRecs == [r] && b.ringRoom 1 && ((b.updCtx 1 (fun y => { y with heldRecs := [] })).ringWrite 1 r).isSome),
  (let b := heldAccess 0 false 4; thas (b.chart 0).resume 1 && (b.lantern 0).loss == .alive && (match b.lampRead 0 0x4044 4 with | .ok _ => true | .error _ => false) && stillHeld b 3 && !stillHeld b 4),
  !thas ((ringed {}).chart 0).resume 1,
  (let b := heldAccess 0 false 4; (b.hw 0).phase == .held 0 && (b.hw 0).slots == [0] && (b.ctx 1).heldRecs == [] && (b.readAt (0x4000 + 0x1000 + 31) 1 matches .ok _) && b.peek (0x4000 + 0x1000 + 31) 1 == some 0),
  (let b := heldAccess 1 false 4; (b.readAt (0x4000 + 0x1000 + 31) 1 matches .ok _) && b.peek (0x4000 + 0x1000 + 31) 1 == some 1),
  (heldAccess 0 true 4).readAt (0x4000 + 0x1000 + 31) 1 matches .error .poison]).all id = true := by decide +kernel

/-- Withdrawals of context 1. -/
def withW (dropped : Bool) (n : Nat) : Block := { runs 0 {} with withdrawals := (List.range n).map (fun i => { seq := i + 1, ctx := 1, ack := some 0x8000, dropped := dropped }), nextWithdrawal := n + 1 }

/-- Meets hypotheses of `Obligations.FaultsAndWithdrawals` (its part on withdrawals). -/
theorem witness_Withdrawals : ([(withW true 1).gate .operator .operator 0x02 == none, (withW false 16).withdrawals.length == 16, (withW false 15).withdrawals.length == 15, ((withW true 0).ctx 2).st == .free, ((withW true 0).ctx 1).st == .active, (withW true 0).rangeOk 0x8000 8,
  (let b := withW true 2; match b.withdrawals with | w :: _ => b.drained w && w.ack == some 0x8000 && b.dom 0x8000 == some 0x8000 && (b.write 512 (byteMask 0 8) (linePut 0 0 8 w.seq) false matches .ok _) | [] => false),
  (let b := withW false 2; match b.withdrawals with | w :: _ => !b.drained w | [] => false),
  (let b := { (withW true 1).setChart 0 { refs := [(0, 1)] } with xfers := [{ id := 1, lantern := 0, hw := 0, req := 0, tally := some 0 }] }
   match b.withdrawals.find? (fun x => x.seq == 1) with | some w => w.dropped && !b.drained w && decide (0 ≤ tget 0 w.epochs 0) && (b.hw (hwNo 0 0)).phase == .running && (List.range 63).all (fun i => (b.chart (i + 1)).refs == [] && (b.lantern (i + 1)).stores == []) | none => false)]).all id = true := by decide +kernel

/-- A group descriptor's fields for context 1: leader 63, period 32, lantern 63, its directory at 0x8000. -/
def grpFields : List (Nat × Nat) := [(0, 1), (8, 1), (16, 63), (32, 32), (48, 1), (128, 2 ^ 63), (256, 0x8000)]
/-- A group descriptor at 0x1000 with some fields, a directory at 0x8000 whose last entries are given, and a table of one entry at 0xC000. -/
def grpMem (fs : List (Nat × Nat)) (d62 d63 : Nat) (e : Nat) : Block :=
  { withLines lit [(64, encLine fs), (527, BitVec.ofNat 512 (d62 * 2 ^ 256 + d63 * 2 ^ 384)), (768, BitVec.ofNat 512 e)] with
    contexts := [(1, { st := .active, lanterns := BitVec.allOnes 64 })] }
/-- A directory entry that names a table at 0xC000. -/
def dirAt (n : Nat) : Nat := 0xC000 + n * 2 ^ 64
/-- Group 15 in a state. -/
def grpSt (b : Block) (x : Group) : Block := b.setGroup 15 x
/-- A refusal's cause, member and entry. -/
def refusedAs (b : Block) (st : Sts) (m i : Nat) : Bool := b.formCheck 15 0x1000 == .refused st m i

/-- Meets hypotheses of `Obligations.GroupCommands`. -/
theorem witness_GroupCommands : ((let ok := grpMem grpFields 0 (dirAt 1) 0
  [ok.gate .operator .operator 0x22 == none, (match ok.formCheck 15 0x1000 with | .ok y => y.bound.isNone && y.count == 0 | _ => false), (match ok.formCheck 15 0x1001 with | .refused _ _ _ => true | _ => false),
   [GroupSt.free, .formed, .degraded, .bound].all (fun z => ((grpSt ok { st := z, desc := 0x1000 }).group 15).st == z && (((grpSt ok { st := z, desc := 0x1000 }).formCheck 15 0x1000) matches .ok _) && (((grpSt ok { st := z, desc := 0x1000 }).formCheck 15 0x1001) matches .refused _ _ _)),
   ({ ok with berths := [(0, { st := .failed })] } : Block).readAt 0x1000 64 == .error .failed, ok.readAt 0x1000 64 matches .ok _])).all id = true := by decide +kernel

/-- Meets hypotheses of `Obligations.GroupCommands`: a descriptor for each check of FORM that may fail first, and one that passes. -/
theorem witness_FormOrder : ((let f := grpFields; let full := [1, 2, 3, 4, 5, 6, 7, 8].map (fun g => (g, ({ members := [(63, { table := List.replicate 512 ⟨1, 0, 0, 0, 0, 0, 0, 0, 0, 0, 0⟩ })] } : Group)))
  [refusedAs (grpMem (f ++ [(1, 1)]) 0 (dirAt 1) 0) .levelReject 0 0, refusedAs (grpMem (f ++ [(511, 1)]) 0 (dirAt 1) 0) .rsvNonzero 0 0,
   refusedAs (grpMem f (2 ^ 77) (dirAt 1) 0) .rsvNonzero 62 0, refusedAs (grpMem f 0 (dirAt 1) (2 ^ 26)) .rsvNonzero 63 0,
   refusedAs (grpMem (f ++ [(190, 1)]) 0 (dirAt 1) 0 |>.updLantern 62 (fun y => { y with loss := .lost })) .badMember 62 0,
   refusedAs (grpMem (f ++ [(8, 1)]) 0 (dirAt 1) 0) .badMember 63 0,
   refusedAs (grpMem ((f.filter (fun e => e.1 != 32)) ++ [(32, 31)]) 0 (dirAt 1) 0) .badGroupDesc 0 0, refusedAs (grpMem f (dirAt 1) (dirAt 1) 0) .badGroupDesc 62 0,
   refusedAs (grpMem f 0 (dirAt 1 + 2 ^ 50) 0) .badTable 63 0, refusedAs (grpMem f 0 (dirAt 2) (2 ^ 256 * 2 ^ 12 * 15)) .badTable 63 1,
   refusedAs { grpMem f 0 (dirAt 1) 0 with groups := full } .noSpace 63 0,
   refusedAs { grpMem (f ++ [(128, 1)]) 0 (dirAt 1) 0 with links := (List.range 144).map (fun i => (i, { sbDown := true })) } .pathDown 0 0,
   (grpMem f 0 (dirAt 1) 0).formCheck 15 0x1000 matches .ok _, (dirOf ((List.range 80).map (fun i => i))).length == 80])).all id = true := by decide +kernel

/-- A group of lantern 0 and its waiter. -/
def flash (x : Group) (w : Hw) (v : W64) : Block := (runs v { w with mask := 1 }).setGroup 15 { x with ctx := 1, lanterns := 1 }

/-- Meets hypotheses of `Obligations.Flashes`. -/
theorem witness_Flashes : ((let v := enc [(0, 0xB0), (8, 15), (13, 1)]
   [GroupSt.degraded, .formed, .bound].all (fun z => [none, some 0, some 9].all (fun bd => let b := flash { st := z, bound := bd } {} v; fetchOk b 0 0 && (fetched b 0 0).2 == v && fld v 18 46 == 0)) &&
   (let b := flash { st := .formed } {} v; (fetched b 0 0).1.liveWaiters 15 == []) && (let b := flash { st := .bound, bound := some 0 } { runs := [(15, 64)] } v; tfind ((fetched b 0 0).1.hw 0).runs 15 == some 64)) &&
  (let b := flash { st := .bound, bound := some 0, count := 3 } {} 0; !b.groupBroken 15) && (let b := flash { st := .bound, bound := some 0, count := 3, members := [(0, { seen := 2 })] } {} 0; (b.group 15).lanterns.getLsbD 0 && decide (((b.group 15).member 0).seen < 3) && launchList 0 3 ((b.group 15).member 0).table == []) &&
  (let b := flash { st := .bound, bound := some 0 } { phase := .running } 0; !b.groupBroken 15 && decide (b.unlit 15 ≠ ([], []))) && (let b := flash { st := .bound, bound := some 0, members := [(0, { declared := 100, hw := some 0 })] } {} 0; !b.groupBroken 15 && decide (b.unlit 15 = ([], []))) &&
  (let b := { flash { st := .bound, bound := some 0 } {} 0 with hws := [(0, { phase := .ended 8 1, ctx := 1, mask := 1 })] }; b.groupBroken 15) &&
  (let b := flash { st := .stopped, members := [(0, { open_ := [0], table := [⟨1, 1, 0, 0, 0, 0, 0, 0, 0, 0, 0⟩] })] } {} 0; (((b.group 15).member 0).entry 0).action == 1 && ((b.group 15).member 0).open_ == [0])) = true := by decide +kernel

/-- Meets hypotheses of `Obligations.Flashes`: an arrival at a member of a bound group over a path that nothing holds. -/
theorem witness_FlashArrives : ([(let b := flash { st := .bound, bound := some 0, count := 3, members := [(0, { seen := 2 })] } {} 0
    (b.group 15).st == .bound && (b.group 15).lanterns.getLsbD 0 && decide (((b.group 15).member 0).seen < (b.group 15).count) &&
    ((route (lampTile (b.group 15).leader) (memberTile 0)).find? (fun i => (b.link i).held)).isNone)]).all id = true := by decide +kernel

end Sys2Proof.Tests
end

