-- ==== Sys2Proof/Tests/WitnessE.lean ====
section
/-! SUPPORT. Witnesses: for each statement with hypotheses, concrete states and operands that meet them, clause by clause. -/

-- One declaration after the other: the proofs of this file all at once would take a thread and its stack each.
set_option Elab.async false

namespace Sys2Proof.Tests

open Sys2Proof Sys2Proof.Machine

/-- A machine that is LIT with one berth of domain 7. -/
def berthed (x : Berth) : Block := { lit with berths := [(7 * 2 ^ 24 + 5, x)] }

/-- Region of context 3, which may have no frame of the stack. -/
def noQuota : Block := { lit with contexts := [(3, { st := .active, qStack := 0, qBulk := 0 })], domains := [(0, { regions := [{ num := 0, base := 0, count := 16, owner := 3, policy := .stack }] })] }

/-- Meets hypotheses of `Obligations.Regions` (its part Backing). -/
theorem witness_Backing : (lit.cfg 0x32000043 0 != 1 && ((lit.tiersTried 5).find? (fun t => lit.freeFrames 0 t != 0 && lit.ownerRoom 5 t)).isSome &&
  noQuota.cfg 0x32000043 0 != 1 && ((noQuota.tiersTried 5).find? (fun t => noQuota.freeFrames 0 t != 0 && noQuota.ownerRoom 5 t)).isNone) = true := by decide +kernel

/-- Regions of the last domain: two, the second under its stream. -/
def regioned : Block := { berthed { st := .steady, tier := 1, frame := 9 } with contexts := [(255, { st := .active, lanterns := BitVec.allOnes 64, qWindow := 64 })]
                                                                                domains := [(7, { regions := [{ num := 7 * 1024, base := 7 * 2 ^ 24, count := 4, owner := 255, policy := .streamed }] })] }

/-- The same with a move of the region's berth that an earlier command asked for. -/
def movedRegion : Block := { regioned with berths := [(7 * 2 ^ 24 + 5, { st := .copying, tier := 1, frame := 9 })], domains := [(7, { regioned.domain 7 with waits := [{ what := 3, cmd := 1, key := 7 }] })] }

/-- Meets hypotheses of `Obligations.Regions`. -/
theorem witness_Regions : ((let b := regioned; let n := 7 * 2 ^ 24 + 4
  [lit.gate .operator .operator 0x32 == none, (b.berthSpan (7 * 2 ^ 40 + 1) 1).isNone, b.berthSpan (7 * 2 ^ 40 + 4 * 65536) 8 == some n, (b.ctx 255).st == .active,
   (b.domain 7).regions.all (fun (r : Region) => !decide (r.base < n + 8 ∧ n < r.base + r.count)),
   (List.range 1024).find? (fun j => !((b.domain 7).regions.any (fun r => r.num == 7 * 1024 + j))) == some 1, (b.entries n 8).all (fun e => !b.movedByCommand e.1),
   (match (b.domain 7).regions.find? (fun y => y.num == 7 * 1024) with | some x => !b.streamUses x && (b.entries x.base x.count).all (fun e => !b.movedByCommand e.1) | none => false),
   !b.berthsBusy n 8, (let c := { b with lines := [(1024 * (7 * 2 ^ 24 + 5), { busy := some { req := { kind := .rdS, agent := 0 } } })] }; c.berthsBusy n 8),
   movedRegion.berthSpan (7 * 2 ^ 40 + 4 * 65536) 8 == some n, (movedRegion.entries n 8).any (fun e => movedRegion.movedByCommand e.1),
   (let c := berthed { st := .failed, hasFrame := true, tier := 1, frame := 9 }; c.berthSpan (7 * 2 ^ 40 + 5 * 65536) 1 == some (n + 1) && (c.entries (n + 1) 1).any (fun e => e.2.st == .failed) && (c.entries (n + 1) 1).all (fun e => !c.movedByCommand e.1)),
   (let c := { b with domains := [(7, { (b.domain 7) with streams := [{ num := 224, pa := 0x1000, ctx := 255, wrap := false, ahead := 1, window := 1, replica := 0, layers := [(7 * 2 ^ 24, 4)] }] })] }; match (c.domain 7).regions.find? (fun y => y.num == 7 * 1024) with | some x => c.streamUses x | none => false)])).all id = true := by decide +kernel

/-- Meets hypotheses of `Obligations.Regions` (its part BerthVacated). -/
theorem witness_BerthVacated : (((berthed {}).berth (7 * 2 ^ 24 + 5)).st == .vacant && (let b := berthed { st := .steady, tier := 1, frame := 9, counter := 3 }; (b.berth (7 * 2 ^ 24 + 5)).st == .steady && !((b.domain 7).retiring.contains (1, 9))) &&
  (let x := (berthed { st := .failed, hasFrame := true, tier := 1, frame := 9 }).berth (7 * 2 ^ 24 + 5); x.st == .failed && x.hasFrame)) = true := by decide +kernel

/-- A stream of domain 7 as the device holds it. -/
def stream0 : Stream := { num := 7 * 32 + 31, pa := 0x80, ctx := 1, wrap := false, ahead := 2, window := 4, replica := 0, layers := [(7 * 2 ^ 24 + 8, 2), (7 * 2 ^ 24 + 10, 2)] }

/-- The descriptor of a stream of two layers at 0x1000, its table at 0x2000, beside other streams. -/
def streamed (l : Nat) (ts : List Stream) : Block := { withLines regioned [(64, encLine [(0, l), (8, 255), (24, 2), (32, 2), (64, 4), (128, 0x2000)]), (128, encLine [(0, 7 * 2 ^ 40), (64, 2), (128, 7 * 2 ^ 40 + 2 * 65536), (192, 2)])] with domains := [(7, { regions := (regioned.domain 7).regions, streams := ts })] }

/-- WAITSTREAM of layer r2 on the descriptor at r1. -/
def waitW : W64 := enc [(0, 0xB1), (8, 1), (13, 2)]

/-- Its block: the stream's descriptor is the die's line 2. -/
def waits (n : Nat) (ts : List Stream) : Block := { runs waitW { g := [(1, 0x80), (2, BitVec.ofNat 64 n)] } with domains := [(7, { streams := ts })], lines := [(1, { dir := .shared [0], copies := [(0, { st := .s, data := waitW.setWidth 512, poison := false })] }), (2, { dir := .owned 0, copies := [(0, { st := .m, data := 1, poison := false })] })] }

/-- The fetch and the footprint of WAITSTREAM, and the descriptor that it reads. -/
def waitOk (b : Block) : Bool := fetchOk b 0 0 && (let b1 := (fetched b 0 0).1; (fetched b 0 0).2 == waitW && fld waitW 0 8 == 0xB1 && fld waitW 18 46 == 0 && footOk b1 0 0 2 false [(0x80, 64)] &&
  (let r := b1.footprint 0 1 2 false [(0x80, 64)]; r.2.pa 0x80 == 0x80 && (match r.1.ownLine 0 0 0x80 with | .ok (_, v, p) => !p && fld v 0 4 == 1 && !streamRsv v | _ => false)))

/-- The stream that a WAITSTREAM of layer 1 finds after its mark. -/
def afterMark (t : Stream) : Option Stream :=
  let b := waits 1 [t]; let b1 := (fetched b 0 0).1; let r := b1.footprint 0 1 2 false [(0x80, 64)]
  match r.1.ownLine 0 0 0x80 with
  | .ok (e, _, _) => ((e.updStream 255 (fun y => ({ y with marks := tput y.marks 0 1, markHw := tput y.markHw 0 0 } : Stream).remark)).syncStream 255).stream 255
  | .error _ => none

/-- The reading of a stream's descriptor and table by STREAM_ADD. -/
def addRead (b : Block) (p : Stream → List Nat → Bool) : Bool :=
  b.rangeOk 0x1000 64 && (match b.readAt 0x1000 64 with
    | .ok v => (let h : Line := BitVec.ofNat 512 v; fld h 0 4 == 1 && !streamRsv h && fld h 128 64 % 16 == 0 && fld h 32 16 == 2 && b.rangeOk (fld h 128 64) 32 &&
        (match b.readWords 16 (fld h 128 64) 2 with | .ok es => es.all (fun e => e / 2 ^ 88 == 0) && p (streamOf 0 0x1000 h es) es | _ => false))
    | _ => false)

/-- Meets hypotheses of `Obligations.Streams`. -/
theorem witness_Streams : ([lit.gate .operator .operator 0x32 == none, (lit.stream 255).isNone,
  (let b := streamed 1 [{ stream0 with marks := [(0, 0)] }]; match b.stream 255 with | some t => !b.streamWaited t && t.resident == [] && t.frames == [] && (b.domain 7).waits == [] | none => false),
  (let b := { streamed 1 [stream0] with hws := [(0, { waiting := true, lateKind := 1, lateStream := 255, lateLayer := 1 })] }; match b.stream 255 with | some t => b.streamWaited t | none => false),
  !lit.rangeOk (2 ^ 52) 64, (let b := streamed 2 []; b.rangeOk 0x1000 64 && (match b.readAt 0x1000 64 with | .ok v => fld (BitVec.ofNat 512 v : Line) 0 4 != 1 | _ => false)),
  (let b := streamed 0x11 []; b.rangeOk 0x1000 64 && (match b.readAt 0x1000 64 with | .ok v => fld (BitVec.ofNat 512 v : Line) 0 4 == 1 && streamRsv (BitVec.ofNat 512 v) | _ => false)),
  (let b := { streamed 1 [] with contexts := [] }; addRead b (fun t es => !b.streamOk t es)),
  (let b := { streamed 1 [] with berths := [(7 * 2 ^ 24 + 1, { st := .copying, tier := 1, frame := 9 })], domains := [(7, { (streamed 1 []).domain 7 with waits := [{ what := 3, cmd := 1, key := 7 }] })] }
   addRead b (fun t es => b.streamOk t es && t.layers.any (fun y => (b.entries y.1 y.2).any (fun e => b.movedByCommand e.1)))),
  (let b := streamed 1 []; addRead b (fun t es => b.streamOk t es && t.layers.all (fun y => (b.entries y.1 y.2).all (fun e => !b.movedByCommand e.1)) && (t.layers.headD (0, 0)).1 / 2 ^ 24 == 7 &&
    quotaRoom (b.ctx t.ctx).qWindow (b.windowUse t.ctx 7) t.window && (List.range 32).find? (fun j => !((b.domain 7).streams.any (fun o => o.num == 7 * 32 + j))) == some 0)),
  waitOk (waits 0 []), [0, 1, 2].all (fun n => waitOk (waits n [stream0])), !stream0.exists_ 2, stream0.exists_ 1,
  (match afterMark stream0 with | some y => !y.failed.contains 1 && !y.resident.contains 1 | none => false),
  (match afterMark { stream0 with resident := [1] } with | some y => !y.failed.contains 1 && y.resident.contains 1 | none => false),
  (match afterMark { stream0 with failed := [1] } with | some y => y.failed.contains 1 | none => false),
  (let b := streamed 1 [stream0]; match b.stream 255 with | some t => t.nextLayer == some 0 && b.tierOpen 7 0 && !b.domHeld 7 && (b.domain 7).waits.all (fun w => w.what != 1) && (t.berths 0).all (fun n => (b.berth n).st != .copying && (b.berth n).st != .failed) | none => false)]).all id = true := by decide +kernel

/-- A streamed berth of domain 7. -/
def windowed (x : Berth) : Block := { lit with berths := [(7 * 2 ^ 24 + 8, x)], domains := [(7, { streams := [{ stream0 with frames := [77] }] })] }

/-- Meets hypotheses of `Obligations.Streams` (its part WindowBerths). -/
theorem witness_WindowBerths : ((let b := windowed { st := .steady, tier := 1, frame := 9 }; match b.stream 255 with | some t => t.frames == [77] && (b.berth (7 * 2 ^ 24 + 8)).st == .steady | none => false) && (let x := (windowed { st := .window, frame := 77, own := 9, stream := some 31 }).berth (7 * 2 ^ 24 + 8); x.st == .window && !x.wdirty)) = true := by decide +kernel

/-- A domain with a copy under way and a frame to be cleared. -/
def migrating : Block := { lit with berths := [(7 * 2 ^ 24 + 5, { st := .copying, tier := 1, frame := 9, destTier := 0, dest := 4, counter := 7 }), (3, { st := .steady, counter := 9 })], domains := [(7, { zeroing := [(0, 1)] })], mem := [(memKey 0 7 1 5, 3), (memKey 0 7 2 0, 4)] }

/-- Meets hypotheses of `Obligations.MigrationAndTiers` (its part Migration). -/
theorem witness_Migration : ([(let b := { migrating with domains := [(7, { tier := .offline })] }; !b.tierOpen 7 0 && (b.domain 7).moveQueue == []),
  (let b := migrating; let x := b.berth (7 * 2 ^ 24 + 5); x.st == .copying && !b.tierHeld 7 x.tier && !b.tierHeld 7 x.destTier && (b.domain 7).moveQueue == [] && (b.domain 7).waits == [] && (b.domain 7).tier == .normal && (b.domain 7).retiring == [] && (b.domain 7).zeroing.contains (0, 1)),
  (migrating.berth 3).st != .copying, (let b := { migrating with channels := [(7 * 32, { st := .held })] }; b.tierHeld 7 0 && (b.berth (7 * 2 ^ 24 + 5)).destTier == 0),
  !((migrating.domain 7).zeroing.contains (0, 2))]).all id = true := by decide +kernel

/-- A stack tier in a state. -/
def tiered (x : Domain) (bs : Tab Berth) : Block := { lit with domains := [(7, x)], berths := bs }

/-- A block whose berths of domain 7 need no promotion. -/
def noPromo (b : Block) : Bool := (b.berthsOf 7).all (fun (e : Nat × Berth) => e.2.st != .steady || (match b.regionOf e.1 with | some r => r.policy != .stack | none => true))

/-- Meets hypotheses of `Obligations.MigrationAndTiers` (its part StackTier). -/
theorem witness_StackTier : (lit.gate .operator .operator 0x32 == none && (let bs : Tab Berth := [(7 * 2 ^ 24, { st := .steady, tier := 1, frame := 2 })]
  [TierSt.normal, .evacuating, .evacuated, .returning, .offline, .repairing, .deferred].all (fun z => ((tiered { tier := z } bs).domain 7).tier == z && noPromo (tiered { tier := z } bs) && (tiered { tier := z } bs).onStack 7 == []) &&
  ((tiered { tier := .normal, waits := [{ what := 2, cmd := 1, key := 0 }] } bs).domain 7).waits.all (fun w => w.what == 2) && ((tiered { tier := .evacuating, repairing := some 31 } bs).domain 7).repairing == some 31 && (tiered { tier := .evacuating } [(7 * 2 ^ 24, { st := .steady })]).onStack 7 != [] && ((tiered { tier := .returning } bs).berthsOf 7).all (fun (e : Nat × Berth) => e.2.st != .copying))) = true := by decide +kernel

/-- One channel in a state. -/
def chan (c : Nat) (x : Channel) : Block := { lit with channels := [(c, x)] }

/-- Meets hypotheses of `Obligations.Channels`. -/
theorem witness_Channels : ([[0, 255, 256, 271].all (fun c => ((chan c {}).channel c).st == .up && ((chan c { st := .held }).channel c).cmd == none && ((chan c { st := .held, cmd := some (1, 2) }).channel c).st == .held && !((chan c { st := .held }).channel c).deferredRows.contains (3, 4)),
  ((chan 255 {}).domain (chanDomain 255)).tier != .evacuating, ((chan 255 {}).channel 255).svc != .evacuating, Machine.tget 0 ((chan 255 { spareRows := [(3, 31)] }).channel 255).spareRows 3 == 31,
  Machine.tget 0 ((chan 255 { spareRows := [(3, 32)] }).channel 255).spareRows 3 == 32]).all id = true := by decide +kernel

end Sys2Proof.Tests
end

