-- ==== Sys2Proof/Tests/WitnessF.lean ====
section
/-! SUPPORT. Witnesses: for each statement with hypotheses, concrete states and operands that meet them, clause by clause. -/

-- One declaration after the other: the proofs of this file all at once would take a thread and its stack each.
set_option Elab.async false

namespace Sys2Proof.Tests

open Sys2Proof Sys2Proof.Machine

/-- A line of the last domain, with what stands above memory for it and its ways in the slice and the directory. -/
def pln : Nat := 7 * 2 ^ 34 + 3

def ppa : Nat := pln * 64

def homed (x : LineSt) : Block := { lit with berths := [(7 * 2 ^ 24, { st := .steady, tier := 1, frame := 9 })], lines := [(pln, x)], psets := [(sliceKey pln, { ways := [(3, pln)] }), (dirKey pln, { ways := [(3, pln)] })] }

/-- A copy of a line. -/
def cp (z : CState) : Copy := { st := z, data := 77, poison := false }

/-- A request of agent 72. -/
def ask (k : ReqKind) : HomeReq := { kind := k, agent := 72 }
/-- Every channel is held. -/
def allHeld (b : Block) : Block := { b with channels := (List.range 272).map (fun c => (c, ({ st := .held } : Channel))) }

/-- Meets hypotheses of `Obligations.HomeRequests` (its part ProtocolRequests). -/
theorem witness_ProtocolRequests : ((let b := homed {}; let kinds := [ReqKind.rdS, .rdX, .upg, .rdOnce, .wrLine, .wrPart, .atom, .watch, .unwatch]
  [b.lineAt ppa == some pln, b.lineAt (ppa + 63) == some pln, !b.busy pln, (b.line pln).queue == [], kinds.all (fun k => !b.reqWaits pln (ask k)), !thas (b.line pln).copies 72,
   (homed { busy := some { req := ask .rdS } }).busy pln, (homed { queue := [ask .rdS] }).line pln |>.queue.length |> (· == 1), (allHeld b).reqWaits pln (ask .rdS) && !(allHeld b).busy pln,
   (match tfind ((homed { dir := .shared [72], copies := [(72, cp .s)] }).line pln).copies 72 with | some c => c.st == .s | none => false), (b.watch 74 pln).isSome,
   (let c := { b with lines := (List.range 256).map (fun i => (7 * 2 ^ 34 + 16 * i + (3 ^^^ (i % 16) ^^^ (i / 16)), { watchers := [1] })) }; let x := 7 * 2 ^ 34 + 2 ^ 20 + 3; c.lineAt (x * 64) == some x && (c.watch 74 x).isNone),
   [CState.m, .e].all (fun z => let c := homed { dir := .owned 72, copies := [(72, cp z)] }; ((c.pset (sliceKey pln)).wayOf pln).isSome && (c.line pln).dir == .owned 72 && (c.line pln).busy.isNone && tfind (c.line pln).copies 72 == some (cp z)),
   (let c := homed { dir := .owned 64, copies := [(64, cp .m)] }; thas (c.line pln).copies 64 && !thas (c.line pln).copies 72), (lit.lantern 63).loss == .alive, ppa % 8 == 0])).all id = true := by decide +kernel

def sl0 : SliceLine := { data := 5, dirty := false, poison := false }

/-- Meets hypotheses of `Obligations.HomeRequests` (its part HomeServes). -/
theorem witness_HomeServes : ([Dir.untracked, .shared [3, 72], .owned 3].all (fun z => let b := homed { dir := z, slice := some sl0, copies := [(72, cp .s)] }; !b.failed pln && (b.berth (pln / 1024)).st != .vacant && (b.line pln).slice == some sl0 && ((b.pset (sliceKey pln)).wayOf pln).isSome && ((b.pset (dirKey pln)).wayOf pln).isSome && (b.line pln).dir == z && (b.line pln).watchers == [])) = true := by decide +kernel

/-- A line on which a transaction is in flight. -/
def inFlight (t : Txn) (cs : Tab Copy) (d : Dir) (ws : List Nat) : Block := homed { busy := some t, copies := cs, dir := d, watchers := ws }

def t0 : Txn := { req := { kind := .rdX, agent := 72 } }

/-- Meets hypotheses of `Obligations.SnoopsAndResponses`. -/
theorem witness_SnoopsAndResponses : ([[Snoop.inv, .fwdS, .fwdX, .peek, .recall].all (fun z => [CState.e, .m].all (fun y => let b := inFlight { t0 with snoops := [(5, z)] } [(5, cp y)] (.owned 5) []; b.lineAt ppa == some pln && (match (b.line pln).busy with | some t => t.snoops.contains (5, z) | none => false) && tfind (b.line pln).copies 5 == some (cp y) && ((b.pset (sliceKey pln)).wayOf pln).isSome)),
  [[], [74]].all (fun ws => [{ t0 with grant := true }, { t0 with data := some (1, true), gives := some .m }, { t0 with data := some (1, true) }, { t0 with acks := [72], downs := [72] }, { t0 with got := true }, { t0 with got := true, gives := some .m }, { t0 with lent := true }].all (fun t => let b := inFlight t [(72, cp .m)] (.owned 72) ws; (b.line pln).busy == some t && t.req.agent == 72 && thas (b.line pln).copies 72 && (b.line pln).watchers == ws))]).all id = true := by decide +kernel

/-- Meets hypotheses of `Obligations.HomeRequests` (its part FrameReadBack). -/
theorem witness_FrameReadBack : (Memory.wf lit.mem && decide ((1023 : Nat) < 1024) && (lit.channel (lit.chanAt 1 7 (1023 * 64))).st != .lost && (lit.channel (lit.chanAt 0 7 (1023 * 64))).st != .lost) = true := by decide +kernel

/-- A tile with a command of its slot 15, of its hart queue, and running ones. -/
def tiled (x : Tile) : Block := { homed { slice := some sl0 } with tiles := [(8, x)] }

def ask0 (k : Option Nat) (op : RangeOp) : RangeAsk := { slot := k, op := op, base := ppa, length := 64, completion := 0x1000, token := 7 }

def run0 (c : Nat) : RangeCmd := { id := 9, op := .clean, base := ppa, length := 64, completion := c, token := 2 ^ 32 - 1, result := 3, poisonSeen := true, slot := none }

/-- Meets hypotheses of `Obligations.RangeCommands`. -/
theorem witness_RangeCommands : ([none, some 15, some 0].all (fun k => [RangeOp.clean, .invalidate, .cleanInvalidate].all (fun o => let b := tiled { asks := [ask0 k o] }; ((b.tile 8).asks.find? (fun (x : RangeAsk) => x.slot == k)) == some (ask0 k o) && (let b0 := b.updTile 8 (fun y => { y with asks := y.asks.filter (· != ask0 k o) }); (b0.rangeRun 8 (b0.askCmd (ask0 k o))).isSome))) &&
  (let b0 := tiled { running := [run0 0, run0 0, run0 0, run0 0] }; (b0.rangeRun 8 (b0.askCmd (ask0 none .clean))).isNone) &&
  (let b := tiled { running := [run0 0x1000] }; ((b.tile 8).running.find? (fun x => x.id == 9)) == some (run0 0x1000) && b.dom 0x1000 == some 0x1000 && (match b.write 64 (byteMask 0 8) (linePut 0 0 8 (rangeWord (run0 0x1000))) false with | .ok _ => true | .error _ => false)) && ((tiled {}).dom (2 ^ 44)).isNone && decide ((run0 0).token < 2 ^ 32 ∧ (run0 0).result < 8)) = true := by decide +kernel

/-- Meets hypotheses of `Obligations.RangeCommands` (its part RangeLineEffects). -/
theorem witness_RangeLineEffects : ((let b := homed { copies := [(1, cp .s)], slice := some { sl0 with dirty := true } }; (b.line pln).copies.all (fun (e : Nat × Copy) => e.2.st != .m) && (b.berth (pln / 1024)).st == .steady) && (let b := homed { copies := [(1, cp .e)] }; (b.line pln).copies.all (fun (e : Nat × Copy) => e.2.st != .m) && (b.line pln).slice.isNone)) = true := by decide +kernel

/-- A tile with a ring whose header lies on the line. -/
def ringTile : Block := { withLines (homed {}) [(64, encLine [(0, 5)])] with contexts := [(255, { st := .active, lanterns := BitVec.allOnes 64 })], tiles := [(8, { rings := [⟨0, 1, 0x1000, 0x2000, 4, 0, false⟩] })] }

/-- Meets hypotheses of `Obligations.RangeCommands` (its part RangeRings). -/
theorem witness_RangeRings : (ringTile.gate .operator .operator 0x40 == none && (ringTile.ctx 255).st == .active && (ringTile.ctx 254).st != .active && [4, 16].all (fun k => ringTile.rangeOk 0x1000 64 && ringTile.rangeOk 0x4000 (32 * 2 ^ k)) && (List.range 64).find? (fun i => !((ringTile.tile 8).rings.any (fun r => r.num == i))) == some 1 &&
  ringTile.lineAt 0x1000 == some 64 && (match ringTile.readAt 0x1000 4 with | .ok v => v == 5 | .error _ => false) && (ringTile.watch 74 64).isSome && ((ringTile.tile 8).rings.find? (fun r => r.num == 63)).isNone && ((ringTile.tile 8).rings.find? (fun r => r.num == 0)).isSome) = true := by decide +kernel

/-- Meets hypotheses of `Obligations.HomeRequests`: arrays of a machine with its rails on. -/
theorem witness_ArrayErrors : ([(homed {}).tray.rails, ((homed {}).lantern 63).loss == .alive, (homed {}).lineAt ppa == some pln,
  !(homed {}).busy pln, ((homed { watchers := [5] }).line pln).watchers == [5], ((homed {}).berth (pln / 1024)).st == .steady]).all id = true := by decide +kernel

end Sys2Proof.Tests
end

