-- ==== Sys2Proof/Tests/WitnessG.lean ====
section
/-! SUPPORT. Witnesses: for each statement with hypotheses, concrete states and operands that meet them, clause by clause. -/

-- One declaration after the other: the proofs of this file all at once would take a thread and its stack each.
set_option Elab.async false

namespace Sys2Proof.Tests

open Sys2Proof Sys2Proof.Machine

/-- A hart that runs on a block; its line 3 of domain 0 lies in the slice. -/
def harted (h : Nat) (x : Hart) : Block := { withLines lit [(3, encLine [(0, 0x1122334455667788)])] with harts := [(h, x)] }

/-- A hart whose line 3 is poisoned, and one that a transaction in flight makes wait. -/
def poisonedHart (h : Nat) : Block := { harted h {} with lines := [(3, { slice := some { data := 5, dirty := true, poison := true } })] }
def busyHart (h : Nat) : Block := { harted h {} with lines := [(3, { busy := some { req := { kind := .rdS, agent := 0 } } })] }

/-- Meets hypotheses of `Obligations.KeeperAccesses`. -/
theorem witness_KeeperAccesses : ([[0, 127].all (fun h => let b := harted h {}; b.hartRuns h && !isDevice 0xC0 && (b.kLoad h 0xC0 8 matches .ok _ _) && (b.kLoad h (2 ^ 52) 8 matches .fault) && (b.kLoad h 0xC0 8 true matches .ok _ _) &&
    ((poisonedHart h).kLoad h 0xC0 4 matches .poison _ _) && ((busyHart h).kLoad h 0xC0 4 matches .wait _) && (b.kStore h 0xC0 8 7 matches .ok _) && (b.kStore h 0xC0 8 7 true matches .ok _) && ((busyHart h).kStore h 0xC0 8 7 matches .error _)),
  kFits 3 8, kFits 35 4, kFits 95 32, !kFits 3 16, !kFits 95 8, kSize 8, !isDevice (2 ^ 52), isDevice imsicEnd, decide (imsicEnd < 2 ^ 52),
  (lit.devLoad 0x4000000900000 8).isSome, isDevice 0x4000000900000, (lit.devLoad 0x4000000900000 4).isNone, (lit.devStore 0x4000000900000 8 3).isSome, (lit.devStore 0x4000000900000 4 3).isNone,
  isDevice imsicBase, decide (imsicBase < imsicEnd ∧ imsicBase % 4 = 0), ((harted 1 {}).postedAll 1).devLoad imsicBase 4 |>.isSome,
  ((harted 1 { posted := [(imsicBase, 4, 3)] }).hart 1).posted == [(imsicBase, 4, 3)], ((harted 1 {}).hart 1).posted == []]).all id = true := by decide +kernel

/-- Meets hypotheses of `Obligations.KeeperAtomics`. -/
theorem witness_KeeperAtomics : ([!(({ harted 0 {} with clusters := [(0, { relocking := true })] } : Block).hartRuns 0),
  (let b := harted 127 { res := some 3 }; b.hartRuns 127 && crosses16 0xCC 8 && crosses16 0xCD 4 && !crosses16 0xC8 8 && !crosses16 0xC0 16 && b.dom 0xC8 == some 0xC8 && b.dom 0xCD == some 0xCD && (b.dom (2 ^ 44)).isNone),
  [4, 8, 16].all (fun n => ((harted 127 {}).atomicAt 3 0 n .cas 1 0 matches .ok (_, _, false)) && ((poisonedHart 127).atomicAt 3 0 n .cas 1 0 matches .ok (_, _, true))),
  (let b := harted 127 { res := some 3 }; (b.kLoad 127 0xC8 8 matches .ok _ _) && (b.hart 127).res == some (0xC8 / 64) && (b.storeLine 71 3 (byteMask 8 8) (linePut 0 8 8 7) (· == 127) matches .ok _)), ((harted 127 {}).hart 127).res.isNone,
  (let b := harted 127 {}; !b.rangeWaits .clean 3 && !b.rangeWaits .cleanInvalidate 3 && !b.rangeWaits .invalidate 3 && (b.write 3 0xFFFFFFFFFFFFFFFF#64 0 false matches .ok _)),
  !(harted 127 { res := some 3 }).irqPending 127, [Wrs.sto, .ntoTrap false, .ntoTrap true].all (fun x => ((harted 5 { wrs := x }).hart 5).wrs == x)]).all id = true := by decide +kernel

/-- The words of the extension with rs1 = x1, rs2 = x2 and rd = x3. -/
def kword (fs : List (Nat × Nat)) : W32 := BitVec.ofNat 32 (11 + (fs.map (fun e => e.2 * 2 ^ e.1)).sum)

/-- An instruction on gsvrcw or gsvrtok. -/
def csrword (f3 rs1 csr : Nat) : W32 := BitVec.ofNat 32 (0x73 + 5 * 2 ^ 7 + f3 * 2 ^ 12 + rs1 * 2 ^ 15 + csr * 2 ^ 20)

/-- Meets hypotheses of `Obligations.KeeperExtension`. -/
theorem witness_KeeperExtension : ([(harted 127 {}).hartRuns 127,
  [1, 2, 3].all (fun f => [0, 1].all (fun r => [0x5C0, 0x5C1].all (fun c => let w := csrword f r c; fld w 0 7 == 0x73 && fld w 20 12 == c && fld w 12 3 == f && fld w 15 5 == r))),
  [kword [(12, 4)], kword [(12, 7)], 0x04B5200B, 0x0606960B, 0x3320000B].all (fun w => fld w 0 7 == 0x0B), fld (kword [(12, 4)]) 12 3 == 4,
  [kword [(20, 2), (24, 1), (30, 1)], kword [(20, 2), (24, 1)], kword [(20, 1), (31, 1)], 0x3320000B].all (fun w => fld w 12 3 == 0 && fld w 7 5 == 0 && fld w 15 5 == 0 && fld w 22 2 == 0 && fld w 20 2 != 3), bit (kword [(20, 2), (24, 1), (30, 1)]) 30,
  (let w := kword [(20, 2), (24, 1), (30, 1)]; fld w 20 2 == 2 && fld w 24 4 != 0), (let w := kword [(20, 1), (31, 1)]; bit w 31 && fld w 20 2 == 1), (let w := kword [(20, 2), (24, 1)]; !(bit w 26 || bit w 27 || bit w 30 || bit w 31) && fld w 20 2 == 2),
  (let w : W32 := 0x0606960B; fld w 12 3 == 1 && fld w 20 5 == 0 && fld w 28 4 == 0), (let w := kword [(12, 1), (7, 3), (15, 1), (25, 3)]; let b := harted 1 { x := [(1, 4)] }; fld w 12 3 == 1 && (b.kreg 1 (fld w 15 5)).toNat % 2 ^ fld w 25 2 != 0),
  (let w := kword [(12, 2), (15, 1), (20, 2), (25, 3)]; fld w 12 3 == 2 && fld w 7 5 == 0 && fld w 27 5 == 0 && [4, 8].all (fun n => let b := harted 1 { x := [(1, BitVec.ofNat 64 n)] }; (b.kreg 1 (fld w 15 5)).toNat == n)),
  (let w := kword [(12, 3), (7, 3), (15, 1), (20, 2), (25, 3)]; fld w 12 3 == 3 && fld w 27 5 == 0 && fld w 25 2 == 3 && (rangeOpOf 3).isSome),
  (let b := harted 1 { x := [(1, 0x100), (2, 0x40)], gsvrcw := 0x1000 }; b.rangeGood (b.kreg 1 1).toNat (b.kreg 1 2).toNat && b.wordGood (fld (b.hart 1).gsvrcw 3 49 * 8) && ((b.tile 4).asks.filter (fun a => a.slot == none)).length == 0 && !b.rangeGood 0x100 0),
  (let b := { harted 1 {} with tiles := [(4, { asks := (List.range 32).map (fun i => ⟨none, .clean, 64 * i, 64, 0, 0⟩) })] }; ((b.tile 4).asks.filter (fun a => a.slot == none)).length == 32)]).all id = true := by decide +kernel

/-- Meets hypotheses of `Obligations.KeeperPlatform`. -/
theorem witness_KeeperPlatform : ([lit.tray.rails, !State.reset.blk.tray.rails, [ClusterSt.running, .reset].all (fun z => (({ lit with clusters := [(7, { relocking := true, st := z })] } : Block).cluster 7).relocking && (({ lit with clusters := [(7, { relocking := true, st := z })] } : Block).cluster 7).st == z),
  !(lit.cluster 7).relocking, lit.hartRuns 127, [(false, false), (true, false), (false, true)].all (fun (x, y) => let m := ({ lit with mailboxes := [(3, { busy := x, replyReady := y })] } : Block).mailbox 3; m.busy == x && m.replyReady == y),
  isFile imsicBase, lit.fileTakes imsicBase, decide ((2047 : W32).toNat ≤ 2047), (lit.cluster 7).st == .running, (({ lit with clusters := [(7, { st := .reset })] } : Block).cluster 7).st != .running]).all id = true := by decide +kernel

end Sys2Proof.Tests
end

