-- ==== Sys2Proof/Tests/WitnessH.lean ====
section
/-! SUPPORT. Witnesses: for each statement with hypotheses, concrete states and operands that meet them, clause by clause. -/

-- One declaration after the other: the proofs of this file all at once would take a thread and its stack each.
set_option Elab.async false

namespace Sys2Proof.Tests

open Sys2Proof Sys2Proof.Machine

/-- Memory cells of frame 0 of the stack of domain 0, from bytes at offsets. -/
def cells (xs : List (Nat × Nat)) : List Host.Cell := xs.map (fun e => ((memKey 0 0 0 e.1, BitVec.ofNat 8 e.2) : Host.Cell))

/-- A record of 1,024 bits. -/
def encRec (fs : List (Nat × Nat)) : BitVec 1024 := BitVec.ofNat 1024 (fs.map (fun e => e.2 * 2 ^ e.1)).sum

/-- An Ethernet queue: rings of 16 at 0x1000 and 0x2000, CQ 4,095, domain 7. -/
def ethR : BitVec 1024 := encRec [(128, 0x1000), (180, 4), (192, 0x2000), (244, 4), (256, 4095), (272, 4095), (288, 7)]

/-- A QP in RTS: PMTU code 3, ACK_TIMEOUT code 8, the same rings. -/
def qpR (rnr : Nat) : BitVec 1024 := ethR + encRec [(0, 3), (4, 3), (8, 2), (11, rnr), (14, 8)]

/-- A memory region of 4 KiB over VA 0x100 at PA 0x4000 with every permission, key 0, domain 7. -/
def mrE : BitVec 256 := BitVec.ofNat 256 (0x1F + 7 * 2 ^ 16 + 0x100 * 2 ^ 64 + 4096 * 2 ^ 128 + 0x4000 * 2 ^ 192)

/-- Port 1 runs with Ethernet queue 255 and QP 16,383; the descriptor at the head has an OP and a length. -/
def ported (op len rnr : Nat) : Block := { lit with
  berths := [(0, { st := .steady })]
  mem := cells [(0x1000, op), (0x1009, 1), (0x1014, len), (0x200D, 1)]
  ports := [(1, { enable := true, linkUp := 1, mrs := [(0, mrE)], eths := [(255, { copy := some ethR, sqProd := 1, rqProd := 1 }), (0, { copy := some ethR, sqProd := 1, rqProd := 1 })], qps := [(16383, { copy := some (qpR rnr), st := 3, sqProd := 1, rqProd := 1 })] })] }

/-- The head descriptor of a queue. -/
def headOf (b : Block) (p : Nat) (eth : Bool) (i : Nat) : Head :=
  { q := b.pq p eth i, r := (b.pq p eth i).copy.getD 0, d := match b.dmaRead false (fld ((b.pq p eth i).copy.getD 0) 128 52 + 64 * ((b.pq p eth i).sqCons % 2 ^ fld ((b.pq p eth i).copy.getD 0) 180 4)) 64 with | .ok (_, bs, _) => BitVec.ofNat 512 (leNat bs) | .error _ => 0 }

/-- Whether a queue's head is taken by a row. -/
def headOk (b : Block) (p : Nat) (eth : Bool) (i op : Nat) (known : List Nat) (any : Bool) : Bool :=
  let q := b.pq p eth i; let r := q.copy.getD 0; let at_ := fld r 128 52 + 64 * (q.sqCons % 2 ^ fld r 180 4)
  b.portOn p && q.copy.isSome && !decide (ahead32 q.sqProd q.sqCons = 0 ∨ (!eth && q.st != 3)) && !b.dmaWaits false at_ 64 &&
  (match b.dmaRead false at_ 64 with | .ok (_, bs, false) => decide (fld (BitVec.ofNat 512 (leNat bs) : Line) 0 8 = op ∨ (any ∧ !known.contains (fld (BitVec.ofNat 512 (leNat bs) : Line) 0 8))) | _ => false)

/-- A head that passes the check is the one a row goes on with. -/
theorem headDo_of_ok {b : Block} {p : Nat} {eth : Bool} {i op : Nat} {known : List Nat} {any : Bool} (ok : headOk b p eth i op known any = true) :
    ∀ go, b.headDo p eth i op known any go = go b (headOf b p eth i) := by
  intro go
  simp only [headOk, Bool.and_eq_true, Bool.not_eq_true', decide_eq_false_iff_not] at ok
  obtain ⟨⟨⟨⟨hp, hc⟩, ha⟩, hw⟩, hr⟩ := ok
  obtain ⟨r, hr0⟩ := Option.isSome_iff_exists.1 hc
  have hl : b.loadPq p eth i = b := by unfold Block.loadPq; rw [if_pos hc]
  unfold Block.headDo headOf
  simp only [hp, hl, hr0, Option.getD_some] at *
  rw [if_neg (by simp), if_neg (by simpa using ha)]
  rw [if_neg (by simp [hw])]
  split at hr
  · rename_i c bs he
    rw [he]
    have hr1 := of_decide_eq_true hr
    simp only [Bool.not_eq_true']
    rw [if_pos hr1]
  · cases hr

/-- Meets hypotheses of `Obligations.PortControl`. -/
theorem witness_PortControl : ([(let b := ported 1 0 7; b.tray.rails && (b.port 1).enable && !(b.port 1).resetting && b.portOn 1 && (b.port 1).qps.any (fun e => e.2.busy) && b.gate .operator .operator 0x50 == none),
  (let b := { lit with ports := [(1, { rings := (List.range 64).map (fun i => (i, {})) })] }; !(b.port 1).enable && (List.range 64).all (fun i => thas (b.port 1).rings i) && (b.port 1).qps == [] && (b.port 1).eths == [] && !(b.port 1).resetting),
  (({ lit with ports := [(1, { resetting := true })] } : Block).port 1).resetting,
  (let b := { lit with ports := [(1, { qps := [(0, {})], eths := [(0, {})], rings := [(0, {})] })] }; (b.port 1).qps.all (fun e => !e.2.busy) && (b.port 1).eths.all (fun e => !e.2.busy) && (b.port 1).rings.all (fun e => !b.ringBusy e.2))]).all id = true := by decide +kernel

/-- A post ring of port 1 with one entry to take. -/
def posting (q k pad : Nat) : Block := { ported 1 0 7 with
  mem := cells (([(0x5000, 1), (0x6000, q % 256), (0x6001, q / 256), (0x6002, k + pad * 8), (0x6004, 9)] : List (Nat × Nat)).filter (fun e => e.2 != 0))
  ports := [(1, { (ported 1 0 7).port 1 with rings := [(63, { copy := some (encLine [(0, 0x5000), (64, 0x6000), (120, 4), (127, 1)]) })] })] }

/-- Whether the entry is due and read. -/
def dueOk (q k pad : Nat) : Bool :=
  let b := posting q k pad; let x := Machine.tget {} (b.port 1).rings 63
  match x.copy with
  | some e => b.portOn 1 && bit e 127 && (match b.peek (fld e 0 52) 4 with | some tail => ahead32 tail x.pos != 0 | none => false) && !b.dmaWaits false (fld e 64 52 + 8 * (x.pos % 2 ^ fld e 120 4)) 8 &&
      (match b.dmaWord 1 (fld e 64 52 + 8 * (x.pos % 2 ^ fld e 120 4)) 8 with | (_, some v) => (let w : W64 := BitVec.ofNat 64 v; fld w 0 16 == q && fld w 16 3 == k && fld w 19 13 == pad && fld w 32 32 == 9) | _ => false)
  | none => false

/-- Meets hypotheses of `Obligations.PortRequests` (its part PortPosting). -/
theorem witness_PortPosting : ([(16383, 0, 0), (16383, 1, 0), (255, 2, 0), (255, 3, 0), (4095, 4, 0), (0, 5, 0), (0, 0, 1)].all (fun (e : Nat × Nat × Nat) => dueOk e.1 e.2.1 e.2.2)) = true := by decide +kernel

/-- A block whose port 1 is changed. -/
def port1 (b : Block) (f : Port → Port) : Block := { b with ports := [(1, f (b.port 1))] }
/-- A block whose descriptors stand in some cells. -/
def descs (op len : Nat) (xs : List (Nat × Nat)) : Block := { ported op len 7 with mem := cells xs }
/-- Every priority of MAC 0 of port 1 is paused. -/
def pausedPort (b : Block) : Block := port1 b (fun x => { x with paused := [(0, 0xFF)] })

/-- Meets hypotheses of `Obligations.PortRequests` (its part PortSending). -/
theorem witness_PortSending : ((let h := fun (b : Block) => headOf b 1 true 255; let good := fun (b : Block) => headOk b 1 true 255 1 [1] true; let ok := descs 1 16 [(0x1000, 1), (0x1009, 1), (0x1014, 16)]
  [good ok && (ethDescErr (h ok).d).isNone && (ethErr (ok.port 1).macs (h ok).r).isNone && (ok.port 1).up (fld (h ok).r 657 3) && !(ok.port 1).pausedAt (fld (h ok).r 657 3) (fld (h ok).r 19 3) && !bit (h ok).d 11,
   (match ok.bufRead 1 (fld (h ok).d 128 32) (fld (h ok).r 288 16) (fld (h ok).d 64 64) (fld (h ok).d 160 32) 0 with | (_, .ok bs) => bs.length == 16 | _ => false),
   (let b := pausedPort ok; good b && (b.port 1).up 0 && (b.port 1).pausedAt (fld (h b).r 657 3) (fld (h b).r 19 3)),
   (let b := descs 1 0 [(0x1000, 1), (0x1006, 1)]; good b && ethDescErr (h b).d == some .rsvNonzero), (let b := port1 ok (fun x => { x with linkUp := 0 }); good b && !(b.port 1).up 0),
   [2, 3, 4, 5, 6, 7, 8].all (fun op => let b := descs op 8 [(0x1000, op), (0x1009, 1), (0x1014, 8)]; let g := headOf b 1 false 16383
     headOk b 1 false 16383 op [2, 3, 4, 5, 6, 7, 8] (op == 2) && headOk (pausedPort b) 1 false 16383 op [2, 3, 4, 5, 6, 7, 8] (op == 2) && ((pausedPort b).port 1).pausedAt (fld g.r 657 3) (fld g.r 19 3) && ((qpErr (b.port 1).macs g.r).or (roceDescErr g.d)).isNone &&
     !(b.port 1).pausedAt (fld g.r 657 3) (fld g.r 19 3) && !bit g.d 9 && (b.sendReq 1 16383 g.r g.d g.q.psn matches (_, .ok _))),
   [2, 3, 4, 5, 6, 7, 8].all (fun op => let b := descs op 8 [(0x1000, op), (0x1014, 8)]; let g := headOf b 1 false 16383
     headOk b 1 false 16383 op [2, 3, 4, 5, 6, 7, 8] (op == 2) && ((qpErr (b.port 1).macs g.r).or (roceDescErr g.d)).isNone && (b.sendReq 1 16383 g.r g.d g.q.psn matches (_, .err _))),
   (let b := descs 9 0 [(0x1000, 9)]; headOk b 1 false 16383 2 [2, 3, 4, 5, 6, 7, 8] true && roceDescErr (headOf b 1 false 16383).d == some .badDesc)])).all id = true := by decide +kernel

/-- A received frame with nothing to check, and one that pauses the classes 0 and 3 and releases class 1. -/
def frame1 : EthFrame := { bytes := [1, 2, 3], fecBad := false }
def pauseFrame : EthFrame := { bytes := List.replicate 12 0 ++ [0x88, 0x08, 0x01, 0x01, 0, 11, 0, 9, 0, 0, 0, 0, 0, 9] ++ List.replicate 8 0, fecBad := false }

/-- A received request of QP 16,383. -/
def req1 (op psn : Nat) : RoceReq := { qpn := 16383, psn := psn, op := op, rkey := 0, va := 0x100, len := 8, data := [1, 2], imm := none, operand1 := 1, operand2 := 2, ce := false }

/-- Meets hypotheses of `Obligations.PortReceiving`. -/
theorem witness_PortReceiving : ((let b := descs 1 0 [(0x2001, 1), (0x200C, 16)]; let f := (stripTag frame1.bytes).2; let c := b.loadPq 1 true 0
  [b.portOn 1, (b.port 1).up 0, !(b.port 1).up 1, !lit.portOn 1, ({ frame1 with fecBad := true } : EthFrame).fecBad, (match pfcOf (stripTag pauseFrame.bytes).2 with | some (n, h) => n == 11 && h == 9 | none => false), (pfcOf f).isNone,
   (let hash := toeplitz (b.cfgBytes (0x50000020 + 1 * 0x1000)) (rssTuple f); (if toQp1 f then 0 else ((b.cfgBytes (0x50000021 + 1 * 0x1000)).getD (hash % 128) 0).toNat) == 0),
   (c.pq 1 true 0).copy == some ethR, (ethErr (c.port 1).macs ethR).isNone, decide (f.length ≤ 9216),
   (match c.recvHead (c.pq 1 true 0) ethR with | .ok d => decide (f.length ≤ fld d 96 32) && (c.bufWrite 1 (fld d 64 32) (fld ethR 288 16) (fld d 0 64) f 1 matches (_, .ok [])) | _ => false),
   (let b := descs 1 0 [(0x2001, 1), (0x200C, 2)]; let c := b.loadPq 1 true 0; match c.recvHead (c.pq 1 true 0) ethR with | .ok d => decide (fld d 96 32 < f.length) | _ => false),
   (let b := port1 (descs 1 0 []) (fun x => { x with eths := [(0, { copy := some ethR })] }); let c := b.loadPq 1 true 0; (c.pq 1 true 0).copy == some ethR && (c.recvHead (c.pq 1 true 0) ethR matches .none)),
   (let b := ported 1 0 7; let c := b.loadPq 1 false 16383; (c.pq 1 false 16383).copy == some (qpR 7) && (c.pq 1 false 16383).st == 3 && (qpErr (c.port 1).macs (qpR 7)).isNone && (c.port 1).up (fld (qpR 7) 657 3)),
   [2, 3, 4, 5, 6, 7, 8].all (fun op => let e := ((ported 1 0 7).pq 1 false 16383).epsn; (req1 op 0).psn % 2 ^ 24 == e && decide ((req1 op (2 ^ 24 - 1)).psn % 2 ^ 24 ≠ e ∧ psnDiff e (req1 op (2 ^ 24 - 1)).psn < 2 ^ 23 ∧ (req1 op 1).psn % 2 ^ 24 ≠ e ∧ 2 ^ 23 ≤ psnDiff e (req1 op 1).psn))])).all id = true := by decide +kernel

/-- QP 16,383 with a request sent. -/
def sent1 (rnr retries rr : Nat) : Block := { ported 1 0 7 with ports := [(1, { (ported 1 0 7).port 1 with qps := [(16383, { copy := some (qpR rnr), st := 3, retries := retries, rnrRetries := rr, sent := [{ psn := 4, psns := 1, desc := encLine [(0, 2)] }] })] })] }

/-- Meets hypotheses of `Obligations.PortReceiving` (its part PortResponses). -/
theorem witness_PortResponses : ([[(7, 0, 0), (2, 2, 2), (0, 1, 0)].all (fun (e : Nat × Nat × Nat) => let b := sent1 e.1 e.2.1 e.2.2; let c := b.loadPq 1 false 16383
    b.portOn 1 && (c.pq 1 false 16383).copy == some (qpR e.1) && (c.pq 1 false 16383).st == 3 && (c.port 1).up (fld (qpR e.1) 657 3) && (b.pq 1 false 16383).sent != [] && fld (qpR e.1) 11 3 == e.1 && fld (qpR e.1) 8 3 == 2 &&
    ((c.pq 1 false 16383).sent.head?.map (fun z => z.psn)) == some 4 && decide (Block.ackTo 1 16383 (qpR e.1) 3 1 c = c)), fld (qpR 0) 11 3 == 0, ((ported 1 0 7).pq 1 false 16383).sent == []]).all id = true := by decide +kernel

/-- A completion queue of 16 entries with some produced. -/
def cqd (n : Nat) : Block := { ported 1 0 7 with ports := [(1, { (ported 1 0 7).port 1 with cqs := [(4095, { copy := some (encLine [(0, 0x7000), (56, 4), (60, 1)]), prod := n, armed := true })] })] }

/-- Meets hypotheses of `Obligations.PortReceiving` (its part CompletionEntries). -/
theorem witness_CompletionEntries : ([0, 15, 16].all (fun n => let b := cqd n; let q := Machine.tget {} ((b.loadCq 1 4095).port 1).cqs 4095; (match q.copy with | some e => cqValid e && decide (2 ^ fld e 56 4 = 16) | none => false) && ahead32 q.prod q.cons == n)) = true := by decide +kernel

/-- Cartridge 3 in a state beside its mate. -/
def carts (x y : CartSt) : Block := { lit with carts := [(3, { st := x }), (2, { st := y })] }

/-- Meets hypotheses of `Obligations.Cartridges`. -/
theorem witness_Cartridges : ([CartSt.empty, .checking, .shared, .sole, .standby, .fault].all (fun z => ((carts z .empty).cart 3).st == z && ((carts z .empty).cart (mate 3)).st == .empty) && lit.start.level != .dark && lit.gate .operator .operator 0x51 == none && ((carts .shared .shared).cart (mate 3)).st == .shared && ((carts .shared .shared).cart 2).outFaults == [] &&
  (({ carts .checking .empty with store := { (carts .checking .empty).store with inForce := [(0x51003040, [1])] } } : Block).cfg (0x51000040 + 3 * 0x1000) 0 == 1) && (let b := ported 1 0 7; (b.port 1).up 0 && !(b.port 1).up 7 && !(b.port 1).resetting) && (let b := { carts .sole .empty with ports := [(1, { mode := 0 })] }; b.macLit 1 0 && decide (0 < (b.port 1).macs) && !(b.port 1).up 0) && !lit.macLit 1 0) = true := by decide +kernel

end Sys2Proof.Tests
end

