-- ==== Sys2Proof/Tests/WitnessI.lean ====
section
/-! SUPPORT. Witnesses: for each statement with hypotheses, concrete states and operands that meet them, clause by clause. -/

-- One declaration after the other: the proofs of this file all at once would take a thread and its stack each.
set_option Elab.async false

namespace Sys2Proof.Tests

open Sys2Proof Sys2Proof.Machine

/-- A machine with board sensors. -/
def sensed (xs : List (Nat × Sensor)) : Block := { lit with sensors := xs ++ lit.sensors.filter (fun e => xs.all (fun x => x.1 != e.1)) }

def val (v : Int) : Sensor := { value := v }

/-- Meets hypotheses of `Obligations.Tray` (its part TrayConditions). -/
theorem witness_TrayConditions : ([(let b := sensed [(0, val 58001), (1, val 58001)]; decide (58000 < b.vHigh) && !b.alert 1 && !b.start.overvoltage), (let b := sensed [(0, val 58000), (1, val 58000)]; decide (b.vHigh ≤ 58000 ∧ 57500 ≤ b.vLow)),
  (let b := sensed [(0, val 57499), (1, val 57499)]; decide (b.vLow < 57500)), !lit.tray.latched, (lit.setAlert 1).alert 1, (lit.setAlert 2).alert 2,
  (let b := sensed [(3, val 40001)]; decide (40000 < b.inlet) && !b.alert 2), (let b := sensed [(3, val 38999)]; decide (b.inlet < 39000)), (let b := sensed [(3, val 39000)]; decide (39000 ≤ b.inlet ∧ b.inlet ≤ 40000)),
  (let b := sensed [(3, val 50001)]; decide (50000 < b.inlet) && b.start.level != .dark), (let b := sensed [(3, val 50000)]; decide (b.inlet ≤ 50000)),
  [100, 99999].all (fun v => let b := sensed [(6, val v)]; (b.sensor (5 + 1)).valid && decide (100 ≤ (b.sensor (5 + 1)).value ∧ (b.sensor (5 + 1)).value < 100000) && b.start.level != .dark), !((sensed [(6, { valid := false })]).sensor (5 + 1)).valid,
  (let b := { lit with tray := { lit.tray with flowOk := true } }; b.tray.flowOk && b.start.level != .dark), !lit.tray.flowOk, lit.tray.rails, !State.reset.blk.tray.rails, State.reset.blk.start.level == .dark,
  [0, 999, 1000].all (fun n => let b := { lit with tray := { lit.tray with latched := true, below58 := n } }; b.tray.latched && b.tray.below58 == n)]).all id = true := by decide +kernel

/-- Meets hypotheses of `Obligations.Tray` (its part TraySensors). -/
theorem witness_TraySensors : ([lit.start.level != .dark && !lit.tray.slotTaken, agreed 4 (List.replicate 8 0x3E) == some 0x3E, agreed 4 (List.replicate 8 0x3F) == none, (({ lit with tray := { lit.tray with slotTaken := true } } : Block).tray.slotTaken),
  sensorRange 31 == some (0, 125000), !(lit.sensor 31).substituted, (let b := sensed [(31, { substituted := true, good := 998 })]; (b.sensor 31).substituted && decide ((b.sensor 31).good + 1 < 1000)),
  (let b := sensed [(31, { valid := false })]; !(b.sensor 31).valid && !(b.sensor 31).substituted), (lit.sensor 31).valid, lit.tray.busTx && !lit.tray.noBeacon]).all id = true := by decide +kernel

/-- Meets hypotheses of `Obligations.PowerLimits`. -/
theorem witness_PowerLimits : ([lit.tray.rails, !State.reset.blk.tray.rails, !lit.readingsBad, (let b := sensed [(2, { valid := false })]; b.readingsBad && b.tray.rails), lit.limits != [],
  [(0x13F, 15), (0x208, 15), (0x30F, 0), (0x401, 26), (0x60F, 0)].all (fun (e : Nat × Nat) => match thermalLimits e.1 with | some (a, b, c, d) => decide (b ≤ a ∧ a ≤ c) && d == e.2 | none => false),
  (match thermalLimits 0x13F with | some (_, _, c, _) => decide (c ≤ ((lit.updPower (fun x => { x with thermal := [(0x13F, { milliC := c })] })).thermal 0x13F).milliC) && decide ((lit.thermal 0x13F).milliC < c) | none => false),
  [0, 1, 2, 3].all (fun n => (lit.updPower (fun x => { x with dim := n })).power.dim == n), !(lit.sensor 0).substituted && !(lit.sensor 1).substituted,
  (let b := sensed [(0, { substituted := true }), (1, { substituted := true })]; (b.sensor 0).substituted && (b.sensor 1).substituted && b.tray.rails)]).all id = true := by decide +kernel

/-- Meets hypotheses of `Obligations.CommandGate`. -/
theorem witness_CommandGate : (decide (roleRank .observer < roleRank .operator ∧ roleRank .operator ≤ roleRank .service) && State.reset.blk.start.level == .dark && lit.start.level != .dark && (let b := { lit with tray := { lit.tray with rails := false } }; !b.tray.rails && b.start.level != .dark) && decide ((0x20 : Nat) ∉ [0x01, 0x02, 0x60, 0x70, 0x71, 0x78])) = true := by decide +kernel

def railsIn (ok : Bool) : RailsIn := { flowOk := true, pwrOk := true, railsOk := ok, clocksOk := true, silentSites := [], badSites := [], badSlots := [], links := [], dimms := [], unapproved := [], badStackCh := [], badBulkCh := [], badFrames := [], badSinkers := [], badClusters := [], badPorts := [], badTiles := [], badVectors := [], guests := [] }

/-- TENDED with the tray's conditions good. -/
def tended : Block := { lit with start := { lit.start with level := .tended }, tray := { lit.tray with rails := false, slotId := some 1, slotNow := some 1, slotTaken := true } }

/-- Meets hypotheses of `Obligations.Starts`. -/
theorem witness_Starts : ([lit.start.level != .dark, State.reset.blk.start.level == .dark, decide (40500 ≤ (coldIn true).inputMv), decide (({ coldIn true with inputMv := 40499 } : ColdIn).inputMv < 40500), !(coldIn false).pufOk && decide (40500 ≤ (coldIn false).inputMv),
  !State.reset.blk.start.woken, !State.reset.blk.start.retry, (let b := { State.reset.blk with start := { State.reset.blk.start with woken := true, retry := true } }; b.start.woken && b.start.retry && b.start.level == .dark),
  lit.tray.rails, tended.start.level == .tended && !tended.tray.rails && !tended.start.stuck, (({ tended with start := { tended.start with stuck := true } } : Block).start.stuck),
  (let c := { tended with tray := { tended.tray with flowOk := true, pwrOk := true } }; c.railsHeld == none), (let c := { tended with tray := { tended.tray with flowOk := false, pwrOk := true } }; c.railsHeld.isSome && !c.start.heldRaised),
  (let c := { tended with tray := { tended.tray with flowOk := false, pwrOk := true }, start := { tended.start with heldRaised := true } }; c.railsHeld.isSome && c.start.heldRaised), !(railsIn false).railsOk,
  lit.gate .operator .operator 0x02 == none && !lit.startRuns, tended.gate .operator .operator 0x02 == none && tended.startRuns]).all id = true := by decide +kernel

/-- Meets hypotheses of `Obligations.LossesAndResets`. -/
theorem witness_LossesAndResets : ([(let b := lit; b.tray.rails && (b.lantern 63).loss == .alive), !State.reset.blk.tray.rails,
  (let b := { lit with store := { lit.store with inForce := [(0x20000042, [0])] } }; b.cfg 0x20000042 1 != 1 && b.hws == [] && b.lines == [] && b.checks == [] && b.groups == [] && b.withdrawals == [] && (b.lantern 63).cmd == none),
  lit.gate .service .service 0x60 == none, !(lit.lantern 63).relightWaits && (lit.lantern 63).promoteTo == none, (lit.cluster 7).st == .running, !(lit.port 1).resetting, (lit.channel 255).st == .up, (lit.channel (256 + 15)).st == .up,
  !(({ lit with hws := [(0, { phase := .running })] } : Block).tileEmpty 0), (let b := { lit with lanterns := (List.range 64).map (fun l => (l, ({ loss := .lost } : Lantern))) }; b.tileEmpty 8 && b.tileEmpty 0 && b.tray.rails && b.gate .service .service 0x60 == none),
  (({ lit with lanterns := [(63, { loss := .lost })] } : Block).lantern 63).loss != .alive]).all id = true := by decide +kernel

/-- A machine with a record waiting for the log and a record in a bank. -/
def recorded : Block := { lit.record (unitNo 0x30 7) .tierNoFrame [1, 2] (errRec 3 0x14 1) with start := lit.start }

/-- Meets hypotheses of `Obligations.Records`. -/
theorem witness_Records : (lit.gate .observer .observer 0x60 == none && lit.gate .service .service 0x60 == none && lit.start.level != .dark && State.reset.blk.start.level == .dark && lit.events.pend == [] && (match recorded.events.pend with | _ :: _ => true | [] => false) && (({ lit with events := { lit.events with left := 256 } } : Block).events.left != 0) && !lit.tray.sf0Failed && decide (lit.events.log.length < 262144) &&
  (let b := { lit with events := { lit.events with second := [(5, .tierNoFrame, 17)] } }; b.events.second.find? (fun y => y.1 == 5 && y.2.1 == .tierNoFrame) == some (5, .tierNoFrame, 17)) && decide (Ev.tierNoFrame ≠ .guestAccessDenied)) = true := by decide +kernel

end Sys2Proof.Tests
end

