-- ==== Sys2Proof/Tests/WitnessJ.lean ====
section
/-! SUPPORT. Witnesses: for each statement with hypotheses, concrete states and operands that meet them, clause by clause. -/

-- One declaration after the other: the proofs of this file all at once would take a thread and its stack each.
set_option Elab.async false

namespace Sys2Proof.Tests

open Sys2Proof Sys2Proof.Machine

/-- A machine IN SERVICE at an off-watch step. -/
def watchAt (w : WatchStep) : Block := lit.updSilent (fun x => { x with watch := w, next := 63 })

/-- Lantern 0 may not be taken: its tile's spare is gone. -/
def noSpare : Block := (watchAt .idle).updSilent (fun x => { x with spares := (List.range 9).map (fun t => (t, none)) })

/-- Meets hypotheses of `Obligations.OffWatchAndScans` (its part OffWatch). -/
theorem witness_OffWatch : ([watchAt .idle, noSpare].all (fun b => decide (b.silent.svc = .inService ∧ b.start.level = .lit ∧ b.cfg 0x61000010 24 ≠ 0 ∧ b.silent.watch = .idle ∧ b.tray.sf0Failed = false) && b.watchPick == some 63) && (noSpare.spareSite (lampTile 63)).isNone && ((watchAt .idle).spareSite (lampTile 63)) == some 8 && (List.range 64).all (fun m => lampTile m != lampTile 63 || (!((watchAt .idle).lantern m).relightWaits && ((watchAt .idle).lantern m).promoteTo == none)) &&
  (watchAt (.drain 63 8)).quiet 63 && (watchAt (.drain 63 8)).onWatch 63 && !(({ watchAt (.drain 63 8) with hws := [(255, { phase := .running })] } : Block).quiet 63) && (watchAt (.scan 63 0x8A)).silent.watch == .scan 63 0x8A && (watchAt (.drain 63 8)).silent.watch == .drain 63 8) = true := by decide +kernel

/-- A lantern of the tile waits to be relit. -/
def relightWaiting : Block := (watchAt .idle).updLantern 62 (fun y => { y with relightWaits := true })

/-- Meets hypotheses of `Obligations.OffWatchAndScans`: a lantern of the tile waits, none can be taken, the spare is no longer the one. -/
theorem witness_OffWatchPassedOver : ([relightWaiting.watchPick == some 63 && (relightWaiting.spareSite (lampTile 63)).isSome && lampTile 62 == lampTile 63 && (relightWaiting.lantern 62).relightWaits,
  (let b := { watchAt .idle with lanterns := (List.range 64).map (fun l => (l, ({ loss := .lost } : Lantern))) }; b.watchPick.isNone),
  (let b := watchAt (.drain 63 3); b.quiet 63 && b.spareSite (lampTile 63) != some 3), (watchAt (.drain 63 8)).spareSite (lampTile 63) == some 8]).all id = true := by decide +kernel

/-- A cluster whose OS has stopped it. -/
def stoppedAt (k : Nat) : Block := { lit with clusters := [(k, { stopped := true })] }

/-- Meets hypotheses of `Obligations.OffWatchAndScans` (its part Scans). -/
theorem witness_Scans : (!lit.tray.sf1Failed && !(lit.sinker 15).lost && (lit.sinker 15).engines.getLsbD 3 && lit.start.level == .lit && !((({ lit with sinkers := [(15, { engines := 0 })] } : Block).sinker 15).engines.getLsbD 3) && lit.gate .operator .operator 0x61 == none && lit.gate .service .service 0x61 == none && !(lit.cluster 7).stopped && ((stoppedAt 7).cluster 7).stopped && ((stoppedAt 7).cluster 7).st == .running &&
  lit.tileEmpty 8 && !lit.tray.sf0Failed && lit.silent.svc == .inService && !(({ lit with berths := [(7 * 2 ^ 24, { st := .steady })] } : Block).tileEmpty 8) && decide (7 ∉ lit.silent.dueClusters) && decide (8 ∉ lit.silent.dueTiles) && decide (7 ∈ (lit.updSilent (fun x => { x with dueClusters := [7], dueTiles := [8] })).silent.dueClusters)) = true := by decide +kernel

/-- A check in a stage, its recipe at VA 0x140 on lantern 0. -/
def check0 (stage : Nat) : Check := { id := 9, lantern := 0, hw := 0, ctx := 1, key := 0x140, tile := 0, stage := stage, rows := 1, rowBytes := 8, result := 0, checker := some 1, voter := some 2, inputs := [] }

/-- Its recipe line. -/
def checked (stage : Nat) (r : Line) : Block := { withLines (runs 0 {}) [(5, r)] with checks := [check0 stage], contexts := [(1, { st := .active, lanterns := BitVec.ofNat 64 0x103 })] }

def recipe0 : Line := encLine [(0, 1)]

/-- A program of the check has ended on a lantern. -/
def programDone (stage l : Nat) : Block := { checked stage recipe0 with hws := [(hwNo l 0, { phase := .ended 0 0, ctx := 1, check := some 9, granules := [5], compPa := 2 ^ 52, comp := 2 ^ 52 })] }

/-- Whether the end of a check's program is taken. -/
def programOk (b : Block) (x : Check) (l : Nat) : Bool :=
  match b.checkHw x.id with
  | none => false
  | some k => (b.hw k).phase == .ended 0 0 && (b.drainStores l).joinReady l (k % 4) &&
      !decide (((b.drainStores l).hw k).phase ≠ .ended 0 0 ∨ ((b.drainStores l).hw k).share < x.result + x.rows * x.rowBytes ∨ (b.drainStores l).lensBad k x.result (x.rows * x.rowBytes) = true)

/-- A program that passes the check goes on. -/
theorem programEnd_of_ok {b : Block} {x : Check} {l : Nat} (ok : programOk b x l = true) :
    ∃ b1 sum, ∀ go : Block → W64 → Block, b.programEnd x l go = go b1 sum := by
  unfold programOk at ok
  split at ok
  · cases ok
  · rename_i k hk
    simp only [Bool.and_eq_true, beq_iff_eq, Bool.not_eq_true', decide_eq_false_iff_not] at ok
    refine ⟨(b.drainStores l).freeHw l (k % 4), rowsSum x.rows x.rowBytes ((b.drainStores l).lensBytes k x.result (x.rows * x.rowBytes)), fun go => ?_⟩
    unfold Block.programEnd
    simp only [hk, ok.1.1, ok.1.2, Bool.not_true, Bool.false_eq_true, if_false]
    rw [if_neg ok.2]

/-- Meets hypotheses of `Obligations.BearingChecks`. -/
theorem witness_BearingChecks : ((let find (b : Block) (st : Nat) := b.checks.find? (fun (x : Check) => x.id == 9 && x.stage == st)
  [0, 1, 2].all (fun g => find (checked g recipe0) g == some (check0 g) && find (checked g recipe0) (g + 1) == none) && lit.checks.find? (fun (x : Check) => x.id == 9) == none) && [recipe0, 0].all (fun r => let b := checked 0 r; match b.readVa 0 1 0x140 64 with | some (some bs) => lineOf bs == r && recipeOk r == (r == recipe0) && fld r 8 3 == 0 | _ => false) && ({ check0 0 with key := 0x81 }).key.toNat % 64 != 0 &&
  programOk (programDone 1 1) (check0 1) 1 && programOk (programDone 2 2) (check0 2) 2 && (programDone 2 2).regionSums 2 1 [] == some (some []) && (checked 0 recipe0).checkHw 9 == none && (let b := programDone 1 1; (b.chooseChecker { check0 1 with stage := 2, checkerSum := 5 } 1 [0, 1]) == some 8)) = true := by decide +kernel

/-- Meets hypotheses of `Obligations.BearingChecks`: the sum that a program leaves, with the one it is held to, and inputs that changed. -/
theorem witness_BearingSums : ([[0, 7].all (fun v => let b := { programDone 1 1 with checks := [{ check0 1 with sum := v }] }; (b.checks.find? (fun (x : Check) => x.id == 9 && x.stage == 1)) == some { check0 1 with sum := v } && programOk b { check0 1 with sum := v } 1),
  rowsSum 1 8 (List.replicate 8 0) == 0, (programDone 2 2).silent.svc == .inService, (match (checked 0 recipe0).regionSums 0 1 [(0x140, 64)] with | some (some ws) => ws != [5] && ws.length == 1 | _ => false)]).all id = true := by decide +kernel

/-- A machine in a service state. -/
def svcAt (z : Svc) (f : Bool) : Block := { lit with hws := [(255, { phase := .running, ctx := 1 })] }.updSilent (fun x => { x with svc := z, fault := f })

/-- Meets hypotheses of `Obligations.BearingChecks` (its part ServiceStates). -/
theorem witness_ServiceStates : (lit.gate .operator .operator 0x61 == none && [Svc.inService, .draining, .condemned].all (fun z => [false, true].all (fun f => (svcAt z f).silent.svc == z && (svcAt z f).silent.fault == f && ((svcAt z f).hw 255).phase == .running && ((svcAt z f).hw 255).check.isNone)) && ({ svcAt .draining true with hws := [] } : Block).hws == []) = true := by decide +kernel

/-- Meets hypotheses of `Obligations.BearingChecks` (its part ServiceStates): a module drained for a fault, with no record yet. -/
theorem witness_Condemns : ([(svcAt .draining true).silent.condemned.isNone, (svcAt .draining true).silent.svc == .draining,
  (svcAt .draining true).silent.fault]).all id = true := by decide +kernel

end Sys2Proof.Tests
end

