-- ==== Sys2Proof/Tests/WitnessK.lean ====
section
/-! SUPPORT. Witnesses: for each statement with hypotheses, concrete states and operands that meet them, clause by clause. -/

-- One declaration after the other: the proofs of this file all at once would take a thread and its stack each.
set_option Elab.async false

namespace Sys2Proof.Tests

open Sys2Proof Sys2Proof.Machine

/-- A machine with firmware of a class. -/
def fwAt (c : Nat) (f : Firmware) : Block := { lit with firmware := [(c, f)] }

/-- The bytes in slot B of an image header of a class, version 2, with a security version; `bad` adds to its 2048 bits. -/
def imageBytes (c sec bad : Nat) : Tab Byte :=
  ((leBytes 256 (0x46575347 + 2 ^ 32 + c * 2 ^ 36 + 2 * 2 ^ 64 + supportedLevels * 2 ^ 128 + 256 * 2 ^ 160 + sec * 2 ^ 192 + bad)).zipIdx).map
    (fun e => (2 ^ 24 + e.2, e.1))
/-- A machine whose candidate slot holds that image. -/
def imgAt (c sec bad : Nat) : Block := fwAt c { cand := 2, floor := 3, bytes := imageBytes c sec bad }

/-- The header that these bytes spell (R431). -/
def hdrAt (c sec : Nat) : FwHdr := { magic := 0x46575347, level := 1, reservedZero := true, cls := c, version := 2, ifMin := 0, ifMax := 0, levels := supportedLevels, length := 256, secVersion := sec, digest := 0 }

/-- The header of R431, field by field, as the candidate slot's bytes give it. -/
theorem witness_ImageHeader : [0, 5].all (fun u => (imgAt u 3 0).imageHdr u 1 == hdrAt u 3) = true := by decide +kernel
/-- The image passes every check of VERIFY. -/
theorem witness_VerifyPasses : [0, 1, 2, 3, 4, 5].all (fun u => let b := imgAt u 3 0; let h := hdrAt u 3
    h.reservedZero && h.level == 1 && h.levels &&& supportedLevels == supportedLevels && h.cls == u && decide (h.length ≤ slotBytes u - 256) && b.ifOk u h && decide ((b.fw u).floor ≤ h.secVersion) && (b.fw u).cand != 0 && (b.fw u).boot == 0) = true := by decide +kernel
/-- Images that fail one check of VERIFY each: a reserved bit, LEVEL, MAGIC, CLASS, LENGTH, SECURITY_VERSION. -/
theorem witness_VerifyFails : ((headerOf ((imageBytes 1 2 (2 ^ 1024)).map Prod.snd) == { hdrAt 1 2 with reservedZero := false }) &&
  headerOf ((imageBytes 1 2 (2 ^ 32 + 1 + 2 ^ 36 + 2 ^ 188)).map Prod.snd) == { hdrAt 1 2 with magic := 0x46575348, level := 2, cls := 2, length := 2 ^ 28 + 256 } && decide (slotBytes 1 - 256 < 2 ^ 28 + 256) && decide ((hdrAt 1 2).secVersion < 3)) = true := by decide +kernel

/-- Meets hypotheses of `Obligations.Firmware` (its part FirmwareCommands). -/
theorem witness_FirmwareCommands : (lit.gate .service .service 0x71 == none && lit.tray.rails && [0, 1, 2, 3, 4, 5].all (fun u => let n := (List.range (fwUnits u)); let b := fwAt u { cand := 2, floor := 3, onCand := [] }; !b.candBusy u && (fwAt u { onCand := [0] }).candBusy u && decide (b.cfg (unitNo 0x71 u + 0x11) 0 + 4 ≤ slotBytes u) && ((fwAt u {}).fw u).cand == 0 &&
   decide ((1 : W64).toNat < 2 ^ fwUnits u) && (b.fw u).cmd.isNone && ((fwAt u { cand := 2, cmd := some 4 }).fw u).cmd.isSome && (let c := fwAt u { cand := 2, onCand := n }; n.all (fun i => (c.fw u).onCand.contains i) && n.contains 0) && !(b.fw u).onCand.contains 0)) = true := by decide +kernel

/-- Meets hypotheses of `Obligations.Firmware` (its part FirmwareSwitches). -/
theorem witness_FirmwareSwitches : ([0, 1, 2, 3, 4, 5].all (fun c => let b := fwAt c { switching := [(0, 1)] }; ((b.fw c).switching.find? (fun e => e.1 == 0)).isSome && ((b.fw c).switching.find? (fun e => e.1 == 1)).isNone && (c == 4 || b.atSwitch c 0)) && (let b := fwAt 4 { switching := [(0, 1)] }; !b.atSwitch 4 0 && ({ b with clusters := [(0, { stopped := true })] } : Block).atSwitch 4 0) && [2, 3].all (fun c => (let f := (fwAt c { switching := [(0, 1)], tries := [(0, 14)] }).fw c; f.draining 0 && f.cmd.isNone && decide (Machine.tget 0 f.tries 0 + 1 < 16)) && (let f := (fwAt c { switching := [(0, 1)], tries := [(0, 15)] }).fw c; f.draining 0 && decide (16 ≤ Machine.tget 0 f.tries 0 + 1) && f.result != .badState))) = true := by decide +kernel

/-- Lantern 63 in a state. -/
def lampAt (x : Lantern) : Block := { lit with lanterns := [(63, x)], store := { lit.store with inForce := [(0x20000042, [0])] } }

/-- Meets hypotheses of `Obligations.LanternService`. -/
theorem witness_LanternService : (lit.gate .service .service 0x20 == none && [Loss.alive, .fencing, .lost, .relighting].all (fun z => ((lampAt { loss := z }).lantern 63).loss == z && (lampAt { loss := z }).quiet 63 && !(lampAt { loss := z }).watchOn (lampTile 63) && !((lampAt { loss := z }).lantern 63).relightWaits && ((lampAt { loss := z }).lantern 63).promoteTo == none && (lampAt { loss := z }).spareSite (lampTile 63) == some 8) && (lampAt {}).cfg 0x20000042 1 != 1 &&
  ((lampAt {}).updSilent (fun x => { x with watch := .drain 63 8 })).watchOn (lampTile 63) && (let b := { lampAt {} with hws := [(255, { phase := .running })] }; !b.quiet 63 && (b.lantern 63).loss == .alive && !(b.lantern 63).out) && ((lampAt {}).updSilent (fun x => { x with spares := [(lampTile 63, none)] })).spareSite (lampTile 63) == none && !(lampAt {}).outOfService 63 && (let b := { lampAt { loss := .lost } with hws := [(255, { phase := .running })] }; !b.quiet 63) &&
  (let b := { lampAt {} with beams := [(beamNo 63 15, { mask := 3 })] }; (b.beam (beamNo 63 15)).mask &&& ~~~(1 : Line) != 0 && (b.beam (beamNo 63 15)).mask &&& ~~~(7 : Line) == 0 && (b.beam (beamNo 63 15)).want.isNone) && (let b := { lampAt {} with beams := [(beamNo 63 15, { mask := 3, want := some (BitVec.ofNat 512 (2 ^ 65 - 1)) })] }; (b.beam (beamNo 63 15)).want.isSome && (List.range 15).all (fun j => (b.beam (beamNo 63 j)).want.isNone) && decide (512 - popBelow (BitVec.ofNat 512 (2 ^ 65 - 1)) 512 < 448) && b.quiet 63)) = true := by decide +kernel

/-- DDR5 channel 15 in a service state. -/
def bulkAt (z : ChanSvc) (t : ChanSt) : Block := { lit with channels := [(271, { svc := z, st := t })] }

/-- A DIMM that passes, and one that does not. -/
def dimm (ok : Bool) : DimmTrain := { gib := lit.dimmGiB, approved := ok, trained := true, identity := [1, 2] }

/-- Meets hypotheses of `Obligations.ChannelsAndAgeing` (its part ChannelService). -/
theorem witness_ChannelService : ([lit.gate .service .service 0x31 == none, (match (bulkAt .inUse .up).takeOutStart 271 with | .ok d => (d.channel 271).svc == .evacuating | .error _ => false),
  (match (bulkAt .out .offline).takeOutStart 271 with | .error e => e == .badState | .ok _ => false), [ChanSvc.inUse, .evacuating, .out, .training, .returning].all (fun z => ((bulkAt z .offline).channel (256 + 15)).svc == z),
  decide ((bulkAt .evacuating .up).bulkUsed (chanDomain (256 + 15)) ≤ (bulkAt .evacuating .up).singleFrames - 64), (List.range 16).all (fun i => ((bulkAt .returning .up).channel (256 + i)).st == .up),
  (dimm true).gib == (bulkAt .training .offline).dimmGiB && (dimm true).approved && (dimm true).trained, !(dimm false).approved]).all id = true := by decide +kernel

/-- Meets hypotheses of `Obligations.ChannelsAndAgeing` (its part AgeingMode). -/
theorem witness_AgeingMode : ([[Role.service, .vendor].all (fun r => lit.gate r .service 0x10 == none), lit.gate .vendor .vendor 0x10 == none, lit.gate .operator .operator 0x70 == none, lit.cfg 0x10000050 0 != 1,
  ({ lit with store := { lit.store with inForce := [(0x10000050, [1])] } } : Block).cfg 0x10000050 0 == 1, lit.quiet 63, (tfind lit.power.guardNext (lit.siteOf 63)).isNone, !lit.tray.sf0Failed]).all id = true := by decide +kernel

/-- A lantern that waits for its quiescent point to be measured. -/
def measuring : Block := lampAt { measureWaits := some (300, 7) }

/-- Meets hypotheses of `Obligations.ChannelsAndAgeing` (its part AgeingMode): MEASURE of a lantern that is not alive, that waits already,
that has work and that has none. -/
theorem witness_Measure : ([((lampAt { loss := .lost }).lantern 63).loss != .alive, (measuring.lantern 63).measureWaits != none, (measuring.lantern 63).loss == .alive,
  (let b := { lampAt {} with hws := [(255, { phase := .running })] }; !b.quiet 63 && (b.lantern 63).measureWaits == none && (b.lantern 63).loss == .alive),
  (let b := lampAt {}; b.quiet 63 && (b.lantern 63).promoteTo == none && !(b.lantern 63).relightWaits && b.silent.retireBeams == [] && b.gate .service .service 0x10 == none)]).all id = true := by decide +kernel

end Sys2Proof.Tests
end

