-- ==== Sys2Proof/Tests/WitnessL.lean ====
section
/-! SUPPORT. Witnesses: for each statement with hypotheses, concrete states and operands that meet them, clause by clause. -/

-- One declaration after the other: the proofs of this file all at once would take a thread and its stack each.
set_option Elab.async false

namespace Sys2Proof.Tests

open Sys2Proof Sys2Proof.Machine

/-- A token whose fields are right but for its nonce and limit. -/
def token (n l : Nat) : Token := { levelOk := true, reservedZero := true, scope := 5, deviceOk := true, nonce := n, startLimit := l, sigOk := true }

/-- A token that SpdmAndDebug admits: its nonce is the one in force, whatever that is. -/
theorem witness_DebugToken : ∃ tok : Token, tok.reservedZero = true ∧ tok.levelOk = true ∧ tok.deviceOk = true ∧ tok.sigOk = true ∧
    tok.nonce = Config.debugNonce lit.security.nonces ∧ lit.start.count % 2 ^ 32 ≤ tok.startLimit :=
  ⟨token (Config.debugNonce lit.security.nonces) 0, rfl, rfl, rfl, rfl, rfl, by decide +kernel⟩

/-- Meets hypotheses of `Obligations.SpdmDebugGuests` (its part SpdmAndDebug). -/
theorem witness_SpdmAndDebug : (lit.gate .observer .observer 0x78 == none && lit.gate .vendor .vendor 0x78 == none && decide (({ lit with start := { lit.start with count := 5 } } : Block).start.count % 2 ^ 32 > (token 0 4).startLimit)) = true := by decide +kernel

/-- A guest site 1 in a state, with a window on a backed berth. -/
def gwin (signal : Bool) : GuestWin := { v := true, r := true, w := true, signal := signal, rsvZero := true, ctx := 0xFF, gbase := 0x10000, length := 0x10000, paBase := 0 }

def guestAt (x : Guest) : Block := { lit with tray := { lit.tray with part := .g4t, guestFitted := [0, 1] }, guests := [(1, x)], berths := [(0, { st := .steady })] }

/-- Meets hypotheses of `Obligations.SpdmDebugGuests` (its part GuestCommands). -/
theorem witness_GuestCommands : (decide (roleRank .operator < roleRank .service) && lit.tray.part != .g4t && (guestAt {}).tray.part == .g4t && (guestAt {}).gate .service .service 0x7C == none && [GuestSt.empty, .admitting, .running, .suspended, .held].all (fun z => ((guestAt { st := z }).guest 1).st == z) && ((guestAt { st := .running }).guest 1).live && !((guestAt { st := .held }).guest 1).live) = true := by decide +kernel

/-- Meets hypotheses of `Obligations.Firewall`. -/
theorem witness_Firewall : ((let b := guestAt { st := .running }; (gwin true).inField && b.winOk 1 15 (gwin true) && b.gate .service .service 0x7C == none) && [true, false].all (fun g => let b := guestAt { st := .running, windows := [(0, gwin g)] }; b.window 1 0x10040 false == some (gwin g) && b.window 1 0x1FFC0 true == some (gwin g) && b.window 1 0x20000 true == none && b.window 1 0xFFC0 false == none && b.dom 0x40 == some 0x40 && (match b.under 1 with | .ok (_, p) => !p | .error _ => false) && (match b.readAt 0x40 64 with | .ok _ => true | .error _ => false) && (match b.write 1 1 5 false with | .ok _ => true | .error _ => false) && (match b.putUnder 1 1 5 false with | .ok _ => true | .error _ => false)) &&
  (let b := { guestAt { st := .running, windows := [(0, gwin false)] } with memPoison := [1] }; match b.under 1 with | .ok (_, p) => p | .error _ => false) && decide (((guestAt { denialsNow := 998 }).guest 1).denialsNow + 1 < 1000 ∧ 1000 ≤ ((guestAt { denialsNow := 999 }).guest 1).denialsNow + 1)) = true := by decide +kernel

/-- Session 41 at index 7, and at mailbox 3, which holds a request or not. -/
def sess (x : Session) : Block := { lit with sessions := [(7, { x with number := 41 })] }
def boxed (x : Session) (busy : Bool) : Block := { lit with sessions := [(11, { x with number := 41 })], mailboxes := [(3, { busy := busy })] }

def msg1 : Msg := { wellFormed := true, enc := true, counter := 9, request := 5, more := false }

/-- Meets hypotheses of `Obligations.Sessions` (its part SessionOpening). -/
theorem witness_SessionOpening : ([lit.start.level != .dark, State.reset.blk.start.level == .dark, lit.tray.busTx && !lit.tray.noBeacon, !State.reset.blk.tray.busTx, (List.range 8).find? (fun i => !thas (sess { role := .vendor }).sessions i) == some 0,
  (let b := { lit with sessions := (List.range 8).map (fun i => (i, ({ role := .observer, number := i } : Session))) }; (List.range 8).all (fun i => thas b.sessions i) && (List.range 4).all (fun m => !(b.mailbox m).busy)), lit.tray.slotId != some 3,
  (let b := { lit with mailboxes := [(3, { busy := true })] }; (b.mailbox 3).busy && !thas b.sessions (8 + 3)), lit.sessionAt 41 == none,
  [true, false].all (fun o => (sess { role := .operator, opened := o }).sessionAt 41 == some (7, { number := 41, role := .operator, opened := o })),
  [true, false].all (fun o => (boxed { role := .operator, opened := o } o).sessionAt 41 == some (11, { number := 41, role := .operator, opened := o }) && ((boxed { role := .operator, opened := o } o).mailbox (11 - 8)).busy == o)]).all id = true := by decide +kernel

/-- Meets hypotheses of `Obligations.Sessions` (its part SessionMessages). -/
theorem witness_SessionMessages : ([lit.sessionAt 41 == none, (let b := sess { role := .operator, opened := true, counter := 8, kept := [(5, .busy, [1])] }; match b.sessionAt 41 with | some (i, x) => i == 7 && x.opened && decide (x.counter < msg1.counter) && (x.kept.find? (fun k => k.1 == msg1.request)).isSome && (x.kept.find? (fun k => k.1 == 6)).isNone | none => false),
  (let b := sess { role := .operator, opened := true, counter := 9 }; match b.sessionAt 41 with | some (_, x) => decide (msg1.counter ≤ x.counter) | none => false),
  (let b := boxed { role := .operator, opened := true } false; match b.sessionAt 41 with | some (i, _) => decide (8 ≤ i) && !(b.mailbox (i - 8)).busy | none => false), lit.cfg 0x78000052 0 != 1,
  (let b := { sess { role := .operator, opened := true } with store := { lit.store with inForce := [(0x78000052, [1])] } }; b.cfg 0x78000052 0 == 1 && (b.sessionAt 41).isSome)]).all id = true := by decide +kernel

/-- Meets hypotheses of `Obligations.ReadAndWrite`. -/
theorem witness_ReadAndWrite : ([sess { role := .operator, opened := true }, boxed { role := .operator, opened := true } true].all (fun b => match b.sessionAt 41 with | some (i, x) => (decide (i < 8) || (b.mailbox (i - 8)).busy) && x.opened && decide (x.counter < msg1.counter) && x.kept == [] && x.staged.isNone && b.cfg 0x78000052 0 != 1 && !b.tray.sf0Failed | none => false) && (objAt 0xFFFFFFFF).isNone && (match objAt 0x02000043 with | some o => o.acc != 0 && o.acc != 4 && decide (o.role ≤ roleRank .operator ∧ roleRank .observer < o.role ∧ o.readRole ≤ roleRank .observer) && o.area != 0x7C && lit.answers o && !o.typeOk [1] && o.typeOk [0, 0] && !o.rangeOk [0, 0] && !o.rangeOk [0xE9, 3] && o.rangeOk [0xE8, 3] && o.rangeOk [1, 0] | none => false) &&
  (match objAt 0x30000061 with | some o => (let b := { sess { role := .operator, opened := true } with tray := { lit.tray with rails := false } }; !b.answers o) | none => false) && objects.any (fun o => decide (roleRank .observer < o.readRole)) && objects.any (fun o => o.acc == 0) && decide (leNat [1, 0] = 1 ∧ leNat [0xE8, 3] = 1000)) = true := by decide +kernel

/-- Meets hypotheses of `Obligations.Sessions`: a body that fits and one that does not, with and without a chain that holds, a message of
this version and one of another, under a session that must encrypt. -/
theorem witness_MessageVersions : ([msg1.version == 1, ({ msg1 with version := 2 } : Msg).version != 1, !({ msg1 with enc := false } : Msg).enc,
  [true, false].all (fun c => decide (({ chainOk := c, bytes := 1280 } : InitBody).bytes ≤ 1280) && decide (1280 < ({ chainOk := c, bytes := 1281 } : InitBody).bytes))]).all id = true := by decide +kernel

/-- A store with a record to be written. -/
def storing (er : Bool) : Block := { lit with store := { lit.store with dirty := true, a := { lit.store.a with erasing := er }, b := { lit.store.b with erasing := er }, persist := [(0x02000043, [5, 0])] } }

/-- Meets hypotheses of `Obligations.StoreAndAlerts`. -/
theorem witness_StoreAndAlerts : (lit.start.level != .dark && !lit.store.dirty && [true, false].all (fun e => (storing e).store.dirty && ((storing e).store.copy (storing e).store.older).erasing == e) && !lit.tray.sf0Failed && !lit.tray.sf1Failed && ((storing true).store.copy 0).erasing && ((storing true).store.copy 1).erasing && lit.gate .service .service 0x70 == none && lit.gate .operator .operator 0x02 == none && (let b := { lit with tray := { lit.tray with sf0Failed := true, sf1Failed := true } }; b.gate .service .service 0x70 == none)) = true := by decide +kernel

/-- A transfer that has done its work. -/
def done1 : Xfer := { id := 5, lantern := 63, hw := 3, req := 0, tally := some 3 }

/-- Meets hypotheses of `Obligations.Moves` (its part TransferRetires). -/
theorem witness_TransferRetires : (done1.tally == some 3 && done1.half.isNone && decide (done1.hw < 4)) = true := by decide +kernel

/-- Meets hypotheses of `Obligations.PostsAndLayers` (its part LayerClosing). -/
theorem witness_LayerClosing : ([true, false].all (fun x => bit (encLine [(8, if x then 1 else 0)]) 8 == x && bit (encLine [(9, if x then 1 else 0)]) 9 == x)) = true := by decide +kernel

/-- Meets hypotheses of `Obligations.Joins` (its part RecordClosing). -/
theorem witness_RecordClosing : (decide ((63 : Nat) < 64 ∧ (255 : Nat) < 256 ∧ (65535 : Nat) < 2 ^ 16) && !({ queue := 3, record := 9, ctx := 1, mask := 1, pa := 0x2000, msiEn := false, msiAddr := 0, msiId := 0, tag := 0 } : JoinInfo).msiEn) = true := by decide +kernel

end Sys2Proof.Tests
end

/-! PROOFS. Contexts and their queues (R15, R99, R100, R104): what CREATE, REGISTER_QUEUE, UNREGISTER_QUEUE, DESTROY and
DESTROY_DONE answer in each case, and the frame that the registration of watches and the release of groups share. -/

namespace Sys2Proof

open Sys2Proof.Machine

/-! ### Blocks that agree on memory, programs, contexts, queues and replies -/

/-- Two blocks agree on everything that a context command reports on: memory, hardware contexts, contexts, queues, replies. -/
structure SameContexts (b c : Block) : Prop where
  mem : c.mem = b.mem
  hws : c.hws = b.hws
  contexts : c.contexts = b.contexts
  queues : c.queues = b.queues
  cmds : c.cmds = b.cmds

namespace SameContexts

variable {b c d : Block}

theorem refl (b : Block) : SameContexts b b := ⟨rfl, rfl, rfl, rfl, rfl⟩

theorem trans (h : SameContexts b c) (k : SameContexts c d) : SameContexts b d :=
  ⟨k.mem.trans h.mem, k.hws.trans h.hws, k.contexts.trans h.contexts, k.queues.trans h.queues, k.cmds.trans h.cmds⟩

theorem ctx (h : SameContexts b c) (i : Nat) : c.ctx i = b.ctx i := congrArg (fun t => tget ({} : Context) t i) h.contexts

theorem queue (h : SameContexts b c) (i : Nat) : c.queue i = b.queue i := congrArg (fun t => tget ({} : Queue) t i) h.queues

/-- A fold of steps that each keep the agreement keeps it. -/
theorem foldl {α : Type} {f : Block → α → Block} (hf : ∀ a x, SameContexts a (f a x)) (l : List α) (b : Block) :
    SameContexts b (l.foldl f b) := by
  induction l generalizing b with
  | nil => exact refl b
  | cons x t ih => exact (hf b x).trans (ih _)

theorem setLantern (b : Block) (l : Nat) (x : Lantern) : SameContexts b (b.setLantern l x) := ⟨rfl, rfl, rfl, rfl, rfl⟩

theorem setGroup (b : Block) (g : Nat) (x : Group) : SameContexts b (b.setGroup g x) := ⟨rfl, rfl, rfl, rfl, rfl⟩

theorem unbind (b : Block) (g : Nat) : SameContexts b (b.unbind g) := ⟨rfl, rfl, rfl, rfl, rfl⟩

/-- A watch that is registered changes its line only; one that is refused changes nothing (R260). -/
theorem watch (b : Block) (l ln : Nat) : SameContexts b ((b.watch l ln).getD b) := by
  unfold Block.watch
  split
  · exact refl b
  · exact ⟨rfl, rfl, rfl, rfl, rfl⟩

end SameContexts

/-! ### What the commands run -/

theorem exec_create (role : Role) (c : Nat) (s : State) : exec (.create role c) s = execCreate role c s := rfl
theorem exec_registerQueue (role : Role) (c d : Nat) (s : State) :
    exec (.registerQueue role c d) s = execRegisterQueue role c d s := rfl
theorem exec_unregisterQueue (role : Role) (q : Nat) (s : State) :
    exec (.unregisterQueue role q) s = execUnregisterQueue role q s := rfl
theorem exec_destroy (role : Role) (c : Nat) (s : State) : exec (.destroy role c) s = execDestroy role c s := rfl
theorem exec_destroyDone (c : Nat) (s : State) : exec (.destroyDone c) s = execDestroyDone c s := rfl

/-- A context after CREATE has loaded its entry (R99, R100). -/
def loadEntry (x : Context) (e : BitVec 1024) : Context :=
  { x with
    st := .active, offset := bit e 5, priority := fld e 6 2, xroot := fld e 64 64,
    lanterns := BitVec.ofNat 64 (fld e 128 64), ring := fld e 192 64, qStack := fld e 256 32, qBulk := fld e 288 32,
    qWindow := fld e 320 32, tail := 0, closed := 0, openCount := 0, heldRecs := [], destroyWaits := false,
    destroySeq := none }

section Admitted

variable {s : State} {role : Role} (ha : Admits s.blk role .operator 0x02) {c : Nat}
include ha

/-! ### CREATE -/

theorem create_outOfRange (hc : 256 ≤ c) : exec (.create role c) s = .next (s.withBlk (s.blk.refuse .outOfRange)) := by
  simp [exec_create, execCreate, ha.cmd, hc]

theorem create_destroying (hc : c < 256) (hs : (s.blk.ctx c).st = .destroying) :
    exec (.create role c) s = .next (s.withBlk (s.blk.refuse .busy)) := by
  rw [exec_create, execCreate, State.run_eq, ha.cmd]
  simp only [Nat.not_le.2 hc, hs, if_true, if_false]

/-- CREATE of a FREE context with an entry that passes its checks loads the entry and answers OK. -/
theorem create_free {ws : List Nat} {e : BitVec 1024} (hc : c < 256) (hs : (s.blk.ctx c).st = .free)
    (hr : s.blk.readWords 64 (s.blk.cfg 0x02000040 0 + 128 * c) 2 = .ok ws)
    (he : e = BitVec.ofNat 1024 (ws.getD 0 0 + ws.getD 1 0 * 2 ^ 512))
    (h8 : fld e 8 56 = 0) (h352 : fld e 352 672 = 0) (hl : fld e 0 4 = 1) (hv : bit e 4 = true) :
    exec (.create role c) s = .next (s.withBlk ((s.blk.setCtx c (loadEntry (s.blk.ctx c) e)).done objContext 0)) := by
  rw [exec_create, execCreate, State.run_eq, ha.cmd]
  simp only [Nat.not_le.2 hc, hs, hr, ← he, h8, h352, hl, hv, loadEntry]
  simp

/-! ### REGISTER_QUEUE -/

theorem registerQueue_destroying (hc : c < 256) (hs : (s.blk.ctx c).st = .destroying) (d : Nat) :
    exec (.registerQueue role c d) s = .next (s.withBlk (s.blk.refuse .busy)) := by
  simp [exec_registerQueue, execRegisterQueue, ha.cmd, Nat.not_le.2 hc, hs]

section Descriptor

variable {d v : Nat} {w : Line} (hc : c < 256) (hs : (s.blk.ctx c).st = .active) (hr : s.blk.readBytes d 64 = .ok v)
  (hw : w = BitVec.ofNat 512 v)
include hc hs hr hw

theorem registerQueue_reserved (hq : queueRsv w = true) :
    exec (.registerQueue role c d) s = .next (s.withBlk (s.blk.refuse .rsvNonzero)) := by
  simp [exec_registerQueue, execRegisterQueue, ha.cmd, Nat.not_le.2 hc, hs, hr, ← hw, hq]

theorem registerQueue_broken (hq : queueRsv w = false) (hk : s.blk.queueOk c w = false) :
    exec (.registerQueue role c d) s = .next (s.withBlk (s.blk.refuse .badQueue)) := by
  simp [exec_registerQueue, execRegisterQueue, ha.cmd, Nat.not_le.2 hc, hs, hr, ← hw, hq, hk]

/-- A right descriptor takes the lowest free queue number. Before that only the watchers' slots and the watch of the header line
are written. -/
theorem registerQueue_right {tail ln q : Nat} {b2 : Block} (hq : queueRsv w = false) (hk : s.blk.queueOk c w = true)
    (ht : s.blk.readAt (fld w 64 64) 4 = .ok tail) (hl : s.blk.lineAt (fld w 64 64) = some ln) (hf : s.blk.freeQueue = some q)
    (hslots : ∀ l ∈ setBits (BitVec.ofNat 64 (fld w 192 64) : W64) 64, (s.blk.lantern l).freeSlot ≠ none)
    (hwatch : s.blk.watch ((setBits (BitVec.ofNat 64 (fld w 192 64) : W64) 64).headD 0) ln = some b2) :
    ∃ b3, SameContexts s.blk b3 ∧ exec (.registerQueue role c d) s = .next (s.withBlk ((b3.setQueue q
      { live := true, ctx := c, log2 := fld w 16 5, header := fld w 64 64, ring := fld w 128 64,
        watchers := BitVec.ofNat 64 (fld w 192 64) }).done objContext q)) := by
  have hany : (setBits (BitVec.ofNat 64 (fld w 192 64) : W64) 64).any (fun l => (s.blk.lantern l).freeSlot.isNone) = false := by
    simpa using hslots
  rw [exec_registerQueue, execRegisterQueue, State.run_eq, ha.cmd]
  simp only [Nat.not_le.2 hc, hs, hr, ← hw, hq, hk, ht, hl, hf, hany, hwatch]
  exact ⟨_, SameContexts.foldl (fun a l => (SameContexts.watch a l ln).trans (SameContexts.setLantern _ l _)) _ _, rfl⟩

end Descriptor

/-! ### UNREGISTER_QUEUE and DESTROY -/

theorem unregisterQueue_live {q : Nat} (hq : q < 1024) (hl : (s.blk.queue q).live = true)
    (hs : (s.blk.ctx (s.blk.queue q).ctx).st = .active ∨ (s.blk.ctx (s.blk.queue q).ctx).st = .extinguished) :
    exec (.unregisterQueue role q) s = .next (s.withBlk ((s.blk.dropQueue q).done objContext 0)) := by
  rw [exec_unregisterQueue, execUnregisterQueue, State.run_eq, ha.cmd]
  rcases hs with hs | hs <;> simp [Nat.not_le.2 hq, hl, hs]

theorem destroy_outOfRange (hc : 256 ≤ c) : exec (.destroy role c) s = .next (s.withBlk (s.blk.refuse .outOfRange)) := by
  simp [exec_destroy, execDestroy, ha.cmd, hc]

theorem destroy_destroying (hc : c < 256) (hs : (s.blk.ctx c).st = .destroying) :
    exec (.destroy role c) s = .next (s.withBlk (s.blk.refuse .busy)) := by
  simp [exec_destroy, execDestroy, ha.cmd, Nat.not_le.2 hc, hs]

theorem destroy_free (hc : c < 256) (hs : (s.blk.ctx c).st = .free) :
    exec (.destroy role c) s = .next (s.withBlk (s.blk.refuse .badState)) := by
  simp [exec_destroy, execDestroy, ha.cmd, Nat.not_le.2 hc, hs]

theorem destroy_starts (hc : c < 256) (hs : (s.blk.ctx c).st = .active ∨ (s.blk.ctx c).st = .extinguished) :
    exec (.destroy role c) s = .next (s.withBlk (((s.blk.destroyCtx c).accept objContext).updCtx c
      (fun x => { x with destroyCmd := ((s.blk.destroyCtx c).accept objContext).cmds.count }))) := by
  rw [exec_destroy, execDestroy, State.run_eq, ha.cmd]
  rcases hs with hs | hs <;> simp [Nat.not_le.2 hc, hs]

end Admitted

/-! ### The rules of a queue descriptor -/

theorem queueRsv_eq_true {w : Line} (h : fld w 4 4 ≠ 0 ∨ fld w 21 43 ≠ 0 ∨ fld w 256 256 ≠ 0) : queueRsv w = true :=
  decide_eq_true h

theorem queueRsv_eq_false {w : Line} (h4 : fld w 4 4 = 0) (h21 : fld w 21 43 = 0) (h256 : fld w 256 256 = 0) :
    queueRsv w = false := by
  simp [queueRsv, h4, h21, h256]

/-- A descriptor that breaks one of the rules on its fields is not right (R104). -/
theorem queueOk_eq_false {b : Block} {c : Nat} {w : Line}
    (h : fld w 0 4 ≠ 1 ∨ fld w 8 8 ≠ c ∨ fld w 16 5 < 4 ∨ 16 < fld w 16 5 ∨ fld w 64 64 % 64 ≠ 0 ∨ fld w 128 64 % 4096 ≠ 0 ∨
      fld w 192 64 = 0 ∨ (BitVec.ofNat 64 (fld w 192 64) : W64) &&& ~~~(b.ctx c).lanterns ≠ 0) : b.queueOk c w = false := by
  refine Bool.eq_false_iff.2 fun hok => ?_
  simp only [Block.queueOk, Bool.and_eq_true, decide_eq_true_eq] at hok
  obtain ⟨⟨⟨hlevel, hctx, hmin, hmax, hheader, hring, hsome, hmask⟩, -⟩, -⟩ := hok
  rcases h with h | h | h | h | h | h | h | h
  · exact h hlevel
  · exact h hctx
  · omega
  · omega
  · exact h hheader
  · exact h hring
  · exact hsome (congrArg (BitVec.ofNat 64) h)
  · exact h hmask

/-! ### DESTROY_DONE -/

theorem destroyDone_waits {s : State} {c : Nat} (h : s.blk.destroyReady c = false) : exec (.destroyDone c) s = .next s := by
  simp [exec_destroyDone, execDestroyDone, h]

/-- DESTROY_DONE of a context that is ready: its groups are released, which touches no context and no queue, its requests go, and the
context is FREE (R100, R149). -/
theorem destroyDone_frees {s : State} {c : Nat} (h : s.blk.destroyReady c = true) :
    ∃ b1, SameContexts s.blk b1 ∧ exec (.destroyDone c) s = .next (s.withBlk
      ((({ b1 with requests := b1.requests.filter (fun (e : Nat × Request) => e.2.ctx != c) } : Block).updCtx c
        (fun x => { x with st := .free, destroySeq := none })).finishSts objContext (s.blk.ctx c).destroyCmd .ok)) := by
  rw [exec_destroyDone, execDestroyDone, State.run_eq]
  simp only [h, Bool.not_true, Bool.false_eq_true, if_false]
  refine ⟨_, SameContexts.foldl (fun a g => ?_) _ _, rfl⟩
  split
  · exact (SameContexts.unbind a g).trans (SameContexts.setGroup _ g _)
  · exact SameContexts.refl a

/-! ### The obligation -/

/-- After DESTROY_DONE the context is FREE without requests; the other contexts, the queues, the programs and memory stay. -/
theorem destroyDone_completes {s : State} {c : Nat} (h : s.blk.destroyReady c = true) :
    Completes (.destroyDone c) s (fun t => (t.blk.ctx c).st = .free ∧ (∀ e ∈ t.blk.requests, e.2.ctx ≠ c) ∧
      t.blk.mem = s.blk.mem ∧ t.blk.hws = s.blk.hws ∧ t.blk.queues = s.blk.queues ∧
      ∀ i, i ≠ c → t.blk.ctx i = s.blk.ctx i) := by
  obtain ⟨b1, hsame, hx⟩ := destroyDone_frees h
  refine .of_exec hx ⟨by simp, by simp, by simp [hsame.mem], by simp [hsame.hws], by simp [hsame.queues], fun i hi => ?_⟩
  simp only [Block.finishSts_frame, Block.updCtx_eq, Block.setCtx_ctx_ne _ _ _ _ hi]
  exact hsame.ctx i

/-- Settles O22: each command's cases by its own lemma; where the effect is stated field by field, from the frame of its updates. -/
theorem contextCommands : Obligations.ContextCommands := by
  unfold Obligations.ContextCommands
  intro s role ha b
  refine ⟨fun c hc => ⟨create_outOfRange ha hc, destroy_outOfRange ha hc⟩,
    fun c hc hs => ⟨create_destroying ha hc hs, destroy_destroying ha hc hs, registerQueue_destroying ha hc hs⟩,
    fun c hc hs => destroy_free ha hc hs, ?_, ?_, ?_, fun q hq hl hs => unregisterQueue_live ha hq hl hs,
    fun c hc hs => destroy_starts ha hc hs, fun c h => destroyDone_completes h, fun c h => destroyDone_waits h⟩
  case refine_1 =>
    intro c ws hc hs hr e h8 h352 hl hv
    refine .of_exec (create_free ha hc hs hr rfl h8 h352 hl hv) ?_
    have hctx (x : Context) : ((b.setCtx c x).done objContext 0).ctx c = x := Block.setCtx_ctx b c x
    simp only [b, hctx]
    exact ⟨rfl, rfl, rfl, rfl, rfl, rfl, rfl, rfl, rfl, rfl, rfl, fun i hi => Block.setCtx_ctx_ne b c i _ hi, rfl, rfl, rfl⟩
  case refine_2 =>
    intro c d v hc hs hr w
    exact ⟨fun h => registerQueue_reserved ha hc hs hr rfl (queueRsv_eq_true h), fun h4 h21 h256 h =>
      registerQueue_broken ha hc hs hr rfl (queueRsv_eq_false h4 h21 h256) (queueOk_eq_false h)⟩
  case refine_3 =>
    intro c d v tail ln q b2 hc hs hr w ws hq hk ht hl hf hslots hwatch
    obtain ⟨b3, hsame, hx⟩ := registerQueue_right ha hc hs hr rfl hq hk ht hl hf hslots hwatch
    refine .of_exec hx ⟨Block.setQueue_queue b3 q _, ?_, hsame.mem, hsame.hws, hsame.contexts, fun i hi => ?_⟩
    · rw [done_reply, ← hsame.cmds]
      rfl
    · exact (Block.setQueue_queue_ne b3 q i _ hi).trans (hsame.queue i)

end Sys2Proof

/-! PROOFS. Chain links and the part number (R2, R32, R33, R34, R438): what replays, retraining, the outcome of training and lane
failures of the sideband make of a link, and what a write of the part number answers. -/

namespace Sys2Proof

open Sys2Proof.Machine

/-! ### What the commands run -/

theorem exec_partNumberWrite (role : Role) (p : Option Part) (s : State) :
    exec (.partNumberWrite role p) s = execPartNumberWrite role p s := rfl
theorem exec_flitReplay (i dir : Nat) (ok : Bool) (s : State) : exec (.flitReplay i dir ok) s = execFlitReplay i dir ok s := rfl
theorem exec_retrain (i : Nat) (laneErrors : Bool) (s : State) : exec (.retrain i laneErrors) s = execRetrain i laneErrors s := rfl
theorem exec_linkTrainingDone (i : Nat) (out : LinkTrain) (s : State) :
    exec (.linkTrainingDone i out) s = execLinkTrainingDone i out s := rfl
theorem exec_sidebandLaneFail (i dir : Nat) (s : State) : exec (.sidebandLaneFail i dir) s = execSidebandLaneFail i dir s := rfl
theorem exec_linkRetrain (role : Role) (i : Nat) (s : State) : exec (.linkRetrain role i) s = execLinkRetrain role i s := rfl

/-! ### Holding a link -/

/-- Noting the lit declarations that have returned writes groups only (R152). -/
theorem noteLit_links (b : Block) : b.noteLit.links = b.links := by
  unfold Block.noteLit
  refine List.foldlRecOn (motive := fun c : Block => c.links = b.links) _ _ rfl fun c hc g _ => ?_
  dsimp only
  split
  · refine List.foldlRecOn (motive := fun d : Block => d.links = b.links) _ _ hc fun d hd m _ => ?_
    split
    · exact hd
    · exact hd
  · exact hc

theorem noteLit_link (b : Block) (i : Nat) : b.noteLit.link i = b.link i :=
  congrArg (fun t => tget ({} : Link) t i) (noteLit_links b)

theorem holdLink_eq (b : Block) (i : Nat) :
    b.holdLink i = b.noteLit.setLink i { b.link i with held := true, retrains := (b.link i).retrains + 1 } := by
  rw [Block.holdLink, Block.updLink_eq, noteLit_link]

/-! ### Replay, retraining and the sideband -/

section Link

variable {s : State} {i : Nat} (hi : i < 12)
include hi

theorem flitReplay_zero (ok : Bool) (hh : (s.blk.link i).held = false) (hd : (s.blk.link i).st ≠ .down) :
    exec (.flitReplay i 0 ok) s = .next (s.withBlk (s.blk.setLink i { s.blk.link i with
      replays := (s.blk.link i).replays + 1, fails0 := if ok then 0 else min 16 ((s.blk.link i).fails0 + 1), pending0 := !ok })) := by
  simp [exec_flitReplay, execFlitReplay, Nat.not_le.2 hi, hh, hd]

theorem flitReplay_one (ok : Bool) (hh : (s.blk.link i).held = false) (hd : (s.blk.link i).st ≠ .down) :
    exec (.flitReplay i 1 ok) s = .next (s.withBlk (s.blk.setLink i { s.blk.link i with
      replays := (s.blk.link i).replays + 1, fails1 := if ok then 0 else min 16 ((s.blk.link i).fails1 + 1), pending1 := !ok })) := by
  simp [exec_flitReplay, execFlitReplay, Nat.not_le.2 hi, hh, hd]

theorem retrain_holds {laneErrors : Bool} (hh : (s.blk.link i).held = false) (hd : (s.blk.link i).st ≠ .down)
    (hc : laneErrors = true ∨ 16 ≤ (s.blk.link i).fails0 ∨ 16 ≤ (s.blk.link i).fails1) :
    exec (.retrain i laneErrors) s = .next (s.withBlk (s.blk.holdLink i)) := by
  rw [exec_retrain, execRetrain, State.run_eq]
  simp only [Nat.not_le.2 hi, hh, hd, hc, Bool.false_eq_true, not_true_eq_false, or_self, if_false]

theorem linkRetrain_holds {role : Role} (ha : Admits s.blk role .service 0x40) (hh : (s.blk.link i).held = false)
    (hd : (s.blk.link i).st ≠ .down) :
    exec (.linkRetrain role i) s = .next (s.withBlk ((s.blk.holdLink i).done 0x40000042 0)) := by
  simp [exec_linkRetrain, execLinkRetrain, ha.cmd, Nat.not_le.2 hi, hh, hd]

theorem linkRetrain_held {role : Role} (ha : Admits s.blk role .service 0x40) (hh : (s.blk.link i).held = true) :
    exec (.linkRetrain role i) s = .next (s.withBlk (s.blk.refuse .busy)) := by
  simp [exec_linkRetrain, execLinkRetrain, ha.cmd, Nat.not_le.2 hi, hh]

section Sideband

variable (hs : (s.blk.link i).sbDown = false)
include hs

theorem sidebandLaneFail_spare0 (hf : (s.blk.link i).sbSpare0 = false) :
    exec (.sidebandLaneFail i 0) s = .next (s.withBlk (s.blk.setLink i { s.blk.link i with sbSpare0 := true })) := by
  simp [exec_sidebandLaneFail, execSidebandLaneFail, Nat.not_le.2 hi, hs, hf]

theorem sidebandLaneFail_spare1 (hf : (s.blk.link i).sbSpare1 = false) :
    exec (.sidebandLaneFail i 1) s = .next (s.withBlk (s.blk.setLink i { s.blk.link i with sbSpare1 := true })) := by
  simp [exec_sidebandLaneFail, execSidebandLaneFail, Nat.not_le.2 hi, hs, hf]

theorem sidebandLaneFail_noSpare0 (hf : (s.blk.link i).sbSpare0 = true) :
    exec (.sidebandLaneFail i 0) s = .next (s.withBlk
      (((s.blk.setLink i { s.blk.link i with sbDown := true }).raise (unitLink i) .flashPathDown [i]).tearGroups i)) := by
  simp [exec_sidebandLaneFail, execSidebandLaneFail, Block.sidebandDown, Nat.not_le.2 hi, hs, hf]

end Sideband

end Link

/-! ### Alert causes -/

theorem setAlert_alert (b : Block) {i : Nat} (hi : i < 32) : (b.setAlert i).alert i = true := by
  unfold Block.alert Block.setAlert
  rw [BitVec.getLsbD_or, BitVec.getLsbD_ofNat, Nat.testBit_two_pow_self]
  simp [hi]

/-- Setting a cause leaves the causes that stand. -/
theorem setAlert_alert_of_alert {b : Block} {j : Nat} (h : b.alert j = true) (i : Nat) : (b.setAlert i).alert j = true := by
  unfold Block.alert at h
  simp [Block.setAlert, Block.alert, h]

theorem suspect_link (b : Block) (cause : Ev) (args : List Nat) (i : Nat) : (b.suspect cause args).link i = b.link i := by
  unfold Block.suspect
  dsimp only
  split
  · simp only [Block.wire_frame, Block.setAlert_frame, Block.raise_frame]
    rfl
  · rfl

/-- Of the alert causes a suspicion sets at most that of MODULE_SUSPECT (R424). -/
theorem suspect_tray (b : Block) (cause : Ev) (args : List Nat) :
    (b.suspect cause args).tray = b.tray ∨ (b.suspect cause args).tray = (b.setAlert 13).tray := by
  unfold Block.suspect
  dsimp only
  split
  · exact .inr (by simp [Block.setAlert])
  · exact .inl rfl

theorem suspect_alert_of_alert {b : Block} {j : Nat} (h : b.alert j = true) (cause : Ev) (args : List Nat) :
    (b.suspect cause args).alert j = true := by
  unfold Block.alert
  rcases suspect_tray b cause args with ht | ht <;> rw [ht]
  · exact h
  · exact setAlert_alert_of_alert h 13

/-- The event that is raised, and the events after it, depend on the events before and on the start's count (R370). -/
theorem raise_events_congr {b c : Block} (he : c.events = b.events) (hs : c.start = b.start) (u : Nat) (e : Ev) (args : List Nat) :
    (c.raise u e args).events = (b.raise u e args).events := by
  simp only [Block.raise, Block.raiseRec, he, hs]
  split <;> rfl

/-! ### The outcome of training -/

/-- A link whose training has ended with a state and spared lanes: no longer held, nothing of the retry buffers pending (R32). -/
def trained (x : Link) (st : LinkSt) (spared0 spared1 : Nat) : Link :=
  { x with
    st := st, spared0 := spared0, spared1 := spared1, held := false, fails0 := 0, fails1 := 0, pending0 := false, pending1 := false }

/-- The alert cause of a link that is DOWN goes once no link is DOWN (R34). -/
def clearDownAlert (b : Block) : Block :=
  if (List.range 12).all (fun j => (b.link j).st != .down) then b.clearAlert 8 else b

/-- Clearing the cause touches the alert causes only. -/
theorem clearDownAlert_eq (b : Block) : clearDownAlert b = { b with tray := (clearDownAlert b).tray } := by
  unfold clearDownAlert
  split <;> rfl

theorem clearDownAlert_link (b : Block) (j : Nat) : (clearDownAlert b).link j = b.link j := by
  rw [clearDownAlert_eq]
  rfl

theorem clearDownAlert_events (b : Block) : (clearDownAlert b).events = b.events := by
  rw [clearDownAlert_eq]

/-- While a link is DOWN the causes stay. -/
theorem clearDownAlert_of_down {b : Block} {i : Nat} (hi : i < 12) (h : (b.link i).st = .down) : clearDownAlert b = b := by
  refine if_neg fun hall => ?_
  have hne := List.all_eq_true.1 hall i (List.mem_range.2 hi)
  simp [h] at hne

section Training

variable (b : Block) (i : Nat) {out : LinkTrain} (hsb : out.sbOk = true)
include hsb

/-- Training with at most eight failed lanes in each direction: UP, and more spares than before are a repair (R28, R34). -/
theorem trainLink_full (h0 : out.failed0 ≤ 8) (h1 : out.failed1 ≤ 8) :
    b.trainLink i out = clearDownAlert
      (if (b.link i).spared0 < out.failed0 ∨ (b.link i).spared1 < out.failed1
        then (b.setLink i (trained (b.link i) .up out.failed0 out.failed1)).noteRepair
        else b.setLink i (trained (b.link i) .up out.failed0 out.failed1)) := by
  simp [Block.trainLink, clearDownAlert, trained, hsb, h0, h1]

/-- Training that leaves half width (R33, R34). -/
theorem trainLink_half (h : 8 < out.failed0 ∨ 8 < out.failed1) (hh : out.halfOk = true) :
    b.trainLink i out = clearDownAlert
      (if (b.link i).st ≠ .half
        then (b.setLink i (trained (b.link i) .half (b.link i).spared0 (b.link i).spared1)).raise (unitLink i) .linkHalf [i]
        else b.setLink i (trained (b.link i) .half (b.link i).spared0 (b.link i).spared1)) := by
  have hfull : ¬ (out.failed0 ≤ 8 ∧ out.failed1 ≤ 8) := by omega
  simp [Block.trainLink, clearDownAlert, trained, hsb, hfull, hh]

/-- Training that fails takes the link DOWN (R34). -/
theorem trainLink_down (h : 8 < out.failed0 ∨ 8 < out.failed1) (hh : out.halfOk = false) :
    b.trainLink i out = clearDownAlert
      (if (b.link i).st ≠ .down
        then ((b.setLink i (trained (b.link i) .down (b.link i).spared0 (b.link i).spared1)).raise (unitLink i) .linkDown [i]).setAlert 8
        else b.setLink i (trained (b.link i) .down (b.link i).spared0 (b.link i).spared1)) := by
  have hfull : ¬ (out.failed0 ≤ 8 ∧ out.failed1 ≤ 8) := by omega
  simp [Block.trainLink, clearDownAlert, trained, hsb, hfull, hh]

/-- The link is DOWN then, and where it was not before, its alert cause stands (R34). -/
theorem trainLink_down_link (hi : i < 12) (h : 8 < out.failed0 ∨ 8 < out.failed1) (hh : out.halfOk = false) :
    (b.trainLink i out).link i = trained (b.link i) .down (b.link i).spared0 (b.link i).spared1 ∧
      ((b.link i).st ≠ .down → (b.trainLink i out).alert 8 = true) := by
  rw [trainLink_down b i hsb h hh]
  split
  case isTrue =>
    rw [clearDownAlert_of_down hi (by simp [trained])]
    exact ⟨by simp, fun _ => setAlert_alert _ (by decide)⟩
  case isFalse hdown =>
    rw [clearDownAlert_of_down hi (by simp [trained])]
    exact ⟨by simp, fun hnew => absurd hnew hdown⟩

/-- All that such training changes: the link, and the repair map and the alert causes with what records them. The repair map gets a
new number exactly where a direction has more spares than before (R28). -/
theorem trainLink_full_shape (h0 : out.failed0 ≤ 8) (h1 : out.failed1 ≤ 8) :
    ∃ tr sto sec, b.trainLink i out =
        { b.setLink i (trained (b.link i) .up out.failed0 out.failed1) with tray := tr, store := sto, security := sec } ∧
      (b.store.mapSeq < sto.mapSeq ↔ ((b.link i).spared0 < out.failed0 ∨ (b.link i).spared1 < out.failed1)) := by
  rw [trainLink_full b i hsb h0 h1]
  split
  case isTrue hmore => exact ⟨_, _, _, clearDownAlert_eq _, iff_of_true (Nat.lt_succ_self _) hmore⟩
  case isFalse hless => exact ⟨_, _, _, clearDownAlert_eq _, iff_of_false (Nat.lt_irrefl _) hless⟩

end Training

/-- A link that has newly gone DOWN and leaves the tiles parted drives the module to DRAINING (R34). -/
def drainIfParted (b : Block) (i : Nat) (before : LinkSt) : Block :=
  if (b.link i).st = .down ∧ before ≠ .down ∧ b.partitioned then
    ((b.raise unitModule .linkPartition [i]).setAlert 9).suspect .linkPartition [i]
  else b

theorem drainIfParted_of_not_down {b : Block} {i : Nat} (h : (b.link i).st ≠ .down) (before : LinkSt) :
    drainIfParted b i before = b := if_neg fun hc => h hc.1

theorem drainIfParted_link (b : Block) (i : Nat) (before : LinkSt) (j : Nat) : (drainIfParted b i before).link j = b.link j := by
  unfold drainIfParted
  split
  · simp [suspect_link]
  · rfl

theorem drainIfParted_alert_of_alert {b : Block} {j : Nat} (h : b.alert j = true) (i : Nat) (before : LinkSt) :
    (drainIfParted b i before).alert j = true := by
  unfold drainIfParted
  split
  · refine suspect_alert_of_alert (setAlert_alert_of_alert ?_ 9) _ _
    simpa [Block.alert] using h
  · exact h

section TrainingDone

variable {s : State} {i : Nat} {out : LinkTrain}

/-- LINK_TRAINING_DONE of a link that trains, with no flash waiting: its outcome is put in force, then the partition is judged. -/
theorem linkTrainingDone_runs (hi : i < 12) (hh : (s.blk.link i).held = true) (hw : (s.blk.link i).waiting = []) :
    exec (.linkTrainingDone i out) s = .next (s.withBlk
      (drainIfParted ((s.blk.trainLink i out).updLink i (fun y => { y with waiting := [] })) i (s.blk.link i).st)) := by
  simp [exec_linkTrainingDone, execLinkTrainingDone, drainIfParted, Nat.not_le.2 hi, hh, hw]

variable (hi : i < 12) (hh : (s.blk.link i).held = true) (hsb : out.sbOk = true) (hw : (s.blk.link i).waiting = [])
include hi hh hsb hw

theorem linkTrainingDone_full (h0 : out.failed0 ≤ 8) (h1 : out.failed1 ≤ 8) :
    Completes (.linkTrainingDone i out) s (fun t =>
      t.blk.link i = trained (s.blk.link i) .up out.failed0 out.failed1 ∧
      (s.blk.store.mapSeq < t.blk.store.mapSeq ↔
        ((s.blk.link i).spared0 < out.failed0 ∨ (s.blk.link i).spared1 < out.failed1)) ∧
      (∀ j, j ≠ i → t.blk.link j = s.blk.link j) ∧ t.blk.mem = s.blk.mem ∧ t.blk.lines = s.blk.lines ∧
      t.blk.hws = s.blk.hws ∧ t.blk.events = s.blk.events) := by
  refine .of_exec (linkTrainingDone_runs hi hh hw) ?_
  obtain ⟨tr, sto, sec, ht, hseq⟩ := trainLink_full_shape s.blk i hsb h0 h1
  have hlink : (s.blk.trainLink i out).link i = trained (s.blk.link i) .up out.failed0 out.failed1 := by
    rw [ht]
    exact Block.setLink_link s.blk i _
  rw [Block.updLink_eq, hlink, drainIfParted_of_not_down (by simp [trained])]
  refine ⟨by simp [trained, hw], ?_, fun j hj => ?_, ?_, ?_, ?_, ?_⟩
  · rw [ht]
    exact hseq
  · rw [Block.setLink_link_ne _ _ _ _ hj, ht]
    exact Block.setLink_link_ne _ _ _ _ hj
  all_goals
    rw [ht]
    rfl

theorem linkTrainingDone_half (h : 8 < out.failed0 ∨ 8 < out.failed1) (hhalf : out.halfOk = true) :
    Completes (.linkTrainingDone i out) s (fun t => (t.blk.link i).st = .half ∧ (t.blk.link i).held = false ∧
      ((s.blk.link i).st ≠ .half → t.blk.events = (s.blk.raise (unitLink i) .linkHalf [i]).events)) := by
  refine .of_exec (linkTrainingDone_runs hi hh hw) ?_
  have hlink : (s.blk.trainLink i out).link i = trained (s.blk.link i) .half (s.blk.link i).spared0 (s.blk.link i).spared1 := by
    rw [trainLink_half s.blk i hsb h hhalf, clearDownAlert_link]
    split <;> simp
  rw [Block.updLink_eq, hlink, drainIfParted_of_not_down (by simp [trained])]
  refine ⟨by simp [trained], by simp [trained], fun hnew => ?_⟩
  simp only [Block.setLink_frame]
  rw [trainLink_half s.blk i hsb h hhalf, clearDownAlert_events, if_pos hnew]
  exact raise_events_congr (by simp) (by simp) _ _ _

theorem linkTrainingDone_down (h : 8 < out.failed0 ∨ 8 < out.failed1) (hhalf : out.halfOk = false) :
    Completes (.linkTrainingDone i out) s (fun t => (t.blk.link i).st = .down ∧
      ((s.blk.link i).st ≠ .down → t.blk.alert 8 = true)) := by
  refine .of_exec (linkTrainingDone_runs hi hh hw) ?_
  obtain ⟨hlink, halert⟩ := trainLink_down_link s.blk i hsb hi h hhalf
  rw [Block.updLink_eq, hlink]
  refine ⟨?_, fun hnew => drainIfParted_alert_of_alert ?_ _ _⟩
  · rw [drainIfParted_link, Block.setLink_link]
    rfl
  · simpa [Block.alert] using halert hnew

end TrainingDone

/-! ### The part number -/

/-- A value just put into a table is found there. -/
theorem tfind_tput_same {α : Type} (t : Tab α) (k : Nat) (v : α) : tfind (tput t k v) k = some v := by
  induction t with
  | nil => simp [tput, tfind]
  | cons e t ih =>
    obtain ⟨j, w⟩ := e
    unfold tput
    split
    · simp [tfind]
    · split
      · simp [tfind]
      · simp [tfind, *]

/-- Fewer than two guest sites fitted do not match a G module; any fitted one does not match another (R2). -/
theorem writePart_strapsDiffer {b : Block} {p : Part}
    (h : (p = .g4t ∧ b.tray.guestFitted.length < 2) ∨ (p ≠ .g4t ∧ b.tray.guestFitted ≠ [])) :
    b.writePart (some p) = b.refuse .badState := if_pos (by simpa using h)

theorem writePart_matches {b : Block} {p : Part} (hg : p = .g4t → 2 ≤ b.tray.guestFitted.length)
    (ha : p ≠ .g4t → b.tray.guestFitted = []) :
    b.writePart (some p) = b.persistWrite 0x01000001 (partValue p) false id := by
  refine if_neg ?_
  by_cases hp : p = .g4t
  · simp [hp, Nat.not_lt.2 (hg hp)]
  · simp [hp, ha hp]

section PartNumber

variable {s : State}

/-- Only the vendor role writes the part number (R2). -/
theorem partNumberWrite_denied {role : Role} (hr : role ≠ .vendor) (p : Option Part) :
    exec (.partNumberWrite role p) s = .next (s.withBlk (s.blk.refuse .denied)) := by
  have hlow : roleRank role < roleRank .vendor := by
    cases role
    case vendor => exact absurd rfl hr
    all_goals decide
  simp [exec_partNumberWrite, execPartNumberWrite, Block.cmd, Block.gate, hlow]

variable (hl : s.blk.start.level ≠ .dark)
include hl

/-- The vendor's write is let in from TENDED on, whether the rails are on or not (R350). -/
theorem partNumberWrite_vendor (p : Option Part) :
    exec (.partNumberWrite .vendor p) s = .next (s.withBlk (s.blk.writePart p)) := by
  have hadm : Admits s.blk .vendor .vendor 0x01 := by simp [Admits, Block.gate, hl]
  rw [exec_partNumberWrite, execPartNumberWrite, State.run_eq, hadm.cmd]

theorem partNumberWrite_unknown : exec (.partNumberWrite .vendor none) s = .next (s.withBlk (s.blk.refuse .outOfRange)) :=
  partNumberWrite_vendor hl none

theorem partNumberWrite_strapsDiffer {p : Part}
    (h : (p = .g4t ∧ s.blk.tray.guestFitted.length < 2) ∨ (p ≠ .g4t ∧ s.blk.tray.guestFitted ≠ [])) :
    exec (.partNumberWrite .vendor (some p)) s = .next (s.withBlk (s.blk.refuse .badState)) := by
  rw [partNumberWrite_vendor hl, writePart_strapsDiffer h]

/-- A part number that matches the straps is persisted; it is in force from the next start (R2, R366). -/
theorem partNumberWrite_matches {p : Part} (hg : p = .g4t → 2 ≤ s.blk.tray.guestFitted.length)
    (ha : p ≠ .g4t → s.blk.tray.guestFitted = []) (hf : s.blk.tray.sf0Failed = false) :
    Completes (.partNumberWrite .vendor (some p)) s (fun t =>
      tfind t.blk.store.persist 0x01000001 = some (partValue p) ∧ t.blk.store.inForce = s.blk.store.inForce ∧
      t.blk.tray = s.blk.tray ∧ t.blk.cmds.reply.status = .ok ∧ t.blk.mem = s.blk.mem) := by
  refine .of_exec (partNumberWrite_vendor hl _) ?_
  rw [writePart_matches hg ha]
  simp [Block.persistWrite, Block.persistValue, hf, tfind_tput_same]

end PartNumber

/-! ### The obligation -/

/-- Settles O4: each command's cases by its own lemma; the outcome of training by what it puts in force. -/
theorem linksAndPartNumber : Obligations.LinksAndPartNumber := by
  unfold Obligations.LinksAndPartNumber
  refine ⟨fun s i hi => ?_, fun s role hl => ?_⟩
  case refine_1 =>
    intro x put
    refine ⟨fun ok hh hd => ⟨flitReplay_zero hi ok hh hd, flitReplay_one hi ok hh hd⟩, fun e hh hd hc => ?_,
      fun role ha hh hd => ?_, fun role ha hh => linkRetrain_held hi ha hh,
      fun out hh h0 h1 hsb hw => linkTrainingDone_full hi hh hsb hw h0 h1,
      fun out hh h hhalf hsb hw => linkTrainingDone_half hi hh hsb hw h hhalf,
      fun out hh h hhalf hsb hw => linkTrainingDone_down hi hh hsb hw h hhalf,
      fun hs hf => sidebandLaneFail_spare0 hi hs hf, fun hs hf => sidebandLaneFail_spare1 hi hs hf,
      fun hs hf => sidebandLaneFail_noSpare0 hi hs hf⟩
    · rw [retrain_holds hi hh hd hc, holdLink_eq]
    · rw [linkRetrain_holds hi ha hh hd, holdLink_eq]
  case refine_2 =>
    exact ⟨fun hr p => partNumberWrite_denied hr p, partNumberWrite_unknown hl,
      fun hne p hp => partNumberWrite_strapsDiffer hl (.inr ⟨hp, hne⟩),
      fun hlt => partNumberWrite_strapsDiffer hl (.inl ⟨rfl, hlt⟩),
      fun p hg ha hf => partNumberWrite_matches hl hg ha hf⟩

end Sys2Proof

/-! PROOFS. What the lamp instructions share (R116 to R122): the issue of an instruction whose checks pass, the updates of a
hardware context and of the lane-file halves, and the start of a transfer. -/

namespace Sys2Proof

open Sys2Proof.Machine

/-! ### An instruction whose checks pass -/

/-- An instruction that is fetched, with no illegal sub-code and no reserved field set, runs its body (R119). -/
theorem Fetches.run_body {s : State} {l h op : Nat} {w : W64} {b1 : Block} (hf : Fetches s.blk l h b1 w) (ho : fld w 0 8 = op)
    {illegal rsv : Bool} (hi : illegal = false) (hr : rsv = false) (body : Block → Block) :
    s.run (fun b => b.issue l h w op illegal rsv body) = .next (s.withBlk (body b1)) := by
  simp [hf.issue ho, hi, hr]

theorem need_eq_none {ok : Bool} {code : Nat} : need ok code = none ↔ ok = true := by
  cases ok <;> simp [need, excErr]

theorem firstErr_eq_none {cs : List Chk} : firstErr cs = none ↔ ∀ c ∈ cs, c = none := by
  induction cs with
  | nil => simp [firstErr]
  | cons c cs ih =>
    cases c with
    | none => simpa [firstErr] using ih
    | some e => simp [firstErr]

theorem checked_passes {cs : List Chk} (h : firstErr cs = none) (b : Block) (k : Nat) (go : Block → Block) :
    b.checked k cs go = go b := by
  simp [Block.checked, h]

/-- Whether a hardware context may use a tile descriptor: it is not poisoned and passes check 4 of R119. -/
def SoundTile (x : Hw) (i : Nat) : Prop := x.tPoison.contains i = false ∧ tdLevelErr (x.tile i) = none

theorem useTiles_sound {b : Block} {k : Nat} {ts : List Nat} (h : ∀ i ∈ ts, SoundTile (b.hw k) i) (go : Block → Block) :
    b.useTiles k ts go = go b := by
  have hclean : ts.any (fun i => (b.hw k).tPoison.contains i) = false :=
    List.any_eq_false.2 fun i hi => Bool.eq_false_iff.1 (h i hi).1
  have hlevel : firstErr (ts.map fun i => tdLevelErr ((b.hw k).tile i)) = none := by
    refine firstErr_eq_none.2 fun c hc => ?_
    obtain ⟨i, hi, rfl⟩ := List.mem_map.1 hc
    exact (h i hi).2
  simp only [Block.useTiles, hclean, Bool.false_eq_true, if_false, checked_passes hlevel]

theorem soundPair {x : Hw} {i j : Nat} (hi : SoundTile x i) (hj : SoundTile x j) : ∀ n ∈ [i, j], SoundTile x n := by
  simpa using ⟨hi, hj⟩

theorem soundOne {x : Hw} {i : Nat} (hi : SoundTile x i) : ∀ n ∈ [i], SoundTile x n := by
  simpa using hi

/-! ### Updates of a hardware context -/

/-- The second of two values put under one key is the one that stays. -/
theorem tput_tput_same {α : Type} (t : Tab α) (k : Nat) (v u : α) : tput (tput t k v) k u = tput t k u := by
  induction t with
  | nil => simp [tput]
  | cons e t ih =>
    obtain ⟨j, a⟩ := e
    by_cases hlt : k < j
    · simp [tput, hlt]
    · by_cases heq : j = k
      · simp [tput, heq]
      · simp [tput, hlt, heq, ih]

@[simp] theorem setHw_setHw (b : Block) (k : Nat) (v u : Hw) : (b.setHw k v).setHw k u = b.setHw k u :=
  congrArg (fun t => { b with hws := t }) (tput_tput_same b.hws k v u)

/-- A hardware context at its next instruction (R116). -/
def Machine.Hw.next (x : Hw) : Hw := { x with pc := x.pc + 8, tries := 0, waiting := false, lateKind := 0 }

@[simp] theorem next_pc (x : Hw) : x.next.pc = x.pc + 8 := rfl

theorem advance_eq (b : Block) (k : Nat) : b.advance k = b.setHw k (b.hw k).next := rfl

theorem setHw_advance (b : Block) (k : Nat) (v : Hw) : (b.setHw k v).advance k = b.setHw k v.next := by
  rw [advance_eq, Block.setHw_hw, setHw_setHw]

/-- Scoreboard entries of a lens tile (R122). -/
def tileEntries (id : Nat) (d : Line) (writes : Bool) : List (Nat × Nat × Nat × Bool) :=
  (id, tdBase d / 64, (tdBase d + tdSpan d - 1) / 64, writes) ::
    (if tdMx d then [(id, tdXbase d / 64, (tdXbase d + tdXspan d - 1) / 64, writes)] else [])

theorem boardTile_eq (b : Block) (k id : Nat) (d : Line) (writes : Bool) :
    b.boardTile k id d writes = b.setHw k { b.hw k with board := (b.hw k).board ++ tileEntries id d writes } := by
  unfold Block.boardTile tileEntries
  split
  · simp [Block.boardPut]
  · simp [Block.boardPut]

/-! ### The start of a transfer (R122, R129) -/

/-- The hardware context that starts a transfer: its tally rises by one and the program goes on. -/
def Machine.Hw.starting (x : Hw) (tally : Nat) : Hw :=
  ({ x with tallies := tput x.tallies tally (x.tally tally + 1) } : Hw).next

@[simp] theorem starting_pc (x : Hw) (i : Nat) : (x.starting i).pc = x.pc + 8 := rfl

theorem starting_tally (x : Hw) (i : Nat) : (x.starting i).tally i = x.tally i + 1 := tget_tput_same _ _ _ _

/-- A transfer as it stands in flight. -/
def Machine.Xfer.inFlight (x : Xfer) (b : Block) (k tally : Nat) : Xfer :=
  { x with id := b.nextId, lantern := k / 4, hw := k % 4, req := (b.hw k).req, tally := some tally }

section StartXfer

variable (b : Block) (k tally : Nat) (mem : Bool) (x : Xfer)

/-- All that the start of a transfer changes: its hardware context, the chart's references where it is translated, what is in flight
and the next number. -/
theorem startXfer_eq : b.startXfer k tally mem x =
    { b.setHw k ((b.hw k).starting tally) with
      charts := if mem then (b.addRef (k / 4) b.nextId).charts else b.charts
      xfers := b.xfers ++ [x.inFlight b k tally]
      nextId := b.nextId + 1 } := by
  have hput : (b.tallyUp k tally).advance k = b.setHw k ((b.hw k).starting tally) := by
    exact setHw_advance b k _
  cases mem
  · exact congrArg (fun c : Block => { c with xfers := b.xfers ++ [x.inFlight b k tally], nextId := b.nextId + 1 }) hput
  · exact congrArg (fun c : Block => { c with
      charts := (b.addRef (k / 4) b.nextId).charts, xfers := b.xfers ++ [x.inFlight b k tally], nextId := b.nextId + 1 }) hput

@[simp] theorem startXfer_hw : (b.startXfer k tally mem x).hw k = (b.hw k).starting tally := by
  rw [startXfer_eq]
  exact tget_tput_same _ _ _ _

theorem startXfer_hw_ne {j : Nat} (hj : j ≠ k) : (b.startXfer k tally mem x).hw j = b.hw j := by
  rw [startXfer_eq]
  exact tget_tput_ne _ _ _ _ _ hj

theorem startXfer_refs : ((b.startXfer k tally mem x).chart (k / 4)).refs =
    (b.chart (k / 4)).refs ++ (if mem then [((b.chart (k / 4)).epoch, b.nextId)] else []) := by
  rw [startXfer_eq]
  cases mem
  · exact (List.append_nil _).symm
  · exact congrArg Chart.refs (tget_tput_same _ _ _ _)

theorem startXfer_xfers : (b.startXfer k tally mem x).xfers = b.xfers ++ [x.inFlight b k tally] := by
  rw [startXfer_eq]

@[simp] theorem startXfer_frame : (b.startXfer k tally mem x).nextId = b.nextId + 1 ∧ (b.startXfer k tally mem x).mem = b.mem ∧
    (b.startXfer k tally mem x).lines = b.lines ∧ (b.startXfer k tally mem x).lanterns = b.lanterns ∧
    (b.startXfer k tally mem x).beams = b.beams := by
  rw [startXfer_eq]
  exact ⟨rfl, rfl, rfl, rfl, rfl⟩

theorem startXfer_halfOf (l n : Nat) : (b.startXfer k tally mem x).halfOf l n = b.halfOf l n := by
  rw [startXfer_eq]
  rfl

end StartXfer

/-! ### Lane-file halves (R45, R130) -/

theorem setHw_halfOf (b : Block) (k : Nat) (v : Hw) (l n : Nat) : (b.setHw k v).halfOf l n = b.halfOf l n := rfl

theorem updHalf_halfOf (b : Block) (l n : Nat) (f : Half → Half) : (b.updHalf l n f).halfOf l n = f (b.halfOf l n) := by
  simp [Block.updHalf, Block.halfOf, Beam.half]

/-- A change of a half is a change of its beam. -/
theorem updHalf_eq (b : Block) (l n : Nat) (f : Half → Half) : b.updHalf l n f = b.setBeam (beamNo l (n / 2))
    { b.beam (beamNo l (n / 2)) with halves := tput (b.beam (beamNo l (n / 2))).halves (n % 2) (f (b.halfOf l n)) } := rfl

end Sys2Proof

/-! PROOFS. MOVEs (R45, R122, R127 to R129): what each starts, what MOVE_DONE performs, and what the start and the retirement of a
transfer change. -/

namespace Sys2Proof

open Sys2Proof.Machine

/-! ### The issue of a MOVE -/

theorem exec_moveM2L (l h : Nat) (w : W64) (s : State) : exec (.moveM2L l h w) s = execMoveM2L l h w s := rfl
theorem exec_moveL2M (l h : Nat) (w : W64) (s : State) : exec (.moveL2M l h w) s = execMoveL2M l h w s := rfl
theorem exec_moveL2F (l h : Nat) (w : W64) (s : State) : exec (.moveL2F l h w) s = execMoveL2F l h w s := rfl
theorem exec_moveDone (id : Nat) (s : State) : exec (.moveDone id) s = execMoveDone id s := rfl

section MoveIssue

variable {s : State} {l h k : Nat} {w : W64} {b1 : Block} {x : Hw} {ts : Line} (hf : Fetches s.blk l h b1 w) (hk : hwNo l h = k)
  (hx : b1.hw k = x) (hts : x.tile (fld w 8 4) = ts) (hsrc : SoundTile x (fld w 8 4))
include hf hk hx hts hsrc

section MemoryTile

variable {td : Line} (htd : x.tile (fld w 12 4) = td) (hdst : SoundTile x (fld w 12 4)) (hrsv : moveRsv w = false)
  {b2 : Block} {f : Foot}
include htd hdst hrsv

/-- MOVE.M2L whose checks pass, whose footprint is found and whose rows are read. -/
theorem moveM2L_starts (ho : fld w 0 8 = 0x40) (hchk : firstErr (moveChk x.share true (bit w 16) ts td) = none)
    (hfree : x.tileWritable td = true) (hroom : x.boardRoom (tdRanges td) = true)
    (hreach : Reaches b1 l h 5 false (tdFoot ts) b2 f) {b3 b4 : Block} {rows xrows : List (List Piece)}
    (hrows : b2.moveRows f l h (tdKeep ts) (tdBase ts) (tdStride ts) (tdRowBytes ts) (tdRows ts) = .ok (b3, rows))
    (hxrows : b3.moveRows f l h (tdKeep ts) (tdXbase ts) (tdXstride ts) (if tdMx ts then tdCols ts / 32 else 0) (tdRows ts) =
      .ok (b4, xrows))
    (hclean : bit w 16 = true → badPieces rows = false ∧ badPieces xrows = false) :
    exec (.moveM2L l h w) s = .next (s.withBlk (((b4.moveIn k x w ts td rows xrows).boardTile k b4.nextId td true).startXfer k
      (fld w 23 2) true (newXfer l h (b4.footHomes f) [] none false))) := by
  have hpoison : (bit w 16 && (badPieces rows || badPieces xrows)) = false := by
    cases hb : bit w 16
    · rfl
    · simp [hclean hb]
  subst hk hx hts htd
  rw [exec_moveM2L, execMoveM2L, hf.run_body ho rfl hrsv]
  simp only [useTiles_sound (soundPair hsrc hdst), checked_passes hchk, hfree, hroom, Bool.not_true, Bool.or_self,
    Bool.false_eq_true, if_false, Block.withFoot]
  rw [hreach]
  simp only [hrows, hxrows, hpoison, Bool.false_eq_true, if_false]

section ToMemory

variable {ws : List (Nat × W64 × Line × Bool)} (ho : fld w 0 8 = 0x41)
  (hchk : firstErr (moveChk x.share false (bit w 16) ts td) = none) (hread : x.tileReadable ts = true)
  (hroom : x.boardRoom (tdRanges ts) = true) (hreach : Reaches b1 l h 6 false (tdFoot td) b2 f)
  (hclean : bit w 16 = true → b2.tilePoison k ts = false) (hissue : b2.canIssue l h = true)
  (hws : b2.pieceWrites f (tdBase td) (tdStride td) (b2.moveOut k x w ts td).1 ++
    b2.pieceWrites f (tdXbase td) (tdXstride td) (b2.moveOut k x w ts td).2 = ws)
  (hfirst : ∀ y ∈ ws, b2.ownMoveOn l h y.1 = false ∧
    (b2.lantern l).stores.any (fun q => q.hw == h && q.pa / 64 == b2.linePa y.1 / 64) = false)
include ho hchk hread hroom hreach hclean hissue hws hfirst

/-- MOVE.L2M whose checks pass, whose footprint is found and whose lines no earlier store or MOVE of the hardware context has yet to
write. -/
theorem moveL2M_starts : exec (.moveL2M l h w) s = .next (s.withBlk (((if bit w 16 then
      b2.addCensus k (convertRows td (bit w 17) x.seed (x.stream (fld w 18 5)) (b2.lensVals k ts)).2
    else b2).boardTile k b2.nextId ts false).startXfer k (fld w 23 2) true
      (newXfer l h (b2.footHomes f) ws none (tdKeep td)))) := by
  have hpoison : (bit w 16 && b2.tilePoison k ts) = false := by
    cases hb : bit w 16
    · rfl
    · simp [hclean hb]
  have hstores : ws.any (fun y => (b2.lantern l).stores.any (fun q => q.hw == h && q.pa / 64 == b2.linePa y.1 / 64)) = false :=
    List.any_eq_false.2 fun y hy => Bool.eq_false_iff.1 (hfirst y hy).2
  have hwaits : ws.any (fun y => b2.ownMoveOn l h y.1 ||
      (b2.lantern l).stores.any (fun q => q.hw == h && q.pa / 64 == b2.linePa y.1 / 64)) = false :=
    List.any_eq_false.2 fun y hy => by simp [hfirst y hy]
  subst hk hx hts htd
  rw [exec_moveL2M, execMoveL2M, hf.run_body ho rfl hrsv]
  simp only [useTiles_sound (soundPair hsrc hdst), checked_passes hchk, hread, hroom, Bool.not_true, Bool.or_self,
    Bool.false_eq_true, if_false, Block.withFoot]
  rw [hreach]
  simp only [hpoison, hws, hstores, hwaits, hissue, Bool.not_true, Bool.or_self, Bool.false_eq_true, if_false]

/-- The lens tile is on the scoreboard and the writes are in flight until MOVE_DONE; memory is as it was. -/
theorem moveL2M_completes : Completes (.moveL2M l h w) s (fun t =>
    t.blk.mem = b2.mem ∧ t.blk.lines = b2.lines ∧ (t.blk.hw k).pc = (b2.hw k).pc + 8 ∧
    ∃ y ∈ t.blk.xfers, y.id = b2.nextId ∧ y.lantern = k / 4 ∧ y.tally = some (fld w 23 2) ∧ y.keep = tdKeep td ∧
      y.homes = b2.footHomes f ∧ y.writes = ws) := by
  refine .of_exec (moveL2M_starts hf hk hx hts hsrc htd hdst hrsv ho hchk hread hroom hreach hclean hissue hws hfirst) ?_
  have hnew (c : Block) (hid : c.nextId = b2.nextId) :
      ∃ y ∈ (c.startXfer k (fld w 23 2) true (newXfer l h (b2.footHomes f) ws none (tdKeep td))).xfers,
        y.id = b2.nextId ∧ y.lantern = k / 4 ∧ y.tally = some (fld w 23 2) ∧ y.keep = tdKeep td ∧
        y.homes = b2.footHomes f ∧ y.writes = ws := by
    rw [startXfer_xfers]
    exact ⟨_, List.mem_append_right _ (List.mem_singleton_self _), hid, rfl, rfl, rfl, rfl, rfl⟩
  split
  all_goals
    refine ⟨?_, ?_, ?_, hnew _ ?_⟩
    all_goals simp [boardTile_eq, Block.addCensus]

end ToMemory

end MemoryTile

/-- What MOVE.L2F puts into the half `y`: the source's rows as its columns, tagged (R45, R46, R128). -/
def loadedHalf (b : Block) (k : Nat) (d : Line) (y : Half) : Half :=
  { y with
    st := .loading
    fmt := tdFmt d
    scale := tdScale d
    tscale := tdTensor d
    n := tdRows d
    k := tdCols d
    cols := (List.range (tdRows d)).map (fun r => b.lensBytes k (tdBase d + r * tdStride d) (tdRowBytes d))
    xs := if tdMx d then (List.range (tdRows d)).map (fun r =>
      b.lensBytes k (tdXbase d + r * tdXstride d) (tdCols d / 32)) else []
    poison := false }

section ToHalf

variable {n : Nat} (ho : fld w 0 8 = 0x42) (h12 : fld w 12 11 = 0) (h30 : fld w 30 34 = 0)
  (hn : fld w 25 4 * 2 + fld w 29 1 = n) (htile : tdChk ts x.share false = none) (hlens : tdLens ts = true)
  (hrows : tdRows ts ≤ 512) (hcols : tdCols ts ≤ beamK (tdFmt ts)) (hclaim : x.claims.contains n = true)
  (hread : x.tileReadable ts = true) (hroom : x.boardRoom (tdRanges ts) = true) (hidle : b1.halfRead l n = false)
  (hst : (b1.halfOf l n).st ≠ .loading) (hclean : b1.tilePoison k ts = false)
include ho h12 h30 hn htile hlens hrows hcols hclaim hread hroom hidle hst hclean

/-- MOVE.L2F whose checks pass, into a half that nothing reads or loads. -/
theorem moveL2F_starts : exec (.moveL2F l h w) s = .next (s.withBlk
    (((b1.updHalf l n (loadedHalf b1 k ts)).boardTile k b1.nextId ts false).startXfer k (fld w 23 2) false
      { id := 0, lantern := l, hw := h, req := 0, tally := none, writes := [], half := some n })) := by
  have hchk : firstErr [tdChk ts x.share false, need (tdLens ts) 0x0C,
      need (decide (tdRows ts ≤ 512 ∧ tdCols ts ≤ beamK (tdFmt ts))) 0x03, need (x.claims.contains n) 0x0E] = none := by
    simp only [firstErr_eq_none, List.forall_mem_cons, need_eq_none, decide_eq_true_eq]
    exact ⟨htile, hlens, ⟨hrows, hcols⟩, hclaim, List.forall_mem_nil _⟩
  subst hk hx hts hn
  rw [exec_moveL2F, execMoveL2F, hf.run_body ho rfl (by simp [h12, h30])]
  simp only [useTiles_sound (soundOne hsrc), checked_passes hchk, hread, hroom, hidle, hclean, beq_eq_false_iff_ne.2 hst,
    Bool.not_true, Bool.or_self, Bool.false_eq_true, if_false]
  rfl

/-- The half is being loaded with the source's rows and its tag; memory is as it was. -/
theorem moveL2F_completes : Completes (.moveL2F l h w) s (fun t =>
    t.blk.halfOf l n = loadedHalf b1 k ts (b1.halfOf l n) ∧
    (t.blk.hw k).pc = x.pc + 8 ∧ t.blk.mem = b1.mem ∧ t.blk.lines = b1.lines) := by
  refine .of_exec (moveL2F_starts hf hk hx hts hsrc ho h12 h30 hn htile hlens hrows hcols hclaim hread hroom hidle hst hclean) ?_
  refine ⟨?_, ?_, ?_, ?_⟩
  · rw [startXfer_halfOf, boardTile_eq, setHw_halfOf, updHalf_halfOf]
  all_goals simp [boardTile_eq, updHalf_eq, hx]

end ToHalf

end MoveIssue

/-! ### MOVE_DONE -/

section MoveDone

variable {s : State} {id : Nat} {x : Xfer} (hfind : s.blk.xfers.find? (fun y => y.id == id) = some x)
include hfind

theorem moveDone_held (hh : x.homes.any (fun t => s.blk.pathHeld (lampTile x.lantern) t) = true) :
    exec (.moveDone id) s = .next s := by
  simp only [exec_moveDone, execMoveDone, State.run_eq, hfind]
  rw [if_pos (.inr (.inr (.inr hh)))]

/-- A transfer whose path is free and whose writes are all served is retired over what they leave. -/
theorem moveDone_performs (hg : x.group = none) (hc : x.chunks = []) (hl : (s.blk.lantern x.lantern).loss = .alive)
    (hh : x.homes.any (fun t => s.blk.pathHeld (lampTile x.lantern) t) = false) {b1 : Block}
    {rest : List (Nat × W64 × Line × Bool)} (hw : s.blk.xferWrites x = (b1, none, rest)) :
    exec (.moveDone id) s = .next (s.withBlk (b1.retireXfer x)) := by
  have hgo : ¬(x.group.isSome ∨ x.chunks ≠ [] ∨ (s.blk.lantern x.lantern).loss ≠ .alive ∨
      x.homes.any (fun t => s.blk.pathHeld (lampTile x.lantern) t)) := by
    simp [hg, hc, hl, hh]
  simp only [exec_moveDone, execMoveDone, State.run_eq, hfind, if_neg hgo, hw]

end MoveDone

theorem xferWrites_nil (b : Block) {x : Xfer} (h : x.writes = []) : b.xferWrites x = (b, none, []) := by
  rw [Block.xferWrites, h]
  rfl

/-- A hardware context after its transfer `id` has retired: a tally is down by one and the scoreboard entries are gone. -/
def Machine.Hw.retired (x : Hw) (i id : Nat) : Hw :=
  { x with tallies := tput x.tallies i (x.tally i - 1), board := x.board.filter (fun e => e.1 != id) }

/-- All that the retirement of a transfer that loads no half changes: its hardware context, the chart's references and what is in
flight. -/
theorem retireXfer_eq (b : Block) {x : Xfer} {i k : Nat} (ht : x.tally = some i) (hh : x.half = none)
    (hk : hwNo x.lantern x.hw = k) : b.retireXfer x =
    { b.setHw k ((b.hw k).retired i x.id) with
      charts := (b.dropRef x.lantern x.id).charts, xfers := b.xfers.filter (fun y => y.id != x.id) } := by
  have hput : ((b.tallyDown k i).boardDel k x.id) = b.setHw k ((b.hw k).retired i x.id) := by
    simp [Block.tallyDown, Block.boardDel, Hw.retired]
  simp only [Block.retireXfer, ht, hh, hk]
  exact congrArg (fun c : Block => { c with
    charts := (b.dropRef x.lantern x.id).charts, xfers := b.xfers.filter (fun y => y.id != x.id) }) hput

section RetireXfer

variable (b : Block) {x : Xfer} {i k : Nat} (ht : x.tally = some i) (hh : x.half = none) (hk : hwNo x.lantern x.hw = k)
include ht hh hk

theorem retireXfer_hw : (b.retireXfer x).hw k = (b.hw k).retired i x.id := by
  rw [retireXfer_eq b ht hh hk]
  exact tget_tput_same _ _ _ _

theorem retireXfer_hw_ne {j : Nat} (hj : j ≠ k) : (b.retireXfer x).hw j = b.hw j := by
  rw [retireXfer_eq b ht hh hk]
  exact tget_tput_ne _ _ _ _ _ hj

theorem retireXfer_frame : (b.retireXfer x).xfers = b.xfers.filter (fun y => y.id != x.id) ∧ (b.retireXfer x).mem = b.mem ∧
    (b.retireXfer x).lines = b.lines := by
  rw [retireXfer_eq b ht hh hk]
  exact ⟨rfl, rfl, rfl⟩

end RetireXfer

theorem retired_tally (x : Hw) (i id : Nat) : (x.retired i id).tally i = x.tally i - 1 := tget_tput_same _ _ _ _

/-! ### The obligation -/

/-- Settles O14: the MOVEs by the rule of their issue, MOVE_DONE by what it performs, the start and the retirement of a transfer
by the equations that say all they change. -/
theorem moves : Obligations.Moves := by
  unfold Obligations.Moves
  refine ⟨?_, ?_, ?_, ?_⟩
  case refine_1 =>
    intro s l h w b1 hf k x ts td hpois hlev
    have hk : hwNo l h = k := rfl
    have hx : b1.hw k = x := rfl
    have hts : x.tile (fld w 8 4) = ts := rfl
    have htd : x.tile (fld w 12 4) = td := rfl
    clear_value k x ts td
    have hsrc : SoundTile x (fld w 8 4) := ⟨hpois, hts ▸ hlev⟩
    refine ⟨fun hrsv hpois2 hlev2 => ?_, ?_⟩
    · have hdst : SoundTile x (fld w 12 4) := ⟨hpois2, htd ▸ hlev2⟩
      constructor
      · intro ho hchk hfree hroom b2 f hreach b3 rows b4 xrows hrows hxrows hclean
        exact moveM2L_starts hf hk hx hts hsrc htd hdst hrsv ho hchk hfree hroom hreach hrows hxrows hclean
      · intro ho hchk hread hroom b2 f hreach hclean hissue ws hfirst
        exact moveL2M_completes hf hk hx hts hsrc htd hdst hrsv ho hchk hread hroom hreach hclean hissue rfl hfirst
    · intro ho h12 h30 n htile hlens hrows hcols hclaim hread hroom hidle hst hclean
      obtain ⟨t, hexec, hhalf, hrest⟩ :=
        moveL2F_completes hf hk hx hts hsrc ho h12 h30 rfl htile hlens hrows hcols hclaim hread hroom hidle hst hclean
      refine ⟨t, hexec, ?_⟩
      simp only [n, hhalf]
      exact ⟨rfl, rfl, rfl, rfl, rfl, rfl, hrest⟩
  case refine_2 =>
    intro s id x hfind hg hc hl
    exact ⟨moveDone_held hfind, fun hh => ⟨fun hw => moveDone_performs hfind hg hc hl hh (xferWrites_nil _ hw),
      fun b1 rest _ hw => moveDone_performs hfind hg hc hl hh hw⟩⟩
  case refine_3 =>
    intro b k tally mem x
    obtain ⟨hid, hmem, hlines, hlanterns, hbeams⟩ := startXfer_frame b k tally mem x
    refine ⟨startXfer_refs .., ?_, ?_, hid, startXfer_xfers .., ?_, ?_, fun j hj => startXfer_hw_ne _ _ _ _ _ hj, hmem, hlines,
      hlanterns, hbeams⟩
    all_goals rw [startXfer_hw]
    · exact starting_tally _ _
    all_goals rfl
  case refine_4 =>
    intro b x i ht hh _
    obtain ⟨hxfers, hmem, hlines⟩ := retireXfer_frame b ht hh rfl
    refine ⟨?_, ?_, ?_, ?_, ?_, fun j hj => retireXfer_hw_ne b ht hh rfl hj, hmem, hlines⟩
    case refine_2 => simp [hxfers]
    all_goals rw [retireXfer_hw b ht hh rfl]
    · exact retired_tally _ _ _
    · simp [Hw.retired]
    all_goals rfl

end Sys2Proof

/-! PROOFS. Beams (R37, R46, R49, R52 to R58, R97, R131, R140, R385): how an operation enters its queue, what a clean BEAM leaves in
its set, staging, issue and completion at the head of a queue, and operating points. -/

namespace Sys2Proof

open Sys2Proof.Machine

/-! ### Updates of a beam -/

@[simp] theorem setBeam_setBeam (b : Block) (j : Nat) (y z : Beam) : (b.setBeam j y).setBeam j z = b.setBeam j z :=
  congrArg (fun t => { b with beams := t }) (tput_tput_same b.beams j y z)

/-- A beam that keeps its lane files keeps its halves. -/
theorem setBeam_halfOf {b : Block} {j : Nat} {z : Beam} (hz : z.halves = (b.beam j).halves) (l n : Nat) :
    (b.setBeam j z).halfOf l n = b.halfOf l n := by
  unfold Block.halfOf Beam.half
  by_cases hj : beamNo l (n / 2) = j
  · rw [hj, Block.setBeam_beam, hz]
  · rw [Block.setBeam_beam_ne _ _ _ _ hj]

theorem setAccSet_halfOf (b : Block) (i : Nat) (a : AccSet) (l n : Nat) : (b.setAccSet i a).halfOf l n = b.halfOf l n := rfl

/-- With no half of the lantern released, none is freed (R130). -/
theorem freeHalves_of_none {b : Block} {l : Nat} (h : ∀ n, n < 32 → (b.halfOf l n).releasing = false) : b.freeHalves l = b := by
  refine List.foldlRecOn (motive := fun c => c = b) _ _ rfl fun c hc n hn => ?_
  subst hc
  exact if_neg fun hfree => by simp [h n (List.mem_range.1 hn)] at hfree

/-- A block in which an operation stands last in the queue of a beam, under the next number, and in which its hardware context has
become `v` (R58). -/
def enqueued (b : Block) (k j : Nat) (v : Hw) (o : BeamOp) : Block :=
  { b.setHw k v with nextId := b.nextId + 1, beams := tput b.beams j { b.beam j with queue := (b.beam j).queue ++ [o] } }

section Enqueued

variable (b : Block) (k j : Nat) (v : Hw) (o : BeamOp)

theorem enqueued_hw : (enqueued b k j v o).hw k = v := tget_tput_same _ _ _ _

theorem enqueued_queue : ((enqueued b k j v o).beam j).queue = (b.beam j).queue ++ [o] :=
  congrArg Beam.queue (tget_tput_same _ _ _ _)

/-- The queueing of an operation whose tile was entered into the scoreboard, and the next instruction. -/
theorem boardTile_enqueue (d : Line) : (({ b.boardTile k b.nextId d false with nextId := b.nextId + 1 }).updBeam j
      (fun z => { z with queue := z.queue ++ [o] })).advance k =
    enqueued b k j ({ b.hw k with board := (b.hw k).board ++ tileEntries b.nextId d false } : Hw).next o := by
  rw [boardTile_eq]
  exact congrArg (fun c : Block => { c with
    nextId := b.nextId + 1, beams := tput b.beams j { b.beam j with queue := (b.beam j).queue ++ [o] } }) (setHw_advance b k _)

end Enqueued

/-! ### BEAM and SELFTEST enter their queue (R58, R97, R131) -/

theorem exec_beam (l h : Nat) (w : W64) (s : State) : exec (.beam l h w) s = execBeam l h w s := rfl
theorem exec_selftest (l h : Nat) (w : W64) (s : State) : exec (.selftest l h w) s = execSelftest l h w s := rfl

section Queue

variable {s : State} {l h k m acc set : Nat} {w : W64} {b1 : Block} {x : Hw} (hf : Fetches s.blk l h b1 w) (hk : hwNo l h = k)
  (hx : b1.hw k = x) (hm : fld w 8 4 = m) (hset : x.sets.getD acc 0 = set) (hacc : acc < x.sets.length)
  (hroom : b1.queueRoom l m = true)
include hf hk hx hm hset hacc hroom

/-- BEAM whose checks pass, with room in the queue and on the scoreboard: its operation stands last, not yet staged. -/
theorem beam_enqueues {side : Nat} {ta : Line} {y : Half} (ho : fld w 0 8 = 0x50) (hrsv : fld w 23 41 = 0)
    (hta : x.tile (fld w 12 4) = ta) (hhalf : fld w 21 1 = side) (haccw : fld w 16 5 = acc)
    (hy : (b1.beam (beamNo l m)).half side = y) (hsound : SoundTile x (fld w 12 4))
    (hclaim : x.claims.contains (2 * m + side) = true) (hst : y.st ≠ .empty) (htile : tdChk ta x.share false = none)
    (hlens : tdLens ta = true) (hbytes : tdRowBytes ta ≤ 1024) (hpair : pairsOk (tdFmt ta) y.fmt = true)
    (hscale : tdScale ta = y.scale) (hrows : tdRows ta ≤ 32) (hcols : tdCols ta = y.k) (hlim : y.k ≤ beamK (tdFmt ta))
    (hafter : ∃ z, setAfter (b1.projected l set) (bit w 22) (tdFmt ta) y.fmt (tdScale ta) (tdRows ta) y.n y.k
      (tdTensor ta) y.tscale = .ok z) (hboard : x.boardRoom (tdRanges ta) = true) :
    ∃ o : BeamOp, exec (.beam l h w) s = .next (s.withBlk (enqueued b1 k (beamNo l m)
        ({ x with board := x.board ++ tileEntries b1.nextId ta false } : Hw).next o)) ∧
      o.id = b1.nextId ∧ o.hw = h ∧ o.beam = m ∧ o.half = side ∧ o.set = set ∧ o.add = bit w 22 ∧ o.a = ta ∧
      o.staged = none := by
  subst hk hx hm hset hta hhalf haccw hy
  obtain ⟨z, hz⟩ := hafter
  rw [exec_beam, execBeam, hf.run_body ho rfl (by simp [hrsv])]
  simp only [useTiles_sound (soundOne hsound)]
  rw [checked_passes]
  · simp only [hroom, hboard, Bool.not_true, Bool.or_self, Bool.false_eq_true, if_false, boardTile_enqueue]
    exact ⟨_, rfl, rfl, rfl, rfl, rfl, rfl, rfl, rfl, rfl⟩
  · simp only [firstErr_eq_none, List.forall_mem_cons, need_eq_none, hz]
    exact ⟨hclaim, bne_iff_ne.2 hst, htile, by simp [hlens, hbytes], by simp [hpair, hscale], by simp [hrows, hcols, hlim],
      decide_eq_true hacc, trivial, List.forall_mem_nil _⟩

/-- SELFTEST whose checks pass, with room in the queue: its operation stands last and the program waits. -/
theorem selftest_enqueues (ho : fld w 0 8 = 0xE0) (hrsv : fld w 27 37 = 0) (haccw : fld w 12 5 = acc) (hw : x.waiting = false)
    (h0 : x.claims.contains (2 * m) = true) (h1 : x.claims.contains (2 * m + 1) = true)
    (hfree : (b1.projected l set).st = .free) (hvec : (b1.lantern l).vectorsBad = false) :
    ∃ o : BeamOp, exec (.selftest l h w) s = .next (s.withBlk (enqueued b1 k (beamNo l m) { x with waiting := true } o)) ∧
      o.beam = m ∧ o.set = set ∧ o.selftest = some (fld w 17 5, x.reg (fld w 22 5)) := by
  subst hk hx hm hset haccw
  rw [exec_selftest, execSelftest, hf.run_body ho rfl (by simp [hrsv])]
  simp only [hw, Bool.false_eq_true, if_false]
  rw [checked_passes]
  · simp only [hroom, Bool.not_true, Bool.false_eq_true, if_false]
    exact ⟨_, rfl, rfl, rfl, rfl⟩
  · simp only [firstErr_eq_none, List.forall_mem_cons, need_eq_none, h0, h1, hfree, hvec]
    exact ⟨rfl, decide_eq_true hacc, rfl, rfl, List.forall_mem_nil _⟩

end Queue

/-! ### A clean BEAM (R52, R54, R79 to R82) -/

/-- A clean BEAM on the beam that hosts itself, with no half of the lantern released: all that it changes are its beam and its
set. -/
theorem endBeam_clean {b : Block} {l m : Nat} {o : BeamOp} {y : Half} {sg : List (List Byte) × List (List Byte)}
    (hhost : b.hostOf l m = m) (hy : (b.beam (beamNo l m)).half o.half = y) (hsg : o.staged.getD ([], []) = sg)
    (hp : y.poison = false) (ha : o.aPoison = false) (hxs : y.xs = []) (hrel : ∀ n, n < 32 → (b.halfOf l n).releasing = false) :
    ∃ z a, b.endBeam l m o .clean = (b.setBeam (beamNo l m) z).setAccSet (l * 32 + o.set) a ∧ z.run = none ∧
      z.busyCycles = (b.beam (beamNo l m)).busyCycles + beamCycles y.n (b.width l m) (tdRows o.a) y.k (dotWidth (tdFmt o.a)) ∧
      a.st = .opn ∧ a.entries = entriesAfter (b.accSet (l * 32 + o.set)) (tdFmt o.a) y.fmt (tdScale o.a) y.k (tdTensor o.a)
        y.tscale (nats sg.1) (nats sg.2) (nats y.cols) (y.cols.map (fun _ => 0)) := by
  subst hy hsg
  have htransient : (BeamChk.clean == .transient) = false := rfl
  have hpersistent : (BeamChk.clean == .persistent) = false := rfl
  simp only [Block.endBeam, hhost, hp, ha, hxs, htransient, hpersistent, bne_self_eq_false, Bool.or_self, Bool.and_false,
    Bool.false_eq_true, if_false, if_true, Block.updBeam_eq, Block.setBeam_beam, setBeam_setBeam, Block.updAccSet_eq]
  rw [freeHalves_of_none]
  · exact ⟨_, _, rfl, rfl, by simp, rfl, by simp⟩
  · intro n hn
    rw [setAccSet_halfOf, setBeam_halfOf (by rfl)]
    exact hrel n hn

/-! ### The obligation on queues and results -/

/-- Settles O16: BEAM and SELFTEST by the operation that they put last in the queue, a clean BEAM by the beam and the set that it
leaves. -/
theorem beamQueueAndResult : Obligations.BeamQueueAndResult := by
  unfold Obligations.BeamQueueAndResult
  refine ⟨?_, ?_⟩
  case refine_1 =>
    intro s l h w b1 hf k x m
    refine ⟨?_, ?_⟩
    · intro ho hrsv ta side acc y hpois hlev hclaim hst htile hlens hbytes hpair hscale hrows hcols hlim hacc hafter hroom hboard
      obtain ⟨o, hexec, ho⟩ := beam_enqueues hf rfl rfl rfl rfl hacc hroom ho hrsv rfl rfl rfl rfl ⟨hpois, hlev⟩ hclaim hst
        htile hlens hbytes hpair hscale hrows hcols hlim hafter hboard
      refine .of_exec hexec ⟨⟨o, enqueued_queue .., ho⟩, ?_, ?_, rfl, rfl, rfl⟩
      all_goals
        dsimp only
        rw [enqueued_hw]
        rfl
    · intro ho hrsv acc hw h0 h1 hacc hfree hvec hroom
      obtain ⟨o, hexec, ho⟩ := selftest_enqueues hf rfl rfl rfl rfl hacc hroom ho hrsv rfl hw h0 h1 hfree hvec
      refine .of_exec hexec ⟨⟨o, enqueued_queue .., ho⟩, ?_, ?_, rfl⟩
      all_goals
        dsimp only
        rw [enqueued_hw]
  case refine_2 =>
    intro b l m o _ hhost hp ha hxs hrel
    obtain ⟨z, a, ht, hrun, hbusy, hst, hentries⟩ := endBeam_clean hhost rfl rfl hp ha hxs hrel
    simp only [ht]
    refine ⟨?_, ?_, ?_, ?_, fun n hn => ?_, rfl, rfl, rfl⟩
    · simpa using hrun
    · simpa using hbusy
    · simpa using hst
    · simpa using hentries
    · simp [Block.setAccSet_accSet_ne _ _ _ _ hn]

/-! ### Staging, issue and completion at the head of a queue (R46, R54, R56 to R58, R97) -/

theorem exec_aStage (l m : Nat) (s : State) : exec (.aStage l m) s = execAStage l m s := rfl
theorem exec_beamIssue (l m : Nat) (s : State) : exec (.beamIssue l m) s = execBeamIssue l m s := rfl
theorem exec_beamComplete (l m : Nat) (chk : BeamChk) (res : SelfVerdict) (s : State) :
    exec (.beamComplete l m chk res) s = execBeamComplete l m chk res s := rfl

/-- An operation that nothing blocks has a host on which nothing runs (R56, condition 1). -/
theorem issueBlocked_zero {b : Block} {l m : Nat} {o : BeamOp} (h : b.issueBlocked l m o = 0) :
    b.beamRuns l (b.hostOf l m) = false := by
  refine Bool.eq_false_iff.2 fun hruns => ?_
  simp [Block.issueBlocked, hruns] at h

section Head

variable {s : State} {l m : Nat} (hl : (s.blk.lantern l).loss = .alive)
include hl

/-- A free A buffer takes the first BEAM without its operand, once the earlier writers of its lines have completed. -/
theorem aStage_stages {o : BeamOp}
    (hfind : (s.blk.beam (beamNo l m)).queue.find? (fun q => q.selftest.isNone && q.staged.isNone) = some o)
    (hfree : ((s.blk.carried l (s.blk.hostOf l m)).map (fun i =>
      ((s.blk.beam (beamNo l i)).run.toList ++ (s.blk.beam (beamNo l i)).queue).countP (fun q => q.staged.isSome))).sum < 2)
    (hw : s.blk.aWriters l o = false) : exec (.aStage l m) s = .next (s.withBlk (s.blk.stage l o)) := by
  have hgo : ¬(2 ≤ ((s.blk.carried l (s.blk.hostOf l m)).map (fun i =>
      ((s.blk.beam (beamNo l i)).run.toList ++ (s.blk.beam (beamNo l i)).queue).countP (fun q => q.staged.isSome))).sum ∨
      s.blk.aWriters l o ∨ (s.blk.lantern l).loss ≠ .alive) := by
    rintro (hfull | hwriters | hlost)
    · exact Nat.not_le.2 hfree hfull
    · exact Bool.eq_false_iff.1 hw hwriters
    · exact hlost hl
  simp only [exec_aStage, execAStage, State.run_eq, hfind, if_neg hgo]

theorem beamComplete_beam {o : BeamOp} (hrun : (s.blk.beam (beamNo l m)).run = some o) (hself : o.selftest = none) (chk : BeamChk)
    (res : SelfVerdict) : exec (.beamComplete l m chk res) s = .next (s.withBlk (s.blk.endBeam l m o chk)) := by
  simp [exec_beamComplete, execBeamComplete, hrun, hself, hl]

theorem beamComplete_selftest {o : BeamOp} {gd : Nat} {suite : W64} (hrun : (s.blk.beam (beamNo l m)).run = some o)
    (hself : o.selftest = some (gd, suite)) (chk : BeamChk) (res : SelfVerdict) :
    exec (.beamComplete l m chk res) s = .next (s.withBlk (s.blk.endSelftest l m o gd suite res)) := by
  simp [exec_beamComplete, execBeamComplete, hrun, hself, hl]

section Issue

variable {o : BeamOp} {rest : List BeamOp} (hq : (s.blk.beam (beamNo l m)).queue = o :: rest)
include hq

theorem beamIssue_running (h : s.blk.beamRuns l (s.blk.hostOf l m) = true) : exec (.beamIssue l m) s = .next s := by
  simp [exec_beamIssue, execBeamIssue, hq, hl, h]

variable (hblk : s.blk.issueBlocked l m o = 0)
  (hload : (s.blk.beam (beamNo l (s.blk.hostOf l m))).loaded.getD (s.blk.hostOf l m) = m) (hhost : s.blk.hostOf l m = m)
include hblk hload hhost

/-- An operation that nothing blocks, with credit, runs: it leaves the queue and its set is BUSY. -/
theorem beamIssue_issues (hc : 0 ≤ creditTick (s.blk.beam (beamNo l m)).credit (s.blk.lantern l).rate) :
    ∃ z a v, exec (.beamIssue l m) s = .next (s.withBlk (((s.blk.setBeam (beamNo l m) z).setAccSet (l * 32 + o.set) a).setHw
      (hwNo l o.hw) v)) ∧ z.run = some o ∧ z.queue = rest ∧ a.st = .busy := by
  have hruns := issueBlocked_zero hblk
  rw [hhost] at hruns hload
  simp only [exec_beamIssue, execBeamIssue, State.run_eq, hq, hl, hhost, hruns, Block.mustSwap, hload, hblk]
  simp only [ne_eq, not_true_eq_false, decide_false, Bool.false_eq_true, if_false, Block.updBeam_eq, Block.setBeam_beam,
    Int.not_lt.2 hc, setBeam_setBeam, Block.updAccSet_eq, Block.updHw_eq]
  exact ⟨_, _, _, rfl, rfl, rfl, rfl⟩

/-- Without credit the cycle counts as a stall of the limiter (R57, R381). -/
theorem beamIssue_stalls (hc : creditTick (s.blk.beam (beamNo l m)).credit (s.blk.lantern l).rate < 0) :
    ∃ z, exec (.beamIssue l m) s = .next (s.withBlk (s.blk.setBeam (beamNo l m) z)) ∧ z.queue = o :: rest ∧
      z.stalls = tinc (s.blk.beam (beamNo l m)).stalls 0x15 1 := by
  have hruns := issueBlocked_zero hblk
  rw [hhost] at hruns hload
  simp only [exec_beamIssue, execBeamIssue, State.run_eq, hq, hl, hhost, hruns, Block.mustSwap, hload, hblk]
  simp only [ne_eq, not_true_eq_false, decide_false, Bool.false_eq_true, if_false, Block.updBeam_eq, Block.setBeam_beam, hc, if_true,
    Block.stall, setBeam_setBeam]
  exact ⟨_, rfl, hq, rfl⟩

end Issue

end Head

/-! ### Operating points and resident vectors (R37, R97, R140, R385) -/

theorem exec_setop (l h : Nat) (w : W64) (s : State) : exec (.setop l h w) s = execSetop l h w s := rfl
theorem exec_operatingPointChangeDone (l : Nat) (s : State) :
    exec (.operatingPointChangeDone l) s = execOperatingPointChangeDone l s := rfl
theorem exec_vectorReload (l : Nat) (ok : Bool) (s : State) : exec (.vectorReload l ok) s = execVectorReload l ok s := rfl

theorem setop_completes {s : State} {l h : Nat} {w : W64} {b1 : Block} (hf : Fetches s.blk l h b1 w) (ho : fld w 0 8 = 0xD1)
    (hrsv : fld w 11 53 = 0) : Completes (.setop l h w) s (fun t => (t.blk.hw (hwNo l h)).op = some (fld w 8 3) ∧
      (t.blk.hw (hwNo l h)).pc = (b1.hw (hwNo l h)).pc + 8 ∧ t.blk.mem = b1.mem ∧ t.blk.lines = b1.lines) := by
  refine .of_exec (hf.run_body ho rfl (by simp [hrsv]) _) ?_
  simp [Block.reOp, advance_eq, Hw.next]

section Points

variable {s : State} {l : Nat}

theorem operatingPoint_changes {p : Nat} (hidle : ∀ m, m < 16 → (s.blk.beam (beamNo l m)).run = none)
    (hp : (s.blk.lantern l).opPending = some p) : exec (.operatingPointChangeDone l) s =
      .next (s.withBlk (s.blk.setLantern l { s.blk.lantern l with op := p, opPending := none })) := by
  have hnone : (List.range 16).any (fun m => (s.blk.beam (beamNo l m)).run.isSome) = false :=
    List.any_eq_false.2 fun m hm => by simp [hidle m (List.mem_range.1 hm)]
  simp only [exec_operatingPointChangeDone, execOperatingPointChangeDone, State.run_eq, hnone, hp, Bool.false_eq_true, if_false,
    Block.updLantern_eq]

/-- The point never changes while a BEAM runs (R37). -/
theorem operatingPoint_waits {m : Nat} (hm : m < 16) (hrun : (s.blk.beam (beamNo l m)).run ≠ none) :
    exec (.operatingPointChangeDone l) s = .next s := by
  have hany : (List.range 16).any (fun m => (s.blk.beam (beamNo l m)).run.isSome) = true :=
    List.any_eq_true.2 ⟨m, List.mem_range.2 hm, Option.isSome_iff_ne_none.2 hrun⟩
  simp only [exec_operatingPointChangeDone, execOperatingPointChangeDone, State.run_eq, hany, if_true]

theorem vectorReload_reloads {ok : Bool} (hfree : ∀ g, g < 4 → (s.blk.hw (hwNo l g)).phase = .free) :
    exec (.vectorReload l ok) s = .next (s.withBlk (s.blk.setLantern l { s.blk.lantern l with vectorsBad := !ok })) := by
  simp [exec_vectorReload, execVectorReload, hfree]

end Points

/-! ### The obligation on runs and points -/

/-- Settles O17: staging, issue and completion by the head of the queue, operating points by what runs on the lantern. -/
theorem beamRunAndPoints : Obligations.BeamRunAndPoints := by
  unfold Obligations.BeamRunAndPoints
  refine ⟨?_, ?_⟩
  case refine_1 =>
    intro s l m _ hl b p
    refine ⟨fun o hfind hfree hw => aStage_stages hl hfind hfree hw, fun o rest hq => ⟨beamIssue_running hl hq, ?_, ?_⟩,
      fun o chk hrun hself fail => beamComplete_beam hl hrun hself chk fail,
      fun o g suite fail hrun hself chk => beamComplete_selftest hl hrun hself chk fail⟩
    · intro hblk hload hp hc
      obtain ⟨z, a, v, hexec, hrun, hqueue, hst⟩ := beamIssue_issues hl hq hblk hload hp hc
      exact .of_exec hexec ⟨by simpa using hrun, by simpa using hqueue, by simpa using hst, rfl, rfl, rfl⟩
    · intro hblk hload hp hc
      obtain ⟨z, hexec, hqueue, hstalls⟩ := beamIssue_stalls hl hq hblk hload hp hc
      exact .of_exec hexec ⟨by simpa using hqueue, by simp [hstalls, tinc, b]⟩
  case refine_2 =>
    intro s l h w
    exact ⟨fun b1 hf ho hrsv => setop_completes hf ho hrsv, fun p => operatingPoint_changes, fun m => operatingPoint_waits,
      fun ok => vectorReload_reloads⟩

end Sys2Proof

/-! PROOFS. The post unit (R53, R58, R132, R133, R381), the closing of a layer's step (R92, R93) and CHECK (R140, R418). -/

namespace Sys2Proof

open Sys2Proof.Machine

/-! ### Bit fields -/

theorem testBit_fld {n : Nat} (w : BitVec n) (lo len i : Nat) :
    (fld w lo len).testBit i = (decide (i < len) && w.getLsbD (lo + i)) := by
  simp [fld, Nat.testBit_mod_two_pow, Nat.testBit_shiftRight, BitVec.testBit_toNat]

/-- A bit of a word of which a field was set: in the field it is the value's, elsewhere the word's. -/
theorem getLsbD_setFld {n : Nat} (w : BitVec n) {lo len : Nat} (hn : lo + len ≤ n) (v i : Nat) :
    (setFld w lo len v).getLsbD i = if lo ≤ i ∧ i < lo + len then v.testBit (i - lo) else w.getLsbD i := by
  simp only [setFld, BitVec.getLsbD_or, BitVec.getLsbD_and, BitVec.getLsbD_not, BitVec.getLsbD_ofNat, Nat.testBit_shiftLeft,
    Nat.testBit_two_pow_sub_one, Nat.testBit_mod_two_pow]
  split
  case isTrue h =>
    have hin : i < n := by omega
    have hlen : i - lo < len := by omega
    simp [hin, hlen, h.1]
  case isFalse h =>
    have hout : (decide (lo ≤ i) && decide (i - lo < len)) = false := by
      simp only [Bool.and_eq_false_iff, decide_eq_false_iff_not]
      omega
    have hword : w.getLsbD i = (w.getLsbD i && decide (i < n)) := by
      cases hw : w.getLsbD i
      · rfl
      · simp [BitVec.lt_of_getLsbD hw]
    rw [hword, ← Bool.and_assoc (decide (lo ≤ i)), hout]
    simp

theorem fld_setFld_same {n : Nat} (w : BitVec n) {lo len : Nat} (hn : lo + len ≤ n) (v : Nat) :
    fld (setFld w lo len v) lo len = v % 2 ^ len := by
  refine Nat.eq_of_testBit_eq fun i => ?_
  rw [testBit_fld, getLsbD_setFld w hn, Nat.testBit_mod_two_pow]
  by_cases hi : i < len
  · simp [hi]
  · simp [hi]

theorem fld_setFld_other {n : Nat} (w : BitVec n) {lo len lo2 len2 : Nat} (hn : lo + len ≤ n)
    (hd : lo2 + len2 ≤ lo ∨ lo + len ≤ lo2) (v : Nat) : fld (setFld w lo len v) lo2 len2 = fld w lo2 len2 := by
  refine Nat.eq_of_testBit_eq fun i => ?_
  rw [testBit_fld, testBit_fld, getLsbD_setFld w hn]
  by_cases hi : i < len2
  · rw [if_neg (by omega)]
  · simp [hi]

/-- A field is less than its width allows. -/
theorem fld_lt {n : Nat} (w : BitVec n) (lo len : Nat) : fld w lo len < 2 ^ len := Nat.mod_lt _ (Nat.two_pow_pos len)

theorem fld_zero {n lo len : Nat} : fld (0 : BitVec n) lo len = 0 := by
  simp [fld]

/-- Eight bits that hold a number modulo 256 read, sign-extended, as the number. -/
theorem sfld_of_mod {n : Nat} {w : BitVec n} {lo : Nat} {v : Int} (hlo : -128 ≤ v) (hhi : v < 128)
    (h : fld w lo 8 = (v % 256).toNat) : sfld w lo 8 = v := by
  simp only [sfld, h]
  split
  · omega
  · omega

/-! ### The closing of a layer's step (R92, R93) -/

/-- Fields of 64 bits put in order into an empty line: each holds its value. -/
theorem fld_wordsPut (p : Nat → Nat) {n : Nat} (hn : n ≤ 8) :
    (∀ i, i < n → fld ((List.range n).foldl (fun (e : Line) i => setFld e (64 * i) 64 (p i)) 0) (64 * i) 64 = p i % 2 ^ 64) ∧
    (∀ lo len, 64 * n ≤ lo → fld ((List.range n).foldl (fun (e : Line) i => setFld e (64 * i) 64 (p i)) 0) lo len = 0) := by
  induction n with
  | zero =>
    exact ⟨fun i hi => absurd hi (Nat.not_lt_zero i), fun lo len _ => fld_zero⟩
  | succ n ih =>
    obtain ⟨hput, hrest⟩ := ih (by omega)
    simp only [List.range_succ, List.foldl_append, List.foldl_cons, List.foldl_nil]
    refine ⟨fun i hi => ?_, fun lo len hlo => ?_⟩
    · rcases Nat.lt_succ_iff_lt_or_eq.1 hi with hlt | rfl
      · rw [fld_setFld_other _ (by omega) (by omega), hput i hlt]
      · exact fld_setFld_same _ (by omega) _
    · rw [fld_setFld_other _ (by omega) (by omega), hrest lo len (by omega)]

/-- The shift that a layer's step asks for: one less where an element saturated, otherwise one more where more
than one element in 1,024 was flushed (R92). -/
def steppedShift (d : Line) : Int :=
  if fld d (128 + 64 * 4) 64 ≠ 0 then lyShift d - 1
  else if fld d (128 + 64 * 3) 64 * 1024 > fld d (128 + 64 * 0) 64 then lyShift d + 1 else lyShift d

theorem lyShift_bounds (d : Line) : -128 ≤ lyShift d ∧ lyShift d < 128 := by
  have hfld := fld_lt d 0 8
  simp only [lyShift, sfld]
  split
  · omega
  · omega

section CloseLayer

variable (d : Line) (ppm steps : Nat)

theorem closeLayer_counter : fld (closeLayer d ppm steps).1 32 32 = (fld d 32 32 + 1) % 2 ^ 32 := by
  simp [closeLayer, fld_setFld_same, fld_setFld_other, apply_ite (fun e => fld e 32 32)]

theorem closeLayer_countsCleared : fld (closeLayer d ppm steps).1 128 384 = 0 :=
  (fld_setFld_same _ (by decide) 0).trans (Nat.zero_mod _)

theorem closeLayer_lastCounts : (∀ i, i < 6 → fld (closeLayer d ppm steps).2.1 (64 * i) 64 = fld d (128 + 64 * i) 64) ∧
    fld (closeLayer d ppm steps).2.1 384 128 = 0 := by
  obtain ⟨hput, hrest⟩ := fld_wordsPut (fun i => fld d (128 + 64 * i) 64) (n := 6) (by decide)
  exact ⟨fun i hi => (hput i hi).trans (Nat.mod_eq_of_lt (fld_lt ..)), hrest 384 128 (by decide)⟩

theorem closeLayer_shift : lyShift (closeLayer d ppm steps).1 =
    if bit d 8 then max (-16) (min 16 (steppedShift d)) else lyShift d := by
  obtain ⟨hlo, hhi⟩ := lyShift_bounds d
  refine sfld_of_mod ?_ ?_ ?_
  · split
    · omega
    · exact hlo
  · split
    · omega
    · exact hhi
  · simp [closeLayer, steppedShift, fld_setFld_same, fld_setFld_other, apply_ite (fun e => fld e 0 8), Int.emod_lt_of_pos]

theorem closeLayer_quiet (h : bit d 9 = false) : (closeLayer d ppm steps).2.2 = false := by
  simp [closeLayer, h]

end CloseLayer

/-! ### POST (R53, R58, R132, R133, R381) -/

theorem exec_post (l h : Nat) (w : W64) (s : State) : exec (.post l h w) s = execPost l h w s := rfl
theorem exec_check (l h : Nat) (w : W64) (s : State) : exec (.check l h w) s = execCheck l h w s := rfl

section Post

variable {s : State} {l h k : Nat} {w : W64} {b1 : Block} (hf : Fetches s.blk l h b1 w) (ho : fld w 0 8 = 0x60) (hk : hwNo l h = k)
include hf ho hk

theorem post_illegal (hi : postIllegal w = true) : exec (.post l h w) s = .next (s.withBlk (b1.endReq k 0x20 1)) := by
  subst hk
  rw [exec_post, execPost, State.run_eq, hf.issue ho, hi]
  rfl

/-- POST whose checks pass, that nothing holds back and that the limiter grants, over a source and an operand without poison. -/
theorem post_runs {x : Hw} {td : Line} {set rows cols : Nat} {y : AccSet} {b2 : Block} (hx : b1.hw k = x)
    (htd : x.tile (fld w 24 4) = td) (hset : x.sets.getD (fld w 8 5) 0 = set) (hy : b1.accSet (l * 32 + set) = y)
    (hrows : (if bit w 13 then tdRows (x.tile (fld w 8 4)) else (b1.projected l set).m) = rows)
    (hcols : (if bit w 13 then tdCols (x.tile (fld w 8 4)) else (b1.projected l set).n) = cols)
    (hi : postIllegal w = false) (hr : postRsv w = false) (hsound : ∀ i ∈ postTiles w, SoundTile x i)
    (hchk : firstErr (postChk x w (b1.projected l set).st rows cols) = none) (hwaits : postWaits x w = false)
    (hidle : bit w 13 = false → y.st ≠ .busy ∧ (b1.beamOps l).any (fun o => o.set == set) = false ∧
      y.entries.any (fun a => a.2.poison) = false)
    (hgrant : ∀ go, b1.postIssue l k (b1.hostOf l (if bit w 13 then fld w 14 4 else y.beam))
      (rows * postCycles (fld w 18 6) + 16) go = go b2)
    (hsrc : bit w 13 = true → b2.tilePoison k (x.tile (fld w 8 4)) = false)
    (hop : postTile (fld w 18 6) (bit w 32) = true → b2.tilePoison k (x.tile (fld w 28 4)) = false) :
    exec (.post l h w) s = .next (s.withBlk
      ((if bit w 13 then b2.putConverted k td (bit w 44) (bit w 38) (x.stream (fld w 39 5)) (b2.postRes k x w y)
        else (b2.putConverted k td (bit w 44) (bit w 38) (x.stream (fld w 39 5)) (b2.postRes k x w y)).updAccSet
          (l * 32 + set) (fun a => { owner := a.owner })).advance k)) := by
  have hfreeSet : (!bit w 13 && (y.st == .busy || (b1.beamOps l).any (fun o => o.set == set))) = false := by
    cases hb : bit w 13
    · simp [hidle hb]
    · rfl
  have hentries : (!bit w 13 && y.entries.any (fun a => a.2.poison)) = false := by
    cases hb : bit w 13
    · simp [hidle hb]
    · rfl
  have hpoison : (bit w 13 && b2.tilePoison k (x.tile (fld w 8 4)) ||
      postTile (fld w 18 6) (bit w 32) && b2.tilePoison k (x.tile (fld w 28 4))) = false := by
    simp only [Bool.or_eq_false_iff, Bool.and_eq_false_imp]
    exact ⟨hsrc, hop⟩
  subst hk hx htd hset hy hrows hcols
  rw [exec_post, execPost, hf.run_body ho hi hr]
  simp only [useTiles_sound hsound, checked_passes hchk, hfreeSet, hwaits, Bool.false_eq_true, if_false]
  rw [hgrant]
  simp only [hpoison, hentries, Bool.false_eq_true, if_false]

end Post

/-! ### CHECK (R140, R418) -/

section Check

variable {s : State} {l h k : Nat} {w : W64} {b1 : Block} {x : Hw} {ts : Line} (hf : Fetches s.blk l h b1 w)
  (ho : fld w 0 8 = 0xD2) (hrsv : fld w 18 46 = 0) (hk : hwNo l h = k) (hx : b1.hw k = x)
include hf ho hrsv hk hx

/-- CHECK in a context that takes no checks: it is counted and ignored. -/
theorem check_ignores (hctx : (b1.cfg 0x61000005 (2 ^ 256 - 1)).testBit x.ctx = false) :
    exec (.check l h w) s = .next (s.withBlk { b1.setHw k x.next with
      silent := { b1.silent with issued := tinc b1.silent.issued l 1, ignored := b1.silent.ignored + 1 } }) := by
  subst hk hx
  rw [exec_check, execCheck, hf.run_body ho rfl (by simp [hrsv])]
  simp only [hctx, Bool.not_false, if_true]
  rfl

/-- A CHECK that is selected by its own bit: its tile is on the scoreboard and it stands last among the checks. -/
theorem check_joins (hts : x.tile (fld w 8 4) = ts) (hsound : SoundTile x (fld w 8 4)) (htile : tdChk ts x.share false = none)
    (hlens : tdLens ts = true) (hctx : (b1.cfg 0x61000005 (2 ^ 256 - 1)).testBit x.ctx = true) (halways : bit w 12 = true)
    (hread : x.tileReadable ts = true) (hroom : x.boardRoom (tdRanges ts) = true) :
    exec (.check l h w) s = .next (s.withBlk
      { b1.setHw k ({ x with board := x.board ++ tileEntries b1.nextId ts false } : Hw).next with
        silent := { b1.silent with issued := tinc b1.silent.issued l 1 }
        checks := b1.checks ++
          [{ id := b1.nextId, lantern := l, hw := h, ctx := x.ctx, key := x.reg (fld w 13 5), tile := ts }]
        nextId := b1.nextId + 1 }) := by
  have hpick : b1.checkPick l true = true := Bool.true_or _
  subst hk hx hts
  rw [exec_check, execCheck, hf.run_body ho rfl (by simp [hrsv])]
  simp only [hctx, Bool.not_true, Bool.false_eq_true, if_false, useTiles_sound (soundOne hsound)]
  rw [checked_passes]
  · simp only [halways, hpick, hread, hroom, Bool.not_true, Bool.or_self, Bool.false_eq_true, if_false, boardTile_eq]
    exact congrArg (fun c : Block => Host.Outcome.next (s.withBlk { c with
      silent := { b1.silent with issued := tinc b1.silent.issued l 1 }
      checks := b1.checks ++ [{ id := b1.nextId, lantern := l, hw := h, ctx := _, key := _, tile := _ }]
      nextId := b1.nextId + 1 })) (setHw_advance b1 (hwNo l h) _)
  · simp only [firstErr_eq_none, List.forall_mem_cons, need_eq_none]
    exact ⟨htile, hlens, List.forall_mem_nil _⟩

end Check

/-! ### The obligation -/

/-- Settles O18: POST and CHECK by the rule of each, the closing of a layer's step field by field. -/
theorem postsAndLayers : Obligations.PostsAndLayers := by
  unfold Obligations.PostsAndLayers
  refine ⟨?_, ?_, ?_⟩
  case refine_1 =>
    intro s l h w b1 hf ho k x td set y hdr rows cols
    refine ⟨post_illegal hf ho rfl, ?_⟩
    intro hi hr hsound hchk hwaits hidle b2 hgrant hsrc hop res
    exact post_runs hf ho rfl rfl rfl rfl rfl rfl rfl hi hr hsound hchk hwaits hidle hgrant hsrc hop
  case refine_2 =>
    intro d ppm steps r
    obtain ⟨hlast, hrest⟩ := closeLayer_lastCounts d ppm steps
    have hshift : lyShift r.1 = _ := closeLayer_shift d ppm steps
    refine ⟨closeLayer_counter .., closeLayer_countsCleared .., hlast, hrest, fun h => ?_, fun h => ?_,
      closeLayer_quiet d ppm steps⟩
    · rw [hshift, if_pos h]
      omega
    · rw [hshift, if_neg (by simp [h])]
  case refine_3 =>
    intro s l h w b1 hf ho hrsv k x ts hpois hlev htile hlens
    refine ⟨fun hctx => ?_, fun hctx halways hread hroom => ?_⟩
    · refine .of_exec (check_ignores hf ho hrsv rfl rfl hctx) ⟨rfl, rfl, tget_tput_same _ _ _ _, ?_⟩
      exact congrArg Hw.pc (tget_tput_same _ _ _ _)
    · refine .of_exec (check_joins hf ho hrsv rfl rfl rfl ⟨hpois, hlev⟩ htile hlens hctx halways hread hroom)
        ⟨?_, rfl, rfl, rfl, _, rfl, rfl, rfl, rfl, rfl, rfl, rfl, rfl⟩
      exact congrArg Hw.pc (tget_tput_same _ _ _ _)

end Sys2Proof

/-! PROOFS. The pairwise tree (R77): the split of a list of two or more values, which does not depend on the fuel that bounds the depth. -/

namespace Sys2Proof

open Sys2Proof.Machine

section Tree

variable {op : W32 → W32 → W32} {xs : List W32} {e : Nat}

/-- The exponent that the tree computes is that of the largest power of two below the length. -/
theorem log2_pred_eq {n : Nat} (hlo : 2 ^ e < n) (hhi : n ≤ 2 * 2 ^ e) : Nat.log2 (n - 1) = e := by
  have hpos : 0 < 2 ^ e := Nat.two_pow_pos e
  rw [Nat.log2_eq_iff (by omega), Nat.pow_succ]
  omega

/-- A length of two or more has a largest power of two below it. -/
theorem exists_largest_pow_lt {n : Nat} (hn : 2 ≤ n) : ∃ e, 2 ^ e < n ∧ n ≤ 2 * 2 ^ e := by
  have hlo := Nat.log2_self_le (n := n - 1) (by omega)
  have hhi := Nat.lt_log2_self (n := n - 1)
  rw [Nat.pow_succ] at hhi
  exact ⟨Nat.log2 (n - 1), by omega, by omega⟩

/-- With fuel left, the tree is the sum of the trees on both sides of the largest power of two below the length. -/
theorem treeWith_succ (k : Nat) (hlo : 2 ^ e < xs.length) (hhi : xs.length ≤ 2 * 2 ^ e) :
    treeWith op (k + 1) xs = op (treeWith op k (xs.take (2 ^ e))) (treeWith op k (xs.drop (2 ^ e))) := by
  have hpos : 0 < 2 ^ e := Nat.two_pow_pos e
  have hlog := log2_pred_eq hlo hhi
  match xs with
  | [] | [_] => simp only [List.length_nil, List.length_singleton] at hlo; omega
  | _ :: _ :: _ => simp only [treeWith, hlog]

/-- Fuel k suffices for 2^k values: both sides of the split are no longer than the power of two that splits them. -/
theorem treeWith_fuel (k : Nat) (xs : List W32) (hlen : xs.length ≤ 2 ^ k) : treeWith op (k + 1) xs = treeWith op k xs := by
  induction k generalizing xs with
  | zero =>
    match xs with
    | [] | [_] => rfl
    | _ :: _ :: _ => simp at hlen
  | succ k ih =>
    match xs with
    | [] | [_] => rfl
    | x :: y :: zs =>
      obtain ⟨e, hlo, hhi⟩ := exists_largest_pow_lt (n := (x :: y :: zs).length) (by simp)
      have hek : 2 ^ e ≤ 2 ^ k :=
        Nat.pow_le_pow_right (by omega) (Nat.lt_succ_iff.1 ((Nat.pow_lt_pow_iff_right (by omega)).1 (hlo.trans_le hlen)))
      rw [treeWith_succ _ hlo hhi, treeWith_succ _ hlo hhi, ih, ih]
      · rw [List.length_drop]; omega
      · rw [List.length_take]; omega

/-- Any tree of R77 whose fuel suffices splits into trees of the same fuel. -/
theorem treeWith_split {k : Nat} (hlo : 2 ^ e < xs.length) (hhi : xs.length ≤ 2 * 2 ^ e) (hlen : xs.length ≤ 2 ^ k) :
    treeWith op (k + 1) xs = op (treeWith op (k + 1) (xs.take (2 ^ e))) (treeWith op (k + 1) (xs.drop (2 ^ e))) := by
  rw [treeWith_succ k hlo hhi, treeWith_fuel k (xs.take _), treeWith_fuel k (xs.drop _)]
  · rw [List.length_drop]; omega
  · rw [List.length_take]; omega

end Tree

/-! ### The obligation -/

/-- Settles O8: 2^32 values need far less than the fuel that the tree is given, so the split of `treeWith` is that of the tree. -/
theorem pairwiseTree : Obligations.PairwiseTree := by
  unfold Obligations.PairwiseTree
  refine ⟨fun _ => rfl, fun xs e hlo hhi hmax => ?_⟩
  exact treeWith_split hlo hhi (hmax.trans (Nat.pow_le_pow_right (by omega) (by omega)))

end Sys2Proof

/-! PROOFS. Registers and endings (R101, R112, R116, R117, R119): what a write of a general register changes, and the frame of the
ending of a request. -/

namespace Sys2Proof

open Sys2Proof.Machine

/-! ### General registers (R117) -/

@[simp] theorem reg_zero (w : Hw) : w.reg 0 = 0 := rfl

theorem reg_setReg_same (w : Hw) {d : Nat} (hd : d ≠ 0) (v : W64) : (w.setReg d v).reg d = v := by
  simp [Hw.setReg, Hw.reg, hd]

theorem reg_setReg_ne (w : Hw) {d i : Nat} (hi : i ≠ d) (v : W64) : (w.setReg d v).reg i = w.reg i := by
  unfold Hw.setReg
  split
  · rfl
  · simp only [Hw.reg, tget_tput_ne _ _ _ _ _ hi]

/-- A register write changes nothing of a hardware context but its general registers. -/
theorem setReg_eq (w : Hw) (d : Nat) (v : W64) : w.setReg d v = { w with g := (w.setReg d v).g } := by
  unfold Hw.setReg
  split <;> rfl

theorem setReg_frame (w : Hw) (d : Nat) (v : W64) :
    (w.setReg d v).pc = w.pc ∧ (w.setReg d v).t = w.t ∧ (w.setReg d v).tallies = w.tallies ∧ (w.setReg d v).board = w.board ∧
    (w.setReg d v).granules = w.granules ∧ (w.setReg d v).phase = w.phase := by
  rw [setReg_eq]
  exact ⟨rfl, rfl, rfl, rfl, rfl, rfl⟩

theorem setG_advance (b : Block) (k d : Nat) (v : W64) : (b.setG k d v).advance k = b.setHw k ((b.hw k).setReg d v).next :=
  setHw_advance b k _

/-! ### What changes one hardware context only -/

/-- Two blocks agree on memory, on its lines, and on every hardware context but one. -/
structure SameButHw (k : Nat) (b c : Block) : Prop where
  mem : c.mem = b.mem
  lines : c.lines = b.lines
  hw_ne : ∀ j, j ≠ k → c.hw j = b.hw j

namespace SameButHw

variable {k : Nat} {b c d : Block}

theorem refl (b : Block) : SameButHw k b b := ⟨rfl, rfl, fun _ _ => rfl⟩

theorem trans (h : SameButHw k b c) (i : SameButHw k c d) : SameButHw k b d :=
  ⟨i.mem.trans h.mem, i.lines.trans h.lines, fun j hj => (i.hw_ne j hj).trans (h.hw_ne j hj)⟩

/-- A fold of steps that each keep the agreement keeps it. -/
theorem foldl {α : Type} {f : Block → α → Block} (hf : ∀ a x, SameButHw k a (f a x)) (l : List α) (b : Block) :
    SameButHw k b (l.foldl f b) := by
  induction l generalizing b with
  | nil => exact refl b
  | cons x t ih => exact (hf b x).trans (ih _)

theorem updHw (b : Block) (f : Hw → Hw) : SameButHw k b (b.updHw k f) :=
  ⟨rfl, rfl, fun _ hj => Block.setHw_hw_ne _ _ _ _ hj⟩

theorem updLantern (b : Block) (l : Nat) (f : Lantern → Lantern) : SameButHw k b (b.updLantern l f) :=
  ⟨rfl, rfl, fun _ _ => rfl⟩

theorem dropRef (b : Block) (l id : Nat) : SameButHw k b (b.dropRef l id) := ⟨rfl, rfl, fun _ _ => rfl⟩

/-- The SINKs that wait at issue leave the sinkers, the chart, and the hardware context that issued them (R169). -/
theorem withdrawSinks (b : Block) (k : Nat) : SameButHw k b (b.withdrawSinks k) := by
  unfold Block.withdrawSinks
  refine trans ?_ (foldl (fun c o => ?_) _ _)
  · split
    · exact refl b
    · exact ⟨rfl, rfl, fun _ _ => rfl⟩
  · exact ((updHw c _).trans (dropRef _ _ _)).trans (updHw _ _)

end SameButHw

/-! ### The ending of a request (R112, R119) -/

/-- A hardware context whose program has ended: it waits for nothing any more. -/
def Machine.Hw.endedAs (w : Hw) (st d : Nat) : Hw :=
  { w with phase := .ended st d, claimWant := [], waiting := false, lateKind := 0, tries := 0 }

theorem endReq_running_eq {b : Block} {k : Nat} (h : (b.hw k).phase = .running) (st d : Nat) : b.endReq k st d =
    ((b.withdrawSinks k).updHw k (fun w => w.endedAs st d)).updLantern (k / 4)
      (fun l => { l with claimers := l.claimers.filter (· != k % 4) }) := by
  simp only [Block.endReq, h, Hw.endedAs]

theorem endReq_running_frame {b : Block} {k : Nat} (h : (b.hw k).phase = .running) (st d : Nat) :
    SameButHw k b (b.endReq k st d) := by
  rw [endReq_running_eq h]
  exact ((SameButHw.withdrawSinks b k).trans (.updHw _ _)).trans (.updLantern _ _ _)

/-- A failure stands: a later ending does not replace it (R112, R119). -/
theorem endReq_failed {b : Block} {k st0 d0 : Nat} (hst : st0 ≠ 0) (h : (b.hw k).phase = .ended st0 d0) (st d : Nat) :
    b.endReq k st d = b := by
  obtain ⟨n, rfl⟩ := Nat.exists_eq_succ_of_ne_zero hst
  simp only [Block.endReq, h]

theorem endReq_free {b : Block} {k : Nat} (h : (b.hw k).phase = .free) (st d : Nat) : b.endReq k st d = b := by
  simp only [Block.endReq, h]

theorem canIssue_of_not_running {b : Block} {k : Nat} (h : (b.hw k).phase ≠ .running) : b.canIssue (k / 4) (k % 4) = false := by
  have hk : hwNo (k / 4) (k % 4) = k := Nat.div_add_mod' k 4
  simp [Block.canIssue, hk, h]

/-! ### The obligation -/

/-- Settles O5: the register write with the advance as one update of the hardware context, the ending by the phase it finds. -/
theorem registerWriteAndEnding : Obligations.RegisterWriteAndEnding := by
  unfold Obligations.RegisterWriteAndEnding
  constructor
  · intro b k d v t
    have ht : t = b.setHw k ((b.hw k).setReg d v).next := setG_advance b k d v
    have hk : t.hw k = ((b.hw k).setReg d v).next := ht ▸ Block.setHw_hw _ _ _
    obtain ⟨hpc, htile, htallies, hboard, hgran, hphase⟩ := setReg_frame (b.hw k) d v
    exact ⟨rfl, fun hd => hk ▸ reg_setReg_same (b.hw k) hd v, fun i hi => hk ▸ reg_setReg_ne (b.hw k) hi v,
      (congrArg Hw.pc hk).trans (congrArg (· + 8) hpc), hk ▸ htile, hk ▸ htallies, hk ▸ hboard, hk ▸ hgran, hk ▸ hphase,
      fun j hj => ht ▸ Block.setHw_hw_ne _ _ _ _ hj, ht ▸ rfl⟩
  · intro b k st d
    refine ⟨fun h => ?_, fun st0 d0 hst h => endReq_failed hst h st d, fun h => endReq_free h st d⟩
    have hended := endReq_running b k st d h
    obtain ⟨hmem, hlines, hothers⟩ := endReq_running_frame h st d
    exact ⟨hended, canIssue_of_not_running (by simp [hended]), hmem, hlines, hothers⟩

end Sys2Proof

/-! PROOFS. The start of a program (R109): what the hardware context, the accumulator sets and memory hold when it begins. -/

namespace Sys2Proof

open Sys2Proof.Machine

/-- Watches the line of a completion record; a watch that is refused is counted (R112, R260). -/
def watchRecord (b : Block) (l pa : Nat) : Block :=
  match b.lineAt pa with
  | some ln => (b.watch l ln).getD (b.watchRefused ln)
  | none => b

/-! ### Blocks that agree on programs, sets and memory -/

/-- Two blocks agree on hardware contexts, accumulator sets and memory. -/
structure SamePrograms (b c : Block) : Prop where
  hws : c.hws = b.hws
  sets : c.sets = b.sets
  mem : c.mem = b.mem

namespace SamePrograms

variable {b c d : Block}

theorem refl (b : Block) : SamePrograms b b := ⟨rfl, rfl, rfl⟩

theorem trans (h : SamePrograms b c) (k : SamePrograms c d) : SamePrograms b d :=
  ⟨k.hws.trans h.hws, k.sets.trans h.sets, k.mem.trans h.mem⟩

theorem hw (h : SamePrograms b c) (k : Nat) : c.hw k = b.hw k := congrArg (fun t => tget ({} : Hw) t k) h.hws

theorem accSet (h : SamePrograms b c) (n : Nat) : c.accSet n = b.accSet n := congrArg (fun t => tget ({} : AccSet) t n) h.sets

/-- A completion line is watched or its refused watch is counted: that changes the line or a count (R112, R260). -/
theorem watchRecord (b : Block) (l pa : Nat) : SamePrograms b (watchRecord b l pa) := by
  unfold Sys2Proof.watchRecord Block.watch
  split
  · split <;> exact ⟨rfl, rfl, rfl⟩
  · exact refl b

theorem updRequest (b : Block) (n : Nat) (f : Request → Request) : SamePrograms b (b.updRequest n f) := ⟨rfl, rfl, rfl⟩

theorem reOp (b : Block) (l : Nat) : SamePrograms b (b.reOp l) := ⟨rfl, rfl, rfl⟩

end SamePrograms

/-! ### Accumulator sets given to a hardware context -/

/-- Gives sets of a lantern to a hardware context. -/
def giveSets (b : Block) (l h : Nat) (ns : List Nat) : Block :=
  ns.foldl (fun c n => c.setAccSet (l * 32 + n) { owner := some h }) b

section GiveSets

variable {b : Block} {l h : Nat} {ns : List Nat}

theorem giveSets_frame : (giveSets b l h ns).hws = b.hws ∧ (giveSets b l h ns).mem = b.mem := by
  induction ns generalizing b with
  | nil => exact ⟨rfl, rfl⟩
  | cons n ns ih => exact ih (b := b.setAccSet _ _)

/-- A set that the hardware context holds already stays as it is. -/
theorem giveSets_accSet_of_held {m : Nat} (hm : b.accSet m = { owner := some h }) :
    (giveSets b l h ns).accSet m = { owner := some h } := by
  induction ns generalizing b with
  | nil => exact hm
  | cons n ns ih =>
    refine ih (b := b.setAccSet _ _) ?_
    by_cases hn : m = l * 32 + n
    · rw [hn, Block.setAccSet_accSet]
    · rw [Block.setAccSet_accSet_ne _ _ _ _ hn, hm]

theorem giveSets_accSet_of_mem {n : Nat} (hn : n ∈ ns) : (giveSets b l h ns).accSet (l * 32 + n) = { owner := some h } := by
  induction ns generalizing b with
  | nil => cases hn
  | cons m ns ih =>
    cases hn with
    | head => exact giveSets_accSet_of_held (b := b.setAccSet _ _) (Block.setAccSet_accSet _ _ _)
    | tail _ hmem => exact ih hmem

end GiveSets

/-! ### The start (R102, R109) -/

theorem endHold_mem (b : Block) (t : TakeAt) : (b.endHold t).mem = b.mem := by
  unfold Block.endHold
  split <;> rfl

/-- A hardware context whose registers g1 to g5 hold the arguments' address, the lantern, its rank among the named ones, their
number and the record (R109). -/
def withArguments (w : Hw) (t : TakeAt) (j : JoinInfo) (r : BitVec 1024) : Hw :=
  ((((w.setReg 1 (BitVec.ofNat 64 (fld r 128 64))).setReg 2 (BitVec.ofNat 64 t.l)).setReg 3
    (BitVec.ofNat 64 (popBelow j.mask t.l))).setReg 4 (BitVec.ofNat 64 (popBelow j.mask 64))).setReg 5 (BitVec.ofNat 64 j.record)

theorem withArguments_reg_ge (w : Hw) (t : TakeAt) (j : JoinInfo) (r : BitVec 1024) {n : Nat} (hn : 6 ≤ n) :
    (withArguments w t j r).reg n = w.reg n := by
  unfold withArguments
  rw [reg_setReg_ne _ (by omega), reg_setReg_ne _ (by omega), reg_setReg_ne _ (by omega), reg_setReg_ne _ (by omega),
    reg_setReg_ne _ (by omega)]

/-- A hardware context at the start of a program (R102, R109). -/
def startedHw (t : TakeAt) (j : JoinInfo) (r : BitVec 1024) (hd : Line) (granules sets : List Nat) : Hw :=
  { withArguments (hwOf j r 0) t j r with
    phase := .running, codeBytes := fld hd 32 32, granules := granules, sets := sets }

/-- The registers that a program does not find its arguments in are zero (R109). -/
theorem startedHw_reg_ge (t : TakeAt) (j : JoinInfo) (r : BitVec 1024) (hd : Line) (gs ss : List Nat) {n : Nat} (hn : 6 ≤ n) :
    (startedHw t j r hd gs ss).reg n = 0 :=
  (withArguments_reg_ge (hwOf j r 0) t j r hn).trans (ite_self 0)

/-- A block once a program has its hardware context, its granules and its sets (R102). -/
def equipped (b : Block) (t : TakeAt) (j : JoinInfo) (r : BitVec 1024) (hd : Line) (h : Nat) (gs ss : List Nat) : Block :=
  giveSets (((b.passTake t).zeroGranules t.l gs).setHw (hwNo t.l h) (startedHw t j r hd gs ss)) t.l h ss

theorem equipped_hw (b : Block) (t : TakeAt) (j : JoinInfo) (r : BitVec 1024) (hd : Line) (h : Nat) (gs ss : List Nat) :
    (equipped b t j r hd h gs ss).hw (hwNo t.l h) = startedHw t j r hd gs ss :=
  (congrArg (fun x => tget ({} : Hw) x (hwNo t.l h)) giveSets_frame.1).trans (Block.setHw_hw _ _ _)

theorem equipped_mem (b : Block) (t : TakeAt) (j : JoinInfo) (r : BitVec 1024) (hd : Line) (h : Nat) (gs ss : List Nat) :
    (equipped b t j r hd h gs ss).mem = b.mem :=
  giveSets_frame.2.trans (endHold_mem b t)

/-- The start of a program: what it is equipped with, its request, the watch of its completion line, and the lantern's operating
point. -/
theorem startProgram_eq (b : Block) (t : TakeAt) (j : JoinInfo) (r : BitVec 1024) (hd : Line) (h : Nat) :
    b.startProgram t j r hd h = (watchRecord
      ((equipped b t j r hd h (((b.endHold t).freeGranules t.l).take (fld hd 8 8))
        (((b.endHold t).freeSets t.l).take (fld hd 16 6))).updRequest j.req
          (fun x => { x with mask := j.mask, ctx := j.ctx, compPa := j.pa })) t.l j.pa).reOp t.l := rfl

/-- After what a program is equipped with, its start changes hardware contexts, sets and memory no more. -/
theorem startProgram_samePrograms (b : Block) (t : TakeAt) (j : JoinInfo) (r : BitVec 1024) (hd : Line) (h : Nat) :
    ∃ gs ss, SamePrograms (equipped b t j r hd h gs ss) (b.startProgram t j r hd h) :=
  ⟨_, _, startProgram_eq b t j r hd h ▸ ((SamePrograms.updRequest _ _ _).trans (.watchRecord _ _ _)).trans (.reOp _ _)⟩

/-! ### The obligation -/

/-- Settles O24: the hardware context is `startedHw`, whose fields are read off; its sets are those that it was given. -/
theorem programStart : Obligations.ProgramStart := by
  unfold Obligations.ProgramStart
  intro b t j r hd h _ _ c w
  obtain ⟨gs, ss, hsame⟩ := startProgram_samePrograms b t j r hd h
  have hw : w = startedHw t j r hd gs ss := (hsame.hw _).trans (equipped_hw b t j r hd h gs ss)
  have hsets : ∀ n ∈ ss, c.accSet (t.l * 32 + n) = { owner := some h } :=
    fun n hn => (hsame.accSet _).trans (giveSets_accSet_of_mem hn)
  have hmem : c.mem = b.mem := hsame.mem.trans (equipped_mem b t j r hd h gs ss)
  clear_value w
  subst hw
  exact ⟨rfl, rfl, rfl, rfl, rfl, rfl, rfl, rfl, rfl, rfl, rfl, rfl, rfl, fun n hn _ => startedHw_reg_ge _ _ _ _ _ _ hn, rfl, rfl,
    fun _ => rfl, hsets, hmem⟩

end Sys2Proof

/-! PROOFS. Joins and their records (R110, R112, R115, R202): what JOIN, ABANDON and LATENESS_EXPIRY do in each case, and the closing
of a completion record. -/

namespace Sys2Proof

open Sys2Proof.Machine

/-! ### What the commands run -/

theorem exec_join (l h : Nat) (s : State) : exec (.join l h) s = execJoin l h s := rfl
theorem exec_abandon (l h : Nat) (s : State) : exec (.abandon l h) s = execAbandon l h s := rfl
theorem exec_latenessExpiry (l h : Nat) (s : State) : exec (.latenessExpiry l h) s = execLatenessExpiry l h s := rfl

section Programs

variable {s : State} {l h : Nat}

/-! ### JOIN (R110, R405) -/

theorem join_running (hp : (s.blk.hw (hwNo l h)).phase = .running) : exec (.join l h) s = .next s := by
  simp only [exec_join, execJoin, State.run_eq, hp]

section Ended

variable {st d : Nat} (hp : (s.blk.hw (hwNo l h)).phase = .ended st d) (hk : (s.blk.hw (hwNo l h)).check = none)
include hp hk

/-- A lost lantern is joined by its tile (R405). -/
theorem join_lost (hl : (s.blk.lantern l).loss = .lost) : exec (.join l h) s =
    .next (s.withBlk (s.blk.joinHw l h (s.blk.hw (hwNo l h)).compPa st d)) := by
  simp only [exec_join, execJoin, State.run_eq, hp, hk, hl, if_true]

section Alive

variable {st1 d1 : Nat} (hl : (s.blk.lantern l).loss = .alive)
  (hdrained : ((s.blk.drainStores l).hw (hwNo l h)).phase = .ended st1 d1)
include hl hdrained

theorem join_waits (hr : (s.blk.drainStores l).joinReady l h = false) :
    exec (.join l h) s = .next (s.withBlk (s.blk.drainStores l)) := by
  simp only [exec_join, execJoin, State.run_eq, hp, hk, hl, hdrained, hr, reduceCtorEq, if_false, Bool.not_false, if_true]

theorem join_reaches {b1 : Block} {pa : Nat} {x : Xl} (hr : (s.blk.drainStores l).joinReady l h = true)
    (ht : (s.blk.drainStores l).translate l (s.blk.hw (hwNo l h)).ctx (s.blk.hw (hwNo l h)).comp 4 false = (b1, .ok pa x))
    (hdom : (b1.dom pa).isSome = true) : exec (.join l h) s = .next (s.withBlk (b1.joinHw l h pa st1 d1)) := by
  have hmapped := Option.isNone_eq_false_iff.2 hdom
  simp only [exec_join, execJoin, State.run_eq, hp, hk, hl, hdrained, hr, ht, hmapped, reduceCtorEq, if_false, Bool.not_true,
    Bool.false_eq_true]

end Alive

end Ended

/-! ### ABANDON (R112, R154) -/

theorem abandon_unnoticed (hn : (s.blk.hw (hwNo l h)).cnotice = false) : exec (.abandon l h) s = .next s := by
  simp [exec_abandon, execAbandon, hn]

section Noticed

variable {o : Nat} (hn : (s.blk.hw (hwNo l h)).cnotice = true) (hp : (s.blk.hw (hwNo l h)).phase = .running)
  (hl : (s.blk.lantern l).loss = .alive) (hread : s.blk.lampRead l (s.blk.hw (hwNo l h)).compPa 4 = .ok o)
include hn hp hl hread

/-- A running program whose completion record is noticed reads it, and stops where its STATUS is nonzero. -/
theorem abandon_reads :
    let c := (s.blk.homeRead (s.blk.hw (hwNo l h)).compPa).updHw (hwNo l h) (fun y => { y with cnotice := false })
    exec (.abandon l h) s = .next (s.withBlk (if o / 2 ^ 24 = 0 then c
      else (c.endReq (hwNo l h) 4 0).stopGroups l (s.blk.hw (hwNo l h)).req)) := by
  simp [exec_abandon, execAbandon, hn, hp, hl, hread]

end Noticed

/-! ### LATENESS_EXPIRY (R113, R202) -/

theorem latenessExpiry_served (hw : s.blk.stillLate (hwNo l h) = false) : exec (.latenessExpiry l h) s = .next s := by
  simp [exec_latenessExpiry, execLatenessExpiry, hw]

theorem latenessExpiry_late (hp : (s.blk.hw (hwNo l h)).phase = .running) (hw : s.blk.stillLate (hwNo l h) = true) :
    exec (.latenessExpiry l h) s = .next (s.withBlk ((s.blk.endReq (hwNo l h) 0x10 (s.blk.hw (hwNo l h)).lateKind).updDomain
      (s.blk.hw (hwNo l h)).lateDomain (fun y => { y with lateWaits := y.lateWaits + 1 }))) := by
  simp [exec_latenessExpiry, execLatenessExpiry, hp, hw]

end Programs

/-! ### The completion record (R110, R115) -/

/-- OUTCOME's word spells the status, the lantern counted down from 63, and the DETAIL. -/
theorem outcomeWord_fields {l st d : Nat} (hl : l < 64) (hd : d < 2 ^ 16) : outcomeWord l st d / 2 ^ 24 = st ∧
    outcomeWord l st d / 2 ^ 16 % 256 = 63 - l ∧ outcomeWord l st d % 2 ^ 16 = d := by
  unfold outcomeWord
  omega

/-! ### The obligation -/

/-- Settles O25: JOIN, ABANDON and LATENESS_EXPIRY case by case; the closing of a record is its definition by MSI_EN. -/
theorem joins : Obligations.Joins := by
  unfold Obligations.Joins
  constructor
  · intro s l h k b
    refine ⟨?_, fun st d hp hk hl => join_lost hp hk hl, join_running, ?_, abandon_unnoticed, latenessExpiry_late,
      latenessExpiry_served⟩
    · intro st d st1 d1 hp hk hl c hdrained
      exact ⟨join_waits hp hk hl hdrained, fun hr b1 pa x ht hdom => join_reaches hp hk hl hdrained hr ht hdom⟩
    · intro o hn hp hl hread c
      have hreads := abandon_reads hn hp hl hread
      exact ⟨fun ho => by rw [hreads, if_neg ho], fun ho => by rw [hreads, if_pos ho]⟩
  · intro b j
    refine ⟨fun l st d hl _ hd => outcomeWord_fields hl hd, fun hm => ?_, fun hm => ?_⟩
    · simp only [Block.closeRecord, hm, Bool.false_eq_true, if_false]
    · simp only [Block.closeRecord, hm, if_true]

end Sys2Proof

/-! PROOFS. Taking records (R106 to R109, R407, R420, R425): the notice of a queue and a head that waits, which head TAKE handles, the
checks of a record, and the record whose program starts. -/

namespace Sys2Proof

open Sys2Proof.Machine

/-! ### What the commands run -/

theorem exec_watchNotice (l slot : Nat) (s : State) : exec (.watchNotice l slot) s = execWatchNotice l slot s := rfl
theorem exec_take (l : Nat) (s : State) : exec (.take l) s = execTake l s := rfl
theorem exec_queueHeadWait (l slot : Nat) (s : State) : exec (.queueHeadWait l slot) s = execQueueHeadWait l slot s := rfl

/-! ### The checks of a record (R108) -/

/-- A check that holds leaves the verdict to the checks after it; one that fails decides. -/
theorem firstErr_check {p q : Prop} [Decidable p] [Decidable q] (h : p ↔ ¬q) (e : Nat × Nat) (cs : List Chk) :
    firstErr ((if p then some e else none) :: cs) = if q then firstErr cs else some e := by
  by_cases hq : q
  · rw [if_pos hq, if_neg (h.not_left.2 hq), firstErr]
  · rw [if_neg hq, if_pos (h.2 hq), firstErr]

section Record

variable (b : Block) (q : Queue) (r : BitVec 1024)

/-- The lanterns that a record names. -/
abbrev namedLanterns : W64 := BitVec.ofNat 64 (fld r 192 64)

/-- Check 3: the reserved fields are zero. -/
abbrev RecordZeros : Prop :=
  fld r 4 4 = 0 ∧ fld r 17 15 = 0 ∧ fld r 48 16 = 0 ∧ fld r 395 21 = 0 ∧ fld r 480 32 = 0 ∧ fld r 576 448 = 0

/-- Check 6: some lantern is named, each of them watches the queue and belongs to the context. -/
abbrev RecordLanterns : Prop :=
  namedLanterns r ≠ 0 ∧ namedLanterns r &&& ~~~q.watchers = 0 ∧ namedLanterns r &&& ~~~(b.ctx q.ctx).lanterns = 0

/-- Check 7: ENTRY and ARGS are aligned. -/
abbrev RecordPlaces : Prop := fld r 64 64 % 64 = 0 ∧ fld r 128 64 % 64 = 0

/-- Check 8: an MSI goes to an interrupt file. -/
abbrev RecordFile : Prop := bit r 16 = true → imsicBase ≤ fld r 320 64 ∧ fld r 320 64 < imsicEnd ∧ fld r 384 11 ≠ 0

/-- Checks 2 to 8 in their order. -/
theorem recordErr_eq : b.recordErr q r =
    if fld r 0 4 = 1 then
      if RecordZeros r then
        if (b.ctx q.ctx).st = .active then
          if fld r 8 8 = q.ctx then
            if RecordLanterns b q r then
              if RecordPlaces r then
                if RecordFile r then none else some (0x40, 4)
              else some (0x40, 3)
            else some (0x40, 2)
          else some (0x40, 1)
        else some (8, 0)
      else some (0x38, 0)
    else some (0x3C, 0) := by
  have hzeros : (fld r 4 4 ≠ 0 ∨ fld r 17 15 ≠ 0 ∨ fld r 48 16 ≠ 0 ∨ fld r 395 21 ≠ 0 ∨ fld r 480 32 ≠ 0 ∨
      fld r 576 448 ≠ 0) ↔ ¬RecordZeros r := by simp only [RecordZeros, not_and_or, ne_eq]
  have hlanterns : (namedLanterns r = 0 ∨ namedLanterns r &&& ~~~q.watchers ≠ 0 ∨
      namedLanterns r &&& ~~~(b.ctx q.ctx).lanterns ≠ 0) ↔ ¬RecordLanterns b q r := by
    simp only [RecordLanterns, not_and_or, ne_eq, not_not]
  have hplaces : (fld r 64 64 % 64 ≠ 0 ∨ fld r 128 64 % 64 ≠ 0) ↔ ¬RecordPlaces r := by
    simp only [RecordPlaces, not_and_or, ne_eq]
  have hfile : (bit r 16 ∧ ¬(imsicBase ≤ fld r 320 64 ∧ fld r 320 64 < imsicEnd ∧ fld r 384 11 ≠ 0)) ↔ ¬RecordFile r :=
    Classical.not_imp.symm
  unfold Block.recordErr
  dsimp only
  rw [firstErr_check (q := fld r 0 4 = 1) Iff.rfl, firstErr_check hzeros,
    firstErr_check (q := (b.ctx q.ctx).st = .active) Iff.rfl, firstErr_check (q := fld r 8 8 = q.ctx) Iff.rfl,
    firstErr_check hlanterns, firstErr_check hplaces, firstErr_check hfile, firstErr]

variable {b q r}

theorem active_of_recordErr_eq_none (h : b.recordErr q r = none) : (b.ctx q.ctx).st = .active := by
  by_contra hst
  rw [recordErr_eq, if_neg hst] at h
  split at h
  · split at h <;> cases h
  · cases h

end Record

/-! ### Notices and heads that wait (R106) -/

section Slot

variable {s : State} {l slot : Nat} {x : Slot} (hslot : tfind (s.blk.lantern l).slots slot = some x)
include hslot

theorem queueHeadWait_waits (hhead : x.pos ≠ x.tail) : exec (.queueHeadWait l slot) s = .next (s.withBlk (s.blk.updLantern l
    (fun z => { z with slots := tput z.slots slot { x with starved := true } }))) := by
  simp only [exec_queueHeadWait, execQueueHeadWait, State.run_eq, hslot, if_neg hhead]

theorem queueHeadWait_empty (hhead : x.pos = x.tail) : exec (.queueHeadWait l slot) s = .next s := by
  simp only [exec_queueHeadWait, execQueueHeadWait, State.run_eq, hslot, if_pos hhead]

section Notice

variable {tail : Nat} (hnotice : x.notice = true) (hloss : (s.blk.lantern l).loss ≠ .fencing)
  (hctx : (s.blk.ctx (s.blk.queue x.queue).ctx).st ≠ .extinguished)
  (hread : s.blk.lampRead l (s.blk.queue x.queue).header 4 = .ok tail)
include hnotice hloss hctx hread

/-- The watcher of a queue takes over TAIL at a notice; where TAIL is more than the queue's length ahead, the oldest records that
still stand in the ring come next. -/
theorem watchNotice_reads :
    let n := 2 ^ (s.blk.queue x.queue).log2
    let c := s.blk.homeRead (s.blk.queue x.queue).header
    exec (.watchNotice l slot) s = .next (s.withBlk (
      if n < (tail + 2 ^ 32 - x.pos) % 2 ^ 32 then (c.updLantern l (fun z =>
        { z with slots := tput z.slots slot { x with notice := false, tail := tail, pos := (tail + 2 ^ 32 - n) % 2 ^ 32,
                                                     starved := false, hold := none } })).raise
          (unitLantern l) .queueOverrun [x.queue]
      else c.updLantern l (fun z => { z with slots := tput z.slots slot { x with notice := false, tail := tail } }))) := by
  intro n c
  have hgo : ¬((!x.notice) = true ∨ (s.blk.lantern l).loss = .fencing ∨
      (s.blk.ctx (s.blk.queue x.queue).ctx).st = .extinguished) := by
    simp [hnotice, hloss, hctx]
  simp only [exec_watchNotice, execWatchNotice, State.run_eq, hslot, if_neg hgo, hread, n, c]

end Notice

end Slot

/-! ### Which head is handled (R106, R420, R425) -/

section Take

variable {s : State} {l : Nat}

theorem take_unlit (hlevel : s.blk.start.level ≠ .lit) : exec (.take l) s = .next s := by
  simp only [exec_take, execTake, State.run_eq, if_pos hlevel]

section Lit

variable (hlevel : s.blk.start.level = .lit)
include hlevel

theorem take_condemned (hsvc : s.blk.silent.svc = .condemned) : exec (.take l) s = .next s := by
  simp [exec_take, execTake, hlevel, hsvc]

theorem take_draining (hsvc : s.blk.silent.svc = .draining) : exec (.take l) s = .next (s.withBlk (s.blk.takeCheck l)) := by
  simp [exec_take, execTake, hlevel, hsvc]

theorem take_inService (hsvc : s.blk.silent.svc = .inService) :
    exec (.take l) s = .next (s.withBlk (s.blk.takeFirst l (s.blk.takeOrder l))) := by
  simp [exec_take, execTake, hlevel, hsvc]

end Lit

end Take

/-- The first slot of the order is handled, or else the rest of the order. -/
theorem takeFirst_cons {b : Block} {l i : Nat} {x : Slot} (hslot : tfind (b.lantern l).slots i = some x) (rest : List Nat) :
    b.takeFirst l (i :: rest) =
      (b.takeHead { l := l, slot := i, queue := x.queue, record := x.pos, held := none }).getD (b.takeFirst l rest) := by
  rw [Block.takeFirst, hslot]
  dsimp only
  cases b.takeHead { l := l, slot := i, queue := x.queue, record := x.pos, held := none } <;> rfl

/-! ### A record whose program starts (R107 to R109, R407) -/

section Head

variable {b b1 : Block} {t : TakeAt} {pa : Nat} {r : BitVec 1024}

/-- A record that passes checks 1 to 8 and names the lantern goes on to its program header. -/
theorem takeHead_passes {w0 w1 : Nat} {x : Xl} {q : Queue} {at_ : Nat} (hq : b.queue t.queue = q)
    (hat : q.ring + 128 * (t.record % 2 ^ q.log2) = at_) (hwords : b.lampWords t.l 64 at_ 2 = .ok [w0, w1])
    (hr : BitVec.ofNat 1024 (w0 + w1 * 2 ^ 512) = r) (herr : b.recordErr q r = none) (hnamed : (namedLanterns r).getLsbD t.l = true)
    (halign : fld r 256 64 % 64 = 0)
    (hcomp : ((b.homeRead at_).homeRead (at_ + 64)).translate t.l q.ctx (fld r 256 64) 4 false = (b1, .ok pa x))
    (hdom : (b1.dom pa).isSome = true) (hloss : (b1.lantern t.l).loss ≠ .fencing) (hgone : b1.gone t.l = false) :
    b.takeHead t = b1.takeHeader t (joinOf t.queue q r t.record pa) r := by
  have hactive := active_of_recordErr_eq_none herr
  have hmapped := Option.isNone_eq_false_iff.2 hdom
  simp only [Block.takeHead, hq, hat, hwords, List.getD_cons_zero, List.getD_cons_succ, hr, herr, hnamed, halign, hcomp, hmapped,
    hloss, hgone, hactive, reduceCtorEq, if_false, Option.isNone_none, Bool.and_true, Bool.or_true, Bool.not_true,
    Bool.false_eq_true, ne_eq, not_true_eq_false]

/-- A program whose header passes its checks, whose lanterns are there and for which the resources are free starts. -/
theorem takeHeader_starts {j : JoinInfo} {b2 : Block} {epa v h o : Nat} {x : Xl} (hheld : t.held = none) (hargs : fld r 128 64 = 0)
    (hentry : b1.translate t.l j.ctx (fld r 64 64) 9 false = (b2, .ok epa x)) (hread : b2.lampRead t.l epa 64 = .ok v)
    (herr : headerErr (BitVec.ofNat 512 v) = none) (hlamps : ∀ i ∈ setBits j.mask 64, b2.takesHeld i = false ∧ b2.gone i = false)
    (hfree : (b2.homeRead epa).freeCtx t.l = some h)
    (hgranules : fld (BitVec.ofNat 512 v) 8 8 ≤ ((b2.homeRead epa).freeGranules t.l).length)
    (hsets : fld (BitVec.ofNat 512 v) 16 6 ≤ ((b2.homeRead epa).freeSets t.l).length)
    (hcomp : (b2.homeRead epa).lampRead t.l j.pa 4 = .ok o) (hopen : o / 2 ^ 24 = 0) :
    b1.takeHeader t j r = some ((b2.homeRead epa).startProgram t j r (BitVec.ofNat 512 v) h) := by
  have hheldNo : (setBits j.mask 64).any b2.takesHeld = false := List.any_eq_false.2 fun i hi => Bool.eq_false_iff.1 (hlamps i hi).1
  have hgoneNo : (setBits j.mask 64).any b2.gone = false := List.any_eq_false.2 fun i hi => Bool.eq_false_iff.1 (hlamps i hi).2
  have hroom : ¬(((b2.homeRead epa).freeGranules t.l).length < fld (BitVec.ofNat 512 v) 8 8 ∨
      ((b2.homeRead epa).freeSets t.l).length < fld (BitVec.ofNat 512 v) 16 6) := by omega
  have hend : (b2.homeRead epa).endHold t = b2.homeRead epa := by simp only [Block.endHold, hheld]
  simp only [Block.takeHeader, hheld, hargs, hentry, hread, herr, hheldNo, hgoneNo, hend, hfree, hroom, hcomp, hopen, ne_eq,
    not_true_eq_false, false_and, Bool.false_eq_true, if_true, if_false, Option.none_or]

end Head

/-! ### The obligation -/

/-- Settles O23: notices and waiting heads by their slot, TAKE by the level, the service state and the first slot of its order; the
checks of a record by the nested conditions of `recordErr_eq`. -/
theorem takes : Obligations.Takes := by
  unfold Obligations.Takes
  constructor
  · intro s l b
    refine ⟨?_, fun slot x hslot => ⟨queueHeadWait_waits hslot, queueHeadWait_empty hslot⟩, take_unlit, take_condemned,
      take_draining, ?_⟩
    · intro slot x tail hslot hnotice hloss hctx hread n c
      have hreads := watchNotice_reads hslot hnotice hloss hctx hread
      exact ⟨fun hn => by rw [hreads, if_neg (Nat.not_lt.2 hn)], fun hn => by rw [hreads, if_pos hn]⟩
    · intro hlevel hsvc
      have htake := take_inService (l := l) hlevel hsvc
      refine ⟨fun horder => ?_, ?_⟩
      · rw [htake, horder, Block.takeFirst]
      · intro i rest x horder hslot t
        rw [horder, takeFirst_cons hslot] at htake
        refine ⟨fun b1 hhead => ?_, fun hhead => ?_, ?_⟩
        · rw [htake, hhead, Option.getD_some]
        · rw [htake, hhead, Option.getD_none]
        · intro q at_ w0 w1 hwords r mask herr hnamed halign hargs b1 pa e1 hcomp hdom hloss hgone b2 epa e2 hentry v hread hd c hhdr
            hlamps h hfree hgranules hsets o hrecord hopen
          have hhead := takeHead_passes (t := t) rfl rfl hwords rfl herr hnamed halign hcomp hdom hloss hgone
          have hstart := takeHeader_starts (t := t) (r := r) (j := joinOf x.queue q r x.pos pa) rfl hargs hentry hread hhdr hlamps
            hfree hgranules hsets hrecord hopen
          rw [htake, hhead.trans hstart, Option.getD_some]
  · intro b q r mask level zeros active own lanterns places file
    have hchecks := recordErr_eq b q r
    refine ⟨fun h2 => ?_, fun h2 h3 => ?_, fun h2 h3 h4 => ?_, fun h2 h3 h4 h5 => ?_, fun h2 h3 h4 h5 h6 => ?_,
      fun h2 h3 h4 h5 h6 h7 => ?_, fun h2 h3 h4 h5 h6 h7 h8 => ?_, fun h2 h3 h4 h5 h6 h7 h8 => ?_⟩
    · rw [hchecks, if_neg h2]
    · rw [hchecks, if_pos h2, if_neg h3]
    · rw [hchecks, if_pos h2, if_pos h3, if_neg h4]
    · rw [hchecks, if_pos h2, if_pos h3, if_pos h4, if_neg h5]
    · rw [hchecks, if_pos h2, if_pos h3, if_pos h4, if_pos h5, if_neg h6]
    · rw [hchecks, if_pos h2, if_pos h3, if_pos h4, if_pos h5, if_pos h6, if_neg h7]
    · rw [hchecks, if_pos h2, if_pos h3, if_pos h4, if_pos h5, if_pos h6, if_pos h7, if_neg h8]
    · rw [hchecks, if_pos h2, if_pos h3, if_pos h4, if_pos h5, if_pos h6, if_pos h7, if_pos h8]

end Sys2Proof

/-! PROOFS. The scalar instructions of a lamp program (R116, R118, R119, R123, R124, R125, R142): what an integer, FP32 or control
instruction leaves whose fetch succeeds, by the form of its class. -/

namespace Sys2Proof

open Sys2Proof.Machine

/-! ### The forms of the classes -/

section Forms

variable {s : State} {l h op : Nat} {w : W64} {b1 : Block} (hf : Fetches s.blk l h b1 w) (ho : fld w 0 8 = op)
include hf ho

/-- A set reserved bit ends the request with RSV_NONZERO (R118, R119). -/
theorem Fetches.run_reserved {illegal rsv : Bool} (hi : illegal = false) (hr : rsv = true) (body : Block → Block) :
    s.run (fun b => b.issue l h w op illegal rsv body) = .next (s.withBlk (b1.endReq (hwNo l h) 0x38 1)) := by
  simp [hf.issue ho, hi, hr]

/-- A sub-code that the instruction does not have is ILLEGAL (R119). -/
theorem Fetches.run_illegal {illegal rsv : Bool} (hi : illegal = true) (body : Block → Block) :
    s.run (fun b => b.issue l h w op illegal rsv body) = .next (s.withBlk (b1.exc (hwNo l h) 1)) := by
  simp [hf.issue ho, hi]

theorem integer_writes (hr : intRsv w = false) (f : W64 → W64 → W64) :
    s.run (fun b => b.integer l h w op f) = .next (s.withBlk ((b1.setG (hwNo l h) (rD w)
      (f ((b1.hw (hwNo l h)).reg (rA w)) (opB (b1.hw (hwNo l h)) w))).advance (hwNo l h))) :=
  hf.run_body ho rfl hr _

theorem float_writes (hr : intRsv w = false) (f : W32 → W32 → W64) :
    s.run (fun b => b.float l h w op f) = .next (s.withBlk ((b1.setG (hwNo l h) (rD w)
      (f (((b1.hw (hwNo l h)).reg (rA w)).setWidth 32) ((opB (b1.hw (hwNo l h)) w).setWidth 32))).advance (hwNo l h))) :=
  hf.run_body ho rfl hr _

theorem unary_writes (hr : unaryRsv w = false) (f : W64 → W64) :
    s.run (fun b => b.unary l h w op f) = .next (s.withBlk ((b1.setG (hwNo l h) (rD w)
      (f ((b1.hw (hwNo l h)).reg (rA w)))).advance (hwNo l h))) :=
  hf.run_body ho rfl hr _

/-- A control instruction whose reserved bits and unused fields are clear runs its body (R123). -/
theorem control_runs (h18 : fld w 18 14 = 0) {unused : Bool} (hu : unused = false) (body : Block → Block) :
    s.run (fun b => b.control l h w op unused body) = .next (s.withBlk (body b1)) :=
  hf.run_body ho rfl (by simp [h18, hu]) body

/-- A conditional branch goes to its target where its condition holds, to the next instruction where not (R123). -/
theorem branch_goes (h18 : fld w 18 14 = 0) (cond : W64 → W64 → Bool) :
    s.run (fun b => b.branch l h w op cond) = .next (s.withBlk (b1.goto (hwNo l h)
      (if cond ((b1.hw (hwNo l h)).reg (rD w)) ((b1.hw (hwNo l h)).reg (rA w)) then target (b1.hw (hwNo l h)).pc w
        else (b1.hw (hwNo l h)).pc + 8))) := by
  rw [apply_ite (b1.goto (hwNo l h))]
  exact control_runs hf ho h18 rfl _

end Forms

/-! ### Integer instructions (R124) -/

/-- gA[31:0] with IMM32 as its upper half (R124). -/
theorem lih_value (x : W64) (n : Nat) :
    wide (low32 x) + BitVec.ofNat 64 (n * 2 ^ 32) = BitVec.ofNat 64 (x.toNat % 2 ^ 32 + n * 2 ^ 32) := by
  have hlow : wide (low32 x) = BitVec.ofNat 64 (x.toNat % 2 ^ 32) := by
    refine BitVec.eq_of_toNat_eq ?_
    rw [wide, low32, BitVec.toNat_setWidth, BitVec.toNat_setWidth, BitVec.toNat_ofNat]
  rw [hlow, BitVec.ofNat_add]

theorem flag_slt (x y : W64) : flag (x.slt y) = if x.toInt < y.toInt then 1 else 0 := by
  simp [flag, BitVec.slt_eq_decide]

theorem flag_ult (x y : W64) : flag (x.ult y) = if x.toNat < y.toNat then 1 else 0 := by
  simp [flag, BitVec.ult_eq_decide]

theorem max_ult (x y : W64) : (if x.ult y then y else x) = if x.toNat < y.toNat then y else x := by
  simp [BitVec.ult_eq_decide]

/-- Settles O6: every function of gA and operand B by the form of the integer class, LIH by the same fetch. -/
theorem integerInstructions : Obligations.IntegerInstructions := by
  unfold Obligations.IntegerInstructions
  intro s l h w b1 hf k x y t
  refine ⟨fun hr => ?_, fun ho hi h24 h18 => ?_, fun ho hi => ?_, fun ho hr => hf.run_reserved ho rfl hr _⟩
  case refine_1 =>
    have hrun {op : Nat} (f : W64 → W64 → W64) (ho : fld w 0 8 = op) :
        s.run (fun b => b.integer l h w op f) = .next (t (f x y)) := integer_writes hf ho hr f
    refine ⟨hrun _, hrun _, hrun _, hrun _, hrun _, hrun _, hrun _, hrun _, hrun _, hrun _, hrun _, hrun _, ?_, ?_, ?_⟩
    · exact flag_slt x y ▸ hrun _
    · exact flag_ult x y ▸ hrun _
    · exact max_ult x y ▸ hrun _
  case refine_2 =>
    rw [← lih_value]
    exact hf.run_body ho (by simp [hi]) (by simp [h24, h18]) _
  case refine_3 => exact hf.run_illegal ho (by simp [hi]) _

/-! ### FP32 instructions (R70, R74, R125) -/

theorem isNan32_iff (p : W32) : isNan32 p = true ↔ val32 p = .nan := beq_iff_eq

/-- Minimum and maximum give the operand that is no NaN; no comparison holds of a NaN, and its conversion gives 0 (R125). -/
theorem nan_operand {p : W32} (hp : isNan32 p = true) (q : W32) :
    (isNan32 q = false → min32 p q = q ∧ min32 q p = q ∧ max32 p q = q ∧ max32 q p = q) ∧
    lt32 p q = false ∧ lt32 q p = false ∧ eq32 p q = false ∧ eq32 q p = false ∧ cvtIF p = 0 := by
  refine ⟨fun hq => ?_, ?_, ?_, ?_, ?_, ?_⟩
  · simp [min32, max32, hp, hq]
  · simp [lt32, hp]
  · simp [lt32, hp]
  · simp [eq32, hp]
  · simp [eq32, hp]
  · simp [cvtIF, (isNan32_iff p).1 hp]

/-- The sign of an FP32 number is not in its exponent. -/
theorem isFin32_magnitude (p : W32) : isFin32 (p &&& 0x7FFFFFFF#32) = isFin32 p := by
  have hfld : fld (p &&& 0x7FFFFFFF#32) 23 8 = fld p 23 8 := by
    refine Nat.eq_of_testBit_eq fun i => ?_
    simp only [testBit_fld, BitVec.getLsbD_and]
    have hmask : ∀ j < 8, (0x7FFFFFFF#32).getLsbD (23 + j) = true := by decide
    by_cases hi : i < 8
    · simp [hmask i hi]
    · simp [hi]
  simp only [isFin32, hfld]

/-- The scale of an amax is that of its magnitude: 1.0 where it is zero or not finite (R74). -/
theorem tensorScale_magnitude (g : Nat) (p : W32) : tensorScale g p = tensorScale g (p &&& 0x7FFFFFFF#32) ∧
    (p &&& 0x7FFFFFFF#32 = 0 ∨ isFin32 p = false → tensorScale g p = one32) := by
  constructor
  · simp only [tensorScale, BitVec.and_assoc, BitVec.and_self]
  · intro h
    rw [← isFin32_magnitude] at h
    simp only [tensorScale, Bool.not_eq_true', if_pos h]

/-- Settles O7: the functions by the form of their class, TSCALE by its fetch, what they compute by their definitions. -/
theorem floatInstructions : Obligations.FloatInstructions := by
  unfold Obligations.FloatInstructions
  intro s l h w b1 hf k x y z t f
  refine ⟨fun hr => ?_, fun hr => ?_, fun ho hi h24 h18 h36 => ?_, fun ho hi => ?_, fun ho hi hrsv => ?_,
    fun p q hp => nan_operand hp q, ?_, fun g p _ => tensorScale_magnitude g p⟩
  case refine_1 =>
    have hrun {op : Nat} (f : W32 → W32 → W64) (ho : fld w 0 8 = op) :
        s.run (fun b => b.float l h w op f) = .next (t (f x y)) := float_writes hf ho hr f
    exact ⟨hrun _, hrun _, hrun _, hrun _, fun ho => hf.run_body ho rfl hr _, hrun _, hrun _, hrun _, hrun _⟩
  case refine_2 =>
    have hrun {op : Nat} (f : W64 → W64) (ho : fld w 0 8 = op) :
        s.run (fun b => b.unary l h w op f) = .next (t (f ((b1.hw k).reg (rA w)))) := unary_writes hf ho hr f
    exact ⟨hrun _, hrun _, hrun _⟩
  case refine_3 =>
    have hrun : exec (.tscale l h w) s = _ := hf.run_body ho (by simp [hi]) (by simp [h24, h18, h36]) _
    rw [hrun]
    exact ⟨fun hlt => by rw [if_neg (by omega)]; rfl, fun hge => by rw [if_pos hge]⟩
  case refine_4 => exact hf.run_illegal ho (by simp [hi]) _
  case refine_5 =>
    have hrsv : (fld w 24 8 != 0 || fld w 18 5 != 0 || fld w 36 28 != 0) = true := by
      simpa [or_assoc] using hrsv
    exact hf.run_reserved ho (by simp [hi]) hrsv _
  case refine_6 => decide

/-! ### Control instructions (R116, R123, R142) -/

theorem setG_pc (b : Block) (k d : Nat) (v : W64) : ((b.setG k d v).hw k).pc = (b.hw k).pc := by
  rw [Block.setG, Block.updHw_eq, Block.setHw_hw, (setReg_frame _ _ _).1]

theorem bne_eq_decide (x y : W64) : (x != y) = decide (x ≠ y) := by
  simp [bne, beq_eq_decide]

theorem not_slt (x y : W64) : (!x.slt y) = decide (y.toInt ≤ x.toInt) := by
  simp [BitVec.slt_eq_decide, ← decide_not]

theorem not_ult (x y : W64) : (!x.ult y) = decide (y.toNat ≤ x.toNat) := by
  simp [BitVec.ult_eq_decide, ← decide_not]

/-- LOOP goes on to the next instruction where gA is counted down to zero, to its target where not (R123). -/
theorem loop_goes {s : State} {l h : Nat} {w : W64} {b1 : Block} (hf : Fetches s.blk l h b1 w) (ho : fld w 0 8 = 0x0C)
    (h18 : fld w 18 14 = 0) (h13 : fld w 13 5 = 0) :
    exec (.loop l h w) s = .next (s.withBlk ((b1.setG (hwNo l h) (rD w) ((b1.hw (hwNo l h)).reg (rD w) - 1)).goto (hwNo l h)
      (if (b1.hw (hwNo l h)).reg (rD w) = 1 then (b1.hw (hwNo l h)).pc + 8 else target (b1.hw (hwNo l h)).pc w))) := by
  have hrun : exec (.loop l h w) s = _ := control_runs hf ho h18 (by simp [h13]) _
  rw [hrun]
  have hadvance (v : W64) : (b1.setG (hwNo l h) (rD w) v).advance (hwNo l h) =
      (b1.setG (hwNo l h) (rD w) v).goto (hwNo l h) ((b1.hw (hwNo l h)).pc + 8) := by
    rw [Block.advance, setG_pc]
  simp only [sub_eq_zero, hadvance, apply_ite (Block.goto _ _)]

/-- Settles O9: each instruction by the form of the control class, a branch by where its condition sends it. -/
theorem controlInstructions : Obligations.ControlInstructions := by
  unfold Obligations.ControlInstructions
  intro s l h w b1 hf k pc x y tgt br
  refine ⟨fun h18 => ?_, fun hunlisted => ?_⟩
  case refine_1 =>
    have hrun {op : Nat} {unused : Bool} (body : Block → Block) (ho : fld w 0 8 = op) (hu : unused = false) :
        s.run (fun b => b.control l h w op unused body) = .next (s.withBlk (body b1)) := control_runs hf ho h18 hu body
    have hbr {op : Nat} (cond : W64 → W64 → Bool) (ho : fld w 0 8 = op) :
        s.run (fun b => b.branch l h w op cond) = .next (br (cond x y)) := branch_goes hf ho h18 cond
    refine ⟨fun ho h8 h32 => hrun _ ho (by simp [h8, h32]), fun ho h8 h32 => hrun _ ho (by simp [h8, h32]),
      fun ho h8 h47 => hrun _ ho (by simp [h8, h47]), fun ho h8 => hrun _ ho (by simp [h8]),
      fun ho h13 => hrun _ ho (by simp [h13]), fun ho h13 => hrun _ ho (by simp [h13]),
      hbr (fun x y => x == y), ?_, hbr (fun x y => x.slt y), ?_, hbr (fun x y => x.ult y), ?_,
      fun ho h13 => loop_goes hf ho h18 h13⟩
    · exact bne_eq_decide x y ▸ hbr (fun x y => x != y)
    · exact not_slt x y ▸ hbr (fun x y => !x.slt y)
    · exact not_ult x y ▸ hbr (fun x y => !x.ult y)
  case refine_2 =>
    have hrun : exec (.illegal l h w) s = _ := congrArg (fun b => Host.Outcome.next (s.withBlk b)) (hf _)
    rw [hrun, if_pos ⟨rfl, by rw [hunlisted]; rfl⟩]
    rfl

end Sys2Proof

/-! PROOFS. Accesses of a lamp program to memory and to its lens (R60, R122, R126, R236, R239, R240): the reading of a line,
the store buffer, scalar accesses, and tile descriptors. -/

namespace Sys2Proof

open Sys2Proof.Machine

/-! ### What the commands run -/

theorem exec_ld (l h : Nat) (w : W64) (s : State) : exec (.ld l h w) s = execLd l h w s := rfl
theorem exec_st (l h : Nat) (w : W64) (s : State) : exec (.st l h w) s = execSt l h w s := rfl
theorem exec_ldAcq (l h : Nat) (w : W64) (s : State) : exec (.ldAcq l h w) s = execLdAcq l h w s := rfl
theorem exec_stRel (l h : Nat) (w : W64) (s : State) : exec (.stRel l h w) s = execStRel l h w s := rfl
theorem exec_tld (l h : Nat) (w : W64) (s : State) : exec (.tld l h w) s = execTld l h w s := rfl
theorem exec_tst (l h : Nat) (w : W64) (s : State) : exec (.tst l h w) s = execTst l h w s := rfl
theorem exec_tget (l h : Nat) (w : W64) (s : State) : exec (.tget l h w) s = execTget l h w s := rfl
theorem exec_tadv (l h : Nat) (w : W64) (s : State) : exec (.tadv l h w) s = execTadv l h w s := rfl
theorem exec_ldl (l h : Nat) (w : W64) (s : State) : exec (.ldl l h w) s = execLdl l h w s := rfl
theorem exec_stl (l h : Nat) (w : W64) (s : State) : exec (.stl l h w) s = execStl l h w s := rfl
theorem exec_bufferedStorePerform (l : Nat) (s : State) :
    exec (.bufferedStorePerform l) s = execBufferedStorePerform l s := rfl

/-! ### Lines through the die (R126, R129, R236) -/

section Die

variable {b b2 : Block} {l h access va n : Nat} {f : Foot}

/-- A read of the die whose page is found and whose line is clean goes on with the bytes of the line. -/
theorem dieRead_reads (hreach : Reaches b l h access false [(va, n)] b2 f) {b3 : Block} {line : Line}
    (hline : b2.ownLine l h (f.pa va) = .ok (b3, line, false)) (go : Block → Nat → Block) :
    b.dieRead l h access va n go = go b3 (fld line (8 * (f.pa va % 64)) (8 * n)) := by
  rw [Block.dieRead, Block.withFoot, hreach]
  simp only [hline, Bool.false_eq_true, if_false]

/-- A plain store that no earlier MOVE holds back stands last in the store buffer (R236). -/
theorem scalarStore_buffers (hreach : Reaches b l h 3 false [(va, n)] b2 f)
    (hmove : b2.ownMoveOn l h (((b2.dom (f.pa va)).getD 0) / 64) = false) (v : Line) :
    b.scalarStore l h va n v = (b2.updLantern l (fun y => { y with
      stores := y.stores ++ [⟨h, f.pa va, n, v, (b2.chart l).epoch⟩] })).advance (hwNo l h) := by
  rw [Block.scalarStore, Block.withFoot, hreach]
  simp only [hmove, Bool.false_eq_true, if_false]

end Die

/-! ### Scalar loads and stores (R126, R236, R239, R240) -/

/-- SIZE of LD.ACQ and ST.REL is 4 or 8 bytes (R126). -/
theorem acquireSize {n : Nat} (hmin : 2 ≤ n) (hmax : n ≤ 3) : (!(n == 2 || n == 3)) = false := by
  obtain rfl | rfl : n = 2 ∨ n = 3 := by omega
  · rfl
  · rfl

section Scalar

variable {s : State} {l h : Nat} {w : W64} {b1 b2 : Block} {f : Foot} (hf : Fetches s.blk l h b1 w)
include hf

theorem ld_misaligned (ho : fld w 0 8 = 0x30) (hsize : fld w 22 3 ≤ 3) (hrsv : scalarRsv w false = false)
    (ha : addrOf (b1.hw (hwNo l h)) w % sizeBytes w ≠ 0) :
    exec (.ld l h w) s = .next (s.withBlk (b1.exc (hwNo l h) 0x0B)) := by
  rw [exec_ld, execLd, hf.run_body ho (by simpa using hsize) hrsv, if_pos ha]

section Load

variable (hrsv : scalarRsv w false = false) (ha : addrOf (b1.hw (hwNo l h)) w % sizeBytes w = 0)
  (hreach : Reaches b1 l h 2 false [(addrOf (b1.hw (hwNo l h)) w, sizeBytes w)] b2 f) {b3 : Block} {line : Line} {v : Nat}
  (hline : b2.ownLine l h (f.pa (addrOf (b1.hw (hwNo l h)) w)) = .ok (b3, line, false))
  (hv : fld line (8 * (f.pa (addrOf (b1.hw (hwNo l h)) w) % 64)) (8 * sizeBytes w) = v)
include hrsv ha hreach hline hv

theorem ld_loads (ho : fld w 0 8 = 0x30) (hsize : fld w 22 3 ≤ 3) : exec (.ld l h w) s = .next (s.withBlk
    ((b3.setG (hwNo l h) (rD w) (if bit w 25 then sext (sizeBytes w) v else BitVec.ofNat 64 v)).advance (hwNo l h))) := by
  rw [exec_ld, execLd, hf.run_body ho (by simpa using hsize) hrsv, if_neg (not_not.2 ha), Block.scalarLoad,
    dieRead_reads hreach hline, hv]

theorem ldAcq_loads (ho : fld w 0 8 = 0x32) (hmin : 2 ≤ fld w 22 3) (hsize : fld w 22 3 ≤ 3) :
    exec (.ldAcq l h w) s = .next (s.withBlk
      ((b3.setG (hwNo l h) (rD w) (if bit w 25 then sext (sizeBytes w) v else BitVec.ofNat 64 v)).advance (hwNo l h))) := by
  rw [exec_ldAcq, execLdAcq, hf.run_body ho (acquireSize hmin hsize) hrsv, if_neg (not_not.2 ha), Block.scalarLoad,
    dieRead_reads hreach hline, hv]

end Load

section Store

variable (hrsv : scalarRsv w true = false) (ha : addrOf (b1.hw (hwNo l h)) w % sizeBytes w = 0)
  (hreach : Reaches b1 l h 3 false [(addrOf (b1.hw (hwNo l h)) w, sizeBytes w)] b2 f)
include hrsv ha hreach

theorem st_buffers (ho : fld w 0 8 = 0x31) (hsize : fld w 22 3 ≤ 3)
    (hmove : b2.ownMoveOn l h (((b2.dom (f.pa (addrOf (b1.hw (hwNo l h)) w))).getD 0) / 64) = false) :
    exec (.st l h w) s = .next (s.withBlk ((b2.updLantern l (fun y => { y with
      stores := y.stores ++ [⟨h, f.pa (addrOf (b1.hw (hwNo l h)) w), sizeBytes w,
        BitVec.ofNat 512 (((b1.hw (hwNo l h)).reg (rD w)).toNat % 2 ^ (8 * sizeBytes w)), (b2.chart l).epoch⟩] })).advance
        (hwNo l h))) := by
  rw [exec_st, execSt, hf.run_body ho (by simpa using hsize) hrsv, if_neg (not_not.2 ha), scalarStore_buffers hreach hmove]

theorem stRel_performs (ho : fld w 0 8 = 0x33) (hmin : 2 ≤ fld w 22 3) (hsize : fld w 22 3 ≤ 3) {b3 b4 : Block}
    (hrel : Releases b2 l h b3) (hperf : b3.performStore l ⟨h, f.pa (addrOf (b1.hw (hwNo l h)) w), sizeBytes w,
      BitVec.ofNat 512 (((b1.hw (hwNo l h)).reg (rD w)).toNat % 2 ^ (8 * sizeBytes w)), 0⟩ = .ok b4) :
    exec (.stRel l h w) s = .next (s.withBlk (b4.advance (hwNo l h))) := by
  rw [exec_stRel, execStRel, hf.run_body ho (acquireSize hmin hsize) hrsv, if_neg (not_not.2 ha), Block.withFoot, hreach, hrel]
  simp only [hperf]

end Store

end Scalar

/-- The oldest store of a buffer performs and leaves it (R236). -/
theorem bufferedStore_performs {s : State} {l : Nat} {e : Buffered} {rest : List Buffered} {b1 : Block}
    (hstores : (s.blk.lantern l).stores = e :: rest) (hperf : s.blk.performStore l e = .ok b1) :
    exec (.bufferedStorePerform l) s = .next (s.withBlk (b1.setLantern l { b1.lantern l with stores := rest })) := by
  simp only [exec_bufferedStorePerform, execBufferedStorePerform, State.run_eq, Block.performOldest, hstores, hperf,
    Block.updLantern_eq]

/-- Settles O10: each access by its own lemma; the addresses and sizes of the statement are those of the model. -/
theorem scalarAccesses : Obligations.ScalarAccesses := by
  unfold Obligations.ScalarAccesses
  refine ⟨?_, ?_⟩
  case refine_1 =>
    intro s l h w b1 hf k x n va stored
    refine ⟨fun hsize hrsv ha b2 f hreach b3 line hline => ⟨fun ho => ?_, fun ho hmin => ?_⟩,
      fun hsize hrsv ha b2 f hreach hmove => ⟨fun ho => ?_, fun ho hmin b3 b4 hrel hperf => ?_⟩,
      fun ho hsize hrsv ha => ld_misaligned hf ho hsize hrsv ha⟩
    · exact ld_loads hf hrsv ha hreach hline rfl ho hsize
    · exact ldAcq_loads hf hrsv ha hreach hline rfl ho hmin hsize
    · exact st_buffers hf hrsv ha hreach ho hsize hmove
    · exact stRel_performs hf hrsv ha hreach ho hmin hsize hrel hperf
  case refine_2 =>
    intro s l e rest b1 hstores hperf
    refine .of_exec (bufferedStore_performs hstores hperf) ⟨?_, rfl, rfl, rfl, fun j hj => Block.setLantern_lantern_ne _ _ _ _ hj⟩
    rw [Block.setLantern_lantern]

/-! ### Tile descriptors (R126) -/

theorem ofNat_fld_whole {n : Nat} (v : BitVec n) : BitVec.ofNat n (fld v 0 n) = v := by
  simp [fld]

section Descriptors

variable {s : State} {l h k : Nat} {w : W64} {b1 : Block} {x : Hw} (hf : Fetches s.blk l h b1 w) (hk : hwNo l h = k)
  (hx : b1.hw k = x)
include hf hk hx

section Memory

variable {b2 : Block} {f : Foot} {va : Nat} (h8 : fld w 8 5 = 0) (h22 : fld w 22 10 = 0) (hva : addrOf x w = va) (ha : va % 64 = 0)
include h8 h22 hva ha

theorem tld_loads (ho : fld w 0 8 = 0x34) (hreach : Reaches b1 l h 2 false [(va, 64)] b2 f) {b3 : Block} {line : Line}
    (hline : b2.ownLine l h (f.pa va) = .ok (b3, line, false)) (hpa : f.pa va % 64 = 0) :
    exec (.tld l h w) s = .next (s.withBlk ((b3.updHw k (fun y =>
      { y.setTile (fld w 18 4) line with tPoison := y.tPoison.filter (· != fld w 18 4) })).advance k)) := by
  subst hk hx hva
  rw [exec_tld, execTld, hf.run_body ho rfl (by simp [tileAccRsv, h8, h22]), if_neg (not_not.2 ha), Block.scalarLoad,
    dieRead_reads hreach hline, hpa, ofNat_fld_whole]

theorem tst_buffers (ho : fld w 0 8 = 0x35) (hclean : x.tPoison.contains (fld w 18 4) = false)
    (hreach : Reaches b1 l h 3 false [(va, 64)] b2 f)
    (hmove : b2.ownMoveOn l h (((b2.dom (f.pa va)).getD 0) / 64) = false) :
    exec (.tst l h w) s = .next (s.withBlk ((b2.updLantern l (fun y => { y with
      stores := y.stores ++ [⟨h, f.pa va, 64, x.tile (fld w 18 4), (b2.chart l).epoch⟩] })).advance k)) := by
  subst hk hx hva
  rw [exec_tst, execTst, hf.run_body ho rfl (by simp [tileAccRsv, h8, h22]), if_neg (not_not.2 ha), hclean,
    if_neg Bool.false_ne_true, scalarStore_buffers hreach hmove]

end Memory

theorem tget_reads (ho : fld w 0 8 = 0x37) (h13 : fld w 13 5 = 0) (h22 : fld w 22 4 = 0) (h31 : bit w 31 = false)
    (h32 : fld w 32 32 = 0) (hfield : fld w 26 5 ≤ 13) (hclean : x.tPoison.contains (fld w 18 4) = false) :
    exec (.tget l h w) s = .next (s.withBlk ((b1.setG k (rD w) (BitVec.ofNat 64
      (fld (x.tile (fld w 18 4)) (tileField (fld w 26 5)).1 (tileField (fld w 26 5)).2))).advance k)) := by
  subst hk hx
  rw [exec_tget, execTget, hf.run_body ho (by simpa using hfield) (by simp [h13, h22, h31, h32])]
  simp only [hclean, Bool.false_eq_true, if_false, Block.setG, Block.updHw_eq]

/-- TADV adds gD to BASE and gA to INDEX_BASE of its tile, and goes on. -/
theorem tadv_adds (ho : fld w 0 8 = 0x38) (h22 : fld w 22 10 = 0) (h32 : fld w 32 32 = 0)
    (hclean : x.tPoison.contains (fld w 18 4) = false) {d : Line} (hd : x.tile (fld w 18 4) = d) :
    exec (.tadv l h w) s = .next (s.withBlk (b1.setHw k (x.setTile (fld w 18 4)
      (setFld (setFld d 64 64 (tdBase d + (x.reg (rD w)).toNat)) 384 64 (tdIndex d + (x.reg (rA w)).toNat))).next)) := by
  subst hk hx hd
  rw [exec_tadv, execTadv, hf.run_body ho rfl (by simp [h22, h32])]
  simp only [hclean, Bool.false_eq_true, if_false, Block.updHw_eq, setHw_advance, tdBase, tdIndex]

end Descriptors

theorem tile_setTile_same (x : Hw) (n : Nat) (d : Line) : (x.setTile n d).tile n = d := tget_tput_same _ _ _ _

theorem tile_setTile_ne (x : Hw) {n m : Nat} (hm : m ≠ n) (d : Line) : (x.setTile n d).tile m = x.tile m :=
  tget_tput_ne _ _ _ _ _ hm

theorem advancedTile (d : Line) (u v : Nat) : tdBase (setFld (setFld d 64 64 u) 384 64 v) = u % 2 ^ 64 ∧
    tdIndex (setFld (setFld d 64 64 u) 384 64 v) = v % 2 ^ 64 := by
  constructor
  · rw [tdBase, fld_setFld_other _ (by decide) (by decide), fld_setFld_same _ (by decide)]
  · rw [tdIndex, fld_setFld_same _ (by decide)]

/-! ### Scalars of the lens (R60, R122, R126) -/

section Lens

variable {s : State} {l h k n off : Nat} {w : W64} {b1 : Block} {x : Hw} (hf : Fetches s.blk l h b1 w) (hk : hwNo l h = k)
  (hx : b1.hw k = x) (hn : sizeBytes w = n) (hoff : addrOf x w = off) (hsize : fld w 22 3 ≤ 3) (ha : off % n = 0)
include hf hk hx hn hoff hsize ha

theorem ldl_outside (ho : fld w 0 8 = 0x39) (hrsv : scalarRsv w false = false) (hshare : x.share < off + n) :
    exec (.ldl l h w) s = .next (s.withBlk (b1.exc k 0x09)) := by
  subst hk hx hn hoff
  rw [exec_ldl, execLdl, hf.run_body ho (by simpa using hsize) hrsv, if_neg (not_not.2 ha), if_pos hshare]

theorem ldl_waits (ho : fld w 0 8 = 0x39) (hrsv : scalarRsv w false = false) (hshare : off + n ≤ x.share)
    (hread : x.mayRead off n = false) : exec (.ldl l h w) s = .next (s.withBlk b1) := by
  subst hk hx hn hoff
  rw [exec_ldl, execLdl, hf.run_body ho (by simpa using hsize) hrsv, if_neg (not_not.2 ha), if_neg (Nat.not_lt.2 hshare)]
  simp only [hread, Bool.not_false, if_true]

theorem ldl_loads (ho : fld w 0 8 = 0x39) (hrsv : scalarRsv w false = false) (hshare : off + n ≤ x.share)
    (hread : x.mayRead off n = true) (hclean : b1.lensBad k off n = false) {v : Nat} (hv : leNat (b1.lensBytes k off n) = v) :
    exec (.ldl l h w) s = .next (s.withBlk
      ((b1.setG k (rD w) (if bit w 25 then sext n v else BitVec.ofNat 64 v)).advance k)) := by
  subst hk hx hn hoff hv
  rw [exec_ldl, execLdl, hf.run_body ho (by simpa using hsize) hrsv, if_neg (not_not.2 ha), if_neg (Nat.not_lt.2 hshare)]
  simp only [hread, hclean, Bool.not_true, Bool.false_eq_true, if_false]

theorem stl_stores (ho : fld w 0 8 = 0x3A) (hrsv : scalarRsv w true = false) (hshare : off + n ≤ x.share)
    (hwrite : x.mayWrite off n = true) : exec (.stl l h w) s = .next (s.withBlk
      ((b1.lensPut k off (leBytes n (x.reg (rD w)).toNat) false).advance k)) := by
  subst hk hx hn hoff
  rw [exec_stl, execStl, hf.run_body ho (by simpa using hsize) hrsv, if_neg (not_not.2 ha), if_neg (Nat.not_lt.2 hshare)]
  simp only [hwrite, Bool.not_true, Bool.false_eq_true, if_false]

end Lens

/-- Settles O11: descriptors and scalars of the lens each by its own lemma, TADV field by field. -/
theorem lensScalarsAndDescriptors : Obligations.LensScalarsAndDescriptors := by
  unfold Obligations.LensScalarsAndDescriptors
  refine ⟨?_, ?_⟩
  case refine_1 =>
    intro s l h w b1 hf k x n va place
    have hk : hwNo l h = k := rfl
    have hx : b1.hw k = x := rfl
    clear_value k
    refine ⟨?_, ?_, fun h13 h22 h31 h32 hfield => ⟨fun ho => ?_, fun ho hclean => ?_⟩, fun ho h22 h32 hclean => ?_⟩
    · intro ho h8 h22 ha b2 f hreach b3 line hline hpa
      exact tld_loads hf hk hx h8 h22 rfl ha ho hreach hline hpa
    · intro ho h8 h22 ha hclean b2 f hreach hmove
      exact tst_buffers hf hk hx h8 h22 rfl ha ho hclean hreach hmove
    · exact hk ▸ hf.run_body ho (by simpa using hfield) (by simp [h13, h22, h31, h32]) _
    · exact tget_reads hf hk hx ho h13 h22 h31 h32 hfield hclean
    · obtain ⟨hbase, hindex⟩ :=
        advancedTile (x.tile n) (tdBase (x.tile n) + (x.reg (rD w)).toNat) (tdIndex (x.tile n) + (x.reg (rA w)).toNat)
      refine .of_exec (tadv_adds hf hk hx ho h22 h32 hclean rfl) ?_
      simp only [Block.setHw_hw]
      refine ⟨?_, ?_, fun m hm => tile_setTile_ne x hm _, rfl, rfl, rfl⟩
      · exact (congrArg tdBase (tile_setTile_same x n _)).trans hbase
      · exact (congrArg tdIndex (tile_setTile_same x n _)).trans hindex
  case refine_2 =>
    intro s l h w b1 hf k x n off hsize
    exact ⟨fun ho hrsv ha hshare hread hclean => ldl_loads hf rfl rfl rfl rfl hsize ha ho hrsv hshare hread hclean rfl,
      fun ho hrsv ha hshare => ldl_outside hf rfl rfl rfl rfl hsize ha ho hrsv hshare,
      fun ho hrsv ha hshare hread => ldl_waits hf rfl rfl rfl rfl hsize ha ho hrsv hshare hread,
      fun ho hrsv ha hshare hwrite => stl_stores hf rfl rfl rfl rfl hsize ha ho hrsv hshare hwrite⟩

end Sys2Proof

/-! PROOFS. Far atomics (R139, R258), fences and the waits on a tally or a line (R138, R140, R242, R260): what each leaves where it
goes on and where it waits. -/

namespace Sys2Proof

open Sys2Proof.Machine

/-! ### Far atomics (R139, R258) -/

section Atomic

/-- The field of gC is reserved but in a compare and swap. -/
theorem farAtomic_unreserved {w : W64} {aop : AtomOp} (h31 : fld w 31 33 = 0) (h23 : aop ≠ .cas → fld w 23 5 = 0) :
    (fld w 31 33 != 0 || (aop != .cas && fld w 23 5 != 0)) = false := by
  by_cases hcas : aop = .cas
  · simp [h31, hcas]
  · simp [h31, h23 hcas]

variable {s : State} {l h op k va n : Nat} {w : W64} {b1 : Block} {aop : AtomOp} {x : Hw} (hf : Fetches s.blk l h b1 w)
  (ho : fld w 0 8 = op) (h31 : fld w 31 33 = 0) (h23 : aop ≠ .cas → fld w 23 5 = 0) (hk : hwNo l h = k) (hx : b1.hw k = x)
  (hva : (x.reg (rA w)).toNat = va) (hn : (if bit w 28 then 8 else 4) = n)
include hf ho h31 h23 hk hx hva hn

theorem farAtomic_misaligned (ha : va % n ≠ 0) :
    s.run (fun b => b.farAtomic l h w op aop) = .next (s.withBlk (b1.exc k 0x0B)) := by
  subst hk hx hva hn
  refine (hf.run_body ho rfl (farAtomic_unreserved h31 h23) _).trans ?_
  rw [if_pos ha]

/-- A far atomic performs at the home of its line, after the stores and MOVEs that it must follow (R238, R239). -/
theorem farAtomic_performs (ha : va % n = 0) {b2 b3 b4 : Block} {f : Foot} (hreach : Reaches b1 l h 4 false [(va, n)] b2 f)
    (hrel : if bit w 30 || b2.lineBuffered l (f.pa va) || b2.ownMoveOn l h (((b2.dom (f.pa va)).getD 0) / 64) then
      Releases b2 l h b3 else b3 = b2) {pa : Nat} {old : W64} (hdom : b3.dom (f.pa va) = some pa)
    (hat : b3.atomic (pa / 64) (pa % 64) (bit w 28) aop (x.reg (rB w)) (x.reg (fld w 23 5)) = .ok (b4, old, false)) :
    s.run (fun b => b.farAtomic l h w op aop) = .next (s.withBlk ((b4.setG k (rD w) old).advance k)) := by
  have hgo (go : Block → Block) : b2.releasedIf (bit w 30 || b2.lineBuffered l (f.pa va) ||
      b2.ownMoveOn l h (((b2.dom (f.pa va)).getD 0) / 64)) l h go = go b3 := by
    unfold Block.releasedIf
    split at hrel
    case isTrue hmust => rw [if_pos hmust, hrel]
    case isFalse hmay => rw [if_neg hmay, hrel]
  subst hk hx hva hn
  refine (hf.run_body ho rfl (farAtomic_unreserved h31 h23) _).trans ?_
  rw [if_neg (not_not.2 ha), hreach, hgo]
  simp only [hdom, hat, Bool.false_eq_true, if_false]

end Atomic

/-- Settles O12: the ten operations are one far atomic, each under its own opcode. -/
theorem farAtomics : Obligations.FarAtomics := by
  unfold Obligations.FarAtomics
  intro s l h w b1 hf h31 k x n va done
  have hdone (op : Nat) (a : AtomOp) (i : Instr) (hi : exec i s = s.run (fun b => b.farAtomic l h w op a)) : done op a i := by
    intro ho h23 ha b2 f hreach b3 hrel pa b4 old hdom hat
    exact hi.trans (farAtomic_performs hf ho h31 h23 rfl rfl rfl rfl ha hreach hrel hdom hat)
  exact ⟨hdone _ _ _ rfl, hdone _ _ _ rfl, hdone _ _ _ rfl, hdone _ _ _ rfl, hdone _ _ _ rfl, hdone _ _ _ rfl, hdone _ _ _ rfl,
    hdone _ _ _ rfl, hdone _ _ _ rfl, hdone _ _ _ rfl,
    fun ho h23 ha => farAtomic_misaligned hf ho h31 (fun _ => h23) rfl rfl rfl rfl ha⟩

/-! ### Fences and WAIT.TALLY (R138, R140, R242) -/

theorem exec_fence (l h : Nat) (w : W64) (s : State) : exec (.fence l h w) s = execFence l h w s := rfl
theorem exec_waitTally (l h : Nat) (w : W64) (s : State) : exec (.waitTally l h w) s = execWaitTally l h w s := rfl
theorem exec_waitLine (l h : Nat) (w : W64) (s : State) : exec (.waitLine l h w) s = execWaitLine l h w s := rfl
theorem exec_waitLineTimeout (l h : Nat) (s : State) : exec (.waitLineTimeout l h) s = execWaitLineTimeout l h s := rfl

section Waits

variable {s : State} {l h : Nat} {w : W64} {b1 : Block} (hf : Fetches s.blk l h b1 w)
include hf

/-- FENCE of CORE or CLUSTER scope waits for the writes of earlier MOVEs only. -/
theorem fence_near (ho : fld w 0 8 = 0xD0) (h10 : fld w 10 54 = 0) (hscope : fld w 8 2 < 2) : exec (.fence l h w) s =
    .next (s.withBlk (if b1.moveWrites l h then b1 else b1.advance (hwNo l h))) := by
  have hnot3 : (fld w 8 2 == 3) = false := beq_eq_false_iff_ne.2 (by omega)
  rw [exec_fence, execFence, hf.run_body ho hnot3 (by simp [h10]), if_neg (by omega)]

theorem fence_system (ho : fld w 0 8 = 0xD0) (h10 : fld w 10 54 = 0) (hscope : fld w 8 2 = 2) {b2 : Block}
    (hrel : Releases b1 l h b2) : exec (.fence l h w) s = .next (s.withBlk (b2.advance (hwNo l h))) := by
  rw [exec_fence, execFence, hf.run_body ho (by simp [hscope]) (by simp [h10]), if_pos hscope, hrel]

theorem fence_illegal (ho : fld w 0 8 = 0xD0) (hscope : fld w 8 2 = 3) :
    exec (.fence l h w) s = .next (s.withBlk (b1.exc (hwNo l h) 1)) := by
  rw [exec_fence, execFence, hf.run_illegal ho (by simp [hscope])]

theorem waitTally_reads (ho : fld w 0 8 = 0xB3) (h10 : fld w 10 54 = 0) : exec (.waitTally l h w) s =
    .next (s.withBlk (if (b1.hw (hwNo l h)).tally (fld w 8 2) = 0 then b1.advance (hwNo l h) else b1)) := by
  rw [exec_waitTally, execWaitTally, hf.run_body ho rfl (by simp [h10])]

/-! ### WAIT.LINE (R138, R260) -/

theorem waitLine_runs (ho : fld w 0 8 = 0xB2) (h29 : fld w 29 35 = 0) :
    exec (.waitLine l h w) s = .next (s.withBlk (b1.waitLineRead l h w)) := by
  rw [exec_waitLine, execWaitLine, hf.run_body ho rfl (by simp [h29])]

/-- The time-out of a waiting WAIT.LINE reads the line once more; where the program still waits after it, gD takes the last value
read. -/
theorem waitLineTimeout_runs (ho : fld w 0 8 = 0xB2) (hwait : (b1.hw (hwNo l h)).waiting = true)
    (htime : (b1.hw (hwNo l h)).reg (fld w 24 5) ≠ 0) {d : Block} (hd : b1.waitLineRead l h w = d) :
    exec (.waitLineTimeout l h) s = .next (s.withBlk
      (if (d.hw (hwNo l h)).phase = .running ∧ (d.hw (hwNo l h)).waiting = true then
        ((d.dropWatch l h).setG (hwNo l h) (rD w) (d.hw (hwNo l h)).lastRead).advance (hwNo l h) else d)) := by
  rw [exec_waitLineTimeout, execWaitLineTimeout, State.run_eq, hf, if_pos ⟨ho, hwait, htime⟩, hd]

end Waits

section Reading

variable {b1 b2 b3 : Block} {l h k va : Nat} {w word : W64} {f : Foot} {line : Line} {x : Hw} (hk : hwNo l h = k) (hx : b1.hw k = x)
  (hva : (x.reg (rA w)).toNat = va) (ha : va % 8 = 0) (hreach : Reaches b1 l h 2 false [(va, 8)] b2 f)
  (hline : b2.ownLine l h (f.pa va) = .ok (b3, line, false))
  (hword : BitVec.ofNat 64 (fld line (8 * (f.pa va % 64)) 64) = word)
include hk hx hva ha hreach hline hword

theorem waitLineRead_meets (hmet : lineMeets w word (x.reg (rB w)) = true) :
    b1.waitLineRead l h w = ((b3.dropWatch l h).setG k (rD w) word).advance k := by
  subst hk hx hva hword
  unfold Block.waitLineRead
  rw [if_neg (not_not.2 ha), Block.withFoot, hreach]
  simp only [hline, hmet, Bool.false_eq_true, if_false, if_true]

/-- The first reading that does not meet its condition registers the watch and waits. -/
theorem waitLineRead_watches (hmet : lineMeets w word (x.reg (rB w)) = false) (hnew : x.watch = none) {ln : Nat}
    (hln : b3.lineAt (f.pa va) = some ln) {b4 : Block} (hwatch : b3.watch l ln = some b4) : b1.waitLineRead l h w =
    (b4.updHw k (fun y => { y with watch := some ln, polled := false, notice := false })).updHw k
      (fun y => { y with lastRead := word, waiting := true }) := by
  subst hk hx hva hword
  unfold Block.waitLineRead
  rw [if_neg (not_not.2 ha), Block.withFoot, hreach]
  simp only [hline, hmet, hnew, hln, hwatch, Option.getD_some, Bool.false_eq_true, if_false]

end Reading

/-- A program that has gone on waits for nothing. -/
theorem setG_advance_waiting (b : Block) (k d : Nat) (v : W64) : (((b.setG k d v).advance k).hw k).waiting = false := by
  rw [setG_advance, Block.setHw_hw]
  rfl

/-! ### The poll of refused watches (R260) -/

/-- The block when the polls are due: the chart's refused driver-line watches, and that of an unwatched completion line. -/
def pollsDue (b : Block) (l h : Nat) : Block :=
  let due := b.updChart l (fun t => { t with resume := t.resume.map (fun e => (e.1, true)) })
  if b.compUnwatched l h then due.updHw (hwNo l h) (fun y => { y with cnotice := true }) else due

theorem pollsDue_polled (b : Block) (l h : Nat) : ((pollsDue b l h).hw (hwNo l h)).polled = (b.hw (hwNo l h)).polled := by
  unfold pollsDue
  split
  · simp
  · simp

theorem watchPoll_runs (s : State) (l h : Nat) : exec (.watchPoll l h) s = .next (s.withBlk
    (if (s.blk.hw (hwNo l h)).polled then (pollsDue s.blk l h).fetch l h (fun c v =>
      if fld v 0 8 = 0xB2 ∧ (c.hw (hwNo l h)).waiting then c.waitLineRead l h v else pollsDue s.blk l h)
    else pollsDue s.blk l h)) := by
  rw [← pollsDue_polled]
  rfl

/-- Settles O13: each fence and wait by what it reads, the time-out by the reading before it, the poll by the watches that are
due. -/
theorem fencesAndWaits : Obligations.FencesAndWaits := by
  unfold Obligations.FencesAndWaits
  refine ⟨?_, ?_⟩
  case refine_1 =>
    intro s l h w b1 hf k x va
    refine ⟨fun ho h10 hscope hw => ?_, fun ho h10 hscope hw => ?_, fun ho h10 hscope b2 hrel => fence_system hf ho h10 hscope hrel,
      fun ho hscope => fence_illegal hf ho hscope, fun ho h10 hz => ?_, fun ho h10 hz => ?_, ?_, ?_⟩
    · rw [fence_near hf ho h10 hscope, hw, if_neg Bool.false_ne_true]
    · rw [fence_near hf ho h10 hscope, hw, if_pos rfl]
    · rw [waitTally_reads hf ho h10, if_pos hz]
    · rw [waitTally_reads hf ho h10, if_neg hz]
    · intro ha b2 f hreach b3 line hline word met
      refine ⟨fun ho h29 hmet => ?_, fun ho h29 hmet hnew ln b4 hln hwatch => ?_, fun ho hwait htime hmet => ?_⟩
      · rw [waitLine_runs hf ho h29, waitLineRead_meets rfl rfl rfl ha hreach hline rfl hmet]
      · rw [waitLine_runs hf ho h29, waitLineRead_watches rfl rfl rfl ha hreach hline rfl hmet hnew hln hwatch]
      · rw [waitLineTimeout_runs hf ho hwait htime (waitLineRead_meets rfl rfl rfl ha hreach hline rfl hmet), setG_advance_waiting]
        simp only [Bool.false_eq_true, and_false, if_false]
        rfl
    · intro ho hwait htime d hrun hstill
      rw [waitLineTimeout_runs hf ho hwait htime rfl, if_pos ⟨hrun, hstill⟩]
  case refine_2 =>
    intro s l h due0 due
    refine ⟨fun hp => ?_, fun hp b1 w hf ho hwait => ?_⟩
    · rw [watchPoll_runs, hp, if_neg Bool.false_ne_true]
      rfl
    · have hfetch : Fetches (pollsDue s.blk l h) l h b1 w := hf
      rw [watchPoll_runs, hp, if_pos rfl, hfetch, if_pos ⟨ho, hwait⟩]

end Sys2Proof

/-! PROOFS. SEND, RECV and the claims of lane-file halves (R32, R130, R137): what starts, what lands, what is granted and given
back. -/

namespace Sys2Proof

open Sys2Proof.Machine

/-! ### What the commands run -/

theorem exec_send (l h : Nat) (w : W64) (s : State) : exec (.send l h w) s = execSend l h w s := rfl
theorem exec_sendArrival (id i : Nat) (s : State) : exec (.sendArrival id i) s = execSendArrival id i s := rfl
theorem exec_recv (l h : Nat) (w : W64) (s : State) : exec (.recv l h w) s = execRecv l h w s := rfl
theorem exec_recvTimeout (l h : Nat) (s : State) : exec (.recvTimeout l h) s = execRecvTimeout l h s := rfl
theorem exec_claim (l h : Nat) (w : W64) (s : State) : exec (.claim l h w) s = execClaim l h w s := rfl
theorem exec_claimGrant (l : Nat) (s : State) : exec (.claimGrant l) s = execClaimGrant l s := rfl
theorem exec_release (l h : Nat) (w : W64) (s : State) : exec (.release l h w) s = execRelease l h w s := rfl

/-! ### SEND and RECV (R137) -/

section Talk

variable {s : State} {l h k : Nat} {w : W64} {b1 : Block} {x : Hw} {ts : Line} (hk : hwNo l h = k) (hx : b1.hw k = x)
  (hts : x.tile (fld w 8 4) = ts) (hsound : SoundTile x (fld w 8 4)) (hlens : tdLens ts = true)
include hk hx hts hsound hlens

section Send

variable {peer : Nat} (hf : Fetches s.blk l h b1 w) (ho : fld w 0 8 = 0xA0) (h28 : fld w 28 36 = 0)
  (htile : tdChk ts x.share false = none) (hpeer : (x.reg (fld w 12 5)).toNat = peer) (hmax : peer < 64)
  (hmask : x.mask.getLsbD peer = true) (hread : x.tileReadable ts = true) (hroom : x.boardRoom 1 = true)
include hf ho h28 htile hpeer hmax hmask hread hroom

/-- SEND whose checks pass: its tile is on the scoreboard and its chunks are in flight. -/
theorem send_starts : exec (.send l h w) s = .next (s.withBlk
    ((b1.boardPut k b1.nextId (tdBase ts) (tdSpan ts) false).startXfer k (fld w 26 2) false
      { id := 0, lantern := l, hw := h, req := 0, tally := none, writes := [], peer := some peer, tag := fld w 22 4,
        chunks := sendChunks (x.reg (fld w 17 5)).toNat (b1.packed k ts) })) := by
  have hchk : firstErr [tdChk ts x.share false, need (tdLens ts) 0x0C,
      need (decide (peer < 64) && x.mask.getLsbD peer) 0x11] = none := by
    simp only [firstErr_eq_none, List.forall_mem_cons, need_eq_none, Bool.and_eq_true, decide_eq_true_eq]
    exact ⟨htile, hlens, ⟨hmax, hmask⟩, List.forall_mem_nil _⟩
  subst hk hx hts hpeer
  rw [exec_send, execSend, hf.run_body ho rfl (by simp [h28])]
  simp only [useTiles_sound (soundOne hsound), checked_passes hchk, hread, hroom, Bool.not_true, Bool.or_self, Bool.false_eq_true,
    if_false]

theorem send_completes : Completes (.send l h w) s (fun t => (t.blk.hw k).pc = x.pc + 8 ∧
    (t.blk.hw k).tally (fld w 26 2) = x.tally (fld w 26 2) + 1 ∧ t.blk.mem = b1.mem ∧ t.blk.lines = b1.lines ∧
    ∃ y ∈ t.blk.xfers, y.id = b1.nextId ∧ y.peer = some peer ∧ y.tag = fld w 22 4 ∧
      y.chunks = sendChunks (x.reg (fld w 17 5)).toNat (b1.packed k ts)) := by
  refine .of_exec (send_starts hk hx hts hsound hlens hf ho h28 htile hpeer hmax hmask hread hroom) ⟨?_, ?_, ?_, ?_, ?_⟩
  · simp [Block.boardPut, hx]
  · rw [startXfer_hw, starting_tally, Block.boardPut, Block.updHw_eq, Block.setHw_hw, hx]
    rfl
  · simp [Block.boardPut]
  · simp [Block.boardPut]
  · rw [startXfer_xfers]
    exact ⟨_, List.mem_append_right _ (List.mem_singleton_self _), rfl, rfl, rfl, rfl⟩

end Send

section Recv

variable {tag n : Nat} (htile : tdChk ts x.share true = none) (hwrite : x.tileWritable ts = true) (htag : fld w 22 4 = tag)
  (hn : (x.reg (fld w 12 5)).toNat = n)
include htile hwrite htag hn

/-- A reading of the counter takes its bytes off where they have arrived; a time-out that finds too few ends the request, another
reading waits. -/
theorem recvTry_reads (late : Bool) : b1.recvTry l h w late =
    if n ≤ tget 0 x.tags tag then (b1.updHw k (fun y => { y with tags := tput y.tags tag (tget 0 y.tags tag - n) })).advance k
    else if late then b1.exc k 0x12 else b1.updHw k (fun y => { y with waiting := true }) := by
  have hchk : firstErr [tdChk ts x.share true, need (tdLens ts) 0x0C] = none := by
    simp only [firstErr_eq_none, List.forall_mem_cons, need_eq_none]
    exact ⟨htile, hlens, List.forall_mem_nil _⟩
  subst hk hx hts htag hn
  simp only [Block.recvTry, useTiles_sound (soundOne hsound), checked_passes hchk, hwrite, true_and]

variable (hf : Fetches s.blk l h b1 w)
include hf

theorem recv_reads (ho : fld w 0 8 = 0xA1) (h26 : fld w 26 38 = 0) : exec (.recv l h w) s = .next (s.withBlk
    (if n ≤ tget 0 x.tags tag then (b1.updHw k (fun y => { y with tags := tput y.tags tag (tget 0 y.tags tag - n) })).advance k
    else b1.updHw k (fun y => { y with waiting := true }))) := by
  rw [exec_recv, execRecv, hf.run_body ho rfl (by simp [h26]),
    recvTry_reads hk hx hts hsound hlens htile hwrite htag hn, if_neg Bool.false_ne_true]

theorem recvTimeout_late (ho : fld w 0 8 = 0xA1) (hwait : x.waiting = true) (htime : x.reg (fld w 17 5) ≠ 0)
    (hfew : tget 0 x.tags tag < n) : exec (.recvTimeout l h) s = .next (s.withBlk (b1.exc k 0x12)) := by
  have hcond : fld w 0 8 = 0xA1 ∧ (b1.hw (hwNo l h)).waiting = true ∧ (b1.hw (hwNo l h)).reg (fld w 17 5) ≠ 0 := by
    rw [hk, hx]
    exact ⟨ho, hwait, htime⟩
  rw [exec_recvTimeout, execRecvTimeout, State.run_eq, hf, if_pos hcond,
    recvTry_reads hk hx hts hsound hlens htile hwrite htag hn, if_neg (Nat.not_le.2 hfew), if_pos rfl]

end Recv

end Talk

/-! ### The arrival of a chunk (R32, R137) -/

/-- Bytes put into the lens change the lanterns only. -/
theorem lensPut_shape (b : Block) (k off : Nat) (bs : List Byte) (p : Bool) :
    ∃ ls, b.lensPut k off bs p = { b with lanterns := ls } := by
  refine List.foldlRecOn (motive := fun c : Block => ∃ ls, c = { b with lanterns := ls }) _ _ ⟨_, rfl⟩ fun c hc i _ => ?_
  obtain ⟨ls, rfl⟩ := hc
  exact ⟨_, rfl⟩

/-- A block in which the chunk `i` of a transfer is no longer in flight. -/
def withoutChunk (b : Block) (id i : Nat) : Block :=
  { b with xfers := b.xfers.map (fun y => if y.id = id then { y with chunks := y.chunks.filter (fun z => z.1 != i) } else y) }

theorem withoutChunk_chunks {b : Block} {id i : Nat} {y : Xfer} (hy : y ∈ (withoutChunk b id i).xfers) (hid : y.id = id) :
    ∀ z ∈ y.chunks, z.1 ≠ i := by
  obtain ⟨y0, -, rfl⟩ := List.mem_map.1 hy
  split at hid
  case isTrue h0 =>
    intro z hz
    rw [if_pos h0] at hz
    exact bne_iff_ne.1 (List.mem_filter.1 hz).2
  case isFalse h0 => exact absurd hid h0

/-- A chunk for a running request that has not left lands in the lens and is counted under its tag. -/
theorem landChunk_lands {b : Block} {x : Xfer} {p k : Nat} {c : Nat × Nat × List Byte × Bool} (hl : (b.lantern p).loss = .alive)
    (hw : b.hwFor p x.req = some k) (hrun : (b.hw k).phase = .running) (hleft : (b.request x.req).left.getLsbD p = false)
    (hshare : c.2.1 + c.2.2.1.length ≤ (b.hw k).share) : b.landChunk x p c = withoutChunk
      ((b.lensPut k c.2.1 c.2.2.1 c.2.2.2).updHw k (fun y =>
        { y with tags := tput y.tags x.tag ((tget 0 y.tags x.tag + c.2.2.1.length) % 2 ^ 32) })) x.id c.1 := by
  simp only [Block.landChunk, hl, hw, hrun, hleft, Nat.not_lt.2 hshare, ne_eq, not_true_eq_false, Bool.false_eq_true, if_false]
  rfl

section Arrival

variable {s : State} {id i p k : Nat} {x : Xfer} {c : Nat × Nat × List Byte × Bool}
  (hfind : s.blk.xfers.find? (fun y => y.id == id) = some x) (hp : x.peer = some p)
  (hc : x.chunks.find? (fun c => c.1 == i) = some c) (hpath : s.blk.pathHeld (lampTile x.lantern) (lampTile p) = false)
include hfind hp hc hpath

theorem sendArrival_lands : exec (.sendArrival id i) s = .next (s.withBlk (s.blk.landChunk x p c)) := by
  simp only [exec_sendArrival, execSendArrival, State.run_eq, hfind, hp, hc, hpath, Bool.false_eq_true, if_false]

theorem sendArrival_completes (hl : (s.blk.lantern p).loss = .alive) (hw : s.blk.hwFor p x.req = some k)
    (hrun : (s.blk.hw k).phase = .running) (hleft : (s.blk.request x.req).left.getLsbD p = false)
    (hshare : c.2.1 + c.2.2.1.length ≤ (s.blk.hw k).share) : Completes (.sendArrival id i) s (fun t =>
      tget 0 (t.blk.hw k).tags x.tag = (tget 0 (s.blk.hw k).tags x.tag + c.2.2.1.length) % 2 ^ 32 ∧
      (∀ y ∈ t.blk.xfers, y.id = id → ∀ z ∈ y.chunks, z.1 ≠ c.1) ∧ t.blk.mem = s.blk.mem ∧ t.blk.lines = s.blk.lines) := by
  have hid : x.id = id := by simpa using List.find?_some hfind
  obtain ⟨ls, hput⟩ := lensPut_shape s.blk k c.2.1 c.2.2.1 c.2.2.2
  refine .of_exec (sendArrival_lands hfind hp hc hpath) ?_
  rw [landChunk_lands hl hw hrun hleft hshare, hput]
  refine ⟨?_, fun y hy hy' => withoutChunk_chunks hy (hy'.trans hid.symm), rfl, rfl⟩
  exact (congrArg (fun y : Hw => tget 0 y.tags x.tag) (tget_tput_same _ _ _ _)).trans (tget_tput_same _ _ _ _)

end Arrival

/-! ### Claims (R130) -/

/-- Steps that each change beams only change beams only. -/
theorem foldl_beams {α : Type} {f : Block → α → Block} (hf : ∀ a x, ∃ bs, f a x = { a with beams := bs }) (xs : List α)
    (b : Block) : ∃ bs, xs.foldl f b = { b with beams := bs } := by
  refine List.foldlRecOn (motive := fun c : Block => ∃ bs, c = { b with beams := bs }) _ _ ⟨_, rfl⟩ fun c hc x _ => ?_
  obtain ⟨bs, rfl⟩ := hc
  obtain ⟨bs', hx⟩ := hf { b with beams := bs } x
  exact ⟨bs', hx⟩

theorem freeHalves_shape (b : Block) (l : Nat) : ∃ bs, b.freeHalves l = { b with beams := bs } := by
  refine foldl_beams (fun a n => ?_) _ b
  dsimp only
  split
  · exact ⟨_, rfl⟩
  · exact ⟨_, rfl⟩

/-- A granted claim changes the beams of its lantern and its hardware context, which goes on. -/
theorem grantClaim_shape (b : Block) (k : Nat) (want : List Nat) : ∃ bs, b.grantClaim k want =
    { b.setHw k ({ b.hw k with claims := want, claimWant := [], phase := .running } : Hw).next with beams := bs } := by
  obtain ⟨bs, hbs⟩ := foldl_beams (f := fun d n => d.updHalf (k / 4) n (fun _ => { owner := some (k % 4) })) (fun _ _ => ⟨_, rfl⟩)
    want b
  refine ⟨bs, ?_⟩
  rw [Block.grantClaim, hbs, Block.updHw_eq, setHw_advance]
  rfl

/-- What a granted claim leaves: the halves claimed, the program running at its next instruction, memory as it was. -/
theorem grantClaim_grants (b : Block) (k : Nat) (want : List Nat) :
    ((b.grantClaim k want).hw k).claims = want ∧ ((b.grantClaim k want).hw k).pc = (b.hw k).pc + 8 ∧
    ((b.grantClaim k want).hw k).phase = .running ∧ (b.grantClaim k want).mem = b.mem ∧ (b.grantClaim k want).lines = b.lines ∧
    (b.grantClaim k want).lanterns = b.lanterns := by
  obtain ⟨bs, hgrant⟩ := grantClaim_shape b k want
  have hhw : (b.grantClaim k want).hw k = ({ b.hw k with claims := want, claimWant := [], phase := .running } : Hw).next := by
    rw [hgrant]
    exact Block.setHw_hw _ _ _
  rw [hhw, hgrant]
  exact ⟨rfl, rfl, rfl, rfl, rfl, rfl⟩

section Claim

variable {s : State} {l h k : Nat} {w : W64} {b1 : Block} {x : Hw} {want : List Nat} (hf : Fetches s.blk l h b1 w)
  (h13 : fld w 13 51 = 0) (hk : hwNo l h = k) (hx : b1.hw k = x) (hwant : setBits (x.reg (fld w 8 5)) 32 = want)
include hf h13 hk hx hwant

theorem claim_granted (ho : fld w 0 8 = 0x51) (hnone : x.claims = []) (hfirst : (b1.lantern l).claimers = [])
    (hfree : b1.halvesFree l want = true) : exec (.claim l h w) s = .next (s.withBlk (b1.grantClaim k want)) := by
  subst hk hx hwant
  rw [exec_claim, execClaim, hf.run_body ho rfl (by simp [h13]), if_neg (not_not.2 hnone), if_pos ⟨hfirst, hfree⟩]

theorem claim_waits (ho : fld w 0 8 = 0x51) (hnone : x.claims = []) (hlater : (b1.lantern l).claimers ≠ []) :
    exec (.claim l h w) s = .next (s.withBlk ((b1.updHw k (fun y => { y with phase := .claiming, claimWant := want })).updLantern l
      (fun y => { y with claimers := addLast y.claimers h }))) := by
  subst hk hx hwant
  rw [exec_claim, execClaim, hf.run_body ho rfl (by simp [h13]), if_neg (not_not.2 hnone), if_neg (fun hc => hlater hc.1)]

theorem claim_again (ho : fld w 0 8 = 0x51) (hsome : x.claims ≠ []) :
    exec (.claim l h w) s = .next (s.withBlk (b1.exc k 0x10)) := by
  subst hk hx
  rw [exec_claim, execClaim, hf.run_body ho rfl (by simp [h13]), if_pos hsome]

/-- RELEASE of claimed halves changes beams and the claims of its hardware context, which goes on. -/
theorem release_gives (ho : fld w 0 8 = 0x52) (hall : ∀ n ∈ want, n ∈ x.claims) : ∃ bs, exec (.release l h w) s = .next (s.withBlk
    { b1.setHw k ({ x with claims := x.claims.filter (fun n => !want.contains n) } : Hw).next with beams := bs }) := by
  have hheld : want.any (fun n => !x.claims.contains n) = false := by simpa using hall
  obtain ⟨bs, hbs⟩ := foldl_beams (f := fun e n => e.updHalf l n (fun y => { y with releasing := true }))
    (fun _ _ => ⟨_, rfl⟩) want b1
  subst hk hx hwant
  rw [exec_release, execRelease, hf.run_body ho rfl (by simp [h13])]
  simp only [hheld, Bool.false_eq_true, if_false, hbs]
  obtain ⟨bs', hfree⟩ := freeHalves_shape (({ b1 with beams := bs } : Block).updHw (hwNo l h)
    (fun y => { y with claims := y.claims.filter (fun n => !(setBits ((b1.hw (hwNo l h)).reg (fld w 8 5)) 32).contains n) })) l
  refine ⟨bs', ?_⟩
  rw [hfree]
  exact congrArg (fun c : Block => Host.Outcome.next (s.withBlk { c with beams := bs' })) (setHw_advance b1 (hwNo l h) _)

end Claim

theorem claimGrant_grants {s : State} {l h : Nat} {rest : List Nat} (hc : (s.blk.lantern l).claimers = h :: rest)
    (hfree : s.blk.halvesFree l (s.blk.hw (hwNo l h)).claimWant = true) (hl : (s.blk.lantern l).loss = .alive) :
    exec (.claimGrant l) s = .next (s.withBlk ((s.blk.updLantern l (fun y => { y with claimers := rest })).grantClaim (hwNo l h)
      (s.blk.hw (hwNo l h)).claimWant)) := by
  simp only [exec_claimGrant, execClaimGrant, State.run_eq, hc]
  rw [if_pos ⟨hfree, hl⟩]

/-- Settles O15: SEND, RECV and the claims each by its own lemma, a grant and a release by all that they change. -/
theorem sendReceiveClaim : Obligations.SendReceiveClaim := by
  unfold Obligations.SendReceiveClaim
  refine ⟨?_, ?_⟩
  case refine_1 =>
    intro s l h w k
    refine ⟨?_, fun id i x p c w0 hfind hp hc hl hw hpath hrun hleft hshare =>
      sendArrival_completes hfind hp hc hpath hl hw hrun hleft hshare⟩
    intro b1 hf x ts hpois hlev
    have hsound : SoundTile x (fld w 8 4) := ⟨hpois, hlev⟩
    refine ⟨?_, ?_⟩
    · intro ho h28 htile hlens peer hmax hmask hread hroom
      exact send_completes rfl rfl rfl hsound hlens hf ho h28 htile rfl hmax hmask hread hroom
    · intro ho h26 htile hlens hwrite n tag
      have hrecv := recv_reads rfl rfl rfl hsound hlens htile hwrite rfl rfl hf ho h26
      refine ⟨fun hn => ?_, fun hn => ?_, fun hn hwait htime => ?_⟩
      · rw [hrecv, if_pos hn]
      · rw [hrecv, if_neg (Nat.not_le.2 hn)]
      · exact recvTimeout_late rfl rfl rfl hsound hlens htile hwrite rfl rfl hf ho hwait htime hn
  case refine_2 =>
    intro s l h w k
    refine ⟨?_, fun rest hc _ hfree hl => ?_⟩
    · intro b1 hf h13 x want
      refine ⟨fun ho hnone hfirst hfree => ?_, fun ho hnone hlater => ?_, fun ho hsome => claim_again hf h13 rfl rfl rfl ho hsome,
        fun ho hall => ?_⟩
      · obtain ⟨hclaims, hpc, hphase, hmem, hlines, -⟩ := grantClaim_grants b1 k want
        exact .of_exec (claim_granted hf h13 rfl rfl rfl ho hnone hfirst hfree) ⟨hclaims, hpc, hphase, hmem, hlines⟩
      · refine .of_exec (claim_waits hf h13 rfl rfl rfl ho hnone hlater) ?_
        simp [k, want, x]
      · obtain ⟨bs, hexec⟩ := release_gives hf h13 rfl rfl rfl ho hall
        have hhw (v : Hw) : ({ b1.setHw k v with beams := bs } : Block).hw k = v := Block.setHw_hw b1 k v
        refine .of_exec hexec ⟨?_, ?_, rfl, rfl⟩
        · exact congrArg Hw.claims (hhw _)
        · exact congrArg Hw.pc (hhw _)
    · obtain ⟨hclaims, hpc, hphase, hmem, -, hlanterns⟩ := grantClaim_grants
        (s.blk.updLantern l (fun y => { y with claimers := rest })) k (s.blk.hw k).claimWant
      refine .of_exec (claimGrant_grants hc hfree hl) ⟨?_, hclaims, hphase, hpc, hmem⟩
      have hl := congrArg (fun t => tget ({} : Lantern) t l) hlanterns
      exact congrArg Lantern.claimers (hl.trans (Block.setLantern_lantern _ _ _))

end Sys2Proof

/-! PROOFS. REDUCE, AMAX, OPT.STEP and OPT.CLOSE (R88 to R93, R134, R135): what each leaves whose checks pass and whose operands are
clean. -/

namespace Sys2Proof

open Sys2Proof.Machine

/-! ### What the commands run -/

theorem exec_optStep (l h : Nat) (w : W64) (s : State) : exec (.optStep l h w) s = execOptStep l h w s := rfl
theorem exec_optClose (l h : Nat) (w : W64) (s : State) : exec (.optClose l h w) s = execOptClose l h w s := rfl

/-! ### REDUCE and AMAX (R134) -/

/-- What a REDUCE computes: every element combined over the planes (R134). -/
def reduced (b : Block) (k : Nat) (ts : Line) (q p op : Nat) : List (List W32) :=
  (List.range (tdRows ts)).map (fun r => (List.range (tdCols ts)).map (fun j =>
    reduceWith op (((List.range q).map (fun i => b.plane k ts (i * p))).map (fun pl => (pl.getD r []).getD j 0))))

section Reductions

variable {s : State} {l h k : Nat} {w : W64} {b1 : Block} {x : Hw} {ts : Line} (hf : Fetches s.blk l h b1 w) (hk : hwNo l h = k)
  (hx : b1.hw k = x) (hts : x.tile (fld w 8 4) = ts) (hsrc : SoundTile x (fld w 8 4))
  (hstile : tdChk ts x.share false = none) (hslens : tdLens ts = true)
include hf hk hx hts hsrc hstile hslens

section Reduce

variable {op q p : Nat} {td : Line} (ho : fld w 0 8 = 0x70 + op) (h42 : fld w 42 22 = 0) (h26 : fld w 26 10 = 0)
  (h37 : bit w 36 = false → fld w 37 5 = 0) (htd : x.tile (fld w 12 4) = td) (hdst : SoundTile x (fld w 12 4))
  (hdtile : tdChk td x.share true = none) (hdlens : tdLens td = true) (hq : (x.reg (fld w 16 5)).toNat = q)
  (hp : (x.reg (fld w 21 5)).toNat = p)
include ho h42 h26 h37 htd hdst hdtile hdlens hq hp

theorem reduce_runs (hfmt : tdFmt ts ≤ 1) (hscale : tdScale ts = 0) (hmx : tdMx td = false) (hrows : tdRows ts = tdRows td)
    (hcols : tdCols ts = tdCols td) (hq1 : 1 ≤ q) (hq2 : q ≤ 4096) (hp64 : p % 64 = 0)
    (hshare : tdBase ts + (q - 1) * p + tdSpan ts ≤ x.share)
    (hread : x.mayRead (tdBase ts) ((q - 1) * p + tdSpan ts) = true) (hwrite : x.tileWritable td = true)
    (hclean : (List.range q).any (fun i => (List.range (tdRows ts)).any (fun r =>
      b1.lensBad k (tdBase ts + i * p + r * tdStride ts) (tdRowBytes ts))) = false) :
    s.run (fun b => b.reduce l h w op) = .next (s.withBlk
      ((b1.putConverted k td false (bit w 36) (x.stream (fld w 37 5)) (reduced b1 k ts q p op)).advance k)) := by
  have hrsv : (fld w 42 22 != 0 || fld w 26 10 != 0 || (!bit w 36 && fld w 37 5 != 0)) = false := by
    cases hb : bit w 36
    · simp [h42, h26, h37 hb]
    · simp [h42, h26]
  have hchk : firstErr [tdChk ts x.share false, tdChk td x.share true, need (tdLens ts && tdLens td) 0x0C,
      need (decide (tdFmt ts ≤ 1 ∧ tdScale ts = 0) && !tdMx td) 0x02,
      need (decide (tdRows ts = tdRows td ∧ tdCols ts = tdCols td ∧ 1 ≤ q ∧ q ≤ 4096 ∧ p % 64 = 0)) 0x03,
      need (decide (tdBase ts + (q - 1) * p + tdSpan ts ≤ x.share)) 0x09] = none := by
    simp only [firstErr_eq_none, List.forall_mem_cons, need_eq_none, Bool.and_eq_true, decide_eq_true_eq, Bool.not_eq_true']
    exact ⟨hstile, hdtile, ⟨hslens, hdlens⟩, ⟨⟨hfmt, hscale⟩, hmx⟩, ⟨hrows, hcols, hq1, hq2, hp64⟩, hshare, List.forall_mem_nil _⟩
  subst hk hx hts htd hq hp
  refine (hf.run_body ho rfl hrsv _).trans ?_
  simp only [useTiles_sound (soundPair hsrc hdst), checked_passes hchk, hread, hwrite, hclean, Bool.not_true, Bool.or_self,
    Bool.false_eq_true, if_false]
  rfl

end Reduce

/-- The operands that AMAX.ACC combines the amax and the nonfinite count with; AMAX takes them as they are (R134). -/
theorem amaxOp_runs {gd gc : Nat} (acc : Bool) (ho : fld w 0 8 = if acc then 0x74 else 0x73) (h36 : fld w 36 28 = 0)
    (h12 : fld w 12 14 = 0) (hgd : fld w 26 5 = gd) (hgc : fld w 31 5 = gc) (hscale : tdScale ts = 0)
    (hread : x.tileReadable ts = true) (hclean : b1.tilePoison k ts = false) {r : W32 × Nat}
    (hr : amaxOf (b1.lensVals k ts).flatten = r) : s.run (fun b => b.amaxOp l h w acc) = .next (s.withBlk
      (((b1.setG k gd (BitVec.ofNat 64 (if acc then max32 (BitVec.ofNat 32 (x.reg gd).toNat) r.1 else r.1).toNat)).setG k gc
        (if acc then x.reg gc + BitVec.ofNat 64 r.2 else BitVec.ofNat 64 r.2)).advance k)) := by
  have hchk : firstErr [tdChk ts x.share false, need (tdLens ts) 0x0C, need (tdScale ts == 0) 0x02] = none := by
    simp only [firstErr_eq_none, List.forall_mem_cons, need_eq_none, beq_iff_eq]
    exact ⟨hstile, hslens, hscale, List.forall_mem_nil _⟩
  subst hk hx hts hgd hgc hr
  refine (hf.run_body ho rfl (by simp [h36, h12]) _).trans ?_
  simp only [useTiles_sound (soundOne hsrc), checked_passes hchk, hread, hclean, Bool.not_true, Bool.false_eq_true, if_false]

end Reductions

/-! ### OPT.STEP and OPT.CLOSE (R88 to R93, R135) -/

section Optimiser

variable {s : State} {l h k : Nat} {w : W64} {b1 : Block} {x : Hw} (hf : Fetches s.blk l h b1 w) (hk : hwNo l h = k)
  (hx : b1.hw k = x)
include hf hk hx

section OptStep

variable {tw tm tv tg hd ly ly1 : Line} {b2 b3 b4 : Block} {hv p0 p1 : Nat} {adam : Bool} {outs : List (List OptOut)}

variable (ho : fld w 0 8 = 0x80) (h39 : fld w 39 25 = 0) (htw : x.tile (fld w 8 4) = tw) (htm : x.tile (fld w 12 4) = tm)
  (htv : x.tile (fld w 16 4) = tv) (htg : x.tile (fld w 20 4) = tg)
  (hsound : ∀ i ∈ [fld w 8 4, fld w 12 4, fld w 20 4], SoundTile x i) (htile : firstErr (optTileChk x w) = none)
include ho h39 htw htm htv htg hsound htile

variable (hhyper : ∀ go, b1.dieRead l h 9 (x.reg (fld w 24 5)).toNat 64 go = go b2 hv)
  (hlayer : ∀ go, b2.withLayer l h (x.reg (fld w 29 5)).toNat go = go b3 p0 p1 ly ly1)
  (hpois : (b3.hw k).tPoison = x.tPoison) (htiles : (b3.hw k).t = x.t) (hhd : BitVec.ofNat 512 hv = hd)
  (hadam : decide (2 ≤ lyAlgo ly) = adam) (hrec : firstErr (optRecChk x w hd ly ly1) = none)
include hhyper hlayer hpois htiles hhd hadam hrec

variable (hstate : adam = true → SoundTile x (fld w 16 4) ∧ x.tileWritable tv = true ∧ b3.tilePoison k tv = false)
  (hread : x.tileReadable tg = true) (hwrite : x.tileWritable tw = true) (hmoment : x.tileWritable tm = true)
  (hcw : b3.tilePoison k tw = false) (hcm : b3.tilePoison k tm = false) (hcg : b3.tilePoison k tg = false)
include hstate hread hwrite hmoment hcw hcm hcg

/-- OPT.STEP whose checks pass, over tiles without poison: the counts are added at the home of the layer record, and the tiles take
the updated elements. -/
theorem optStep_runs (houts : optRows (hyperOf hd) ly tw tg x.seed (x.stream (fld w 34 5)) (b3.lens32 k tw) (b3.lens32 k tm)
      (if adam then b3.lens32 k tv else []) (b3.lensRows k tg) = outs)
    (hcount : b3.addCounts (((b3.dom p0).getD 0) / 64) 16 (optCounts outs) = .ok b4) :
    exec (.optStep l h w) s = .next (s.withBlk ((b4.optWrite k x w adam outs).advance k)) := by
  have hthird : ∀ i ∈ (if adam then [fld w 16 4] else []), SoundTile (b3.hw k) i := by
    split
    next ha => simpa [SoundTile, Hw.tile, hpois, htiles] using (hstate ha).1
    next => exact fun i hi => absurd hi List.not_mem_nil
  have hfree : (adam && !x.tileWritable tv) = false := Bool.and_eq_false_imp.2 fun ha => by simp [(hstate ha).2.1]
  have hcv : (adam && b3.tilePoison k tv) = false := Bool.and_eq_false_imp.2 fun ha => (hstate ha).2.2
  subst hk hx htw htm htv htg hhd hadam houts
  rw [exec_optStep, execOptStep, hf.run_body ho rfl (by simp [h39])]
  simp only [useTiles_sound hsound, checked_passes htile]
  rw [hhyper, hlayer]
  simp only [useTiles_sound hthird, checked_passes hrec, hread, hwrite, hmoment, hfree, hcw, hcm, hcg, hcv, hcount, Bool.not_true,
    Bool.or_self, Bool.false_eq_true, if_false]

end OptStep

/-- The block after the closing of a step: QUIET_LAYER is counted and raised where the layer has become quiet (R93). -/
def quietRaised (b : Block) (l : Nat) (quiet : Bool) (args : List Nat) : Block :=
  if quiet then
    ({ b with silent := { b.silent with quietEvents := b.silent.quietEvents + 1 } }).raise (unitNo 0x20 l) .quietLayer args
  else b

theorem optClose_runs {ly ly1 : Line} {b2 b3 b4 : Block} {gl p0 p1 : Nat} {r : Line × Line × Bool} (ho : fld w 0 8 = 0x81)
    (h8 : fld w 8 21 = 0) (h34 : fld w 34 30 = 0) (hgl : (x.reg (fld w 29 5)).toNat = gl) (ha : gl % 64 = 0)
    (hlayer : ∀ go, b1.withLayer l h gl go = go b2 p0 p1 ly ly1) (hchk : firstErr (layerChk ly ly1) = none)
    (hr : closeLayer ly (b2.cfg 0x60000030 1000) (b2.cfg 0x60000031 256) = r)
    (hwrite0 : b2.write (((b2.dom p0).getD 0) / 64) (BitVec.allOnes 64) r.1 false = .ok b3)
    (hwrite1 : b3.write (((b2.dom p1).getD 0) / 64) (BitVec.allOnes 64) r.2.1 false = .ok b4) :
    exec (.optClose l h w) s = .next (s.withBlk ((quietRaised b4 l r.2.2 [x.ctx, p0, fld r.1 32 32]).advance k)) := by
  have hones : (0xFFFFFFFFFFFFFFFF#64) = BitVec.allOnes 64 := rfl
  subst hk hx hgl hr
  rw [exec_optClose, execOptClose, hf.run_body ho rfl (by simp [h8, h34]), if_neg (not_not.2 ha), hlayer]
  simp only [checked_passes hchk, hones, hwrite0, hwrite1]
  rfl

end Optimiser

/-- Settles O19: REDUCE and AMAX by the one lemma of each, the optimiser's two instructions by what they read and write. -/
theorem reductionsAndOptimiser : Obligations.ReductionsAndOptimiser := by
  unfold Obligations.ReductionsAndOptimiser
  refine ⟨?_, ?_⟩
  case refine_1 =>
    intro s l h w b1 hf k x ts hpois hlev hstile hslens
    have hsrc : SoundTile x (fld w 8 4) := ⟨hpois, hlev⟩
    refine ⟨?_, ?_⟩
    · intro td q p clean planes res t h42 h26 h37 hdpois hdlev hdtile hdlens hfmt hscale hmx hrows hcols hq1 hq2 hp64 hshare hread
        hwrite hclean
      have hrun (op : Nat) (ho : fld w 0 8 = 0x70 + op) : s.run (fun b => b.reduce l h w op) = .next (t op) :=
        reduce_runs hf rfl rfl rfl hsrc hstile hslens ho h42 h26 h37 rfl ⟨hdpois, hdlev⟩ hdtile hdlens rfl rfl hfmt hscale hmx hrows
          hcols hq1 hq2 hp64 hshare hread hwrite hclean
      exact ⟨hrun 0, hrun 1, hrun 2⟩
    · intro r gd gc t h36 h12 hscale hread hclean
      have hrun (acc : Bool) (ho : fld w 0 8 = if acc then 0x74 else 0x73) : s.run (fun b => b.amaxOp l h w acc) = _ :=
        amaxOp_runs hf rfl rfl rfl hsrc hstile hslens acc ho h36 h12 rfl rfl hscale hread hclean rfl
      exact ⟨hrun false, hrun true⟩
  case refine_2 =>
    intro s l h w b1 hf k x gl
    refine ⟨?_, ?_⟩
    · intro ho h39 tw tm tv tg hsound htile b2 hv hhyper b3 p0 p1 ly ly1 hlayer hpois htiles hd adam hstate hrec hread hwrite
        hmoment hcw hcm hcg outs b4 hcount
      refine optStep_runs hf rfl rfl ho h39 rfl rfl rfl rfl hsound htile hhyper hlayer hpois htiles rfl rfl hrec (fun hadam => ?_)
        hread hwrite hmoment hcw hcm hcg rfl hcount
      obtain ⟨hpois, hlev, hwritable, hclean⟩ := hstate hadam
      exact ⟨⟨hpois, hlev⟩, hwritable, hclean⟩
    · intro ho h8 h34 ha b2 p0 p1 ly ly1 hlayer hchk r b3 b4 hwrite0 hwrite1
      exact optClose_runs hf rfl rfl ho h8 h34 rfl ha hlayer hchk rfl hwrite0 hwrite1

end Sys2Proof

/-! PROOFS. The loss of stack channels (R194 to R210, R404): the repair path moves berths, ends requests and raises events, and
neither a channel nor the loss of a sinker changes by it. -/

namespace Sys2Proof

open Sys2Proof.Machine

/-- Two blocks agree on the memory channels and on which sinkers are lost. -/
structure SameLosses (b c : Block) : Prop where
  channels : c.channels = b.channels
  lost : ∀ n, (c.sinker n).lost = (b.sinker n).lost

namespace SameLosses

variable {b c d : Block}

theorem of (hc : c.channels = b.channels) (hs : c.sinkers = b.sinkers) : SameLosses b c :=
  ⟨hc, fun n => congrArg (fun t => (tget ({} : Sinker) t n).lost) hs⟩

theorem refl (b : Block) : SameLosses b b := .of rfl rfl

theorem trans (h : SameLosses b c) (i : SameLosses c d) : SameLosses b d :=
  ⟨i.channels.trans h.channels, fun n => (i.lost n).trans (h.lost n)⟩

theorem channel (h : SameLosses b c) (n : Nat) : c.channel n = b.channel n := congrArg (fun t => tget ({} : Channel) t n) h.channels

/-- A fold of steps that each keep the agreement keeps it. -/
theorem foldl {α : Type} {f : Block → α → Block} (hf : ∀ a x, SameLosses a (f a x)) (xs : List α) (b : Block) :
    SameLosses b (xs.foldl f b) := by
  induction xs generalizing b with
  | nil => exact refl b
  | cons x xs ih => exact (hf b x).trans (ih _)

/-! ### Updates -/

theorem setBerth (b : Block) (n : Nat) (x : Berth) : SameLosses b (b.setBerth n x) := .of rfl rfl
theorem updDomain (b : Block) (n : Nat) (f : Domain → Domain) : SameLosses b (b.updDomain n f) := .of rfl rfl
theorem raise (b : Block) (u : Nat) (e : Ev) (args : List Nat) : SameLosses b (b.raise u e args) := .of (by simp) (by simp)
theorem finishSts (b : Block) (o n : Nat) (r : Sts) (t : Nat) : SameLosses b (b.finishSts o n r t) := .of (by simp) (by simp)

/-! ### Frames and moves (R190, R195, R196, R208) -/

theorem retireNow (b : Block) (d tier frame : Nat) : SameLosses b (b.retireNow d tier frame) := .of rfl rfl
theorem freeFrame (b : Block) (d tier frame : Nat) : SameLosses b (b.freeFrame d tier frame) := .of rfl rfl
theorem updStream (b : Block) (num : Nat) (f : Stream → Stream) : SameLosses b (b.updStream num f) := .of rfl rfl

theorem startMove {n t : Nat} (h : b.startMove n t = some c) : SameLosses b c := by
  simp only [Block.startMove, Option.ite_none_left_eq_some, Option.some.injEq] at h
  obtain ⟨-, rfl⟩ := h
  exact .of rfl rfl

theorem startQueued (b : Block) (n : Nat) : SameLosses b (b.startQueued n) := by
  refine foldl (fun a m => ?_) _ b
  dsimp only
  split
  · exact refl a
  · split
    · exact updDomain ..
    · split
      · exact refl a
      · split
        next hm => exact (startMove hm).trans (updDomain ..)
        next => exact refl a

theorem queueMoves (b : Block) (n : Nat) (ms : List (Nat × Nat)) : SameLosses b (b.queueMoves n ms) :=
  (updDomain ..).trans (startQueued ..)

theorem cancelMove (b : Block) (n : Nat) : SameLosses b (b.cancelMove n) := by
  unfold Block.cancelMove
  dsimp only
  split
  · exact ((updDomain ..).trans (setBerth ..)).trans (freeFrame ..)
  · exact updDomain ..

/-! ### Windows and tier commands (R194, R198, R200) -/

theorem returnBerth (b : Block) (num n : Nat) : SameLosses b (b.returnBerth num n) := by
  have hcopy (p : Prop) [Decidable p] (d t0 f0 t1 f1 : Nat) : SameLosses b (if p then b.copyFrame d t0 f0 t1 f1 else b) := by
    split
    · exact .of rfl rfl
    · exact refl b
  unfold Block.returnBerth
  dsimp only
  split
  · exact refl b
  · split
    · exact (((hcopy ..).trans (setBerth ..)).trans (updDomain ..)).trans (retireNow ..)
    · exact (((hcopy ..).trans (setBerth ..)).trans (updDomain ..)).trans (updStream ..)

theorem returnLayer (b : Block) (num layer : Nat) : SameLosses b (b.returnLayer num layer) := by
  unfold Block.returnLayer
  split
  · exact refl b
  · refine trans ?_ (updStream ..)
    split
    · exact refl b
    · exact foldl (fun a n => returnBerth a num n) _ b

theorem returnWindows (b : Block) (n : Nat) : SameLosses b (b.returnWindows n) :=
  foldl (fun a (s : Machine.Stream) => foldl (fun c k => returnLayer c s.num k) _ a) _ b

theorem endWaits (b : Block) (n : Nat) (p : TierWait → Bool) : SameLosses b (b.endWaits n p) :=
  (updDomain ..).trans (foldl (fun a _ => finishSts a _ _ _ _) _ _)

theorem reserve (b : Block) (num : Nat) : SameLosses b (b.reserve num) := by
  unfold Block.reserve
  split
  · exact refl b
  · dsimp only
    split
    · exact refl b
    · refine trans (foldl (fun a _ => ?_) _ b) (endWaits ..)
      exact .of rfl rfl

theorem checkWaits (b : Block) (n : Nat) : SameLosses b (b.checkWaits n) :=
  (foldl (fun a (w : TierWait) => reserve a w.key) _ b).trans (endWaits ..)

/-! ### The repair path (R205 to R207) -/

theorem startEvac (b : Block) (n : Nat) : SameLosses b (b.startEvac n) := by
  unfold Block.startEvac
  dsimp only
  split
  · exact (updDomain ..).trans (raise ..)
  · refine trans ?_ (((foldl (fun a m => cancelMove a m) _ _).trans (queueMoves ..)).trans (checkWaits ..))
    exact (((updDomain ..).trans (raise ..)).trans (returnWindows ..)).trans (updDomain ..)

theorem repairPath (b : Block) (n ch : Nat) : SameLosses b (b.repairPath n ch) := by
  unfold Block.repairPath
  split
  · exact (updDomain ..).trans (startEvac ..)
  · exact refl b

theorem failStreamed (b : Block) (n : Nat) : SameLosses b (b.failStreamed n) :=
  (((cancelMove ..).trans (setBerth ..)).trans (updDomain ..)).trans (raise ..)

theorem failWindows (b : Block) (n : Nat) : SameLosses b (b.failWindows n) := by
  refine (foldl (fun a m => failStreamed a m) _ b).trans (foldl (fun a s => ?_) _ _)
  refine trans (foldl (fun e m => foldl (fun g k => ?_) _ e) _ a) (updStream ..)
  dsimp only
  split
  · exact ((setBerth ..).trans (updStream ..)).trans (raise ..)
  · exact refl g

/-! ### Ends of requests (R112, R119, R169) -/

/-- A change of every record of a table that keeps a property of it keeps the property of what is read. -/
theorem tget_map_of_keeps {α β : Type} {d : α} {p : α → β} {f : α → α} (hf : ∀ x, p (f x) = p x) (t : Tab α) (k : Nat) :
    p (tget d (t.map (fun e => (e.1, f e.2))) k) = p (tget d t k) := by
  induction t with
  | nil => rfl
  | cons e t ih =>
    obtain ⟨j, v⟩ := e
    by_cases hj : j = k
    · simp [tget, hj, hf]
    · simpa [tget, hj] using ih

theorem filterOps (b : Block) (keep : SinkOp → Bool) : SameLosses b
    { b with sinkers := b.sinkers.map (fun e => (e.1, { e.2 with ops := e.2.ops.filter keep })) } :=
  ⟨rfl, fun n => tget_map_of_keeps (p := Sinker.lost) (f := fun x => { x with ops := x.ops.filter keep }) (fun _ => rfl)
    b.sinkers n⟩

theorem withdrawSinks (b : Block) (k : Nat) : SameLosses b (b.withdrawSinks k) := by
  unfold Block.withdrawSinks
  refine trans ?_ (foldl (fun a o => ?_) _ _)
  case refine_2 => exact .of rfl rfl
  split
  · exact refl b
  · exact filterOps b _

theorem endReq (b : Block) (k st d : Nat) : SameLosses b (b.endReq k st d) := by
  have hstop (f : Hw → Hw) (g : Lantern → Lantern) : SameLosses b (((b.withdrawSinks k).updHw k f).updLantern (k / 4) g) :=
    (withdrawSinks b k).trans (.of rfl rfl)
  unfold Block.endReq
  dsimp only
  split
  · exact refl b
  · split
    · exact refl b
    · exact hstop _ _
  · exact refl b
  · split
    · exact refl b
    · exact hstop _ _
  · exact hstop _ _

theorem failWaits (b : Block) : SameLosses b b.failWaits := foldl (fun a (e : Nat × Hw) => endReq a e.1 0x30 5) _ b

end SameLosses

/-! ### Channels that become LOST (R206, R404) -/

/-- A block in which channels are LOST. -/
def markLost (b : Block) (chs : List Nat) : Block := chs.foldl (fun a c => a.updChannel c (fun x => { x with st := .lost })) b

/-- The named channels are LOST, and those that were LOST before still are. -/
theorem markLost_channel {chs : List Nat} {b : Block} {n : Nat} (h : n ∈ chs ∨ (b.channel n).st = .lost) :
    ((markLost b chs).channel n).st = .lost := by
  induction chs generalizing b with
  | nil => exact h.resolve_left List.not_mem_nil
  | cons c chs ih =>
    refine ih (b := b.updChannel c _) ?_
    by_cases hn : n = c
    · exact .inr (by simp [hn])
    · rw [Block.updChannel_eq, Block.setChannel_channel_ne _ _ _ _ hn]
      exact h.imp_left fun hmem => (List.mem_cons.1 hmem).resolve_left hn

theorem markLost_sinker (b : Block) (chs : List Nat) (n : Nat) : (markLost b chs).sinker n = b.sinker n := by
  induction chs generalizing b with
  | nil => rfl
  | cons c chs ih => exact ih (b.updChannel c _)

/-- After the channels of a loss are marked, nothing changes a channel or loses a sinker. -/
theorem loseChannels_sameLosses (b : Block) (d : Nat) (chs : List Nat) :
    SameLosses (markLost b (chs.filter (fun c => (b.channel c).st != .lost))) (b.loseChannels d chs) := by
  have hfail (e : Errors) : SameLosses (markLost b (chs.filter (fun c => (b.channel c).st != .lost)))
      { ((markLost b (chs.filter (fun c => (b.channel c).st != .lost))).failWindows d).failWaits with errors := e } :=
    ((SameLosses.failWindows _ d).trans (.failWaits _)).trans (.of rfl rfl)
  unfold Block.loseChannels
  dsimp only
  split
  · exact hfail _
  · exact (hfail _).trans (.repairPath ..)

/-- After the loss of stack channels the named ones are LOST; sinkers are lost as before. -/
theorem loseChannels_lost (b : Block) (d : Nat) (chs : List Nat) :
    (∀ n ∈ chs, ((b.loseChannels d chs).channel n).st = .lost) ∧
    ∀ n, ((b.loseChannels d chs).sinker n).lost = (b.sinker n).lost := by
  have hsame := loseChannels_sameLosses b d chs
  refine ⟨fun n hn => ?_, fun n => ?_⟩
  · rw [hsame.channel]
    refine markLost_channel ?_
    by_cases hlost : (b.channel n).st = .lost
    · exact .inr hlost
    · exact .inl (List.mem_filter.2 ⟨hn, by simpa using hlost⟩)
  · rw [hsame.lost, markLost_sinker]

end Sys2Proof

/-! PROOFS. Sinkers (R122, R136, R169, R178, R180, R404): the admission and completion of descriptors, the throttle that a
temperature sets, and the loss of a sinker die. -/

namespace Sys2Proof

open Sys2Proof.Machine

/-! ### What the commands run -/

theorem exec_sink (l h : Nat) (w : W64) (s : State) : exec (.sink l h w) s = execSink l h w s := rfl
theorem exec_sinkAdmit (n : Nat) (s : State) : exec (.sinkAdmit n) s = execSinkAdmit n s := rfl
theorem exec_sinkDone (n id : Nat) (s : State) : exec (.sinkDone n id) s = execSinkDone n id s := rfl
theorem exec_sinkerLost (n : Nat) (s : State) : exec (.sinkerLost n) s = execSinkerLost n s := rfl

/-! ### SINK and the queue of a sinker (R136, R169) -/

/-- SINK of a descriptor that is read and passes its checks enters it at its sinker. -/
theorem sink_enters {s : State} {l h va : Nat} {w : W64} {b1 b2 b3 : Block} {v : Nat} {o : SinkOp} (hf : Fetches s.blk l h b1 w)
    (ho : fld w 0 8 = 0x90) (h15 : fld w 15 49 = 0) (hva : ((b1.hw (hwNo l h)).reg (rD w)).toNat = va)
    (hwait : (b1.hw (hwNo l h)).waiting = false) (ha : va % 64 = 0) (hread : ∀ go, b1.dieRead l h 9 va 64 go = go b2 v)
    (hchk : ∀ go, b2.sinkChecked l h v (some (fld w 13 2)) none go = go b3 o) :
    exec (.sink l h w) s = .next (s.withBlk (b3.enterSink l h o)) := by
  subst hva
  rw [exec_sink, execSink, hf.run_body ho rfl (by simp [h15]), if_neg (by simp [hwait]), if_neg (not_not.2 ha), hread, hchk]

@[simp] theorem setSinker_setSinker (b : Block) (n : Nat) (x y : Sinker) : (b.setSinker n x).setSinker n y = b.setSinker n y :=
  congrArg (fun t => { b with sinkers := t }) (tput_tput_same b.sinkers n x y)

theorem setSinker_advance (b : Block) (n k : Nat) (x : Sinker) : (b.setSinker n x).advance k = (b.advance k).setSinker n x := rfl

/-- A descriptor with its results in memory that finds room is admitted: it stands last at its sinker, its tally and its chart
reference are taken, and the program goes on. -/
theorem enterSink_admits {b : Block} {l h i n : Nat} {o : SinkOp} (ht : o.tally = some i) (hlens : skLens o.desc = false)
    (hn : skStack o.desc = n) (hroom : (b.sinker n).room false = true) : b.enterSink l h o =
    ((({ b with nextId := b.nextId + 1 } : Block).addRef l o.id).setHw (hwNo l h) ((b.hw (hwNo l h)).starting i)).setSinker n
      { b.sinker n with ops := (b.sinker n).ops ++ [{ o with admitted := true }], last := l } := by
  subst hn
  simp only [Block.enterSink, ht, hlens, hroom, Bool.false_eq_true, if_false, if_true, Block.tallyUp, Block.updHw_eq,
    Block.updSinker_eq, setSinker_setSinker, Block.setSinker_sinker, setSinker_advance, setHw_advance]
  rfl

/-- A queue below its 256 descriptors in which none waits has room. -/
theorem room_of_admitted {x : Sinker} (hq : x.queued < 256) (hall : ∀ q ∈ x.ops, q.admitted = true) : x.room false = true := by
  simp only [Sinker.room, hq, decide_true, Bool.true_and, Bool.false_and, Bool.or_false, List.all_eq_true]
  exact hall

/-- SINK_ADMIT of a descriptor that a program's SINK waits with: it is admitted, and the program goes on. -/
theorem sinkAdmit_admits {s : State} {n k : Nat} {o : SinkOp} (hnext : (s.blk.sinker n).next = some o)
    (hq : (s.blk.sinker n).queued < 256) (hg : o.group = none) (ht : o.tally ≠ none) (hk : hwNo o.lantern o.hw = k)
    (hwait : (s.blk.hw k).waiting = true) (hrun : (s.blk.hw k).phase = .running) : exec (.sinkAdmit n) s = .next (s.withBlk
      ((s.blk.setSinker n { s.blk.sinker n with
        ops := (s.blk.sinker n).ops.map (fun q => if q.id = o.id then { q with admitted := true } else q)
        last := o.lantern }).advance k)) := by
  have hissued : o.tally.isSome = true := Option.isSome_iff_ne_none.2 ht
  subst hk
  simp only [exec_sinkAdmit, execSinkAdmit, State.run_eq, hnext, hq, if_true, Block.updOp, Block.updSinker_eq, setSinker_setSinker,
    Block.setSinker_sinker, Block.setSinker_frame, hg, Option.isSome_none, Bool.false_eq_true, if_false, hissued, hwait, hrun,
    and_self]

theorem sinkDone_found {s : State} {n id : Nat} {o : SinkOp} (hfind : (s.blk.sinker n).ops.find? (fun q => q.id == id) = some o) :
    exec (.sinkDone n id) s = .next (s.withBlk (if o.ran then s.blk.retireSink n o else s.blk)) := by
  simp only [exec_sinkDone, execSinkDone, State.run_eq, hfind]

/-! ### The throttle (R180) -/

/-- The throttle that a temperature of the hottest sensor asks for (R180). -/
def throttleFor (milliC : Int) : Throttle :=
  if milliC ≥ 95000 then .stopped else if milliC ≥ 90000 then .quarter else if milliC ≥ 85000 then .half else .full

/-- The throttle that a sample sets: upward at once, downward one state at a sample and below the lower bound of the state only
(R180). -/
def throttled (x : Throttle) (milliC : Int) : Throttle :=
  match x with
  | .full => throttleFor milliC
  | .half => if milliC < 83000 then .full else if throttleFor milliC = .full then .half else throttleFor milliC
  | .quarter => if milliC < 88000 then .half else if throttleFor milliC = .stopped then .stopped else .quarter
  | .stopped => if milliC < 93000 then .quarter else .stopped

/-- Whether a sample stops a sinker that was not stopped. -/
def newlyStopped (x : Throttle) (milliC : Int) : Bool := throttled x milliC == .stopped && x != .stopped

/-- A sinker after a sample of its stack's temperature. -/
def sampled (x : Sinker) (milliC : Int) : Sinker :=
  { x with throttle := throttled x.throttle milliC, refresh2 := throttled x.throttle milliC == .stopped,
           hotEvents := x.hotEvents + (if newlyStopped x.throttle milliC then 1 else 0) }

theorem stackTempSample_runs (s : State) (n : Nat) (t : Int) : exec (.stackTempSample n t) s = .next (s.withBlk
    (if newlyStopped (s.blk.sinker n).throttle t then
      (s.blk.setSinker n (sampled (s.blk.sinker n) t)).raise (unitNo 0x30 n) .stackHot [n]
    else s.blk.setSinker n (sampled (s.blk.sinker n) t))) := rfl

/-- After a sample the sinker is as `sampled` says, whether an event is raised or not. -/
theorem stackTempSample_completes (s : State) (n : Nat) (t : Int) {P : Sinker → Prop} (hP : P (sampled (s.blk.sinker n) t)) :
    Completes (.stackTempSample n t) s (fun u => P (u.blk.sinker n)) := by
  refine .of_exec (stackTempSample_runs s n t) ?_
  split
  · simpa using hP
  · simpa using hP

section Throttled

variable {t : Int}

theorem throttleFor_full (h : t < 85000) : throttleFor t = .full := by
  rw [throttleFor, if_neg (by omega), if_neg (by omega), if_neg (by omega)]

theorem throttleFor_half (hlo : 85000 ≤ t) (hhi : t < 90000) : throttleFor t = .half := by
  rw [throttleFor, if_neg (by omega), if_neg (by omega), if_pos hlo]

theorem throttleFor_stopped_iff : throttleFor t = .stopped ↔ 95000 ≤ t := by
  refine ⟨fun h => ?_, fun h => if_pos h⟩
  by_contra hlt
  rw [throttleFor, if_neg hlt] at h
  split at h
  · cases h
  · split at h
    · cases h
    · cases h

/-- Below 83 °C a sinker that runs at full or half rate runs at full rate. -/
theorem throttled_cool (h : t < 83000) {x : Throttle} (hx : x = .full ∨ x = .half) : throttled x t = .full := by
  rcases hx with rfl | rfl
  · exact throttleFor_full (by omega)
  · exact if_pos h

theorem throttled_half_stays (hlo : 83000 ≤ t) (hhi : t < 85000) : throttled .half t = .half := by
  rw [throttled, if_neg (by omega), if_pos (throttleFor_full hhi)]

theorem throttled_quarter_stays (hlo : 88000 ≤ t) (hhi : t < 95000) : throttled .quarter t = .quarter := by
  rw [throttled, if_neg (by omega), if_neg (mt throttleFor_stopped_iff.1 (by omega))]

/-- From 95 °C on a sinker is stopped, whatever its rate was. -/
theorem throttled_hot (h : 95000 ≤ t) (x : Throttle) : throttled x t = .stopped := by
  have hup : throttleFor t = .stopped := throttleFor_stopped_iff.2 h
  cases x
  case full => exact hup
  case half => rw [throttled, if_neg (by omega), hup, if_neg (by decide)]
  case quarter => rw [throttled, if_neg (by omega), if_pos hup]
  case stopped => exact if_neg (by omega)

end Throttled

/-- A sample that stops a sinker doubles the refresh of its stack, counts the stop and raises STACK_HOT. -/
theorem stackTempSample_stops {s : State} {n : Nat} {t : Int} (ht : 95000 ≤ t) (hx : (s.blk.sinker n).throttle ≠ .stopped) :
    Completes (.stackTempSample n t) s (fun u => (u.blk.sinker n).throttle = .stopped ∧ (u.blk.sinker n).refresh2 = true ∧
      (u.blk.sinker n).hotEvents = (s.blk.sinker n).hotEvents + 1 ∧
      u.blk.events = (s.blk.raise (unitNo 0x30 n) .stackHot [n]).events ∧ u.blk.mem = s.blk.mem) := by
  have hnew : newlyStopped (s.blk.sinker n).throttle t = true := by
    simp [newlyStopped, throttled_hot ht, hx]
  refine .of_exec (stackTempSample_runs s n t) ?_
  rw [if_pos hnew]
  refine ⟨?_, ?_, ?_, raise_events_congr (by simp) (by simp) _ _ _, by simp⟩
  · simp [sampled, throttled_hot ht]
  · simp [sampled, throttled_hot ht]
  · simp [sampled, hnew]

/-! ### The loss of a sinker (R404) -/

/-- A sinker without descriptors is lost: it takes none more, and the stack channels of its domain are LOST. -/
theorem sinkerLost_completes {s : State} {n : Nat} (hn : n < 16) (hl : (s.blk.sinker n).lost = false)
    (hops : (s.blk.sinker n).ops = []) : Completes (.sinkerLost n) s (fun u => (u.blk.sinker n).lost = true ∧
      ∀ i, i < 32 → (u.blk.channel (n / 2 * 32 + i)).st = .lost) := by
  have hexec : exec (.sinkerLost n) s = .next (s.withBlk
      (((s.blk.updSinker n (fun x => { x with lost := true })).raise (unitNo 0x30 n) .sinkerLost [n]).loseChannels (n / 2)
        (stackChannels (n / 2)))) := by
    simp [exec_sinkerLost, execSinkerLost, Nat.not_le.2 hn, hl, hops]
  refine .of_exec hexec ?_
  obtain ⟨hchannels, hsinkers⟩ := loseChannels_lost
    ((s.blk.updSinker n (fun x => { x with lost := true })).raise (unitNo 0x30 n) .sinkerLost [n]) (n / 2) (stackChannels (n / 2))
  refine ⟨(hsinkers n).trans (by simp), fun i hi => hchannels _ ?_⟩
  exact List.mem_map.2 ⟨i, List.mem_range.2 hi, Nat.add_comm _ _⟩

/-- Settles O20: the queue of a sinker by what enters, is admitted and retires, the throttle by `throttled`, the loss by that of the
stack channels. -/
theorem sinkQueueAndConditions : Obligations.SinkQueueAndConditions := by
  unfold Obligations.SinkQueueAndConditions
  refine ⟨⟨?_, ?_, ?_, ?_⟩, ?_⟩
  · intro s l h w b1 hf ho h15 k va hwait ha b2 v hread b3 o hchk
    exact sink_enters hf ho h15 rfl hwait ha hread hchk
  · intro b l h o i ht hlens _ hq hall t k
    have henter : t = _ := enterSink_admits ht hlens rfl (room_of_admitted hq hall)
    have hhw : t.hw k = (b.hw k).starting i := henter ▸ Block.setHw_hw _ _ _
    refine ⟨?_, hhw ▸ starting_tally _ _, hhw ▸ rfl, henter ▸ rfl, henter ▸ rfl⟩
    rw [henter, Block.setSinker_sinker]
  · intro s n o hnext hq hg ht hwait hrun
    refine .of_exec (sinkAdmit_admits hnext hq hg ht rfl hwait hrun) ?_
    simp only [setSinker_advance, Block.setSinker_sinker]
    refine ⟨trivial, fun q hqm hid => ?_, congrArg Hw.pc (Block.setHw_hw _ _ _), rfl⟩
    obtain ⟨q0, -, rfl⟩ := List.mem_map.1 hqm
    split at hid
    case isTrue h0 => rw [if_pos h0]
    case isFalse h0 => exact absurd hid h0
  · intro s n id o hfind
    rw [sinkDone_found hfind]
    exact ⟨fun h => by rw [if_pos h], fun h => by rw [if_neg (by simp [h])]⟩
  · intro s n hn x
    have hset {t : Int} {y z : Throttle} (hy : x.throttle = y) (hz : throttled y t = z) :
        Completes (.stackTempSample n t) s (fun u => (u.blk.sinker n).throttle = z) :=
      stackTempSample_completes s n t (P := fun y => y.throttle = z) ((congrArg (fun y => throttled y t) hy).trans hz)
    refine ⟨fun t ht hx => hset rfl (throttled_cool ht hx), fun t ht hx => hset hx (if_pos ht), fun t ht hx => ?_,
      fun t hlo hhi hx => hset hx (throttleFor_half hlo hhi), fun t hlo hhi hx => hset hx (throttled_half_stays hlo hhi),
      fun t hlo hhi hx => hset hx (throttled_quarter_stays hlo hhi), fun t ht hx => stackTempSample_stops ht hx,
      fun hl hops => sinkerLost_completes hn hl hops⟩
    have hquarter : throttled x.throttle t = .quarter := hx ▸ if_pos ht
    refine stackTempSample_completes s n t (P := fun y => y.throttle = .quarter ∧ y.refresh2 = false) ⟨hquarter, ?_⟩
    simp [sampled, x, hquarter]

end Sys2Proof

/-! PROOFS. Light-group commands (R147, R149, R159): the checks of FORM as one ordered list whose first refusal decides, and what
FORM, REFORM and DISSOLVE make of a group. -/

namespace Sys2Proof

open Sys2Proof.Machine

/-! ### What the commands run -/

theorem exec_form (role : Role) (g d : Nat) (s : State) : exec (.form role g d) s = execForm role g d s := rfl
theorem exec_reform (role : Role) (g : Nat) (s : State) : exec (.reform role g) s = execReform role g s := rfl
theorem exec_dissolve (role : Role) (g : Nat) (s : State) : exec (.dissolve role g) s = execDissolve role g s := rfl

/-! ### The checks of FORM (R147 to R150) -/

/-- The tables of the members as they were read: member, whether it could be read, entries. -/
abbrev Tables := List (Nat × Bool × List (BitVec 256))

section Checks

variable (b : Block) (g d : Nat) (w : Line) (ds : List Nat) (ts : Tables)

/-- What the read of the directory gives; a misaligned one cannot be read (R148). -/
def dirRead : Except RdErr (List Nat) := if fld w 256 64 % 64 = 0 then b.readWords 16 (fld w 256 64) 80 else .error .unmapped

theorem dirRead_eq : (if fld w 256 64 % 64 = 0 then b.readWords 16 (fld w 256 64) 80 else .error .unmapped) = dirRead b w := rfl

/-- The directory's entries of the members that the descriptor names. -/
abbrev namedEntries : List DirEntry := (dirOf ds).filter (fun e => memberOf (fld w 128 64) (fld w 192 16) e.1)

/-- The reserved bits of the descriptor are zero. -/
abbrev DescZeros : Prop := fld w 4 4 = 0 ∧ fld w 23 9 = 0 ∧ fld w 76 52 = 0 ∧ fld w 208 48 = 0 ∧ fld w 320 192 = 0

/-- The first directory entry with a reserved bit set. -/
abbrev dirReserved : Option (Nat × Nat) := (ds.zipIdx).find? (fun e => decide (e.1 / 2 ^ 77 % 2 ^ 51 ≠ 0))

/-- The lanterns that the descriptor names. -/
abbrev namedLamps : List Nat := setBits (BitVec.ofNat 64 (fld w 128 64)) 64

/-- Whether a lantern may not be a member: OUT_OF_SERVICE, LOST, or not of the context. -/
abbrev unfit (m : Nat) : Bool := b.outOfService m || (b.lantern m).loss != .alive || !(b.ctx (fld w 8 8)).lanterns.getLsbD m

/-- The context is ACTIVE and the lanterns may be its members, the leader among them. -/
abbrev MembersFit : Prop := (b.ctx (fld w 8 8)).st = .active ∧ fld w 128 64 ≠ 0 ∧ (fld w 128 64).testBit (fld w 16 6) = true ∧
  (namedLamps w).any (unfit b w) = false

theorem not_descZeros :
    ¬DescZeros w ↔ fld w 4 4 ≠ 0 ∨ fld w 23 9 ≠ 0 ∨ fld w 76 52 ≠ 0 ∨ fld w 208 48 ≠ 0 ∨ fld w 320 192 ≠ 0 := by
  simp only [DescZeros, not_and_or, ne_eq]

theorem not_membersFit : ¬MembersFit b w ↔ (b.ctx (fld w 8 8)).st ≠ .active ∨ fld w 128 64 = 0 ∨
    (!(fld w 128 64).testBit (fld w 16 6)) = true ∨ (namedLamps w).any (unfit b w) = true := by
  simp only [MembersFit, not_and_or, ne_eq, not_not, Bool.not_eq_true, Bool.not_eq_false, Bool.not_eq_true']

/-- The first directory entry that breaks a rule: of a member its place or its length, of another any bit. -/
abbrev dirBroken : Option (Nat × Nat) := (ds.zipIdx).find? (fun e =>
  if memberOf (fld w 128 64) (fld w 192 16) e.2 then e.1 % 32 != 0 || decide (4096 < e.1 / 2 ^ 64 % 2 ^ 13) else e.1 != 0)

/-- The group that the descriptor and the tables describe. -/
abbrev describedGroup : Group :=
  { st := .formed, desc := d, ctx := fld w 8 8, leader := fld w 16 6, gcap := bit w 22, period := fld w 32 16, stall := fld w 48 16,
    cycle := fld w 64 12, lanterns := BitVec.ofNat 64 (fld w 128 64), sinkers := BitVec.ofNat 16 (fld w 192 16),
    members := ts.map (fun t => (t.1, { table := t.2.2.map entryOf })) }

/-- The first table entry with a reserved bit set. -/
abbrev entryReserved : Option (Nat × Nat) := badEntry ts (fun _ e => entryRsv e)

/-- The first table that could not be read. -/
abbrev tableUnread : Option (Nat × Bool × List (BitVec 256)) := ts.find? (fun t => !t.2.1)

/-- The first table entry that breaks the rules of its fields. -/
abbrev entryBroken : Option (Nat × Nat) :=
  badEntry ts (fun m e => !entryOk (decide (m < 64)) (BitVec.ofNat 64 (fld w 128 64)) (entryOf e))

/-- The first table for which its member's store has no space. -/
abbrev tableNoSpace : Option (Nat × Bool × List (BitVec 256)) :=
  ts.find? (fun t => decide (4096 < b.storeUsed g t.1 + t.2.2.length))

/-- Whether a path of the group crosses a link whose sideband is down. -/
abbrev pathDown : Bool := (describedGroup d w ts).paths.any (fun i => (b.link i).sbDown)

/-- A check that refuses unless its condition holds. -/
def refusedUnless (p : Prop) [Decidable p] (st : Sts) (m : Nat) : Option FormRes := if p then none else some (.refused st m 0)

/-- The checks of FORM after its reads, in their order, each with its refusal where it fails (R149). -/
def formChecks : List (Option FormRes) :=
  [ refusedUnless (fld w 0 4 = 1) .levelReject 0,
    refusedUnless (DescZeros w) .rsvNonzero 0,
    (dirReserved ds).map (fun e => .refused .rsvNonzero e.2 0),
    (entryReserved ts).map (fun p => .refused .rsvNonzero p.1 p.2),
    refusedUnless (MembersFit b w) .badMember (((namedLamps w).find? (unfit b w)).getD 0),
    refusedUnless (32 ≤ fld w 32 16) .badGroupDesc 0,
    (dirBroken w ds).map (fun e => .refused .badGroupDesc e.2 0),
    (tableUnread ts).map (fun t => .refused .badTable t.1 0),
    (entryBroken w ts).map (fun p => .refused .badTable p.1 p.2),
    (tableNoSpace b g ts).map (fun t => .refused .noSpace t.1 0),
    refusedUnless (pathDown b d w ts = false) .pathDown 0 ]

/-- The first refusal of a list of checks, or the group. -/
def firstRefusal (cs : List (Option FormRes)) (x : Group) : FormRes := (cs.findSome? id).getD (.ok x)

end Checks

section FirstRefusal

variable {cs : List (Option FormRes)} {x : Group} {z : FormRes} {p q : Prop} [Decidable p] [Decidable q] {st : Sts} {m : Nat}

theorem firstRefusal_passed (h : p) : firstRefusal (refusedUnless p st m :: cs) x = firstRefusal cs x := by
  rw [refusedUnless, if_pos h]
  rfl

theorem firstRefusal_failed (h : ¬p) : firstRefusal (refusedUnless p st m :: cs) x = .refused st m 0 := by
  rw [refusedUnless, if_neg h]
  rfl

/-- A check on a condition, in the model's form. -/
theorem ite_eq_firstRefusal (h : ¬p ↔ q) (hz : z = firstRefusal cs x) :
    (if q then .refused st m 0 else z) = firstRefusal (refusedUnless p st m :: cs) x := by
  by_cases hp : p
  · rw [firstRefusal_passed hp, if_neg (h.not_right.1 hp), hz]
  · rw [firstRefusal_failed hp, if_pos (h.1 hp)]

theorem refusedUnless_eq_none : refusedUnless p st m = none ↔ p := by
  unfold refusedUnless
  split <;> simp [*]

variable {α : Type} {o : Option α} {f : α → FormRes}

theorem firstRefusal_unfound (h : o = none) : firstRefusal (o.map f :: cs) x = firstRefusal cs x := by
  rw [h]
  rfl

theorem firstRefusal_found {e : α} (h : o = some e) : firstRefusal (o.map f :: cs) x = f e := by
  rw [h]
  rfl

/-- Where a group comes of it, it is the one that was checked, and every check has passed. -/
theorem passed_of_firstRefusal (hcs : ∀ y, some (FormRes.ok y) ∉ cs) {y : Group} (h : firstRefusal cs x = .ok y) :
    y = x ∧ ∀ c ∈ cs, c = none := by
  unfold firstRefusal at h
  cases hf : cs.findSome? id with
  | none =>
    rw [hf] at h
    exact ⟨(FormRes.ok.inj h).symm, List.findSome?_eq_none_iff.1 hf⟩
  | some r =>
    obtain ⟨c, hc, hr⟩ := List.exists_of_findSome?_eq_some hf
    rw [hf] at h
    obtain rfl : r = .ok y := h
    exact absurd (hr ▸ hc : some (.ok y) ∈ cs) (hcs y)

end FirstRefusal

section Read

variable {b : Block} {g d v : Nat} {w : Line} (hd : d % 64 = 0) (hv : b.readAt d 64 = .ok v) (hw : w = BitVec.ofNat 512 v)
include hd hv hw

/-- With the directory and the tables read, the first refusal of the checks decides. -/
theorem formCheck_eq {ds : List Nat} {ts : Tables} (hdir : dirRead b w = .ok ds)
    (ht : b.readTables (namedEntries w ds) = some ts) :
    b.formCheck g d = firstRefusal (formChecks b g d w ds ts) (describedGroup d w ts) := by
  rw [Block.formCheck, if_neg (not_not.2 hd), hv]
  dsimp only
  rw [← hw, dirRead_eq, hdir]
  dsimp only
  rw [ht]
  dsimp only
  rw [if_neg Bool.false_ne_true]
  refine ite_eq_firstRefusal Iff.rfl (ite_eq_firstRefusal (not_descZeros w) ?_)
  split
  · rw [firstRefusal_found ‹_›]
  rw [firstRefusal_unfound ‹_›]
  split
  · rw [firstRefusal_found ‹_›]
  rw [firstRefusal_unfound ‹_›]
  refine ite_eq_firstRefusal (not_membersFit b w) (ite_eq_firstRefusal ?_ ?_)
  · simp only [not_le, Bool.false_eq_true, or_false]
  split
  · rw [firstRefusal_found ‹_›]
  rw [firstRefusal_unfound ‹_›]
  split
  · rw [firstRefusal_found ‹_›]
  rw [firstRefusal_unfound ‹_›]
  split
  · rw [firstRefusal_found ‹_›]
  rw [firstRefusal_unfound ‹_›]
  split
  · rw [firstRefusal_found ‹_›]
  rw [firstRefusal_unfound ‹_›]
  exact ite_eq_firstRefusal (Iff.of_eq (Bool.not_eq_false _)) rfl

/-- A group comes only of a directory and tables that were read. -/
theorem reads_of_formCheck {y : Group} (h : b.formCheck g d = .ok y) :
    ∃ ds ts, dirRead b w = .ok ds ∧ b.readTables (namedEntries w ds) = some ts := by
  rw [Block.formCheck, if_neg (not_not.2 hd), hv] at h
  dsimp only at h
  rw [← hw, dirRead_eq] at h
  cases hdir : dirRead b w with
  | ok ds =>
    rw [hdir] at h
    cases ht : b.readTables (namedEntries w ds) with
    | some ts => exact ⟨ds, ts, rfl, ht⟩
    | none =>
      simp only [ht] at h
      cases h
  | error e =>
    rw [hdir] at h
    simp only [or_true, if_true] at h
    (repeat' split at h) <;> cases h

/-- A group that passes is the one that the descriptor and the tables describe. -/
theorem passed_of_formCheck {y : Group} (h : b.formCheck g d = .ok y) :
    (∃ ts, y = describedGroup d w ts) ∧ fld w 0 4 = 1 ∧ MembersFit b w ∧ 32 ≤ fld w 32 16 := by
  obtain ⟨ds, ts, hdir, ht⟩ := reads_of_formCheck hd hv hw h
  rw [formCheck_eq hd hv hw hdir ht] at h
  obtain ⟨hy, hall⟩ := passed_of_firstRefusal (by simp [formChecks, refusedUnless]) h
  simp only [formChecks, List.forall_mem_cons, refusedUnless_eq_none] at hall
  obtain ⟨hlevel, -, -, -, hmembers, hperiod, -⟩ := hall
  exact ⟨⟨ts, hy⟩, hlevel, hmembers, hperiod⟩

end Read

section Order

variable {b : Block} {g d v : Nat} {w : Line} {ds : List Nat} {ts : Tables} (hd : d % 64 = 0) (hv : b.readAt d 64 = .ok v)
  (hw : w = BitVec.ofNat 512 v) (hdir : dirRead b w = .ok ds) (ht : b.readTables (namedEntries w ds) = some ts)
  (hlevel : fld w 0 4 = 1) (hzeros : DescZeros w)
include hd hv hw hdir ht hlevel hzeros

/-- The reserved bits of the descriptor are clear: those of the directory are looked at next. -/
theorem formCheck_after_descriptor :
    b.formCheck g d = firstRefusal ((formChecks b g d w ds ts).drop 2) (describedGroup d w ts) := by
  rw [formCheck_eq hd hv hw hdir ht, formChecks, firstRefusal_passed hlevel, firstRefusal_passed hzeros]
  rfl

variable (hclean : dirReserved ds = none ∧ entryReserved ts = none)
include hclean

/-- No reserved bit is set: the members are looked at next. -/
theorem formCheck_after_reserved :
    b.formCheck g d = firstRefusal ((formChecks b g d w ds ts).drop 4) (describedGroup d w ts) :=
  (formCheck_after_descriptor hd hv hw hdir ht hlevel hzeros).trans
    ((firstRefusal_unfound hclean.1).trans (firstRefusal_unfound hclean.2))

variable (hmembers : MembersFit b w)
include hmembers

/-- The members fit: the remaining rules of the descriptor are looked at next. -/
theorem formCheck_after_members :
    b.formCheck g d = firstRefusal ((formChecks b g d w ds ts).drop 5) (describedGroup d w ts) :=
  (formCheck_after_reserved hd hv hw hdir ht hlevel hzeros hclean).trans (firstRefusal_passed hmembers)

variable (hperiod : 32 ≤ fld w 32 16)
include hperiod

/-- The descriptor is right: the remaining rules of the directory are looked at next. -/
theorem formCheck_after_period :
    b.formCheck g d = firstRefusal ((formChecks b g d w ds ts).drop 6) (describedGroup d w ts) :=
  (formCheck_after_members hd hv hw hdir ht hlevel hzeros hclean hmembers).trans (firstRefusal_passed hperiod)

variable (hodd : dirBroken w ds = none)
include hodd

/-- The directory is right: the tables are looked at next. -/
theorem formCheck_after_directory :
    b.formCheck g d = firstRefusal ((formChecks b g d w ds ts).drop 7) (describedGroup d w ts) :=
  (formCheck_after_period hd hv hw hdir ht hlevel hzeros hclean hmembers hperiod).trans (firstRefusal_unfound hodd)

variable (htables : tableUnread ts = none ∧ entryBroken w ts = none)
include htables

/-- The tables are right: their space in the stores is looked at next. -/
theorem formCheck_after_tables :
    b.formCheck g d = firstRefusal ((formChecks b g d w ds ts).drop 9) (describedGroup d w ts) :=
  (formCheck_after_directory hd hv hw hdir ht hlevel hzeros hclean hmembers hperiod hodd).trans
    ((firstRefusal_unfound htables.1).trans (firstRefusal_unfound htables.2))

variable (hroom : tableNoSpace b g ts = none)
include hroom

/-- The tables have their space: the sideband of the paths is looked at last. -/
theorem formCheck_after_space :
    b.formCheck g d = firstRefusal ((formChecks b g d w ds ts).drop 10) (describedGroup d w ts) :=
  (formCheck_after_tables hd hv hw hdir ht hlevel hzeros hclean hmembers hperiod hodd htables).trans (firstRefusal_unfound hroom)

end Order

theorem formCheck_misaligned {b : Block} {g d : Nat} (hd : d % 64 ≠ 0) : b.formCheck g d = .refused .badGroupDesc 0 0 := by
  rw [Block.formCheck, if_pos hd]

theorem formCheck_unreadable {b : Block} {g d : Nat} (hd : d % 64 = 0) (hv : b.readAt d 64 = .error .failed) :
    b.formCheck g d = .refused .badGroupDesc 0 0 := by
  rw [Block.formCheck, if_neg (not_not.2 hd), hv]

/-! ### Blocks that agree on all but one group -/

/-- Two blocks agree on memory, on its lines, on the programs, and on every group but one. -/
structure SameButGroup (g : Nat) (b c : Block) : Prop where
  mem : c.mem = b.mem
  lines : c.lines = b.lines
  hws : c.hws = b.hws
  group_ne : ∀ j, j ≠ g → c.group j = b.group j

namespace SameButGroup

variable {g : Nat} {b c d : Block}

theorem trans (h : SameButGroup g b c) (i : SameButGroup g c d) : SameButGroup g b d :=
  ⟨i.mem.trans h.mem, i.lines.trans h.lines, i.hws.trans h.hws, fun j hj => (i.group_ne j hj).trans (h.group_ne j hj)⟩

theorem setGroup (b : Block) (x : Group) : SameButGroup g b (b.setGroup g x) :=
  ⟨rfl, rfl, rfl, fun _ hj => Block.setGroup_group_ne _ _ _ _ hj⟩

theorem unbind (b : Block) : SameButGroup g b (b.unbind g) := ⟨rfl, rfl, rfl, fun _ hj => Block.setGroup_group_ne _ _ _ _ hj⟩

theorem raise (b : Block) (u : Nat) (e : Ev) (args : List Nat) : SameButGroup g b (b.raise u e args) :=
  ⟨by simp, by simp, by simp, by simp⟩

theorem done (b : Block) (o r : Nat) : SameButGroup g b (b.done o r) := ⟨rfl, rfl, rfl, fun _ _ => rfl⟩

end SameButGroup

/-! ### What a group becomes (R149, R159) -/

/-- A group that is loaded: the counters of the one before it go on, its budgets are checked. -/
def loadedGroup (y old : Group) (tight : Bool) : Group :=
  { y with overBudget := tight, fired := old.fired, hold := old.hold, stalls := old.stalls, overruns := old.overruns,
           lastStall := old.lastStall, runsReplaced := old.runsReplaced }

section Load

variable {b : Block} {g d : Nat} (old : Group)

theorem formWith_refused {st : Sts} {m i : Nat} (h : b.formCheck g d = .refused st m i) :
    b.formWith g d old = (b.refuse st).raise (unitGroup g) .groupRefused [g, stsCode st, m, i] := by
  simp only [Block.formWith, h]

/-- A group whose checks pass is loaded, whether it is over budget or not; the command answers OK and changes nothing else. -/
theorem formWith_loads {y : Group} (h : b.formCheck g d = .ok y) : SameButGroup g b (b.formWith g d old) ∧
    (b.formWith g d old).group g = loadedGroup y old (b.overBudget y).isSome ∧
    (b.formWith g d old).cmds.reply.status = .ok := by
  have hset (x : Group) : SameButGroup g b ((b.unbind g).setGroup g x) := (SameButGroup.unbind b).trans (.setGroup _ x)
  simp only [Block.formWith, h]
  split
  · exact ⟨((hset _).trans (.raise _ _ _ _)).trans (.done _ _ _), by simp [loadedGroup], rfl⟩
  · exact ⟨(hset _).trans (.done _ _ _), by simp [loadedGroup], rfl⟩

end Load

section Commands

variable {s : State} {role : Role} (ha : Admits s.blk role .operator 0x22) {g : Nat}
include ha

theorem form_outOfRange (hg : 16 ≤ g) (d : Nat) : exec (.form role g d) s = .next (s.withBlk (s.blk.refuse .outOfRange)) := by
  rw [exec_form, execForm, State.run_eq, ha.cmd, if_pos hg]

theorem reform_outOfRange (hg : 16 ≤ g) : exec (.reform role g) s = .next (s.withBlk (s.blk.refuse .outOfRange)) := by
  simp only [exec_reform, execReform, State.run_eq, ha.cmd, hg, if_true]

theorem dissolve_outOfRange (hg : 16 ≤ g) : exec (.dissolve role g) s = .next (s.withBlk (s.blk.refuse .outOfRange)) := by
  simp only [exec_dissolve, execDissolve, State.run_eq, ha.cmd, hg, if_true]

variable (hg : g < 16)
include hg

theorem form_taken (hst : (s.blk.group g).st ≠ .free) (d : Nat) :
    exec (.form role g d) s = .next (s.withBlk (s.blk.refuse .badState)) := by
  rw [exec_form, execForm, State.run_eq, ha.cmd, if_neg (Nat.not_le.2 hg), if_pos hst]

theorem form_free (hst : (s.blk.group g).st = .free) (d : Nat) :
    exec (.form role g d) s = .next (s.withBlk (s.blk.formWith g d { s.blk.group g with fired := 0 })) := by
  rw [exec_form, execForm, State.run_eq, ha.cmd, if_neg (Nat.not_le.2 hg), if_neg (not_not.2 hst)]

theorem reform_unformed (hst : ¬((s.blk.group g).st = .formed ∨ (s.blk.group g).st = .degraded)) :
    exec (.reform role g) s = .next (s.withBlk (s.blk.refuse .badState)) := by
  simp only [exec_reform, execReform, State.run_eq, ha.cmd, Nat.not_le.2 hg, hst, if_false]

theorem reform_formed (hst : (s.blk.group g).st = .formed ∨ (s.blk.group g).st = .degraded) :
    exec (.reform role g) s = .next (s.withBlk (s.blk.formWith g (s.blk.group g).desc (s.blk.group g))) := by
  simp only [exec_reform, execReform, State.run_eq, ha.cmd, Nat.not_le.2 hg, hst, if_false, if_true]

theorem dissolve_unformed (hst : ¬((s.blk.group g).st = .formed ∨ (s.blk.group g).st = .degraded)) :
    exec (.dissolve role g) s = .next (s.withBlk (s.blk.refuse .badState)) := by
  simp only [exec_dissolve, execDissolve, State.run_eq, ha.cmd, Nat.not_le.2 hg, hst, if_false]

theorem dissolve_formed (hst : (s.blk.group g).st = .formed ∨ (s.blk.group g).st = .degraded) : exec (.dissolve role g) s =
    .next (s.withBlk (((s.blk.unbind g).setGroup g (s.blk.group g).released).done objGroup 0)) := by
  simp only [exec_dissolve, execDissolve, State.run_eq, ha.cmd, Nat.not_le.2 hg, hst, if_false, if_true]

/-- A group that is dissolved is FREE without members, its counters stay, and nothing else changes. -/
theorem dissolve_completes (hst : (s.blk.group g).st = .formed ∨ (s.blk.group g).st = .degraded) :
    Completes (.dissolve role g) s (fun t => (t.blk.group g).st = .free ∧ (t.blk.group g).members = [] ∧
      (t.blk.group g).stalls = (s.blk.group g).stalls ∧ (t.blk.group g).fired = (s.blk.group g).fired ∧
      t.blk.cmds.reply.status = .ok ∧ t.blk.mem = s.blk.mem ∧ t.blk.lines = s.blk.lines ∧ t.blk.hws = s.blk.hws ∧
      ∀ j, j ≠ g → t.blk.group j = s.blk.group j) := by
  refine .of_exec (dissolve_formed ha hg hst) ?_
  have hsame : SameButGroup g s.blk (((s.blk.unbind g).setGroup g (s.blk.group g).released).done objGroup 0) :=
    ((SameButGroup.unbind s.blk).trans (.setGroup _ _)).trans (.done _ _ _)
  have hgroup : (((s.blk.unbind g).setGroup g (s.blk.group g).released).done objGroup 0).group g = (s.blk.group g).released :=
    Block.setGroup_group _ _ _
  rw [hgroup]
  exact ⟨rfl, rfl, rfl, rfl, rfl, hsame.mem, hsame.lines, hsame.hws, hsame.group_ne⟩

end Commands

/-- Settles O27: the commands by the state of the group and by what its loading makes of it, the checks by the first of their list that
refuses. -/
theorem groupCommands : Obligations.GroupCommands := by
  unfold Obligations.GroupCommands
  refine ⟨?_, ?_⟩
  case refine_1 =>
    intro s role g ha b x
    refine ⟨fun hg => ⟨form_outOfRange ha hg, reform_outOfRange ha hg, dissolve_outOfRange ha hg⟩, fun hg =>
      ⟨fun d hst => form_taken ha hg hst d, fun hf hd => ?_, ?_, ?_, fun hst => dissolve_completes ha hg hst⟩⟩
    · exact ⟨reform_unformed ha hg (not_or.2 ⟨hf, hd⟩), dissolve_unformed ha hg (not_or.2 ⟨hf, hd⟩)⟩
    · intro d st m i h u
      refine ⟨fun hst => ?_, fun hst hdesc => ?_⟩
      · rw [form_free ha hg hst, formWith_refused _ h]
      · rw [reform_formed ha hg hst, hdesc, formWith_refused _ h]
    · intro d y h P hbound hcount
      have hloads (old : Group) (hold : old.stalls = x.stalls ∧ old.hold = x.hold ∧ old.overruns = x.overruns) :
          P (s.withBlk (b.formWith g d old)) ∧ ((b.formWith g d old).group g).fired = old.fired := by
        obtain ⟨hstalls, hheld, hover⟩ := hold
        obtain ⟨hsame, hgroup, hreply⟩ := formWith_loads old h
        simp only [P, hgroup]
        exact ⟨⟨rfl, rfl, rfl, rfl, rfl, rfl, rfl, rfl, rfl, rfl, hbound, hcount, rfl, hstalls, hheld, hover, hreply, hsame.mem,
          hsame.lines, hsame.hws, hsame.group_ne⟩, rfl⟩
      refine ⟨fun hst => .of_exec (form_free ha hg hst d) (hloads _ ⟨rfl, rfl, rfl⟩), fun hst hdesc => ?_⟩
      exact .of_exec (hdesc ▸ reform_formed ha hg hst) (hloads _ ⟨rfl, rfl, rfl⟩)
  case refine_2 =>
    intro b g d
    refine ⟨formCheck_misaligned, formCheck_unreadable, ?_⟩
    intro v hd hv w lanterns sinkers leader c lamps dir
    refine ⟨fun y h => ?_, ?_⟩
    · obtain ⟨⟨ts, rfl⟩, hlevel, ⟨hctx, -⟩, hperiod⟩ := passed_of_formCheck hd hv rfl h
      exact ⟨hlevel, rfl, rfl, rfl, rfl, rfl, rfl, hperiod, rfl, rfl, rfl, rfl, hctx, rfl, rfl⟩
    · intro ds ts halign hds ht bad x rsv odd level zeros clean members tables room
      have hdir : dirRead b w = .ok ds := (if_pos halign).trans hds
      refine ⟨fun hl => ?_, fun hl hz => ?_, fun hl hz e he => ?_, fun hl hz hr p hp => ?_, fun hl hz hc hm => ?_,
        fun hl hz hc hm hp => ?_, fun hl hz hc hm hp e he => ?_, fun hl hz hc hm hp ho => ⟨fun t htab => ?_, fun hread p hent => ?_,
          fun htab t hno => ?_, fun htab hno ⟨i, hi, hdown⟩ => ?_, fun htab hno hup => ?_⟩⟩
      · exact (formCheck_eq hd hv rfl hdir ht).trans (firstRefusal_failed hl)
      · exact (formCheck_eq hd hv rfl hdir ht).trans ((firstRefusal_passed hl).trans (firstRefusal_failed hz))
      · exact (formCheck_after_descriptor hd hv rfl hdir ht hl hz).trans (firstRefusal_found he)
      · exact (formCheck_after_descriptor hd hv rfl hdir ht hl hz).trans ((firstRefusal_unfound hr).trans (firstRefusal_found hp))
      · exact (formCheck_after_reserved hd hv rfl hdir ht hl hz hc).trans (firstRefusal_failed hm)
      · exact (formCheck_after_members hd hv rfl hdir ht hl hz hc hm).trans (firstRefusal_failed (Nat.not_le.2 hp))
      · exact (formCheck_after_period hd hv rfl hdir ht hl hz hc hm hp).trans (firstRefusal_found he)
      · exact (formCheck_after_directory hd hv rfl hdir ht hl hz hc hm hp ho).trans (firstRefusal_found htab)
      · exact (formCheck_after_directory hd hv rfl hdir ht hl hz hc hm hp ho).trans
          ((firstRefusal_unfound hread).trans (firstRefusal_found hent))
      · exact (formCheck_after_tables hd hv rfl hdir ht hl hz hc hm hp ho htab).trans (firstRefusal_found hno)
      · exact (formCheck_after_space hd hv rfl hdir ht hl hz hc hm hp ho htab hno).trans
          (firstRefusal_failed (by simpa using ⟨i, hi, hdown⟩))
      · exact (formCheck_after_space hd hv rfl hdir ht hl hz hc hm hp ho htab hno).trans (firstRefusal_passed (by simpa using hup))

end Sys2Proof

/-! PROOFS. Flashes (R138, R151 to R158, R393): when a flash fires, how it reaches a member, what it launches there, and how WAITFLASH
binds and waits. -/

namespace Sys2Proof

open Sys2Proof.Machine

/-! ### What the commands run -/

theorem exec_flashFire (g held : Nat) (s : State) : exec (.flashFire g held) s = execFlashFire g held s := rfl
theorem exec_flashArrival (g : Nat) (a : Arrival) (s : State) : exec (.flashArrival g a) s = execFlashArrival g a s := rfl
theorem exec_flashActionDone (g m i : Nat) (s : State) : exec (.flashActionDone g m i) s = execFlashActionDone g m i s := rfl
theorem exec_groupStall (g : Nat) (s : State) : exec (.groupStall g) s = execGroupStall g s := rfl
theorem exec_waitflash (l h : Nat) (w : W64) (s : State) : exec (.waitflash l h w) s = execWaitflash l h w s := rfl

/-! ### Members, launched entries and error records -/

@[simp] theorem updMember_member (b : Block) (g m : Nat) (f : Member → Member) :
    ((b.updMember g m f).group g).member m = f ((b.group g).member m) := by
  simp [Block.updMember, Group.member]

@[simp] theorem updMember_hw (b : Block) (g m : Nat) (f : Member → Member) (k : Nat) : (b.updMember g m f).hw k = b.hw k := rfl

theorem launched_member (b : Block) (g m i : Nat) (complete : Bool) : ((b.launched g m i complete).group g).member m =
    { (b.group g).member m with
      toLaunch := ((b.group g).member m).toLaunch.filter (· != i)
      open_ := if complete then ((b.group g).member m).open_.filter (· != i) else addLast ((b.group g).member m).open_ i } :=
  updMember_member b g m _

/-- An error record changes events and error banks, no group (R410). -/
theorem record_groups (b : Block) (u : Nat) (e : Ev) (args : List Nat) (r : ErrRec) : (b.record u e args r).groups = b.groups := by
  have hraise : (b.raise u e args).groups = b.groups := by simp
  unfold Block.record
  dsimp only
  split
  · rfl
  · split
    · exact hraise
    · split
      · exact hraise
      · simp

/-- The entries that a flash launches (R157). -/
theorem mem_launchList {cycle n i : Nat} {t : List TableEntry} : i ∈ launchList cycle n t ↔
    ∃ e, t[i]? = some e ∧ e.rel ≠ 0 ∧ (cycle = 0 → n = e.rel) ∧ (cycle ≠ 0 → (n - 1) % cycle + 1 = e.rel) := by
  have hplace (e : TableEntry) : (if cycle = 0 then n = e.rel else (n - 1) % cycle + 1 = e.rel) ↔
      (cycle = 0 → n = e.rel) ∧ (cycle ≠ 0 → (n - 1) % cycle + 1 = e.rel) := by
    split <;> simp [*]
  simp [launchList, List.mem_filterMap, List.mem_zipIdx_iff_getElem?, hplace]

theorem flashHere_idle {b : Block} {g m : Nat}
    (hl : launchList (b.group g).cycle (b.group g).count ((b.group g).member m).table = []) :
    b.flashHere g m = b.updMember g m (fun y => { y with seen := (b.group g).count, toLaunch := [] }) := by
  simp only [Block.flashHere, hl, ite_self, List.length_nil, Block.launch]

/-! ### Firing and stalls (R152 to R154, R156) -/

section Flash

variable {s : State} {g : Nat}

section Unbound

variable (hst : (s.blk.group g).st ≠ .bound)
include hst

theorem flashFire_unbound (held : Nat) : exec (.flashFire g held) s = .next s := by
  simp [exec_flashFire, execFlashFire, hst]

theorem groupStall_unbound : exec (.groupStall g) s = .next s := by
  simp [exec_groupStall, execGroupStall, hst]

theorem flashArrival_unbound (a : Arrival) : exec (.flashArrival g a) s = .next s := by
  simp [exec_flashArrival, execFlashArrival, Block.flashReaches, Block.flashTravel, hst]

end Unbound

theorem flashActionDone_unbound {m i : Nat} (hb : (s.blk.group g).st ≠ .bound) (hs : (s.blk.group g).st ≠ .stopped) :
    exec (.flashActionDone g m i) s = .next s := by
  simp [exec_flashActionDone, execFlashActionDone, hb, hs]

section Bound

variable (hst : (s.blk.group g).st = .bound)
include hst

theorem flashFire_broken (hk : s.blk.groupBroken g = true) (held : Nat) : exec (.flashFire g held) s =
    .next (s.withBlk (s.blk.updGroup g (fun y => { y with st := .stopped }))) := by
  simp only [exec_flashFire, execFlashFire, State.run_eq, hst, hk, ne_eq, not_true_eq_false, if_false, if_true]

section Whole

variable (hk : s.blk.groupBroken g = false)
include hk

/-- With every member lit the next flash fires. -/
theorem flashFire_fires (hu : s.blk.unlit g = ([], [])) (hc : (s.blk.group g).count ≠ 0xFFFFFFFF) (held : Nat) :
    exec (.flashFire g held) s = .next (s.withBlk (s.blk.updGroup g (fun y =>
      { y with count := y.count + 1, fired := y.fired + 1, hold := y.hold + held }))) := by
  simp only [exec_flashFire, execFlashFire, State.run_eq, hst, hk, hu, hc, ne_eq, not_true_eq_false, Bool.false_eq_true, or_self,
    if_false]

theorem flashFire_waits (hu : (s.blk.unlit g).1 ≠ [] ∨ (s.blk.unlit g).2 ≠ []) (held : Nat) :
    exec (.flashFire g held) s = .next s := by
  simp only [exec_flashFire, execFlashFire, State.run_eq, hst, hk, hu, ne_eq, not_true_eq_false, Bool.false_eq_true, if_false,
    if_true]

end Whole

theorem groupStall_stalls (hu : (s.blk.unlit g).1 ≠ [] ∨ (s.blk.unlit g).2 ≠ []) :
    exec (.groupStall g) s = .next (s.withBlk (s.blk.stallGroup g (s.blk.stallDetail g false))) := by
  simp only [exec_groupStall, execGroupStall, State.run_eq, hst, hu, and_self, if_true]

/-! ### Arrival (R32, R152, R158, R393) -/

variable {m : Nat} (hm : m < 64) (hmem : (s.blk.group g).lanterns.getLsbD m = true)
  (hseen : ((s.blk.group g).member m).seen < (s.blk.group g).count) (hpath : s.blk.flashHeld (s.blk.group g) m = none)
include hm hmem hseen hpath

theorem flashArrival_here : exec (.flashArrival g { member := m }) s = .next (s.withBlk (s.blk.flashHere g m)) := by
  simp [exec_flashArrival, execFlashArrival, Block.flashTravel, hst, hm, hmem, hseen, hpath]

theorem flashArrival_storeBad :
    exec (.flashArrival g { member := m, storeBad := true }) s = .next (s.withBlk (s.blk.charStoreLost g m)) := by
  simp [exec_flashArrival, execFlashArrival, Block.flashReaches, hst, hm, hmem, hseen, hpath]

/-- A flash for which a member has no entries is noted there, and launches none. -/
theorem flashArrival_idle (hl : launchList (s.blk.group g).cycle (s.blk.group g).count ((s.blk.group g).member m).table = []) :
    Completes (.flashArrival g { member := m }) s (fun t => ((t.blk.group g).member m).seen = (s.blk.group g).count ∧
      ((t.blk.group g).member m).toLaunch = [] ∧ t.blk.mem = s.blk.mem ∧ t.blk.hws = s.blk.hws) := by
  refine .of_exec (flashArrival_here hst hm hmem hseen hpath) ?_
  rw [flashHere_idle hl, updMember_member]
  exact ⟨rfl, rfl, rfl, rfl⟩

end Bound

end Flash

/-- An error of the characteristic store stops the group, whether a hardware context reports it or not (R393). -/
theorem charStoreLost_group (b : Block) (g m : Nat) :
    ((b.charStoreLost g m).group g).st = .stopped ∧ ((b.charStoreLost g m).group g).storeBad = true := by
  simp [Block.charStoreLost, Block.group, record_groups]

/-! ### Completion of an action (R158) -/

section Send

variable {s : State} {g m i : Nat} (hst : (s.blk.group g).st = .bound ∨ (s.blk.group g).st = .stopped)
  (hl : ((s.blk.group g).member m).toLaunch = []) (ho : ((s.blk.group g).member m).open_ = [i])
  (ha : (((s.blk.group g).member m).entry i).action = 1)
  (hx : s.blk.xfers.find? (fun y => y.group == some (g, m, i)) = none)
include hst hl ho ha hx

/-- The one open SEND of a member, which no transfer performs any more, is complete, and no entry waits for it. -/
theorem flashActionDone_send : exec (.flashActionDone g m i) s = .next (s.withBlk (s.blk.launched g m i true)) := by
  have hdone : s.blk.actionDone g m i = s.blk.launched g m i true := by
    simp [Block.actionDone, ho, ha, hx]
  have hnone : (((s.blk.launched g m i true).group g).member m).toLaunch = [] := by
    simp [launched_member, hl]
  simp only [exec_flashActionDone, execFlashActionDone, State.run_eq, hst, hdone, hnone, if_true, List.length_nil, Block.launch]

theorem flashActionDone_send_completes : Completes (.flashActionDone g m i) s (fun t =>
    ((t.blk.group g).member m).open_ = [] ∧ t.blk.mem = s.blk.mem ∧ t.blk.hws = s.blk.hws) := by
  refine .of_exec (flashActionDone_send hst hl ho ha hx) ⟨?_, rfl, rfl⟩
  simp [launched_member, ho]

end Send

/-! ### WAITFLASH (R138, R151, R153) -/

/-- A value that no entry has is not found. -/
theorem tfind_of_thas_eq_false {α : Type} {t : Tab α} {k : Nat} (h : thas t k = false) : tfind t k = none := by
  induction t with
  | nil => rfl
  | cons e t ih =>
    obtain ⟨j, v⟩ := e
    rw [thas] at h
    split at h
    · cases h
    · rw [tfind, if_neg ‹_›, ih h]

/-- A member after a WAITFLASH of its lantern's program: attached, and lit below the flash where it declares so. -/
def attached (y : Member) (h : Nat) (declares : Bool) (n : Nat) : Member :=
  { y with hw := some h, declared := if declares then max y.declared n else y.declared }

section Here

variable {b : Block} {g l h n : Nat} (declares : Bool) (hn : n ≤ ((b.group g).member l).seen)
include hn

/-- The flash is here and no RUN waits: the program goes on. -/
theorem waitFlash_goesOn (hr : thas (b.hw (hwNo l h)).runs g = false) : b.waitFlash g l h declares n =
    (b.updMember g l (fun y => attached y h declares n)).advance (hwNo l h) := by
  simp only [Block.waitFlash, updMember_member, updMember_hw, hn, tfind_of_thas_eq_false hr, if_true]
  rfl

/-- The flash is here and a RUN waits: the program goes on at its offset. -/
theorem waitFlash_runs {off : Nat} (hr : tfind (b.hw (hwNo l h)).runs g = some off) : b.waitFlash g l h declares n =
    ((b.updMember g l (fun y => attached y h declares n)).updHw (hwNo l h) (fun v => { v with runs := tdel v.runs g })).goto
      (hwNo l h) off := by
  simp only [Block.waitFlash, updMember_member, updMember_hw, hn, hr, if_true]
  rfl

end Here

/-- A program may not wait for a group that is FREE or DEGRADED, that is another context's, to which its lantern does not belong, or
that has a lantern which its request does not name (R138, R151). -/
abbrev BreaksBinding (x : Hw) (y : Group) (l : Nat) : Prop :=
  y.st = .free ∨ y.st = .degraded ∨ y.ctx ≠ x.ctx ∨ y.lanterns.getLsbD l = false ∨ y.lanterns &&& ~~~x.mask ≠ 0

section Waitflash

variable {s : State} {l h : Nat} {w : W64} {b1 : Block} (hf : Fetches s.blk l h b1 w) (ho : fld w 0 8 = 0xB0)
  (h18 : fld w 18 46 = 0) {k g n : Nat} {x : Hw} {y : Group} (hk : hwNo l h = k) (hx : b1.hw k = x) (hg : fld w 8 4 = g)
  (hy : b1.group g = y) (hn : (x.reg (fld w 13 5)).toNat = n)
include hf ho h18 hk hx hg hy hn

theorem waitflash_badGroup (hbad : BreaksBinding x y l) :
    exec (.waitflash l h w) s = .next (s.withBlk (b1.exc k 0x13)) := by
  subst hk hx hg hy
  rw [exec_waitflash, execWaitflash, hf.run_body ho rfl (by simp [h18])]
  simp only [Bool.not_eq_true', hbad, if_true]

section Allowed

variable (hok : ¬BreaksBinding x y l)
include hok

theorem waitflash_bound (hb : y.bound = some x.req) :
    exec (.waitflash l h w) s = .next (s.withBlk (b1.waitFlash g l h (bit w 12) n)) := by
  subst hk hx hg hy hn
  rw [exec_waitflash, execWaitflash, hf.run_body ho rfl (by simp [h18])]
  simp only [Bool.not_eq_true', hok, hb, if_false, if_true]

theorem waitflash_binds (hb : y.bound = none) (hl : b1.liveWaiters g = []) :
    exec (.waitflash l h w) s = .next (s.withBlk ((b1.bindGroup g x.req).waitFlash g l h (bit w 12) n)) := by
  subst hk hx hg hy hn
  rw [exec_waitflash, execWaitflash, hf.run_body ho rfl (by simp [h18])]
  simp only [Bool.not_eq_true', hok, hb, hl, if_false]

/-- A group that is bound to another request: the program waits for a bind, behind the requests that wait already. -/
theorem waitflash_queues {r : Nat} (hb : y.bound = some r) (hr : r ≠ x.req) : exec (.waitflash l h w) s = .next (s.withBlk
    ((b1.updGroup g (fun z => { z with waiters := addLast z.waiters x.req })).updHw k (fun v => { v with waiting := true }))) := by
  subst hk hx hg hy hn
  rw [exec_waitflash, execWaitflash, hf.run_body ho rfl (by simp [h18])]
  simp only [Bool.not_eq_true', hok, hb, hr, if_false]

theorem waitflash_queues_completes {r : Nat} (hb : y.bound = some r) (hr : r ≠ x.req) : Completes (.waitflash l h w) s (fun t =>
    (t.blk.hw k).waiting = true ∧ (t.blk.hw k).pc = x.pc ∧ (t.blk.group g).waiters = addLast y.waiters x.req ∧
    t.blk.mem = b1.mem ∧ ∀ j, j ≠ k → t.blk.hw j = b1.hw j) := by
  refine .of_exec (waitflash_queues hf ho h18 hk hx hg hy hn hok hb hr) ?_
  simp only [Block.updHw_eq, Block.setHw_hw, Block.updGroup_eq, Block.setGroup_frame, Block.setHw_frame, Block.setGroup_group, hx, hy,
    true_and]
  exact fun j hj => Block.setHw_hw_ne _ _ _ _ hj

theorem waitflash_goesOn_completes (hb : y.bound = some x.req) (hle : n ≤ (y.member l).seen) (hr : thas x.runs g = false) :
    Completes (.waitflash l h w) s (fun t => (t.blk.hw k).pc = x.pc + 8 ∧ (t.blk.hw k).g = x.g ∧ t.blk.mem = b1.mem) := by
  refine .of_exec (waitflash_bound hf ho h18 hk hx hg hy hn hok hb) ?_
  subst hk hx hy
  rw [waitFlash_goesOn _ hle hr, advance_eq, Block.setHw_hw]
  exact ⟨rfl, rfl, rfl⟩

end Allowed

end Waitflash

/-! ### The obligation -/

/-- Settles O28: firing, arrival, completion and stall by the state of the group, WAITFLASH by whom the group is bound to. -/
theorem flashes : Obligations.Flashes := by
  unfold Obligations.Flashes
  refine ⟨?_, ?_, fun _ _ _ _ => mem_launchList⟩
  case refine_1 =>
    intro s g m b x
    have hunlit (hu : b.unlit g ≠ ([], [])) : (b.unlit g).1 ≠ [] ∨ (b.unlit g).2 ≠ [] :=
      not_and_or.1 fun h => hu (Prod.ext h.1 h.2)
    obtain ⟨hstopped, hbad⟩ := charStoreLost_group b g m
    refine ⟨fun hst => ⟨flashFire_unbound hst, flashArrival_unbound hst, groupStall_unbound hst⟩,
      fun hst hk held => flashFire_broken hst hk held, fun hst hk hu held hc => flashFire_fires hst hk hu hc held,
      fun hst hk hu => ⟨flashFire_waits hst hk (hunlit hu), groupStall_stalls hst (hunlit hu)⟩,
      fun hst hm hmem hseen hpath => ⟨flashArrival_here hst hm hmem hseen hpath, flashArrival_storeBad hst hm hmem hseen hpath⟩,
      hstopped, hbad, fun hst hm hmem hseen hlist hpath => flashArrival_idle hst hm hmem hseen hpath hlist,
      fun i hst hl hopen ha hx => flashActionDone_send_completes hst hl hopen ha hx, fun i hb hs => flashActionDone_unbound hb hs⟩
  case refine_2 =>
    intro s l h w b1 hf ho h18 k x g y n
    refine ⟨fun hbad => waitflash_badGroup hf ho h18 rfl rfl rfl rfl rfl hbad, fun hfree hdeg hctx hmem hmask => ?_⟩
    have hok : ¬BreaksBinding x y l := by
      simp [BreaksBinding, hfree, hdeg, hctx, hmem, hmask]
    have hbound := waitflash_bound hf ho h18 rfl rfl rfl rfl rfl hok
    refine ⟨hbound, waitflash_binds hf ho h18 rfl rfl rfl rfl rfl hok,
      fun r hb hr => waitflash_queues_completes hf ho h18 rfl rfl rfl rfl rfl hok hb hr,
      fun hb hn hr => waitflash_goesOn_completes hf ho h18 rfl rfl rfl rfl rfl hok hb hn hr, fun off hb hn hr => ?_⟩
    rw [hbound hb, waitFlash_runs _ hn hr]
    rfl

end Sys2Proof

/-! PROOFS. The operations of a sinker (R170 to R176): what a descriptor that its sinker may run reads and delivers. -/

namespace Sys2Proof

open Sys2Proof.Machine

/-! ### What the commands run -/

theorem exec_gatherPool (n id : Nat) (s : State) : exec (.gatherPool n id) s = execGatherPool n id s := rfl
theorem exec_scoreTopk (n id : Nat) (s : State) : exec (.scoreTopk n id) s = execScoreTopk n id s := rfl
theorem exec_stats (n id : Nat) (s : State) : exec (.stats n id) s = execStats n id s := rfl
theorem exec_fill (n id : Nat) (s : State) : exec (.fill n id) s = execFill n id s := rfl
theorem exec_checksum (n id : Nat) (s : State) : exec (.checksum n id) s = execChecksum n id s := rfl
theorem exec_copy (n id : Nat) (s : State) : exec (.copy n id) s = execCopy n id s := rfl

/-! ### A descriptor that its sinker may run (R169, R178, R180) -/

/-- Descriptor `id` of sinker `n` is `o`, which is admitted and has not run; the die runs descriptors, is not stopped by temperature,
and the line of the status record can be written. -/
structure Issues (b : Block) (n id : Nat) (o : SinkOp) : Prop where
  found : (b.sinker n).ops.find? (fun q => q.id == id) = some o
  admitted : o.admitted = true
  notRun : o.ran = false
  alive : (b.sinker n).dead = false
  notStopped : (b.sinker n).throttle ≠ .stopped
  statusReady : b.statusWaits o = false

namespace Issues

variable {b : Block} {st : State} {n id op : Nat} {o : SinkOp}

theorem runSink (h : Issues b n id o) (hop : skOp o.desc = op) (go : Block → SinkOp → Block) : b.runSink n id op go = go b o := by
  obtain ⟨hfound, hadmitted, hrun, halive, hstopped, hstatus⟩ := h
  have hready : o.admitted ∧ !o.ran ∧ skOp o.desc = op := ⟨hadmitted, by simp [hrun], hop⟩
  simp only [Block.runSink, hfound]
  rw [if_pos hready, if_neg (by simp [halive]), if_neg hstopped, if_neg (by simp [hstatus])]

/-- An operation on a descriptor that its sinker may run does what the operation does with it, and nothing else. -/
theorem run (h : Issues st.blk n id o) (hop : skOp o.desc = op) (go : Block → SinkOp → Block) :
    st.run (fun b => b.runSink n id op go) = .next (st.withBlk (go st.blk o)) := by
  rw [State.run_eq, h.runSink hop]

end Issues

/-! ### The six operations -/

section Operations

variable {st : State} {n id : Nat} {o : SinkOp} (h : Issues st.blk n id o)

include h

/-- GATHER_POOL delivers the pooled rows, converted to OFMT and each padded to 64 bytes, with their counts and census (R171, R172). -/
theorem gatherPool_finishes (hop : skOp o.desc = 1) {rows : List (List W32)} {stat : SinkStat}
    (hbags : st.blk.gatherBags o = .ok (rows, stat, false)) :
    let cv := rows.map (fun r => r.map (fun x => convertVal (skOfmt o.desc) .rne (val32 x) 1 1))
    exec (.gatherPool n id) st = .next (st.withBlk (st.blk.sinkFinish n o
      ((cv.zipIdx).map (fun r => (r.2 * pad64 (skCols o.desc * (if skOfmt o.desc = 1 then 2 else 4)),
        packRow (skOfmt o.desc) (r.1.map Prod.fst))))
      stat ((cv.flatten).foldl (fun a e => a.add e.2) {}))) := by
  intro cv
  rw [exec_gatherPool, execGatherPool, h.run hop, hbags]
  rfl

/-- CHECKSUM delivers the checksum over GF(2^64) of the region's words (R176). -/
theorem checksum_finishes (hop : skOp o.desc = 5) {rows : List Nat}
    (hrows : st.blk.sinkRows o (List.range (skRows o.desc)) = .ok (rows, false)) :
    exec (.checksum n id) st = .next (st.withBlk (st.blk.sinkFinish n o
      [(0, leBytes 8 (gfSum ((rows.map (fun r => wordsOf (leBytes (skRowBytes o.desc) r))).flatten)).toNat)]
      { rowsRead := skRows o.desc } {})) := by
  rw [exec_checksum, execChecksum, h.run hop]
  dsimp only
  rw [hrows]
  rfl

/-- STATS delivers the record of the region's values (R175). -/
theorem stats_finishes (hop : skOp o.desc = 3) {rows : List Nat}
    (hrows : st.blk.sinkRows o (List.range (skRows o.desc)) = .ok (rows, false)) :
    exec (.stats n id) st = .next (st.withBlk (st.blk.sinkFinish n o [(0, (statsRec o.desc rows).1)]
      { rowsRead := skRows o.desc, nonfinite := (statsRec o.desc rows).2 } {})) := by
  rw [exec_stats, execStats, h.run hop, hrows]
  rfl

/-- SCORE_TOPK delivers the list of the best rows of each query, padded to 64 bytes, and counts the scores that are NaN (R173, R174). -/
theorem scoreTopk_finishes (hop : skOp o.desc = 2) {rows qv : List Nat}
    (hrows : st.blk.sinkRows o (List.range (skRows o.desc)) = .ok (rows, false)) (hqueries : st.blk.sinkQueries o = .ok (qv, false)) :
    let best := qv.map (fun q => topK o.desc q rows)
    exec (.scoreTopk n id) st = .next (st.withBlk (st.blk.sinkFinish n o
      ((best.zipIdx).map (fun e => (e.2 * pad64 (skK o.desc * 8), topBytes o.desc e.1.1)))
      { rowsRead := skRows o.desc, nonfinite := (best.map (fun e => e.2)).sum } {})) := by
  intro best
  rw [exec_scoreTopk, execScoreTopk, h.run hop]
  dsimp only
  rw [hrows, hqueries]
  rfl

/-- FILL ends well once its rows are written: it reads no row, and counts the row bytes as written (R176). -/
theorem fill_ends (hop : skOp o.desc = 4) {b1 : Block} (hrows : st.blk.fillRows o = .ok b1) :
    exec (.fill n id) st = .next (st.withBlk (b1.sinkGood n o {} (skRows o.desc * skRowBytes o.desc) {})) := by
  rw [exec_fill, execFill, h.run hop, hrows]

/-- COPY ends well once its rows are copied: it counts them as read and their row bytes as written (R176). -/
theorem copy_ends (hop : skOp o.desc = 6) {b1 : Block} (hrows : st.blk.copyRows o = .ok b1) : exec (.copy n id) st =
    .next (st.withBlk (b1.sinkGood n o { rowsRead := skRows o.desc } (skRows o.desc * skRowBytes o.desc) {})) := by
  rw [exec_copy, execCopy, h.run hop, hrows]

end Operations

/-! ### The obligation -/

/-- Settles O21: the premises say that the sinker may run the descriptor (`Issues`); each operation then delivers what it read. -/
theorem sinkerOperations : Obligations.SinkerOperations := by
  unfold Obligations.SinkerOperations
  intro st n id o b d hfound hadmitted hrun halive hstopped hstatus
  have h : Issues st.blk n id o := ⟨hfound, hadmitted, hrun, halive, hstopped, hstatus⟩
  refine ⟨fun hop rows stat hbags => gatherPool_finishes h hop hbags, fun rows hrows => ⟨?_, ?_, ?_⟩,
    fun hop b1 hrows => fill_ends h hop hrows, fun hop b1 hrows => copy_ends h hop hrows⟩
  · exact fun hop => checksum_finishes h hop hrows
  · exact fun hop => stats_finishes h hop hrows
  · exact fun hop qv hqueries => scoreTopk_finishes h hop hrows hqueries

end Sys2Proof

/-! PROOFS. The canonical form of memory: every operation keeps it, and so does every step (O3). One lemma per operation of the
model, of the operation's name; the proof follows the operation's own text. -/

namespace Sys2Proof

-- One declaration after the other: these proofs all at once would take a thread and its stack each.
set_option Elab.async false

open Sys2Proof.Machine

/-- The memory of a block is in its canonical form (R190, R336). -/
def InForm (b : Block) : Prop := Memory.wf b.mem

/-- The block that an operation may answer is in form. -/
def InFormOpt (o : Option Block) : Prop := ∀ c ∈ o, InForm c

/-- What an operation answers is in form, whether it succeeds or not: `p` and `q` find the block of either answer. -/
def InFormRes {ε α : Type} (p : ε → Block) (q : α → Block) : Except ε α → Prop
  | .error e => InForm (p e)
  | .ok a => InForm (q a)

/-- The block that a join leaves is in form (R110). -/
def InFormJoin : JoinRes → Prop
  | .ok b | .poison b | .lost b => InForm b
  | .wait => True

/-- The block that a hart's load leaves is in form (R276). -/
def InFormLoad : KRes → Prop
  | .ok b _ | .poison b _ | .wait b => InForm b
  | .fault => True

/-- The block that a command leaves is in form. -/
def Answers (o : Host.Outcome State Fault Refusal) : Prop := ∀ t, o = .next t → InForm t.blk

namespace InFormOpt
theorem none : InFormOpt none := fun _ h => nomatch h
theorem some {c : Block} (h : InForm c) : InFormOpt (some c) := fun _ hd => Option.some.inj hd ▸ h
theorem getD {o : Option Block} {b : Block} (h : InFormOpt o) (hb : InForm b) : InForm (o.getD b) := by
  cases o with
  | none => exact hb
  | some c => exact h c rfl
theorem map {α : Type} {o : Option α} {f : α → Block} (h : ∀ a, InForm (f a)) : InFormOpt (o.map f) := by
  cases o with
  | none => exact none
  | some a => exact some (h a)
theorem map_form {o : Option Block} {f : Block → Block} (hf : ∀ c, InForm c → InForm (f c)) (h : InFormOpt o) : InFormOpt (o.map f) := by
  cases o with
  | none => exact none
  | some c => exact some (hf c (h c rfl))
theorem ite {P : Prop} {_ : Decidable P} {o t : Option Block} (h : InFormOpt o) (ht : InFormOpt t) : InFormOpt (if P then o else t) := by
  split
  · exact h
  · exact ht
end InFormOpt

namespace InFormRes
variable {ε α : Type} {p : ε → Block} {q : α → Block} {r t : Except ε α}
theorem ok {a : α} (h : InFormRes p q r) (he : r = .ok a) : InForm (q a) := by subst he; exact h
theorem error {e : ε} (h : InFormRes p q r) (he : r = .error e) : InForm (p e) := by subst he; exact h
theorem ite {P : Prop} {_ : Decidable P} (h : InFormRes p q r) (ht : InFormRes p q t) : InFormRes p q (if P then r else t) := by
  split
  · exact h
  · exact ht
theorem foldl {β : Type} {f : Except ε α → β → Except ε α} {l : List β} (hf : ∀ r, InFormRes p q r → ∀ x, InFormRes p q (f r x))
    (h : InFormRes p q r) : InFormRes p q (l.foldl f r) := by
  induction l generalizing r with
  | nil => exact h
  | cons x t ih => exact ih (hf r h x)
theorem map {γ : Type} {q' : γ → Block} {f : α → γ} (h : InFormRes p q r) (hf : ∀ a, InForm (q a) → InForm (q' (f a))) :
    InFormRes p q' (r.map f) := by
  cases r with
  | error e => exact h
  | ok a => exact hf a h
theorem mapError {γ : Type} {p' : γ → Block} {f : ε → γ} (h : InFormRes p q r) (hf : ∀ e, InForm (p' (f e))) :
    InFormRes p' q (r.mapError f) := by
  cases r with
  | error e => exact hf e
  | ok a => exact h
end InFormRes

namespace InFormJoin
variable {r : JoinRes} {b : Block}
theorem ok (h : InFormJoin r) (he : r = .ok b) : InForm b := by subst he; exact h
theorem poison (h : InFormJoin r) (he : r = .poison b) : InForm b := by subst he; exact h
theorem lost (h : InFormJoin r) (he : r = .lost b) : InForm b := by subst he; exact h
end InFormJoin

namespace InFormLoad
variable {r : KRes} {b : Block}
theorem ok {v : Nat} (h : InFormLoad r) (he : r = .ok b v) : InForm b := by subst he; exact h
theorem poison {pa : Nat} (h : InFormLoad r) (he : r = .poison b pa) : InForm b := by subst he; exact h
theorem wait (h : InFormLoad r) (he : r = .wait b) : InForm b := by subst he; exact h
end InFormLoad

theorem exceptMap_eq_ok {ε α β : Type} {f : α → β} {r : Except ε α} {y : β} (h : r.map f = .ok y) : ∃ x, r = .ok x ∧ f x = y := by
  cases r with
  | error e => cases h
  | ok x => exact ⟨x, rfl, Except.ok.inj h⟩

theorem Answers.run {s : State} {f : Block → Block} (h : InForm (f s.blk)) : Answers (s.run f) := by
  rintro _ ⟨⟩
  exact h

namespace InForm

variable {b c : Block}

/-- A change of anything but the memory. -/
theorem same (h : InForm b) (hm : c.mem = b.mem := by rfl) : InForm c := by
  unfold InForm
  rwa [hm]

theorem ite {p : Prop} {_ : Decidable p} (h : InForm b) (hc : InForm c) : InForm (if p then b else c) := by
  split
  · exact h
  · exact hc

theorem ite_fst {α : Type} {p : Prop} {_ : Decidable p} {r t : Block × α} (h : InForm r.1) (ht : InForm t.1) :
    InForm (if p then r else t).1 := by
  split
  · exact h
  · exact ht

theorem fst {α : Type} {r : Block × α} {x : α} (h : InForm r.1) (he : r = (c, x)) : InForm c := by subst he; exact h

theorem foldl {α : Type} {f : Block → α → Block} {l : List α} (hf : ∀ c, InForm c → ∀ x, InForm (f c x)) (h : InForm b) :
    InForm (l.foldl f b) := by
  induction l generalizing b with
  | nil => exact h
  | cons x t ih => exact ih (hf b h x)

theorem foldl_fst {α β : Type} {f : Block × β → α → Block × β} {l : List α} {r : Block × β}
    (hf : ∀ r, InForm r.1 → ∀ x, InForm (f r x).1) (h : InForm r.1) : InForm (l.foldl f r).1 := by
  induction l generalizing r with
  | nil => exact h
  | cons x t ih => exact ih (hf r h x)

/-! ### Changes of a single part that is not memory -/

theorem withBerths {v} (h : InForm b) : InForm { b with berths := v } := h
theorem withDomains {v} (h : InForm b) : InForm { b with domains := v } := h
theorem withChannels {v} (h : InForm b) : InForm { b with channels := v } := h
theorem withLines {v} (h : InForm b) : InForm { b with lines := v } := h
theorem withPsets {v} (h : InForm b) : InForm { b with psets := v } := h
theorem withTiles {v} (h : InForm b) : InForm { b with tiles := v } := h
theorem withCharts {v} (h : InForm b) : InForm { b with charts := v } := h
theorem withWithdrawals {v} (h : InForm b) : InForm { b with withdrawals := v } := h
theorem withContexts {v} (h : InForm b) : InForm { b with contexts := v } := h
theorem withQueues {v} (h : InForm b) : InForm { b with queues := v } := h
theorem withRequests {v} (h : InForm b) : InForm { b with requests := v } := h
theorem withLanterns {v} (h : InForm b) : InForm { b with lanterns := v } := h
theorem withHws {v} (h : InForm b) : InForm { b with hws := v } := h
theorem withBeams {v} (h : InForm b) : InForm { b with beams := v } := h
theorem withSets {v} (h : InForm b) : InForm { b with sets := v } := h
theorem withXfers {v} (h : InForm b) : InForm { b with xfers := v } := h
theorem withNextId {v} (h : InForm b) : InForm { b with nextId := v } := h
theorem withGroups {v} (h : InForm b) : InForm { b with groups := v } := h
theorem withSinkers {v} (h : InForm b) : InForm { b with sinkers := v } := h
theorem withChecks {v} (h : InForm b) : InForm { b with checks := v } := h
theorem withHarts {v} (h : InForm b) : InForm { b with harts := v } := h
theorem withClusters {v} (h : InForm b) : InForm { b with clusters := v } := h
theorem withImsic {v} (h : InForm b) : InForm { b with imsic := v } := h
theorem withAplicM {v} (h : InForm b) : InForm { b with aplicM := v } := h
theorem withAplicS {v} (h : InForm b) : InForm { b with aplicS := v } := h
theorem withPorts {v} (h : InForm b) : InForm { b with ports := v } := h
theorem withCarts {v} (h : InForm b) : InForm { b with carts := v } := h
theorem withLinks {v} (h : InForm b) : InForm { b with links := v } := h
theorem withSensors {v} (h : InForm b) : InForm { b with sensors := v } := h
theorem withTray {v} (h : InForm b) : InForm { b with tray := v } := h
theorem withStart {v} (h : InForm b) : InForm { b with start := v } := h
theorem withEvents {v} (h : InForm b) : InForm { b with events := v } := h
theorem withErrors {v} (h : InForm b) : InForm { b with errors := v } := h
theorem withCmds {v} (h : InForm b) : InForm { b with cmds := v } := h
theorem withSessions {v} (h : InForm b) : InForm { b with sessions := v } := h
theorem withMailboxes {v} (h : InForm b) : InForm { b with mailboxes := v } := h
theorem withStore {v} (h : InForm b) : InForm { b with store := v } := h
theorem withPower {v} (h : InForm b) : InForm { b with power := v } := h
theorem withSilent {v} (h : InForm b) : InForm { b with silent := v } := h
theorem withFirmware {v} (h : InForm b) : InForm { b with firmware := v } := h
theorem withSecurity {v} (h : InForm b) : InForm { b with security := v } := h
theorem withGuests {v} (h : InForm b) : InForm { b with guests := v } := h
theorem withPicks {v} (h : InForm b) : InForm { b with picks := v } := h

/-! ### The operations of `Ops` -/

theorem setBerth {k v} (hb : InForm b) : InForm (Block.setBerth b k v) := hb.withBerths
theorem updBerth {k f} (hb : InForm b) : InForm (Block.updBerth b k f) := hb.setBerth
theorem setDomain {k v} (hb : InForm b) : InForm (Block.setDomain b k v) := hb.withDomains
theorem updDomain {k f} (hb : InForm b) : InForm (Block.updDomain b k f) := hb.setDomain
theorem setChannel {k v} (hb : InForm b) : InForm (Block.setChannel b k v) := hb.withChannels
theorem updChannel {k f} (hb : InForm b) : InForm (Block.updChannel b k f) := hb.setChannel
theorem setLine {k v} (hb : InForm b) : InForm (Block.setLine b k v) := hb.withLines
theorem updLine {k f} (hb : InForm b) : InForm (Block.updLine b k f) := hb.setLine
theorem setPset {k v} (hb : InForm b) : InForm (Block.setPset b k v) := hb.withPsets
theorem updPset {k f} (hb : InForm b) : InForm (Block.updPset b k f) := hb.setPset
theorem setTile {k v} (hb : InForm b) : InForm (Block.setTile b k v) := hb.withTiles
theorem updTile {k f} (hb : InForm b) : InForm (Block.updTile b k f) := hb.setTile
theorem setChart {k v} (hb : InForm b) : InForm (Block.setChart b k v) := hb.withCharts
theorem updChart {k f} (hb : InForm b) : InForm (Block.updChart b k f) := hb.setChart
theorem setCtx {k v} (hb : InForm b) : InForm (Block.setCtx b k v) := hb.withContexts
theorem updCtx {k f} (hb : InForm b) : InForm (Block.updCtx b k f) := hb.setCtx
theorem setQueue {k v} (hb : InForm b) : InForm (Block.setQueue b k v) := hb.withQueues
theorem setRequest {k v} (hb : InForm b) : InForm (Block.setRequest b k v) := hb.withRequests
theorem updRequest {k f} (hb : InForm b) : InForm (Block.updRequest b k f) := hb.setRequest
theorem setLantern {k v} (hb : InForm b) : InForm (Block.setLantern b k v) := hb.withLanterns
theorem updLantern {k f} (hb : InForm b) : InForm (Block.updLantern b k f) := hb.setLantern
theorem setHw {k v} (hb : InForm b) : InForm (Block.setHw b k v) := hb.withHws
theorem updHw {k f} (hb : InForm b) : InForm (Block.updHw b k f) := hb.setHw
theorem setBeam {k v} (hb : InForm b) : InForm (Block.setBeam b k v) := hb.withBeams
theorem updBeam {k f} (hb : InForm b) : InForm (Block.updBeam b k f) := hb.setBeam
theorem setAccSet {k v} (hb : InForm b) : InForm (Block.setAccSet b k v) := hb.withSets
theorem updAccSet {k f} (hb : InForm b) : InForm (Block.updAccSet b k f) := hb.setAccSet
theorem setGroup {k v} (hb : InForm b) : InForm (Block.setGroup b k v) := hb.withGroups
theorem updGroup {k f} (hb : InForm b) : InForm (Block.updGroup b k f) := hb.setGroup
theorem setSinker {k v} (hb : InForm b) : InForm (Block.setSinker b k v) := hb.withSinkers
theorem updSinker {k f} (hb : InForm b) : InForm (Block.updSinker b k f) := hb.setSinker
theorem setHart {k v} (hb : InForm b) : InForm (Block.setHart b k v) := hb.withHarts
theorem updHart {k f} (hb : InForm b) : InForm (Block.updHart b k f) := hb.setHart
theorem setCluster {k v} (hb : InForm b) : InForm (Block.setCluster b k v) := hb.withClusters
theorem updCluster {k f} (hb : InForm b) : InForm (Block.updCluster b k f) := hb.setCluster
theorem setPort {k v} (hb : InForm b) : InForm (Block.setPort b k v) := hb.withPorts
theorem updPort {k f} (hb : InForm b) : InForm (Block.updPort b k f) := hb.setPort
theorem setCart {k v} (hb : InForm b) : InForm (Block.setCart b k v) := hb.withCarts
theorem updCart {k f} (hb : InForm b) : InForm (Block.updCart b k f) := hb.setCart
theorem setLink {k v} (hb : InForm b) : InForm (Block.setLink b k v) := hb.withLinks
theorem updLink {k f} (hb : InForm b) : InForm (Block.updLink b k f) := hb.setLink
theorem setSensor {k v} (hb : InForm b) : InForm (Block.setSensor b k v) := hb.withSensors
theorem setMailbox {k v} (hb : InForm b) : InForm (Block.setMailbox b k v) := hb.withMailboxes
theorem updMailbox {k f} (hb : InForm b) : InForm (Block.updMailbox b k f) := hb.setMailbox
theorem setFw {k v} (hb : InForm b) : InForm (Block.setFw b k v) := hb.withFirmware
theorem updFw {k f} (hb : InForm b) : InForm (Block.updFw b k f) := hb.setFw
theorem setGuest {k v} (hb : InForm b) : InForm (Block.setGuest b k v) := hb.withGuests
theorem updGuest {k f} (hb : InForm b) : InForm (Block.updGuest b k f) := hb.setGuest
theorem raiseRec {u e args clears} (hb : InForm b) : InForm (Block.raiseRec b u e args clears) := .ite hb.withEvents hb.withEvents
theorem raise {u e args} (hb : InForm b) : InForm (Block.raise b u e args) := hb.raiseRec
theorem restartLocal {u} (hb : InForm b) : InForm (Block.restartLocal b u) := hb.withEvents
theorem setAlert {i} (hb : InForm b) : InForm (Block.setAlert b i) := hb.withTray
theorem clearAlert {i} (hb : InForm b) : InForm (Block.clearAlert b i) := hb.withTray

theorem record {u e args r} (hb : InForm b) : InForm (Block.record b u e args r) := by
  unfold Block.record
  dsimp only
  split
  · exact hb.withErrors
  · refine .ite hb.raise.withErrors ?_
    split
    · exact hb.raise.withErrors
    · exact hb.raise.withErrors.raise

theorem refuse {st} (hb : InForm b) : InForm (Block.refuse b st) := hb.withCmds
theorem done {obj ret} (hb : InForm b) : InForm (Block.done b obj ret) := hb.withCmds
theorem accept {obj} (hb : InForm b) : InForm (Block.accept b obj) := hb.withCmds

theorem finish {obj num res resCode ret} (hb : InForm b) : InForm (Block.finish b obj num res resCode ret) :=
    InForm.raise (InForm.ite hb.withCmds hb)

theorem finishSts {obj num res ret} (hb : InForm b) : InForm (Block.finishSts b obj num res ret) := hb.finish

theorem cmd {role least area f} (hb : InForm b) (hf : ∀ c, InForm c → InForm (f c)) : InForm (Block.cmd b role least area f) := by
  unfold Block.cmd
  split
  · exact hb.refuse
  · exact hf _ hb

theorem pend {pa id} (hb : InForm b) : InForm (Block.pend b pa id) := hb.withImsic.updHart
theorem msi {pa id lostEv args} (hb : InForm b) : InForm (Block.msi b pa id lostEv args) := .ite hb.pend hb.raise
theorem setAplic {sup x} (hb : InForm b) : InForm (Block.setAplic b sup x) := .ite hb.withAplicS hb.withAplicM
theorem aplicSend {sup t} (hb : InForm b) : InForm (Block.aplicSend b sup t) := hb.msi
theorem aplicDeliver {sup src} (hb : InForm b) : InForm (Block.aplicDeliver b sup src) := .ite hb.setAplic.aplicSend hb
theorem aplicPend {sup src} (hb : InForm b) : InForm (Block.aplicPend b sup src) := .ite hb.setAplic.aplicDeliver hb
theorem wire {src} (hb : InForm b) : InForm (Block.wire b src) := hb.aplicPend

theorem suspect {cause args} (hb : InForm b) : InForm (Block.suspect b cause args) :=
    .ite hb.withSilent.withSilent.raise.setAlert.wire hb.withSilent

theorem setLevel {l} (hb : InForm b) : InForm (Block.setLevel b l) := .ite hb hb.withStart.raise.wire

/-! ### The operations of `Home` -/

theorem back {n} (hb : InForm b) : InFormRes (fun r => r.2) (fun c => c) (Block.back b n) := by
  unfold Block.back
  dsimp only
  split
  · exact hb.updBerth.withPicks
  · exact hb.raise

theorem putFrame {tier d frame i v p} (hb : InForm b) : InForm (b.putFrame tier d frame i v p) :=
  Block.putFrame_memWf b tier d frame i v p hb

theorem putMem {ln v p} (hb : InForm b) : InForm (Block.putMem b ln v p) := by
  unfold Block.putMem
  dsimp only
  split
  · exact hb
  · exact hb
  · exact hb.putFrame
  · exact hb.putFrame.putFrame
  · exact hb.putFrame.updBerth

theorem sample {ln} (hb : InForm b) : InForm (Block.sample b ln) := .ite hb.updDomain.updBerth hb.updDomain

theorem writeBack {ln v p} (hb : InForm b) : InForm (Block.writeBack b ln v p).1 := by
  unfold Block.writeBack
  dsimp only
  split
  · exact hb.raise
  · split
    next c he1 => exact ((hb.back.ok he1).putMem).sample
    next e he1 => exact (hb.back.error he1).raise
  · exact hb.putMem.sample

theorem unplace {key ln} (hb : InForm b) : InForm (Block.unplace b key ln) := hb.updPset
theorem loseRes {ln keep} (hb : InForm b) : InForm (Block.loseRes b ln keep) := hb.withHarts
theorem setDir {ln d} (hb : InForm b) : InForm (Block.setDir b ln d) := .ite hb.updLine.unplace hb.updLine
theorem dropCopy {a ln} (hb : InForm b) : InForm (Block.dropCopy b a ln) := .ite hb.updLine.unplace.loseRes hb.updLine.unplace

theorem evictSlice {ln} (hb : InForm b) : InForm (Block.evictSlice b ln) := by
  unfold Block.evictSlice
  dsimp only
  split
  · exact hb
  · exact .ite hb.updLine.unplace.writeBack hb.updLine.unplace

theorem placeSlice {touch ln v dirty p} (hb : InForm b) : InForm (Block.placeSlice b touch ln v dirty p) := by
  unfold Block.placeSlice
  dsimp only
  refine .ite hb.updPset.updLine ?_
  split
  · exact .ite hb.writeBack hb
  · exact InForm.updLine (InForm.updPset (by
      split
      · exact hb.evictSlice
      · exact hb))

theorem rangeClean {x : RangeAcc} {ln} (hx : InForm x.blk) : InForm (x.clean ln).blk := by
  unfold RangeAcc.clean
  extract_lets own b1
  have h1 : InForm b1 := by
    unfold b1
    cases own with
    | some e => exact hx.placeSlice.updLine
    | none => exact hx
  clear_value b1
  split
  · exact h1
  · extract_lets p
    split
    · exact h1
    · split
      · exact InForm.unplace (InForm.updLine h1.writeBack)
      · exact InForm.updLine h1.writeBack
theorem rangeInval {x : RangeAcc} {ln} (hx : InForm x.blk) : InForm (x.inval ln).blk :=
  InForm.loseRes (InForm.unplace (InForm.updLine (InForm.setDir (.foldl (fun _ h _ => h.dropCopy) hx))))

theorem rangeOp {x : RangeAcc} {o ln} (hx : InForm x.blk) : InForm (x.op o ln).blk := by
  cases o with
  | clean => exact rangeClean hx
  | invalidate => exact rangeInval hx
  | cleanInvalidate => exact rangeInval (rangeClean hx)

theorem rangeOps {x : RangeAcc} {o} {ls : List Nat} (hx : InForm x.blk) : InForm (ls.foldl (fun (a : RangeAcc) ln => a.op o ln) x).blk
    := by
  induction ls generalizing x with
  | nil => exact hx
  | cons ln t ih => exact ih (rangeOp hx)

theorem putSlice {ln v dirty p} (hb : InForm b) : InForm (Block.putSlice b ln v dirty p) := hb.placeSlice

theorem fetchSlice {ln} (hb : InForm b) : InForm (Block.fetchSlice b ln) := by
  unfold Block.fetchSlice
  dsimp only
  split
  · exact hb.updPset
  · exact .ite hb hb.sample.putSlice

theorem mergeCopy {a ln} (hb : InForm b) : InForm (Block.mergeCopy b a ln) := by
  unfold Block.mergeCopy
  split
  · exact .ite hb.putSlice hb
  · exact hb

theorem recallAll {ln} (hb : InForm b) : InForm (Block.recallAll b ln) :=
    InForm.setDir (InForm.foldl (fun _ h0 _ => h0.mergeCopy.dropCopy) hb)

theorem dirEntry {ln} (hb : InForm b) : InFormOpt (Block.dirEntry b ln) := by
  unfold Block.dirEntry
  dsimp only
  refine InFormOpt.ite (InFormOpt.some hb.updPset) ?_
  refine InFormOpt.ite (InFormOpt.some hb) ?_
  exact InFormOpt.map (fun _ => InForm.updPset (by
    split
    · exact hb.recallAll.updTile
    · exact hb))

theorem undir {a ln} (hb : InForm b) : InForm (Block.undir b a ln) := .ite hb.updLine hb.setDir

theorem evictCopy {a ln} (hb : InForm b) : InForm (Block.evictCopy b a ln) := by
  unfold Block.evictCopy
  dsimp only
  split
  · exact hb.unplace
  · exact .ite hb.mergeCopy.dropCopy hb.mergeCopy.dropCopy.undir

theorem place {a ln c} (hb : InForm b) : InForm (Block.place b a ln c) := by
  unfold Block.place
  dsimp only
  refine .ite hb.updPset.updLine ?_
  split
  · exact InForm.undir (InForm.ite hb.putSlice hb)
  · exact InForm.updLine (InForm.updPset (by
      split
      · exact hb.evictCopy
      · exact hb))

theorem moveCopy {a a' ln} (hb : InForm b) : InForm (Block.moveCopy b a a' ln) := by
  unfold Block.moveCopy
  dsimp only
  split
  · exact hb
  · exact hb.dropCopy.updLine.place

theorem install {a ln c} (hb : InForm b) : InForm (Block.install b a ln c) := by
  unfold Block.install
  dsimp only
  refine .ite ?_ hb.place
  exact InForm.place (InForm.ite hb (by
    split
    · split
      · exact hb.moveCopy
      · exact hb
    · exact hb))

theorem deliver {ln id} (hb : InForm b) : InForm (Block.deliver b ln id) :=
    .ite hb.updLantern.withHws.updChart (.ite hb.updPort (.ite hb.updTile hb))

theorem notify {ln} (hb : InForm b) : InForm (Block.notify b ln) := .foldl (fun _ h0 _ => h0.deliver) hb
theorem watch {id ln} (hb : InForm b) : InFormOpt (Block.watch b id ln) := InFormOpt.ite InFormOpt.none (InFormOpt.some hb.updLine)
theorem watchRefused {ln} (hb : InForm b) : InForm (Block.watchRefused b ln) := hb.updTile
theorem unwatch {id ln} (hb : InForm b) : InForm (Block.unwatch b id ln) := hb.updLine
theorem unwatchLamp {l ln} (hb : InForm b) : InForm (Block.unwatchLamp b l ln) := .ite hb hb.unwatch
theorem queueReq {ln r} (hb : InForm b) : InForm (Block.queueReq b ln r) := .ite hb hb.updLine

theorem ensure {ln} (hb : InForm b) : InFormRes (fun r => r.2) (fun c => c) (Block.ensure b ln) := by
  unfold Block.ensure
  refine InFormRes.ite ?_ hb
  split
  next c he => exact (hb.back.ok he).same
  next e he => exact hb.back.error he

theorem lend {a ln} (hb : InForm b) : InForm (Block.lend b a ln) := by
  unfold Block.lend
  dsimp only
  refine .ite hb ?_
  split
  · exact hb.notify
  · exact hb.putSlice.updLine.notify

theorem fill {a ln} (hb : InForm b) : InForm (Block.fill b a ln) := by
  unfold Block.fill
  dsimp only
  refine .ite ?_ hb
  split
  · exact hb.dropCopy.updLine.install
  · exact hb

theorem loadMiss {a ln} (hb : InForm b) : InFormRes (fun r => r.2) (fun r => r.1) (Block.loadMiss b a ln) := by
  unfold Block.loadMiss
  dsimp only
  split
  · exact hb
  · split
    · exact hb
    next _ he1 =>
      split
      · split
        · exact (((hb.dirEntry _ he1).mergeCopy).updLine).install
        · exact ((((hb.dirEntry _ he1).fetchSlice).updLine).install).lend
      · exact (((hb.dirEntry _ he1).fetchSlice).updLine).install
      · exact ((((hb.dirEntry _ he1).fetchSlice).updLine).install).lend

theorem loadLine {b0 a ln} (hb : InForm b0) : InFormRes (fun r => r.2) (fun r => r.1) (Block.loadLine b0 a ln) := by
  unfold Block.loadLine
  dsimp only
  refine InFormRes.ite hb ?_
  refine InFormRes.ite hb.queueReq ?_
  split
  · exact hb.fill.updPset
  · exact hb.fill.loadMiss

theorem storeHit {a ln mask v keep c} (hb : InForm b) : InForm (Block.storeHit b a ln mask v keep c) :=
    InForm.loseRes (InForm.ite hb.updPset.updLine hb.updPset.updLine.lend)

theorem storeMiss {a ln mask v keep} (hb : InForm b) : InFormRes (fun r => r.2) (fun c => c) (Block.storeMiss b a ln mask v keep) := by
  unfold Block.storeMiss
  dsimp only
  split
  · exact hb
  · split
    · exact hb
    next _ he1 => exact InForm.loseRes (InForm.lend (InForm.install (InForm.updLine (InForm.foldl (fun _ h2 _ => h2.dropCopy) (.ite
      (hb.dirEntry _ he1) ((hb.dirEntry _ he1).fetchSlice))))))

theorem storeLine {b0 a ln mask v keep} (hb : InForm b0) : InFormRes (fun r => r.2) (fun c => c) (Block.storeLine b0 a ln mask v keep)
    := by
  unfold Block.storeLine
  dsimp only
  refine InFormRes.ite hb ?_
  split
  · exact hb.storeHit
  · refine InFormRes.ite hb.queueReq ?_
    split
    next e he1 => exact (hb.ensure.error he1).same
    next _ he1 =>
      split
      · exact InFormRes.ite (((hb.ensure.ok he1).fill).storeMiss) (((hb.ensure.ok he1).fill).storeHit)
      · exact ((hb.ensure.ok he1).fill).storeMiss

theorem readOnce {ln} (hb : InForm b) : InFormRes (fun _ => b) (fun r => r.1) (b.readOnce ln) := by
  unfold Block.readOnce
  dsimp only
  split
  · exact hb
  · show InForm _
    dsimp only
    split
    · exact .ite hb hb.fetchSlice
    · exact hb.fetchSlice

theorem write {ln mask v p} (hb : InForm b) : InFormRes (fun r => r.2) (fun c => c) (Block.write b ln mask v p) := by
  unfold Block.write
  dsimp only
  split
  · exact hb
  · split
    next e he1 => exact (hb.ensure.error he1).same
    next _ he1 => exact InForm.loseRes (InForm.notify (InForm.putSlice (InForm.setDir (InForm.foldl (fun _ h2 _ => h2.dropCopy)
      (hb.ensure.ok he1)))))

theorem atomicAt {ln off bytes op x cmp} (hb : InForm b) : InFormRes (fun r => r.2) (fun r => r.1) (Block.atomicAt b ln off bytes op x
    cmp) := by
  unfold Block.atomicAt
  dsimp only
  split
  · exact hb
  · split
    next e he1 => exact (hb.ensure.error he1).same
    next _ he1 =>
      refine InFormRes.ite (((hb.ensure.ok he1).recallAll).fetchSlice) ?_
      exact ((((((hb.ensure.ok he1).recallAll).fetchSlice).putSlice).updTile).notify).loseRes

theorem atomic {ln off w64 op x cmp} (hb : InForm b) : InFormRes (fun r => r.2) (fun r => r.1) (Block.atomic b ln off w64 op x cmp) :=
    InFormRes.map hb.atomicAt (fun _ h0 => h0)

theorem putUnder {ln mask v p} (hb : InForm b) : InFormRes (fun r => r.2) (fun c => c) (Block.putUnder b ln mask v p) := by
  unfold Block.putUnder
  dsimp only
  refine InFormRes.ite hb ?_
  refine InFormRes.ite hb ?_
  split
  next e he => exact (hb.ensure.error he).same
  next _ he => exact (hb.ensure.ok he).putMem

theorem poke {pa n v} (hb : InForm b) : InForm (Block.poke b pa n v).1 := by
  unfold Block.poke
  split
  · exact hb
  · split
    next c he1 => exact (hb.write.ok he1).same
    next e he1 => exact hb.write.error he1

/-! ### The operations of `Serve` -/

theorem setTxn {ln t} (hb : InForm b) : InForm (Block.setTxn b ln t) := hb.updLine
theorem updTxn {ln f} (hb : InForm b) : InForm (Block.updTxn b ln f) := hb.updLine
theorem applyWrite {ln r} (hb : InForm b) : InForm (Block.applyWrite b ln r) := hb.setDir.putSlice.notify.loseRes

theorem applyAtom {ln r} (hb : InForm b) : InForm (Block.applyAtom b ln r) :=
    .ite hb.setDir.fetchSlice.updLine hb.setDir.fetchSlice.updLine.putSlice.updTile.notify.loseRes

theorem serveX {ln r} (hb : InForm b) : InForm (Block.serveX b ln r) := by
  unfold Block.serveX
  dsimp only
  split
  next e he => exact hb.ensure.error he
  next _ he =>
    split
    · refine .ite (InForm.setTxn (InForm.updLine (InForm.fetchSlice (InFormOpt.getD ((hb.ensure.ok he).dirEntry) (hb.ensure.ok he)))))
        ?_
      exact InForm.setTxn (InForm.updLine (InFormOpt.getD ((hb.ensure.ok he).dirEntry) (hb.ensure.ok he)))
    · exact InForm.setTxn (InForm.updLine (InForm.fetchSlice (InFormOpt.getD ((hb.ensure.ok he).dirEntry) (hb.ensure.ok he))))
    · exact InForm.setTxn (InForm.updLine (InForm.fetchSlice (InFormOpt.getD ((hb.ensure.ok he).dirEntry) (hb.ensure.ok he))))

theorem serve {ln r} (hb : InForm b) : InForm (Block.serve b ln r) := by
  unfold Block.serve
  dsimp only
  refine .ite hb ?_
  split
  · split
    · refine .ite (InForm.setTxn (InForm.updLine (InForm.fetchSlice (InFormOpt.getD hb.dirEntry hb)))) ?_
      exact InForm.setTxn (InFormOpt.getD hb.dirEntry hb)
    · exact InForm.setTxn (InForm.updLine (InForm.fetchSlice (InFormOpt.getD hb.dirEntry hb)))
    · exact InForm.setTxn (InForm.updLine (InForm.fetchSlice (InFormOpt.getD hb.dirEntry hb)))
  · exact hb.serveX
  · split
    · refine .ite ?_ hb.serveX
      split
      next e he2 => exact hb.ensure.error he2
      next _ he2 => exact ((hb.ensure.ok he2).updLine).setTxn
    · exact hb.serveX
  · split
    · exact hb.setTxn
    · exact hb.fetchSlice.updLine.setTxn
  · split
    next e he1 => exact hb.ensure.error he1
    next _ he1 =>
      split
      · exact (hb.ensure.ok he1).setTxn
      · exact (hb.ensure.ok he1).setTxn
      · exact .ite ((hb.ensure.ok he1).applyAtom) ((hb.ensure.ok he1).applyWrite)
  · split
    next e he1 => exact hb.ensure.error he1
    next _ he1 =>
      split
      · exact (hb.ensure.ok he1).setTxn
      · exact (hb.ensure.ok he1).setTxn
      · exact .ite ((hb.ensure.ok he1).applyAtom) ((hb.ensure.ok he1).applyWrite)
  · split
    next e he1 => exact hb.ensure.error he1
    next _ he1 =>
      split
      · exact (hb.ensure.ok he1).setTxn
      · exact (hb.ensure.ok he1).setTxn
      · exact .ite ((hb.ensure.ok he1).applyAtom) ((hb.ensure.ok he1).applyWrite)
  · exact InFormOpt.getD hb.watch hb.watchRefused
  · exact hb.unwatch

theorem serveNext {ln k} (hb : InForm b) : InForm (Block.serveNext ln k b) := by
  induction k generalizing b with
  | zero => exact hb
  | succ k ih =>
    unfold Block.serveNext
    dsimp only
    split
    · exact .ite hb (ih hb.updLine.serve)
    · exact hb

theorem serveWaiting (hb : InForm b) : InForm (Block.serveWaiting b) := .foldl (fun _ h0 _ => h0.serveNext) hb

theorem payOwed {p k} (hb : InForm b) : InForm (Block.payOwed p k b) := by
  induction k generalizing b with
  | zero => exact hb
  | succ k ih =>
    unfold Block.payOwed
    split
    · exact hb
    · dsimp only
      split
      · exact ih hb.updPort
      · split
        · exact hb
        next he => exact ih (hb.write.error he).updPort
        next he =>
          refine ih ?_
          split
          · exact (hb.write.ok he).updPort.msi
          · exact (hb.write.ok he).updPort

theorem endTxn {ln} (hb : InForm b) : InForm (Block.endTxn b ln) := .foldl (fun _ h0 _ => h0.payOwed) hb.updLine.serveNext.serveWaiting

theorem progress {ln} (hb : InForm b) : InForm (Block.progress b ln) := by
  unfold Block.progress
  split
  · exact hb
  · refine .ite hb ?_
    split
    · exact hb.applyWrite.endTxn
    · exact hb.applyWrite.endTxn
    · exact hb.applyAtom.endTxn
    · exact hb

/-! ### The operations of `Chart` -/

theorem homeRead {pa} (hb : InForm b) : InForm (Block.homeRead b pa) := by
  unfold Block.homeRead
  split
  · exact hb
  · split
    next r he1 => exact hb.readOnce.ok he1
    next a _ => exact hb

theorem faultDrop {l c va} (hb : InForm b) : InForm (Block.faultDrop b l c va) := hb.updChart

theorem useXl {l c va access x} (hb : InForm b) : InForm (Block.useXl b l c va access x).1 := by
  unfold Block.useXl
  split
  · exact hb.faultDrop
  · exact hb

theorem translate {l c va access rangeOnly} (hb : InForm b) : InForm (Block.translate b l c va access rangeOnly).1 := by
  unfold Block.translate
  dsimp only
  refine .ite_fst hb.faultDrop ?_
  split
  · exact hb.setChart.useXl
  · split
    · exact hb.setChart.useXl
    · split
      · exact hb
      · exact InForm.faultDrop (by
          split
          · exact InForm.raise (InForm.updChart (InForm.updChart (InForm.foldl (fun _ h3 _ => h3.homeRead) hb)))
          · exact InForm.updChart (InForm.updChart (InForm.foldl (fun _ h3 _ => h3.homeRead) hb)))
      · exact InForm.useXl (InForm.updChart (InForm.updChart (InForm.updChart (InForm.foldl (fun _ h3 _ => h3.homeRead) hb))))
      · refine .ite_fst (InForm.faultDrop (InForm.updChart (InForm.updChart (InForm.foldl (fun _ h3 _ => h3.homeRead) hb)))) ?_
        exact InForm.useXl (InForm.updChart (InForm.updChart (InForm.updChart (InForm.foldl (fun _ h3 _ => h3.homeRead) hb))))

theorem footPage {l c access rangeOnly s page} (hs : InForm s.1) : InForm (Block.footPage l c access rangeOnly s page).1 := by
  unfold Block.footPage
  dsimp only
  refine .ite_fst hs ?_
  split
  next _ _ x he => exact (hs.translate.fst he).same
  next _ _ x he => exact .ite_fst ((hs.translate.fst he).same) ((hs.translate.fst he).same)
  next _ _ he => exact .ite_fst ((hs.translate.fst he).same) ((hs.translate.fst he).same)
  next _ he => exact (hs.translate.fst he).same

theorem footprint {l c access rangeOnly rs} (hb : InForm b) : InForm (Block.footprint b l c access rangeOnly rs).1 :=
    .foldl_fst (fun _ h0 _ => .footPage h0) hb

theorem boardDel {k id} (hb : InForm b) : InForm (Block.boardDel b k id) := hb.updHw
theorem tallyUp {k i} (hb : InForm b) : InForm (Block.tallyUp b k i) := hb.updHw
theorem tallyDown {k i} (hb : InForm b) : InForm (Block.tallyDown b k i) := hb.updHw
theorem addRef {l id} (hb : InForm b) : InForm (Block.addRef b l id) := hb.updChart
theorem dropRef {l id} (hb : InForm b) : InForm (Block.dropRef b l id) := hb.updChart

theorem withdrawSinks {k} (hb : InForm b) : InForm (Block.withdrawSinks b k) :=
    .foldl (fun _ h0 _ => h0.boardDel.dropRef.tallyDown) (.ite hb hb.withSinkers)

theorem endReq {k status detail} (hb : InForm b) : InForm (Block.endReq b k status detail) := by
  unfold Block.endReq
  dsimp only
  split
  · exact hb
  · exact .ite hb hb.withdrawSinks.updHw.updLantern
  · exact hb
  · exact .ite hb hb.withdrawSinks.updHw.updLantern
  · exact hb.withdrawSinks.updHw.updLantern

theorem exc {k code} (hb : InForm b) : InForm (Block.exc b k code) := hb.endReq

theorem endCtx {c status detail but} (hb : InForm b) : InForm (Block.endCtx b c status detail but) :=
    .foldl (fun _ h0 _ => h0.endReq) hb

theorem extinguish {c who lantern addr} (hb : InForm b) : InForm (Block.extinguish b c who lantern addr) :=
    .ite hb.withErrors.endCtx.withErrors.updCtx.raise hb.withErrors.endCtx

theorem poisonHit {k detail addr} (hb : InForm b) : InForm (Block.poisonHit b k detail addr) := hb.endReq.extinguish

theorem memErr {k e pa} (hb : InForm b) : InForm (Block.memErr b k e pa) := by
  unfold Block.memErr
  dsimp only
  split
  · split
    · exact .ite hb.updHw hb
    · exact hb
  · exact hb.raise.endReq
  · exact hb.endReq
  · exact hb.endReq

theorem closeBatch {c} (hb : InForm b) : InForm (Block.closeBatch b c) :=
    .ite hb (.ite hb (.ite hb.poke.poke.updCtx (.ite hb.poke.poke.updCtx.msi hb.poke.poke.updCtx.raise)))

theorem noteRecord {r n batch} (hb : InForm b) : InForm (Block.noteRecord b r n batch) := by
  unfold Block.noteRecord
  dsimp only
  split
  · exact hb.updHw
  · exact hb.updLantern

theorem ringWrite {l r} (hb : InForm b) : InFormOpt (b.ringWrite l r) := by
  unfold Block.ringWrite
  extract_lets b1 x p b2 b3 b4
  have h1 : InForm b1 := .ite hb.closeBatch hb
  have h3 : InForm b3 := h1.poke.updCtx.noteRecord
  have h4 : InForm b4 := .ite h3.closeBatch h3
  exact .ite .none (.ite .none (.some (.ite h4 h4.raise)))

theorem pushFault {c r} (hb : InForm b) : InForm (Block.pushFault b c r) := .ite (InFormOpt.getD hb.ringWrite hb.updCtx) hb.updCtx

theorem flushFaults {c} (hb : InForm b) : InForm (Block.flushFaults b c) :=
    .foldl (fun _ h0 _ => .ite (InFormOpt.getD h0.updCtx.ringWrite h0) h0) hb

theorem watchDriver {l c} (hb : InForm b) : InForm (Block.watchDriver b l c) := by
  unfold Block.watchDriver
  dsimp only
  exact InForm.updChart (by
    split
    · exact InFormOpt.getD hb.watch hb.watchRefused
    · exact hb)

theorem holdSlot {l slot c record x cause va} (hb : InForm b) : InForm (Block.holdSlot b l slot c record x cause va).1 :=
    .ite_fst hb (.ite_fst hb.raise hb.watchDriver.updLantern.pushFault)

theorem holdFault {l h what pc faults} (hb : InForm b) : InForm (Block.holdFault b l h what pc faults).1 :=
    .ite_fst hb (.ite_fst hb.raise (.foldl (fun _ h0 _ => h0.pushFault) hb.watchDriver.updHw))

theorem dropWithdrawal {w} (hb : InForm b) : InForm (Block.dropWithdrawal b w) :=
    InForm.withWithdrawals (InForm.foldl (fun _ h0 _ => h0.updChart) hb)

theorem tryDrops (hb : InForm b) : InForm (Block.tryDrops b) := by
  unfold Block.tryDrops
  exact .foldl (fun _ h0 _ => by
    split
    · exact .ite h0.dropWithdrawal h0
    · exact h0) hb

theorem pushWithdrawal {c range ack} (hb : InForm b) : InForm (Block.pushWithdrawal b c range ack) := hb.same.tryDrops
theorem admitDestroys (hb : InForm b) : InForm (Block.admitDestroys b) := .foldl (fun _ h0 _ => .ite h0.updCtx.pushWithdrawal h0) hb

/-! ### The operations of `Lamp` -/

theorem setG {k i v} (hb : InForm b) : InForm (Block.setG b k i v) := hb.updHw
theorem goto {k pc} (hb : InForm b) : InForm (Block.goto b k pc) := hb.updHw
theorem advance {k} (hb : InForm b) : InForm (Block.advance b k) := hb.goto
theorem lensPutLine {k off bs p} (hb : InForm b) : InForm (Block.lensPutLine b k off bs p) := hb.updLantern
theorem lensPut {k off bs p} (hb : InForm b) : InForm (Block.lensPut b k off bs p) := .foldl (fun _ h0 _ => h0.lensPutLine) hb
theorem boardPut {k id off n writes} (hb : InForm b) : InForm (Block.boardPut b k id off n writes) := hb.updHw

theorem dieLine {l pa} (hb : InForm b) : InFormRes (fun r => r.2) (fun r => r.1) (Block.dieLine b l pa) := by
  unfold Block.dieLine
  split
  · exact hb
  · split
    next e he1 => exact (hb.loadLine.error he1).same
    next c _ _ he1 => exact (hb.loadLine.ok he1).same

theorem ownLine {l h pa} (hb : InForm b) : InFormRes (fun r => r.2) (fun r => r.1) (Block.ownLine b l h pa) := by
  unfold Block.ownLine
  split
  next e he => exact (hb.dieLine.error he).same
  next c _ he => exact (hb.dieLine.ok he).same

theorem performStore {l s} (hb : InForm b) : InFormRes (fun r => r.2) (fun c => c) (Block.performStore b l s) := by
  unfold Block.performStore
  split
  · exact hb
  · exact hb.storeLine

theorem performOldest {l} (hb : InForm b) : InForm (Block.performOldest b l) := by
  unfold Block.performOldest
  dsimp only
  split
  · exact hb
  · split
    next c he1 => exact (hb.performStore.ok he1).updLantern
    next c he1 => exact (hb.performStore.error he1).same
    next e c he1 => exact ((hb.performStore.error he1).updLantern).memErr

theorem drainStores {l} (hb : InForm b) : InForm (Block.drainStores b l) := .foldl (fun _ h0 _ => h0.performOldest) hb

theorem withFootU {l h access rangeOnly rs um go} (hb : InForm b) (hum : ∀ c, InForm c → ∀ y1, InForm (um c y1)) (hgo : ∀ c, InForm c →
    ∀ y1, InForm (go c y1)) : InForm (Block.withFootU b l h access rangeOnly rs um go) := by
  unfold Block.withFootU
  dsimp only
  refine .ite hb ?_
  refine .ite hb.footprint.exc ?_
  refine .ite ?_ ?_
  · split
    next _ he => exact (hb.footprint.holdFault.fst he).same
    next _ d he => exact (hb.footprint.holdFault.fst he).endReq
  · split
    · exact hum _ hb.footprint _
    · exact hgo _ hb.footprint _

theorem withFoot {l h access rangeOnly rs go} (hb : InForm b) (hgo : ∀ c, InForm c → ∀ y1, InForm (go c y1)) : InForm (Block.withFoot b
    l h access rangeOnly rs go) := hb.withFootU (fun _ h0 _ => h0.memErr) hgo

theorem fetchAhead {l w pa} (hb : InForm b) : InForm (Block.fetchAhead b l w pa) := by
  unfold Block.fetchAhead
  dsimp only
  exact .foldl (fun _ h0 _ => by
    split
    · exact h0
    · refine .ite h0 ?_
      split
      next _ he2 => exact h0.loadLine.ok he2
      next a _ => exact h0) hb

theorem fetch {l h go} (hb : InForm b) (hgo : ∀ c, InForm c → ∀ y1, InForm (go c y1)) : InForm (Block.fetch b l h go) := by
  unfold Block.fetch
  dsimp only
  refine .ite hb ?_
  refine .ite hb.exc ?_
  refine hb.withFoot (fun _ h1 _ => ?_)
  split
  next e he1 => exact (h1.dieLine.error he1).memErr
  next _ _ poison he1 => exact .ite ((h1.dieLine.ok he1).poisonHit) (hgo _ ((h1.dieLine.ok he1).fetchAhead) _)

theorem issue {l h word op illegal rsv body} (hb : InForm b) (hbody : ∀ c, InForm c → InForm (body c)) : InForm (Block.issue b l h word
    op illegal rsv body) := hb.fetch (fun _ h1 _ => .ite hb (.ite h1.exc (.ite h1.endReq (hbody _ h1))))

/-! ### The operations of `Operands` -/

theorem checked {k cs go} (hb : InForm b) (hgo : ∀ c, InForm c → InForm (go c)) : InForm (Block.checked b k cs go) := by
  unfold Block.checked
  split
  · exact hb.endReq
  · exact hgo _ hb

theorem useTiles {k ts go} (hb : InForm b) (hgo : ∀ c, InForm c → InForm (go c)) : InForm (Block.useTiles b k ts go) :=
    .ite hb.poisonHit (hb.checked hgo)

theorem putRows {k base stride rows} (hb : InForm b) : InForm (Block.putRows b k base stride rows) :=
    .foldl (fun _ h0 _ => h0.lensPut) hb

theorem addCensus {k c} (hb : InForm b) : InForm (Block.addCensus b k c) := hb.updHw

/-! ### The operations of `Access` -/

theorem dieRead {l h access va n go} (hb : InForm b) (hgo : ∀ c, InForm c → ∀ y1, InForm (go c y1)) : InForm (Block.dieRead b l h
    access va n go) := by
  unfold Block.dieRead
  dsimp only
  refine hb.withFoot (fun _ h1 _ => ?_)
  split
  next e he1 => exact (h1.ownLine.error he1).memErr
  next _ _ poison he1 => exact .ite ((h1.ownLine.ok he1).poisonHit) (hgo _ (h1.ownLine.ok he1) _)

theorem scalarLoad {l h va n go} (hb : InForm b) (hgo : ∀ c, InForm c → ∀ y1, InForm (go c y1)) : InForm (Block.scalarLoad b l h va n
    go) := hb.dieRead hgo

theorem scalarStore {l h va n v} (hb : InForm b) : InForm (Block.scalarStore b l h va n v) :=
    hb.withFoot (fun _ h1 _ => .ite h1 h1.updLantern.advance)

theorem released {l h go} (hb : InForm b) (hgo : ∀ c, InForm c → InForm (go c)) : InForm (Block.released b l h go) :=
    .ite hb.drainStores (.ite hb.drainStores (hgo _ hb.drainStores))

theorem releasedIf {p l h go} (hb : InForm b) (hgo : ∀ c, InForm c → InForm (go c)) : InForm (Block.releasedIf b p l h go) :=
    .ite (hb.released hgo) (hgo _ hb)

theorem farAtomic {l h w op aop} (hb : InForm b) : InForm (Block.farAtomic b l h w op aop) := by
  unfold Block.farAtomic
  dsimp only
  refine hb.issue (fun _ h1 => ?_)
  refine .ite h1.exc ?_
  refine h1.withFootU (fun _ h1 _ => h1.exc) (fun _ h2 _ => ?_)
  refine h2.releasedIf (fun _ h3 => ?_)
  split
  · exact h3.exc
  · split
    next r he4 => exact (h3.atomic.error he4).memErr
    next _ _ poison he4 => exact .ite ((h3.atomic.ok he4).poisonHit) (((h3.atomic.ok he4).setG).advance)

theorem dropWatch {l h} (hb : InForm b) : InForm (Block.dropWatch b l h) := by
  unfold Block.dropWatch
  split
  · exact hb.updHw.unwatchLamp
  · exact hb

theorem waitLineRead {l h w} (hb : InForm b) : InForm (Block.waitLineRead b l h w) := by
  unfold Block.waitLineRead
  dsimp only
  refine .ite hb.exc ?_
  refine hb.withFoot (fun _ h1 _ => ?_)
  split
  next e he1 => exact (h1.ownLine.error he1).memErr
  next d v poison he1 =>
    refine .ite (((h1.ownLine.ok he1).dropWatch).poisonHit) ?_
    refine .ite ((((h1.ownLine.ok he1).dropWatch).setG).advance) ?_
    exact InForm.updHw (by
      split
      · exact (h1.ownLine.ok he1).updHw
      · split
        next _ he3 => exact (((h1.ownLine.ok he1).watch) _ he3).updHw
        · exact ((h1.ownLine.ok he1).watchRefused).updHw)

theorem execLd {s l h w} (hb : InForm s.blk) : Answers (Machine.execLd l h w s) :=
    .run (hb.issue (fun _ h1 => .ite h1.exc (h1.scalarLoad (fun _ h1 _ => h1.setG.advance))))

theorem execSt {s l h w} (hb : InForm s.blk) : Answers (Machine.execSt l h w s) :=
    .run (hb.issue (fun _ h1 => .ite h1.exc h1.scalarStore))

theorem execLdAcq {s l h w} (hb : InForm s.blk) : Answers (Machine.execLdAcq l h w s) :=
    .run (hb.issue (fun _ h1 => .ite h1.exc (h1.scalarLoad (fun _ h1 _ => h1.setG.advance))))

theorem execStRel {s l h w} (hb : InForm s.blk) : Answers (Machine.execStRel l h w s) := by
  unfold Machine.execStRel
  refine .run ?_
  dsimp only
  refine hb.issue (fun _ h1 => ?_)
  refine .ite h1.exc ?_
  refine h1.withFoot (fun _ h2 _ => ?_)
  refine h2.released (fun _ h3 => ?_)
  split
  next _ he3 => exact (h3.performStore.ok he3).advance
  next r he3 => exact (h3.performStore.error he3).memErr

theorem execTld {s l h w} (hb : InForm s.blk) : Answers (Machine.execTld l h w s) :=
    .run (hb.issue (fun _ h1 => .ite h1.exc (h1.scalarLoad (fun _ h1 _ => h1.updHw.advance))))

theorem execTst {s l h w} (hb : InForm s.blk) : Answers (Machine.execTst l h w s) :=
    .run (hb.issue (fun _ h1 => .ite h1.exc (.ite h1.poisonHit h1.scalarStore)))

theorem execTset {s l h w} (hb : InForm s.blk) : Answers (Machine.execTset l h w s) := .run (hb.issue (fun _ h1 => h1.updHw.advance))

theorem execTget {s l h w} (hb : InForm s.blk) : Answers (Machine.execTget l h w s) :=
    .run (hb.issue (fun _ h1 => .ite h1.poisonHit h1.updHw.advance))

theorem execTadv {s l h w} (hb : InForm s.blk) : Answers (Machine.execTadv l h w s) :=
    .run (hb.issue (fun _ h1 => .ite h1.poisonHit h1.updHw.advance))

theorem execLdl {s l h w} (hb : InForm s.blk) : Answers (Machine.execLdl l h w s) :=
    .run (hb.issue (fun _ h1 => .ite h1.exc (.ite h1.exc (.ite h1 (.ite h1.poisonHit h1.setG.advance)))))

theorem execStl {s l h w} (hb : InForm s.blk) : Answers (Machine.execStl l h w s) :=
    .run (hb.issue (fun _ h1 => .ite h1.exc (.ite h1.exc (.ite h1 h1.lensPut.advance))))

theorem execAtomAdd {s l h w} (hb : InForm s.blk) : Answers (Machine.execAtomAdd l h w s) := .run hb.farAtomic
theorem execAtomAnd {s l h w} (hb : InForm s.blk) : Answers (Machine.execAtomAnd l h w s) := .run hb.farAtomic
theorem execAtomOr {s l h w} (hb : InForm s.blk) : Answers (Machine.execAtomOr l h w s) := .run hb.farAtomic
theorem execAtomXor {s l h w} (hb : InForm s.blk) : Answers (Machine.execAtomXor l h w s) := .run hb.farAtomic
theorem execAtomMin {s l h w} (hb : InForm s.blk) : Answers (Machine.execAtomMin l h w s) := .run hb.farAtomic
theorem execAtomMax {s l h w} (hb : InForm s.blk) : Answers (Machine.execAtomMax l h w s) := .run hb.farAtomic
theorem execAtomMinu {s l h w} (hb : InForm s.blk) : Answers (Machine.execAtomMinu l h w s) := .run hb.farAtomic
theorem execAtomMaxu {s l h w} (hb : InForm s.blk) : Answers (Machine.execAtomMaxu l h w s) := .run hb.farAtomic
theorem execAtomSwap {s l h w} (hb : InForm s.blk) : Answers (Machine.execAtomSwap l h w s) := .run hb.farAtomic
theorem execAtomCas {s l h w} (hb : InForm s.blk) : Answers (Machine.execAtomCas l h w s) := .run hb.farAtomic

theorem execFence {s l h w} (hb : InForm s.blk) : Answers (Machine.execFence l h w s) :=
    .run (hb.issue (fun _ h1 => .ite (h1.released (fun _ h1 => h1.advance)) (.ite h1 h1.advance)))

theorem execWaitLine {s l h w} (hb : InForm s.blk) : Answers (Machine.execWaitLine l h w s) :=
    .run (hb.issue (fun _ h1 => h1.waitLineRead))

theorem execWaitLineTimeout {s l h} (hb : InForm s.blk) : Answers (Machine.execWaitLineTimeout l h s) :=
    .run (hb.fetch (fun _ h1 _ => .ite (.ite h1.waitLineRead.dropWatch.setG.advance h1.waitLineRead) hb))

theorem execWatchPoll {s l h} (hb : InForm s.blk) : Answers (Machine.execWatchPoll l h s) := by
  unfold Machine.execWatchPoll
  refine .run ?_
  dsimp only
  refine .ite (InForm.fetch (InForm.ite hb.updChart.updHw hb.updChart) (fun _ h1 _ => .ite h1.waitLineRead (.ite hb.updChart.updHw
    hb.updChart))) ?_
  exact .ite hb.updChart.updHw hb.updChart

theorem execWaitTally {s l h w} (hb : InForm s.blk) : Answers (Machine.execWaitTally l h w s) :=
    .run (hb.issue (fun _ h1 => .ite h1.advance h1))

theorem execBufferedStorePerform {s l} (hb : InForm s.blk) : Answers (Machine.execBufferedStorePerform l s) := .run hb.performOldest

/-! ### The operations of `SinkOps` -/

theorem sinkWrite {o va bs p} (hb : InForm b) : InFormRes (fun r => r.2) (fun c => c) (Block.sinkWrite b o va bs p) := by
  unfold Block.sinkWrite
  dsimp only
  exact InFormRes.foldl (fun _ h0 _ => by
    split
    next e => exact h0
    next d =>
      split
      · exact h0
      · exact h0.putUnder) hb

theorem regionXl {l c access k va stop acc} (hb : InForm b) : InForm (Block.regionXl l c access k b va stop acc).1 := by
  induction k generalizing b va acc with
  | zero => exact hb
  | succ k ih =>
    unfold Block.regionXl
    refine .ite_fst hb ?_
    split
    next he => exact ih (hb.translate.fst he)
    next he => exact hb.translate.fst he
    next he => exact hb.translate.fst he

theorem regionsXl {l c rs} (hb : InForm b) : InForm (b.regionsXl l c rs).1 := by
  refine .foldl_fst (fun _ hs _ => ?_) hb
  split
  next he => exact (hs.regionXl.fst he).same
  next he => exact (hs.regionXl.fst he).same
  next he => exact (hs.regionXl.fst he).same

theorem forSink {o f} (hb : InForm b) (hf : ∀ c, InForm c → ∀ y1, InForm (f c y1)) : InForm (Block.forSink b o f) := by
  unfold Block.forSink
  split
  · exact hf _ hb _
  · exact hb

theorem sinkOut {o off bs} (hb : InForm b) : InFormRes (fun e => e.2) (fun c => c) (b.sinkOut o off bs) := by
  unfold Block.sinkOut
  refine InFormRes.ite ?_ hb.sinkWrite
  split
  · refine InFormRes.ite ?_ hb
    exact InForm.ite hb.lensPut.updHw hb.lensPut
  · exact hb

theorem updOp {s id f} (hb : InForm b) : InForm (Block.updOp b s id f) := hb.updSinker
theorem sinkDead {s o} (hb : InForm b) : InForm (Block.sinkDead b s o) := hb.updOp

theorem sinkFail {s o e} (hb : InForm b) : InForm (Block.sinkFail b s o e) := by
  unfold Block.sinkFail
  split
  · exact hb.forSink (fun _ h1 _ => h1.updHw)
  · exact (hb.forSink (fun _ h0 _ => h0.exc)).sinkDead
  · exact (hb.forSink (fun _ h0 _ => h0.endReq)).sinkDead
  · exact (hb.forSink (fun _ h0 _ => h0.endReq)).sinkDead

theorem sinkPoison {s o addr} (hb : InForm b) : InForm (Block.sinkPoison b s o addr) :=
    ((hb.forSink (fun _ h0 _ => h0.endReq)).extinguish).sinkDead

theorem sinkGood {s o st bytes c} (hb : InForm b) : InForm (Block.sinkGood b s o st bytes c) := by
  unfold Block.sinkGood
  dsimp only
  refine .ite (((hb.forSink (fun _ h0 _ => h0.addCensus)).updOp).updSinker) ?_
  split
  · exact hb.sinkFail
  · split
    next d he1 => exact ((((hb.forSink (fun _ h1 _ => h1.addCensus)).write).ok he1).updOp).updSinker
    · exact hb
    next e d he1 => exact (((hb.forSink (fun _ h1 _ => h1.addCensus)).write).error he1).sinkFail

theorem runSink {s id op go} (hb : InForm b) (hgo : ∀ c, InForm c → ∀ y1, InForm (go c y1)) : InForm (Block.runSink b s id op go) := by
  unfold Block.runSink
  split
  · refine .ite ?_ hb
    refine .ite ((hb.forSink (fun _ h1 _ => h1.endReq)).sinkDead) ?_
    exact .ite (hb.forSink (fun _ h1 _ => h1.updHw)) (.ite hb.sinkFail (hgo _ hb _))
  · exact hb

theorem sinkFinish {s o outs st c} (hb : InForm b) : InForm (b.sinkFinish s o outs st c) := by
  have hr : InFormRes (fun e => e.2) (fun c => c) (outs.foldl (fun (x : Except (AccErr × Block) Block) (e : Nat × List Byte) =>
      match x with
      | .error y => .error y
      | .ok d => d.sinkOut o e.1 e.2) (.ok b)) := by
    refine .foldl (fun x hx _ => ?_) hb
    cases x with
    | error y => exact hx
    | ok d => exact InForm.sinkOut hx
  unfold Block.sinkFinish
  dsimp only
  split
  · exact hb.sinkFail
  next he => exact (hr.error he).sinkFail
  next he => exact (hr.ok he).sinkGood

/-! ### The operations of `Sinkers` -/

theorem enterSink {l h o} (hb : InForm b) : InForm (Block.enterSink b l h o) := by
  unfold Block.enterSink
  dsimp only
  refine .ite ?_ ?_
  · exact InForm.advance (InForm.updSinker (InForm.updSinker (by
      split
      · exact InForm.tallyUp (InForm.ite hb.withNextId.addRef.boardPut hb.withNextId.addRef)
      · exact .ite hb.withNextId.addRef.boardPut hb.withNextId.addRef)))
  · exact InForm.updHw (InForm.updSinker (by
      split
      · exact InForm.tallyUp (InForm.ite hb.withNextId.addRef.boardPut hb.withNextId.addRef)
      · exact .ite hb.withNextId.addRef.boardPut hb.withNextId.addRef))

theorem sinkChecked {d l h v tally grp go} (hb : InForm d) (hgo : ∀ c, InForm c → ∀ y1, InForm (go c y1)) : InForm (Block.sinkChecked d
    l h v tally grp go) := by
  unfold Block.sinkChecked
  dsimp only
  refine hb.checked (fun _ h1 => ?_)
  refine .ite h1 ?_
  split
  · exact h1.updHw
  · refine .ite h1 ?_
    split
    · split
      next g he3 => exact (h1.regionsXl.regionsXl.holdFault.fst he3).same
      next g t he3 => exact (h1.regionsXl.regionsXl.holdFault.fst he3).endReq
    · refine .ite h1.regionsXl.regionsXl.exc ?_
      refine .ite h1.regionsXl.regionsXl ?_
      exact .ite h1.regionsXl.regionsXl (.ite h1.regionsXl.regionsXl.updHw (hgo _ h1.regionsXl.regionsXl _))

theorem execSink {s l h w} (hb : InForm s.blk) : Answers (Machine.execSink l h w s) :=
    .run (hb.issue (fun _ h1 => .ite h1 (.ite h1.exc (h1.dieRead (fun _ h1 _ => h1.sinkChecked (fun _ h2 _ => h2.enterSink))))))

theorem execSinkAdmit {s n} (hb : InForm s.blk) : Answers (Machine.execSinkAdmit n s) := by
  unfold Machine.execSinkAdmit
  refine .run ?_
  dsimp only
  split
  · exact .ite (.ite hb.updOp.updSinker.advance hb.updOp.updSinker) hb
  · exact hb

theorem execGatherPool {s n id} (hb : InForm s.blk) : Answers (Machine.execGatherPool n id s) := by
  unfold Machine.execGatherPool
  refine .run ?_
  dsimp only
  refine hb.runSink (fun _ h1 _ => ?_)
  split
  · exact h1.sinkFail
  · exact .ite h1.sinkPoison h1.sinkFinish

theorem execScoreTopk {s n id} (hb : InForm s.blk) : Answers (Machine.execScoreTopk n id s) := by
  unfold Machine.execScoreTopk
  refine .run ?_
  dsimp only
  refine hb.runSink (fun _ h1 _ => ?_)
  split
  · exact h1.sinkFail
  · split
    · exact h1.sinkFail
    · exact .ite h1.sinkPoison h1.sinkFinish

theorem execStats {s n id} (hb : InForm s.blk) : Answers (Machine.execStats n id s) := by
  unfold Machine.execStats
  refine .run ?_
  refine hb.runSink (fun _ h1 _ => ?_)
  split
  · exact h1.sinkFail
  · exact .ite h1.sinkPoison h1.sinkFinish

theorem clearRow {o va n} (hb : InForm b) : InForm (Block.clearRow b o va n) := by
  unfold Block.clearRow
  dsimp only
  exact .foldl (fun _ h0 _ => by
    split
    · exact h0.putMem
    · exact h0) hb

theorem fillRows {o} (hb : InForm b) : InFormRes (fun r => r.2) (fun c => c) (Block.fillRows b o) := by
  unfold Block.fillRows
  dsimp only
  exact InFormRes.foldl (fun _ h0 _ => by
    split
    next e => exact h0
    next e =>
      split
      next _ he1 => exact (h0.sinkWrite.ok he1).clearRow
      next _ he1 => exact (h0.sinkWrite.error he1).same) hb

theorem execFill {s n id} (hb : InForm s.blk) : Answers (Machine.execFill n id s) := by
  unfold Machine.execFill
  refine .run ?_
  refine hb.runSink (fun _ h1 _ => ?_)
  split
  · exact h1.sinkFail
  next e f he1 => exact (h1.fillRows.error he1).sinkFail
  next f he1 => exact (h1.fillRows.ok he1).sinkGood

theorem execChecksum {s n id} (hb : InForm s.blk) : Answers (Machine.execChecksum n id s) := by
  unfold Machine.execChecksum
  refine .run ?_
  dsimp only
  refine hb.runSink (fun _ h1 _ => ?_)
  split
  · exact h1.sinkFail
  · exact .ite h1.sinkPoison h1.sinkFinish

theorem copyRows {o} (hb : InForm b) : InFormRes (fun r => r.2) (fun c => c) (Block.copyRows b o) := by
  unfold Block.copyRows
  dsimp only
  exact InFormRes.foldl (fun _ h0 _ => InFormRes.foldl (fun _ h1 _ => by
    split
    next e => exact h1
    next e =>
      split
      · exact h1
      · exact h1.sinkWrite) h0) hb

theorem execCopy {s n id} (hb : InForm s.blk) : Answers (Machine.execCopy n id s) := by
  unfold Machine.execCopy
  refine .run ?_
  refine hb.runSink (fun _ h1 _ => ?_)
  split
  · exact h1.sinkFail
  next e _ he1 => exact (h1.copyRows.error he1).sinkFail
  next _ he1 => exact (h1.copyRows.ok he1).sinkGood

theorem execStackTempSample {s n milliC} (hb : InForm s.blk) : Answers (Machine.execStackTempSample n milliC s) :=
    .run (.ite hb.setSinker.raise hb.setSinker)

/-! ### The operations of `Moves` -/

theorem updHalf {l n f} (hb : InForm b) : InForm (Block.updHalf b l n f) := hb.updBeam
theorem freeHalves {l} (hb : InForm b) : InForm (Block.freeHalves b l) := .foldl (fun _ h0 _ => .ite h0.updHalf h0) hb

theorem moveLine {l h pa keep} (hb : InForm b) : InFormRes (fun r => r.2) (fun r => r.1) (Block.moveLine b l h pa keep) := by
  unfold Block.moveLine
  split
  · exact hb
  · split
    next e he1 => exact ((InFormRes.ite hb.loadLine (InFormRes.mapError hb.readOnce (fun _ => hb))).error he1).same
    next c _ p he1 => exact ((InFormRes.ite hb.loadLine (InFormRes.mapError hb.readOnce (fun _ => hb))).ok he1).same

theorem moveRow {f l h keep va n} (hb : InForm b) : InFormRes (fun r => r.1.2) (fun r => r.1) (Block.moveRow b f l h keep va n) := by
  unfold Block.moveRow
  dsimp only
  exact InFormRes.foldl (fun _ h0 _ => by
    split
    next e => exact h0
    next t =>
      split
      next e he1 => exact (h0.moveLine.error he1).same
      next _ v _ he1 => exact (h0.moveLine.ok he1).same) hb

theorem moveRows {f l h keep base stride n rows} (hb : InForm b) : InFormRes (fun r => r.1.2) (fun r => r.1) (Block.moveRows b f l h
    keep base stride n rows) := by
  unfold Block.moveRows
  exact InFormRes.foldl (fun _ h0 _ => by
    split
    next e => exact h0
    next t =>
      split
      next e he1 => exact (h0.moveRow.error he1).same
      next _ _ he1 => exact (h0.moveRow.ok he1).same) hb

theorem putPieces {k base stride rs} (hb : InForm b) : InForm (Block.putPieces b k base stride rs) :=
    .foldl (fun _ h0 _ => .foldl (fun _ h1 _ => h1.lensPut) h0) hb

theorem boardTile {k id d writes} (hb : InForm b) : InForm (Block.boardTile b k id d writes) := .ite hb.boardPut.boardPut hb.boardPut
theorem waitOn {e} (hb : InForm b) : InForm (Block.waitOn b e) := .ite hb.withLines hb

theorem startXfer {k tally mem x} (hb : InForm b) : InForm (Block.startXfer b k tally mem x) :=
    InForm.advance (InForm.same (InForm.ite hb.tallyUp.addRef hb.tallyUp))

theorem retireXfer {x} (hb : InForm b) : InForm (Block.retireXfer b x) := by
  unfold Block.retireXfer
  dsimp only
  split
  · exact InForm.freeHalves (InForm.updHalf (InForm.boardDel (by
      split
      · exact hb.withXfers.dropRef.tallyDown
      · exact hb.withXfers.dropRef)))
  · exact InForm.boardDel (by
      split
      · exact hb.withXfers.dropRef.tallyDown
      · exact hb.withXfers.dropRef)

theorem xferWrites {x} (hb : InForm b) : InForm (Block.xferWrites b x).1 := by
  unfold Block.xferWrites
  dsimp only
  exact .foldl_fst (fun _ h0 _ => by
    split
    · exact h0
    · split
      next c he2 => exact .ite (by
        split
        next r he3 => exact ((h0.write.ok he2).loadLine).ok he3
        next a _ => exact (h0.write.ok he2).same) ((h0.write.ok he2).same)
      next e he2 => exact h0.write.error he2) hb

theorem landChunk {x peer c} (hb : InForm b) : InForm (Block.landChunk b x peer c) := by
  unfold Block.landChunk
  dsimp only
  refine .ite hb.withXfers ?_
  split
  · exact .ite hb.updLantern.withXfers hb
  · exact .ite hb.updLantern.withXfers (.ite hb.exc.withXfers hb.lensPut.updHw.withXfers)

theorem recvTry {l h w late} (hb : InForm b) : InForm (Block.recvTry b l h w late) :=
    hb.useTiles (fun _ h1 => h1.checked (fun _ h2 => .ite h2.updHw.advance (.ite h2.exc h2.updHw)))

theorem grantClaim {k want} (hb : InForm b) : InForm (Block.grantClaim b k want) :=
    InForm.advance (InForm.updHw (InForm.foldl (fun _ h0 _ => h0.updHalf) hb))

theorem moveIn {k x w ts td rows xrows} (hb : InForm b) : InForm (Block.moveIn b k x w ts td rows xrows) :=
    .ite hb.putRows.addCensus hb.putPieces.putPieces

theorem execMoveM2L {s l h w} (hb : InForm s.blk) : Answers (Machine.execMoveM2L l h w s) := by
  unfold Machine.execMoveM2L
  refine .run ?_
  dsimp only
  refine hb.issue (fun _ h1 => ?_)
  refine h1.useTiles (fun _ h2 => ?_)
  refine h2.checked (fun _ h3 => ?_)
  refine .ite h3 ?_
  refine h3.withFoot (fun _ h4 _ => ?_)
  split
  next => exact h4.waitOn.memErr
  next _ _ he4 =>
    split
    next => exact h4.waitOn.memErr
    next _ _ he5 =>
      refine .ite ((((h4.moveRows.ok he4).moveRows).ok he5).poisonHit) ?_
      exact (((((h4.moveRows.ok he4).moveRows).ok he5).moveIn).boardTile).startXfer

theorem execMoveL2M {s l h w} (hb : InForm s.blk) : Answers (Machine.execMoveL2M l h w s) := by
  unfold Machine.execMoveL2M
  refine .run ?_
  dsimp only
  refine hb.issue (fun _ h1 => ?_)
  refine h1.useTiles (fun _ h2 => ?_)
  refine h2.checked (fun _ h3 => ?_)
  refine .ite h3 ?_
  refine h3.withFoot (fun _ h4 _ => ?_)
  refine .ite h4.poisonHit ?_
  refine .ite (.ite h4.drainStores h4) ?_
  exact InForm.startXfer (InForm.boardTile (InForm.ite (InForm.addCensus (InForm.ite h4.drainStores h4)) (InForm.ite h4.drainStores
    h4)))

theorem execMoveL2F {s l h w} (hb : InForm s.blk) : Answers (Machine.execMoveL2F l h w s) :=
    .run (hb.issue (fun _ h1 => h1.useTiles (fun _ h2 => h2.checked (fun _ h3 => .ite h3 (.ite h3.poisonHit
    h3.updHalf.boardTile.startXfer)))))

theorem execMoveDone {s id} (hb : InForm s.blk) : Answers (Machine.execMoveDone id s) := by
  unfold Machine.execMoveDone
  refine .run ?_
  dsimp only
  split
  · exact hb
  · refine .ite hb ?_
    split
    next _ _ he1 => exact (hb.xferWrites.fst he1).retireXfer
    next _ _ _ he1 => exact ((hb.xferWrites.fst he1).withXfers).memErr
    next _ e _ _ he1 => exact ((hb.xferWrites.fst he1).memErr).retireXfer

theorem execSend {s l h w} (hb : InForm s.blk) : Answers (Machine.execSend l h w s) :=
    .run (hb.issue (fun _ h1 => h1.useTiles (fun _ h2 => h2.checked (fun _ h3 => .ite h3 h3.boardPut.startXfer))))

theorem execSendArrival {s id k} (hb : InForm s.blk) : Answers (Machine.execSendArrival id k s) := by
  unfold Machine.execSendArrival
  refine .run ?_
  split
  · exact hb
  · split
    · exact .ite hb hb.landChunk
    · exact hb

theorem execRecv {s l h w} (hb : InForm s.blk) : Answers (Machine.execRecv l h w s) := .run (hb.issue (fun _ h1 => h1.recvTry))

theorem execRecvTimeout {s l h} (hb : InForm s.blk) : Answers (Machine.execRecvTimeout l h s) :=
    .run (hb.fetch (fun _ h1 _ => .ite h1.recvTry hb))

theorem execClaim {s l h w} (hb : InForm s.blk) : Answers (Machine.execClaim l h w s) :=
    .run (hb.issue (fun _ h1 => .ite h1.exc (.ite h1.grantClaim h1.updHw.updLantern)))

theorem execClaimGrant {s l} (hb : InForm s.blk) : Answers (Machine.execClaimGrant l s) := by
  unfold Machine.execClaimGrant
  refine .run ?_
  dsimp only
  split
  · exact hb
  · exact .ite hb.updLantern.grantClaim hb

theorem execRelease {s l h w} (hb : InForm s.blk) : Answers (Machine.execRelease l h w s) :=
    .run (hb.issue (fun _ h1 => .ite h1.exc (InForm.advance (InForm.freeHalves (InForm.updHw (InForm.foldl (fun _ h1 _ => h1.updHalf)
    h1))))))

/-! ### The operations of `Beams` -/

theorem reOp {l} (hb : InForm b) : InForm (Block.reOp b l) := hb.updLantern
theorem headOfWatch {l} (hb : InForm b) : InForm (Block.headOfWatch b l) := hb.withSilent
theorem stall {l m i n} (hb : InForm b) : InForm (Block.stall b l m i n) := hb.updBeam
theorem stage {l o} (hb : InForm b) : InForm (Block.stage b l o) := .ite hb.updBeam.boardDel.freeHalves.poisonHit hb.updBeam.boardDel

theorem endBeam {l m o chk} (hb : InForm b) : InForm (b.endBeam l m o chk) := by
  unfold Block.endBeam
  extract_lets p y fa sc s n exact_ cyc as bs xbs b1 b2 done bad _ c _ out
  have hd : InForm done := hb.updBeam.updBeam.updAccSet
  have hbad : InForm (bad done) := hd.updAccSet
  have hc : InForm c := hbad.poisonHit
  have hout : InForm out := .ite hbad.poisonHit (.ite hd.withSilent.raise.headOfWatch (.ite hc.withSilent.raise.suspect hd))
  exact hout.freeHalves

theorem endSelftest {l m o gd suite res} (hb : InForm b) : InForm (Block.endSelftest b l m o gd suite res) := by
  unfold Block.endSelftest
  dsimp only
  exact InForm.freeHalves (by
    split
    · exact .ite hb.updBeam.updBeam.updHalf.updHalf.updAccSet.setG.advance hb.updBeam.updBeam.updHalf.updHalf.updAccSet
    · refine .ite hb.updBeam.updBeam.updHalf.updHalf.updAccSet.updLantern.endReq ?_
      exact hb.updBeam.updBeam.updHalf.updHalf.updAccSet.updLantern
    · exact InForm.suspect (InForm.raise (InForm.ite hb.updBeam.updBeam.updHalf.updHalf.updAccSet.setG.advance
        hb.updBeam.updBeam.updHalf.updHalf.updAccSet)))

theorem execBeam {s l h w} (hb : InForm s.blk) : Answers (Machine.execBeam l h w s) :=
    .run (hb.issue (fun _ h1 => h1.useTiles (fun _ h2 => h2.checked (fun _ h3 => .ite h3 h3.boardTile.withNextId.updBeam.advance))))

theorem execAStage {s l m} (hb : InForm s.blk) : Answers (Machine.execAStage l m s) := by
  unfold Machine.execAStage
  refine .run ?_
  dsimp only
  split
  · exact .ite hb hb.stage
  · exact hb

theorem execBeamIssue {s l m} (hb : InForm s.blk) : Answers (Machine.execBeamIssue l m s) := by
  unfold Machine.execBeamIssue
  refine .run ?_
  dsimp only
  split
  · exact hb
  · refine .ite hb ?_
    refine .ite hb ?_
    refine .ite hb.stall.updBeam ?_
    split
    · exact hb
    · exact hb.updBeam.stall
    · exact hb.updBeam.stall
    · exact hb.updBeam.stall
    · exact hb.updBeam.stall
    · exact .ite hb.updBeam.stall hb.updBeam.updBeam.updBeam.updAccSet.updHw

theorem execBeamComplete {s l m chk res} (hb : InForm s.blk) : Answers (Machine.execBeamComplete l m chk res s) := by
  unfold Machine.execBeamComplete
  refine .run ?_
  split
  · exact hb
  · refine .ite hb ?_
    split
    · exact hb.endSelftest
    · exact hb.endBeam

theorem execSelftest {s l h w} (hb : InForm s.blk) : Answers (Machine.execSelftest l h w s) :=
    .run (hb.issue (fun _ h1 => .ite h1 (h1.checked (fun _ h1 => .ite h1 h1.withNextId.updBeam.updHw))))

theorem execVectorReload {s l digestOk} (hb : InForm s.blk) : Answers (Machine.execVectorReload l digestOk s) :=
    .run (.ite hb.updLantern hb)

theorem execSetop {s l h w} (hb : InForm s.blk) : Answers (Machine.execSetop l h w s) :=
    .run (hb.issue (fun _ h1 => h1.updHw.reOp.advance))

theorem execOperatingPointChangeDone {s l} (hb : InForm s.blk) : Answers (Machine.execOperatingPointChangeDone l s) := by
  unfold Machine.execOperatingPointChangeDone
  refine .run ?_
  refine .ite hb ?_
  split
  · exact hb.updLantern
  · exact hb

/-! ### The operations of `Posts` -/

theorem putConverted {k td noclip stoch stream vs} (hb : InForm b) : InForm (Block.putConverted b k td noclip stoch stream vs) :=
    .ite hb.putRows.putRows.addCensus hb.putRows.addCensus

theorem postIssue {l k p cyc go} (hb : InForm b) (hgo : ∀ c, InForm c → InForm (go c)) : InForm (Block.postIssue b l k p cyc go) :=
    .ite hb.updBeam (hgo _ hb.updBeam.updHw)

theorem execPost {s l h w} (hb : InForm s.blk) : Answers (Machine.execPost l h w s) := by
  unfold Machine.execPost
  refine .run ?_
  dsimp only
  refine hb.issue (fun _ h1 => ?_)
  refine h1.useTiles (fun _ h2 => ?_)
  refine h2.checked (fun _ h3 => ?_)
  refine .ite h3 ?_
  refine .ite h3 ?_
  exact h3.postIssue (fun _ h4 => .ite h4.poisonHit (.ite h4.poisonHit (InForm.advance (InForm.ite h4.putConverted
    h4.putConverted.updAccSet))))

theorem reduce {l h w op} (hb : InForm b) : InForm (Block.reduce b l h w op) :=
    hb.issue (fun _ h1 => h1.useTiles (fun _ h2 => h2.checked (fun _ h3 => .ite h3 (.ite h3.poisonHit h3.putConverted.advance))))

theorem amaxOp {l h w acc} (hb : InForm b) : InForm (Block.amaxOp b l h w acc) :=
    hb.issue (fun _ h1 => h1.useTiles (fun _ h2 => h2.checked (fun _ h3 => .ite h3 (.ite h3.poisonHit h3.setG.setG.advance))))

theorem execReduceSum {s l h w} (hb : InForm s.blk) : Answers (Machine.execReduceSum l h w s) := .run hb.reduce
theorem execReduceMax {s l h w} (hb : InForm s.blk) : Answers (Machine.execReduceMax l h w s) := .run hb.reduce
theorem execReduceMin {s l h w} (hb : InForm s.blk) : Answers (Machine.execReduceMin l h w s) := .run hb.reduce
theorem execAmax {s l h w} (hb : InForm s.blk) : Answers (Machine.execAmax l h w s) := .run hb.amaxOp
theorem execAmaxAcc {s l h w} (hb : InForm s.blk) : Answers (Machine.execAmaxAcc l h w s) := .run hb.amaxOp

theorem withLayer {l h va go} (hb : InForm b) (hgo : ∀ c, InForm c → ∀ y1 y2 y3 y4, InForm (go c y1 y2 y3 y4)) : InForm
    (Block.withLayer b l h va go) := by
  unfold Block.withLayer
  dsimp only
  refine hb.withFoot (fun _ h1 _ => ?_)
  refine h1.releasedIf (fun _ h2 => ?_)
  split
  next e he2 => exact (h2.ownLine.error he2).memErr
  next _ _ _ he2 =>
    split
    next e he3 => exact (((h2.ownLine.ok he2).ownLine).error he3).memErr
    next _ _ _ he3 =>
      refine .ite ((((h2.ownLine.ok he2).ownLine).ok he3).poisonHit) ?_
      exact hgo _ (((h2.ownLine.ok he2).ownLine).ok he3) _ _ _ _

theorem addCounts {ln off ns} (hb : InForm b) : InFormRes (fun e => e.2) (fun c => c) (Block.addCounts b ln off ns) := by
  induction ns generalizing b off with
  | nil => exact hb
  | cons n t ih =>
    unfold Block.addCounts
    split
    next he => exact hb.atomic.error he
    next he => exact ih (hb.atomic.ok he)

theorem optPut {k d outs f} (hb : InForm b) : InForm (Block.optPut b k d outs f) := hb.putRows

theorem optWrite {k x w adam outs} (hb : InForm b) : InForm (Block.optWrite b k x w adam outs) :=
    InForm.addCensus (InForm.ite hb.optPut.optPut.optPut hb.optPut.optPut)

theorem execOptStep {s l h w} (hb : InForm s.blk) : Answers (Machine.execOptStep l h w s) := by
  unfold Machine.execOptStep
  refine .run ?_
  dsimp only
  refine hb.issue (fun _ h1 => ?_)
  refine h1.useTiles (fun _ h2 => ?_)
  refine h2.checked (fun _ h3 => ?_)
  refine h3.dieRead (fun _ h4 _ => ?_)
  refine h4.withLayer (fun _ h5 _ _ _ _ => ?_)
  refine h5.useTiles (fun _ h6 => ?_)
  refine h6.checked (fun _ h7 => ?_)
  refine .ite h7 ?_
  refine .ite h7.poisonHit ?_
  split
  next r he7 => exact (h7.addCounts.error he7).memErr
  next _ he7 => exact ((h7.addCounts.ok he7).optWrite).advance

theorem execOptClose {s l h w} (hb : InForm s.blk) : Answers (Machine.execOptClose l h w s) := by
  unfold Machine.execOptClose
  refine .run ?_
  dsimp only
  refine hb.issue (fun _ h1 => ?_)
  refine .ite h1.exc ?_
  refine h1.withLayer (fun _ h2 _ _ _ _ => ?_)
  refine h2.checked (fun _ h3 => ?_)
  split
  next _ he3 => exact (h3.write.error he3).memErr
  next _ he3 =>
    split
    next _ he4 => exact (((h3.write.ok he3).write).error he4).memErr
    next _ he4 => exact InForm.advance (InForm.ite (((((h3.write.ok he3).write).ok he4).withSilent).raise) (((h3.write.ok
      he3).write).ok he4))

theorem execCheck {s l h w} (hb : InForm s.blk) : Answers (Machine.execCheck l h w s) := by
  unfold Machine.execCheck
  refine .run ?_
  dsimp only
  refine hb.issue (fun _ h1 => ?_)
  refine .ite h1.withSilent.withSilent.advance ?_
  exact h1.useTiles (fun _ h2 => h2.checked (fun _ h3 => .ite h3.withSilent.advance (.ite h3 h3.withSilent.boardTile.same.advance)))

/-! ### The operations of `GroupOps` -/

theorem updMember {g m f} (hb : InForm b) : InForm (Block.updMember b g m f) := hb.updGroup

theorem noteLit (hb : InForm b) : InForm (Block.noteLit b) :=
    .foldl (fun _ h0 _ => .ite (InForm.foldl (fun _ h1 _ => .ite h1.updMember h1) h0) h0) hb

theorem unbind {g} (hb : InForm b) : InForm (b.unbind g) := hb

theorem stallGroup {g detail} (hb : InForm b) : InForm (Block.stallGroup b g detail) := by
  unfold Block.stallGroup
  dsimp only
  exact InForm.raise (InForm.updGroup (by
    split
    · exact hb.endReq
    · exact hb))

theorem stopGroups {l req} (hb : InForm b) : InForm (Block.stopGroups b l req) := .foldl (fun _ h0 _ => .ite h0.updGroup h0) hb

theorem groupsJoin {l req status} (hb : InForm b) : InForm (Block.groupsJoin b l req status) :=
    .foldl (fun _ h0 _ => .ite h0.unbind.updGroup h0) (.ite hb.stopGroups hb)

theorem dropMember {l} (hb : InForm b) : InForm (Block.dropMember b l) := .foldl (fun _ h0 _ => .ite h0.unbind.updGroup.raise h0) hb

theorem tearGroups {link} (hb : InForm b) : InForm (Block.tearGroups b link) := by
  unfold Block.tearGroups
  dsimp only
  exact .foldl (fun _ h0 _ => .ite (InForm.raise (InForm.setGroup (InForm.unbind (InForm.ite (by
    split
    · exact h0.endReq
    · exact h0) h0)))) h0) hb

theorem launched {g m i complete} (hb : InForm b) : InForm (Block.launched b g m i complete) := hb.updMember

theorem tableSend {g l k i e} (hb : InForm b) : InForm (b.tableSend g l k i e) :=
  .ite hb.exc.launched (.ite hb (InForm.launched (InForm.boardPut hb : InForm (b.boardPut k b.nextId e.src e.len false)).same))

theorem tableReduce {g l k i e} (hb : InForm b) : InForm (Block.tableReduce b g l k i e) :=
    .ite hb.exc.launched (.ite hb (.ite hb.poisonHit.launched hb.lensPut.addCensus.launched))

theorem tableSink {g l k i e} (hb : InForm b) : InForm (Block.tableSink b g l k i e) := by
  unfold Block.tableSink
  dsimp only
  refine .ite hb ?_
  exact hb.dieRead (fun _ h1 _ => h1.sinkChecked (fun _ h2 _ => InForm.launched (InForm.updSinker (InForm.ite
    h2.withNextId.addRef.boardPut h2.withNextId.addRef))))

theorem memberSink {g s i e} (hb : InForm b) : InForm (Block.memberSink b g s i e) := by
  unfold Block.memberSink
  dsimp only
  split
  · exact hb.launched
  · split
    · exact hb
    · exact hb.endReq.extinguish.launched
    · exact hb.exc.launched
    · exact hb.endReq.launched
    · split
      · exact hb.endReq.launched
      · split
        · exact hb
        · exact .ite hb.exc.launched (.ite hb hb.withNextId.updSinker.launched)

theorem launchOne {g m} (hb : InForm b) : InForm (Block.launchOne b g m) := by
  unfold Block.launchOne
  dsimp only
  split
  · exact hb
  · refine .ite ?_ (.ite hb.memberSink hb.launched)
    split
    · exact hb.launched
    · split
      · exact hb.launched
      · refine .ite hb.tableSend ?_
        exact .ite hb.launched (.ite hb.updHw.updGroup.launched (.ite hb.tableSink (.ite hb.tableReduce hb.launched)))

theorem launch {g m n} (hb : InForm b) : InForm (Block.launch b g m n) := by
  induction n generalizing b with
  | zero => exact hb
  | succ n ih => exact .ite hb.launchOne (ih hb.launchOne)

theorem flashHere {g m} (hb : InForm b) : InForm (Block.flashHere b g m) := hb.updMember.launch

theorem charStoreLost {g m} (hb : InForm b) : InForm (Block.charStoreLost b g m) := by
  unfold Block.charStoreLost
  dsimp only
  exact InForm.record (InForm.updGroup (by
    split
    · exact hb.endReq
    · exact hb))

theorem flashTravel {g m} (hb : InForm b) : InForm (Block.flashTravel b g m) := by
  unfold Block.flashTravel
  dsimp only
  refine .ite ?_ hb
  split
  · exact hb.updLink
  · exact hb.flashHere

/-! ### The operations of `Groups` -/

theorem formWith {g d old} (hb : InForm b) : InForm (Block.formWith b g d old) := by
  unfold Block.formWith
  dsimp only
  split
  · exact hb
  · exact hb.refuse.raise
  · exact InForm.done (by
      split
      · exact hb.unbind.setGroup.raise
      · exact hb.unbind.setGroup)

theorem execForm {s role g d} (hb : InForm s.blk) : Answers (Machine.execForm role g d s) :=
    .run (hb.cmd (fun _ h1 => .ite h1.refuse (.ite h1.refuse h1.formWith)))

theorem execReform {s role g} (hb : InForm s.blk) : Answers (Machine.execReform role g s) :=
    .run (hb.cmd (fun _ h1 => .ite h1.refuse (.ite h1.formWith h1.refuse)))

theorem execDissolve {s role g} (hb : InForm s.blk) : Answers (Machine.execDissolve role g s) :=
    .run (hb.cmd (fun _ h1 => .ite h1.refuse (.ite h1.unbind.setGroup.done h1.refuse)))

theorem bindGroup {g req} (hb : InForm b) : InForm (Block.bindGroup b g req) := hb.updGroup

theorem waitFlash {g l h declares target} (hb : InForm b) : InForm (Block.waitFlash b g l h declares target) := by
  unfold Block.waitFlash
  dsimp only
  refine .ite ?_ hb.updMember.updHw
  split
  · exact hb.updMember.updHw.goto
  · exact hb.updMember.advance

theorem execWaitflash {s l h w} (hb : InForm s.blk) : Answers (Machine.execWaitflash l h w s) := by
  unfold Machine.execWaitflash
  refine .run ?_
  dsimp only
  refine hb.issue (fun _ h1 => ?_)
  refine .ite h1.exc ?_
  split
  · exact .ite h1.waitFlash h1.updGroup.updHw
  · split
    · exact .ite h1.bindGroup.waitFlash h1.updGroup.updHw
    · exact h1.bindGroup.waitFlash

theorem execFlashFire {s g held} (hb : InForm s.blk) : Answers (Machine.execFlashFire g held s) :=
    .run (.ite hb (.ite hb.updGroup (.ite hb (.ite hb.stallGroup hb.updGroup))))

theorem execFlashArrival {s g a} (hb : InForm s.blk) : Answers (Machine.execFlashArrival g a s) :=
    .run (.ite hb.charStoreLost hb.flashTravel)

theorem retireSink {s o} (hb : InForm b) : InForm (Block.retireSink b s o) := by
  unfold Block.retireSink
  dsimp only
  split
  · split
    · exact InForm.forSink (InForm.ite hb.updSinker ((hb.updSinker.forSink (fun _ h2 _ => h2.boardDel)).dropRef)) (fun y h3 k =>
        h3.tallyDown)
    · exact .ite hb.updSinker ((hb.updSinker.forSink (fun _ h2 _ => h2.boardDel)).dropRef)
  · refine .ite ?_ ?_
    · exact InForm.updGroup (InForm.updMember (by
        split
        · exact InForm.forSink (InForm.ite hb.updSinker ((hb.updSinker.forSink (fun _ h2 _ => h2.boardDel)).dropRef)) (fun y h3 k =>
            h3.tallyDown)
        · exact .ite hb.updSinker ((hb.updSinker.forSink (fun _ h2 _ => h2.boardDel)).dropRef)))
    · exact InForm.updMember (by
        split
        · exact InForm.forSink (InForm.ite hb.updSinker ((hb.updSinker.forSink (fun _ h2 _ => h2.boardDel)).dropRef)) (fun _ h3 _ =>
            h3.tallyDown)
        · exact .ite hb.updSinker ((hb.updSinker.forSink (fun _ h2 _ => h2.boardDel)).dropRef))

theorem execSinkDone {s n id} (hb : InForm s.blk) : Answers (Machine.execSinkDone n id s) := by
  unfold Machine.execSinkDone
  refine .run ?_
  split
  · exact .ite hb.retireSink hb
  · exact hb

theorem actionDone {g m i} (hb : InForm b) : InForm (Block.actionDone b g m i) := by
  unfold Block.actionDone
  dsimp only
  refine .ite hb ?_
  refine .ite ?_ ?_
  · split
    · exact .ite hb.retireXfer.launched hb
    · exact hb.launched
  · refine .ite ?_ ?_
    · split
      · exact .ite hb.updHw.launched hb
      · exact hb.launched
    · refine .ite ?_ hb
      split
      · split
        · exact .ite hb.retireSink hb
        · exact hb
      · exact hb.launched

theorem execFlashActionDone {s g member idx} (hb : InForm s.blk) : Answers (Machine.execFlashActionDone g member idx s) :=
    .run (.ite hb.actionDone.launch hb)

theorem execGroupStall {s g} (hb : InForm s.blk) : Answers (Machine.execGroupStall g s) := .run (.ite hb.stallGroup hb)

/-! ### The operations of `TierOps` -/

/-- The bytes of a frame go; those that stay keep their order (R190). -/
theorem clearFrame {tier d frame} (hb : InForm b) : InForm (b.clearFrame tier d frame) := Block.clearFrame_memWf b tier d frame hb

/-- Each byte is written in its place, and none of value 0 is listed (R196). -/
theorem copyFrame {d t0 f0 t1 f1} (hb : InForm b) : InForm (b.copyFrame d t0 f0 t1 f1) := Block.copyFrame_memWf b d t0 f0 t1 f1 hb
theorem freeFrame {d tier frame} (hb : InForm b) : InForm (Block.freeFrame b d tier frame) := hb.updDomain
theorem retireNow {d tier frame} (hb : InForm b) : InForm (Block.retireNow b d tier frame) := hb.updDomain

theorem startMove {n t} (hb : InForm b) : InFormOpt (Block.startMove b n t) :=
    InFormOpt.ite InFormOpt.none (InFormOpt.some hb.copyFrame.setBerth.withPicks)

theorem startQueued {d} (hb : InForm b) : InForm (Block.startQueued b d) := by
  unfold Block.startQueued
  dsimp only
  exact .foldl (fun _ h0 _ => .ite h0 (InForm.ite h0.updDomain (InForm.ite h0 (by
    split
    next c he1 => exact (h0.startMove _ he1).updDomain
    · exact h0)))) hb

theorem queueMoves {d ms} (hb : InForm b) : InForm (Block.queueMoves b d ms) := hb.updDomain.startQueued
theorem cancelMove {n} (hb : InForm b) : InForm (Block.cancelMove b n) := .ite hb.updDomain.setBerth.freeFrame hb.updDomain
theorem updStream {num f} (hb : InForm b) : InForm (Block.updStream b num f) := hb.updDomain

theorem returnBerth {num n} (hb : InForm b) : InForm (Block.returnBerth b num n) := by
  unfold Block.returnBerth
  dsimp only
  refine .ite hb ?_
  refine .ite (InForm.retireNow (InForm.updDomain (InForm.setBerth (InForm.ite hb.copyFrame hb)))) ?_
  exact InForm.updStream (InForm.updDomain (InForm.setBerth (InForm.ite hb.copyFrame hb)))

theorem returnLayer {num layer} (hb : InForm b) : InForm (Block.returnLayer b num layer) := by
  unfold Block.returnLayer
  dsimp only
  split
  · exact hb
  · exact InForm.updStream (InForm.ite hb (InForm.foldl (fun _ h1 _ => h1.returnBerth) hb))

theorem syncStream {num} (hb : InForm b) : InForm (Block.syncStream b num) := by
  unfold Block.syncStream
  split
  · exact hb
  · exact .foldl (fun _ h1 _ => .ite h1 h1.returnLayer) hb

theorem returnWindows {d} (hb : InForm b) : InForm (Block.returnWindows b d) :=
    .foldl (fun _ h0 _ => .foldl (fun _ h1 _ => h1.returnLayer) h0) hb

theorem dropMarks {k} (hb : InForm b) : InForm (Block.dropMarks b k) := .foldl (fun _ h0 _ => h0.updStream.syncStream) hb
theorem addWait {d w} (hb : InForm b) : InForm (Block.addWait b d w) := hb.updDomain
theorem endWaits {d p} (hb : InForm b) : InForm (Block.endWaits b d p) := .foldl (fun _ h0 _ => h0.finishSts) hb.updDomain

theorem reserve {num} (hb : InForm b) : InForm (Block.reserve b num) := by
  unfold Block.reserve
  dsimp only
  split
  · exact hb
  · exact .ite hb (InForm.endWaits (InForm.foldl (fun _ h1 _ => h1.updStream.withPicks) hb))

theorem checkWaits {d} (hb : InForm b) : InForm (Block.checkWaits b d) := InForm.endWaits (InForm.foldl (fun _ h0 _ => h0.reserve) hb)
theorem setTier {d t} (hb : InForm b) : InForm (Block.setTier b d t) := hb.updDomain

theorem startEvac {d} (hb : InForm b) : InForm (Block.startEvac b d) := by
  unfold Block.startEvac
  dsimp only
  refine .ite hb.setTier.raise ?_
  exact InForm.checkWaits (InForm.queueMoves (InForm.foldl (fun _ h0 _ => h0.cancelMove) hb.setTier.raise.returnWindows.updDomain))

theorem repairPath {d ch} (hb : InForm b) : InForm (Block.repairPath b d ch) := .ite hb.updDomain.startEvac hb
theorem failWaits (hb : InForm b) : InForm (Block.failWaits b) := .foldl (fun _ h0 _ => h0.endReq) hb
theorem failStreamed {n} (hb : InForm b) : InForm (Block.failStreamed b n) := hb.cancelMove.setBerth.updDomain.raise

theorem failWindows {b0 d} (hb : InForm b0) : InForm (Block.failWindows b0 d) :=
    .foldl (fun _ h0 _ => InForm.updStream (InForm.foldl (fun _ h1 _ => .foldl (fun _ h2 _ => .ite h2.setBerth.updStream.raise h2) h1)
    h0)) (.foldl (fun _ h0 _ => h0.failStreamed) hb)

theorem loseChannels {d chs} (hb : InForm b) : InForm (Block.loseChannels b d chs) := by
  unfold Block.loseChannels
  dsimp only
  refine .ite (InForm.withErrors (InForm.failWaits (InForm.failWindows (InForm.foldl (fun _ h0 _ => h0.updChannel) hb)))) ?_
  exact InForm.repairPath (InForm.withErrors (InForm.failWaits (InForm.failWindows (InForm.foldl (fun _ h0 _ => h0.updChannel) hb))))

theorem takeOutStart {ch} (hb : InForm b) : InFormRes (fun _ => b) (fun c => c) (Block.takeOutStart b ch) :=
    InFormRes.ite hb (InFormRes.ite hb (InFormRes.ite hb hb.updChannel.queueMoves))

theorem retireFrame {d tier frame} (hb : InForm b) : InForm (Block.retireFrame b d tier frame) := by
  unfold Block.retireFrame
  dsimp only
  split
  · exact InForm.retireNow (InForm.foldl (fun _ h1 _ => h1.updStream) hb.updDomain)
  · split
    · refine .ite ?_ (.ite hb.updDomain hb.updDomain.copyFrame.setBerth.withPicks.retireNow)
      exact InForm.returnBerth (by
        split
        · exact .foldl (fun _ h3 _ => h3.returnLayer) hb.updDomain
        · exact hb.updDomain)
    · exact hb.updDomain.retireNow
    · exact hb.updDomain.queueMoves

/-! ### The operations of `Lights` -/

theorem updStore {f} (hb : InForm b) : InForm (Block.updStore b f) := hb.withStore
theorem updSilent {f} (hb : InForm b) : InForm (Block.updSilent b f) := hb.withSilent
theorem measure {i v} (hb : InForm b) : InForm (Block.measure b i v) := hb.withSecurity
theorem noteRepair (hb : InForm b) : InForm (Block.noteRepair b) := hb.updStore.measure
theorem needSpare {l} (hb : InForm b) : InForm (Block.needSpare b l) := .ite hb.raise hb
theorem flushDie {a} (hb : InForm b) : InForm (Block.flushDie b a) := .foldl (fun _ h0 _ => h0.evictCopy) hb

theorem freshDie {l} (hb : InForm b) : InForm (Block.freshDie b l) :=
    .foldl (fun _ h0 _ => h0.restartLocal) (InForm.withErrors (InForm.updChart (InForm.foldl (fun _ h0 _ => h0.setAccSet) (.foldl (fun
    _ h0 _ => h0.updBeam) hb.updLantern))))

theorem reseat {l site} (hb : InForm b) : InForm (Block.reseat b l site) :=
    .foldl (fun _ h0 _ => .ite h0 h0.setBeam) hb.updLantern.updSilent

theorem takeSpare {l sp} (hb : InForm b) : InForm (Block.takeSpare b l sp) := hb.reseat.updSilent.updLantern.noteRepair.raise

theorem retireBeam {l p} (hb : InForm b) : InForm (Block.retireBeam b l p) := by
  unfold Block.retireBeam
  dsimp only
  refine .ite hb ?_
  refine .ite (InForm.raise (InForm.foldl (fun _ h0 _ => h0.updBeam) hb.updBeam)) ?_
  refine .ite (InForm.dropMember (InForm.foldl (fun _ h0 _ => h0.updBeam) hb.updBeam)) ?_
  exact .foldl (fun _ h0 _ => h0.updBeam) hb.updBeam

theorem applyGuard {l} (hb : InForm b) : InForm (Block.applyGuard b l) := by
  unfold Block.applyGuard
  dsimp only
  split
  · exact hb
  · exact .ite hb.withPower.withPower.updLantern.reOp hb.withPower

theorem planGuard {l site g past} (hb : InForm b) : InForm (Block.planGuard b l site g past) := by
  unfold Block.planGuard
  dsimp only
  refine .ite (InForm.withPower (InForm.ite hb.withPower.withPower.updLantern.raise hb.withPower)) ?_
  refine .ite (InForm.applyGuard (InForm.ite hb.withPower.withPower.updLantern.raise hb.withPower)) ?_
  exact .ite hb.withPower.withPower.updLantern.raise hb.withPower

theorem replanSite {l site} (hb : InForm b) : InForm (Block.replanSite b l site) := .ite hb hb.planGuard
theorem replan {l} (hb : InForm b) : InForm (Block.replan b l) := hb.replanSite

theorem swapTo {l seat} (hb : InForm b) (hseat : ∀ c, InForm c → InForm (seat c)) : InForm (Block.swapTo b l seat) :=
    (hseat _ hb.drainStores.flushDie.freshDie).replan

theorem autoPromote {l} (hb : InForm b) : InForm (Block.autoPromote b l) := by
  unfold Block.autoPromote
  refine .ite ?_ hb
  split
  · exact hb.swapTo (fun _ h2 => h2.takeSpare)
  · exact hb.raise

theorem retirePending {l} (hb : InForm b) : InForm (Block.retirePending b l) :=
    .ite hb (InForm.autoPromote (InForm.noteRepair (InForm.foldl (fun _ h0 _ => h0.retireBeam) hb.updSilent)))

theorem measured {l slowdown n} (hb : InForm b) : InForm (Block.measured b l slowdown n) := hb.updLantern.withPower.replan.finishSts

theorem settle {l} (hb : InForm b) : InForm (Block.settle b l) := by
  unfold Block.settle
  dsimp only
  refine .ite hb ?_
  split
  · split
    · exact InForm.finishSts (InForm.updLantern (InForm.swapTo (InForm.applyGuard (InForm.retirePending (by
        split
        · exact hb.measured
        · exact hb))) (fun _ h2 => h2.takeSpare)))
    · exact InForm.swapTo (InForm.applyGuard (InForm.retirePending (by
        split
        · exact hb.measured
        · exact hb))) (fun _ h3 => h3.takeSpare)
  · refine .ite ?_ ?_
    · split
      · exact InForm.finishSts (InForm.updLantern (InForm.updLantern (InForm.freshDie (InForm.flushDie (InForm.drainStores
          (InForm.applyGuard (InForm.retirePending (by
            split
            · exact hb.measured
            · exact hb))))))))
      · exact InForm.updLantern (InForm.freshDie (InForm.flushDie (InForm.drainStores (InForm.applyGuard (InForm.retirePending (by
          split
          · exact hb.measured
          · exact hb))))))
    · exact InForm.applyGuard (InForm.retirePending (by
        split
        · exact hb.measured
        · exact hb))

/-! ### The operations of `ContextOps` -/

theorem closeRecord {j} (hb : InForm b) : InForm (Block.closeRecord b j) := .ite hb.poke.poke.updCtx.msi hb.poke.poke.updCtx

theorem joinAtom {r : JoinRes} {pa off w64 op x} (hr : InFormJoin r) : InFormJoin (r.atom pa off w64 op x) := by
  cases r with
  | ok b =>
    have hb : InForm b := hr
    unfold JoinRes.atom
    dsimp only
    split
    · exact hb
    · split
      next he => exact (hb.atomic.ok he).same
      next he => exact (hb.atomic.ok he).same
      · trivial
      next he => exact hb.atomic.error he
  | wait => trivial
  | poison b => exact hr
  | lost b => exact hr

theorem joinRecord {l j st d census alone} (hb : InForm b) : InFormJoin (b.joinRecord l j st d census alone) := by
  have h1 : ∀ (cs : List (Nat × Nat)) (r : JoinRes), InFormJoin r →
      InFormJoin (cs.foldl (fun (r : JoinRes) (c : Nat × Nat) => r.atom j.pa (32 + 8 * c.2) true .add c.1) r) := fun cs => by
    induction cs with
    | nil => exact fun _ h => h
    | cons x t ih => exact fun _ h => ih _ (joinAtom h)
  unfold Block.joinRecord
  extract_lets r1 r2
  have hr1 : InFormJoin r1 := h1 _ _ hb
  have hr2 : InFormJoin r2 := by
    dsimp only [r2]
    split
    · exact hr1
    · exact joinAtom hr1
  split
  next c he =>
    have hc : InForm c := (joinAtom hr2).ok he
    split
    · exact hc.closeRecord
    · exact hc
  · exact joinAtom hr2

theorem leave {l j st unreachable} (hb : InForm b) : InForm (Block.leave b l j st unreachable) := by
  unfold Block.leave
  dsimp only
  refine .ite (.ite hb.updRequest.groupsJoin.withRequests.raise hb.updRequest.groupsJoin.withRequests) ?_
  exact hb.updRequest.groupsJoin

theorem joinLeave {l j st d census} (hb : InForm b) : InFormOpt (b.joinLeave l j st d census) := by
  unfold Block.joinLeave
  split
  next he => exact InFormOpt.some (hb.joinRecord.ok he).leave
  · exact InFormOpt.none
  next he => exact InFormOpt.some (hb.joinRecord.poison he).extinguish.leave
  next he => exact InFormOpt.some (hb.joinRecord.lost he).leave

theorem freeHw {l h} (hb : InForm b) : InForm (Block.freeHw b l h) := by
  unfold Block.freeHw
  dsimp only
  exact InForm.settle (InForm.reOp (InForm.dropMarks (by
    split
    · exact InForm.unwatchLamp (by
        split
        · exact InForm.unwatchLamp (InForm.updLantern (InForm.freeHalves (InForm.foldl (fun _ h2 _ => .ite h2.updHalf h2) (.foldl (fun _ h2
            _ => h2.setAccSet) hb.withHws))))
        · exact InForm.updLantern (InForm.freeHalves (InForm.foldl (fun _ h2 _ => .ite h2.updHalf h2) (.foldl (fun _ h2 _ => h2.setAccSet)
            hb.withHws))))
    · split
      · exact InForm.unwatchLamp (InForm.updLantern (InForm.freeHalves (InForm.foldl (fun _ h2 _ => .ite h2.updHalf h2) (.foldl (fun _
          h2 _ => h2.setAccSet) hb.withHws))))
      · exact InForm.updLantern (InForm.freeHalves (InForm.foldl (fun _ h2 _ => .ite h2.updHalf h2) (.foldl (fun _ h2 _ =>
          h2.setAccSet) hb.withHws))))))

theorem pass {l slot} (hb : InForm b) : InForm (Block.pass b l slot) := hb.updLantern
theorem zeroGranules {l gs} (hb : InForm b) : InForm (Block.zeroGranules b l gs) := hb.updLantern

theorem endHold {t} (hb : InForm b) : InForm (Block.endHold b t) := by
  unfold Block.endHold
  split
  · exact hb.withHws
  · exact hb

theorem passTake {t} (hb : InForm b) : InForm (Block.passTake b t) := hb.endHold.pass
theorem dropRecord {t} (hb : InForm b) : InForm (Block.dropRecord b t) := InForm.passTake (InForm.ite hb.updCtx.raise hb)

theorem holdTake {t j r what access cause va gone} (hb : InForm b) (hgone : ∀ y0 c, InForm c → InForm (gone y0 c)) : InFormOpt
    (Block.holdTake b t j r what access cause va gone) := by
  unfold Block.holdTake
  dsimp only
  split
  · exact InFormOpt.none
  · split
    next d he1 => exact InFormOpt.some ((hb.setHw.holdFault.fst he1).same)
    next d n he1 => exact InFormOpt.some (hgone _ _ ((hb.setHw.holdFault.fst he1).endHold))

theorem holdAlone {t cause va} (hb : InForm b) : InForm (Block.holdAlone b t cause va) := by
  unfold Block.holdAlone
  dsimp only
  split
  · exact hb.endHold
  · split
    next d he1 => exact (hb.endHold.holdSlot.fst he1).same
    next d _ he1 => exact (hb.endHold.holdSlot.fst he1).dropRecord

theorem takeJoin {t j st d} (hb : InForm b) : InFormOpt (Block.takeJoin b t j st d) :=
    InFormOpt.map_form (fun _ h0 => h0.passTake) hb.joinLeave

theorem startProgram {t j r hd h} (hb : InForm b) : InForm (Block.startProgram b t j r hd h) := by
  unfold Block.startProgram
  dsimp only
  exact InForm.reOp (by
    split
    · exact InFormOpt.getD (InForm.watch (InForm.updRequest (InForm.foldl (fun _ h1 _ => h1.setAccSet)
        hb.passTake.zeroGranules.setHw))) (InForm.watchRefused (InForm.updRequest (InForm.foldl (fun _ h1 _ => h1.setAccSet)
        hb.passTake.zeroGranules.setHw)))
    · exact InForm.updRequest (InForm.foldl (fun _ h1 _ => h1.setAccSet) hb.passTake.zeroGranules.setHw))

theorem takeHeader {t j r} (hb : InForm b) : InFormOpt (Block.takeHeader b t j r) := by
  unfold Block.takeHeader
  dsimp only
  split
  · exact InFormOpt.none
  next _ _ _ he => exact (hb.translate.fst he).holdTake (fun n c h2 => InFormOpt.getD (InFormOpt.map_form (fun _ h2 => h2.pass)
    h2.joinLeave) hb)
  next _ pa x he =>
    split
    · exact InFormOpt.none
    next _ _ _ he1 => exact ((InForm.ite_fst (hb.translate.fst he) ((hb.translate.fst he).translate)).fst he1).holdTake (fun _ _ h3 =>
      InFormOpt.getD (InFormOpt.map_form (fun _ h3 => h3.pass) h3.joinLeave) hb)
    next _ _ x he1 =>
      refine InFormOpt.ite ((((InForm.ite_fst (hb.translate.fst he) ((hb.translate.fst he).translate)).fst he1).raise).takeJoin) ?_
      split
      · exact InFormOpt.none
      · exact InFormOpt.map_form (fun _ h3 => h3.extinguish) (((InForm.ite_fst (hb.translate.fst he) ((hb.translate.fst
          he).translate)).fst he1).takeJoin)
      · exact ((InForm.ite_fst (hb.translate.fst he) ((hb.translate.fst he).translate)).fst he1).takeJoin
      · exact (((InForm.ite_fst (hb.translate.fst he) ((hb.translate.fst he).translate)).fst he1).raise).takeJoin
      · split
        · exact ((InForm.ite_fst (hb.translate.fst he) ((hb.translate.fst he).translate)).fst he1).takeJoin
        · refine InFormOpt.ite InFormOpt.none ?_
          refine InFormOpt.ite (((InForm.ite_fst (hb.translate.fst he) ((hb.translate.fst he).translate)).fst he1).takeJoin) ?_
          split
          · exact InFormOpt.none
          · refine InFormOpt.ite ?_ ?_
            · refine InFormOpt.ite (InFormOpt.some ((((InForm.ite_fst (hb.translate.fst he) ((hb.translate.fst he).translate)).fst
                he1).homeRead).endHold)) ?_
              exact InFormOpt.none
            · split
              · exact InFormOpt.none
              · exact ((InForm.ite_fst (hb.translate.fst he) ((hb.translate.fst he).translate)).fst he1).takeJoin
              · refine InFormOpt.ite (((InForm.ite_fst (hb.translate.fst he) ((hb.translate.fst he).translate)).fst he1).takeJoin) ?_
                exact InFormOpt.some ((((InForm.ite_fst (hb.translate.fst he) ((hb.translate.fst he).translate)).fst
                  he1).homeRead).startProgram)

theorem takeHead {t} (hb : InForm b) : InFormOpt (b.takeHead t) := by
  have ht {l c va b1 tr} (he : ((b.homeRead l).homeRead (l + 64)).translate t.l c va 4 false = (b1, tr)) : InForm b1 :=
    hb.homeRead.homeRead.translate.fst he
  unfold Block.takeHead
  -- The translation stays opaque: the kernel would evaluate it on the symbolic record.
  obtain ⟨tr, htr⟩ : ∃ tr, tr = Block.translate := ⟨_, rfl⟩
  rw [← htr] at ht ⊢
  extract_lets q x at_ low
  split
  · exact InFormOpt.none
  · exact InFormOpt.ite (InFormOpt.some hb.endHold.extinguish) InFormOpt.none
  · exact InFormOpt.some (InForm.passTake (InForm.ite hb.raise hb))
  · extract_lets r mask named j err
    refine InFormOpt.ite (InFormOpt.ite (InFormOpt.ite hb.takeJoin InFormOpt.none) InFormOpt.none) ?_
    refine InFormOpt.ite (InFormOpt.some hb.passTake) (InFormOpt.ite (InFormOpt.some hb.dropRecord) ?_)
    split
    · exact InFormOpt.none
    next he =>
      exact InFormOpt.ite (InFormOpt.some (ht he).holdAlone) ((ht he).holdTake fun _ _ h => h.dropRecord)
    next he =>
      have h1 := ht he
      refine InFormOpt.ite (InFormOpt.some h1.dropRecord) ?_
      cases err with
      | some e =>
        dsimp only
        split
        next hj => exact InFormOpt.some (h1.joinRecord.ok hj).passTake
        · exact InFormOpt.none
        next hj => exact InFormOpt.some (h1.joinRecord.poison hj).extinguish.raise.passTake
        next hj => exact InFormOpt.some (h1.joinRecord.lost hj).raise.passTake
      | none => exact InFormOpt.ite (InFormOpt.some h1.passTake) (InFormOpt.ite InFormOpt.none (InFormOpt.ite h1.takeJoin
        h1.takeHeader))

theorem dropCheck {id} (hb : InForm b) : InForm (Block.dropCheck b id) := by
  unfold Block.dropCheck
  dsimp only
  split
  · exact hb
  · split
    · exact InForm.endReq (InForm.ite hb.same.boardDel hb.same)
    · exact .ite hb.same.boardDel hb.same

theorem verdict {id i} (hb : InForm b) : InForm (Block.verdict b id i) := hb.same
theorem unresolved {x} (hb : InForm b) : InForm (Block.unresolved b x) := hb.verdict.raise.headOfWatch.headOfWatch

theorem assignCheck {x} (hb : InForm b) : InForm (Block.assignCheck b x) := by
  unfold Block.assignCheck
  dsimp only
  refine .ite ?_ ?_
  · split
    · exact hb.withChecks
    · exact hb.dropCheck
  · split
    · exact hb.withChecks
    · exact hb.unresolved

theorem startCheck {l x held} (hb : InForm b) : InFormOpt (Block.startCheck b l x held) := by
  unfold Block.startCheck
  dsimp only
  split
  · exact InFormOpt.none
  next _ _ _ he =>
    split
    · exact InFormOpt.none
    · split
      next d he2 => exact InFormOpt.some (((((hb.translate.fst he).setHw).holdFault).fst he2).same)
      next d _ he2 => exact InFormOpt.some ((((((hb.translate.fst he).setHw).holdFault).fst he2).withHws).dropCheck)
  next _ _ x he =>
    split
    · exact InFormOpt.none
    next _ _ _ he1 =>
      split
      · exact InFormOpt.none
      · split
        next d he3 => exact InFormOpt.some ((((((InForm.ite_fst (hb.translate.fst he) ((hb.translate.fst he).translate)).fst
          he1).setHw).holdFault).fst he3).same)
        next d _ he3 => exact InFormOpt.some (((((((InForm.ite_fst (hb.translate.fst he) ((hb.translate.fst he).translate)).fst
          he1).setHw).holdFault).fst he3).withHws).dropCheck)
    next _ _ x he1 =>
      split
      · exact InFormOpt.none
      · exact InFormOpt.some (InForm.dropCheck (by
          split
          · exact hb.withHws
          · exact hb))
      · refine InFormOpt.ite ?_ ?_
        · exact InFormOpt.some (InForm.dropCheck (by
            split
            · exact hb.withHws
            · exact hb))
        · split
          · exact InFormOpt.none
          · refine InFormOpt.ite ?_ ?_
            · refine InFormOpt.ite ?_ InFormOpt.none
              exact InFormOpt.some (by
                split
                · exact ((InForm.ite_fst (hb.translate.fst he) ((hb.translate.fst he).translate)).fst he1).withHws
                · exact ((InForm.ite_fst (hb.translate.fst he) ((hb.translate.fst he).translate)).fst he1).same)
            · exact InFormOpt.some (InForm.reOp (InForm.foldl (fun _ h4 _ => h4.setAccSet) (InForm.setHw (InForm.zeroGranules (by
                split
                · exact ((InForm.ite_fst (hb.translate.fst he) ((hb.translate.fst he).translate)).fst he1).withHws
                · exact ((InForm.ite_fst (hb.translate.fst he) ((hb.translate.fst he).translate)).fst he1).same)))))

theorem takeCheck {l} (hb : InForm b) : InForm (Block.takeCheck b l) := by
  unfold Block.takeCheck
  dsimp only
  refine .ite hb ?_
  split
  · exact hb
  · exact .ite (InFormOpt.getD hb.startCheck hb) hb.dropCheck

theorem takeFirst {l is} (hb : InForm b) : InForm (Block.takeFirst b l is) := by
  induction is generalizing b with
  | nil => exact hb.takeCheck
  | cons i t ih =>
    unfold Block.takeFirst
    split
    · exact ih hb
    · split
      next he => exact hb.takeHead _ he
      · exact ih hb

/-! ### The operations of `Contexts` -/

theorem execCreate {s role c} (hb : InForm s.blk) : Answers (Machine.execCreate role c s) := by
  unfold Machine.execCreate
  refine .run ?_
  dsimp only
  refine hb.cmd (fun _ h1 => ?_)
  refine .ite h1.refuse ?_
  refine .ite h1.refuse ?_
  refine .ite h1.refuse ?_
  split
  · exact h1
  · exact h1.refuse.raise
  · exact .ite h1.refuse (.ite h1.refuse (.ite h1.refuse h1.setCtx.done))

theorem execRegisterQueue {s role c d} (hb : InForm s.blk) : Answers (Machine.execRegisterQueue role c d s) := by
  unfold Machine.execRegisterQueue
  refine .run ?_
  dsimp only
  refine hb.cmd (fun _ h1 => ?_)
  refine .ite h1.refuse ?_
  refine .ite h1.refuse ?_
  refine .ite h1.refuse ?_
  split
  · exact h1
  · exact h1.refuse
  · refine .ite h1.refuse ?_
    refine .ite h1.refuse ?_
    split
    · exact h1
    · exact h1.refuse
    · exact h1.refuse
    · split
      · exact h1.refuse
      · refine .ite h1.refuse ?_
        split
        · exact h1.watchRefused.refuse
        · exact InForm.done (InForm.setQueue (InForm.foldl (fun _ h6 _ => InForm.updLantern (InFormOpt.getD h6.watch h6)) h1))

theorem dropQueue {q} (hb : InForm b) : InForm (Block.dropQueue b q) := by
  unfold Block.dropQueue
  dsimp only
  exact InForm.setQueue (by
    split
    · exact .foldl (fun _ h1 _ => h1.unwatchLamp) (.foldl (fun _ h1 _ => h1.updLantern) hb)
    · exact .foldl (fun _ h1 _ => h1.updLantern) hb)

theorem execUnregisterQueue {s role q} (hb : InForm s.blk) : Answers (Machine.execUnregisterQueue role q s) :=
    .run (hb.cmd (fun _ h1 => .ite h1.refuse (.ite h1.refuse (.ite h1.dropQueue.done h1.refuse))))

theorem dropChecks {c} (hb : InForm b) : InForm (Block.dropChecks b c) := .foldl (fun _ h0 _ => h0.dropCheck) hb

theorem endSlotHold {l i s} (hb : InForm b) : InForm (b.endSlotHold l i s) := by
  unfold Block.endSlotHold
  -- The width of a word stays opaque: the kernel would evaluate the symbolic record.
  obtain ⟨n, hn⟩ : ∃ n, n = (2:ℕ)^512 := ⟨_, rfl⟩
  rw [← hn]
  extract_lets q t'
  split
  · exact hb.dropRecord
  · extract_lets r e
    split
    next he =>
      have h1 := hb.translate.fst he
      split
      next hj => exact (h1.joinRecord.ok hj).passTake
      · exact h1.dropRecord
    next he => exact (hb.translate.fst he).dropRecord

theorem endSlotHolds {c} (hb : InForm b) : InForm (Block.endSlotHolds b c) :=
    .foldl (fun _ h0 _ => .foldl (fun _ h1 _ => .ite h1.endSlotHold h1) h0) hb

theorem retryJoins {c} (hb : InForm b) : InForm (Block.retryJoins b c) := .foldl (fun _ h0 _ => h0.updHw) hb

theorem destroyCtx {c} (hb : InForm b) : InForm (Block.destroyCtx b c) := by
  unfold Block.destroyCtx
  dsimp only
  refine .ite (InForm.pushWithdrawal (InForm.updCtx (InForm.retryJoins (InForm.endCtx (InForm.updCtx (InForm.foldl (fun _ h0 _ =>
    h0.dropQueue) hb.endSlotHolds.dropChecks)))))) ?_
  exact InForm.updCtx (InForm.retryJoins (InForm.endCtx (InForm.updCtx (InForm.foldl (fun _ h0 _ => h0.dropQueue)
    hb.endSlotHolds.dropChecks))))

theorem execDestroy {s role c} (hb : InForm s.blk) : Answers (Machine.execDestroy role c s) :=
    .run (hb.cmd (fun _ h1 => .ite h1.refuse (.ite h1.refuse (.ite h1.refuse h1.destroyCtx.accept.updCtx))))

theorem execDestroyDone {s c} (hb : InForm s.blk) : Answers (Machine.execDestroyDone c s) := by
  unfold Machine.execDestroyDone
  refine .run ?_
  dsimp only
  refine .ite hb ?_
  exact InForm.finishSts (InForm.updCtx (InForm.withRequests (InForm.foldl (fun _ h0 _ => .ite h0.unbind.setGroup h0) hb)))

theorem execWatchNotice {s l slot} (hb : InForm s.blk) : Answers (Machine.execWatchNotice l slot s) := by
  unfold Machine.execWatchNotice
  refine .run ?_
  dsimp only
  split
  · exact hb
  · refine .ite hb ?_
    split
    · exact hb
    · exact hb.updLantern.extinguish
    · exact hb.updLantern
    · exact .ite hb.homeRead.updLantern.raise hb.homeRead.updLantern

theorem execTake {s l} (hb : InForm s.blk) : Answers (Machine.execTake l s) := .run (.ite hb (.ite hb.takeFirst (.ite hb.takeCheck hb)))

theorem execQueueHeadWait {s l slot} (hb : InForm s.blk) : Answers (Machine.execQueueHeadWait l slot s) := by
  unfold Machine.execQueueHeadWait
  refine .run ?_
  split
  · exact .ite hb hb.updLantern
  · exact hb

theorem joinHw {l h pa st d} (hb : InForm b) : InForm (Block.joinHw b l h pa st d) := by
  unfold Block.joinHw
  dsimp only
  split
  next c he =>
    split
    · exact ((hb.joinLeave _ he).freeHw).pass
    · exact (hb.joinLeave _ he).freeHw
  · exact hb

theorem joinLost {l h st} (hb : InForm b) : InForm (Block.joinLost b l h st) := by
  unfold Block.joinLost
  dsimp only
  split
  · exact hb.leave.freeHw.pass
  · exact hb.leave.freeHw

theorem endCheck {l h id} (hb : InForm b) : InForm (Block.endCheck b l h id) := .ite hb (.ite hb.drainStores.freeHw hb.drainStores)

theorem execJoin {s l h} (hb : InForm s.blk) : Answers (Machine.execJoin l h s) := by
  unfold Machine.execJoin
  refine .run ?_
  dsimp only
  split
  · exact hb.endCheck
  · refine .ite hb.joinHw ?_
    refine .ite hb ?_
    split
    · refine .ite hb.drainStores ?_
      split
      · exact hb.drainStores
      next _ _ _ he3 =>
        refine .ite ((hb.drainStores.translate.fst he3).joinLost) ?_
        split
        next _ he4 => exact ((((hb.drainStores.translate.fst he3).updHw).holdFault).fst he4).same
        next _ _ he4 => exact ((((hb.drainStores.translate.fst he3).updHw).holdFault).fst he4).joinLost
      next _ _ x he3 => exact .ite (((hb.drainStores.translate.fst he3).raise).joinLost) ((hb.drainStores.translate.fst he3).joinHw)
    · exact hb.drainStores
  · exact hb

theorem execAbandon {s l h} (hb : InForm s.blk) : Answers (Machine.execAbandon l h s) := by
  unfold Machine.execAbandon
  refine .run ?_
  dsimp only
  refine .ite hb ?_
  split
  · exact hb
  · exact .ite hb.homeRead.updHw hb.homeRead.updHw.endReq.stopGroups

theorem resumeSlot {l i gen} (hb : InForm b) : InForm (Block.resumeSlot b l i gen) := by
  unfold Block.resumeSlot
  dsimp only
  split
  · exact hb
  · split
    · exact hb
    · refine .ite hb ?_
      exact .ite (InForm.dropRecord (InForm.ite hb.raise hb)) (InFormOpt.getD hb.updLantern.takeHead hb.updLantern)

theorem resumeHw {l h gen} (hb : InForm b) : InForm (Block.resumeHw b l h gen) := by
  unfold Block.resumeHw
  dsimp only
  split
  · refine .ite hb ?_
    refine .ite ?_ ?_
    · refine .ite (InForm.endReq (InForm.updHw (InForm.ite hb.raise hb))) ?_
      exact InForm.updHw (InForm.updHw (InForm.ite hb.raise hb))
    · refine .ite ?_ ?_
      · refine .ite (InForm.joinLost (InForm.updHw (InForm.ite hb.raise hb))) ?_
        exact InForm.updHw (InForm.updHw (InForm.ite hb.raise hb))
      · refine .ite ?_ ?_
        · refine .ite (InForm.updHw (InForm.updHw (InForm.ite hb.raise hb))) ?_
          split
          · exact InFormOpt.getD (InForm.startCheck (InForm.updHw (InForm.ite hb.raise hb))) (InForm.endHold (InForm.updHw (InForm.ite
              hb.raise hb)))
          · exact InForm.endHold (InForm.updHw (InForm.ite hb.raise hb))
        · refine .ite (InForm.endHold (InForm.updHw (InForm.ite hb.raise hb))) ?_
          refine .ite (InFormOpt.getD (InForm.takeHead (InForm.updHw (InForm.ite hb.raise hb))) (InForm.endHold (InForm.updHw
            (InForm.ite hb.raise hb)))) ?_
          refine .ite (InForm.dropRecord (InForm.updHw (InForm.ite hb.raise hb))) ?_
          exact InForm.updHw (InForm.updHw (InForm.ite hb.raise hb))
  · exact hb

theorem execChartResume {s l c} (hb : InForm s.blk) : Answers (Machine.execChartResume l c s) := by
  unfold Machine.execChartResume
  refine .run ?_
  dsimp only
  refine .ite hb ?_
  split
  · exact hb
  · refine .ite ?_ ?_
    · exact .foldl (fun _ h1 _ => by
        split
        · exact .ite h1.resumeSlot h1
        · exact h1) (.foldl (fun _ h1 _ => .ite h1.resumeHw h1) hb.homeRead.updChart)
    · split
      · exact InForm.unwatchLamp (InForm.updChart (InForm.foldl (fun _ h2 _ => by
          split
          · exact .ite h2.resumeSlot h2
          · exact h2) (.foldl (fun _ h2 _ => .ite h2.resumeHw h2) hb.homeRead.updChart)))
      · exact InForm.updChart (InForm.foldl (fun _ h2 _ => by
          split
          · exact .ite h2.resumeSlot h2
          · exact h2) (.foldl (fun _ h2 _ => .ite h2.resumeHw h2) hb.homeRead.updChart))

theorem execFaultBatchTimer {s c} (hb : InForm s.blk) : Answers (Machine.execFaultBatchTimer c s) := .run hb.closeBatch
theorem execFaultRingRoom {s c} (hb : InForm s.blk) : Answers (Machine.execFaultRingRoom c s) := .run hb.flushFaults

theorem withdrawCmd {c range ack} (hb : InForm b) : InForm (Block.withdrawCmd b c range ack) :=
    .ite hb.refuse (.ite hb.refuse (.ite hb.refuse hb.pushWithdrawal.done))

theorem execWithdraw {s role c va length ack} (hb : InForm s.blk) : Answers (Machine.execWithdraw role c va length ack s) :=
    .run (hb.cmd (fun _ h1 => h1.withdrawCmd))

theorem execWithdrawAll {s role c ack} (hb : InForm s.blk) : Answers (Machine.execWithdrawAll role c ack s) :=
    .run (hb.cmd (fun _ h1 => h1.withdrawCmd))

theorem execWithdrawAck {s seq} (hb : InForm s.blk) : Answers (Machine.execWithdrawAck seq s) := by
  unfold Machine.execWithdrawAck
  refine .run ?_
  dsimp only
  split
  · exact hb
  · refine .ite hb ?_
    split
    · exact hb.withWithdrawals.updCtx.tryDrops.admitDestroys
    · split
      · exact hb.raise.withWithdrawals.updCtx.tryDrops.admitDestroys
      · split
        next c he3 => exact ((((hb.write.ok he3).withWithdrawals).updCtx).tryDrops).admitDestroys
        · exact hb
        next _ c he3 => exact (((((hb.write.error he3).raise).withWithdrawals).updCtx).tryDrops).admitDestroys

theorem execWithdrawLimit {s seq} (hb : InForm s.blk) : Answers (Machine.execWithdrawLimit seq s) := by
  unfold Machine.execWithdrawLimit
  refine .run ?_
  dsimp only
  split
  · exact hb
  · refine .ite hb ?_
    exact .foldl (fun _ h1 _ => InForm.withSinkers (InForm.foldl (fun _ h2 _ => h2.endReq) h1)) hb.withWithdrawals

/-! ### The operations of `Links` -/

theorem persistValue {obj v} (hb : InForm b) : InForm (Block.persistValue b obj v) := hb.withStore

theorem persistWrite {obj v now effect} (hb : InForm b) (heffect : ∀ c, InForm c → InForm (effect c)) : InForm (Block.persistWrite b
    obj v now effect) := by
  unfold Block.persistWrite
  dsimp only
  refine .ite (((heffect _ (.ite hb.withStore hb)).raise).refuse) ?_
  exact ((heffect _ (.ite hb.withStore hb)).persistValue).withCmds

theorem writePart {part} (hb : InForm b) : InForm (b.writePart part) := by
  unfold Block.writePart
  split
  · exact hb.refuse
  · exact .ite hb.refuse (hb.persistWrite (fun _ h => h))

theorem execPartNumberWrite {s role part} (hb : InForm s.blk) : Answers (Machine.execPartNumberWrite role part s) :=
    .run (hb.cmd (fun _ h1 => h1.writePart))

theorem execFlitReplay {s link dir ok} (hb : InForm s.blk) : Answers (Machine.execFlitReplay link dir ok s) :=
    .run (.ite hb (.ite hb.setLink hb.setLink))

theorem holdLink {i} (hb : InForm b) : InForm (Block.holdLink b i) := hb.noteLit.updLink

theorem execRetrain {s link laneErrors} (hb : InForm s.blk) : Answers (Machine.execRetrain link laneErrors s) :=
    .run (.ite hb hb.holdLink)

theorem sidebandDown {i} (hb : InForm b) : InForm (Block.sidebandDown b i) := .ite hb hb.updLink.raise.tearGroups

theorem trainLink {i out} (hb : InForm b) : InForm (b.trainLink i out) := by
  unfold Block.trainLink
  extract_lets old full st b0 b1 b2 b3 b4
  have h0 : InForm b0 := hb.updLink
  have h1 : InForm b1 := .ite h0.noteRepair h0
  have h2 : InForm b2 := .ite h1.raise h1
  have h3 : InForm b3 := .ite h2.raise.setAlert h2
  have h4 : InForm b4 := .ite h3.clearAlert h3
  exact .ite h4 h4.sidebandDown

theorem execLinkTrainingDone {s link out} (hb : InForm s.blk) : Answers (Machine.execLinkTrainingDone link out s) := by
  unfold Machine.execLinkTrainingDone
  refine .run ?_
  dsimp only
  refine .ite hb ?_
  refine .ite (InForm.suspect (InForm.setAlert (InForm.raise (InForm.foldl (fun _ h0 _ => h0.flashTravel) hb.trainLink.updLink)))) ?_
  exact .foldl (fun _ h0 _ => h0.flashTravel) hb.trainLink.updLink

theorem execSidebandLaneFail {s link dir} (hb : InForm s.blk) : Answers (Machine.execSidebandLaneFail link dir s) :=
    .run (.ite hb (.ite hb.setLink (.ite hb.setLink hb.sidebandDown)))

theorem execLinkRetrain {s role link} (hb : InForm s.blk) : Answers (Machine.execLinkRetrain role link s) :=
    .run (hb.cmd (fun _ h1 => .ite h1.refuse (.ite h1.refuse (.ite h1.refuse h1.holdLink.done))))

/-! ### The operations of `PortOps` -/

theorem dmaRead {home pa n} (hb : InForm b) : InFormRes (fun _ => b) (fun r => r.1) (b.dmaRead home pa n) := by
  refine .map (q := fun (r : Block × List Byte × Bool) => r.1) (.foldl (fun _ hr _ => ?_) (show InForm b from hb)) (fun _ h => h)
  split
  · exact hr
  next c bs p =>
    have hc : InForm c := hr
    split
    · exact hb
    · split
      · exact hb
      next he =>
        split at he
        · exact (hc.readOnce.ok he).same
        · obtain ⟨_, _, he⟩ := exceptMap_eq_ok he
          exact hc.fst he

theorem dmaWrite {home pa bs} (hb : InForm b) : InFormRes (fun r => r.2) (fun c => c) (Block.dmaWrite b home pa bs) := by
  unfold Block.dmaWrite
  dsimp only
  exact InFormRes.foldl (fun _ h0 _ => by
    split
    next e => exact h0
    next c =>
      split
      · exact h0
      · exact InFormRes.ite h0.write h0.putUnder) hb

theorem dmaWord {p pa n} (hb : InForm b) : InForm (Block.dmaWord b p pa n).1 := by
  unfold Block.dmaWord
  split
  · exact hb
  · exact hb.raise
  next a _ => exact hb

theorem portPoison (hb : InForm b) : InForm (Block.portPoison b) := hb.withErrors

theorem region {p key pd va len perm} (hb : InForm b) : InForm (Block.region b p key pd va len perm).1 := by
  unfold Block.region
  dsimp only
  refine .ite_fst hb ?_
  split
  · exact .ite_fst hb hb
  · refine .ite_fst hb ?_
    split
    next fst _ _ => exact .ite_fst hb.updPort hb.updPort
    · exact hb.portPoison.raise
    · exact hb
    · exact hb
    next a _ => exact hb

theorem bufRead {p key pd va len perm} (hb : InForm b) : InForm (Block.bufRead b p key pd va len perm).1 := by
  unfold Block.bufRead
  refine .ite_fst hb ?_
  split
  · exact hb
  next c st he => exact (hb.region.fst he).same
  next c _ _ he =>
    refine .ite_fst hb ?_
    split
    next e _ => exact (hb.region.fst he).same
    next d fst he1 => exact (((hb.region.fst he).dmaRead).ok he1).portPoison
    next d _ he1 => exact (((hb.region.fst he).dmaRead).ok he1).same

theorem bufWrite {p key pd va bs perm} (hb : InForm b) : InForm (Block.bufWrite b p key pd va bs perm).1 := by
  unfold Block.bufWrite
  refine .ite_fst hb ?_
  split
  · exact hb
  next c st he => exact (hb.region.fst he).same
  next c _ _ he =>
    refine .ite_fst hb ?_
    split
    next e d he1 => exact (((hb.region.fst he).dmaWrite).error he1).same
    next d he1 => exact (((hb.region.fst he).dmaWrite).ok he1).same

theorem owe {p o} (hb : InForm b) : InForm (Block.owe b p o) := hb.updPort.payOwed
theorem updPq {p eth i f} (hb : InForm b) : InForm (Block.updPq b p eth i f) := hb.updPort

theorem loadPq {p eth i} (hb : InForm b) : InForm (Block.loadPq b p eth i) := by
  unfold Block.loadPq
  dsimp only
  refine .ite hb ?_
  split
  next c _ he => exact (hb.dmaWord.fst he).updPq
  next c he => exact (hb.dmaWord.fst he).same

theorem updCq {p i f} (hb : InForm b) : InForm (Block.updCq b p i f) := hb.updPort

theorem loadCq {p i} (hb : InForm b) : InForm (Block.loadCq b p i) := by
  unfold Block.loadCq
  refine .ite hb ?_
  split
  next c _ he => exact (hb.dmaWord.fst he).updCq
  next c he => exact (hb.dmaWord.fst he).same

theorem pushWc {p i w} (hb : InForm b) : InForm (Block.pushWc b p i w).1 := by
  unfold Block.pushWc
  dsimp only
  split
  · exact .ite_fst hb.updPort hb.loadCq
  · exact .ite_fst hb.loadCq (.ite_fst hb.loadCq hb.loadCq.updCq.owe)

theorem pushAll_ {p cq ws} (hb : InForm b) : InForm (Block.pushAll_ b p cq ws).1 := .foldl_fst (fun _ h0 _ => h0.pushWc) hb

theorem flushPq {p eth i} (hb : InForm b) : InForm (b.flushPq p eth i).1 := by
  unfold Block.flushPq
  -- The 32-bit difference of the counters stays opaque: the kernel would count it out.
  obtain ⟨ahead, ha⟩ : ∃ f, f = ahead32 := ⟨_, rfl⟩
  rw [← ha]
  extract_lets q
  split
  · exact hb
  · exact hb.updPq.pushAll_.pushAll_

theorem qpToError {p i} (hb : InForm b) : InForm (Block.qpToError b p i).1 := by
  unfold Block.qpToError
  dsimp only
  split
  · exact hb
  · exact .ite_fst hb hb.updPq.owe.flushPq

theorem overruns {p n seen cqs} (hb : InForm b) : InForm (Block.overruns p n seen cqs b) := by
  induction n generalizing b seen cqs with
  | zero => exact hb
  | succ n ih =>
    cases cqs with
    | nil => exact hb
    | cons cq t => exact .ite (ih hb) (ih (.foldl_fst (fun _ h _ => .ite_fst h.loadPq.qpToError h.loadPq) hb.raise))

theorem qpError {p i} (hb : InForm b) : InForm (Block.qpError b p i) := hb.qpToError.overruns
theorem flushQueue {p eth i} (hb : InForm b) : InForm (Block.flushQueue b p eth i) := hb.flushPq.overruns
theorem complete {p cq w} (hb : InForm b) : InForm (Block.complete b p cq w) := .ite hb.pushWc.overruns hb.pushWc

theorem wcEnd {p cq signal w} (hb : InForm b) : InForm (Block.wcEnd b p cq signal w) :=
    .ite (InForm.qpError (InForm.ite hb.complete hb)) (.ite hb.complete hb)

theorem loadPost {b0 p i} (hb : InForm b0) : InForm (Block.loadPost b0 p i) := by
  unfold Block.loadPost
  dsimp only
  refine .ite hb.updPort ?_
  split
  next c he => exact (hb.updPort.dmaWord.fst he).same
  next c _ he =>
    refine .ite ((hb.updPort.dmaWord.fst he).updPort) ?_
    refine .ite hb.updPort ?_
    split
    · exact (hb.updPort.dmaWord.fst he).updPort
    · exact InForm.updPort (InFormOpt.getD ((hb.updPort.dmaWord.fst he).watch) ((hb.updPort.dmaWord.fst he).watchRefused))

theorem portResume {p} (hb : InForm b) : InForm (Block.portResume b p) :=
    .foldl (fun _ h0 _ => h0.complete) (InForm.updPort (InForm.foldl (fun _ h0 _ => .ite h0.loadPost h0) hb.payOwed))

theorem dropPost {p i} (hb : InForm b) : InForm (Block.dropPost b p i) := by
  unfold Block.dropPost
  dsimp only
  split
  · exact hb.updPort
  · exact .ite hb.updPort hb.updPort.unwatch

theorem postTake {p i kind go} (hb : InForm b) (hgo : ∀ c, InForm c → ∀ y1 y2, InForm (go c y1 y2)) : InForm (Block.postTake b p i kind
    go) := by
  unfold Block.postTake
  dsimp only
  split
  · exact hb
  · refine .ite hb ?_
    split
    · exact hb
    · refine .ite hb ?_
      refine .ite hb ?_
      split
      next c he2 => exact (hb.dmaWord.fst he2).updPort
      next c _ he2 => exact .ite ((hb.dmaWord.fst he2).updPort) (.ite hb (hgo _ ((hb.dmaWord.fst he2).updPort) _ _))

theorem post {p eth recv i prod} (hb : InForm b) : InForm (Block.post b p eth recv i prod) :=
    .ite hb.loadPq.updPq.flushQueue hb.loadPq.updPq

theorem wireOut {p o} (hb : InForm b) : InForm (Block.wireOut b p o) := hb.updPort

/-! ### The operations of `Tiers` -/

theorem execRegionAdd {s role d base n c policy} (hb : InForm s.blk) : Answers (Machine.execRegionAdd role d base n c policy s) := by
  unfold Machine.execRegionAdd
  refine .run ?_
  dsimp only
  refine hb.cmd (fun _ h1 => ?_)
  split
  · refine .ite h1.refuse ?_
    split
    · exact h1.refuse
    · refine .ite h1.refuse ?_
      refine .ite h1.refuse ?_
      refine .ite h1.refuse ?_
      refine .ite (InForm.done (InForm.ite (InForm.foldl (fun _ h4 _ => h4.updBerth) h1.updDomain) h1.updDomain)) ?_
      exact InForm.checkWaits (InForm.queueMoves (InForm.addWait (InForm.accept (InForm.ite (InForm.foldl (fun _ h4 _ => h4.updBerth)
        h1.updDomain) h1.updDomain))))
  · exact h1.refuse

theorem execRegionRemove {s role r} (hb : InForm s.blk) : Answers (Machine.execRegionRemove role r s) := by
  unfold Machine.execRegionRemove
  refine .run ?_
  dsimp only
  refine hb.cmd (fun _ h1 => ?_)
  split
  · exact h1.refuse
  · exact .ite h1.refuse (InForm.done (InForm.updDomain (InForm.foldl (fun _ h2 _ => h2.updBerth) h1)))

theorem vacate {n} (hb : InForm b) : InForm (Block.vacate b n) := by
  unfold Block.vacate
  dsimp only
  split
  · exact hb
  · exact hb.cancelMove.setBerth.freeFrame
  · exact hb.cancelMove.setBerth.freeFrame
  · exact hb.cancelMove.setBerth.freeFrame.updStream
  · exact .ite hb.cancelMove.setBerth.retireNow hb.cancelMove.setBerth

theorem execReleaseBerths {s role base n} (hb : InForm s.blk) : Answers (Machine.execReleaseBerths role base n s) := by
  unfold Machine.execReleaseBerths
  refine .run ?_
  dsimp only
  refine hb.cmd (fun _ h1 => ?_)
  split
  · exact h1.refuse
  · exact .ite h1.refuse (.ite hb (InForm.startQueued (InForm.done (InForm.foldl (fun _ h2 _ => h2.vacate) h1))))

theorem unfail {n} (hb : InForm b) : InForm (Block.unfail b n) := hb.updDomain

theorem execReload {s role base n} (hb : InForm s.blk) : Answers (Machine.execReload role base n s) := by
  unfold Machine.execReload
  refine .run ?_
  dsimp only
  refine hb.cmd (fun _ h1 => ?_)
  split
  · exact h1.refuse
  · exact .ite h1.refuse (InForm.done (InForm.foldl (fun _ h2 _ => h2.vacate.unfail) h1))

theorem execBerthQuery {s role pa} (hb : InForm s.blk) : Answers (Machine.execBerthQuery role pa s) := by
  unfold Machine.execBerthQuery
  refine .run ?_
  refine hb.cmd (fun _ h1 => ?_)
  split
  · exact h1.refuse
  · exact h1.done

theorem execStreamAdd {s role pa} (hb : InForm s.blk) : Answers (Machine.execStreamAdd role pa s) := by
  unfold Machine.execStreamAdd
  refine .run ?_
  dsimp only
  refine hb.cmd (fun _ h1 => ?_)
  refine .ite h1.refuse ?_
  split
  · exact hb
  · exact h1.refuse
  · refine .ite h1.refuse ?_
    refine .ite h1.refuse ?_
    refine .ite h1.refuse ?_
    split
    · exact hb
    · exact h1.refuse
    · refine .ite h1.refuse ?_
      refine .ite h1.refuse ?_
      refine .ite h1.refuse ?_
      refine .ite h1.refuse ?_
      split
      · exact h1.refuse
      · exact h1.updDomain.accept.addWait.checkWaits

theorem execStreamRemove {s role num} (hb : InForm s.blk) : Answers (Machine.execStreamRemove role num s) := by
  unfold Machine.execStreamRemove
  refine .run ?_
  dsimp only
  refine hb.cmd (fun _ h1 => ?_)
  split
  · exact h1.refuse
  · refine .ite h1.refuse ?_
    refine .ite hb ?_
    exact InForm.checkWaits (InForm.addWait (InForm.foldl (fun _ h2 _ => h2.freeFrame) (InForm.accept (InForm.updDomain (InForm.foldl
      (fun _ h2 _ => h2.returnLayer) h1)))))

theorem execWaitstream {s l h w} (hb : InForm s.blk) : Answers (Machine.execWaitstream l h w s) := by
  unfold Machine.execWaitstream
  refine .run ?_
  dsimp only
  refine hb.issue (fun _ h1 => ?_)
  refine h1.withFoot (fun _ h2 _ => ?_)
  split
  · exact h2.exc
  · split
    next e he3 => exact (h2.ownLine.error he3).memErr
    next e v poison he3 =>
      refine .ite ((h2.ownLine.ok he3).poisonHit) ?_
      refine .ite ((h2.ownLine.ok he3).endReq) ?_
      refine .ite ((h2.ownLine.ok he3).endReq) ?_
      refine .ite ((h2.ownLine.ok he3).exc) ?_
      refine .ite ((((h2.ownLine.ok he3).updStream).syncStream).endReq) ?_
      refine .ite ((((h2.ownLine.ok he3).updStream).syncStream).advance) ?_
      exact (((h2.ownLine.ok he3).updStream).syncStream).updHw

theorem streamErr {t n clean} (hb : InForm b) : InForm (Block.streamErr b t n clean) := by
  unfold Block.streamErr
  dsimp only
  refine .ite hb ?_
  refine .ite hb.setBerth ?_
  exact .ite (InForm.raise (InForm.setBerth (InForm.foldl (fun _ h0 _ => h0.putFrame) hb))) hb.setBerth.raise

theorem windowBerth {num n} (hb : InForm b) : InForm (Block.windowBerth b num n) := by
  unfold Block.windowBerth
  dsimp only
  split
  · exact hb
  · split
    · exact hb
    · exact .ite hb.copyFrame.setBerth.updStream hb

theorem execLayerResident {s d num layer errs} (hb : InForm s.blk) : Answers (Machine.execLayerResident d num layer errs s) := by
  unfold Machine.execLayerResident
  refine .run ?_
  dsimp only
  split
  · exact hb
  · refine .ite hb ?_
    refine .ite (InForm.failWaits (InForm.updStream (InForm.foldl (fun _ h1 _ => h1.streamErr) hb))) ?_
    exact InForm.updDomain (InForm.updStream (InForm.foldl (fun _ h1 _ => h1.windowBerth) (.foldl (fun _ h1 _ => h1.streamErr) hb)))

theorem execMigrationEpoch {s d} (hb : InForm s.blk) : Answers (Machine.execMigrationEpoch d s) :=
    .run (.ite hb hb.queueMoves.withBerths)

theorem poisonFrame {tier d frame bad} (hb : InForm b) : InForm (Block.poisonFrame b tier d frame bad) :=
    .foldl (fun _ h0 _ => .ite h0 h0.same) hb

theorem execBerthMoveFlip {d moved s} (hb : InForm s.blk) : Answers (Machine.execBerthMoveFlip d moved s) := by
  refine .run (.ite hb ?_)
  extract_lets b b1 b2 b3
  have h1 : InForm b1 := hb.poisonFrame.setBerth.freeFrame.updDomain
  have h2 : InForm b2 := .ite h1.queueMoves h1
  have h3 : InForm b3 := .ite h2.queueMoves h2
  exact h3.startQueued.checkWaits

theorem execFrameZeroed {s d tier frame} (hb : InForm s.blk) : Answers (Machine.execFrameZeroed d tier frame s) :=
    .run (.ite hb hb.clearFrame.updDomain.startQueued.checkWaits)

theorem execEvacuate {s role d} (hb : InForm s.blk) : Answers (Machine.execEvacuate role d s) :=
    .run (hb.cmd (fun _ h1 => .ite h1.refuse (.ite h1.refuse h1.accept.addWait.startEvac)))

theorem startReturn {d} (hb : InForm b) : InForm (Block.startReturn b d) := hb.setTier.queueMoves

theorem execTierReturn {s role d} (hb : InForm s.blk) : Answers (Machine.execTierReturn role d s) := by
  unfold Machine.execTierReturn
  refine .run ?_
  dsimp only
  refine hb.cmd (fun _ h1 => ?_)
  refine .ite h1.refuse ?_
  refine .ite h1.done ?_
  exact .ite h1.refuse (InForm.startReturn (InForm.foldl (fun _ h1 _ => h1.updChannel) h1.accept.addWait))

theorem execEvacuationDone {s d} (hb : InForm s.blk) : Answers (Machine.execEvacuationDone d s) :=
    .run (.ite hb (InForm.endWaits (InForm.foldl (fun _ h0 _ => h0.updChannel) hb.setTier)))

theorem execRepairDone {s d pass} (hb : InForm s.blk) : Answers (Machine.execRepairDone d pass s) := by
  unfold Machine.execRepairDone
  refine .run ?_
  dsimp only
  refine .ite hb ?_
  refine .ite (InForm.startReturn (InForm.updDomain (InForm.foldl (fun _ h0 _ => h0.updChannel) hb))) ?_
  exact InForm.setAlert (InForm.raise (InForm.setTier (InForm.updDomain (InForm.foldl (fun _ h0 _ => h0.updChannel) hb))))

theorem execReturnDone {s d} (hb : InForm s.blk) : Answers (Machine.execReturnDone d s) :=
    .run (.ite hb (.ite hb.setTier.endWaits.clearAlert hb.setTier.endWaits))

theorem execEvacuationRetry {s d} (hb : InForm s.blk) : Answers (Machine.execEvacuationRetry d s) := .run (.ite hb.startEvac hb)
theorem holdChannel {ch cmd} (hb : InForm b) : InForm (Block.holdChannel b ch cmd) := hb.updChannel

theorem execChannelRetrain {s ch tooOften unreadable} (hb : InForm s.blk) : Answers (Machine.execChannelRetrain ch tooOften unreadable
    s) := by
  unfold Machine.execChannelRetrain
  refine .run ?_
  dsimp only
  refine .ite hb ?_
  refine .ite (.ite hb.loseChannels (.ite hb.holdChannel.repairPath hb.holdChannel)) ?_
  refine .ite hb.updChannel.raise.setAlert ?_
  refine .ite ?_ hb.holdChannel
  split
  next c he => exact ((hb.takeOutStart.ok he).holdChannel).updChannel
  next a _ => exact hb.holdChannel

theorem resumeHeld {d} (hb : InForm b) : InForm (Block.resumeHeld b d) :=
    .foldl (fun _ h0 _ => h0.portResume) (.foldl (fun _ h0 _ => h0.flushFaults) (InForm.checkWaits (InForm.foldl (fun _ h0 _ =>
    h0.syncStream) hb.serveWaiting.startQueued)))

theorem execChannelRetrainDone {s ch} (hb : InForm s.blk) : Answers (Machine.execChannelRetrainDone ch s) := by
  unfold Machine.execChannelRetrainDone
  refine .run ?_
  dsimp only
  refine .ite hb ?_
  split
  · exact hb.setChannel.resumeHeld.finishSts
  · exact hb.setChannel.resumeHeld

theorem execRowRemap {s ch bank row frames uncorrectable} (hb : InForm s.blk) : Answers (Machine.execRowRemap ch bank row frames
    uncorrectable s) := by
  unfold Machine.execRowRemap
  refine .run ?_
  dsimp only
  refine .ite hb ?_
  refine .ite (.ite hb hb.setChannel) ?_
  refine .ite (InForm.noteRepair (InForm.updChannel (InForm.foldl (fun _ h0 _ => .foldl (fun _ h1 _ => h1.same) h0) hb))) ?_
  exact .foldl (fun _ h0 _ => h0.retireFrame) (.foldl (fun _ h0 _ => .foldl (fun _ h1 _ => h1.same) h0) hb)

theorem execLatenessExpiry {s l h} (hb : InForm s.blk) : Answers (Machine.execLatenessExpiry l h s) :=
    .run (.ite hb hb.endReq.updDomain)

theorem execSinkerLost {s st} (hb : InForm s.blk) : Answers (Machine.execSinkerLost st s) := by
  unfold Machine.execSinkerLost
  refine .run ?_
  dsimp only
  refine .ite hb ?_
  exact InForm.loseChannels (InForm.raise (InForm.foldl (fun _ h0 _ => (h0.forSink (fun _ h1 _ => h1.endReq)).retireSink) hb.updSinker))

/-! ### The operations of `Protocol` -/

theorem atLine {pa f} (hb : InForm b) (hf : ∀ y0, InForm (f y0)) : InForm (Block.atLine b pa f) := by
  unfold Block.atLine
  split
  · exact hb
  · exact hf _

theorem requestLine {ln r} (hb : InForm b) : InForm (Block.requestLine b ln r) := .ite hb.updLine hb.serve
theorem request_ {pa r} (hb : InForm b) : InForm (Block.request_ b pa r) := hb.atLine (fun _ => hb.requestLine)
theorem memPoisonAt {ln} (hb : InForm b) : InForm (Block.memPoisonAt b ln) := .ite hb hb.putMem.withErrors.record

theorem memCorrected {ln} (hb : InForm b) : InForm (Block.memCorrected b ln) := by
  unfold Block.memCorrected
  dsimp only
  split
  · exact hb
  · exact hb.updChannel

theorem disableSet {tile key leave} (hb : InForm b) (hleave : ∀ c, InForm c → ∀ y1, InForm (leave c y1)) : InForm (Block.disableSet b
    tile key leave) := InForm.suspect (InForm.record (InForm.updPset (InForm.foldl (hleave) hb)))

theorem execRdS {s a pa ecc} (hb : InForm s.blk) : Answers (Machine.execRdS a pa ecc s) := by
  unfold Machine.execRdS
  refine .run ?_
  dsimp only
  refine hb.atLine (fun _ => ?_)
  refine .ite ?_ ?_
  · split
    · exact hb
    · exact .ite hb.memCorrected hb
    · exact .ite hb.memPoisonAt hb
    · exact hb.disableSet (fun x h1 v => h1.evictSlice)
  · exact InForm.request_ (by
      split
      · exact hb
      · exact .ite hb.memCorrected hb
      · exact .ite hb.memPoisonAt hb
      · exact hb.disableSet (fun _ h1 _ => h1.evictSlice))

theorem execRdX {s a pa} (hb : InForm s.blk) : Answers (Machine.execRdX a pa s) := .run (hb.atLine (fun _ => .ite hb hb.request_))

theorem execUpg {s a pa} (hb : InForm s.blk) : Answers (Machine.execUpg a pa s) := by
  unfold Machine.execUpg
  refine .run ?_
  refine hb.atLine (fun _ => ?_)
  split
  · exact .ite hb.request_ hb
  · exact hb

theorem execRdOnce {s a pa} (hb : InForm s.blk) : Answers (Machine.execRdOnce a pa s) := .run hb.request_
theorem execWrLine {s a pa data} (hb : InForm s.blk) : Answers (Machine.execWrLine a pa data s) := .run hb.request_
theorem execWrPart {s a pa mask data} (hb : InForm s.blk) : Answers (Machine.execWrPart a pa mask data s) := .run hb.request_

theorem execHomeAtom {s a pa op w64 x cmp} (hb : InForm s.blk) : Answers (Machine.execHomeAtom a pa op w64 x cmp s) :=
    .run (.ite hb hb.request_)

theorem execWatch {s id pa} (hb : InForm s.blk) : Answers (Machine.execWatch id pa s) := .run (.ite hb hb.request_)
theorem execUnwatch {s id pa} (hb : InForm s.blk) : Answers (Machine.execUnwatch id pa s) := .run hb.request_

theorem execWb {s a pa} (hb : InForm s.blk) : Answers (Machine.execWb a pa s) := by
  unfold Machine.execWb
  refine .run ?_
  dsimp only
  refine hb.atLine (fun _ => ?_)
  split
  · exact .ite (.ite hb.mergeCopy.dropCopy.undir hb.mergeCopy.dropCopy) hb
  · exact hb

theorem execEvictClean {s a pa} (hb : InForm s.blk) : Answers (Machine.execEvictClean a pa s) := by
  unfold Machine.execEvictClean
  refine .run ?_
  dsimp only
  refine hb.atLine (fun _ => ?_)
  split
  · exact .ite (.ite hb.dropCopy.undir hb.dropCopy) hb
  · exact hb

theorem snooped {a pa k go} (hb : InForm b) (hgo : ∀ c, InForm c → ∀ y1 y2 y3, InForm (go c y1 y2 y3)) : InForm (Block.snooped b a pa k
    go) := by
  unfold Block.snooped
  refine hb.atLine (fun _ => ?_)
  split
  · exact .ite (hgo _ hb.updTxn _ _ _) hb
  · exact hb

theorem execSnpInv {s a pa} (hb : InForm s.blk) : Answers (Machine.execSnpInv a pa s) :=
    .run (hb.snooped (fun _ h1 _ _ _ => h1.dropCopy.updTxn))

theorem forwarded {a ln c parity} (hb : InForm b) : InForm (Block.forwarded b a ln c parity) := .ite hb.putSlice.withErrors hb.mergeCopy

theorem execSnpFwdS {s a pa parity} (hb : InForm s.blk) : Answers (Machine.execSnpFwdS a pa parity s) := by
  unfold Machine.execSnpFwdS
  refine .run ?_
  dsimp only
  refine hb.snooped (fun _ h1 _ _ _ => ?_)
  split
  · exact h1.fetchSlice.updLine.updTxn
  · exact h1.forwarded.updLine.updTxn

theorem execSnpFwdX {s a pa parity} (hb : InForm s.blk) : Answers (Machine.execSnpFwdX a pa parity s) := by
  unfold Machine.execSnpFwdX
  refine .run ?_
  dsimp only
  refine hb.snooped (fun _ h1 _ _ _ => ?_)
  split
  · exact h1.fetchSlice.updTxn
  · exact InForm.updTxn (InForm.dropCopy (InForm.ite h1.forwarded h1))

theorem execSnpPeek {s a pa parity} (hb : InForm s.blk) : Answers (Machine.execSnpPeek a pa parity s) := by
  unfold Machine.execSnpPeek
  refine .run ?_
  dsimp only
  refine hb.snooped (fun _ h1 _ _ _ => ?_)
  split
  · exact h1.fetchSlice.updTxn
  · exact InForm.updTxn (InForm.ite h1.forwarded.updLine h1)

theorem execSnpRecall {s a pa parity} (hb : InForm s.blk) : Answers (Machine.execSnpRecall a pa parity s) := by
  unfold Machine.execSnpRecall
  refine .run ?_
  dsimp only
  refine hb.snooped (fun _ h1 _ _ _ => ?_)
  exact InForm.updTxn (by
    split
    · exact h1
    · exact h1.forwarded.dropCopy)

theorem inTxn {pa go} (hb : InForm b) (hgo : ∀ y0 y1, InForm (go y0 y1)) : InForm (Block.inTxn b pa go) := by
  unfold Block.inTxn
  refine hb.atLine (fun _ => ?_)
  split
  · exact hgo _ _
  · exact hb

theorem execGrant {s a pa} (hb : InForm s.blk) : Answers (Machine.execGrant a pa s) :=
    .run (hb.inTxn (fun _ _ => .ite hb.install.updTxn hb))

theorem execData {s a pa} (hb : InForm s.blk) : Answers (Machine.execData a pa s) := by
  unfold Machine.execData
  refine .run ?_
  dsimp only
  refine hb.inTxn (fun _ _ => ?_)
  refine .ite ?_ hb
  split
  · exact InForm.updTxn (by
      split
      · exact hb.install
      · exact hb)
  · exact hb

theorem execInvAck {s a pa} (hb : InForm s.blk) : Answers (Machine.execInvAck a pa s) :=
    .run (hb.inTxn (fun _ _ => .ite hb.updTxn.progress hb))

theorem execDowngradeAck {s a pa} (hb : InForm s.blk) : Answers (Machine.execDowngradeAck a pa s) :=
    .run (hb.inTxn (fun _ _ => .ite hb.updTxn.progress hb))

theorem execComplete {s a pa} (hb : InForm s.blk) : Answers (Machine.execComplete a pa s) :=
    .run (hb.inTxn (fun _ _ => .ite (.ite hb.updTxn hb.endTxn) hb))

theorem execRecallData {s a pa} (hb : InForm s.blk) : Answers (Machine.execRecallData a pa s) := by
  unfold Machine.execRecallData
  refine .run ?_
  dsimp only
  refine hb.inTxn (fun _ _ => ?_)
  refine .ite ?_ hb
  split
  · exact hb.putSlice.updLine.notify.endTxn
  · exact hb.notify.endTxn

theorem execMoved {s a a' pa} (hb : InForm s.blk) : Answers (Machine.execMoved a a' pa s) :=
    .run (hb.atLine (fun _ => .ite hb.moveCopy.updTxn hb))

/-! ### The operations of `Arrays` -/

theorem madeInDie (hb : InForm b) : InForm (Block.madeInDie b) := hb.withErrors

theorem dieErr {l e} (hb : InForm b) : InForm (Block.dieErr b l e) := by
  unfold Block.dieErr
  dsimp only
  split
  · exact .ite hb hb.updLantern.madeInDie
  · exact .ite hb hb.updHalf.madeInDie
  · exact .ite (InForm.madeInDie (InForm.foldl (fun _ h0 _ => h0.updBeam) hb)) hb
  · exact .ite hb hb.updAccSet.madeInDie
  · exact .ite hb.poisonHit hb
  · exact hb.updLantern
  · exact hb.updChart
  · exact hb

theorem watchLost {ln} (hb : InForm b) : InForm (Block.watchLost b ln) :=
    .ite hb (InForm.record (InForm.foldl (fun _ h0 _ => h0.notify) hb))

theorem berthLost {n} (hb : InForm b) : InForm (Block.berthLost b n) := hb.cancelMove.setBerth.updDomain.record

theorem ratedUnit {cache pa code} (hb : InForm b) : InForm (Block.ratedUnit b cache pa code) :=
    .ite hb.record.headOfWatch (.ite hb.record (.ite hb.record (.ite hb.record hb.record)))

theorem arrayErr {cache pa e} (hb : InForm b) : InForm (Block.arrayErr b cache pa e) := by
  unfold Block.arrayErr
  split
  · exact hb.ratedUnit
  · exact .ite (hb.atLine (fun _ => hb.watchLost)) hb
  · refine .ite ?_ hb
    split
    · exact hb.berthLost
    · exact hb
  · exact .ite hb.dieErr hb

/-! ### The operations of `Ranges` -/

theorem rangeRun {t c} (hb : InForm b) : InFormOpt (b.rangeRun t c) := by
  refine InFormOpt.ite InFormOpt.none (InFormOpt.ite (InFormOpt.some hb.updTile) (InFormOpt.ite InFormOpt.none (InFormOpt.some ?_)))
  exact InForm.updTile (rangeOps hb)

theorem ringPass {t i} (hb : InForm b) : InForm (Block.ringPass b t i) := hb.updTile

theorem ringTake {t i op} (hb : InForm b) : InForm (b.ringTake t i op) := by
  unfold Block.ringTake
  split
  · exact hb
  · split
    · exact hb
    · refine .ite hb.updTile ?_
      extract_lets pos b0
      have h0 : InForm b0 := hb.updTile
      clear_value b0 pos
      split
      · exact hb
      · exact h0.ringPass.raise
      · refine .ite hb (.ite h0.ringPass.raise ?_)
        exact InFormOpt.getD (InFormOpt.map_form (fun _ h => h.ringPass) h0.rangeRun) hb

theorem rangeDoor {t d op} (hb : InForm b) : InForm (Block.rangeDoor b t d op) := by
  unfold Block.rangeDoor
  dsimp only
  split
  · split
    · exact .ite hb (InFormOpt.getD hb.updTile.rangeRun hb)
    · exact hb
  · split
    · exact .ite hb (InFormOpt.getD hb.updTile.rangeRun hb)
    · exact hb
  · exact hb.ringTake

theorem execClean {s t door} (hb : InForm s.blk) : Answers (Machine.execClean t door s) := .run hb.rangeDoor
theorem execInvalidate {s t door} (hb : InForm s.blk) : Answers (Machine.execInvalidate t door s) := .run hb.rangeDoor
theorem execCleanInvalidate {s t door} (hb : InForm s.blk) : Answers (Machine.execCleanInvalidate t door s) := .run hb.rangeDoor

theorem execRangeCommandDone {s t id} (hb : InForm s.blk) : Answers (Machine.execRangeCommandDone t id s) := by
  unfold Machine.execRangeCommandDone
  refine .run ?_
  dsimp only
  split
  · exact hb
  · split
    · exact hb.raise.updTile
    · split
      next d he2 => exact (hb.write.ok he2).updTile
      · exact hb
      next _ d he2 => exact ((hb.write.error he2).raise).updTile

theorem execRegisterRing {s role t c header ring log2} (hb : InForm s.blk) : Answers (Machine.execRegisterRing role t c header ring
    log2 s) := by
  unfold Machine.execRegisterRing
  refine .run ?_
  refine hb.cmd (fun _ h1 => ?_)
  refine .ite h1.refuse ?_
  refine .ite h1.refuse ?_
  refine .ite h1.refuse ?_
  split
  · split
    · exact hb
    · exact h1.refuse
    · split
      · exact h1.watchRefused.refuse
      next _ he4 => exact ((h1.watch _ he4).updTile).done
  · exact h1.refuse

theorem execRemoveRing {s role t i} (hb : InForm s.blk) : Answers (Machine.execRemoveRing role t i s) := by
  unfold Machine.execRemoveRing
  refine .run ?_
  dsimp only
  refine hb.cmd (fun _ h1 => ?_)
  split
  · exact h1.refuse
  · exact InForm.done (by
      split
      · exact .ite h1.updTile h1.updTile.unwatch
      · exact h1.updTile)

/-! ### The operations of `Losses` -/

theorem sweepCopy {a ln} (hb : InForm b) : InForm (Block.sweepCopy b a ln) := by
  unfold Block.sweepCopy
  dsimp only
  split
  · exact hb
  · exact InForm.undir (InForm.dropCopy (InForm.ite hb hb.putSlice.withErrors))

theorem poisonSlice {ln v} (hb : InForm b) : InForm (Block.poisonSlice b ln v) := hb.putSlice.withErrors

theorem sweepRequester {ln t} (hb : InForm b) : InForm (Block.sweepRequester b ln t) := by
  unfold Block.sweepRequester
  dsimp only
  exact InForm.endTxn (InForm.recallAll (by
    split
    · exact .ite hb.poisonSlice hb
    · exact hb))

theorem sweepSnoops {a ln t} (hb : InForm b) : InForm (Block.sweepSnoops b a ln t) :=
    .ite hb (InForm.progress (InForm.ite hb.updTxn.updLine hb.updTxn))

theorem sweepLine {a ln} (hb : InForm b) : InForm (Block.sweepLine b a ln) := by
  unfold Block.sweepLine
  dsimp only
  split
  · exact hb.sweepCopy.updLine
  · exact .ite hb.sweepCopy.updLine.sweepRequester hb.sweepCopy.updLine.sweepSnoops

theorem sweepAgent {a} (hb : InForm b) : InForm (Block.sweepAgent b a) := .foldl (fun _ h0 _ => h0.sweepLine) hb
theorem fenceTraffic {l} (hb : InForm b) : InForm (Block.fenceTraffic b l) := hb.same
theorem sweepWatches {l} (hb : InForm b) : InForm (Block.sweepWatches b l) := .foldl (fun _ h0 _ => h0.unwatchLamp) hb.updChart.withHws

theorem lostHw {l d h} (hb : InForm b) : InForm (Block.lostHw b l d h) := by
  unfold Block.lostHw
  dsimp only
  split
  · exact hb
  · exact hb.withHws
  · exact .ite hb.updHw.freeHw hb.updHw.joinHw

theorem lostChecks {l} (hb : InForm b) : InForm (Block.lostChecks b l) :=
    .foldl (fun _ h0 _ => .ite (InForm.ite h0.dropCheck h0) (InForm.ite h0 (InForm.ite h0.dropCheck h0.assignCheck))) hb

theorem loseLantern {l d} (hb : InForm b) : InForm (b.loseLantern l d) := by
  unfold Block.loseLantern
  extract_lets cmd b1 b2 b3 b4 b5 b6 b7 b8 b9
  have h3 : InForm b3 := .foldl (fun _ h _ => h.updBeam) hb.record.setAlert.fenceTraffic.updLantern
  have h6 : InForm b6 := h3.sweepAgent.sweepWatches.updChart.tryDrops.dropMember.updLantern
  have h7 : InForm b7 := .foldl (fun _ h _ => h.lostHw) h6.lostChecks.updSilent
  have h8 : InForm b8 := by
    unfold b8
    cases cmd with
    | none => exact h7
    | some c => exact h7.finishSts
  have h9 : InForm b9 := by
    unfold b9
    cases (b.lantern l).measureWaits with
    | none => exact h8
    | some m => exact h8.finishSts
  exact h9.needSpare

theorem execLanternLost {s l cause} (hb : InForm s.blk) : Answers (Machine.execLanternLost l cause s) := .run (.ite hb hb.loseLantern)
theorem resetCluster {cl} (hb : InForm b) : InForm (Block.resetCluster b cl) := hb.same.updCluster

theorem loseCluster {cl} (hb : InForm b) : InForm (Block.loseCluster b cl) := by
  unfold Block.loseCluster
  dsimp only
  split
  · exact hb.record.setAlert.sweepAgent.resetCluster.updCluster.finishSts
  · exact hb.record.setAlert.sweepAgent.resetCluster.updCluster

theorem execKeeperClusterLost {s cl} (hb : InForm s.blk) : Answers (Machine.execKeeperClusterLost cl s) := .run (.ite hb hb.loseCluster)

theorem postedPerform {h} (hb : InForm b) : InForm (Block.postedPerform b h) := by
  unfold Block.postedPerform
  split
  · exact hb
  · exact hb.updHart.msi

theorem postedAll {h} (hb : InForm b) : InForm (Block.postedAll b h) := .foldl (fun _ h0 _ => h0.postedPerform) hb

theorem kLoadIn {h pa n nc} (hb : InForm b) : InFormLoad (b.kLoadIn h pa n nc) := by
  have hr : InFormRes (fun e => e.2) (fun r => r.1) (if nc then (b.readOnce ((b.dom pa).getD 0 / 64)).mapError (fun e => (e, b)) else
    b.loadLine (kAgent h) ((b.dom pa).getD 0 / 64)) :=
    .ite (.mapError hb.readOnce fun _ => hb) hb.loadLine
  unfold Block.kLoadIn
  split
  · trivial
  next hd =>
    rw [hd] at hr
    split
    next he => exact hr.error he
    · trivial
    next he =>
      split
      · exact (hr.ok he).same
      · exact (hr.ok he).same

theorem kLoad {h pa n nc} (hb : InForm b) : InFormLoad (b.kLoad h pa n nc) := by
  unfold Block.kLoad
  dsimp only
  split
  · exact hb.kLoadIn
  · split
    next he =>
      have hc := hb.kLoadIn.ok he
      split
      next hd => exact hc.kLoadIn.ok hd
      · exact hc.kLoadIn
    · exact hb.kLoadIn

theorem drainCluster {cl} (hb : InForm b) : InForm (Block.drainCluster b cl) :=
    InForm.flushDie (InForm.foldl (fun _ h0 _ => h0.postedAll) hb)

theorem execUnitResetKeeperCluster {s role cl mode} (hb : InForm s.blk) : Answers (Machine.execUnitResetKeeperCluster role cl mode s)
    := by
  unfold Machine.execUnitResetKeeperCluster
  refine .run ?_
  dsimp only
  refine hb.cmd (fun _ h1 => ?_)
  refine .ite h1.refuse ?_
  refine .ite h1.refuse ?_
  exact .ite h1.refuse (InForm.updCluster (InForm.ite h1.accept.drainCluster.resetCluster h1.accept.loseCluster))

theorem scrubCount {cache ln clean dirty} (hb : InForm b) : InForm (Block.scrubCount b cache ln clean dirty) :=
    .ite hb.updLantern (.ite hb.updCluster hb.updTile)

theorem scrubCopy {a ln} (hb : InForm b) : InForm (Block.scrubCopy b a ln) := by
  unfold Block.scrubCopy
  dsimp only
  split
  · exact hb
  · refine .ite hb.putSlice.withErrors.dropCopy.setDir.scrubCount ?_
    exact InForm.scrubCount (InForm.ite hb.fetchSlice.updLine.loseRes hb.fetchSlice.updLine)

theorem scrubSlice {ln} (hb : InForm b) : InForm (Block.scrubSlice b ln) := by
  unfold Block.scrubSlice
  dsimp only
  split
  · exact hb
  · exact .ite hb.updLine.withErrors.scrubCount hb.updLine.loseRes.scrubCount

theorem execCacheScrub {s cache pa found} (hb : InForm s.blk) : Answers (Machine.execCacheScrub cache pa found s) := by
  unfold Machine.execCacheScrub
  refine .run ?_
  split
  · exact .ite hb hb.arrayErr
  · refine hb.atLine (fun _ => ?_)
    refine .ite hb ?_
    refine .ite ?_ ?_
    · split
      · exact hb
      · exact hb
      · exact hb.scrubCopy
      · exact hb.updCluster
      · exact .ite hb.loseCluster hb
    · split
      · exact hb
      · exact hb
      · exact .ite hb.scrubCopy (.ite hb.scrubSlice hb)
      · exact .ite hb.updLantern (.ite hb.updCluster hb.updTile)
      · refine .ite (.ite hb.loseLantern hb) ?_
        refine .ite (.ite hb.loseCluster hb) ?_
        refine .ite (hb.disableSet (fun _ h1 _ => h1.evictCopy)) ?_
        exact .ite (hb.disableSet (fun _ h0 _ => h0.evictSlice)) (hb.disableSet (fun _ h0 _ => h0.recallAll))

theorem execUnitResetLantern {s role l mode} (hb : InForm s.blk) : Answers (Machine.execUnitResetLantern role l mode s) := by
  unfold Machine.execUnitResetLantern
  refine .run ?_
  dsimp only
  refine hb.cmd (fun _ h1 => ?_)
  refine .ite h1.refuse ?_
  refine .ite h1.refuse ?_
  exact .ite h1.refuse (.ite h1.refuse (.ite h1.accept.updLantern.settle h1.accept.loseLantern.finishSts))

theorem resetChannel {ch mode} (hb : InForm b) : InForm (Block.resetChannel b ch mode) :=
    .ite hb.refuse (.ite hb.refuse (.ite hb.refuse (.ite hb.refuse hb.accept.holdChannel)))

theorem execUnitResetStackChannel {s role ch mode} (hb : InForm s.blk) : Answers (Machine.execUnitResetStackChannel role ch mode s) :=
    .run (hb.cmd (fun _ h1 => .ite h1.refuse h1.resetChannel))

theorem execUnitResetBulkChannel {s role ch mode} (hb : InForm s.blk) : Answers (Machine.execUnitResetBulkChannel role ch mode s) :=
    .run (hb.cmd (fun _ h1 => .ite h1.refuse h1.resetChannel))

theorem initDomain {d} (hb : InForm b) : InForm (b.initDomain d) := by
  unfold Block.initDomain
  have h1 : InForm ((b.lines.filter (fun (e : Nat × LineSt) => e.1 / 2 ^ 34 == d)).foldl (fun (c : Block) (e : Nat × LineSt) =>
      e.2.copies.foldl (fun (a : Block) (x : Nat × Copy) => a.dropCopy x.1 e.1) c) b) :=
    foldl (fun _ h _ => foldl (fun _ h _ => h.dropCopy) h) hb
  exact cellFilter_wf _ _ h1

theorem resetTile {t} (hb : InForm b) : InForm (Block.resetTile b t) :=
    .foldl (fun _ h0 _ => h0.withErrors.restartLocal) (InForm.setTile (InForm.foldl (fun _ h0 _ => h0.updChannel) (InForm.initDomain
    (InForm.foldl (fun _ h0 _ => h0.flushDie.freshDie) hb))))

theorem execUnitResetTile {s role t mode} (hb : InForm s.blk) : Answers (Machine.execUnitResetTile role t mode s) :=
    .run (hb.cmd (fun _ h1 => .ite h1.refuse (.ite h1.refuse (.ite h1.refuse h1.accept.resetTile.finishSts))))

theorem execErrorBankRead {s role unit idx} (hb : InForm s.blk) : Answers (Machine.execErrorBankRead role unit idx s) :=
    .run (hb.cmd (fun _ h1 => h1.done.withCmds))

theorem execErrorBankClear {s role unit} (hb : InForm s.blk) : Answers (Machine.execErrorBankClear role unit s) :=
    .run (hb.cmd (fun _ h1 => h1.withErrors.done))

/-! ### The operations of `Ports` -/

theorem setEnable {p on} (hb : InForm b) : InForm (Block.setEnable b p on) :=
    .ite (.foldl (fun _ h0 _ => .ite h0 h0.loadPost) hb.updPort) hb.updPort

theorem execPortEnable {s p on} (hb : InForm s.blk) : Answers (Machine.execPortEnable p on s) := .run (.ite hb hb.setEnable)

theorem resetPort {p} (hb : InForm b) : InForm (Block.resetPort b p) := by
  unfold Block.resetPort
  dsimp only
  refine .ite (InForm.restartLocal (InForm.withErrors (InForm.updPort (InForm.foldl (fun _ h0 _ => h0.dropPost) (.foldl (fun _ h0 _ =>
    h0.loadPq.flushQueue) (.foldl (fun _ h0 _ => .ite h0.loadPq h0.loadPq.qpError) hb)))))) ?_
  exact InForm.wire (InForm.restartLocal (InForm.withErrors (InForm.updPort (InForm.foldl (fun _ h0 _ => h0.dropPost) (.foldl (fun _ h0
    _ => h0.loadPq.flushQueue) (.foldl (fun _ h0 _ => .ite h0.loadPq h0.loadPq.qpError) hb))))))

theorem execPortReset {s r} (hb : InForm s.blk) : Answers (Machine.execPortReset r s) := by
  unfold Machine.execPortReset
  refine .run ?_
  split
  · exact .ite hb hb.resetPort
  · exact hb.cmd (fun _ h2 => .ite h2.refuse (.ite h2.refuse (.ite h2.refuse h2.resetPort.done)))

theorem execPortHang {s p} (hb : InForm s.blk) : Answers (Machine.execPortHang p s) := .run (.ite hb hb.record.resetPort)

theorem execPortHeartbeatLost {s p} (hb : InForm s.blk) : Answers (Machine.execPortHeartbeatLost p s) :=
    .run (.ite hb hb.record.resetPort)

theorem execUnitResetPort {s role p mode} (hb : InForm s.blk) : Answers (Machine.execUnitResetPort role p mode s) :=
    .run (hb.cmd (fun _ h1 => .ite h1.refuse (.ite h1.refuse (.ite h1.refuse h1.accept.resetPort.finishSts))))

theorem portReload {p kind i} (hb : InForm b) : InForm (Block.portReload b p kind i) := by
  unfold Block.portReload
  dsimp only
  split
  · exact .ite hb hb.updPort
  · exact .ite hb hb.updPort
  · exact hb.updPort
  · exact .ite hb (.ite hb.dropPost.loadPost hb.dropPost)
  · exact .ite hb hb.updPort
  · exact hb

theorem execReloadQp {s p i} (hb : InForm s.blk) : Answers (Machine.execReloadQp p i s) := .run (.ite hb hb.portReload)
theorem execReloadCq {s p i} (hb : InForm s.blk) : Answers (Machine.execReloadCq p i s) := .run (.ite hb hb.portReload)
theorem execReloadMr {s p i} (hb : InForm s.blk) : Answers (Machine.execReloadMr p i s) := .run (.ite hb hb.portReload)
theorem execReloadPostRing {s p i} (hb : InForm s.blk) : Answers (Machine.execReloadPostRing p i s) := .run (.ite hb hb.portReload)
theorem execReloadEthQueue {s p i} (hb : InForm s.blk) : Answers (Machine.execReloadEthQueue p i s) := .run (.ite hb hb.portReload)

theorem portRegWrite {p w v} (hb : InForm b) : InForm (Block.portRegWrite b p w v) := by
  unfold Block.portRegWrite
  dsimp only
  split
  · exact .ite hb.setEnable.resetPort hb.setEnable
  · exact .ite hb hb.updPort
  · exact .ite hb hb.updPort
  · exact .ite hb hb.updPort
  · exact .ite hb hb.updPort
  · exact .ite hb hb.updPort
  · exact .ite hb hb.portReload
  · exact hb

theorem execPostQpSend {s p ring} (hb : InForm s.blk) : Answers (Machine.execPostQpSend p ring s) :=
    .run (hb.postTake (fun _ h1 _ _ => h1.post))

theorem execPostQpReceive {s p ring} (hb : InForm s.blk) : Answers (Machine.execPostQpReceive p ring s) :=
    .run (hb.postTake (fun _ h1 _ _ => h1.post))

theorem execPostEthSend {s p ring} (hb : InForm s.blk) : Answers (Machine.execPostEthSend p ring s) :=
    .run (hb.postTake (fun _ h1 _ _ => h1.post))

theorem execPostEthReceive {s p ring} (hb : InForm s.blk) : Answers (Machine.execPostEthReceive p ring s) :=
    .run (hb.postTake (fun _ h1 _ _ => h1.post))

theorem execCqArm {s p ring} (hb : InForm s.blk) : Answers (Machine.execCqArm p ring s) :=
    .run (hb.postTake (fun _ h1 _ _ => h1.loadCq.updCq))

theorem headDo {b0 p eth i op known any go} (hb : InForm b0) (hgo : ∀ c, InForm c → ∀ y1, InForm (go c y1)) : InForm (Block.headDo b0 p
    eth i op known any go) := by
  unfold Block.headDo
  dsimp only
  refine .ite hb ?_
  split
  · exact hb.loadPq
  · refine .ite hb.loadPq ?_
    refine .ite hb.loadPq ?_
    split
    · exact .ite (hgo _ hb.loadPq _) hb.loadPq
    · exact .ite hb.loadPq.portPoison.raise.updPq.wcEnd hb.loadPq.portPoison.raise
    · exact hb.loadPq
    next a _ => exact .ite hb.loadPq.updPq.wcEnd hb.loadPq

theorem headEnd {p eth i h st bytes} (hb : InForm b) : InForm (Block.headEnd b p eth i h st bytes) := hb.updPq.wcEnd

theorem execEthSend {s p q} (hb : InForm s.blk) : Answers (Machine.execEthSend p q s) := by
  unfold Machine.execEthSend
  refine .run ?_
  dsimp only
  refine .ite hb ?_
  refine hb.headDo (fun _ h1 _ => ?_)
  split
  · exact h1.headEnd
  · refine .ite h1.headEnd ?_
    refine .ite h1 ?_
    split
    · exact h1
    next e he2 => exact ((h1.bufRead.fst he2).raise).headEnd
    next e st he2 => exact InForm.headEnd (InForm.ite ((h1.bufRead.fst he2).updPort) (h1.bufRead.fst he2))
    next e _ he2 =>
      split
      · exact (h1.bufRead.fst he2).headEnd
      · exact InForm.headEnd (InForm.foldl (fun _ h4 _ => h4.wireOut) (h1.bufRead.fst he2))

theorem sendReq {p i r d psn} (hb : InForm b) : InForm (b.sendReq p i r d psn).1 := by
  have hx : InForm (if fld d 0 8 < 6 then b.bufRead p (fld d 128 32) (fld r 288 16) (fld d 64 64) (fld d 160 32) 0
      else match b.region p (fld d 128 32) (fld r 288 16) (fld d 64 64) (fld d 160 32) 1 with
        | (_, .wait) => (b, .wait)
        | (c, .err st) => (c, if fld d 160 32 = 0 then .ok [] else .err st)
        | (c, .found _ _) => (c, .ok [])).1 := by
    refine .ite_fst hb.bufRead ?_
    split
    · exact hb
    next he => exact (hb.region.fst he).same
    next he => exact (hb.region.fst he).same
  unfold Block.sendReq
  dsimp only
  split
  next he => exact InForm.ite (hx.fst he).wireOut (hx.fst he)
  · exact hx

theorem poisonEv {p va st} (hb : InForm b) : InForm (Block.poisonEv b p va st) := .ite hb.raise hb

theorem roceSend {p i op any} (hb : InForm b) : InForm (Block.roceSend b p i op any) := by
  unfold Block.roceSend
  dsimp only
  refine .ite hb ?_
  refine hb.headDo (fun _ h1 _ => ?_)
  split
  · exact h1.headEnd
  · refine .ite h1 ?_
    split
    · exact h1
    next e st he2 => exact ((h1.sendReq.fst he2).poisonEv).headEnd
    next e _ he2 => exact (h1.sendReq.fst he2).updPq

theorem execRoceSend {s p qpn} (hb : InForm s.blk) : Answers (Machine.execRoceSend p qpn s) := .run hb.roceSend
theorem execSendImm {s p qpn} (hb : InForm s.blk) : Answers (Machine.execSendImm p qpn s) := .run hb.roceSend
theorem execRoceWrite {s p qpn} (hb : InForm s.blk) : Answers (Machine.execRoceWrite p qpn s) := .run hb.roceSend
theorem execWriteImm {s p qpn} (hb : InForm s.blk) : Answers (Machine.execWriteImm p qpn s) := .run hb.roceSend
theorem execRoceRead {s p qpn} (hb : InForm s.blk) : Answers (Machine.execRoceRead p qpn s) := .run hb.roceSend
theorem execFetchAdd {s p qpn} (hb : InForm s.blk) : Answers (Machine.execFetchAdd p qpn s) := .run hb.roceSend
theorem execCmpSwap {s p qpn} (hb : InForm s.blk) : Answers (Machine.execCmpSwap p qpn s) := .run hb.roceSend
theorem recvTake {p eth i} (hb : InForm b) : InForm (Block.recvTake b p eth i) := hb.updPq
theorem dropFrame {p} (hb : InForm b) : InForm (Block.dropFrame b p) := hb.updPort

theorem execEthFrameRx {s p mac g} (hb : InForm s.blk) : Answers (Machine.execEthFrameRx p mac g s) := by
  refine .run (.ite hb (.ite hb.updPort ?_))
  extract_lets f on qp1 hash q b x wc
  clear_value f wc
  split
  · exact hb.updPort
  · have h0 : InForm b := hb.loadPq
    clear_value q b
    split
    · exact .ite hb h0.dropFrame
    · refine .ite h0.dropFrame ?_
      generalize b.recvHead x _ = head
      split
      · exact h0.dropFrame
      · exact hb
      · exact h0.poisonEv.recvTake.dropFrame.complete
      · refine .ite h0.dropFrame ?_
        split
        · exact hb
        next he => exact (h0.bufWrite.fst he).recvTake.dropFrame.complete
        next he => exact (h0.bufWrite.fst he).recvTake.complete

theorem respond {p i r kind psn bs} (hb : InForm b) : InForm (Block.respond b p i r kind psn bs) := .ite hb.wireOut hb
theorem owesCnp {p i r ce} (hb : InForm b) : InForm (Block.owesCnp b p i r ce) := .ite hb.updPq.respond hb
theorem epsnUp {p i r q} (hb : InForm b) : InForm (Block.epsnUp b p i r q) := hb.updPq

theorem recvDone {p i r q id st} (hb : InForm b) : InForm (Block.recvDone b p i r q id st) :=
    .ite hb.recvTake.epsnUp.respond.wcEnd hb.recvTake.respond.wcEnd

theorem rxSend {p i r q} (hb : InForm b) : InForm (b.rxSend p i r q) := by
  -- The head of the receive queue stays opaque: the kernel would count out its 32-bit counters.
  obtain ⟨f, hf⟩ : ∃ f, f = @Block.rxSend := ⟨_, rfl⟩
  rw [← hf]
  delta Block.rxSend at hf
  generalize Block.recvHead = head at hf
  subst hf
  dsimp only
  split
  · exact hb.respond
  · exact hb
  · exact hb.poisonEv.recvDone
  · refine .ite hb.recvDone ?_
    split
    · exact hb
    next he => exact (hb.bufWrite.fst he).recvDone
    next he => exact (hb.bufWrite.fst he).recvDone

theorem rxWrite {p i r q} (hb : InForm b) : InForm (Block.rxWrite b p i r q) := by
  unfold Block.rxWrite
  dsimp only
  refine .ite hb.respond ?_
  refine .ite hb ?_
  split
  · exact hb
  next c st he => exact (hb.bufWrite.fst he).respond
  next c _ he =>
    refine .ite ?_ (((hb.bufWrite.fst he).epsnUp).respond)
    split
    · exact (hb.bufWrite.fst he).recvDone
    · exact (hb.bufWrite.fst he).recvDone
    · exact (hb.bufWrite.fst he).same

theorem rxRead {p i r q fresh} (hb : InForm b) : InForm (Block.rxRead b p i r q fresh) := by
  unfold Block.rxRead
  split
  · exact hb
  next c st he => exact (hb.bufRead.fst he).respond
  next c _ he => exact InForm.respond (InForm.ite ((hb.bufRead.fst he).epsnUp) (hb.bufRead.fst he))

theorem rxAtomic {p i r q} (hb : InForm b) : InForm (Block.rxAtomic b p i r q) := by
  unfold Block.rxAtomic
  refine .ite hb.respond ?_
  split
  · exact hb
  next c st he => exact (hb.region.fst he).respond
  next c _ _ he =>
    split
    · exact (hb.region.fst he).respond
    · split
      · exact hb
      next fst d he2 => exact (((hb.region.fst he).atomic).error he2).respond
      next d fst he2 => exact ((((hb.region.fst he).atomic).ok he2).portPoison).respond
      next d _ he2 => exact (((((hb.region.fst he).atomic).ok he2).epsnUp).updPq).respond

theorem execRoceRequestRx {s p q} (hb : InForm s.blk) : Answers (Machine.execRoceRequestRx p q s) := by
  unfold Machine.execRoceRequestRx
  refine .run ?_
  dsimp only
  refine .ite hb ?_
  split
  · exact hb.loadPq
  · refine .ite hb.loadPq ?_
    refine .ite ?_ ?_
    · split
      · exact hb.loadPq.owesCnp.rxSend
      · exact hb.loadPq.owesCnp.rxSend
      · exact hb.loadPq.owesCnp.rxWrite
      · exact hb.loadPq.owesCnp.rxWrite
      · exact hb.loadPq.owesCnp.rxRead
      · exact hb.loadPq.owesCnp.rxAtomic
      · exact hb.loadPq.owesCnp.rxAtomic
      · exact hb.loadPq.owesCnp
    · refine .ite ?_ hb.loadPq.owesCnp
      split
      · exact hb.loadPq.owesCnp.rxRead
      · split
        · exact .ite hb.loadPq.owesCnp.respond hb.loadPq.owesCnp
        · exact hb.loadPq.owesCnp
      · split
        · exact .ite hb.loadPq.owesCnp.respond hb.loadPq.owesCnp
        · exact hb.loadPq.owesCnp
      · exact hb.loadPq.owesCnp.respond

theorem sentEnd {p i r st} (hb : InForm b) : InForm (Block.sentEnd b p i r st) := by
  unfold Block.sentEnd
  split
  · exact hb
  · exact hb.updPq.wcEnd

theorem ackTo {p i r psn k} (hb : InForm b) : InForm (Block.ackTo p i r psn k b) := by
  induction k generalizing b with
  | zero => exact hb
  | succ k ih =>
    unfold Block.ackTo
    split
    · exact hb
    · exact .ite (ih hb.sentEnd) hb

theorem goBack {p i r} (hb : InForm b) : InForm (Block.goBack b p i r) := by
  unfold Block.goBack
  dsimp only
  split
  next c he => exact ((InForm.foldl_fst (fun _ h0 _ => by
    split
    · exact h0
    · split
      next e st he2 => exact (h0.sendReq.fst he2).poisonEv
      next e _ he2 => exact (h0.sendReq.fst he2).same) hb.updPq).fst he).same
  next c st he => exact ((InForm.foldl_fst (fun _ h0 _ => by
    split
    · exact h0
    · split
      next e st he2 => exact (h0.sendReq.fst he2).poisonEv
      next e _ he2 => exact (h0.sendReq.fst he2).same) hb.updPq).fst he).sentEnd

theorem gotData {p i r psn data atomic} (hb : InForm b) : InForm (Block.gotData b p i r psn data atomic) := by
  unfold Block.gotData
  dsimp only
  split
  · exact hb
  · refine .ite hb ?_
    refine .ite hb.updPq ?_
    split
    · exact hb
    next c st he1 => exact (hb.bufWrite.fst he1).sentEnd
    next c _ he1 => exact (hb.bufWrite.fst he1).sentEnd

theorem execRoceResponseRx {s p q} (hb : InForm s.blk) : Answers (Machine.execRoceResponseRx p q s) := by
  unfold Machine.execRoceResponseRx
  refine .run ?_
  dsimp only
  refine .ite hb ?_
  split
  · exact hb.loadPq
  · refine .ite hb.loadPq ?_
    split
    · exact hb.loadPq.ackTo
    · exact hb.loadPq.ackTo.gotData
    · exact hb.loadPq.ackTo.gotData
    · split
      · exact hb.loadPq.ackTo
      · refine .ite hb.loadPq.ackTo ?_
        refine .ite (.ite hb.loadPq.ackTo.goBack (.ite hb.loadPq.ackTo.updPq.goBack hb.loadPq.ackTo.sentEnd)) ?_
        exact .ite hb.loadPq.ackTo.sentEnd (.ite hb.loadPq.ackTo.sentEnd hb.loadPq.ackTo)

theorem execAckTimeout {s p qpn} (hb : InForm s.blk) : Answers (Machine.execAckTimeout p qpn s) := by
  unfold Machine.execAckTimeout
  refine .run ?_
  dsimp only
  split
  · exact hb
  · exact .ite hb (.ite hb.updPq.goBack hb.sentEnd)

theorem execCnpRx {s p qpn} (hb : InForm s.blk) : Answers (Machine.execCnpRx p qpn s) := .run (.ite hb hb.updPq)
theorem execCcTimer {s p qpn e} (hb : InForm s.blk) : Answers (Machine.execCcTimer p qpn e s) := .run (.ite hb hb.updPq)
theorem macDown {p mac} (hb : InForm b) : InForm (Block.macDown b p mac) := .ite hb.updPort.wire hb
theorem execMacLinkLoss {s p mac} (hb : InForm s.blk) : Answers (Machine.execMacLinkLoss p mac s) := .run (.ite hb hb.macDown)

/-! ### The operations of `Carts` -/

theorem settleCart {c} (hb : InForm b) : InForm (Block.settleCart b c) := by
  unfold Block.settleCart
  dsimp only
  refine .ite (InForm.setAlert (InForm.foldl (fun _ h0 _ => .ite h0 h0.macDown) hb.updCart.updCart)) ?_
  exact InForm.clearAlert (InForm.foldl (fun _ h0 _ => .ite h0 h0.macDown) hb.updCart.updCart)

theorem execCartridgeInsert {s c} (hb : InForm s.blk) : Answers (Machine.execCartridgeInsert c s) :=
    .run (.ite hb hb.setCart.settleCart.wire)

theorem execCartridgeCheckDone {s c verified} (hb : InForm s.blk) : Answers (Machine.execCartridgeCheckDone c verified s) :=
    .run (.ite hb (.ite hb.updCart.settleCart hb.updCart.settleCart.raise.wire))

theorem execPrepareSwap {s role c} (hb : InForm s.blk) : Answers (Machine.execPrepareSwap role c s) :=
    .run (hb.cmd (fun _ h1 => .ite h1.refuse (.ite h1.refuse h1.updCart.settleCart.done)))

theorem execLatchOpen {s c} (hb : InForm s.blk) : Answers (Machine.execLatchOpen c s) :=
    .run (.ite hb (InForm.wire (InForm.settleCart (InForm.setCart (InForm.ite hb hb.raise)))))

theorem execCartridgeFault {s c} (hb : InForm s.blk) : Answers (Machine.execCartridgeFault c s) := .run (.ite hb hb.updCart.settleCart)

theorem execCartridgePoll {s c r} (hb : InForm s.blk) : Answers (Machine.execCartridgePoll c r s) := by
  unfold Machine.execCartridgePoll
  refine .run ?_
  dsimp only
  refine .ite hb ?_
  refine .ite (InForm.raise (InForm.ite hb.setCart.settleCart.raise hb.setCart.settleCart)) ?_
  exact .ite hb.setCart.settleCart.raise hb.setCart.settleCart

theorem execCartridgeSilent {s c} (hb : InForm s.blk) : Answers (Machine.execCartridgeSilent c s) := .run (.ite hb hb.updCart.raise)
theorem execMacLinkUp {s p mac} (hb : InForm s.blk) : Answers (Machine.execMacLinkUp p mac s) := .run (.ite hb hb.updPort.wire)

/-! ### The operations of `LogOps` -/

theorem logAppend {r} (hb : InForm b) : InForm (Block.logAppend b r) := .ite hb hb.withEvents
theorem logNext {r} (hb : InForm b) : InForm (Block.logNext b r) := hb.withEvents.logAppend.same
theorem hubRecord {e args} (hb : InForm b) : InForm (Block.hubRecord b e args) := hb.withEvents.logNext
theorem reserveSeq (hb : InForm b) : InForm (Block.reserveSeq b) := hb.withEvents.hubRecord
theorem putLog {r} (hb : InForm b) : InForm (Block.putLog b r) := InForm.logNext (InForm.ite hb.reserveSeq hb)

theorem pushTo {i} (hb : InForm b) : InForm (Block.pushTo b i) := by
  unfold Block.pushTo
  dsimp only
  split
  · exact hb
  · exact .ite hb (.ite hb.withSessions hb.withSessions.updMailbox.wire)

theorem pushAll (hb : InForm b) : InForm (Block.pushAll b) := .foldl (fun _ h0 _ => h0.pushTo) hb

theorem execEventLogWrite {s} (hb : InForm s.blk) : Answers (Machine.execEventLogWrite s) := by
  unfold Machine.execEventLogWrite
  refine .run ?_
  dsimp only
  refine .ite hb ?_
  split
  · exact hb.pushAll
  · exact hb.withEvents.putLog.pushAll

theorem denialSecond {unit ev} (hb : InForm b) : InForm (Block.denialSecond b unit ev) := .ite hb.updGuest hb

theorem execEventsSuppressed {s unit ev} (hb : InForm s.blk) : Answers (Machine.execEventsSuppressed unit ev s) := by
  unfold Machine.execEventsSuppressed
  refine .run ?_
  dsimp only
  split
  · exact hb
  · exact .ite hb.withEvents.denialSecond.raise hb.withEvents.denialSecond

theorem execEventFetch {s role from_ count} (hb : InForm s.blk) : Answers (Machine.execEventFetch role from_ count s) :=
    .run (hb.cmd (fun _ h1 => .ite h1.refuse h1.done.withCmds))

/-! ### The operations of `Stops` -/

/-- Nothing of memory survives (R336). -/
theorem powerOff (_ : InForm b) : InForm b.powerOff := nil_memWf
theorem logAndOff (hb : InForm b) : InForm b.logAndOff := hb.powerOff
theorem darkStop {e args} (hb : InForm b) : InForm (Block.darkStop b e args) := hb.raise.logAndOff
theorem abruptReset (_ : InForm b) : InForm b.abruptReset := nil_memWf

theorem condemn {cause} (hb : InForm b) : InForm (Block.condemn b cause) :=
    InForm.wire (InForm.setAlert (InForm.raise (InForm.ite (InForm.setLevel (InForm.foldl (fun _ h0 _ => h0.dropCheck)
    hb.updSilent.noteRepair)) (InForm.foldl (fun _ h0 _ => h0.dropCheck) hb.updSilent.noteRepair))))

theorem settleSuspect (hb : InForm b) : InForm (Block.settleSuspect b) := .ite hb.condemn hb

theorem execDark {s role} (hb : InForm s.blk) : Answers (Machine.execDark role s) := by
  unfold Machine.execDark
  refine .run ?_
  dsimp only
  refine hb.cmd (fun _ h1 => ?_)
  refine .ite h1.refuse ?_
  exact InForm.withCmds (InForm.logAndOff (InForm.finishSts (InForm.settleSuspect (InForm.foldl (fun _ h1 _ => h1.destroyCtx)
    h1.accept))))

theorem execHubLost {s} (hb : InForm s.blk) : Answers (Machine.execHubLost s) := .run (.ite hb hb.abruptReset.withStart)

/-! ### The operations of `Power` -/

theorem updLimit (hb : InForm b) : InForm (Block.updLimit b) := .ite hb.withPower hb.withPower.raise.wire
theorem updPower {f} (hb : InForm b) : InForm (Block.updPower b f) := hb.withPower
theorem regrant {cl} (hb : InForm b) : InForm (Block.regrant b cl) := .ite hb hb.updCluster
theorem regrantAll (hb : InForm b) : InForm (Block.regrantAll b) := .foldl (fun _ h0 _ => h0.regrant) hb
theorem unboost {l} (hb : InForm b) : InForm (Block.unboost b l) := .ite hb.updPower.updLantern.reOp hb.updPower

theorem boostStep {l old} (hb : InForm b) : InForm (Block.boostStep b l old) :=
    .ite hb.unboost (.ite hb (.ite hb.updPower (.ite hb hb.updLantern.reOp)))

theorem windowCounts {l a} (hb : InForm b) : InForm (Block.windowCounts b l a) := hb.updPower

theorem execPowerWindow {s acts} (hb : InForm s.blk) : Answers (Machine.execPowerWindow acts s) := by
  unfold Machine.execPowerWindow
  refine .run (.ite hb ?_)
  extract_lets b actOf es sum eta k p lim old plan cut floorAll low keepersLow rates b1 b2 b3 stuck b4 b5 b6
  have h1 : InForm b1 := .foldl (fun _ h _ => h.updLantern) hb.updLimit
  have h2 : InForm b2 := .ite (.foldl (fun _ h _ => h.updCluster) h1) (.ite (.foldl (fun _ h _ => h.updCluster) h1) h1)
  have h4 : InForm b4 := h2.regrantAll.updPower
  have h5 : InForm b5 := .ite h4.raise h4
  have h6 : InForm b6 := .foldl (fun _ h _ => h.boostStep.windowCounts) h5
  exact .foldl (fun _ h _ => .ite h.updCluster h) h6

theorem execEstimatorRefit {s} (hb : InForm s.blk) : Answers (Machine.execEstimatorRefit s) := .run (.ite hb hb.updPower)

theorem execDisagreementCheck {s m e persisted} (hb : InForm s.blk) : Answers (Machine.execDisagreementCheck m e persisted s) := by
  unfold Machine.execDisagreementCheck
  refine .run ?_
  dsimp only
  refine .ite hb ?_
  refine .ite hb.updPower ?_
  refine .ite (InForm.updPower (InForm.raise (InForm.ite (InForm.ite hb.updPower.updPower.raise.updPower hb.updPower) (InForm.ite
    (InForm.ite hb.updPower.raise.updPower hb.updPower) hb.updPower.updPower)))) ?_
  refine .ite (InForm.updPower (InForm.ite (InForm.ite hb.updPower.updPower.raise.updPower hb.updPower) (InForm.ite (InForm.ite
    hb.updPower.raise.updPower hb.updPower) hb.updPower.updPower))) ?_
  refine .ite (.ite hb.updPower.updPower.raise.updPower hb.updPower) ?_
  exact .ite (.ite hb.updPower.raise.updPower hb.updPower) hb.updPower.updPower

theorem heat {u t} (hb : InForm b) : InForm (Block.heat b u t) := by
  unfold Block.heat
  dsimp only
  split
  · exact hb
  · refine .ite ?_ ?_
    · refine .ite (InForm.regrantAll (InForm.ite (InForm.setAlert (InForm.raise (InForm.ite hb.updPower
        hb.updPower.updPower.raise.wire))) (InForm.ite hb.updPower hb.updPower.updPower.raise.wire))) ?_
      refine .ite (InForm.setAlert (InForm.raise (InForm.ite hb.updPower hb.updPower.updPower.raise.wire))) ?_
      exact .ite hb.updPower hb.updPower.updPower.raise.wire
    · refine .ite ?_ hb.updPower
      refine .ite (InForm.regrantAll (InForm.ite hb.updPower hb.updPower.clearAlert)) ?_
      exact .ite hb.updPower hb.updPower.clearAlert

theorem execThermalSample {s unit milliC} (hb : InForm s.blk) : Answers (Machine.execThermalSample unit milliC s) :=
    .run (.ite hb hb.heat)

theorem execThermalTrip {s unit} (hb : InForm s.blk) : Answers (Machine.execThermalTrip unit s) := by
  unfold Machine.execThermalTrip
  refine .run ?_
  split
  · exact hb
  · exact .ite hb hb.updPower.raise.logAndOff

theorem shed (hb : InForm b) : InForm (Block.shed b) := InForm.regrantAll (InForm.withGuests (InForm.ite hb (InForm.foldl (fun _ h0 _
    => h0.unboost.updLantern) hb)))

theorem enterDim {step} (hb : InForm b) : InForm (Block.enterDim b step) := .ite hb.updPower.wire.logAndOff hb.updPower.wire.shed
theorem execDimStepEnter {s step} (hb : InForm s.blk) : Answers (Machine.execDimStepEnter step s) := .run (.ite hb hb.enterDim)
theorem execDimStepExit {s step} (hb : InForm s.blk) : Answers (Machine.execDimStepExit step s) := .run (.ite hb hb.updPower.wire.shed)
theorem sensed {n} (hb : InForm b) : InForm (Block.sensed b n) := .ite hb.updPower.updLimit (.ite hb.updLimit (.ite hb.heat hb))
theorem resense (hb : InForm b) : InForm (Block.resense b) := .foldl (fun _ h0 _ => .ite h0.sensed h0) hb

/-! ### The operations of `Tray` -/

theorem execSupplyHigh {s} (hb : InForm s.blk) : Answers (Machine.execSupplyHigh s) := .run (.ite hb hb.raise.setAlert)
theorem execSupplyHighClear {s} (hb : InForm s.blk) : Answers (Machine.execSupplyHighClear s) := .run (.ite hb hb.clearAlert)
theorem execSupplyOvervoltage {s} (hb : InForm s.blk) : Answers (Machine.execSupplyOvervoltage s) := .run (.ite hb hb.abruptReset.same)

theorem execCoolantWarm {s} (hb : InForm s.blk) : Answers (Machine.execCoolantWarm s) :=
    .run (.ite hb hb.raise.setAlert.updPower.updLimit)

theorem execCoolantDerateClear {s} (hb : InForm s.blk) : Answers (Machine.execCoolantDerateClear s) :=
    .run (.ite hb hb.clearAlert.updPower.updLimit)

theorem execCoolantHot {s} (hb : InForm s.blk) : Answers (Machine.execCoolantHot s) := .run (.ite hb hb.setAlert.darkStop)
theorem execCoolantLeak {s trace} (hb : InForm s.blk) : Answers (Machine.execCoolantLeak trace s) := .run (.ite hb hb.setAlert.darkStop)

theorem execFlowLost {s returned} (hb : InForm s.blk) : Answers (Machine.execFlowLost returned s) :=
    .run (.ite (.ite hb.raise hb) (.ite hb.withTray.setAlert.darkStop hb.withTray))

theorem execTrayPowerWarn {s} (hb : InForm s.blk) : Answers (Machine.execTrayPowerWarn s) :=
    .run (.ite hb.withTray.raise.logAndOff hb.withTray)

theorem execTrayReset {s lowNs} (hb : InForm s.blk) : Answers (Machine.execTrayReset lowNs s) :=
    .run (.ite hb (.ite hb.withTray (.ite hb.abruptReset.withTray.clearAlert hb.abruptReset)))

theorem execSlotIdSample {s samples atStart} (hb : InForm s.blk) : Answers (Machine.execSlotIdSample samples atStart s) :=
    .run (.ite hb (.ite (.ite hb.withTray.clearAlert hb.withTray.raise.setAlert) (.ite hb.withTray hb.withTray.raise)))

theorem sensorAlert (hb : InForm b) : InForm (Block.sensorAlert b) := .ite hb.setAlert hb.clearAlert
theorem belowStep {n} (hb : InForm b) : InForm (Block.belowStep b n) := .ite hb.withTray hb

theorem execSensorSample {s sensor reading} (hb : InForm s.blk) : Answers (Machine.execSensorSample sensor reading s) := by
  unfold Machine.execSensorSample
  refine .run ?_
  dsimp only
  split
  · exact hb
  · refine .ite ?_ hb.setSensor.belowStep
    refine .ite hb.setSensor.sensorAlert.belowStep ?_
    exact .ite hb.setSensor.sensorAlert.belowStep.updPower.updLimit hb.setSensor.sensorAlert.belowStep.sensed

theorem execSensorInvalid {s sensor} (hb : InForm s.blk) : Answers (Machine.execSensorInvalid sensor s) := by
  unfold Machine.execSensorInvalid
  refine .run ?_
  dsimp only
  refine .ite hb ?_
  refine .ite ?_ hb.setSensor.raise.sensorAlert.sensed
  refine .ite hb.setSensor.raise.sensorAlert.sensed.enterDim ?_
  exact .ite hb.setSensor.raise.sensorAlert.sensed hb.setSensor.raise.sensorAlert.sensed.updPower.wire.shed

theorem execServiceBusNoBeacon {s} (hb : InForm s.blk) : Answers (Machine.execServiceBusNoBeacon s) := .run (.ite hb hb.withTray.raise)
theorem execServiceBusBeacon {s} (hb : InForm s.blk) : Answers (Machine.execServiceBusBeacon s) := .run hb.withTray

/-! ### The operations of `Start` -/

theorem updStart {f} (hb : InForm b) : InForm (Block.updStart b f) := hb.withStart
theorem startFail {step e} (hb : InForm b) : InForm (Block.startFail b step e) := hb.updStart
theorem measureImage {cls slot} (hb : InForm b) : InForm (Block.measureImage b cls slot) := hb.withSecurity
theorem openLog (hb : InForm b) : InForm (Block.openLog b) := hb.reserveSeq.hubRecord

theorem flashFound {ok0 ok1} (hb : InForm b) : InForm (Block.flashFound b ok0 ok1) := by
  unfold Block.flashFound
  dsimp only
  refine .ite (InForm.clearAlert (InForm.ite (InForm.ite hb.withTray hb.withTray.raise.raise) (InForm.raise (InForm.raise (InForm.ite
    hb.withTray hb.withTray.raise.raise))))) ?_
  exact InForm.setAlert (InForm.ite (InForm.ite hb.withTray hb.withTray.raise.raise) (InForm.raise (InForm.raise (InForm.ite
    hb.withTray hb.withTray.raise.raise))))

theorem failDevice {k} (hb : InForm b) : InForm (Block.failDevice b k) := hb.withTray.raise.raise.setAlert

theorem flashVerdicts {k bad} (hb : InForm b) : InForm (Block.flashVerdicts b k bad) := by
  unfold Block.flashVerdicts
  dsimp only
  refine .ite hb ?_
  refine .ite (InForm.failDevice (InForm.withTray (InForm.foldl (fun _ h0 _ => h0.raise) hb))) ?_
  exact InForm.withTray (InForm.foldl (fun _ h0 _ => h0.raise) hb)

theorem hubRuns {inp slot} (hb : InForm b) : InForm (b.hubRuns inp slot) := by
  unfold Block.hubRuns
  extract_lets other b1 found tray b2 b3 b4 b5 b6 b7 b8
  have h2 : InForm b2 := (InForm.flashFound (b := b1) hb.updStart.openLog).withTray.flashVerdicts.flashVerdicts
  have h3 : InForm b3 := h2.updFw.measureImage
  have h4 : InForm b4 := .ite h3.raise h3
  have h5 : InForm b5 := .ite h4 h4.withFirmware.raise
  have h6 : InForm b6 := h5.measure
  have h7 : InForm b7 := .ite h6.raise.updStart h6
  have h8 : InForm b8 := .ite h7.raise.updStart h7
  exact .ite h8.setAlert h8

theorem settleStore (hb : InForm b) : InForm (Block.settleStore b) := .ite hb hb.updStore.measure

theorem storeStep {inp} (hb : InForm b) : InForm (Block.storeStep b inp).1 := by
  unfold Block.storeStep
  dsimp only
  split
  · exact hb.withStore.setLevel.raise.setAlert.startFail.updStart
  · exact InForm.updLimit (InForm.setLevel (InForm.measure (InForm.foldl (fun _ h1 _ => h1.raise) hb.same)))

theorem useMap {m} (hb : InForm b) : InForm (Block.useMap b m) := hb.same

theorem mapStep {inp} (hb : InForm b) : InForm (Block.mapStep b inp) := by
  unfold Block.mapStep
  dsimp only
  refine .ite hb.raise.setAlert.startFail.updStart ?_
  refine .ite ?_ ?_
  · exact InForm.setAlert (InForm.updSilent (InForm.measure (InForm.foldl (fun _ h0 _ => h0.raise) (InForm.updStore (by
      split
      · exact hb.useMap
      · exact hb)))))
  · exact InForm.clearAlert (InForm.updSilent (InForm.measure (InForm.foldl (fun _ h0 _ => h0.raise) (InForm.updStore (by
      split
      · exact hb.useMap
      · exact hb)))))

theorem coldSteps {kind inp} (hb : InForm b) : InForm (Block.coldSteps b kind inp) := by
  unfold Block.coldSteps
  dsimp only
  refine .ite hb.settleStore.updStart.startFail.updStart ?_
  split
  · exact hb.settleStore.updStart.startFail.updStart
  · refine .ite hb.settleStore.updStart.withSecurity.hubRuns.measure.storeStep.mapStep ?_
    exact hb.settleStore.updStart.withSecurity.hubRuns.measure.storeStep

theorem standbyUp (hb : InForm b) : InForm (Block.standbyUp b) := hb.same

theorem execColdStart {s kind inp} (hb : InForm s.blk) : Answers (Machine.execColdStart kind inp s) :=
    .run (.ite (.ite hb (InForm.coldSteps (InForm.standbyUp (InForm.ite hb hb.abruptReset)))) (.ite hb hb.coldSteps))

theorem execHubRomRetry {s inp} (hb : InForm s.blk) : Answers (Machine.execHubRomRetry inp s) := .run (.ite hb.coldSteps hb)

theorem siteFails {e site} (hb : InForm b) : InForm (Block.siteFails b e site) := by
  unfold Block.siteFails
  dsimp only
  refine .ite hb.updSilent.noteRepair.raise ?_
  split
  · exact hb
  · split
    · exact InForm.takeSpare (InForm.ite hb.raise hb)
    · exact InForm.needSpare (InForm.ite (InForm.updLantern (InForm.ite hb.raise hb)) (InForm.raise (InForm.updLantern (InForm.ite
        hb.raise hb))))

theorem sitesFail {e sites} (hb : InForm b) : InForm (Block.sitesFail b e sites) := .foldl (fun _ h0 _ => h0.siteFails) hb

theorem clockStep {inp} (hb : InForm b) : InForm (Block.clockStep b inp) :=
    InForm.sitesFail (InForm.withChannels (InForm.foldl (fun _ h0 _ => h0.updPort) (.foldl (fun _ h0 _ => h0.updCluster) (.foldl (fun _
    h0 _ => .ite h0.updFw.measureImage.raise h0.updFw.measureImage) hb))))

theorem linkStep {inp} (hb : InForm b) : InForm (Block.linkStep b inp) := .foldl (fun _ h0 _ => h0.trainLink) hb
theorem stackFails {d ch} (hb : InForm b) : InForm (Block.stackFails b d ch) := hb.updChannel.setTier.raise.setAlert
theorem bulkFails {c} (hb : InForm b) : InForm (Block.bulkFails b c) := hb.updChannel.raise.setAlert

theorem memStep {inp} (hb : InForm b) : InForm (Block.memStep b inp) :=
    InForm.setLevel (InForm.foldl (fun _ h0 _ => .ite h0 h0.retireNow.raise) (.foldl (fun _ h0 _ => h0.bulkFails) (.foldl (fun _ h0 _
    => h0.stackFails) hb.clearAlert.clearAlert.clearAlert)))

theorem scanStep {inp} (hb : InForm b) : InForm (Block.scanStep b inp) := by
  unfold Block.scanStep
  dsimp only
  refine .ite (.foldl (fun _ h0 _ => h0.updPort.raise) (.foldl (fun _ h0 _ => h0.raise) (.foldl (fun _ h0 _ =>
    h0.updSinker.setTier.raise.setAlert) hb.sitesFail))) ?_
  exact InForm.condemn (InForm.updSilent (InForm.foldl (fun _ h0 _ => h0.updPort.raise) (.foldl (fun _ h0 _ => h0.raise) (.foldl (fun _
    h0 _ => h0.updSinker.setTier.raise.setAlert) hb.sitesFail))))

theorem guestEvent {g e args} (hb : InForm b) : InForm (Block.guestEvent b g e args) := hb.raise.wire

theorem admitGuest {g a} (hb : InForm b) : InForm (Block.admitGuest b g a) := by
  unfold Block.admitGuest
  split
  · exact hb.updGuest.measure
  · exact hb.updGuest.guestEvent

theorem lightStep {inp scan} (hb : InForm b) : InForm (Block.lightStep b inp scan) := by
  unfold Block.lightStep
  dsimp only
  split
  · exact InForm.updStart (InForm.startFail (InForm.setAlert (InForm.raise (InForm.measure (InForm.foldl (fun _ h1 _ => h1.updLantern)
      hb.updStart)))))
  · exact InForm.startFail (InForm.clearAlert (InForm.clearAlert (InForm.clearAlert (InForm.setLevel (InForm.foldl (fun _ h1 _ => .ite
      h1 h1.updCluster) (InForm.measure (InForm.foldl (fun _ h1 _ => h1.updLantern) hb.updStart)))))))

theorem stuckAt {step e alert args} (hb : InForm b) : InForm (Block.stuckAt b step e alert args) := hb.raise.setAlert.startFail.updStart

theorem railSteps {inp scan} (hb : InForm b) : InForm (b.railSteps inp scan) := by
  unfold Block.railSteps
  extract_lets off _ b1 b2 bad _ b3 b4 b5 b6
  have hoff {c : Block} (h : InForm c) : InForm (off c) := h.withTray
  have h1 : InForm b1 := hb.withTray
  have h3 : InForm b3 := h1.clockStep.linkStep.withTray
  have h4 : InForm b4 := h3.memStep.resense
  have h5 : InForm b5 := .ite h4.scanStep h4
  have h6 : InForm b6 := .ite (.foldl (fun _ h _ => h.admitGuest) h5) h5
  exact .ite (hoff hb).stuckAt (.ite (hoff h1).stuckAt (.ite h3.stuckAt (.ite h3.stuckAt (.ite h4.stuckAt h6.lightStep))))

theorem execMainRailsStart {s inp} (hb : InForm s.blk) : Answers (Machine.execMainRailsStart inp s) := by
  unfold Machine.execMainRailsStart
  refine .run ?_
  dsimp only
  refine .ite hb ?_
  refine .ite hb.withTray ?_
  split
  · exact .ite hb.withTray hb.withTray.raise.updStart
  · exact hb.withTray.updStart.railSteps

theorem warmUnits {n} (_ : InForm b) : InForm (b.warmUnits n) := nil_memWf

theorem warmSteps {hub inp cold} (hb : InForm b) : InForm (Block.warmSteps b hub inp cold) := by
  unfold Block.warmSteps
  dsimp only
  split
  · exact hb.settleStore.setLevel.startFail.updStart
  next c he =>
    refine .ite ((((InFormOpt.ite (InFormOpt.map (fun _ => hb.settleStore.hubRuns.withTray)) (InFormOpt.some
      hb.settleStore.updStart.openLog)) _ he).measure).storeStep) ?_
    refine .ite (((((InFormOpt.ite (InFormOpt.map (fun _ => hb.settleStore.hubRuns.withTray)) (InFormOpt.some
      hb.settleStore.updStart.openLog)) _ he).measure).storeStep).mapStep) ?_
    refine .ite ((((((InFormOpt.ite (InFormOpt.map (fun _ => hb.settleStore.hubRuns.withTray)) (InFormOpt.some
      hb.settleStore.updStart.openLog)) _ he).measure).storeStep).mapStep).railSteps) ?_
    refine .ite (((((InFormOpt.ite (InFormOpt.map (fun _ => hb.settleStore.hubRuns.withTray)) (InFormOpt.some
      hb.settleStore.updStart.openLog)) _ he).measure).storeStep).mapStep) ?_
    exact ((((((InFormOpt.ite (InFormOpt.map (fun _ => hb.settleStore.hubRuns.withTray)) (InFormOpt.some
      hb.settleStore.updStart.openLog)) _ he).measure).storeStep).mapStep).raise).updStart

theorem execWarm {s role inp cold} (hb : InForm s.blk) : Answers (Machine.execWarm role inp cold s) := by
  unfold Machine.execWarm
  refine .run ?_
  dsimp only
  refine hb.cmd (fun _ h1 => ?_)
  refine .ite h1.refuse ?_
  exact InForm.withCmds (InForm.finishSts (InForm.warmSteps (InForm.warmUnits (InForm.setLevel (InForm.settleSuspect (InForm.foldl (fun
    _ h1 _ => h1.destroyCtx) h1.accept))))))

/-! ### The operations of `Keepers` -/

theorem setX {h r v} (hb : InForm b) : InForm (Block.setX b h r v) := .ite hb hb.updHart
theorem trap {h cause tval} (hb : InForm b) : InForm (Block.trap b h cause tval) := hb.updHart
theorem onHart {h f} (hb : InForm b) (hf : ∀ c, InForm c → InForm (f c)) : InForm (Block.onHart b h f) := .ite (hf _ hb) hb

theorem mailSend {m len} (hb : InForm b) : InFormOpt (Block.mailSend b m len) :=
    InFormOpt.ite InFormOpt.none (InFormOpt.some hb.setMailbox)

theorem mailReplyDone {m} (hb : InForm b) : InForm (Block.mailReplyDone b m) := hb.updMailbox
theorem mailEventDone {m} (hb : InForm b) : InForm (Block.mailEventDone b m) := hb.updMailbox.pushTo

theorem mailStore {m o v} (hb : InForm b) : InFormOpt (Block.mailStore b m o v) := by
  unfold Block.mailStore
  dsimp only
  refine InFormOpt.ite (InFormOpt.ite hb.mailSend (InFormOpt.some hb.updMailbox)) ?_
  refine InFormOpt.ite (InFormOpt.some (.ite (InForm.mailEventDone (InForm.ite hb.mailReplyDone hb)) (.ite hb.mailReplyDone hb))) ?_
  exact InFormOpt.ite (InFormOpt.some hb.updMailbox) (InFormOpt.some hb)

theorem execMailboxSend {s mb len hart} (hb : InForm s.blk) : Answers (Machine.execMailboxSend mb len hart s) := by
  unfold Machine.execMailboxSend
  refine .run ?_
  refine hb.onHart (fun _ h1 => ?_)
  refine .ite h1 ?_
  split
  next d he1 => exact (h1.mailSend _ he1).same
  · exact h1.trap

theorem execReplyDone {s mb} (hb : InForm s.blk) : Answers (Machine.execReplyDone mb s) := .run (.ite hb hb.mailReplyDone)
theorem execEventDone {s mb} (hb : InForm s.blk) : Answers (Machine.execEventDone mb s) := .run (.ite hb hb.mailEventDone)
theorem perfStore {cl v} (hb : InForm b) : InForm (Block.perfStore b cl v) := hb.updCluster.regrant
theorem execPerfWrite {s cl v} (hb : InForm s.blk) : Answers (Machine.execPerfWrite cl v s) := .run (.ite hb hb.perfStore)

theorem execPllRelockDone {s cl} (hb : InForm s.blk) : Answers (Machine.execPllRelockDone cl s) := by
  unfold Machine.execPllRelockDone
  refine .run ?_
  dsimp only
  refine .ite hb ?_
  refine .ite hb.setCluster ?_
  split
  · exact hb.setCluster.withErrors.restartLocal.finishSts
  · exact hb.setCluster.withErrors.restartLocal

theorem slotStore {t k w v} (hb : InForm b) : InFormOpt (Block.slotStore b t k w v) := by
  unfold Block.slotStore
  dsimp only
  split
  · exact InFormOpt.some hb.updTile
  · exact InFormOpt.some hb.updTile
  · exact InFormOpt.some hb.updTile
  · split
    · exact InFormOpt.some hb.updTile
    · exact InFormOpt.ite InFormOpt.none (InFormOpt.some hb.updTile.updTile)
  · exact InFormOpt.some hb

theorem aplicBit {sup o src} (hb : InForm b) : InForm (Block.aplicBit b sup o src) :=
    .ite hb (.ite hb.aplicPend (.ite hb.setAplic (.ite hb.setAplic.aplicDeliver (.ite hb.setAplic hb))))

theorem aplicCfg {sup src v} (hb : InForm b) : InForm (Block.aplicCfg b sup src v) := .ite hb hb.setAplic

theorem aplicStore {sup o v} (hb : InForm b) : InForm (Block.aplicStore b sup o v) := by
  unfold Block.aplicStore
  dsimp only
  refine .ite (.foldl (fun _ h0 _ => h0.aplicDeliver) hb.setAplic) ?_
  refine .ite hb.aplicCfg ?_
  refine .ite hb.aplicBit ?_
  refine .ite (.foldl (fun _ h0 _ => .ite h0.aplicBit h0) hb) ?_
  refine .ite (.foldl (fun _ h0 _ => .ite h0.aplicBit h0) hb) ?_
  refine .ite (.foldl (fun _ h0 _ => .ite h0.aplicBit h0) hb) ?_
  exact .ite (.foldl (fun _ h0 _ => .ite h0.aplicBit h0) hb) (.ite hb.aplicSend (.ite hb.setAplic hb))

theorem devStore {pa n v} (hb : InForm b) : InFormOpt (Block.devStore b pa n v) := by
  unfold Block.devStore
  dsimp only
  refine InFormOpt.ite InFormOpt.none ?_
  refine InFormOpt.ite (InFormOpt.ite hb.mailStore InFormOpt.none) ?_
  refine InFormOpt.ite (InFormOpt.ite (InFormOpt.some hb.aplicStore) InFormOpt.none) ?_
  refine InFormOpt.ite (InFormOpt.ite (InFormOpt.some (.ite hb.perfStore hb)) InFormOpt.none) ?_
  refine InFormOpt.ite (InFormOpt.ite hb.slotStore InFormOpt.none) ?_
  refine InFormOpt.ite (InFormOpt.ite (InFormOpt.some hb.portRegWrite) InFormOpt.none) ?_
  exact InFormOpt.ite (InFormOpt.ite (InFormOpt.some hb) InFormOpt.none) InFormOpt.none

theorem execPostedWritePerform {s hart} (hb : InForm s.blk) : Answers (Machine.execPostedWritePerform hart s) := .run hb.postedPerform

theorem execDeviceTimeout {s access} (hb : InForm s.blk) : Answers (Machine.execDeviceTimeout access s) := by
  unfold Machine.execDeviceTimeout
  refine .run ?_
  split
  · exact hb.onHart (fun _ h1 => h1.trap.raise)
  · split
    · exact hb
    · exact hb.updHart.raise

theorem execInterruptWrite {s pa size v fromHart} (hb : InForm s.blk) : Answers (Machine.execInterruptWrite pa size v fromHart s) :=
    .run (.ite hb (.ite hb.msi (.ite hb hb.raise)))

theorem storeLost {h pa e} (hb : InForm b) : InForm (Block.storeLost b h pa e) := .ite hb.raise hb.raise.msi

theorem kStoreIn {h pa n v nc} (hb : InForm b) : InFormRes (fun c => c) (fun c => c) (Block.kStoreIn b h pa n v nc) := by
  unfold Block.kStoreIn
  split
  · exact hb.storeLost
  · split
    next c he1 => exact ((InFormRes.ite hb.write hb.storeLine).ok he1).same
    next c he1 => exact ((InFormRes.ite hb.write hb.storeLine).error he1).same
    next c he1 => exact ((InFormRes.ite hb.write hb.storeLine).error he1).storeLost
    next _ c he1 => exact ((InFormRes.ite hb.write hb.storeLine).error he1).storeLost

theorem kStore {h pa n v nc} (hb : InForm b) : InFormRes (fun c => c) (fun c => c) (Block.kStore b h pa n v nc) := by
  unfold Block.kStore
  dsimp only
  refine InFormRes.ite hb.kStoreIn ?_
  split
  next c he => exact (hb.kStoreIn.ok he).kStoreIn
  next c he => exact (hb.kStoreIn.error he).same

theorem kPoison {h pa} (hb : InForm b) : InForm (Block.kPoison b h pa) := hb.withErrors.raise.trap
theorem putReg {h rd n v signed} (hb : InForm b) : InForm (Block.putReg b h rd n v signed) := .ite hb.setX (.ite hb.updHart hb.updHart)

theorem hartLoad {h rd pa n signed nc} (hb : InForm b) : InForm (b.hartLoad h rd pa n signed nc) := by
  have hc : InForm (if pa < imsicEnd then b.postedAll h else b) := .ite hb.postedAll hb
  unfold Block.hartLoad
  refine .ite ?_ ?_
  · dsimp only
    split
    · exact hc.putReg
    · exact hc.trap
  · split
    next he => exact hb.kLoad.wait he
    · exact hb.trap
    next he => exact (hb.kLoad.poison he).kPoison
    next he => exact (hb.kLoad.ok he).putReg

theorem hartStore {h pa n v nc} (hb : InForm b) : InForm (Block.hartStore b h pa n v nc) := by
  unfold Block.hartStore
  refine .ite hb.trap ?_
  refine .ite (.ite (.ite hb.updHart hb.trap) (InFormOpt.getD hb.devStore hb.trap)) ?_
  split
  next c he => exact (hb.kStore.ok he).same
  next c he => exact (hb.kStore.error he).same

theorem execKeeperLoad {s hart rd pa size kind} (hb : InForm s.blk) : Answers (Machine.execKeeperLoad hart rd pa size kind s) :=
    .run (hb.onHart (fun _ h1 => .ite h1.hartLoad h1))

theorem execKeeperStore {s hart pa size v} (hb : InForm s.blk) : Answers (Machine.execKeeperStore hart pa size v s) :=
    .run (hb.onHart (fun _ h1 => .ite h1.hartStore h1))

theorem putAmo {h rd n old} (hb : InForm b) : InForm (Block.putAmo b h rd n old) := .ite (.ite hb hb.setX.setX) hb.setX

theorem execKeeperAmo {s hart rd pa op size x cmp} (hb : InForm s.blk) : Answers (Machine.execKeeperAmo hart rd pa op size x cmp s) :=
    by
  unfold Machine.execKeeperAmo
  refine .run ?_
  refine hb.onHart (fun _ h1 => ?_)
  refine .ite h1 ?_
  split
  · exact h1.trap
  · refine .ite h1.trap ?_
    split
    · exact h1
    next _ _ he2 => exact (h1.atomicAt.error he2).trap
    next _ _ _ he2 => exact .ite ((h1.atomicAt.ok he2).kPoison) ((h1.atomicAt.ok he2).putAmo)

theorem execLr {s hart rd pa size} (hb : InForm s.blk) : Answers (Machine.execLr hart rd pa size s) := by
  refine .run (hb.onHart fun _ hc => .ite hc ?_)
  split
  · exact hc.trap
  · refine .ite hc.trap ?_
    split
    next he => exact hc.kLoad.wait he
    · exact hc.trap
    next he => exact (hc.kLoad.poison he).kPoison
    next he => exact (hc.kLoad.ok he).setX.updHart

theorem execSc {s hart rd pa size v} (hb : InForm s.blk) : Answers (Machine.execSc hart rd pa size v s) := by
  unfold Machine.execSc
  refine .run ?_
  dsimp only
  refine hb.onHart (fun _ h1 => ?_)
  refine .ite h1 ?_
  split
  · exact h1.trap
  · refine .ite h1.trap ?_
    refine .ite h1.setX.updHart ?_
    split
    next d he2 => exact ((h1.storeLine.ok he2).setX).updHart
    next _ he2 => exact (h1.storeLine.error he2).same
    next _ _ he2 => exact (h1.storeLine.error he2).trap

theorem execKeeperFence {s hart io} (hb : InForm s.blk) : Answers (Machine.execKeeperFence hart io s) :=
    .run (hb.onHart (fun _ h1 => .ite h1.postedAll h1))

theorem cbo {h pa o} (hb : InForm b) : InForm (b.cbo h pa o) := by
  unfold Block.cbo
  split
  · exact hb.trap
  · exact .ite hb (rangeOp hb)

theorem execCboClean {s hart pa} (hb : InForm s.blk) : Answers (Machine.execCboClean hart pa s) := .run (hb.onHart (fun _ h1 => h1.cbo))
theorem execCboFlush {s hart pa} (hb : InForm s.blk) : Answers (Machine.execCboFlush hart pa s) := .run (hb.onHart (fun _ h1 => h1.cbo))

theorem execCboInval {s hart pa} (hb : InForm s.blk) : Answers (Machine.execCboInval hart pa s) :=
    .run (hb.onHart (fun _ h1 => .ite h1.cbo (.ite h1.cbo h1.trap)))

theorem execCboZero {s hart pa} (hb : InForm s.blk) : Answers (Machine.execCboZero hart pa s) := by
  unfold Machine.execCboZero
  refine .run ?_
  refine hb.onHart (fun _ h1 => ?_)
  split
  · exact h1.trap
  · split
    next _ he2 => exact (h1.write.ok he2).same
    · exact h1
    next _ he2 => exact (h1.write.error he2).storeLost
    next _ _ he2 => exact (h1.write.error he2).storeLost

theorem wrsStall {h w} (hb : InForm b) : InForm (Block.wrsStall b h w) := .ite hb hb.updHart

theorem execWrsNto {s hart traps} (hb : InForm s.blk) : Answers (Machine.execWrsNto hart traps s) :=
    .run (hb.onHart (fun _ h1 => h1.wrsStall))

theorem execWrsSto {s hart} (hb : InForm s.blk) : Answers (Machine.execWrsSto hart s) := .run (hb.onHart (fun _ h1 => h1.wrsStall))

theorem execWrsTimeout {s hart} (hb : InForm s.blk) : Answers (Machine.execWrsTimeout hart s) := by
  unfold Machine.execWrsTimeout
  refine .run ?_
  split
  · exact hb.updHart
  · exact hb.trap
  · exact hb

theorem xgsv {h w f3 rsvZero body} (hb : InForm b) (hbody : ∀ c, InForm c → InForm (body c)) : InForm (Block.xgsv b h w f3 rsvZero
    body) := hb.onHart (fun _ h1 => .ite h1 (.ite h1.trap (.ite h1 (.ite (hbody _ h1) h1.trap))))

theorem execGsvFence {s hart _priv w} (hb : InForm s.blk) : Answers (Machine.execGsvFence hart _priv w s) :=
    .run (hb.xgsv (fun _ h1 => .ite h1.trap (.ite h1.postedAll h1)))

theorem execGsvLdAq {s hart _priv w} (hb : InForm s.blk) : Answers (Machine.execGsvLdAq hart _priv w s) :=
    .run (hb.xgsv (fun _ h1 => .ite h1.trap h1.hartLoad))

theorem execGsvSdRl {s hart _priv w} (hb : InForm s.blk) : Answers (Machine.execGsvSdRl hart _priv w s) :=
    .run (hb.xgsv (fun _ h1 => .ite h1.trap h1.hartStore))

theorem setGsvCsr {h csr v} (hb : InForm b) : InForm (Block.setGsvCsr b h csr v) := .ite hb.updHart hb.updHart

theorem csrAccess {h priv w} (hb : InForm b) : InForm (Block.csrAccess b h priv w) := by
  unfold Block.csrAccess
  dsimp only
  refine .ite hb ?_
  refine .ite (.ite hb.trap hb.setX) ?_
  refine .ite hb ?_
  split
  · exact hb.trap
  · exact hb.trap
  · exact hb.trap
  · exact InForm.setX (InForm.ite hb.setGsvCsr hb)

theorem execGsvRange {s hart priv w} (hb : InForm s.blk) : Answers (Machine.execGsvRange hart priv w s) := by
  unfold Machine.execGsvRange
  refine .run ?_
  dsimp only
  refine .ite (hb.onHart (fun c h1 => h1.csrAccess)) ?_
  refine hb.xgsv (fun _ h1 => ?_)
  split
  · exact h1.trap
  · exact h1.trap
  · exact h1.trap
  · split
    · exact h1.trap
    · exact .ite h1.setX (.ite h1.setX h1.updTile.setX)

/-! ### The operations of `Scalar` -/

theorem writesD {k w v} (hb : InForm b) : InForm (Block.writesD b k w v) := hb.setG.advance

theorem control {l h w op unused body} (hb : InForm b) (hbody : ∀ c, InForm c → InForm (body c)) : InForm (Block.control b l h w op
    unused body) := hb.issue hbody

theorem branch {l h w op cond} (hb : InForm b) : InForm (Block.branch b l h w op cond) :=
    hb.control (fun _ h1 => .ite h1.goto h1.advance)

theorem integer {l h w op f} (hb : InForm b) : InForm (Block.integer b l h w op f) := hb.issue (fun _ h1 => h1.writesD)
theorem float {l h w op f} (hb : InForm b) : InForm (Block.float b l h w op f) := hb.issue (fun _ h1 => h1.writesD)
theorem unary {l h w op f} (hb : InForm b) : InForm (Block.unary b l h w op f) := hb.issue (fun _ h1 => h1.writesD)
theorem execNop {s l h w} (hb : InForm s.blk) : Answers (Machine.execNop l h w s) := .run (hb.control (fun _ h1 => h1.advance))
theorem execEndProg {s l h w} (hb : InForm s.blk) : Answers (Machine.execEndProg l h w s) := .run (hb.control (fun _ h1 => h1.endReq))
theorem execRaise {s l h w} (hb : InForm s.blk) : Answers (Machine.execRaise l h w s) := .run (hb.control (fun _ h1 => h1.exc))
theorem execJ {s l h w} (hb : InForm s.blk) : Answers (Machine.execJ l h w s) := .run (hb.control (fun _ h1 => h1.goto))
theorem execJr {s l h w} (hb : InForm s.blk) : Answers (Machine.execJr l h w s) := .run (hb.control (fun _ h1 => h1.goto))
theorem execCall {s l h w} (hb : InForm s.blk) : Answers (Machine.execCall l h w s) := .run (hb.control (fun _ h1 => h1.setG.goto))
theorem execBrEq {s l h w} (hb : InForm s.blk) : Answers (Machine.execBrEq l h w s) := .run hb.branch
theorem execBrNe {s l h w} (hb : InForm s.blk) : Answers (Machine.execBrNe l h w s) := .run hb.branch
theorem execBrLt {s l h w} (hb : InForm s.blk) : Answers (Machine.execBrLt l h w s) := .run hb.branch
theorem execBrGe {s l h w} (hb : InForm s.blk) : Answers (Machine.execBrGe l h w s) := .run hb.branch
theorem execBrLtu {s l h w} (hb : InForm s.blk) : Answers (Machine.execBrLtu l h w s) := .run hb.branch
theorem execBrGeu {s l h w} (hb : InForm s.blk) : Answers (Machine.execBrGeu l h w s) := .run hb.branch

theorem execLoop {s l h w} (hb : InForm s.blk) : Answers (Machine.execLoop l h w s) :=
    .run (hb.control (fun _ h1 => .ite h1.setG.advance h1.setG.goto))

theorem execAdd {s l h w} (hb : InForm s.blk) : Answers (Machine.execAdd l h w s) := .run hb.integer
theorem execSub {s l h w} (hb : InForm s.blk) : Answers (Machine.execSub l h w s) := .run hb.integer
theorem execAnd {s l h w} (hb : InForm s.blk) : Answers (Machine.execAnd l h w s) := .run hb.integer
theorem execOr {s l h w} (hb : InForm s.blk) : Answers (Machine.execOr l h w s) := .run hb.integer
theorem execXor {s l h w} (hb : InForm s.blk) : Answers (Machine.execXor l h w s) := .run hb.integer
theorem execShl {s l h w} (hb : InForm s.blk) : Answers (Machine.execShl l h w s) := .run hb.integer
theorem execShr {s l h w} (hb : InForm s.blk) : Answers (Machine.execShr l h w s) := .run hb.integer
theorem execSra {s l h w} (hb : InForm s.blk) : Answers (Machine.execSra l h w s) := .run hb.integer
theorem execMul {s l h w} (hb : InForm s.blk) : Answers (Machine.execMul l h w s) := .run hb.integer
theorem execMulhu {s l h w} (hb : InForm s.blk) : Answers (Machine.execMulhu l h w s) := .run hb.integer
theorem execDivu {s l h w} (hb : InForm s.blk) : Answers (Machine.execDivu l h w s) := .run hb.integer
theorem execRemu {s l h w} (hb : InForm s.blk) : Answers (Machine.execRemu l h w s) := .run hb.integer
theorem execSlt {s l h w} (hb : InForm s.blk) : Answers (Machine.execSlt l h w s) := .run hb.integer
theorem execSltu {s l h w} (hb : InForm s.blk) : Answers (Machine.execSltu l h w s) := .run hb.integer
theorem execLih {s l h w} (hb : InForm s.blk) : Answers (Machine.execLih l h w s) := .run (hb.issue (fun _ h1 => h1.writesD))
theorem execMaxu {s l h w} (hb : InForm s.blk) : Answers (Machine.execMaxu l h w s) := .run hb.integer
theorem execFadd {s l h w} (hb : InForm s.blk) : Answers (Machine.execFadd l h w s) := .run hb.float
theorem execFsub {s l h w} (hb : InForm s.blk) : Answers (Machine.execFsub l h w s) := .run hb.float
theorem execFmul {s l h w} (hb : InForm s.blk) : Answers (Machine.execFmul l h w s) := .run hb.float
theorem execFdiv {s l h w} (hb : InForm s.blk) : Answers (Machine.execFdiv l h w s) := .run hb.float
theorem execFsqrt {s l h w} (hb : InForm s.blk) : Answers (Machine.execFsqrt l h w s) := .run hb.unary
theorem execFma {s l h w} (hb : InForm s.blk) : Answers (Machine.execFma l h w s) := .run (hb.issue (fun _ h1 => h1.writesD))
theorem execFmin {s l h w} (hb : InForm s.blk) : Answers (Machine.execFmin l h w s) := .run hb.float
theorem execFmax {s l h w} (hb : InForm s.blk) : Answers (Machine.execFmax l h w s) := .run hb.float
theorem execFcvtFI {s l h w} (hb : InForm s.blk) : Answers (Machine.execFcvtFI l h w s) := .run hb.unary
theorem execFcvtIF {s l h w} (hb : InForm s.blk) : Answers (Machine.execFcvtIF l h w s) := .run hb.unary
theorem execFlt {s l h w} (hb : InForm s.blk) : Answers (Machine.execFlt l h w s) := .run hb.float
theorem execFeq {s l h w} (hb : InForm s.blk) : Answers (Machine.execFeq l h w s) := .run hb.float

theorem execTscale {s l h w} (hb : InForm s.blk) : Answers (Machine.execTscale l h w s) :=
    .run (hb.issue (fun _ h1 => .ite h1.exc h1.writesD))

theorem execIllegal {s l h w} (hb : InForm s.blk) : Answers (Machine.execIllegal l h w s) :=
    .run (hb.fetch (fun _ h1 _ => .ite h1.exc hb))

/-! ### The operations of `Silent` -/

theorem scanResult {unit key pass} (hb : InForm b) : InForm (Block.scanResult b unit key pass) := .ite hb.updSilent hb.raise
theorem watchSkip {l} (hb : InForm b) : InForm (Block.watchSkip b l) := hb.updSilent.raise

theorem execOffwatchSlot {s} (hb : InForm s.blk) : Answers (Machine.execOffwatchSlot s) := by
  unfold Machine.execOffwatchSlot
  refine .run ?_
  dsimp only
  refine .ite hb ?_
  split
  · exact hb
  · split
    · exact .ite hb.updSilent.watchSkip hb.updSilent.updSilent
    · exact hb.updSilent.watchSkip

theorem execOffwatchDrainLimit {s} (hb : InForm s.blk) : Answers (Machine.execOffwatchDrainLimit s) := by
  unfold Machine.execOffwatchDrainLimit
  refine .run ?_
  split
  · exact hb.updSilent.watchSkip
  · exact hb

theorem execOffwatchSwap {s vectorsOk} (hb : InForm s.blk) : Answers (Machine.execOffwatchSwap vectorsOk s) := by
  unfold Machine.execOffwatchSwap
  refine .run ?_
  dsimp only
  split
  · exact .ite hb (.ite hb.updSilent.watchSkip (hb.swapTo (fun _ h1 => h1.reseat.updSilent.updLantern)))
  · exact hb

theorem execOffwatchScanDone {s pass slowdown} (hb : InForm s.blk) : Answers (Machine.execOffwatchScanDone pass slowdown s) := by
  unfold Machine.execOffwatchScanDone
  refine .run ?_
  dsimp only
  split
  · exact hb.withPower.replanSite.updSilent.scanResult.noteRepair
  · exact hb

theorem execSinkerScan {s k eng pass} (hb : InForm s.blk) : Answers (Machine.execSinkerScan k eng pass s) :=
    .run (.ite hb (.ite hb.scanResult hb.scanResult.updSinker.raise.noteRepair))

theorem execKeeperScan {s role cl pass} (hb : InForm s.blk) : Answers (Machine.execKeeperScan role cl pass s) := by
  unfold Machine.execKeeperScan
  refine .run ?_
  dsimp only
  refine hb.cmd (fun _ h1 => ?_)
  refine .ite h1.refuse ?_
  refine .ite h1.refuse ?_
  refine .ite h1.accept.drainCluster.resetCluster.scanResult.updSilent.updCluster ?_
  exact h1.accept.drainCluster.resetCluster.scanResult.updSilent.updCluster.finishSts

theorem execTileScan {s role t pass} (hb : InForm s.blk) : Answers (Machine.execTileScan role t pass s) := by
  unfold Machine.execTileScan
  refine .run ?_
  dsimp only
  refine hb.cmd (fun _ h1 => ?_)
  refine .ite h1.refuse ?_
  refine .ite h1.refuse ?_
  refine .ite h1.accept.resetTile.scanResult.updSilent.finishSts ?_
  exact h1.accept.resetTile.scanResult.updSilent.suspect.finishSts

theorem execKeeperScanDue {s cl} (hb : InForm s.blk) : Answers (Machine.execKeeperScanDue cl s) := .run (.ite hb hb.updSilent.raise)
theorem execTileScanDue {s t} (hb : InForm s.blk) : Answers (Machine.execTileScanDue t s) := .run (.ite hb hb.updSilent.raise)
theorem badRecipe {x} (hb : InForm b) : InForm (Block.badRecipe b x) := hb.dropCheck.raise

theorem capture {x r rs} (hb : InForm b) : InForm (Block.capture b x r rs) := by
  unfold Block.capture
  dsimp only
  split
  · exact hb
  · exact hb.badRecipe
  · refine .ite hb.dropCheck ?_
    split
    · exact hb.withChecks.boardDel.assignCheck.takeCheck
    · exact hb.withChecks.boardDel.assignCheck

theorem execCheckCapture {s l id} (hb : InForm s.blk) : Answers (Machine.execCheckCapture l id s) := by
  unfold Machine.execCheckCapture
  refine .run ?_
  dsimp only
  split
  · exact hb
  · refine .ite hb.badRecipe ?_
    split
    · exact hb
    · exact hb.badRecipe
    · refine .ite hb.badRecipe ?_
      split
      · exact hb
      · exact hb.badRecipe
      · exact .ite hb.badRecipe hb.capture

theorem programEnd {x l go} (hb : InForm b) (hgo : ∀ c, InForm c → ∀ y1, InForm (go c y1)) : InForm (Block.programEnd b x l go) := by
  unfold Block.programEnd
  dsimp only
  split
  · exact hb
  · split
    · exact .ite hb.drainStores (.ite hb.drainStores.dropCheck.freeHw (hgo _ hb.drainStores.freeHw _))
    · exact hb

theorem execCheckerDone {s id} (hb : InForm s.blk) : Answers (Machine.execCheckerDone id s) := by
  unfold Machine.execCheckerDone
  refine .run ?_
  dsimp only
  split
  · exact hb
  · refine hb.programEnd (fun _ h2 sum => ?_)
    refine .ite h2.verdict ?_
    split
    · exact h2.withChecks.assignCheck.takeCheck
    · exact h2.withChecks.assignCheck

theorem confirmMismatch {x voterSum} (hb : InForm b) : InForm (Block.confirmMismatch b x voterSum) := hb.verdict.raise.suspect

theorem execVoterDone {s id} (hb : InForm s.blk) : Answers (Machine.execVoterDone id s) := by
  unfold Machine.execVoterDone
  refine .run ?_
  split
  · exact hb
  · split
    · exact hb
    · exact hb.programEnd (fun _ h3 sum => .ite h3.verdict.raise h3.confirmMismatch)

theorem execCheckExpired {s id} (hb : InForm s.blk) : Answers (Machine.execCheckExpired id s) := by
  unfold Machine.execCheckExpired
  refine .run ?_
  split
  · exact hb
  · exact hb.dropCheck.updSilent.raise

theorem execDrain {s role} (hb : InForm s.blk) : Answers (Machine.execDrain role s) :=
    .run (hb.cmd (fun _ h1 => .ite h1.refuse h1.updSilent.raise.setAlert.wire.done))

theorem execResume {s role} (hb : InForm s.blk) : Answers (Machine.execResume role s) :=
    .run (hb.cmd (fun _ h1 => .ite h1.refuse h1.updSilent.clearAlert.wire.done))

theorem execDrainLimit {s} (hb : InForm s.blk) : Answers (Machine.execDrainLimit s) :=
    .run (.ite hb (.foldl (fun _ h0 _ => h0.endReq) hb))

theorem execModuleCondemned {s} (hb : InForm s.blk) : Answers (Machine.execModuleCondemned s) := .run (.ite hb.condemn hb)

/-! ### The operations of `Service` -/

theorem slotWindow {cls bytes} (hb : InForm c) : InForm (Block.slotWindow c cls bytes) :=
    .ite hb.refuse (.ite hb.refuse (.ite hb.refuse hb.updFw.refuse))

theorem execSlotWindow {s role cls bytes} (hb : InForm s.blk) : Answers (Machine.execSlotWindow role cls bytes s) :=
    .run (hb.cmd (fun _ h1 => .ite h1.refuse h1.slotWindow))

theorem execVerify {s role cls img} (hb : InForm s.blk) : Answers (Machine.execVerify role cls img s) := by
  unfold Machine.execVerify
  refine .run ?_
  dsimp only
  refine hb.cmd (fun _ h1 => ?_)
  refine .ite h1.refuse ?_
  exact .ite h1.refuse (.ite h1.refuse (.ite h1.refuse (.ite h1.refuse (.ite h1.refuse h1.updFw.done))))

theorem switchesDone {u} (hb : InForm b) : InForm (Block.switchesDone b u) := by
  unfold Block.switchesDone
  dsimp only
  split
  · exact .ite hb.updFw.finishSts hb
  · exact hb

theorem switchUnits {u slot units} (hb : InForm b) : InForm (Block.switchUnits b u slot units) := hb.accept.updFw.switchesDone

theorem execActivate {s role cls mask} (hb : InForm s.blk) : Answers (Machine.execActivate role cls mask s) :=
    .run (hb.cmd (fun _ h1 => .ite h1.refuse (.ite h1.refuse (.ite h1.refuse (.ite h1.refuse h1.switchUnits)))))

theorem execRevert {s role cls mask} (hb : InForm s.blk) : Answers (Machine.execRevert role cls mask s) :=
    .run (hb.cmd (fun _ h1 => .ite h1.refuse (.ite h1.refuse (.ite h1.refuse h1.switchUnits))))

theorem execCommit {s role cls} (hb : InForm s.blk) : Answers (Machine.execCommit role cls s) :=
    .run (hb.cmd (fun _ h1 => .ite h1.refuse (.ite h1.refuse (InForm.done (InForm.ite h1.updFw.measure h1.updFw)))))

theorem loadImage {cls u} (hb : InForm b) : InForm (Block.loadImage b cls u) := by
  unfold Block.loadImage
  split
  · exact hb.withSessions.openLog
  · exact .ite hb.drainStores.flushDie.freshDie hb
  · exact hb.drainCluster.resetCluster
  · exact hb.resetPort
  · exact hb

theorem nowRuns {cls u slot} (hb : InForm b) : InForm (Block.nowRuns b cls u slot) := hb.updFw.measureImage

theorem execUnitSwitch {s cls unit} (hb : InForm s.blk) : Answers (Machine.execUnitSwitch cls unit s) := by
  unfold Machine.execUnitSwitch
  refine .run ?_
  split
  · exact hb
  · exact .ite hb.loadImage.nowRuns.switchesDone hb.updFw

theorem execFirmwareSwitchSkipped {s cls unit} (hb : InForm s.blk) : Answers (Machine.execFirmwareSwitchSkipped cls unit s) :=
    .run (.ite hb hb.updFw.raise.switchesDone)

theorem execFirmwareReverted {s cls unit} (hb : InForm s.blk) : Answers (Machine.execFirmwareReverted cls unit s) :=
    .run (.ite hb hb.loadImage.nowRuns.raise.updFw.switchesDone)

theorem execPromote {s role l} (hb : InForm s.blk) : Answers (Machine.execPromote role l s) := by
  unfold Machine.execPromote
  refine .run ?_
  dsimp only
  refine hb.cmd (fun _ h1 => ?_)
  refine .ite h1.refuse ?_
  refine .ite h1.refuse ?_
  split
  · exact h1.refuse
  · exact .ite h1.accept.freshDie.takeSpare.replan.finishSts h1.accept.updLantern.settle

theorem execRelight {s role l ok} (hb : InForm s.blk) : Answers (Machine.execRelight role l ok s) := by
  unfold Machine.execRelight
  refine .run ?_
  dsimp only
  refine hb.cmd (fun _ h1 => ?_)
  refine .ite h1.refuse ?_
  refine .ite h1.refuse ?_
  refine .ite h1.refuse ?_
  exact .ite h1.accept.freshDie.updLantern.finishSts h1.accept.updLantern.dropMember.autoPromote.finishSts

theorem execBypass {s role l b mask} (hb : InForm s.blk) : Answers (Machine.execBypass role l b mask s) :=
    .run (hb.cmd (fun _ h1 => .ite h1.refuse (.ite h1.refuse (.ite h1.refuse (.ite h1.refuse h1.accept.updBeam)))))

theorem applyMask {l m mask} (hb : InForm b) : InForm (Block.applyMask b l m mask) := by
  unfold Block.applyMask
  dsimp only
  split
  · exact InForm.finishSts (InForm.raise (InForm.ite hb.updBeam.retireBeam (InForm.ite hb.updBeam.updBeam hb.updBeam)))
  · exact InForm.raise (InForm.ite hb.updBeam.retireBeam (InForm.ite hb.updBeam.updBeam hb.updBeam))

theorem execBypassApplied {s l} (hb : InForm s.blk) : Answers (Machine.execBypassApplied l s) := by
  unfold Machine.execBypassApplied
  refine .run ?_
  dsimp only
  refine .ite hb ?_
  exact InForm.autoPromote (InForm.noteRepair (InForm.foldl (fun _ h0 _ => by
    split
    · exact h0.applyMask
    · exact h0) hb.drainStores.flushDie.freshDie))

theorem execTakeOut {s role ch} (hb : InForm s.blk) : Answers (Machine.execTakeOut role ch s) := by
  unfold Machine.execTakeOut
  refine .run ?_
  dsimp only
  refine hb.cmd (fun _ h1 => ?_)
  refine .ite h1.refuse ?_
  split
  next e _ => exact h1.refuse
  next d he1 => exact ((h1.takeOutStart.ok he1).accept).updChannel

theorem chanDone {ch res} (hb : InForm b) : InForm (Block.chanDone b ch res) := by
  unfold Block.chanDone
  split
  · exact hb.updChannel.finishSts
  · exact hb

theorem execChannelEvacuated {s ch} (hb : InForm s.blk) : Answers (Machine.execChannelEvacuated ch s) :=
    .run (.ite hb hb.updChannel.raise.setAlert.chanDone)

theorem execBringIn {s role ch} (hb : InForm s.blk) : Answers (Machine.execBringIn role ch s) :=
    .run (hb.cmd (fun _ h1 => .ite h1.refuse (.ite h1.refuse h1.accept.updChannel)))

theorem execChannelTrained {s ch dimm} (hb : InForm s.blk) : Answers (Machine.execChannelTrained ch dimm s) := by
  unfold Machine.execChannelTrained
  refine .run ?_
  dsimp only
  refine .ite hb ?_
  refine .ite hb.withTray.updChannel.raise.chanDone ?_
  refine .ite hb.withTray.updChannel.raise.chanDone ?_
  exact .ite hb.withTray.updChannel.raise.chanDone hb.withTray.updChannel

theorem execChannelReturned {s ch} (hb : InForm s.blk) : Answers (Machine.execChannelReturned ch s) :=
    .run (.ite hb (InForm.chanDone (InForm.ite hb.updChannel.clearAlert hb.updChannel)))

theorem execMeasure {s role l slowdown} (hb : InForm s.blk) : Answers (Machine.execMeasure role l slowdown s) :=
    .run (hb.cmd (fun _ h1 => .ite h1.refuse (.ite h1.refuse (.ite h1.refuse h1.accept.updLantern.settle))))

theorem execReplan {s role l} (hb : InForm s.blk) : Answers (Machine.execReplan role l s) :=
    .run (hb.cmd (fun _ h1 => .ite h1.refuse (.ite h1.refuse h1.replan.done)))

theorem execResetGuard {s role l} (hb : InForm s.blk) : Answers (Machine.execResetGuard role l s) :=
    .run (hb.cmd (fun _ h1 => .ite h1.refuse h1.withPower.planGuard.done))

theorem execAgeingImport {s role sigOk records} (hb : InForm s.blk) : Answers (Machine.execAgeingImport role sigOk records s) :=
    .run (hb.cmd (fun _ h1 => .ite h1.refuse (InForm.refuse (InForm.foldl (fun _ h1 _ => h1.replan) h1.withPower))))

theorem writeAgeing {on} (hb : InForm c) : InForm (Block.writeAgeing c on) :=
    hb.persistWrite (fun _ h1 => .ite (.ite h1 (.foldl (fun _ h1 _ => h1.replan) h1)) h1.withPower)

theorem execAgeingModeWrite {s role on} (hb : InForm s.blk) : Answers (Machine.execAgeingModeWrite role on s) :=
    .run (hb.cmd (fun _ h1 => h1.writeAgeing))

/-! ### The operations of `Security` -/

theorem execSpdmExchange {s role code version algsOffered} (hb : InForm s.blk) : Answers (Machine.execSpdmExchange role code version
    algsOffered s) := .run (hb.cmd (fun _ h1 => h1.withSecurity.done.withCmds))

theorem execDebugAuthorise {s role tok} (hb : InForm s.blk) : Answers (Machine.execDebugAuthorise role tok s) :=
    .run (hb.cmd (fun _ h1 => .ite h1.refuse (.ite h1.refuse h1.withSecurity.measure.raise.refuse)))

theorem guestCmd {role g f} (hb : InForm b) (hf : ∀ c, InForm c → InForm (f c)) : InForm (Block.guestCmd b role g f) :=
    .ite hb.refuse (.ite hb.refuse (.ite hb.refuse (hb.cmd hf)))

theorem holdGuest {g close} (hb : InForm b) : InForm (Block.holdGuest b g close) := hb.updGuest

theorem execHold {s role g} (hb : InForm s.blk) : Answers (Machine.execHold role g s) :=
    .run (hb.guestCmd (fun _ h1 => .ite h1.refuse h1.holdGuest.done))

theorem execGuestRelease {s role g a} (hb : InForm s.blk) : Answers (Machine.execGuestRelease role g a s) :=
    .run (hb.guestCmd (fun _ h1 => .ite h1.refuse h1.accept.updGuest.admitGuest.finishSts))

theorem execAttest {s role g a} (hb : InForm s.blk) : Answers (Machine.execAttest role g a s) :=
    .run (hb.guestCmd (fun _ h1 => .ite h1.refuse h1.accept.admitGuest.finishSts))

theorem execGuestPowerSample {s g _milliW avg10 above100ms above90} (hb : InForm s.blk) : Answers (Machine.execGuestPowerSample g
    _milliW avg10 above100ms above90 s) := by
  unfold Machine.execGuestPowerSample
  refine .run ?_
  dsimp only
  refine .ite hb ?_
  refine .ite (InForm.holdGuest (InForm.ite hb.updGuest.guestEvent hb.updGuest)) ?_
  exact .ite hb.updGuest.guestEvent hb.updGuest

theorem execGuestLost {s g} (hb : InForm s.blk) : Answers (Machine.execGuestLost g s) := .run (.ite hb hb.holdGuest)

theorem execGuestWindowsWrite {s role g idx win} (hb : InForm s.blk) : Answers (Machine.execGuestWindowsWrite role g idx win s) :=
    .run (hb.guestCmd (fun _ h1 => .ite h1.refuse (.ite h1.refuse (.ite h1.refuse (.ite h1.refuse h1.updGuest.refuse)))))

theorem denyGuest {g addr} (hb : InForm b) : InForm (Block.denyGuest b g addr) := by
  unfold Block.denyGuest
  dsimp only
  refine .ite (InForm.holdGuest (InForm.guestEvent (InForm.ite hb.updGuest.guestEvent hb.updGuest))) ?_
  exact .ite hb.updGuest.guestEvent hb.updGuest

theorem refuseGuest {g} (hb : InForm b) : InForm (Block.refuseGuest b g) := hb.updGuest

theorem execGuestRead {s g addr} (hb : InForm s.blk) : Answers (Machine.execGuestRead g addr s) := by
  unfold Machine.execGuestRead
  refine .run ?_
  dsimp only
  refine .ite hb ?_
  split
  · exact hb.denyGuest
  · split
    · exact hb.refuseGuest
    · split
      · exact hb.updGuest
      · exact hb
      · exact hb.withErrors.guestEvent.refuseGuest
      · exact hb.refuseGuest

theorem execGuestWrite {s g addr mask data poison} (hb : InForm s.blk) : Answers (Machine.execGuestWrite g addr mask data poison s) :=
    by
  unfold Machine.execGuestWrite
  refine .run ?_
  refine .ite hb ?_
  split
  · exact hb.denyGuest
  · split
    · exact hb.refuseGuest
    · split
      next c he2 => exact ((InFormRes.ite hb.write hb.putUnder).ok he2).updGuest
      · exact hb
      next _ c he2 => exact ((InFormRes.ite hb.write hb.putUnder).error he2).refuseGuest

/-! ### The operations of `Sessions` -/

theorem dropMsg (hb : InForm b) : InForm (Block.dropMsg b) := hb.withSecurity
theorem sendReply {place tag} (hb : InForm b) : InForm (Block.sendReply b place tag) := .ite hb hb.updMailbox.wire

theorem keepReply {place request} (hb : InForm b) : InForm (Block.keepReply b place request) := by
  unfold Block.keepReply
  dsimp only
  split
  · exact hb
  · exact hb.withSessions.sendReply

theorem onSession {sid m run} (hb : InForm b) (hrun : ∀ c, InForm c → ∀ i x, InFormOpt (run c i x)) : InForm (b.onSession sid m run) :=
    by
  unfold Block.onSession
  split
  · exact .ite hb.dropMsg hb
  · refine .ite hb (.ite hb.dropMsg ?_)
    dsimp only
    split
    · exact InForm.sendReply (hb.same)
    · refine .ite hb.withSessions.refuse.keepReply ?_
      split
      next he => exact (hrun _ hb.withSessions _ _ _ he).keepReply
      · exact hb.withSessions

theorem replyTo {place st body tag} (hb : InForm b) : InForm (Block.replyTo b place st body tag) := hb.withCmds.sendReply

theorem execSessionInit {s mailbox slot multicast body role} (hb : InForm s.blk) : Answers (Machine.execSessionInit mailbox slot
    multicast body role s) := by
  unfold Machine.execSessionInit
  refine .run ?_
  dsimp only
  refine .ite hb ?_
  refine .ite hb.replyTo ?_
  split
  · exact hb.replyTo
  · exact .ite hb.replyTo hb.same.replyTo

theorem execSessionConfirm {s sid ok} (hb : InForm s.blk) : Answers (Machine.execSessionConfirm sid ok s) := by
  unfold Machine.execSessionConfirm
  refine .run ?_
  split
  · exact hb.dropMsg
  · exact .ite hb (.ite hb.withSessions.replyTo hb.replyTo)

theorem execSessionClose {s sid} (hb : InForm s.blk) : Answers (Machine.execSessionClose sid s) := by
  unfold Machine.execSessionClose
  refine .run ?_
  dsimp only
  split
  · exact hb
  · exact .ite hb.withSessions hb.withSessions.replyTo

theorem execSessionTimeout {s sid} (hb : InForm s.blk) : Answers (Machine.execSessionTimeout sid s) := by
  unfold Machine.execSessionTimeout
  refine .run ?_
  split
  · exact hb
  · exact hb.withSessions

theorem readObj {role n off maxlen} (hb : InForm b) : InForm (Block.readObj b role n off maxlen) := by
  unfold Block.readObj
  dsimp only
  split
  · exact hb.refuse
  · exact .ite hb.refuse (.ite hb.refuse (.ite hb.refuse (.ite hb.refuse hb.withCmds)))

theorem execRead {s sid m obj off maxlen} (hb : InForm s.blk) : Answers (Machine.execRead sid m obj off maxlen s) :=
    .run (hb.onSession (fun _ h1 _ _ => InFormOpt.some h1.readObj))

theorem writeWindows {g v} (hb : InForm b) : InForm (Block.writeWindows b g v) :=
    .ite hb.refuse (.ite hb.refuse (.ite hb.refuse hb.updGuest.refuse))

theorem writeEffect {n} (hb : InForm b) : InForm (Block.writeEffect b n) :=
    .ite hb.updLimit (.ite (.foldl (fun _ h0 _ => h0.reOp) hb) hb)

theorem applyValue {o n v} (hb : InForm b) : InFormOpt (Block.applyValue b o n v) := by
  unfold Block.applyValue
  dsimp only
  refine InFormOpt.ite InFormOpt.none ?_
  exact InFormOpt.some (.ite hb.writePart (.ite hb.writeAgeing (.ite hb.slotWindow (.ite hb.writeWindows (.ite hb.withErrors.refuse
    (.ite (hb.persistWrite (fun _ h0 => h0.writeEffect)) hb.withStore.refuse))))))

theorem writeObj {role n v} (hb : InForm b) : InFormOpt (Block.writeObj b role n v) := by
  unfold Block.writeObj
  dsimp only
  split
  · exact InFormOpt.some hb.refuse
  · refine InFormOpt.ite (InFormOpt.some hb.refuse) ?_
    refine InFormOpt.ite (InFormOpt.some hb.refuse) ?_
    refine InFormOpt.ite (InFormOpt.some hb.refuse) ?_
    refine InFormOpt.ite (InFormOpt.some hb.refuse) ?_
    refine InFormOpt.ite (InFormOpt.some hb.refuse) ?_
    refine InFormOpt.ite (InFormOpt.some hb.refuse) ?_
    split
    · exact InFormOpt.some hb.refuse
    · exact InFormOpt.map_form (fun _ h2 => .ite h2.withCmds h2) hb.applyValue

theorem stageValue {i x st} (hb : InForm b) : InForm (Block.stageValue b i x st) := hb.withSessions

theorem writeMsg {i x m obj off v} (hb : InForm b) : InFormOpt (Block.writeMsg b i x m obj off v) := by
  unfold Block.writeMsg
  split
  · refine InFormOpt.ite (InFormOpt.some hb.stageValue.refuse) ?_
    exact InFormOpt.ite (InFormOpt.some hb.stageValue.refuse) hb.stageValue.writeObj
  · exact InFormOpt.ite (InFormOpt.some hb.refuse) (InFormOpt.ite (InFormOpt.some hb.stageValue.refuse) hb.writeObj)

theorem execWrite {s sid m obj off v} (hb : InForm s.blk) : Answers (Machine.execWrite sid m obj off v s) :=
    .run (hb.onSession (fun _ h1 _ _ => h1.writeMsg))

theorem execSubscribe {s sid m minsev from_ areas} (hb : InForm s.blk) : Answers (Machine.execSubscribe sid m minsev from_ areas s) :=
    by
  unfold Machine.execSubscribe
  refine .run ?_
  dsimp only
  split
  · exact (hb.onSession (fun _ h1 _ _ => InFormOpt.some h1.withSessions.refuse)).pushTo
  · exact hb.onSession (fun _ h2 _ _ => InFormOpt.some h2.withSessions.refuse)

theorem programCopy {seq r k bad oks} (hb : InForm b) : InForm (Block.programCopy seq r b k bad oks).1 := by
  induction oks generalizing b k bad with
  | nil => exact hb
  | cons ok t ih =>
    exact .ite_fst hb.updStore (.ite_fst (ih hb.updStore) (.ite_fst hb.updStore.failDevice.raise (ih hb.updStore.failDevice)))

theorem execStoreWrite {s readbacks} (hb : InForm s.blk) : Answers (Machine.execStoreWrite readbacks s) :=
    .run (.ite hb (.ite hb (.ite hb.programCopy.updStore.measure hb.programCopy)))

theorem execSlotEraseDone {s dev} (hb : InForm s.blk) : Answers (Machine.execSlotEraseDone dev s) := .run (.ite hb hb.updStore)

theorem storeBoth {seq t finish} (hb : InForm b) (hfinish : ∀ c, InForm c → InForm (finish c)) : InForm (Block.storeBoth b seq t
    finish) := by
  unfold Block.storeBoth
  dsimp only
  refine .ite hb.raise.refuse ?_
  exact hfinish _ (InForm.measure (InForm.updStore (InForm.foldl (fun _ h0 _ => .ite h0 h0.updStore) hb)))

theorem execStoreImage {s role sigOk seq entries} (hb : InForm s.blk) : Answers (Machine.execStoreImage role sigOk seq entries s) :=
    .run (hb.cmd (fun _ h1 => .ite h1.refuse (h1.storeBoth (fun _ h1 => h1.refuse))))

theorem execStoreReset {s role} (hb : InForm s.blk) : Answers (Machine.execStoreReset role s) :=
    .run (hb.cmd (fun _ h1 => h1.storeBoth (fun _ h2 => h2.done)))

theorem execRepairMapImage {s role sigOk bound rsvZero map} (hb : InForm s.blk) : Answers (Machine.execRepairMapImage role sigOk bound
    rsvZero map s) := .run (hb.cmd (fun _ h1 => .ite h1.refuse (.ite h1.refuse (.ite h1.refuse h1.updStore.noteRepair.refuse))))

theorem execAlertAcknowledge {s role mask} (hb : InForm s.blk) : Answers (Machine.execAlertAcknowledge role mask s) :=
    .run (hb.cmd (fun _ h1 => h1.withTray.done))

/-! ### Every command -/

/-- A command leaves a block in form: the case of each command is the lemma of its meaning. -/
theorem exec {s : State} (hb : InForm s.blk) (i : Instr) : Answers (Machine.exec i s) := by
  cases i with
  | partNumberWrite => exact hb.execPartNumberWrite
  | flitReplay => exact hb.execFlitReplay
  | retrain => exact hb.execRetrain
  | linkTrainingDone => exact hb.execLinkTrainingDone
  | sidebandLaneFail => exact hb.execSidebandLaneFail
  | aStage => exact hb.execAStage
  | beamIssue => exact hb.execBeamIssue
  | beamComplete => exact hb.execBeamComplete
  | vectorReload => exact hb.execVectorReload
  | nop => exact hb.execNop
  | endProg => exact hb.execEndProg
  | raise => exact hb.execRaise
  | j => exact hb.execJ
  | jr => exact hb.execJr
  | call => exact hb.execCall
  | brEq => exact hb.execBrEq
  | brNe => exact hb.execBrNe
  | brLt => exact hb.execBrLt
  | brGe => exact hb.execBrGe
  | brLtu => exact hb.execBrLtu
  | brGeu => exact hb.execBrGeu
  | loop => exact hb.execLoop
  | add => exact hb.execAdd
  | sub => exact hb.execSub
  | and => exact hb.execAnd
  | or => exact hb.execOr
  | xor => exact hb.execXor
  | shl => exact hb.execShl
  | shr => exact hb.execShr
  | sra => exact hb.execSra
  | mul => exact hb.execMul
  | mulhu => exact hb.execMulhu
  | divu => exact hb.execDivu
  | remu => exact hb.execRemu
  | slt => exact hb.execSlt
  | sltu => exact hb.execSltu
  | lih => exact hb.execLih
  | maxu => exact hb.execMaxu
  | fadd => exact hb.execFadd
  | fsub => exact hb.execFsub
  | fmul => exact hb.execFmul
  | fdiv => exact hb.execFdiv
  | fsqrt => exact hb.execFsqrt
  | fma => exact hb.execFma
  | fmin => exact hb.execFmin
  | fmax => exact hb.execFmax
  | fcvtFI => exact hb.execFcvtFI
  | fcvtIF => exact hb.execFcvtIF
  | flt => exact hb.execFlt
  | feq => exact hb.execFeq
  | tscale => exact hb.execTscale
  | ld => exact hb.execLd
  | st => exact hb.execSt
  | ldAcq => exact hb.execLdAcq
  | stRel => exact hb.execStRel
  | tld => exact hb.execTld
  | tst => exact hb.execTst
  | tset => exact hb.execTset
  | tget => exact hb.execTget
  | tadv => exact hb.execTadv
  | ldl => exact hb.execLdl
  | stl => exact hb.execStl
  | moveM2L => exact hb.execMoveM2L
  | moveL2M => exact hb.execMoveL2M
  | moveL2F => exact hb.execMoveL2F
  | moveDone => exact hb.execMoveDone
  | beam => exact hb.execBeam
  | claim => exact hb.execClaim
  | claimGrant => exact hb.execClaimGrant
  | release => exact hb.execRelease
  | post => exact hb.execPost
  | reduceSum => exact hb.execReduceSum
  | reduceMax => exact hb.execReduceMax
  | reduceMin => exact hb.execReduceMin
  | amax => exact hb.execAmax
  | amaxAcc => exact hb.execAmaxAcc
  | optStep => exact hb.execOptStep
  | optClose => exact hb.execOptClose
  | sink => exact hb.execSink
  | send => exact hb.execSend
  | sendArrival => exact hb.execSendArrival
  | recv => exact hb.execRecv
  | recvTimeout => exact hb.execRecvTimeout
  | waitflash => exact hb.execWaitflash
  | waitstream => exact hb.execWaitstream
  | waitLine => exact hb.execWaitLine
  | waitLineTimeout => exact hb.execWaitLineTimeout
  | watchPoll => exact hb.execWatchPoll
  | waitTally => exact hb.execWaitTally
  | atomAdd => exact hb.execAtomAdd
  | atomAnd => exact hb.execAtomAnd
  | atomOr => exact hb.execAtomOr
  | atomXor => exact hb.execAtomXor
  | atomMin => exact hb.execAtomMin
  | atomMax => exact hb.execAtomMax
  | atomMinu => exact hb.execAtomMinu
  | atomMaxu => exact hb.execAtomMaxu
  | atomSwap => exact hb.execAtomSwap
  | atomCas => exact hb.execAtomCas
  | fence => exact hb.execFence
  | setop => exact hb.execSetop
  | check => exact hb.execCheck
  | selftest => exact hb.execSelftest
  | create => exact hb.execCreate
  | registerQueue => exact hb.execRegisterQueue
  | unregisterQueue => exact hb.execUnregisterQueue
  | destroy => exact hb.execDestroy
  | destroyDone => exact hb.execDestroyDone
  | watchNotice => exact hb.execWatchNotice
  | take => exact hb.execTake
  | queueHeadWait => exact hb.execQueueHeadWait
  | join => exact hb.execJoin
  | abandon => exact hb.execAbandon
  | latenessExpiry => exact hb.execLatenessExpiry
  | form => exact hb.execForm
  | reform => exact hb.execReform
  | dissolve => exact hb.execDissolve
  | flashFire => exact hb.execFlashFire
  | flashArrival => exact hb.execFlashArrival
  | flashActionDone => exact hb.execFlashActionDone
  | groupStall => exact hb.execGroupStall
  | sinkAdmit => exact hb.execSinkAdmit
  | gatherPool => exact hb.execGatherPool
  | scoreTopk => exact hb.execScoreTopk
  | stats => exact hb.execStats
  | fill => exact hb.execFill
  | checksum => exact hb.execChecksum
  | copy => exact hb.execCopy
  | sinkDone => exact hb.execSinkDone
  | stackTempSample => exact hb.execStackTempSample
  | sinkerLost => exact hb.execSinkerLost
  | regionAdd => unfold Machine.exec; exact hb.execRegionAdd
  | regionRemove => exact hb.execRegionRemove
  | releaseBerths => exact hb.execReleaseBerths
  | reload => exact hb.execReload
  | streamAdd => exact hb.execStreamAdd
  | streamRemove => exact hb.execStreamRemove
  | evacuate => exact hb.execEvacuate
  | tierReturn => exact hb.execTierReturn
  | berthQuery => exact hb.execBerthQuery
  | migrationEpoch => exact hb.execMigrationEpoch
  | berthMoveFlip => exact hb.execBerthMoveFlip
  | layerResident => exact hb.execLayerResident
  | frameZeroed => exact hb.execFrameZeroed
  | channelRetrain => exact hb.execChannelRetrain
  | channelRetrainDone => exact hb.execChannelRetrainDone
  | evacuationDone => exact hb.execEvacuationDone
  | repairDone => exact hb.execRepairDone
  | returnDone => exact hb.execReturnDone
  | evacuationRetry => exact hb.execEvacuationRetry
  | rowRemap => exact hb.execRowRemap
  | rdS => exact hb.execRdS
  | rdX => exact hb.execRdX
  | upg => exact hb.execUpg
  | rdOnce => exact hb.execRdOnce
  | wrLine => exact hb.execWrLine
  | wrPart => exact hb.execWrPart
  | homeAtom => exact hb.execHomeAtom
  | watch => exact hb.execWatch
  | unwatch => exact hb.execUnwatch
  | wb => exact hb.execWb
  | evictClean => exact hb.execEvictClean
  | snpInv => exact hb.execSnpInv
  | snpFwdS => exact hb.execSnpFwdS
  | snpFwdX => exact hb.execSnpFwdX
  | snpPeek => exact hb.execSnpPeek
  | snpRecall => exact hb.execSnpRecall
  | grant => exact hb.execGrant
  | data => exact hb.execData
  | invAck => exact hb.execInvAck
  | downgradeAck => exact hb.execDowngradeAck
  | complete => exact hb.execComplete
  | recallData => exact hb.execRecallData
  | moved => exact hb.execMoved
  | cacheScrub => exact hb.execCacheScrub
  | clean => exact hb.execClean
  | invalidate => exact hb.execInvalidate
  | cleanInvalidate => exact hb.execCleanInvalidate
  | rangeCommandDone => exact hb.execRangeCommandDone
  | registerRing => exact hb.execRegisterRing
  | removeRing => exact hb.execRemoveRing
  | chartResume => exact hb.execChartResume
  | faultBatchTimer => exact hb.execFaultBatchTimer
  | faultRingRoom => exact hb.execFaultRingRoom
  | withdraw => exact hb.execWithdraw
  | withdrawAll => exact hb.execWithdrawAll
  | withdrawAck => exact hb.execWithdrawAck
  | withdrawLimit => exact hb.execWithdrawLimit
  | bufferedStorePerform => exact hb.execBufferedStorePerform
  | postedWritePerform => exact hb.execPostedWritePerform
  | deviceTimeout => exact hb.execDeviceTimeout
  | keeperLoad => exact hb.execKeeperLoad
  | keeperStore => exact hb.execKeeperStore
  | keeperAmo => exact hb.execKeeperAmo
  | lr => exact hb.execLr
  | sc => exact hb.execSc
  | keeperFence => exact hb.execKeeperFence
  | cboClean => exact hb.execCboClean
  | cboFlush => exact hb.execCboFlush
  | cboInval => exact hb.execCboInval
  | cboZero => exact hb.execCboZero
  | wrsNto => exact hb.execWrsNto
  | wrsSto => exact hb.execWrsSto
  | wrsTimeout => exact hb.execWrsTimeout
  | gsvFence _ priv => exact hb.execGsvFence (_priv := priv)
  | gsvLdAq _ priv => exact hb.execGsvLdAq (_priv := priv)
  | gsvSdRl _ priv => exact hb.execGsvSdRl (_priv := priv)
  | gsvRange => exact hb.execGsvRange
  | perfWrite => exact hb.execPerfWrite
  | pllRelockDone => exact hb.execPllRelockDone
  | keeperClusterLost => exact hb.execKeeperClusterLost
  | interruptWrite => exact hb.execInterruptWrite
  | portEnable => exact hb.execPortEnable
  | portReset => exact hb.execPortReset
  | portHang => exact hb.execPortHang
  | reloadQp => exact hb.execReloadQp
  | reloadCq => exact hb.execReloadCq
  | reloadMr => exact hb.execReloadMr
  | reloadPostRing => exact hb.execReloadPostRing
  | reloadEthQueue => exact hb.execReloadEthQueue
  | postQpSend => exact hb.execPostQpSend
  | postQpReceive => exact hb.execPostQpReceive
  | postEthSend => exact hb.execPostEthSend
  | postEthReceive => exact hb.execPostEthReceive
  | cqArm => exact hb.execCqArm
  | ethSend => exact hb.execEthSend
  | roceSend => exact hb.execRoceSend
  | sendImm => exact hb.execSendImm
  | roceWrite => exact hb.execRoceWrite
  | writeImm => exact hb.execWriteImm
  | roceRead => exact hb.execRoceRead
  | fetchAdd => exact hb.execFetchAdd
  | cmpSwap => exact hb.execCmpSwap
  | ethFrameRx => exact hb.execEthFrameRx
  | roceRequestRx => exact hb.execRoceRequestRx
  | roceResponseRx => exact hb.execRoceResponseRx
  | ackTimeout => exact hb.execAckTimeout
  | cnpRx => exact hb.execCnpRx
  | ccTimer => exact hb.execCcTimer
  | macLinkLoss => exact hb.execMacLinkLoss
  | cartridgeInsert => exact hb.execCartridgeInsert
  | cartridgeCheckDone => exact hb.execCartridgeCheckDone
  | prepareSwap => exact hb.execPrepareSwap
  | latchOpen => exact hb.execLatchOpen
  | cartridgeFault => exact hb.execCartridgeFault
  | cartridgePoll => exact hb.execCartridgePoll
  | cartridgeSilent => exact hb.execCartridgeSilent
  | supplyHigh => exact hb.execSupplyHigh
  | supplyHighClear => exact hb.execSupplyHighClear
  | supplyOvervoltage => exact hb.execSupplyOvervoltage
  | coolantWarm => exact hb.execCoolantWarm
  | coolantDerateClear => exact hb.execCoolantDerateClear
  | coolantHot => exact hb.execCoolantHot
  | coolantLeak => exact hb.execCoolantLeak
  | flowLost => exact hb.execFlowLost
  | trayPowerWarn => exact hb.execTrayPowerWarn
  | trayReset => exact hb.execTrayReset
  | slotIdSample => exact hb.execSlotIdSample
  | sensorSample => exact hb.execSensorSample
  | sensorInvalid => exact hb.execSensorInvalid
  | serviceBusNoBeacon => exact hb.execServiceBusNoBeacon
  | coldStart => exact hb.execColdStart
  | hubRomRetry => exact hb.execHubRomRetry
  | mainRailsStart => exact hb.execMainRailsStart
  | warm => exact hb.execWarm
  | dark => exact hb.execDark
  | sessionInit => exact hb.execSessionInit
  | sessionConfirm => exact hb.execSessionConfirm
  | sessionClose => exact hb.execSessionClose
  | sessionTimeout => exact hb.execSessionTimeout
  | read => exact hb.execRead
  | write => exact hb.execWrite
  | subscribe => exact hb.execSubscribe
  | mailboxSend => exact hb.execMailboxSend
  | replyDone => exact hb.execReplyDone
  | eventDone => exact hb.execEventDone
  | storeWrite => exact hb.execStoreWrite
  | slotEraseDone => exact hb.execSlotEraseDone
  | storeImage => exact hb.execStoreImage
  | storeReset => exact hb.execStoreReset
  | repairMapImage => exact hb.execRepairMapImage
  | alertAcknowledge => exact hb.execAlertAcknowledge
  | eventFetch => exact hb.execEventFetch
  | eventsSuppressed => exact hb.execEventsSuppressed
  | eventLogWrite => exact hb.execEventLogWrite
  | powerWindow => exact hb.execPowerWindow
  | estimatorRefit => exact hb.execEstimatorRefit
  | disagreementCheck => exact hb.execDisagreementCheck
  | thermalSample => exact hb.execThermalSample
  | thermalTrip => exact hb.execThermalTrip
  | dimStepEnter => exact hb.execDimStepEnter
  | dimStepExit => exact hb.execDimStepExit
  | lanternLost => exact hb.execLanternLost
  | hubLost => exact hb.execHubLost
  | unitResetLantern => exact hb.execUnitResetLantern
  | unitResetKeeperCluster => exact hb.execUnitResetKeeperCluster
  | unitResetPort => exact hb.execUnitResetPort
  | unitResetStackChannel => exact hb.execUnitResetStackChannel
  | unitResetBulkChannel => exact hb.execUnitResetBulkChannel
  | unitResetTile => exact hb.execUnitResetTile
  | errorBankRead => exact hb.execErrorBankRead
  | errorBankClear => exact hb.execErrorBankClear
  | offwatchSlot => exact hb.execOffwatchSlot
  | offwatchDrainLimit => exact hb.execOffwatchDrainLimit
  | offwatchSwap => exact hb.execOffwatchSwap
  | offwatchScanDone => exact hb.execOffwatchScanDone
  | sinkerScan => exact hb.execSinkerScan
  | keeperScan => exact hb.execKeeperScan
  | tileScan => exact hb.execTileScan
  | keeperScanDue => exact hb.execKeeperScanDue
  | tileScanDue => exact hb.execTileScanDue
  | checkCapture => exact hb.execCheckCapture
  | checkerDone => exact hb.execCheckerDone
  | voterDone => exact hb.execVoterDone
  | checkExpired => exact hb.execCheckExpired
  | drain => exact hb.execDrain
  | resume => exact hb.execResume
  | drainLimit => exact hb.execDrainLimit
  | moduleCondemned => exact hb.execModuleCondemned
  | slotWindow => exact hb.execSlotWindow
  | verify => exact hb.execVerify
  | activate => exact hb.execActivate
  | revert => exact hb.execRevert
  | commit => exact hb.execCommit
  | unitSwitch => exact hb.execUnitSwitch
  | firmwareSwitchSkipped => exact hb.execFirmwareSwitchSkipped
  | firmwareReverted => exact hb.execFirmwareReverted
  | promote => exact hb.execPromote
  | relight => exact hb.execRelight
  | bypass => exact hb.execBypass
  | bypassApplied => exact hb.execBypassApplied
  | linkRetrain => exact hb.execLinkRetrain
  | takeOut => exact hb.execTakeOut
  | channelEvacuated => exact hb.execChannelEvacuated
  | bringIn => exact hb.execBringIn
  | channelTrained => exact hb.execChannelTrained
  | channelReturned => exact hb.execChannelReturned
  | measure => exact hb.execMeasure
  | replan => exact hb.execReplan
  | resetGuard => exact hb.execResetGuard
  | ageingImport => exact hb.execAgeingImport
  | ageingModeWrite => exact hb.execAgeingModeWrite
  | spdmExchange => exact hb.execSpdmExchange
  | debugAuthorise => exact hb.execDebugAuthorise
  | hold => exact hb.execHold
  | guestRelease => exact hb.execGuestRelease
  | attest => exact hb.execAttest
  | guestWindowsWrite => exact hb.execGuestWindowsWrite
  | guestRead => exact hb.execGuestRead
  | guestWrite => exact hb.execGuestWrite
  | guestPowerSample _ milliW => exact hb.execGuestPowerSample (_milliW := milliW)
  | guestLost => exact hb.execGuestLost
  | operatingPointChangeDone => exact hb.execOperatingPointChangeDone
  | macLinkUp => exact hb.execMacLinkUp
  | serviceBusBeacon => exact hb.execServiceBusBeacon
  | portHeartbeatLost => exact hb.execPortHeartbeatLost
  | illegal => exact hb.execIllegal

end InForm

/-- Settles O3: the command at the front of the queue runs on the same memory, and every command keeps its form. -/
theorem memoryFormKept : Obligations.MemoryFormKept := by
  intro s t hs hstep
  unfold step at hstep
  split at hstep
  · cases hstep
    exact hs
  next i rest _ => exact InForm.exec (s := { s with pending := rest }) hs i t hstep

end Sys2Proof

/-! PROOFS. Memory channels (R205, R206, R208): the retrain of a channel, a channel that cannot be read, and rows that are remapped to
a spare, put off, or whose frames retire. -/

namespace Sys2Proof

open Sys2Proof.Machine

/-! ### What the commands run -/

theorem exec_channelRetrain (ch : Nat) (often unreadable : Bool) (s : State) :
    exec (.channelRetrain ch often unreadable) s = execChannelRetrain ch often unreadable s := rfl
theorem exec_channelRetrainDone (ch : Nat) (s : State) : exec (.channelRetrainDone ch) s = execChannelRetrainDone ch s := rfl
theorem exec_rowRemap (ch bank row : Nat) (frames bad : List Nat) (s : State) :
    exec (.rowRemap ch bank row frames bad) s = execRowRemap ch bank row frames bad s := rfl

/-- A note of a repair writes the repair map and its measurement (R332). -/
theorem noteRepair_shape (b : Block) : ∃ sto sec, b.noteRepair = { b with store := sto, security := sec } := ⟨_, _, rfl⟩

section Channel

variable {s : State} {ch : Nat}

/-! ### A channel in another state -/

theorem channelRetrain_idle (hs : (s.blk.channel ch).st ≠ .up) (often unreadable : Bool) :
    exec (.channelRetrain ch often unreadable) s = .next s := by
  simp [exec_channelRetrain, execChannelRetrain, hs]

theorem channelRetrainDone_idle (hs : (s.blk.channel ch).st ≠ .held) : exec (.channelRetrainDone ch) s = .next s := by
  simp [exec_channelRetrainDone, execChannelRetrainDone, hs]

section Known

variable (hc : ch < 272)
include hc

/-! ### Retraining -/

theorem channelRetrain_holds (hs : (s.blk.channel ch).st = .up) :
    exec (.channelRetrain ch false false) s = .next (s.withBlk (s.blk.holdChannel ch none)) := by
  simp [exec_channelRetrain, execChannelRetrain, Nat.not_le.2 hc, hs]

theorem channelRetrain_stackLost (hs : (s.blk.channel ch).st = .up) (hstack : ch < 256) (often : Bool) :
    exec (.channelRetrain ch often true) s = .next (s.withBlk (s.blk.loseChannels (chanDomain ch) [ch])) := by
  simp [exec_channelRetrain, execChannelRetrain, Nat.not_le.2 hc, hs, hstack]

theorem channelRetrain_bulkLost (hs : (s.blk.channel ch).st = .up) (hbulk : 256 ≤ ch) (often : Bool) :
    exec (.channelRetrain ch often true) s = .next (s.withBlk
      (((s.blk.setChannel ch { s.blk.channel ch with st := .lost }).raise (unitChannel ch) .bulkOffline [ch - 256]).setAlert 11)) := by
  simp [exec_channelRetrain, execChannelRetrain, Nat.not_le.2 hc, hs, Nat.not_lt.2 hbulk]

/-- A retrain holds the channel and counts it; the other channels stay (R205). -/
theorem channelRetrain_completes (hs : (s.blk.channel ch).st = .up) :
    Completes (.channelRetrain ch false false) s (fun t => (t.blk.channel ch).st = .held ∧
      (t.blk.channel ch).retrains = (s.blk.channel ch).retrains + 1 ∧ t.blk.mem = s.blk.mem ∧ t.blk.berths = s.blk.berths ∧
      ∀ c, c ≠ ch → t.blk.channel c = s.blk.channel c) := by
  refine .of_exec (channelRetrain_holds hc hs) ?_
  simp only [Block.holdChannel, Block.updChannel_eq, Block.setChannel_channel, Block.setChannel_frame, true_and]
  exact fun c hne => Block.setChannel_channel_ne _ _ _ _ hne

/-- A DDR5 channel that cannot be read is LOST, an event and an alert (R206). -/
theorem channelRetrain_bulkLost_completes (hs : (s.blk.channel ch).st = .up) (hbulk : 256 ≤ ch) (often : Bool) :
    Completes (.channelRetrain ch often true) s (fun t => (t.blk.channel ch).st = .lost ∧ t.blk.alert 11 = true ∧
      t.blk.events = (s.blk.raise (unitChannel ch) .bulkOffline [ch - 256]).events ∧ t.blk.mem = s.blk.mem) := by
  refine .of_exec (channelRetrain_bulkLost hc hs hbulk often) ⟨by simp, setAlert_alert _ (by decide), ?_, by simp⟩
  simp only [Block.setAlert_frame]
  exact raise_events_congr (by simp) (by simp) _ _ _

/-! ### The end of a retrain -/

theorem channelRetrainDone_resumes (hs : (s.blk.channel ch).st = .held) (hcmd : (s.blk.channel ch).cmd = none) :
    exec (.channelRetrainDone ch) s = .next (s.withBlk
      ((s.blk.setChannel ch { s.blk.channel ch with st := .up, cmd := none }).resumeHeld (chanDomain ch))) := by
  simp [exec_channelRetrainDone, execChannelRetrainDone, Nat.not_le.2 hc, hs, hcmd]

theorem channelRetrainDone_commanded {c : Nat × Nat} (hs : (s.blk.channel ch).st = .held) (hcmd : (s.blk.channel ch).cmd = some c) :
    exec (.channelRetrainDone ch) s = .next (s.withBlk
      (((s.blk.setChannel ch { s.blk.channel ch with st := .up, cmd := none }).resumeHeld (chanDomain ch)).finishSts c.2 c.1 .ok)) := by
  simp [exec_channelRetrainDone, execChannelRetrainDone, Nat.not_le.2 hc, hs, hcmd]

/-! ### Rows -/

theorem rowRemap_deferred {bank row : Nat} (frames bad : List Nat) (hs : (s.blk.channel ch).st = .held)
    (hnew : (bank, row) ∉ (s.blk.channel ch).deferredRows) :
    exec (.rowRemap ch bank row frames bad) s = .next (s.withBlk (s.blk.setChannel ch
      { s.blk.channel ch with deferredRows := (s.blk.channel ch).deferredRows ++ [(bank, row)] })) := by
  simp [exec_rowRemap, execRowRemap, Nat.not_le.2 hc, hs, hnew]

section Stack

variable {bank row : Nat} {frames : List Nat} (hstack : ch < 256) (hs : (s.blk.channel ch).st = .up)
  (ht : (s.blk.domain (chanDomain ch)).tier ≠ .evacuating) (hv : (s.blk.channel ch).svc ≠ .evacuating)
include hstack hs ht hv

/-- A row of a stack channel that takes a spare row of its bank (R208). -/
theorem rowRemap_spare (hspare : tget 0 (s.blk.channel ch).spareRows bank < 32) :
    exec (.rowRemap ch bank row frames []) s = .next (s.withBlk ((s.blk.setChannel ch { s.blk.channel ch with
      spareRows := tinc (s.blk.channel ch).spareRows bank 1
      remapped := tinc (s.blk.channel ch).remapped (bank * 2 ^ 22 + row) 1 }).noteRepair)) := by
  simp [exec_rowRemap, execRowRemap, Nat.not_le.2 hc, hstack, hs, ht, hv, hspare]

/-- With the spare rows of its bank used up, the frame of the row retires (R208). -/
theorem rowRemap_retires (hspare : 32 ≤ tget 0 (s.blk.channel ch).spareRows bank) :
    exec (.rowRemap ch bank row frames []) s = .next (s.withBlk (s.blk.retireFrame (chanDomain ch) 0 row)) := by
  simp [exec_rowRemap, execRowRemap, Nat.not_le.2 hc, hstack, hs, ht, hv, Nat.not_lt.2 hspare]

theorem rowRemap_spare_completes (hspare : tget 0 (s.blk.channel ch).spareRows bank < 32) :
    Completes (.rowRemap ch bank row frames []) s (fun t =>
      tget 0 (t.blk.channel ch).spareRows bank = tget 0 (s.blk.channel ch).spareRows bank + 1 ∧ t.blk.mem = s.blk.mem ∧
      t.blk.memPoison = s.blk.memPoison ∧ t.blk.berths = s.blk.berths) := by
  refine .of_exec (rowRemap_spare hc hstack hs ht hv hspare) ?_
  obtain ⟨sto, sec, hnote⟩ := noteRepair_shape (s.blk.setChannel ch { s.blk.channel ch with
    spareRows := tinc (s.blk.channel ch).spareRows bank 1
    remapped := tinc (s.blk.channel ch).remapped (bank * 2 ^ 22 + row) 1 })
  rw [hnote]
  refine ⟨?_, rfl, rfl, rfl⟩
  change tget 0 ((s.blk.setChannel ch _).channel ch).spareRows bank = _
  rw [Block.setChannel_channel, tinc, tget_tput_same]

end Stack

end Known

end Channel

/-- Settles O32: each case of a channel's commands by its own lemma. -/
theorem channels : Obligations.Channels := by
  unfold Obligations.Channels
  intro s ch hc b x
  exact ⟨channelRetrain_completes hc, fun hs hbulk often => channelRetrain_bulkLost_completes hc hs hbulk often,
    fun hs hstack often => channelRetrain_stackLost hc hs hstack often, fun hs => channelRetrain_idle hs,
    ⟨channelRetrainDone_resumes hc, fun _ => channelRetrainDone_commanded hc⟩, fun hs => channelRetrainDone_idle hs,
    fun _ _ frames bad hs hnew => rowRemap_deferred hc frames bad hs hnew,
    fun _ _ _ hstack hs ht hv hspare => rowRemap_spare_completes hc hstack hs ht hv hspare,
    fun _ _ _ hstack hs ht hv hspare => rowRemap_retires hc hstack hs ht hv hspare⟩

end Sys2Proof

/-! PROOFS. A domain with no move queued and no tier command running (R190, R194 to R196): what looks for work there finds none. -/

namespace Sys2Proof

open Sys2Proof.Machine

theorem Completes.of_run {i : Instr} {s : State} {f : Block → Block} {b : Block} {P : State → Prop} (hx : exec i s = s.run f)
    (hf : f s.blk = b) (hp : P (s.withBlk b)) : Completes i s P := ⟨_, hx.trans (congrArg (fun c => Host.Outcome.next (s.withBlk c)) hf), hp⟩

@[simp] theorem setDomain_setDomain (b : Block) (d : Nat) (x y : Domain) : (b.setDomain d x).setDomain d y = b.setDomain d y :=
  congrArg (fun t => { b with domains := t }) (tput_tput_same b.domains d x y)

/-- A domain put back as it is. -/
theorem setDomain_self_domain (b : Block) (d i : Nat) : (b.setDomain d (b.domain d)).domain i = b.domain i := by
  by_cases hi : i = d
  · rw [hi, Block.setDomain_domain]
  · exact Block.setDomain_domain_ne b d i _ hi

theorem startQueued_idle {b : Block} {d : Nat} (h : (b.domain d).moveQueue = []) : b.startQueued d = b := by
  simp [Block.startQueued, h]

theorem queueMoves_idle {b : Block} {d : Nat} (h : (b.domain d).moveQueue = []) :
    b.queueMoves d [] = b.setDomain d (b.domain d) := by
  have hself : ({ b.domain d with moveQueue := (b.domain d).moveQueue ++ [] } : Domain) = b.domain d := by rw [List.append_nil]
  change (b.setDomain d { b.domain d with moveQueue := (b.domain d).moveQueue ++ [] }).startQueued d = _
  rw [hself]
  exact startQueued_idle (by simpa using h)

theorem endWaits_idle {b : Block} {d : Nat} (h : (b.domain d).waits = []) (p : TierWait → Bool) :
    b.endWaits d p = b.setDomain d (b.domain d) := by
  have hself : ({ b.domain d with waits := (b.domain d).waits.filter (fun w => !p w) } : Domain) = b.domain d := by
    rw [h, List.filter_nil, ← h]
  have hnone : (b.domain d).waits.filter p = [] := by rw [h, List.filter_nil]
  rw [Block.endWaits, hnone, List.foldl_nil, Block.updDomain_eq, hself]

theorem checkWaits_idle {b : Block} {d : Nat} (h : (b.domain d).waits = []) : b.checkWaits d = b.setDomain d (b.domain d) := by
  simp [Block.checkWaits, endWaits_idle, h]

/-- What a list of channels becomes touches channels only. -/
@[simp] theorem foldl_setChannel_frame (l : List Nat) (g : Block → Nat → Channel) (b : Block) :
    (l.foldl (fun (a : Block) c => a.setChannel c (g a c)) b).mem = b.mem ∧
    (l.foldl (fun (a : Block) c => a.setChannel c (g a c)) b).berths = b.berths ∧
    (∀ d, (l.foldl (fun (a : Block) c => a.setChannel c (g a c)) b).domain d = b.domain d) := by
  induction l generalizing b with
  | nil => exact ⟨rfl, rfl, fun _ => rfl⟩
  | cons c t ih => exact ih (b.setChannel c (g b c))

end Sys2Proof

/-! PROOFS. Migration of berths, and the evacuation, repair and return of a stack tier (R190, R195, R196, R205 to R207). -/

namespace Sys2Proof

open Sys2Proof.Machine

/-! ### What the commands run -/

theorem exec_migrationEpoch (d : Nat) (s : State) : exec (.migrationEpoch d) s = execMigrationEpoch d s := rfl
theorem exec_berthMoveFlip (d : Nat) (m : MovedBerth) (s : State) : exec (.berthMoveFlip d m) s = execBerthMoveFlip d m s := rfl
theorem exec_frameZeroed (d tier f : Nat) (s : State) : exec (.frameZeroed d tier f) s = execFrameZeroed d tier f s := rfl
theorem exec_evacuate (role : Role) (d : Nat) (s : State) : exec (.evacuate role d) s = execEvacuate role d s := rfl
theorem exec_tierReturn (role : Role) (d : Nat) (s : State) : exec (.tierReturn role d) s = execTierReturn role d s := rfl
theorem exec_evacuationDone (d : Nat) (s : State) : exec (.evacuationDone d) s = execEvacuationDone d s := rfl
theorem exec_repairDone (d : Nat) (pass : Bool) (s : State) : exec (.repairDone d pass) s = execRepairDone d pass s := rfl
theorem exec_returnDone (d : Nat) (s : State) : exec (.returnDone d) s = execReturnDone d s := rfl
theorem exec_evacuationRetry (d : Nat) (s : State) : exec (.evacuationRetry d) s = execEvacuationRetry d s := rfl

/-! ### The epoch -/

/-- A berth with its counter halved (R195). -/
def halved (x : Berth) : Berth := { x with counter := x.counter / 2 }

/-- The berths of a block with the counters of a domain halved (R195). -/
def halveCounters (d : Nat) (t : Tab Berth) : Tab Berth :=
  t.map (fun (e : Nat × Berth) => if e.1 / 2 ^ 24 = d then (e.1, halved e.2) else e)

theorem tget_halveCounters (d : Nat) (t : Tab Berth) (n : Nat) :
    tget {} (halveCounters d t) n = if n / 2 ^ 24 = d then halved (tget {} t n) else tget {} t n := by
  induction t with
  | nil => simp [halveCounters, tget, halved]
  | cons e t ih =>
    obtain ⟨j, x⟩ := e
    unfold halveCounters at ih ⊢
    by_cases hd : j / 2 ^ 24 = d
    · rw [List.map_cons, if_pos hd, tget, tget, ih]
      by_cases hj : j = n
      · rw [if_pos hj, if_pos hj, ← hj, if_pos hd]
      · rw [if_neg hj, if_neg hj]
    · rw [List.map_cons, if_neg hd, tget, tget, ih]
      by_cases hj : j = n
      · rw [if_pos hj, if_pos hj, ← hj, if_neg hd]
      · rw [if_neg hj, if_neg hj]

theorem migrationEpoch_outOfRange {d : Nat} (h : 8 ≤ d) (s : State) : exec (.migrationEpoch d) s = .next s := by
  simp [exec_migrationEpoch, execMigrationEpoch, h]

/-- Without a stack tier to promote to, an epoch plans nothing: it halves the counters (R195). -/
theorem migrationEpoch_halves {s : State} {d : Nat} (hd : d < 8) (ht : s.blk.tierOpen d 0 = false)
    (hq : (s.blk.domain d).moveQueue = []) :
    exec (.migrationEpoch d) s = .next (s.withBlk
      { s.blk.setDomain d (s.blk.domain d) with berths := halveCounters d s.blk.berths }) := by
  simp [exec_migrationEpoch, execMigrationEpoch, Nat.not_le.2 hd, ht, queueMoves_idle hq]
  rfl

theorem migrationEpoch_completes {s : State} {d : Nat} (hd : d < 8) (ht : s.blk.tierOpen d 0 = false)
    (hq : (s.blk.domain d).moveQueue = []) :
    Completes (.migrationEpoch d) s (fun t => t.blk.mem = s.blk.mem ∧
      (∀ n, n / 2 ^ 24 = d → (t.blk.berth n).counter = (s.blk.berth n).counter / 2) ∧
      (∀ n, n / 2 ^ 24 ≠ d → t.blk.berth n = s.blk.berth n)) := by
  refine .of_exec (migrationEpoch_halves hd ht hq) ⟨rfl, fun n hn => ?_, fun n hn => ?_⟩
  · change (tget {} (halveCounters d s.blk.berths) n).counter = _
    rw [tget_halveCounters, if_pos hn]
    rfl
  · change tget {} (halveCounters d s.blk.berths) n = _
    rw [tget_halveCounters, if_neg hn]
    rfl

/-! ### The flip of a berth, and a frame that is zeroed -/

/-- Poison in a frame is noted in the marks of memory and in the error counts (R395). -/
theorem poisonFrame_shape (b : Block) (tier d f : Nat) (bad : List Nat) :
    ∃ marks errs, b.poisonFrame tier d f bad = { b with memPoison := marks, errors := errs } := by
  unfold Block.poisonFrame
  induction bad generalizing b with
  | nil => exact ⟨b.memPoison, b.errors, rfl⟩
  | cons i t ih =>
    rw [List.foldl_cons]
    split
    · exact ih b
    · obtain ⟨marks, errs, h⟩ := ih { b with
        memPoison := sput b.memPoison (memKey tier d f (i * 64) / 64)
        errors := { b.errors with made := tinc b.errors.made 4 1 } }
      exact ⟨marks, errs, h⟩

theorem berthMoveFlip_waits {s : State} {d n : Nat} (bad : List Nat) (h : (s.blk.berth n).st ≠ .copying ∨ n / 2 ^ 24 ≠ d ∨
    s.blk.tierHeld d (s.blk.berth n).tier = true ∨ s.blk.tierHeld d (s.blk.berth n).destTier = true) :
    exec (.berthMoveFlip d { berth := n, bad := bad }) s = .next s := by
  rw [exec_berthMoveFlip, execBerthMoveFlip, State.run_eq]
  simp only [h, if_true]

/-- A domain in which a copied berth has flipped: the old frame is being zeroed, and the move counts (R195, R196). -/
def flipped (y : Domain) (x : Berth) : Domain :=
  { y with
    zeroing := y.zeroing ++ [(x.tier, x.frame)]
    promotions := y.promotions + (if x.tier = 1 ∧ x.destTier = 0 then 1 else 0)
    demotions := y.demotions + (if x.tier = 0 ∧ x.destTier = 1 then 1 else 0) }

/-- The flip in a domain where nothing else goes on (R196). -/
theorem berthMoveFlip_runs {s : State} {d n : Nat} (bad : List Nat) (hs : (s.blk.berth n).st = .copying) (hn : n / 2 ^ 24 = d)
    (h0 : s.blk.tierHeld d (s.blk.berth n).tier = false) (h1 : s.blk.tierHeld d (s.blk.berth n).destTier = false)
    (hq : (s.blk.domain d).moveQueue = []) (hw : (s.blk.domain d).waits = []) (ht : (s.blk.domain d).tier = .normal)
    (hr : (s.blk.domain d).retiring = []) :
    exec (.berthMoveFlip d { berth := n, bad := bad }) s = .next (s.withBlk
      (((s.blk.poisonFrame (s.blk.berth n).destTier d (s.blk.berth n).dest bad).setBerth n { s.blk.berth n with
          st := .steady, tier := (s.blk.berth n).destTier, frame := (s.blk.berth n).dest }).setDomain d
        (flipped (s.blk.domain d) (s.blk.berth n)))) := by
  obtain ⟨marks, errs, hp⟩ := poisonFrame_shape s.blk (s.blk.berth n).destTier d (s.blk.berth n).dest bad
  have hdom : ({ s.blk with memPoison := marks, errors := errs } : Block).domain d = s.blk.domain d := rfl
  rw [exec_berthMoveFlip, execBerthMoveFlip, State.run_eq]
  simp only [hp, hs, hn, h0, h1]
  simp [Block.freeFrame, hdom, hr, ht, hq, hw, startQueued_idle, checkWaits_idle, flipped, State.withBlk]

theorem berthMoveFlip_completes {s : State} {d n : Nat} (bad : List Nat) (hs : (s.blk.berth n).st = .copying) (hn : n / 2 ^ 24 = d)
    (h0 : s.blk.tierHeld d (s.blk.berth n).tier = false) (h1 : s.blk.tierHeld d (s.blk.berth n).destTier = false)
    (hq : (s.blk.domain d).moveQueue = []) (hw : (s.blk.domain d).waits = []) (ht : (s.blk.domain d).tier = .normal)
    (hr : (s.blk.domain d).retiring = []) :
    Completes (.berthMoveFlip d { berth := n, bad := bad }) s (fun t => (t.blk.berth n).st = .steady ∧
      (t.blk.berth n).tier = (s.blk.berth n).destTier ∧ (t.blk.berth n).frame = (s.blk.berth n).dest ∧
      ((s.blk.berth n).tier, (s.blk.berth n).frame) ∈ (t.blk.domain d).zeroing ∧ t.blk.mem = s.blk.mem ∧
      (∀ m, m ≠ n → t.blk.berth m = s.blk.berth m) ∧
      (t.blk.domain d).promotions = (s.blk.domain d).promotions +
        (if (s.blk.berth n).tier = 1 ∧ (s.blk.berth n).destTier = 0 then 1 else 0)) := by
  refine .of_exec (berthMoveFlip_runs bad hs hn h0 h1 hq hw ht hr) ?_
  obtain ⟨marks, errs, hp⟩ := poisonFrame_shape s.blk (s.blk.berth n).destTier d (s.blk.berth n).dest bad
  rw [hp]
  refine ⟨by simp, by simp, by simp, by simp [flipped], by simp, fun m hm => ?_, by simp [flipped]⟩
  simp only [Block.setDomain_frame]
  exact Block.setBerth_berth_ne _ _ _ _ hm

theorem cellGet_filter {p : Nat → Bool} (m : List Host.Cell) (k : Nat) :
    cellGet (m.filter (fun c => p c.1)) k = if p k then cellGet m k else 0 := by
  induction m with
  | nil => simp [cellGet]
  | cons c t ih =>
    obtain ⟨j, v⟩ := c
    by_cases hj : j = k
    · subst hj
      by_cases hp : p j = true <;> simp [cellGet, hp, ih]
    · by_cases hp : p j = true <;> simp [cellGet, hp, hj, ih]

theorem frameZeroed_idle {s : State} {d tier f : Nat} (h : (tier, f) ∉ (s.blk.domain d).zeroing) :
    exec (.frameZeroed d tier f) s = .next s := by
  simp [exec_frameZeroed, execFrameZeroed, h]

theorem frameZeroed_runs {s : State} {d tier f : Nat} (h : (tier, f) ∈ (s.blk.domain d).zeroing)
    (hq : (s.blk.domain d).moveQueue = []) (hw : (s.blk.domain d).waits = []) :
    exec (.frameZeroed d tier f) s = .next (s.withBlk ((s.blk.clearFrame tier d f).setDomain d { s.blk.domain d with
      zeroing := (s.blk.domain d).zeroing.filter (· != (tier, f)) })) := by
  have hdom : (s.blk.clearFrame tier d f).domain d = s.blk.domain d := rfl
  simp [exec_frameZeroed, execFrameZeroed, h, hdom, hq, hw, startQueued_idle, checkWaits_idle, State.withBlk]

/-- A frame that has been zeroed reads 0 and is being zeroed no more; memory outside it stays (R190). -/
theorem frameZeroed_completes {s : State} {d tier f : Nat} (h : (tier, f) ∈ (s.blk.domain d).zeroing)
    (hq : (s.blk.domain d).moveQueue = []) (hw : (s.blk.domain d).waits = []) :
    Completes (.frameZeroed d tier f) s (fun t => (tier, f) ∉ (t.blk.domain d).zeroing ∧
      (∀ k, inFrame tier d f k = true → cellGet t.blk.mem k = 0) ∧
      (∀ k, inFrame tier d f k = false → cellGet t.blk.mem k = cellGet s.blk.mem k) ∧ t.blk.berths = s.blk.berths) := by
  refine .of_exec (frameZeroed_runs h hq hw) ⟨by simp, fun k hk => ?_, fun k hk => ?_, rfl⟩
  · exact (cellGet_filter (p := fun k => !inFrame tier d f k) s.blk.mem k).trans (by simp [hk])
  · exact (cellGet_filter (p := fun k => !inFrame tier d f k) s.blk.mem k).trans (by simp [hk])

/-! ### Evacuation -/

section Commands

variable {s : State} {role : Role} {d : Nat} (ha : Admits s.blk role .operator 0x32)
include ha

theorem evacuate_outOfRange (hd : 8 ≤ d) : exec (.evacuate role d) s = .next (s.withBlk (s.blk.refuse .badRegion)) := by
  simp [exec_evacuate, execEvacuate, ha.cmd, hd, State.withBlk]

theorem evacuate_busy (hd : d < 8) (hn : (s.blk.domain d).tier ≠ .normal) (hf : (s.blk.domain d).tier ≠ .deferred) :
    exec (.evacuate role d) s = .next (s.withBlk (s.blk.refuse .busy)) := by
  simp [exec_evacuate, execEvacuate, ha.cmd, Nat.not_le.2 hd, hn, hf, State.withBlk]

theorem evacuate_starts (hd : d < 8) (ht : (s.blk.domain d).tier = .normal ∨ (s.blk.domain d).tier = .deferred)
    (hw : ∀ w ∈ (s.blk.domain d).waits, w.what = 2) :
    exec (.evacuate role d) s = .next (s.withBlk
      (((s.blk.accept objTier).addWait d { what := 3, cmd := (s.blk.accept objTier).cmds.count, key := d }).startEvac d)) := by
  have hany : (s.blk.domain d).waits.any (fun (w : TierWait) => w.what != 2) = false := by simpa using hw
  have hst : [TierSt.normal, .deferred].contains (s.blk.domain d).tier = true := by simpa using ht
  rw [exec_evacuate, execEvacuate, State.run_eq, ha.cmd]
  simp only [Nat.not_le.2 hd, hany, hst, if_false, Bool.not_true, Bool.or_false, Bool.false_eq_true]

theorem tierReturn_outOfRange (hd : 8 ≤ d) : exec (.tierReturn role d) s = .next (s.withBlk (s.blk.refuse .badRegion)) := by
  simp [exec_tierReturn, execTierReturn, ha.cmd, hd, State.withBlk]

theorem tierReturn_normal (hd : d < 8) (ht : (s.blk.domain d).tier = .normal) :
    exec (.tierReturn role d) s = .next (s.withBlk (s.blk.done objTier 0)) := by
  simp [exec_tierReturn, execTierReturn, ha.cmd, Nat.not_le.2 hd, ht, State.withBlk]

theorem tierReturn_busy (hd : d < 8) (hn : (s.blk.domain d).tier ≠ .normal) (he : (s.blk.domain d).tier ≠ .evacuated) :
    exec (.tierReturn role d) s = .next (s.withBlk (s.blk.refuse .busy)) := by
  simp [exec_tierReturn, execTierReturn, ha.cmd, Nat.not_le.2 hd, hn, he, State.withBlk]

end Commands

theorem evacuationDone_idle {s : State} {d : Nat} (h : (s.blk.domain d).tier ≠ .evacuating ∨ s.blk.onStack d ≠ []) :
    exec (.evacuationDone d) s = .next s := by
  rw [exec_evacuationDone, execEvacuationDone, State.run_eq]
  simp only [h, if_true]

/-- Once no berth stands on the stack tier, the domain is EVACUATED, or REPAIRING where a channel asked for it (R206). -/
theorem evacuationDone_completes {s : State} {d : Nat} (ht : (s.blk.domain d).tier = .evacuating) (ho : s.blk.onStack d = [])
    (hw : (s.blk.domain d).waits = []) :
    Completes (.evacuationDone d) s (fun t =>
      (t.blk.domain d).tier = (if (s.blk.domain d).repairing.isSome then .repairing else .evacuated) ∧
      t.blk.mem = s.blk.mem ∧ t.blk.berths = s.blk.berths) := by
  refine .of_run (exec_evacuationDone d s) (if_neg (by simp [ht, ho])) ?_
  simp only [Block.setTier, Block.updDomain_eq, Block.updChannel_eq]
  rw [endWaits_idle (by simpa using hw)]
  simp

theorem evacuationRetry_deferred {s : State} {d : Nat} (h : (s.blk.domain d).tier = .deferred) :
    exec (.evacuationRetry d) s = .next (s.withBlk (s.blk.startEvac d)) := by
  simp [exec_evacuationRetry, execEvacuationRetry, h, State.withBlk]

theorem evacuationRetry_idle {s : State} {d : Nat} (h : (s.blk.domain d).tier ≠ .deferred) :
    exec (.evacuationRetry d) s = .next s := by
  simp [exec_evacuationRetry, execEvacuationRetry, h]

/-! ### Repair and return -/

/-- No STEADY berth of a domain lies in a region of policy STACK (R193). -/
def NoStackBerth (b : Block) (d : Nat) : Prop :=
  ∀ e ∈ b.berthsOf d, e.2.st = .steady → ∀ r, b.regionOf e.1 = some r → r.policy ≠ .stack

theorem NoStackBerth.congr {b c : Block} {d : Nat} (h : NoStackBerth b d) (hb : c.berths = b.berths)
    (hr : (c.domain d).regions = (b.domain d).regions) : NoStackBerth c d := by
  intro e he hs r hreg
  unfold Block.berthsOf at he
  rw [hb] at he
  have hd : e.1 / 2 ^ 24 = d := by simpa using (List.mem_filter.1 he).2
  refine h e he hs r ?_
  rwa [Block.regionOf, hd, hr, ← hd] at hreg

/-- With no berth to copy back, a return only sets the tier state (R206). -/
theorem startReturn_idle {b : Block} {d : Nat} (hq : (b.domain d).moveQueue = []) (hs : NoStackBerth b d) :
    b.startReturn d = b.setDomain d { b.domain d with tier := .returning } := by
  have hs1 : NoStackBerth (b.setTier d .returning) d := hs.congr (by simp [Block.setTier]) (by simp [Block.setTier])
  unfold Block.startReturn
  dsimp only
  rw [List.filter_eq_nil_iff.2 ?none, List.map_nil, queueMoves_idle (by simpa [Block.setTier] using hq)]
  · simp [Block.setTier]
  case none =>
    intro e he hc
    simp only [Bool.and_eq_true, beq_iff_eq] at hc
    obtain ⟨⟨hst, -⟩, hreg⟩ := hc
    cases hr : (b.setTier d .returning).regionOf e.1 with
    | none => simp [hr] at hreg
    | some r => exact hs1 e he hst r hr (by simpa [hr] using hreg)

theorem tierReturn_starts {s : State} {role : Role} {d : Nat} (ha : Admits s.blk role .operator 0x32) (hd : d < 8)
    (ht : (s.blk.domain d).tier = .evacuated) :
    exec (.tierReturn role d) s = .next (s.withBlk (((stackChannels d).foldl
      (fun (a : Block) c => a.updChannel c (fun y => { y with st := if y.st = .evacuated then .up else y.st }))
      ((s.blk.accept objTier).addWait d { what := 4, cmd := (s.blk.accept objTier).cmds.count, key := d })).startReturn d)) := by
  rw [exec_tierReturn, execTierReturn, State.run_eq, ha.cmd]
  dsimp only
  rw [if_neg (Nat.not_le.2 hd), if_neg (by simp [ht]), if_neg (by simp [ht])]

/-- RETURN of an evacuated tier: the channels it evacuated are UP again, and the return starts (R206). -/
theorem tierReturn_completes {s : State} {role : Role} {d : Nat} (ha : Admits s.blk role .operator 0x32) (hd : d < 8)
    (ht : (s.blk.domain d).tier = .evacuated) (hq : (s.blk.domain d).moveQueue = []) (hs : NoStackBerth s.blk d) :
    Completes (.tierReturn role d) s (fun t => (t.blk.domain d).tier = .returning ∧ t.blk.mem = s.blk.mem) := by
  refine .of_exec (tierReturn_starts ha hd ht) ?_
  simp only [Block.addWait, Block.updDomain_eq, Block.updChannel_eq]
  rw [startReturn_idle (by simpa using hq) (hs.congr (by simp) (by simp))]
  simp

/-- The repair failed: the domain runs on bulk alone, an event and an alert (R206). -/
theorem repairDone_fails {s : State} {d : Nat} (ht : (s.blk.domain d).tier = .evacuated ∨ (s.blk.domain d).tier = .repairing) :
    Completes (.repairDone d false) s (fun t => (t.blk.domain d).tier = .offline ∧ t.blk.alert 10 = true ∧
      t.blk.mem = s.blk.mem ∧ t.blk.berths = s.blk.berths) := by
  refine .of_run (exec_repairDone d false s) (if_neg (by rcases ht with h | h <;> simp [h])) ?_
  simp only [Bool.false_eq_true, if_false, Block.setTier, Block.updDomain_eq, Block.updChannel_eq]
  exact ⟨by simp, setAlert_alert _ (by decide), by simp, by simp⟩

/-- The repair passed: the return starts (R206). -/
theorem repairDone_passes {s : State} {d : Nat} (ht : (s.blk.domain d).tier = .evacuated ∨ (s.blk.domain d).tier = .repairing)
    (hq : (s.blk.domain d).moveQueue = []) (hs : NoStackBerth s.blk d) :
    Completes (.repairDone d true) s (fun t => (t.blk.domain d).tier = .returning ∧ (t.blk.domain d).repairing = none ∧
      t.blk.mem = s.blk.mem) := by
  refine .of_run (exec_repairDone d true s) (if_neg (by rcases ht with h | h <;> simp [h])) ?_
  simp only [if_true, Block.updDomain_eq, Block.updChannel_eq]
  rw [startReturn_idle (by simpa using hq) (hs.congr (by simp) (by simp))]
  simp

/-- With no move to the stack tier left, the domain is NORMAL again (R206). -/
theorem returnDone_completes {s : State} {d : Nat} (ht : (s.blk.domain d).tier = .returning) (hq : (s.blk.domain d).moveQueue = [])
    (hw : (s.blk.domain d).waits = []) (hcopy : ∀ e ∈ s.blk.berthsOf d, e.2.st ≠ .copying) :
    Completes (.returnDone d) s (fun t => (t.blk.domain d).tier = .normal ∧ t.blk.mem = s.blk.mem ∧ t.blk.berths = s.blk.berths) := by
  have hnone : (s.blk.berthsOf d).any (fun e => e.2.st == .copying && e.2.destTier == 0) = false :=
    List.any_eq_false.2 fun e he => by simp [hcopy e he]
  refine .of_run (exec_returnDone d s) (if_neg (by simp [ht, hq, hnone])) ?_
  have hidle := endWaits_idle (b := s.blk.setTier d .normal) (d := d) (by simpa [Block.setTier] using hw) (fun w => w.what == 4)
  simp only [hidle]
  split <;> simp [Block.setTier]

/-- Settles O31: each command's cases by its own lemma. -/
theorem migrationAndTiers : Obligations.MigrationAndTiers := by
  unfold Obligations.MigrationAndTiers
  refine ⟨fun s d => ?_, fun s role d => ?_⟩
  · exact ⟨fun hd => migrationEpoch_outOfRange hd s, migrationEpoch_completes,
      fun _ bad hs hn h0 h1 hq hw ht hr => berthMoveFlip_completes bad hs hn h0 h1 hq hw ht hr,
      fun _ bad h => berthMoveFlip_waits bad h, fun _ _ => frameZeroed_completes, fun _ _ => frameZeroed_idle⟩
  · refine ⟨fun ha => ⟨fun hd => ⟨evacuate_outOfRange ha hd, tierReturn_outOfRange ha hd⟩, evacuate_busy ha, evacuate_starts ha,
      tierReturn_normal ha, tierReturn_busy ha, tierReturn_completes ha⟩, fun ht ho hw hr => ?_, fun ht ho hw hr => ?_,
      evacuationDone_idle, repairDone_fails, repairDone_passes, returnDone_completes, evacuationRetry_deferred, evacuationRetry_idle⟩
    · simpa [hr] using evacuationDone_completes ht ho hw
    · obtain ⟨t, hx, htier, -⟩ := evacuationDone_completes ht ho hw
      exact ⟨t, hx, by simpa [Option.isSome_iff_ne_none.2 hr] using htier⟩

end Sys2Proof

/-! PROOFS. Regions and berths (R190 to R194, R201, R204): the commands on regions and runs of berths, the backing of a VACANT berth, and
what becomes of a berth that is made VACANT. -/

namespace Sys2Proof

open Sys2Proof.Machine

/-! ### What the commands run -/

theorem exec_regionAdd (role : Role) (d base n c p : Nat) (s : State) :
    exec (.regionAdd role d base n c p) s = execRegionAdd role d base n c p s := by
  unfold exec
  rfl
theorem exec_regionRemove (role : Role) (r : Nat) (s : State) : exec (.regionRemove role r) s = execRegionRemove role r s := rfl
theorem exec_releaseBerths (role : Role) (base n : Nat) (s : State) :
    exec (.releaseBerths role base n) s = execReleaseBerths role base n s := rfl
theorem exec_reload (role : Role) (base n : Nat) (s : State) : exec (.reload role base n) s = execReload role base n s := rfl
theorem exec_berthQuery (role : Role) (pa : Nat) (s : State) : exec (.berthQuery role pa) s = execBerthQuery role pa s := rfl

/-- No tier command moves a berth of a run. -/
theorem entries_not_moved {b : Block} {first n : Nat} (h : ∀ e ∈ b.entries first n, b.movedByCommand e.1 = false) :
    ((b.entries first n).map Prod.fst).any b.movedByCommand = false := by simpa using h

theorem entries_moved {b : Block} {first n : Nat} (h : ∃ e ∈ b.entries first n, b.movedByCommand e.1 = true) :
    ((b.entries first n).map Prod.fst).any b.movedByCommand = true := by simpa using h

section Commands

variable {s : State} {role : Role} (ha : Admits s.blk role .operator 0x32)
include ha

/-! ### A run that is not whole berths of the presented range -/

section NoSpan

variable {base n : Nat} (h : s.blk.berthSpan base n = none)
include h

theorem regionAdd_badSpan (d c p : Nat) : exec (.regionAdd role d base n c p) s = .next (s.withBlk (s.blk.refuse .badRegion)) := by
  rw [exec_regionAdd, execRegionAdd, State.run_eq, ha.cmd, h]

theorem releaseBerths_badSpan : exec (.releaseBerths role base n) s = .next (s.withBlk (s.blk.refuse .badRegion)) := by
  rw [exec_releaseBerths, execReleaseBerths, State.run_eq, ha.cmd, h]

theorem reload_badSpan : exec (.reload role base n) s = .next (s.withBlk (s.blk.refuse .badRegion)) := by
  rw [exec_reload, execReload, State.run_eq, ha.cmd, h]

end NoSpan

theorem berthQuery_badSpan {pa : Nat} (h : s.blk.berthSpan pa 1 = none) :
    exec (.berthQuery role pa) s = .next (s.withBlk (s.blk.refuse .badRegion)) := by
  rw [exec_berthQuery, execBerthQuery, State.run_eq, ha.cmd, h]

theorem berthQuery_answers {pa n : Nat} (h : s.blk.berthSpan pa 1 = some n) :
    exec (.berthQuery role pa) s = .next (s.withBlk
      (s.blk.done objTier (berthWord (s.blk.berth n) + (s.blk.berth n).counter * 2 ^ 32))) := by
  rw [exec_berthQuery, execBerthQuery, State.run_eq, ha.cmd, h]

/-! ### Regions -/

/-- A region of policy AUTO over berths that overlap no other moves nothing: it takes the lowest free number (R193, R194). -/
theorem regionAdd_auto {d base n c first i : Nat} (hspan : s.blk.berthSpan base n = some first) (hd : d < 8)
    (hbase : base / 2 ^ 40 = d) (hctx : (s.blk.ctx c).st = .active)
    (hfree : ∀ r ∈ (s.blk.domain d).regions, ¬ (r.base < first + n ∧ first < r.base + r.count))
    (hnum : (List.range 1024).find? (fun j => !((s.blk.domain d).regions.any (fun r => r.num == d * 1024 + j))) = some i)
    (hmoved : ∀ e ∈ s.blk.entries first n, s.blk.movedByCommand e.1 = false) :
    exec (.regionAdd role d base n c 0) s = .next (s.withBlk ((s.blk.setDomain d { s.blk.domain d with
      regions := (s.blk.domain d).regions ++
        [{ num := d * 1024 + i, base := first, count := n, owner := c, policy := .auto }] }).done objTier (d * 1024 + i))) := by
  have hover : (s.blk.domain d).regions.any (fun (r : Region) => decide (r.base < first + n ∧ first < r.base + r.count)) = false :=
    List.any_eq_false.2 fun r hr => by simpa using hfree r hr
  have hpolicy : policyOf 0 = some .auto := rfl
  rw [exec_regionAdd, execRegionAdd, State.run_eq, ha.cmd, hspan, hpolicy]
  dsimp only
  rw [if_neg ?ok, hnum]
  case ok =>
    rintro (h | h | h | h)
    · exact h hbase
    · exact Nat.not_le.2 hd h
    · exact Bool.false_ne_true (hover.symm.trans h)
    · exact h hctx
  simp [entries_not_moved hmoved, State.withBlk]

theorem regionAdd_auto_completes {d base n c first i : Nat} (hspan : s.blk.berthSpan base n = some first) (hd : d < 8)
    (hbase : base / 2 ^ 40 = d) (hctx : (s.blk.ctx c).st = .active)
    (hfree : ∀ r ∈ (s.blk.domain d).regions, ¬ (r.base < first + n ∧ first < r.base + r.count))
    (hnum : (List.range 1024).find? (fun j => !((s.blk.domain d).regions.any (fun r => r.num == d * 1024 + j))) = some i)
    (hmoved : ∀ e ∈ s.blk.entries first n, s.blk.movedByCommand e.1 = false) :
    Completes (.regionAdd role d base n c 0) s (fun t =>
      (t.blk.domain d).regions = (s.blk.domain d).regions ++
        [{ num := d * 1024 + i, base := first, count := n, owner := c, policy := .auto }] ∧
      t.blk.cmds.reply = { status := .ok, command := s.blk.cmds.count + 1, ret := d * 1024 + i } ∧ t.blk.berths = s.blk.berths ∧
      t.blk.mem = s.blk.mem ∧ t.blk.hws = s.blk.hws) :=
  .of_exec (regionAdd_auto ha hspan hd hbase hctx hfree hnum hmoved) ⟨by simp, done_reply _ _ _, rfl, rfl, rfl⟩

section Remove

variable {r : Nat} {x : Region} (hr : (s.blk.domain (r / 1024)).regions.find? (fun y => y.num == r) = some x)
include hr

theorem regionRemove_streamed (hu : s.blk.streamUses x = true) :
    exec (.regionRemove role r) s = .next (s.withBlk (s.blk.refuse .busy)) := by
  rw [exec_regionRemove, execRegionRemove, State.run_eq, ha.cmd]
  dsimp only
  rw [hr]
  simp [hu, State.withBlk]

/-- The berths of the region become system memory without PIN (R194). -/
theorem regionRemove_runs (hu : s.blk.streamUses x = false)
    (hmoved : ∀ e ∈ s.blk.entries x.base x.count, s.blk.movedByCommand e.1 = false) :
    exec (.regionRemove role r) s = .next (s.withBlk ((((s.blk.entries x.base x.count).foldl
      (fun (a : Block) (e : Nat × Berth) => a.updBerth e.1 (fun z => { z with pin := false })) s.blk).updDomain (r / 1024)
        (fun y => { y with regions := y.regions.filter (fun z => z.num != r) })).done objTier 0)) := by
  rw [exec_regionRemove, execRegionRemove, State.run_eq, ha.cmd]
  dsimp only
  rw [hr]
  simp only [hu, entries_not_moved hmoved, Bool.or_false, Bool.false_eq_true, if_false]

end Remove

/-! ### Berths made VACANT by command -/

section Span

variable {base n first : Nat} (hspan : s.blk.berthSpan base n = some first)
include hspan

theorem reload_moved (hmoved : ∃ e ∈ s.blk.entries first n, s.blk.movedByCommand e.1 = true) :
    exec (.reload role base n) s = .next (s.withBlk (s.blk.refuse .busy)) := by
  rw [exec_reload, execReload, State.run_eq, ha.cmd, hspan]
  dsimp only
  rw [if_pos (entries_moved hmoved)]

variable (hmoved : ∀ e ∈ s.blk.entries first n, s.blk.movedByCommand e.1 = false)
include hmoved

theorem releaseBerths_waits (hbusy : s.blk.berthsBusy first n = true) : exec (.releaseBerths role base n) s = .next s := by
  rw [exec_releaseBerths, execReleaseBerths, State.run_eq, ha.cmd, hspan]
  dsimp only
  rw [if_neg (by simp [entries_not_moved hmoved]), if_pos hbusy]

theorem releaseBerths_runs (hbusy : s.blk.berthsBusy first n = false) :
    exec (.releaseBerths role base n) s = .next (s.withBlk
      ((((s.blk.entries first n).foldl (fun (a : Block) (e : Nat × Berth) => a.vacate e.1) s.blk).done objTier 0).startQueued
        (first / 2 ^ 24))) := by
  rw [exec_releaseBerths, execReleaseBerths, State.run_eq, ha.cmd, hspan]
  dsimp only
  rw [if_neg (by simp [entries_not_moved hmoved]), if_neg (by simp [hbusy])]

theorem reload_runs :
    exec (.reload role base n) s = .next (s.withBlk ((((s.blk.entries first n).filter (fun e => e.2.st == .failed)).foldl
      (fun (a : Block) (e : Nat × Berth) => (a.vacate e.1).unfail e.1) s.blk).done objTier 0)) := by
  rw [exec_reload, execReload, State.run_eq, ha.cmd, hspan]
  dsimp only
  rw [if_neg (by simp [entries_not_moved hmoved])]

end Span

end Commands

/-! ### What REGION_REMOVE leaves -/

/-- Taking PIN from berths leaves everything but their PIN (R194). -/
theorem foldl_unpin (l : List (Nat × Berth)) (b : Block) :
    let c := l.foldl (fun (a : Block) (e : Nat × Berth) => a.updBerth e.1 (fun z => { z with pin := false })) b
    (∀ n, (c.berth n).st = (b.berth n).st ∧ (c.berth n).frame = (b.berth n).frame ∧ (c.berth n).tier = (b.berth n).tier) ∧
      c.mem = b.mem ∧ c.hws = b.hws := by
  induction l generalizing b with
  | nil => exact ⟨fun _ => ⟨rfl, rfl, rfl⟩, rfl, rfl⟩
  | cons e t ih =>
    obtain ⟨hberth, hmem, hhws⟩ := ih (b.updBerth e.1 (fun z => { z with pin := false }))
    have hstep (n : Nat) : ((b.updBerth e.1 (fun z => { z with pin := false })).berth n).st = (b.berth n).st ∧
        ((b.updBerth e.1 (fun z => { z with pin := false })).berth n).frame = (b.berth n).frame ∧
        ((b.updBerth e.1 (fun z => { z with pin := false })).berth n).tier = (b.berth n).tier := by
      by_cases hn : n = e.1
      · subst hn
        simp
      · rw [Block.updBerth_eq, Block.setBerth_berth_ne _ _ _ _ hn]
        exact ⟨rfl, rfl, rfl⟩
    refine ⟨fun n => ?_, hmem, hhws⟩
    obtain ⟨hst, hframe, htier⟩ := hberth n
    obtain ⟨hst', hframe', htier'⟩ := hstep n
    exact ⟨hst.trans hst', hframe.trans hframe', htier.trans htier'⟩

theorem regionRemove_completes {s : State} {role : Role} (ha : Admits s.blk role .operator 0x32) {r : Nat} {x : Region}
    (hr : (s.blk.domain (r / 1024)).regions.find? (fun y => y.num == r) = some x) (hu : s.blk.streamUses x = false)
    (hmoved : ∀ e ∈ s.blk.entries x.base x.count, s.blk.movedByCommand e.1 = false) :
    Completes (.regionRemove role r) s (fun t => (∀ y ∈ (t.blk.domain (r / 1024)).regions, y.num ≠ r) ∧
      (∀ n, (t.blk.berth n).st = (s.blk.berth n).st ∧ (t.blk.berth n).frame = (s.blk.berth n).frame ∧
        (t.blk.berth n).tier = (s.blk.berth n).tier) ∧
      t.blk.cmds.reply.status = .ok ∧ t.blk.mem = s.blk.mem ∧ t.blk.hws = s.blk.hws) := by
  obtain ⟨hberth, hmem, hhws⟩ := foldl_unpin (s.blk.entries x.base x.count) s.blk
  refine .of_exec (regionRemove_runs ha hr hu hmoved) ⟨fun y hy => ?_, hberth, rfl, hmem, hhws⟩
  simp only [Block.done_frame, Block.updDomain_eq, Block.setDomain_domain, List.mem_filter, bne_iff_ne] at hy
  exact hy.2

/-! ### The backing of a VACANT berth -/

section Back

variable {b : Block} {n : Nat} (hhead : b.cfg 0x32000043 0 ≠ 1)
include hhead

/-- The berth is STEADY in the frame picked in the first tier with room (R192, R204). -/
theorem back_finds {t : Nat} (ht : (b.tiersTried n).find? (fun t => b.freeFrames (n / 2 ^ 24) t != 0 && b.ownerRoom n t) = some t) :
    ∃ c, b.back n = .ok c ∧ (c.berth n).st = .steady ∧ (c.berth n).tier = t ∧ (c.berth n).frame = b.pickFrame (n / 2 ^ 24) t ∧
      (∀ m, m ≠ n → c.berth m = b.berth m) ∧ c.mem = b.mem ∧ c.lines = b.lines ∧ c.hws = b.hws ∧ c.domains = b.domains := by
  have hberth (x : Berth) (p m : Nat) : ({ b.setBerth n x with picks := p } : Block).berth m = (b.setBerth n x).berth m := rfl
  unfold Block.back
  dsimp only
  rw [if_neg (fun h => hhead h.1), ht]
  refine ⟨_, rfl, ?_⟩
  simp only [Block.updBerth_eq, hberth, Block.setBerth_berth, true_and]
  exact ⟨fun m hm => Block.setBerth_berth_ne _ _ _ _ hm, rfl, rfl, rfl, rfl⟩

/-- No tier with room: an event, and an error that names the quota or the frames (R192, R204). -/
theorem back_fails (ht : (b.tiersTried n).find? (fun t => b.freeFrames (n / 2 ^ 24) t != 0 && b.ownerRoom n t) = none) :
    ∃ k, b.back n = .error (k, b.raise (unitNo 0x32 (n / 2 ^ 24)) .tierNoFrame [n / 2 ^ 24, n]) ∧ (k = 2 ∨ k = 3) := by
  unfold Block.back
  dsimp only
  rw [if_neg (fun h => hhead h.1), ht]
  refine ⟨_, rfl, ?_⟩
  split
  · exact .inl rfl
  · exact .inr rfl

end Back

/-! ### A berth that becomes VACANT -/

section Vacate

variable {b : Block} {n : Nat}

theorem vacate_vacant (h : (b.berth n).st = .vacant) : b.vacate n = b := by simp [Block.vacate, h]

/-- A move that is queued but has not begun is dropped from the queue only (R206). -/
theorem cancelMove_of_not_copying (h : (b.berth n).st ≠ .copying) : b.cancelMove n = b.setDomain (n / 2 ^ 24)
    { b.domain (n / 2 ^ 24) with moveQueue := (b.domain (n / 2 ^ 24)).moveQueue.filter (fun m => m.1 != n) } := by
  simp [Block.cancelMove, h]

/-- A STEADY berth that is made VACANT: its counter stays, its frame is to be zeroed, nothing else changes (R190, R194). -/
theorem vacate_steady (h : (b.berth n).st = .steady)
    (hr : (b.domain (n / 2 ^ 24)).retiring.contains ((b.berth n).tier, (b.berth n).frame) = false) :
    ((b.vacate n).berth n).st = .vacant ∧ ((b.vacate n).berth n).counter = (b.berth n).counter ∧
      ((b.berth n).tier, (b.berth n).frame) ∈ ((b.vacate n).domain (n / 2 ^ 24)).zeroing ∧ (b.vacate n).mem = b.mem ∧
      (b.vacate n).hws = b.hws ∧ ∀ m, m ≠ n → (b.vacate n).berth m = b.berth m := by
  have hv : b.vacate n = ((b.cancelMove n).setBerth n { counter := (b.berth n).counter }).freeFrame (n / 2 ^ 24)
      (b.berth n).tier (b.berth n).frame := by
    simp [Block.vacate, h]
  rw [hv, cancelMove_of_not_copying (by simp [h])]
  simp only [Block.freeFrame, Block.updDomain_eq, Block.setDomain_frame, Block.setBerth_frame, Block.setBerth_berth,
    Block.setDomain_domain, hr, Bool.false_eq_true, if_false, true_and]
  refine ⟨List.mem_append_right _ (List.mem_singleton_self _), fun m hm => ?_⟩
  exact (Block.setBerth_berth_ne _ _ _ _ hm).trans (by simp)

/-- The frame of a FAILED berth that is made VACANT is retired (R194). -/
theorem vacate_failed (h : (b.berth n).st = .failed) (hf : (b.berth n).hasFrame = true) :
    ((b.vacate n).berth n).st = .vacant ∧
      ((b.berth n).tier, (b.berth n).frame) ∈ ((b.vacate n).domain (n / 2 ^ 24)).retired := by
  have hv : b.vacate n = ((b.cancelMove n).setBerth n { counter := (b.berth n).counter }).retireNow (n / 2 ^ 24)
      (b.berth n).tier (b.berth n).frame := by
    simp [Block.vacate, h, hf]
  rw [hv]
  simp only [Block.retireNow, Block.updDomain_eq, Block.setDomain_frame, Block.setBerth_berth, Block.setDomain_domain, true_and]
  split
  case isTrue hin => simpa using hin
  case isFalse => exact List.mem_append_right _ (List.mem_singleton_self _)

end Vacate

/-- Settles O29: each command's cases by its own lemma. -/
theorem regions : Obligations.Regions := by
  unfold Obligations.Regions
  refine ⟨fun s role ha => ⟨fun base n h => ⟨releaseBerths_badSpan ha h, reload_badSpan ha h, regionAdd_badSpan ha h, fun hn =>
      berthQuery_badSpan ha (hn ▸ h)⟩, ?_, fun r x hr => ⟨regionRemove_streamed ha hr, regionRemove_completes ha hr⟩,
      fun base n first hspan hm => ⟨releaseBerths_waits ha hspan hm, releaseBerths_runs ha hspan hm⟩,
      fun base n first hspan => reload_moved ha hspan, fun base n first hspan hm => reload_runs ha hspan hm,
      fun pa n h => berthQuery_answers ha h⟩,
    fun b n hhead => ⟨fun t => back_finds hhead, back_fails hhead⟩, fun b n => ⟨vacate_vacant, vacate_steady, vacate_failed⟩⟩
  intro d base n c first i hspan hd hbase hctx hfree hnum hmoved
  exact regionAdd_auto_completes ha hspan hd hbase hctx hfree hnum hmoved

end Sys2Proof

/-! PROOFS. Streams (R194, R197 to R200): their registration and removal, WAITSTREAM, a layer that becomes resident, and a berth that goes
into a window frame and back. -/

namespace Sys2Proof

open Sys2Proof.Machine

/-! ### What the commands run -/

theorem exec_streamAdd (role : Role) (pa : Nat) (s : State) : exec (.streamAdd role pa) s = execStreamAdd role pa s := rfl
theorem exec_streamRemove (role : Role) (num : Nat) (s : State) : exec (.streamRemove role num) s = execStreamRemove role num s := rfl
theorem exec_waitstream (l h : Nat) (w : W64) (s : State) : exec (.waitstream l h w) s = execWaitstream l h w s := rfl
theorem exec_layerResident (d num layer : Nat) (errs : List (Nat × Bool)) (s : State) :
    exec (.layerResident d num layer errs) s = execLayerResident d num layer errs s := rfl

/-! ### Registration -/

/-- What STREAM_ADD makes of a stream and its layer table once both are read: the checks that remain, then its registration (R194, R197,
R204). `registerStream` is the last part of `execStreamAdd`, as `streamAdd_judges` says. -/
def registerStream (b : Block) (t0 : Stream) (es : List Nat) : Block :=
  let d := (t0.layers.headD (0, 0)).1 / 2 ^ 24
  if !b.streamOk t0 es then b.refuse .badStreamDesc
  else if (t0.layers.map (fun y => (b.entries y.1 y.2).map Prod.fst)).flatten.any b.movedByCommand then b.refuse .busy
  else if !quotaRoom (b.ctx t0.ctx).qWindow (b.windowUse t0.ctx d) t0.window then b.refuse .quota
  else
    match (List.range 32).find? (fun i => !((b.domain d).streams.any (fun (o : Stream) => o.num == d * 32 + i))) with
    | none => b.refuse .noSlot
    | some i =>
      let b1 := (b.updDomain d (fun y => { y with streams := y.streams ++ [{ t0 with num := d * 32 + i }] })).accept objTier
      (b1.addWait d { what := 1, cmd := b1.cmds.count, key := d * 32 + i }).checkWaits d

section Register

variable {b : Block} {t0 : Stream} {es : List Nat}

theorem registerStream_bad (h : b.streamOk t0 es = false) : registerStream b t0 es = b.refuse .badStreamDesc := by
  simp [registerStream, h]

variable (hok : b.streamOk t0 es = true)
include hok

theorem registerStream_moved (h : ∃ y ∈ t0.layers, ∃ e ∈ b.entries y.1 y.2, b.movedByCommand e.1 = true) :
    registerStream b t0 es = b.refuse .busy := by
  obtain ⟨y, hy, e, he, hm⟩ := h
  have hany : (t0.layers.map (fun y => (b.entries y.1 y.2).map Prod.fst)).flatten.any b.movedByCommand = true :=
    List.any_eq_true.2 ⟨e.1, List.mem_flatten.2 ⟨_, List.mem_map_of_mem hy, List.mem_map_of_mem he⟩, hm⟩
  rw [registerStream, if_neg (by simp [hok]), if_pos hany]

theorem registerStream_registers {i : Nat} (hm : ∀ y ∈ t0.layers, ∀ e ∈ b.entries y.1 y.2, b.movedByCommand e.1 = false)
    (hq : quotaRoom (b.ctx t0.ctx).qWindow (b.windowUse t0.ctx ((t0.layers.headD (0, 0)).1 / 2 ^ 24)) t0.window = true)
    (hi : (List.range 32).find? (fun j => !((b.domain ((t0.layers.headD (0, 0)).1 / 2 ^ 24)).streams.any
      (fun o => o.num == (t0.layers.headD (0, 0)).1 / 2 ^ 24 * 32 + j))) = some i) :
    registerStream b t0 es =
      (let d := (t0.layers.headD (0, 0)).1 / 2 ^ 24
       let b1 := (b.updDomain d (fun y => { y with streams := y.streams ++ [{ t0 with num := d * 32 + i }] })).accept objTier
       (b1.addWait d { what := 1, cmd := b1.cmds.count, key := d * 32 + i }).checkWaits d) := by
  have hany : (t0.layers.map (fun y => (b.entries y.1 y.2).map Prod.fst)).flatten.any b.movedByCommand = false := by
    refine List.any_eq_false.2 fun k hk => ?_
    obtain ⟨l, hl, hkl⟩ := List.mem_flatten.1 hk
    obtain ⟨y, hy, rfl⟩ := List.mem_map.1 hl
    obtain ⟨e, he, rfl⟩ := List.mem_map.1 hkl
    simp [hm y hy e he]
  rw [registerStream]
  dsimp only
  rw [if_neg (by simp [hok]), if_neg (by rw [hany]; exact Bool.false_ne_true), if_neg (by rw [hq]; exact Bool.false_ne_true), hi]

end Register

section Add

variable {s : State} {role : Role} {pa : Nat} (ha : Admits s.blk role .operator 0x32)
include ha

theorem streamAdd_badAddress (h : pa % 64 ≠ 0 ∨ s.blk.rangeOk pa 64 = false) :
    exec (.streamAdd role pa) s = .next (s.withBlk (s.blk.refuse .badStreamDesc)) := by
  rw [exec_streamAdd, execStreamAdd, State.run_eq, ha.cmd, if_pos (by simpa using h)]

section Read

variable {v : Nat} (hal : pa % 64 = 0) (hok : s.blk.rangeOk pa 64 = true) (hv : s.blk.readAt pa 64 = .ok v)
include hal hok hv

theorem streamAdd_level (hl : fld (BitVec.ofNat 512 v) 0 4 ≠ 1) :
    exec (.streamAdd role pa) s = .next (s.withBlk (s.blk.refuse .levelReject)) := by
  rw [exec_streamAdd, execStreamAdd, State.run_eq, ha.cmd, if_neg (by simp [hal, hok]), hv]
  dsimp only
  rw [if_pos hl]

variable (hl : fld (BitVec.ofNat 512 v) 0 4 = 1)
include hl

theorem streamAdd_reserved (hr : streamRsv (BitVec.ofNat 512 v) = true) :
    exec (.streamAdd role pa) s = .next (s.withBlk (s.blk.refuse .rsvNonzero)) := by
  rw [exec_streamAdd, execStreamAdd, State.run_eq, ha.cmd, if_neg (by simp [hal, hok]), hv]
  dsimp only
  rw [if_neg (not_not.2 hl), if_pos hr]

section Table

variable {es : List Nat} (hr : streamRsv (BitVec.ofNat 512 v) = false) (h16 : fld (BitVec.ofNat 512 v) 128 64 % 16 = 0)
  (hn : fld (BitVec.ofNat 512 v) 32 16 ≠ 0)
  (htable : s.blk.rangeOk (fld (BitVec.ofNat 512 v) 128 64) (16 * fld (BitVec.ofNat 512 v) 32 16) = true)
  (hes : s.blk.readWords 16 (fld (BitVec.ofNat 512 v) 128 64) (fld (BitVec.ofNat 512 v) 32 16) = .ok es)
  (hrsv : ∀ e ∈ es, e / 2 ^ 88 = 0)
include hr h16 hn htable hes hrsv

/-- With the descriptor and its layer table read and no reserved field set, the stream itself is judged (R197). -/
theorem streamAdd_judges :
    exec (.streamAdd role pa) s = .next (s.withBlk (registerStream s.blk (streamOf 0 pa (BitVec.ofNat 512 v) es) es)) := by
  have hany : es.any (fun e => decide (e / 2 ^ 88 ≠ 0)) = false := List.any_eq_false.2 fun e he => by
    rw [hrsv e he]
    decide
  have hgood : ¬ (fld (BitVec.ofNat 512 v) 128 64 % 16 ≠ 0 ∨ fld (BitVec.ofNat 512 v) 32 16 = 0 ∨
      (!s.blk.rangeOk (fld (BitVec.ofNat 512 v) 128 64) (16 * fld (BitVec.ofNat 512 v) 32 16)) = true) := by
    rintro (h | h | h)
    · exact h h16
    · exact hn h
    · rw [htable] at h
      cases h
  rw [exec_streamAdd, execStreamAdd, State.run_eq, ha.cmd, if_neg (by simp [hal, hok]), hv]
  dsimp only
  rw [if_neg (not_not.2 hl), if_neg (by simp [hr]), if_neg hgood, hes]
  dsimp only
  rw [if_neg (by rw [hany]; exact Bool.false_ne_true)]
  rfl

end Table

end Read

end Add

/-! ### Removal -/

section Remove

variable {s : State} {role : Role} {num : Nat} (ha : Admits s.blk role .operator 0x32)
include ha

theorem streamRemove_unknown (h : s.blk.stream num = none) :
    exec (.streamRemove role num) s = .next (s.withBlk (s.blk.refuse .outOfRange)) := by
  rw [exec_streamRemove, execStreamRemove, State.run_eq, ha.cmd, h]

variable {t : Stream} (ht : s.blk.stream num = some t)
include ht

theorem streamRemove_waited (hw : s.blk.streamWaited t = true) :
    exec (.streamRemove role num) s = .next (s.withBlk (s.blk.refuse .busy)) := by
  rw [exec_streamRemove, execStreamRemove, State.run_eq, ha.cmd, ht]
  dsimp only
  rw [if_pos (by simp [hw])]

/-- With nothing resident and no window frame, the stream is dropped and the command ends at once (R194, R200). -/
theorem streamRemove_runs (hw : s.blk.streamWaited t = false) (hres : t.resident = []) (hfr : t.frames = [])
    (hwaits : (s.blk.domain (num / 32)).waits = []) :
    exec (.streamRemove role num) s = .next (s.withBlk
      ((((s.blk.updDomain (num / 32) (fun y => { y with streams := y.streams.filter (fun x => x.num != num) })).accept
        objTier).addWait (num / 32) { what := 2, cmd := s.blk.cmds.count + 1, key := num }).checkWaits (num / 32))) := by
  rw [exec_streamRemove, execStreamRemove, State.run_eq, ha.cmd, ht]
  dsimp only
  rw [if_neg (by simp [hw, hwaits]), if_neg (by simp [hres]), hres, List.foldl_nil, ht, Option.map_some, hfr]
  rfl

end Remove

@[simp] theorem finishSts_count (b : Block) (o n : Nat) (r : Sts) (t : Nat) : (b.finishSts o n r t).cmds.count = b.cmds.count := by
  unfold Block.finishSts Block.finish
  dsimp only
  split <;> simp

/-- The wait for window frames to be zeroed is over at once where there are none, and the command completes (R194). -/
theorem checkWaits_noFrames {b : Block} {d cmd key : Nat}
    (h : (b.domain d).waits = [{ what := 2, cmd := cmd, key := key }]) :
    b.checkWaits d = (b.setDomain d { b.domain d with waits := [] }).finishSts objTier cmd .ok 0 := by
  simp [Block.checkWaits, Block.endWaits, h]

theorem streamRemove_completes {s : State} {role : Role} {num : Nat} {t : Stream} (ha : Admits s.blk role .operator 0x32)
    (ht : s.blk.stream num = some t) (hw : s.blk.streamWaited t = false) (hres : t.resident = []) (hfr : t.frames = [])
    (hwaits : (s.blk.domain (num / 32)).waits = []) :
    Completes (.streamRemove role num) s (fun u => (∀ y ∈ (u.blk.domain (num / 32)).streams, y.num ≠ num) ∧
      u.blk.mem = s.blk.mem ∧ u.blk.hws = s.blk.hws ∧ u.blk.cmds.count = s.blk.cmds.count + 1) := by
  refine .of_exec (streamRemove_runs ha ht hw hres hfr hwaits) ?_
  rw [checkWaits_noFrames (cmd := s.blk.cmds.count + 1) (key := num) (by simp [Block.addWait, hwaits])]
  refine ⟨fun y hy => ?_, by simp [Block.addWait], by simp [Block.addWait], by simp [Block.addWait, Block.accept]⟩
  simp only [Block.addWait, Block.updDomain_eq, Block.finishSts_frame, Block.setDomain_domain, Block.accept_frame,
    List.mem_filter, bne_iff_ne] at hy
  exact hy.2

/-! ### WAITSTREAM -/

/-- The consumer of a lantern marks the layer that it waits for, and the stream engine follows (R198). -/
def markLayer (e : Block) (l h : Nat) (t : Stream) (n : Nat) : Block :=
  (e.updStream t.num (fun y => ({ y with marks := tput y.marks l n, markHw := tput y.markHw l h } : Stream).remark)).syncStream t.num

/-- What WAITSTREAM does once its descriptor is found right: it marks the layer, and goes on, ends or waits as the layer is resident,
has failed or is neither (R198, R199). `waitOnLayer` is the last part of `execWaitstream`, as `waitstream_marks` says. -/
def waitOnLayer (e : Block) (k l h : Nat) (t : Stream) (n : Nat) : Block :=
  if !t.exists_ n then e.exc k 0x14
  else
    let e1 := markLayer e l h t n
    let st := (e1.stream t.num).getD t
    if st.failed.contains n then e1.endReq k 0x30 5
    else if st.resident.contains n then e1.advance k
    else e1.updHw k (fun y => { y with waiting := true, lateKind := 1, lateDomain := t.num / 32, lateStream := t.num, lateLayer := n })

section Layer

variable {e : Block} {k l h n : Nat} {t : Stream}

theorem waitOnLayer_unknown (hn : t.exists_ n = false) : waitOnLayer e k l h t n = e.exc k 0x14 := by
  simp [waitOnLayer, hn]

variable {y : Stream} (hn : t.exists_ n = true) (hy : (markLayer e l h t n).stream t.num = some y)
include hn hy

theorem waitOnLayer_failed (hf : n ∈ y.failed) : waitOnLayer e k l h t n = (markLayer e l h t n).endReq k 0x30 5 := by
  simp [waitOnLayer, hn, hy, hf]

theorem waitOnLayer_resident (hf : n ∉ y.failed) (hr : n ∈ y.resident) :
    waitOnLayer e k l h t n = (markLayer e l h t n).advance k := by
  simp [waitOnLayer, hn, hy, hf, hr]

theorem waitOnLayer_waits (hf : n ∉ y.failed) (hr : n ∉ y.resident) :
    waitOnLayer e k l h t n = (markLayer e l h t n).updHw k (fun z => { z with
      waiting := true, lateKind := 1, lateDomain := t.num / 32, lateStream := t.num, lateLayer := n }) := by
  simp [waitOnLayer, hn, hy, hf, hr]

end Layer

section Wait

variable {s : State} {l h : Nat} {w v : W64} {b1 b2 e : Block} {f : Foot} {line : Line} {t : Stream}
  (hf : Fetches s.blk l h b1 w) (ho : fld w 0 8 = 0xB1) (hrsv : fld w 18 46 = 0)
  (hreach : Reaches b1 l h 2 false [(((b1.hw (hwNo l h)).reg (fld w 8 5)).toNat, 64)] b2 f)
include hf ho hrsv hreach

/-- No stream of the context has its descriptor there (R199). -/
theorem waitstream_none (hnone : (b2.domains.map (fun e : Nat × Domain => e.2.streams)).flatten.find? (fun y =>
      y.pa == f.pa ((b1.hw (hwNo l h)).reg (fld w 8 5)).toNat && y.ctx == (b1.hw (hwNo l h)).ctx) = none) :
    exec (.waitstream l h w) s = .next (s.withBlk (b2.exc (hwNo l h) 0x14)) := by
  rw [exec_waitstream, execWaitstream, hf.run_body ho rfl (by simp [hrsv])]
  dsimp only
  rw [Block.withFoot, hreach, hnone]

section Found

variable (hfind : (b2.domains.map (fun e : Nat × Domain => e.2.streams)).flatten.find? (fun y =>
      y.pa == f.pa ((b1.hw (hwNo l h)).reg (fld w 8 5)).toNat && y.ctx == (b1.hw (hwNo l h)).ctx) = some t)
  (hline : b2.ownLine l h (f.pa ((b1.hw (hwNo l h)).reg (fld w 8 5)).toNat) = .ok (e, line, false))
  (hlevel : fld line 0 4 = 1) (hzero : streamRsv line = false)
include hfind hline hlevel hzero

/-- With the descriptor found right, what is left of WAITSTREAM (R198, R199). -/
theorem waitstream_marks : exec (.waitstream l h w) s = .next (s.withBlk
    (waitOnLayer e (hwNo l h) l h t ((b1.hw (hwNo l h)).reg (fld w 13 5)).toNat)) := by
  rw [exec_waitstream, execWaitstream, hf.run_body ho rfl (by simp [hrsv])]
  dsimp only
  rw [Block.withFoot, hreach, hfind]
  dsimp only
  rw [hline]
  dsimp only
  rw [if_neg Bool.false_ne_true, if_neg (not_not.2 hlevel), if_neg (by simp [hzero])]
  rfl

end Found

end Wait

/-! ### A layer becomes resident, and a berth in a window frame -/

/-- A layer none of whose berths fails: each goes into a window frame, and the layer is resident (R198, R200). -/
theorem layerResident_runs {s : State} {d num layer : Nat} {t : Stream} (ht : s.blk.stream num = some t) (hd : num / 32 = d)
    (hnext : t.nextLayer = some layer) (hopen : s.blk.tierOpen d 0 = true) (hheld : s.blk.domHeld d = false)
    (hwaits : ∀ w ∈ (s.blk.domain d).waits, w.what ≠ 1)
    (hberths : ∀ n ∈ t.berths layer, (s.blk.berth n).st ≠ .copying ∧ (s.blk.berth n).st ≠ .failed) :
    exec (.layerResident d num layer []) s = .next (s.withBlk (((((t.berths layer).foldl
      (fun (a : Block) n => a.windowBerth num n) s.blk).updStream num
        (fun y => { y with resident := y.resident ++ [layer] })).updDomain d
          (fun y => { y with streamed := y.streamed + ((t.berths layer).filter (fun n => (s.blk.berth n).st == .steady)).length })))) := by
  have hreserve : (s.blk.domain d).waits.any (fun (w : TierWait) => w.what == 1 && w.key == num) = false :=
    List.any_eq_false.2 fun w hw => by simp [hwaits w hw]
  have hcopy : (t.berths layer).any (fun n => (s.blk.berth n).st == .copying) = false :=
    List.any_eq_false.2 fun n hn => by simp [(hberths n hn).1]
  have hfailed : (t.berths layer).any (fun n => (s.blk.berth n).st == .failed) = false :=
    List.any_eq_false.2 fun n hn => by simp [(hberths n hn).2]
  have hgo : ¬ (num / 32 ≠ d ∨ t.nextLayer ≠ some layer ∨ (!s.blk.tierOpen d 0) = true ∨ s.blk.domHeld d = true ∨
      (s.blk.domain d).waits.any (fun (w : TierWait) => w.what == 1 && w.key == num) = true ∨
      (t.berths layer).any (fun n => (s.blk.berth n).st == .copying) = true) := by
    simp only [hd, hnext, hopen, hheld, hreserve, hcopy]
    simp
  rw [exec_layerResident, execLayerResident, State.run_eq]
  dsimp only
  rw [ht]
  dsimp only
  rw [if_neg hgo, List.filter_nil, List.foldl_nil, if_neg (by rw [hfailed]; exact Bool.false_ne_true)]

/-- The berth stands in the first window frame of the stream, a copy of its bulk frame, which it keeps (R200). -/
theorem windowBerth_copies {b : Block} {num n f : Nat} {t : Stream} {fs : List Nat} (ht : b.stream num = some t)
    (hfr : t.frames = f :: fs) (hs : (b.berth n).st = .steady) (htier : (b.berth n).tier = 1) :
    ((b.windowBerth num n).berth n).st = .window ∧ ((b.windowBerth num n).berth n).frame = f ∧
      ((b.windowBerth num n).berth n).own = (b.berth n).frame ∧
      (b.windowBerth num n).mem = (b.copyFrame (n / 2 ^ 24) 1 (b.berth n).frame 0 f).mem := by
  unfold Block.windowBerth
  dsimp only
  rw [ht]
  dsimp only
  rw [hfr]
  dsimp only
  rw [if_pos ⟨hs, htier⟩]
  simp [Block.updStream]

/-- A window berth that was not written is back on its bulk frame, and memory is as before (R200). -/
theorem returnBerth_clean {b : Block} {num n : Nat} (hs : (b.berth n).st = .window) (hw : (b.berth n).wdirty = false) :
    ((b.returnBerth num n).berth n).st = .steady ∧ ((b.returnBerth num n).berth n).tier = 1 ∧
      ((b.returnBerth num n).berth n).frame = (b.berth n).own ∧ (b.returnBerth num n).mem = b.mem := by
  unfold Block.returnBerth
  dsimp only
  rw [if_neg (not_not.2 hs), hw, if_neg Bool.false_ne_true]
  split <;> simp [Block.retireNow, Block.updStream]

/-- Settles O30: each command's cases by its own lemma. -/
theorem streams : Obligations.Streams := by
  unfold Obligations.Streams
  refine ⟨fun s role => ⟨fun ha => ⟨fun num => streamRemove_unknown ha, fun num t => streamRemove_waited ha,
      fun num t => streamRemove_completes ha, fun pa => streamAdd_badAddress ha, ?_⟩, ?_, fun d num layer t => layerResident_runs⟩,
    fun b num n t f fs => ⟨windowBerth_copies, returnBerth_clean⟩⟩
  case refine_1 =>
    intro pa v es i hal hok hv
    refine ⟨streamAdd_level ha hal hok hv, streamAdd_reserved ha hal hok hv, fun hl hr h16 hn htable hes hrsv => ?_⟩
    have hjudge := streamAdd_judges ha hal hok hv hl hr h16 hn htable hes hrsv
    refine ⟨fun hbad => ?_, fun hgood hmoved => ?_, fun hgood hmoved hq hi => ?_⟩
    · rw [hjudge, registerStream_bad hbad]
    · rw [hjudge, registerStream_moved hgood hmoved]
    · rw [hjudge, registerStream_registers hgood hmoved hq hi]
      rfl
  case refine_2 =>
    intro l h w b1 b2 f e v t hf ho hrsv k va n hreach
    refine ⟨waitstream_none hf ho hrsv hreach, fun hfind hline hlevel hzero => ?_⟩
    have hmarks {c : Block} (hc : waitOnLayer e k l h t n = c) : exec (.waitstream l h w) s = .next (s.withBlk c) :=
      hc ▸ waitstream_marks hf ho hrsv hreach hfind hline hlevel hzero
    exact ⟨fun hn => hmarks (waitOnLayer_unknown hn), fun hn y hy => ⟨fun hfail => hmarks (waitOnLayer_failed hn hy hfail),
      fun hfail hres => hmarks (waitOnLayer_resident hn hy hfail hres),
      fun hfail hres => hmarks (waitOnLayer_waits hn hy hfail hres)⟩⟩

end Sys2Proof

/-! PROOFS. Fault batches and withdrawals (R222 to R229): a write at a home leaves the contexts alone, a batch that closes, the held
accesses that a RESUME tries, the checks of a withdrawal, and what the forcing of its drain ends. -/

namespace Sys2Proof

open Sys2Proof.Machine

/-! ### What the commands run -/

theorem exec_chartResume (l c : Nat) (s : State) : exec (.chartResume l c) s = execChartResume l c s := rfl
theorem exec_faultBatchTimer (c : Nat) (s : State) : exec (.faultBatchTimer c) s = execFaultBatchTimer c s := rfl
theorem exec_faultRingRoom (c : Nat) (s : State) : exec (.faultRingRoom c) s = execFaultRingRoom c s := rfl
theorem exec_withdraw (role : Role) (c va len ack : Nat) (s : State) :
    exec (.withdraw role c va len ack) s = execWithdraw role c va len ack s := rfl
theorem exec_withdrawAll (role : Role) (c ack : Nat) (s : State) :
    exec (.withdrawAll role c ack) s = execWithdrawAll role c ack s := rfl
theorem exec_withdrawAck (seq : Nat) (s : State) : exec (.withdrawAck seq) s = execWithdrawAck seq s := rfl
theorem exec_withdrawLimit (seq : Nat) (s : State) : exec (.withdrawLimit seq) s = execWithdrawLimit seq s := rfl

/-! ### A write at a home leaves the contexts alone (R192, R252, R256, R261) -/

theorem raise_contexts (b : Block) (u : Nat) (e : Ev) (args : List Nat) : (b.raise u e args).contexts = b.contexts := by simp

theorem msi_contexts (b : Block) (pa id : Nat) (e : Ev) (args : List Nat) : (b.msi pa id e args).contexts = b.contexts := by
  obtain ⟨im, hs, ev, h⟩ := b.msi_shape pa id e args
  rw [h]

theorem back_contexts {b c : Block} {n : Nat} (h : b.back n = .ok c) : c.contexts = b.contexts := by
  simp only [Block.back] at h
  split at h
  · cases h; rfl
  · cases h

theorem back_error_contexts {b : Block} {n : Nat} {e : Nat × Block} (h : b.back n = .error e) : e.2.contexts = b.contexts := by
  simp only [Block.back] at h
  split at h
  · cases h
  · cases h; exact raise_contexts ..

theorem putMem_contexts (b : Block) (ln : Nat) (v : Line) (p : Bool) : (b.putMem ln v p).contexts = b.contexts := by
  unfold Block.putMem
  dsimp only
  split <;> rfl

theorem sample_contexts (b : Block) (ln : Nat) : (b.sample ln).contexts = b.contexts := by
  unfold Block.sample
  dsimp only
  split <;> rfl

theorem writeBack_contexts (b : Block) (ln : Nat) (v : Line) (p : Bool) : (b.writeBack ln v p).1.contexts = b.contexts := by
  have hput (c : Block) : ((c.putMem ln v p).sample ln).contexts = c.contexts :=
    (sample_contexts ..).trans (putMem_contexts ..)
  unfold Block.writeBack
  dsimp only
  split
  · exact raise_contexts ..
  · split
    next hc => exact (hput _).trans (back_contexts hc)
    next he => exact (raise_contexts ..).trans (back_error_contexts he)
  · exact hput b

theorem evictSlice_contexts (b : Block) (ln : Nat) : (b.evictSlice ln).contexts = b.contexts := by
  unfold Block.evictSlice
  split
  · rfl
  · dsimp only
    split
    · exact writeBack_contexts ..
    · rfl

theorem placeSlice_contexts (b : Block) (touch : Bool) (ln : Nat) (v : Line) (dirty p : Bool) :
    (b.placeSlice touch ln v dirty p).contexts = b.contexts := by
  unfold Block.placeSlice
  dsimp only
  split
  · rfl
  · split
    · split
      · exact writeBack_contexts ..
      · rfl
    · change (match tfind _ _ with | some v0 => b.evictSlice v0 | none => b).contexts = b.contexts
      split
      · exact evictSlice_contexts ..
      · rfl

theorem dropCopy_contexts (b : Block) (a ln : Nat) : (b.dropCopy a ln).contexts = b.contexts := by
  unfold Block.dropCopy
  dsimp only
  split <;> rfl

theorem setDir_contexts (b : Block) (ln : Nat) (d : Dir) : (b.setDir ln d).contexts = b.contexts := by
  unfold Block.setDir
  dsimp only
  split <;> rfl

theorem deliver_contexts (b : Block) (ln id : Nat) : (b.deliver ln id).contexts = b.contexts := by
  unfold Block.deliver
  dsimp only
  split
  · rfl
  · split
    · rfl
    · split <;> rfl

theorem notify_contexts (b : Block) (ln : Nat) : (b.notify ln).contexts = b.contexts :=
  List.foldlRecOn (motive := fun c : Block => c.contexts = b.contexts) _ _ rfl
    (fun c hc id _ => (deliver_contexts c ln id).trans hc)

theorem ensure_contexts {b c : Block} {ln : Nat} (h : b.ensure ln = .ok c) : c.contexts = b.contexts := by
  unfold Block.ensure at h
  split at h
  · split at h
    next hc => cases h; exact back_contexts hc
    next => cases h
  · cases h; rfl

theorem write_contexts {b c : Block} {ln : Nat} {mask : W64} {v : Line} {p : Bool} (h : b.write ln mask v p = .ok c) :
    c.contexts = b.contexts := by
  simp only [Block.write] at h
  split at h
  · cases h
  · split at h
    next => cases h
    next b1 hb1 =>
      cases h
      have hdrop : ((b1.line ln).copies.foldl (fun c e => c.dropCopy e.1 ln) b1).contexts = b1.contexts :=
        List.foldlRecOn (motive := fun c : Block => c.contexts = b1.contexts) _ _ rfl
          (fun c hc e _ => (dropCopy_contexts c e.1 ln).trans hc)
      calc _ = _ := notify_contexts _ ln
        _ = _ := placeSlice_contexts ..
        _ = _ := setDir_contexts ..
        _ = b1.contexts := hdrop
        _ = b.contexts := ensure_contexts hb1

theorem poke_contexts {b : Block} {pa n v : Nat} (h : (b.poke pa n v).2 = true) : (b.poke pa n v).1.contexts = b.contexts := by
  unfold Block.poke at h ⊢
  cases hd : b.dom pa with
  | none => rfl
  | some a =>
    simp only [hd] at h ⊢
    split at h
    next c hw => simpa only [hw] using write_contexts hw
    next => cases h

/-! ### The closing of a batch (R224) -/

section Batch

variable {b : Block} {c : Nat}

theorem closeBatch_none (h : (b.ctx c).openCount = 0) : b.closeBatch c = b := by simp [Block.closeBatch, h]

/-- A context whose batch closes. -/
def closedBatch (x : Context) : Context := { x with closed := x.closed + 1, openCount := 0, batches := x.batches + 1 }

/-- A batch whose LAST mark and ring header are written closes; its MSI changes no context. -/
theorem closeBatch_contexts (ho : (b.ctx c).openCount ≠ 0)
    (hlast : (b.poke ((b.ctx c).ring + 0x1000 + 32 * (((b.ctx c).tail + 2047) % 2048) + 20) 1 1).2 = true)
    (hhead : ((b.poke ((b.ctx c).ring + 0x1000 + 32 * (((b.ctx c).tail + 2047) % 2048) + 20) 1 1).1.poke (b.ctx c).ring 8
      ((b.ctx c).tail % 2 ^ 32 + ((b.ctx c).closed + 1) % 2 ^ 32 * 2 ^ 32)).2 = true) :
    (b.closeBatch c).contexts = (b.setCtx c (closedBatch (b.ctx c))).contexts := by
  have hpoked := (poke_contexts hhead).trans (poke_contexts hlast)
  unfold Block.closeBatch
  dsimp only
  rw [if_neg ho, if_neg (by rw [hlast, hhead]; decide)]
  generalize Prod.fst (Block.poke _ (b.ctx c).ring 8 _) = d at hpoked ⊢
  have hclosed : (d.updCtx c closedBatch).contexts = (b.setCtx c (closedBatch (b.ctx c))).contexts := by
    simp [Block.ctx, hpoked]
  have hmsi (a : Block) (addr id u : Nat) : (if addr = 0 then a else if isFile addr && id != 0 then
      a.msi addr id .deviceWriteLost [c] else a.raise u .deviceWriteLost [c]).contexts = a.contexts := by
    split
    · rfl
    · split
      · exact msi_contexts ..
      · exact raise_contexts ..
  exact (hmsi ..).trans hclosed

end Batch

/-- The timer of a batch closes it where the writes of its ring are performed (R224). -/
theorem faultBatchTimer_closes {s : State} {c : Nat} (ho : (s.blk.ctx c).openCount ≠ 0)
    (hlast : (s.blk.poke ((s.blk.ctx c).ring + 0x1000 + 32 * (((s.blk.ctx c).tail + 2047) % 2048) + 20) 1 1).2 = true)
    (hhead : ((s.blk.poke ((s.blk.ctx c).ring + 0x1000 + 32 * (((s.blk.ctx c).tail + 2047) % 2048) + 20) 1 1).1.poke
      (s.blk.ctx c).ring 8 ((s.blk.ctx c).tail % 2 ^ 32 + ((s.blk.ctx c).closed + 1) % 2 ^ 32 * 2 ^ 32)).2 = true) :
    Completes (.faultBatchTimer c) s (fun t => t.blk.ctx c = closedBatch (s.blk.ctx c) ∧
      ∀ i, i ≠ c → t.blk.ctx i = s.blk.ctx i) := by
  have hctx (i : Nat) : (s.blk.closeBatch c).ctx i = (s.blk.setCtx c (closedBatch (s.blk.ctx c))).ctx i :=
    congrArg (fun t => tget ({} : Context) t i) (closeBatch_contexts ho hlast hhead)
  exact .of_exec rfl ⟨(hctx c).trans (Block.setCtx_ctx ..), fun i hi => (hctx i).trans (Block.setCtx_ctx_ne _ _ _ _ hi)⟩

/-! ### Records that wait for room in the ring (R224) -/

theorem flushFaults_full {b : Block} {c : Nat} (h : b.ringRoom c = false) : b.flushFaults c = b :=
  List.foldl_fixed' (fun r => by simp [h]) _

theorem flushFaults_single {b b1 : Block} {c : Nat} {r : FaultRec} (hr : (b.ctx c).heldRecs = [r]) (hroom : b.ringRoom c = true)
    (hw : (b.updCtx c (fun y => { y with heldRecs := [] })).ringWrite c r = some b1) : b.flushFaults c = b1 := by
  have htaken : b.updCtx c (fun y => { y with heldRecs := y.heldRecs.drop 1 }) = b.updCtx c (fun y => { y with heldRecs := [] }) := by
    simp [hr]
  simp only [Block.flushFaults, hr, List.foldl_cons, List.foldl_nil, List.head?_cons, hroom, and_self, if_true, htaken, hw,
    Option.getD_some]

/-! ### RESUME on one hardware context (R225, R226) -/

section ResumeHw

variable {b : Block} {l h gen : Nat}

/-- A record of a held access is poisoned. -/
def poisonedRecord (b : Block) (c : Nat) (ns : List Nat) : Prop :=
  ∃ n ∈ ns, b.readAt ((b.ctx c).ring + 0x1000 + 32 * (n % 2048) + 31) 1 = .error .poison

theorem verdicts_poisoned_iff {c : Nat} {ns : List Nat} : (b.verdicts c ns).2 = true ↔ poisonedRecord b c ns := by
  simp only [Block.verdicts, poisonedRecord, List.any_eq_true]
  refine exists_congr fun n => and_congr_right fun _ => ?_
  split
  next hp => simp [hp]
  next hp => simpa using hp

/-- The access fails where a record is poisoned or bears a VERDICT other than RETRY. -/
theorem verdicts_fails_iff {c : Nat} {ns : List Nat} : (b.verdicts c ns).1 = true ↔
    poisonedRecord b c ns ∨ ∃ n ∈ ns, (b.peek ((b.ctx c).ring + 0x1000 + 32 * (n % 2048) + 31) 1).getD 1 ≠ 0 := by
  have hfails : (b.verdicts c ns).1 = ((b.verdicts c ns).2 ||
      ns.any fun n => (b.peek ((b.ctx c).ring + 0x1000 + 32 * (n % 2048) + 31) 1).getD 1 != 0) := rfl
  rw [hfails, Bool.or_eq_true, verdicts_poisoned_iff]
  simp

/-- A program whose access is held and whose batch is resolved: its slots, its records all in the ring, and RESUME_GEN at its batch. -/
structure Resolved (b : Block) (l h gen : Nat) : Prop where
  phase : (b.hw (hwNo l h)).phase = .held 0
  slots : (b.hw (hwNo l h)).slots ≠ []
  written : (b.ctx (b.hw (hwNo l h)).ctx).heldRecs = []
  reached : genReached gen (b.hw (hwNo l h)).batch = true

/-- The hold of a hardware context is forgotten; a poisoned record raises FAULT_RING_BAD (R226). -/
def clearHold (b : Block) (k : Nat) (bad : Bool) : Block :=
  (if bad then b.raise (unitContext (b.hw k).ctx) .faultRingBad [(b.hw k).ctx] else b).updHw k (fun y => { y with slots := [], batch := 0 })

theorem clearHold_hw (b : Block) (k : Nat) (bad : Bool) :
    (clearHold b k bad).hw k = { b.hw k with slots := [], batch := 0 } := by
  have hraised : (if bad then b.raise (unitContext (b.hw k).ctx) .faultRingBad [(b.hw k).ctx] else b).hw k = b.hw k := by
    split
    · simp
    · rfl
  rw [clearHold, Block.updHw_eq, Block.setHw_hw, hraised]

/-- A resolved access goes on or fails by its VERDICTs. -/
theorem resumeHw_resolved (hr : Resolved b l h gen) :
    let k := hwNo l h
    let rd := b.verdicts (b.hw k).ctx (b.hw k).slots
    b.resumeHw l h gen = if rd.1 then (clearHold b k rd.2).endReq k 0x18 (if rd.2 then 4 else 1)
      else (clearHold b k rd.2).updHw k (fun y => { y with phase := .running }) := by
  obtain ⟨hphase, hslots, hwritten, hreached⟩ := hr
  simp only [Block.resumeHw, hphase, hslots, hwritten, hreached, List.any_nil, Bool.not_true, Bool.false_eq_true, or_self, if_false,
    if_true, clearHold]

theorem resumeHw_goes_on (hr : Resolved b l h gen) (hf : (b.verdicts (b.hw (hwNo l h)).ctx (b.hw (hwNo l h)).slots).1 = false) :
    ((b.resumeHw l h gen).hw (hwNo l h)).phase = .running ∧ ((b.resumeHw l h gen).hw (hwNo l h)).pc = (b.hw (hwNo l h)).pc := by
  rw [resumeHw_resolved hr, hf, if_neg Bool.false_ne_true, Block.updHw_eq, Block.setHw_hw, clearHold_hw]
  exact ⟨rfl, rfl⟩

theorem endReq_held {k st d : Nat} (hp : (b.hw k).phase = .held 0) : ((b.endReq k st d).hw k).phase = .ended st d := by
  simp [Block.endReq, hp]

theorem resumeHw_fails (hr : Resolved b l h gen) (hf : (b.verdicts (b.hw (hwNo l h)).ctx (b.hw (hwNo l h)).slots).1 = true) :
    ((b.resumeHw l h gen).hw (hwNo l h)).phase =
      .ended 0x18 (if (b.verdicts (b.hw (hwNo l h)).ctx (b.hw (hwNo l h)).slots).2 then 4 else 1) := by
  rw [resumeHw_resolved hr, hf, if_pos rfl]
  exact endReq_held ((congrArg Hw.phase (clearHold_hw ..)).trans hr.phase)

end ResumeHw

/-! ### CHART_RESUME (R225) -/

section ChartResume

/-- What the chart of a lantern leaves once it has tried every held access of a context. -/
def resumeAll (b : Block) (l c gen : Nat) : Block :=
  let b1 := (b.homeRead ((b.ctx c).ring + 0x44)).updChart l (fun t => { t with resume := tput t.resume c false })
  let b2h := [0, 1, 2, 3].foldl (fun (a : Block) h => if (a.hw (hwNo l h)).ctx = c then a.resumeHw l h gen else a) b1
  (List.range 16).foldl (fun (a : Block) i => match tfind (a.lantern l).slots i with
    | some s => if (a.queue s.queue).ctx = c then a.resumeSlot l i gen else a
    | none => a) b2h

/-- An access of a context is held on a lantern: of a watch slot or of a hardware context. -/
def stillHolds (b : Block) (l c : Nat) : Bool :=
  (b.lantern l).slots.any (fun (e : Nat × Slot) => (b.queue e.2.queue).ctx == c && e.2.hold.isSome) ||
    [0, 1, 2, 3].any (fun h => let w := b.hw (hwNo l h); w.ctx == c && (match w.phase with | .held _ => true | _ => false))

theorem isHeld_iff (p : Phase) : (match p with | .held _ => true | _ => false) = true ↔ ∃ n, p = .held n := by
  cases p <;> simp

theorem stillHolds_iff {b : Block} {l c : Nat} : stillHolds b l c = true ↔
    (∃ e ∈ (b.lantern l).slots, (b.queue e.2.queue).ctx = c ∧ e.2.hold.isSome = true) ∨
      ∃ h, h < 4 ∧ (b.hw (hwNo l h)).ctx = c ∧ ∃ n, (b.hw (hwNo l h)).phase = .held n := by
  have hfour (h : Nat) : h ∈ [0, 1, 2, 3] ↔ h < 4 := List.mem_range (n := 4)
  simp only [stillHolds, Bool.or_eq_true, List.any_eq_true, Bool.and_eq_true, beq_iff_eq, isHeld_iff, hfour]

/-- The chart stops its watch of a context's driver line. -/
def stopWatch (b : Block) (l c : Nat) : Block :=
  let b3 := b.updChart l (fun t => { t with resume := tdel t.resume c })
  match b3.lineAt ((b3.ctx c).ring + 0x40) with
  | some ln => b3.unwatchLamp l ln
  | none => b3

variable {s : State} {l c gen : Nat}

theorem chartResume_unwatched (h : thas (s.blk.chart l).resume c = false) : exec (.chartResume l c) s = .next s := by
  simp [exec_chartResume, execChartResume, h]

/-- A noticed chart whose die lives tries every held access by the RESUME_GEN that it reads. -/
theorem chartResume_tries (hw : thas (s.blk.chart l).resume c = true) (hl : (s.blk.lantern l).loss = .alive)
    (hread : s.blk.lampRead l ((s.blk.ctx c).ring + 0x44) 4 = .ok gen) :
    exec (.chartResume l c) s = .next (s.withBlk (if stillHolds (resumeAll s.blk l c gen) l c then resumeAll s.blk l c gen
      else stopWatch (resumeAll s.blk l c gen) l c)) := by
  rw [exec_chartResume, execChartResume, State.run_eq, if_neg (by simp [hw, hl]), hread]
  dsimp -zeta only
  extract_lets b1 b2h b2
  have hall : b2 = resumeAll s.blk l c gen := rfl
  rw [← hall]
  clear_value b2
  rfl

end ChartResume

/-! ### Withdrawals that are asked for (R228) -/

section Withdraw

variable {b : Block} {c : Nat} {range : Option (Nat × Nat)} {ack : Nat}

theorem withdrawCmd_busy (h : 16 ≤ b.withdrawals.length) : b.withdrawCmd c range ack = b.refuse .busy := by
  simp [Block.withdrawCmd, h]

theorem withdrawCmd_badContext (hroom : b.withdrawals.length < 16)
    (h : 256 ≤ c ∨ ¬ ((b.ctx c).st = .active ∨ (b.ctx c).st = .extinguished)) :
    b.withdrawCmd c range ack = b.refuse .badContext := by
  unfold Block.withdrawCmd
  dsimp only
  rw [if_neg (Nat.not_le.2 hroom), if_pos h]

/-- A range that no withdrawal may name: not of whole pages, or empty. -/
def badSpan : Option (Nat × Nat) → Bool
  | some r => r.1 % 4096 != 0 || r.2 % 4096 != 0 || r.2 == 0
  | none => false

section Live

variable (hroom : b.withdrawals.length < 16) (hc : c < 256) (hst : (b.ctx c).st = .active ∨ (b.ctx c).st = .extinguished)
include hroom hc hst

/-- With room for it and a live context, the range and the acknowledgement word decide. -/
theorem withdrawCmd_live : b.withdrawCmd c range ack =
    if badSpan range || ack % 8 != 0 || !b.rangeOk ack 8 then b.refuse .badRange
    else (b.pushWithdrawal c range (some ack)).done objChart b.nextWithdrawal := by
  have hlive : ¬ (256 ≤ c ∨ ¬ ((b.ctx c).st = .active ∨ (b.ctx c).st = .extinguished)) := fun h => h.elim (Nat.not_le.2 hc) (· hst)
  unfold Block.withdrawCmd
  dsimp only
  rw [if_neg (Nat.not_le.2 hroom), if_neg hlive]
  rfl

theorem withdrawCmd_badRange {va len : Nat} (h : va % 4096 ≠ 0 ∨ len % 4096 ≠ 0 ∨ len = 0 ∨ ack % 8 ≠ 0) :
    b.withdrawCmd c (some (va, len)) ack = b.refuse .badRange := by
  rw [withdrawCmd_live hroom hc hst]
  refine if_pos ?_
  simp only [badSpan, Bool.or_eq_true, bne_iff_ne, beq_iff_eq]
  tauto

theorem withdrawCmd_all (hack : ack % 8 = 0) (hok : b.rangeOk ack 8 = true) :
    b.withdrawCmd c none ack = (b.pushWithdrawal c none (some ack)).done objChart b.nextWithdrawal := by
  simp [withdrawCmd_live hroom hc hst, badSpan, hack, hok]

theorem withdrawCmd_range {va len : Nat} (hack : ack % 8 = 0) (hok : b.rangeOk ack 8 = true) (hva : va % 4096 = 0)
    (hlen : len % 4096 = 0) (h0 : len ≠ 0) : b.withdrawCmd c (some (va, len)) ack =
      (b.pushWithdrawal c (some (va, len)) (some ack)).done objChart b.nextWithdrawal := by
  simp [withdrawCmd_live hroom hc hst, badSpan, hack, hok, hva, hlen, h0]

end Live

variable {s : State} {role : Role} (ha : Admits s.blk role .operator 0x02)
include ha

theorem withdraw_admitted (c va len ack : Nat) :
    exec (.withdraw role c va len ack) s = .next (s.withBlk (s.blk.withdrawCmd c (some (va, len)) ack)) := by
  rw [exec_withdraw, execWithdraw, State.run_eq, ha.cmd]

theorem withdrawAll_admitted (c ack : Nat) :
    exec (.withdrawAll role c ack) s = .next (s.withBlk (s.blk.withdrawCmd c none ack)) := by
  rw [exec_withdrawAll, execWithdrawAll, State.run_eq, ha.cmd]

end Withdraw

/-! ### WITHDRAW_ACK (R228) -/

section Ack

variable {s : State} {w : Withdrawal} {rest : List Withdrawal} (hw : s.blk.withdrawals = w :: rest)
include hw

/-- Only the oldest withdrawal is acknowledged, and only once it has drained. -/
theorem withdrawAck_waits {seq : Nat} (h : w.seq ≠ seq ∨ s.blk.drained w = false) : exec (.withdrawAck seq) s = .next s := by
  have hwait : w.seq ≠ seq ∨ (!s.blk.drained w) = true := h.imp_right (by simp [·])
  simp only [exec_withdrawAck, execWithdrawAck, State.run_eq, hw, if_pos hwait]

theorem withdrawAck_writes {ack a : Nat} {b1 : Block} (hd : s.blk.drained w = true) (hack : w.ack = some ack)
    (hdom : s.blk.dom ack = some a)
    (hwrite : s.blk.write (a / 64) (byteMask (a % 64) 8) (linePut 0 (a % 64) 8 w.seq) false = .ok b1) :
    exec (.withdrawAck w.seq) s = .next (s.withBlk (((({ b1 with withdrawals := rest } : Block).updCtx w.ctx (fun x =>
      { x with withdrawals := x.withdrawals + 1, lastAck := max x.lastAck w.seq })).tryDrops).admitDestroys)) := by
  have hready : ¬ (w.seq ≠ w.seq ∨ (!s.blk.drained w) = true) := by simp [hd]
  simp only [exec_withdrawAck, execWithdrawAck, State.run_eq, hw, if_neg hready, hack, hdom, hwrite]

end Ack

/-! ### Requests that are ended one after the other (R112, R119) -/

/-- The ending of a request changes nothing, or it stops the program of its hardware context. -/
theorem endReq_eq_or_stops (b : Block) (k st d : Nat) : b.endReq k st d = b ∨ b.endReq k st d =
    ((b.withdrawSinks k).updHw k (fun w => w.endedAs st d)).updLantern (k / 4)
      (fun l => { l with claimers := l.claimers.filter (· != k % 4) }) := by
  unfold Block.endReq
  dsimp only
  split
  · exact .inl rfl
  · split
    · exact .inl rfl
    · exact .inr rfl
  · exact .inl rfl
  · split
    · exact .inl rfl
    · exact .inr rfl
  · exact .inr rfl

theorem endReq_frame (b : Block) (k st d : Nat) : SameButHw k b (b.endReq k st d) := by
  obtain h | h := endReq_eq_or_stops b k st d
  · rw [h]
    exact .refl b
  · rw [h]
    exact ((SameButHw.withdrawSinks b k).trans (.updHw _ _)).trans (.updLantern _ _ _)

theorem withdrawSinks_withdrawals (b : Block) (k : Nat) : (b.withdrawSinks k).withdrawals = b.withdrawals := by
  unfold Block.withdrawSinks
  refine List.foldlRecOn (motive := fun c : Block => c.withdrawals = b.withdrawals) _ _ ?_ (fun c hc o _ => hc)
  split <;> rfl

theorem endReq_withdrawals (b : Block) (k st d : Nat) : (b.endReq k st d).withdrawals = b.withdrawals := by
  obtain h | h := endReq_eq_or_stops b k st d
  · rw [h]
  · rw [h]
    exact withdrawSinks_withdrawals b k

/-- A failure of one hardware context stands while requests end. -/
theorem endReq_keeps_failed {b : Block} {j st0 d0 : Nat} (hst : st0 ≠ 0) (h : (b.hw j).phase = .ended st0 d0) (k st d : Nat) :
    ((b.endReq k st d).hw j).phase = .ended st0 d0 := by
  by_cases hj : j = k
  · subst hj
    rw [endReq_failed hst h]
    exact h
  · rw [(endReq_frame b k st d).hw_ne j hj]
    exact h

theorem endReqs_keep_failed {b : Block} {j st0 d0 : Nat} (hst : st0 ≠ 0) (h : (b.hw j).phase = .ended st0 d0) (ks : List Nat)
    (st d : Nat) : ((ks.foldl (fun c k => c.endReq k st d) b).hw j).phase = .ended st0 d0 :=
  List.foldlRecOn (motive := fun c : Block => (c.hw j).phase = .ended st0 d0) _ _ h
    (fun _ hc k _ => endReq_keeps_failed hst hc k st d)

/-- Every running program among those that end with a failure has ended with it. -/
theorem endReqs_running {b : Block} {j st : Nat} {ks : List Nat} (hst : st ≠ 0) (d : Nat) (hj : j ∈ ks)
    (h : (b.hw j).phase = .running) : ((ks.foldl (fun c k => c.endReq k st d) b).hw j).phase = .ended st d := by
  induction ks generalizing b with
  | nil => exact absurd hj List.not_mem_nil
  | cons k ks ih =>
    by_cases hk : j = k
    · subst hk
      exact endReqs_keep_failed hst (endReq_running b j st d h) ks st d
    · refine ih (List.mem_of_ne_of_mem hk hj) ?_
      rw [(endReq_frame b k st d).hw_ne j hk]
      exact h

theorem endReqs_mem_withdrawals (b : Block) (ks : List Nat) (st d : Nat) :
    (ks.foldl (fun c k => c.endReq k st d) b).mem = b.mem ∧
      (ks.foldl (fun c k => c.endReq k st d) b).withdrawals = b.withdrawals :=
  List.foldlRecOn (motive := fun c : Block => c.mem = b.mem ∧ c.withdrawals = b.withdrawals) _ _ ⟨rfl, rfl⟩
    (fun c hc k _ => ⟨(endReq_frame c k st d).mem.trans hc.1, (endReq_withdrawals c k st d).trans hc.2⟩)

/-! ### WITHDRAW_LIMIT (R229) -/

section Limit

/-- The transfers and descriptors of a chart that hold a reference on an epoch or an older one. -/
def overdueIds (b : Block) (l e : Nat) : List Nat := ((b.chart l).refs.filter (fun r => decide (r.1 ≤ e))).map Prod.snd

/-- The hardware contexts that such a reference, or a buffered store of these epochs, belongs to. -/
def overdueHws (b : Block) (l e : Nat) : List Nat :=
  (b.xfers.filter (fun (x : Xfer) => (overdueIds b l e).contains x.id)).map (fun (x : Xfer) => hwNo x.lantern x.hw) ++
    (b.sinkers.map (fun (y : Nat × Sinker) =>
      (y.2.ops.filter (fun (o : SinkOp) => (overdueIds b l e).contains o.id)).filterMap b.sinkHw)).flatten ++
    ((b.lantern l).stores.filter (fun (t : Buffered) => decide (t.epoch ≤ e))).map (fun (t : Buffered) => hwNo l t.hw)

/-- Work of a sinker that has not run is discarded. -/
def discardOps (b : Block) (ids reqs : List Nat) : Block :=
  { b with sinkers := b.sinkers.map (fun (y : Nat × Sinker) => (y.1, { y.2 with ops := y.2.ops.map (fun (o : SinkOp) =>
      if !o.ran && (ids.contains o.id || reqs.contains o.req) then { o with ran := true, failed := true } else o) })) }

/-- The drain of one chart is forced. -/
def forceDrain (w : Withdrawal) (b : Block) (l : Nat) : Block :=
  let ks := overdueHws b l (tget 0 w.epochs l)
  discardOps (ks.foldl (fun c k => c.endReq k 0x18 2) b) (overdueIds b l (tget 0 w.epochs l)) (ks.map (fun k => (b.hw k).req))

/-- The withdrawal of a sequence number is marked FORCED. -/
def markForced (b : Block) (seq : Nat) : Block :=
  { b with withdrawals := b.withdrawals.map (fun x => if x.seq = seq then { x with forced := true } else x) }

theorem exec_withdrawLimit_eq (seq : Nat) (s : State) : exec (.withdrawLimit seq) s = s.run (fun b =>
    match b.withdrawals.find? (fun (w : Withdrawal) => w.seq == seq) with
    | none => b
    | some w => if !w.dropped ∨ b.drained w then b else (List.range 64).foldl (forceDrain w) (markForced b seq)) := rfl

variable {w : Withdrawal}

theorem forceDrain_mem_withdrawals (b : Block) (l : Nat) :
    (forceDrain w b l).mem = b.mem ∧ (forceDrain w b l).withdrawals = b.withdrawals := endReqs_mem_withdrawals ..

theorem forceDrains_mem_withdrawals (b : Block) (ls : List Nat) :
    (ls.foldl (forceDrain w) b).mem = b.mem ∧ (ls.foldl (forceDrain w) b).withdrawals = b.withdrawals := by
  refine List.foldlRecOn (motive := fun c : Block => c.mem = b.mem ∧ c.withdrawals = b.withdrawals) _ _ ⟨rfl, rfl⟩
    (fun c hc l _ => ?_)
  obtain ⟨hmem, hwithdrawals⟩ := forceDrain_mem_withdrawals (w := w) c l
  exact ⟨hmem.trans hc.1, hwithdrawals.trans hc.2⟩

/-- A chart without references and stores gives nothing to end. -/
theorem overdueHws_quiet {b : Block} {l : Nat} (hr : (b.chart l).refs = []) (hs : (b.lantern l).stores = []) (e : Nat) :
    overdueHws b l e = [] := by
  simp [overdueHws, overdueIds, hr, hs]

theorem forceDrain_quiet {b : Block} {l : Nat} (hr : (b.chart l).refs = []) (hs : (b.lantern l).stores = []) :
    ∃ t, forceDrain w b l = { b with sinkers := t } := by
  rw [forceDrain, overdueHws_quiet hr hs]
  exact ⟨_, rfl⟩

theorem forceDrains_quiet {b : Block} {ls : List Nat} (h : ∀ i ∈ ls, (b.chart i).refs = [] ∧ (b.lantern i).stores = []) :
    ∃ t, ls.foldl (forceDrain w) b = { b with sinkers := t } := by
  refine List.foldlRecOn (motive := fun c : Block => ∃ t, c = { b with sinkers := t }) _ _ ⟨b.sinkers, rfl⟩ ?_
  rintro _ ⟨t, rfl⟩ i hi
  obtain ⟨u, hu⟩ := forceDrain_quiet (w := w) (b := { b with sinkers := t }) (h i hi).1 (h i hi).2
  exact ⟨u, hu⟩

theorem forceDrains_keep_failed {b : Block} {j st d : Nat} (hst : st ≠ 0) (h : (b.hw j).phase = .ended st d) (ls : List Nat) :
    ((ls.foldl (forceDrain w) b).hw j).phase = .ended st d :=
  List.foldlRecOn (motive := fun c : Block => (c.hw j).phase = .ended st d) _ _ h
    (fun _ hc _ _ => endReqs_keep_failed hst hc _ _ _)

theorem mem_overdueHws {b : Block} {l e0 e : Nat} {x : Xfer} (hx : x ∈ b.xfers) (href : (e, x.id) ∈ (b.chart l).refs) (he : e ≤ e0) :
    hwNo x.lantern x.hw ∈ overdueHws b l e0 := by
  have hid : x.id ∈ overdueIds b l e0 := List.mem_map.2 ⟨_, List.mem_filter.2 ⟨href, decide_eq_true he⟩, rfl⟩
  refine List.mem_append_left _ (List.mem_append_left _ (List.mem_map.2 ⟨x, List.mem_filter.2 ⟨hx, ?_⟩, rfl⟩))
  exact List.contains_iff_mem.2 hid

theorem forceDrain_ends {b : Block} {l j : Nat} (hj : j ∈ overdueHws b l (tget 0 w.epochs l)) (hrun : (b.hw j).phase = .running) :
    ((forceDrain w b l).hw j).phase = .ended 0x18 2 := endReqs_running (by decide) 2 hj hrun

/-- The drain of its chart ends the running request of a transfer that holds an overdue reference; the charts before it have nothing to
end, and those after it leave the failure as it is. -/
theorem forceDrains_end {b : Block} {l e : Nat} {x : Xfer} (hl : l < 64)
    (hquiet : ∀ i, i < 64 → i ≠ l → (b.chart i).refs = [] ∧ (b.lantern i).stores = []) (hx : x ∈ b.xfers)
    (href : (e, x.id) ∈ (b.chart l).refs) (he : e ≤ tget 0 w.epochs l) (hrun : (b.hw (hwNo x.lantern x.hw)).phase = .running) :
    (((List.range 64).foldl (forceDrain w) b).hw (hwNo x.lantern x.hw)).phase = .ended 0x18 2 := by
  obtain ⟨before, after, hsplit, hbefore⟩ := List.eq_append_cons_of_mem (List.mem_range.2 hl)
  have hless (i : Nat) (hi : i ∈ before) : i < 64 := List.mem_range.1 (hsplit ▸ List.mem_append_left _ hi)
  obtain ⟨t, ht⟩ := forceDrains_quiet (w := w) (b := b) (ls := before)
    (fun i hi => hquiet i (hless i hi) (fun h => hbefore (h ▸ hi)))
  rw [hsplit, List.foldl_append, ht, List.foldl_cons]
  have hmem : hwNo x.lantern x.hw ∈ overdueHws { b with sinkers := t } l (tget 0 w.epochs l) := mem_overdueHws hx href he
  exact forceDrains_keep_failed (by decide) (forceDrain_ends (b := { b with sinkers := t }) hmem hrun) after

variable {s : State} {seq : Nat} (hw : s.blk.withdrawals.find? (fun x => x.seq == seq) = some w) (hdropped : w.dropped = true)
  (hdrained : s.blk.drained w = false)
include hw hdropped hdrained

theorem withdrawLimit_forces : exec (.withdrawLimit seq) s =
    .next (s.withBlk ((List.range 64).foldl (forceDrain w) (markForced s.blk seq))) := by
  simp only [exec_withdrawLimit_eq, State.run_eq, hw, hdropped, hdrained, Bool.not_true, Bool.false_eq_true, or_self, if_false]

end Limit

/-! ### The obligation -/

/-- Settles O26: batches and their records by what the ring's writes leave, RESUME by the VERDICTs of a held access, withdrawals by their
checks, and the limit by the drain of each chart in turn. -/
theorem faultsAndWithdrawals : Obligations.FaultsAndWithdrawals := by
  unfold Obligations.FaultsAndWithdrawals
  constructor
  · intro s c b x
    refine ⟨fun ho => ?_, ?_, fun hfull => ?_, fun r b1 hr hroom hw => ?_, ?_,
      fun l h => chartResume_unwatched h, ?_⟩
    case refine_1 => rw [exec_faultBatchTimer, execFaultBatchTimer, State.run_eq, closeBatch_none ho]
    case refine_2 =>
      intro ho p1 p2 hlast hhead
      obtain ⟨t, ht, hctx, hothers⟩ := faultBatchTimer_closes ho hlast hhead
      exact ⟨t, ht, hctx ▸ rfl, hctx ▸ rfl, hctx ▸ rfl, hctx ▸ rfl, hothers⟩
    case refine_3 => rw [exec_faultRingRoom, execFaultRingRoom, State.run_eq, flushFaults_full hfull]
    case refine_4 => rw [exec_faultRingRoom, execFaultRingRoom, State.run_eq, flushFaults_single hr hroom hw]
    case refine_5 =>
      intro l gen hw hl hread b1 b2h b2 still b3
      have hall : b2 = resumeAll b l c gen := rfl
      rw [chartResume_tries hw hl hread, ← hall]
      clear_value b2
      refine ⟨fun hstill => ?_, fun hstill => ?_⟩
      · rw [if_pos (stillHolds_iff.2 hstill)]
      · rw [if_neg (mt stillHolds_iff.1 hstill)]
        rfl
    case refine_6 =>
      intro l h gen _ w hphase hslots hwritten hreached at_ poisoned
      have hr : Resolved b l h gen := ⟨hphase, hslots, hwritten, decide_eq_true hreached⟩
      refine ⟨fun hclean hretry => resumeHw_goes_on hr ?_, fun hclean hfail => ?_, fun hbad => ?_⟩
      · refine Bool.eq_false_iff.2 fun hf => (verdicts_fails_iff.1 hf).elim hclean ?_
        rintro ⟨n, hn, hne⟩
        exact hne (congrArg (Option.getD · 1) (hretry n hn))
      · obtain ⟨n, hn, hone⟩ := hfail
        have hne : (b.peek (at_ n) 1).getD 1 ≠ 0 := by simp [hone]
        rw [resumeHw_fails hr (verdicts_fails_iff.2 (.inr ⟨n, hn, hne⟩)), if_neg (mt verdicts_poisoned_iff.1 hclean)]
      · rw [resumeHw_fails hr (verdicts_fails_iff.2 (.inl hbad)), if_pos (verdicts_poisoned_iff.2 hbad)]
  · intro s role c va len ack ha b
    refine ⟨fun hfull => ?_,
      fun hroom => ⟨fun hbad => ?_, fun hc hst => ⟨fun hbad => ?_, fun hack hok => ⟨?_, fun hva hlen h0 => ?_⟩⟩⟩,
      fun w rest a b1 hw hd hwa hdom hwrite => withdrawAck_writes hw hd hwa hdom hwrite,
      fun w rest seq hw hwait => withdrawAck_waits hw hwait, fun seq w hw hdropped hdrained => ?_⟩
    case refine_6 =>
      have hx := withdrawLimit_forces hw hdropped hdrained
      refine ⟨.of_exec hx (forceDrains_mem_withdrawals (markForced b seq) _), fun l e hl hquiet x hmem href he hrun => ?_⟩
      exact .of_exec hx (forceDrains_end (b := markForced b seq) hl hquiet hmem href he hrun)
    all_goals simp only [withdraw_admitted ha, withdrawAll_admitted ha]
    case refine_1 => exact ⟨by rw [withdrawCmd_busy hfull], by rw [withdrawCmd_busy hfull]⟩
    case refine_2 => exact ⟨by rw [withdrawCmd_badContext hroom hbad], by rw [withdrawCmd_badContext hroom hbad]⟩
    case refine_3 => rw [withdrawCmd_badRange hroom hc hst hbad]
    case refine_4 => rw [withdrawCmd_all hroom hc hst hack hok, objChart]
    case refine_5 => rw [withdrawCmd_range hroom hc hst hack hok hva hlen h0, objChart]

end Sys2Proof

/-! PROOFS. Keeper harts (R238, R243, R244, R272 to R276): where a hart executes, its registers and its exceptions, and the loads, the
stores, the posted writes and the late register accesses of a hart that runs. -/

namespace Sys2Proof

open Sys2Proof.Machine

/-! ### What the commands run -/

theorem exec_postedWritePerform (h : Nat) (s : State) : exec (.postedWritePerform h) s = execPostedWritePerform h s := rfl
theorem exec_deviceTimeout (a : LateAccess) (s : State) : exec (.deviceTimeout a) s = execDeviceTimeout a s := rfl
theorem exec_keeperLoad (h rd pa n : Nat) (k : LoadKind) (s : State) :
    exec (.keeperLoad h rd pa n k) s = execKeeperLoad h rd pa n k s := rfl
theorem exec_keeperStore (h pa n : Nat) (v : StoreKind) (s : State) :
    exec (.keeperStore h pa n v) s = execKeeperStore h pa n v s := rfl

/-! ### Whether a hart executes (R272, R273, R287) -/

theorem run_onHart {s : State} {h : Nat} (hr : s.blk.hartRuns h = true) (f : Block → Block) :
    s.run (fun b => b.onHart h f) = .next (s.withBlk (f s.blk)) := by
  rw [State.run_eq, Block.onHart, if_pos hr]

theorem run_onHart_halted {s : State} {h : Nat} (hr : s.blk.hartRuns h = false) (f : Block → Block) :
    s.run (fun b => b.onHart h f) = .next s := by
  rw [State.run_eq, Block.onHart, hr, if_neg Bool.false_ne_true]

/-! ### Registers (R274) -/

theorem setX_zero (b : Block) (h : Nat) (v : W64) : b.setX h 0 v = b := rfl

theorem kreg_zero (b : Block) (h : Nat) : b.kreg h 0 = 0 := rfl

theorem kreg_setX_same (b : Block) (h : Nat) {r : Nat} (hr : r ≠ 0) (v : W64) : (b.setX h r v).kreg h r = v := by
  simp [Block.kreg, Block.setX, hr]

theorem kreg_setX_ne (b : Block) (h : Nat) {r q : Nat} (hq : q ≠ r) (v : W64) : (b.setX h r v).kreg h q = b.kreg h q := by
  by_cases hr : r = 0
  · rw [hr, setX_zero]
  · simp [Block.kreg, Block.setX, hr, tget_tput_ne _ _ _ _ _ hq]

/-! ### Exceptions (R244) -/

@[simp] theorem trap_hart (b : Block) (h cause tval : Nat) : (b.trap h cause tval).hart h =
    { b.hart h with trap := some { cause := cause, tval := tval }, res := none, wrs := .none } := by
  simp [Block.trap]

theorem trap_hart_ne (b : Block) {h j : Nat} (hj : j ≠ h) (cause tval : Nat) : (b.trap h cause tval).hart j = b.hart j :=
  Block.setHart_hart_ne _ _ _ _ hj

@[simp] theorem trap_mem (b : Block) (h cause tval : Nat) : (b.trap h cause tval).mem = b.mem := rfl
@[simp] theorem trap_lines (b : Block) (h cause tval : Nat) : (b.trap h cause tval).lines = b.lines := rfl

section Runs

variable {s : State} {h : Nat} (hr : s.blk.hartRuns h = true) {pa n : Nat}
include hr

/-! ### Loads (R243, R275, R276) -/

section Load

variable {rd : Nat} {k : LoadKind}

theorem keeperLoad_unfit (hn : kFits rd n = false) : exec (.keeperLoad h rd pa n k) s = .next s := by
  rw [exec_keeperLoad, execKeeperLoad, run_onHart hr, hn, if_neg Bool.false_ne_true]

theorem keeperLoad_fits (hn : kFits rd n = true) :
    exec (.keeperLoad h rd pa n k) s = .next (s.withBlk (s.blk.hartLoad h rd pa n k.signed k.nc)) := by
  rw [exec_keeperLoad, execKeeperLoad, run_onHart hr, if_pos hn]

section Memory

variable (hn : kFits rd n = true) (hd : isDevice pa = false)
include hn hd

theorem keeperLoad_ok {c : Block} {v : Nat} (hl : s.blk.kLoad h pa n k.nc = .ok c v) :
    exec (.keeperLoad h rd pa n k) s = .next (s.withBlk (c.putReg h rd n v k.signed)) := by
  simp [keeperLoad_fits hr hn, Block.hartLoad, hd, hl]

theorem keeperLoad_wait {c : Block} (hl : s.blk.kLoad h pa n k.nc = .wait c) :
    exec (.keeperLoad h rd pa n k) s = .next (s.withBlk c) := by
  simp [keeperLoad_fits hr hn, Block.hartLoad, hd, hl]

theorem keeperLoad_poison {c : Block} {p : Nat} (hl : s.blk.kLoad h pa n k.nc = .poison c p) :
    exec (.keeperLoad h rd pa n k) s = .next (s.withBlk (c.kPoison h p)) := by
  simp [keeperLoad_fits hr hn, Block.hartLoad, hd, hl]

theorem keeperLoad_fault (hl : s.blk.kLoad h pa n k.nc = .fault) :
    exec (.keeperLoad h rd pa n k) s = .next (s.withBlk (s.blk.trap h 5 pa)) := by
  simp [keeperLoad_fits hr hn, Block.hartLoad, hd, hl, cLoadFault]

/-- A load that no memory takes ends in an access fault of its hart; registers, memory and the other harts stay (R244, R275). -/
theorem keeperLoad_fault_completes (hl : s.blk.kLoad h pa n k.nc = .fault) : Completes (.keeperLoad h rd pa n k) s (fun t =>
    (t.blk.hart h).trap = some { cause := 5, tval := pa } ∧ (t.blk.hart h).res = none ∧ (t.blk.hart h).x = (s.blk.hart h).x ∧
    t.blk.mem = s.blk.mem ∧ t.blk.lines = s.blk.lines ∧ ∀ j, j ≠ h → t.blk.hart j = s.blk.hart j) :=
  .of_exec (keeperLoad_fault hr hn hd hl)
    ⟨by rw [trap_hart], by rw [trap_hart], by rw [trap_hart], rfl, rfl, fun _ hj => trap_hart_ne _ hj 5 pa⟩

end Memory

section Device

variable (hn : kFits rd n = true) (hd : isDevice pa = true) {c : Block} (hc : c = if pa < imsicEnd then s.blk.postedAll h else s.blk)
include hn hd hc

/-- A load from a register region comes after the posted writes that it pushes ahead of it (R243). -/
theorem keeperLoad_register {v : Nat} (hv : c.devLoad pa n = some v) :
    exec (.keeperLoad h rd pa n k) s = .next (s.withBlk (c.putReg h rd n v k.signed)) := by
  simp [keeperLoad_fits hr hn, Block.hartLoad, hd, ← hc, hv]

theorem keeperLoad_noRegister (hv : c.devLoad pa n = none) :
    exec (.keeperLoad h rd pa n k) s = .next (s.withBlk (c.trap h 5 pa)) := by
  simp [keeperLoad_fits hr hn, Block.hartLoad, hd, ← hc, hv, cLoadFault]

end Device

end Load

/-! ### Stores (R243, R274, R275, R402) -/

section Store

variable {v : StoreKind} (hn : kSize n = true)
include hn

theorem keeperStore_sized : exec (.keeperStore h pa n v) s = .next (s.withBlk (s.blk.hartStore h pa n v.value v.nc)) := by
  rw [exec_keeperStore, execKeeperStore, run_onHart hr, if_pos hn]

theorem keeperStore_beyond (hpa : 2 ^ 52 ≤ pa) : exec (.keeperStore h pa n v) s = .next (s.withBlk (s.blk.trap h 7 pa)) := by
  rw [keeperStore_sized hr hn, Block.hartStore, if_pos hpa, cStoreFault]

section Within

variable (hpa : pa < 2 ^ 52)
include hpa

/-- A store to main memory leaves what its access leaves, whether it performs or waits. -/
theorem keeperStore_memory (hd : isDevice pa = false) {c : Block}
    (hs : s.blk.kStore h pa n (v.value.toNat % 2 ^ (8 * n)) v.nc = .ok c ∨
      s.blk.kStore h pa n (v.value.toNat % 2 ^ (8 * n)) v.nc = .error c) :
    exec (.keeperStore h pa n v) s = .next (s.withBlk c) := by
  rw [keeperStore_sized hr hn, Block.hartStore, if_neg (Nat.not_le.2 hpa), hd, if_neg Bool.false_ne_true]
  rcases hs with hs | hs <;> rw [hs]

section Device

variable (hd : isDevice pa = true)
include hd

theorem keeperStore_posted (he : pa < imsicEnd) (h4 : n = 4) (ha : pa % 4 = 0) :
    exec (.keeperStore h pa n v) s = .next (s.withBlk
      (s.blk.updHart h (fun x => { x with posted := x.posted ++ [(pa, 4, BitVec.ofNat 64 (v.value.toNat % 2 ^ 32))] }))) := by
  rw [keeperStore_sized hr hn, Block.hartStore, if_neg (Nat.not_le.2 hpa), if_pos hd, if_pos he, if_pos ⟨h4, ha⟩]

theorem keeperStore_notPosted (he : pa < imsicEnd) (hbad : n ≠ 4 ∨ pa % 4 ≠ 0) :
    exec (.keeperStore h pa n v) s = .next (s.withBlk (s.blk.trap h 7 pa)) := by
  rw [keeperStore_sized hr hn, Block.hartStore, if_neg (Nat.not_le.2 hpa), if_pos hd, if_pos he, if_neg (by omega), cStoreFault]

theorem keeperStore_acked (he : imsicEnd ≤ pa) : exec (.keeperStore h pa n v) s =
    .next (s.withBlk ((s.blk.devStore pa n v.value).getD (s.blk.trap h 7 pa))) := by
  rw [keeperStore_sized hr hn, Block.hartStore, if_neg (Nat.not_le.2 hpa), if_pos hd, if_neg (Nat.not_lt.2 he), cStoreFault]

end Device

end Within

end Store

/-! ### Fences (R242, R243) -/

theorem keeperFence_memory : exec (.keeperFence h false) s = .next s := run_onHart hr _

theorem keeperFence_io : exec (.keeperFence h true) s = .next (s.withBlk (s.blk.postedAll h)) := run_onHart hr _

/-! ### A register access that is late (R243) -/

theorem deviceTimeout_acked (pa : Nat) (store : Bool) : exec (.deviceTimeout (.acked h pa store)) s =
    .next (s.withBlk ((s.blk.trap h (if store then 7 else 5) pa).raise unitModule .deviceTimeout [h, pa])) := run_onHart hr _

end Runs

/-! ### Posted writes (R243): with no hart that must run, they are on their way already -/

section Posted

variable {s : State} {h : Nat}

theorem postedWritePerform_none (hp : (s.blk.hart h).posted = []) : exec (.postedWritePerform h) s = .next s := by
  rw [exec_postedWritePerform, execPostedWritePerform, State.run_eq, Block.postedPerform, hp]

theorem deviceTimeout_posted_none (hp : (s.blk.hart h).posted = []) : exec (.deviceTimeout (.posted h)) s = .next s := by
  simp only [exec_deviceTimeout, execDeviceTimeout, State.run_eq, hp]

variable {pa n : Nat} {a : W64} {t : List (Nat × Nat × W64)} (hp : (s.blk.hart h).posted = (pa, n, a) :: t)
include hp

/-- The oldest posted write reaches its interrupt file. -/
theorem postedWritePerform_oldest : exec (.postedWritePerform h) s = .next (s.withBlk
    ((s.blk.updHart h (fun x => { x with posted := t })).msi pa a.toNat .deviceWriteLost [pa])) := by
  rw [exec_postedWritePerform, execPostedWritePerform, State.run_eq, Block.postedPerform, hp]

/-- The oldest posted write is discarded when it is late, with an event that names its address. -/
theorem deviceTimeout_posted_oldest : exec (.deviceTimeout (.posted h)) s = .next (s.withBlk
    ((s.blk.updHart h (fun x => { x with posted := t })).raise unitModule .deviceTimeout [h, pa])) := by
  simp only [exec_deviceTimeout, execDeviceTimeout, State.run_eq, hp]

end Posted

/-- Settles O36: loads by what their access answers, stores by the region of their address, posted writes by the head of their queue. -/
theorem keeperAccesses : Obligations.KeeperAccesses := by
  unfold Obligations.KeeperAccesses
  intro s h hr b
  refine ⟨fun rd pa n k hn hd => ?memory, fun rd pa n k hn hd => ?register, fun rd pa n k hn => keeperLoad_unfit hr hn,
    fun pa n v hn hpa => keeperStore_beyond hr hn hpa, fun pa n v hn hpa => ?store, ⟨keeperFence_memory hr, keeperFence_io hr⟩,
    fun pa n a t hp => ⟨postedWritePerform_oldest hp, deviceTimeout_posted_oldest hp⟩,
    fun hp => ⟨postedWritePerform_none hp, deviceTimeout_posted_none hp⟩,
    fun pa => ⟨deviceTimeout_acked hr pa true, deviceTimeout_acked hr pa false⟩, fun c v => ?registers⟩
  case memory => exact ⟨fun c v => keeperLoad_ok hr hn hd, fun c => keeperLoad_wait hr hn hd, keeperLoad_fault_completes hr hn hd,
    fun c p => keeperLoad_poison hr hn hd⟩
  case register => exact ⟨fun v => keeperLoad_register hr hn hd rfl, keeperLoad_noRegister hr hn hd rfl⟩
  case store =>
    refine ⟨fun hd => ⟨fun c hs => keeperStore_memory hr hn hpa hd (.inl hs), fun c hs => keeperStore_memory hr hn hpa hd (.inr hs)⟩,
      keeperStore_posted hr hn hpa, keeperStore_notPosted hr hn hpa, fun c hd he hs => ?_, fun hd he hs => ?_⟩
    · rw [keeperStore_acked hr hn hpa hd he, hs, Option.getD_some]
    · rw [keeperStore_acked hr hn hpa hd he, hs, Option.getD_none]
  case registers => exact ⟨setX_zero c h v, kreg_zero c h, fun r h0 => ⟨kreg_setX_same c h h0 v, fun q hq => kreg_setX_ne c h hq v⟩⟩

end Sys2Proof

/-! PROOFS. Keeper atomics and reservations (R244, R258, R276), cache-block operations (R277), and the waits on a line (R287). -/

namespace Sys2Proof

open Sys2Proof.Machine

/-! ### What the commands run -/

theorem exec_keeperAmo (h rd pa : Nat) (op : AtomOp) (n : Nat) (x y : BitVec 128) (s : State) :
    exec (.keeperAmo h rd pa op n x y) s = execKeeperAmo h rd pa op n x y s := rfl
theorem exec_lr (h rd pa n : Nat) (s : State) : exec (.lr h rd pa n) s = execLr h rd pa n s := rfl
theorem exec_sc (h rd pa n : Nat) (v : W64) (s : State) : exec (.sc h rd pa n v) s = execSc h rd pa n v s := rfl
theorem exec_cboZero (h pa : Nat) (s : State) : exec (.cboZero h pa) s = execCboZero h pa s := rfl
theorem exec_wrsTimeout (h : Nat) (s : State) : exec (.wrsTimeout h) s = execWrsTimeout h s := rfl

/-! ### The sizes of atomics (R258, R276) -/

theorem amoSize {n rd : Nat} {op : AtomOp} (hn : n = 4 ∨ n = 8 ∨ (n = 16 ∧ op = .cas ∧ rd % 2 = 0)) :
    ¬(n ≠ 4 ∧ n ≠ 8 ∧ ¬(n = 16 ∧ op = .cas ∧ rd % 2 = 0)) := by tauto

theorem reserveSize {n : Nat} (hn : n = 4 ∨ n = 8) : ¬(n ≠ 4 ∧ n ≠ 8) := by omega

section Runs

variable {s : State} {h pa : Nat} (hr : s.blk.hartRuns h = true)
include hr

/-! ### Far atomics (R258, R276, R396) -/

section Amo

variable {rd n : Nat} {op : AtomOp} {x y : BitVec 128} (hn : n = 4 ∨ n = 8 ∨ (n = 16 ∧ op = .cas ∧ rd % 2 = 0))
include hn

theorem keeperAmo_unmapped (hd : s.blk.dom pa = none) :
    exec (.keeperAmo h rd pa op n x y) s = .next (s.withBlk (s.blk.trap h 7 pa)) := by
  rw [exec_keeperAmo, execKeeperAmo, run_onHart hr, if_neg (amoSize hn), hd, cStoreFault]

section Mapped

variable {a : Nat} (hd : s.blk.dom pa = some a)
include hd

theorem keeperAmo_crossing (hc : crosses16 pa n = true) :
    exec (.keeperAmo h rd pa op n x y) s = .next (s.withBlk (s.blk.trap h 6 pa)) := by
  simp only [exec_keeperAmo, execKeeperAmo, run_onHart hr, if_neg (amoSize hn), hd, hc, if_true, cStoreAlign]

/-- A far atomic that its home performs: the old value in the register, or an exception where the home met poison. -/
theorem keeperAmo_performs (hc : crosses16 pa n = false) {c : Block} {old : Nat} {poison : Bool}
    (hat : s.blk.atomicAt (a / 64) (a % 64) n op x.toNat y.toNat = .ok (c, old, poison)) :
    exec (.keeperAmo h rd pa op n x y) s =
      .next (s.withBlk (if poison then c.kPoison h pa else c.putAmo h rd n old)) := by
  simp only [exec_keeperAmo, execKeeperAmo, run_onHart hr, if_neg (amoSize hn), hd, hc, hat,
    Bool.false_eq_true, if_false]

end Mapped

end Amo

/-! ### Reservations (R244, R276) -/

section Reserve

variable {rd n a : Nat} {v : W64} (hn : n = 4 ∨ n = 8) (hd : s.blk.dom pa = some a)
include hn hd

theorem lr_crossing (hc : crosses16 pa n = true) : exec (.lr h rd pa n) s = .next (s.withBlk (s.blk.trap h 4 pa)) := by
  simp only [exec_lr, execLr, run_onHart hr, if_neg (reserveSize hn), hd, hc, if_true, cLoadAlign]

theorem sc_crossing (hc : crosses16 pa n = true) : exec (.sc h rd pa n v) s = .next (s.withBlk (s.blk.trap h 6 pa)) := by
  simp only [exec_sc, execSc, run_onHart hr, if_neg (reserveSize hn), hd, hc, if_true, cStoreAlign]

variable (hc : crosses16 pa n = false)
include hc

/-- LR takes the reservation of its granule with the value that it loads. -/
theorem lr_reserves {c : Block} {w : Nat} (hl : s.blk.kLoad h pa n = .ok c w) : exec (.lr h rd pa n) s = .next (s.withBlk
    ((c.setX h rd (extend n w true)).updHart h (fun y => { y with res := some (a / 64) }))) := by
  simp only [exec_lr, execLr, run_onHart hr, if_neg (reserveSize hn), hd, hc, Bool.false_eq_true, if_false, hl]

/-- SC without the reservation of its granule writes 1 and no memory. -/
theorem sc_fails (hres : (s.blk.hart h).res ≠ some (a / 64)) : exec (.sc h rd pa n v) s = .next (s.withBlk
    ((s.blk.setX h rd 1).updHart h (fun y => { y with res := none }))) := by
  simp only [exec_sc, execSc, run_onHart hr, if_neg (reserveSize hn), hd, hc, Bool.false_eq_true, if_false,
    if_pos hres]

/-- SC under the reservation of its granule stores and writes 0. -/
theorem sc_stores {c : Block} (hres : (s.blk.hart h).res = some (a / 64))
    (hst : s.blk.storeLine (64 + h / 16) (a / 64) (byteMask (a % 64) n) (linePut 0 (a % 64) n (v.toNat % 2 ^ (8 * n))) (· == h) = .ok c) :
    exec (.sc h rd pa n v) s = .next (s.withBlk ((c.setX h rd 0).updHart h (fun y => { y with res := none }))) := by
  simp only [exec_sc, execSc, run_onHart hr, if_neg (reserveSize hn), hd, hc, Bool.false_eq_true, if_false,
    if_neg (not_not.2 hres), kAgent, hst]

end Reserve

/-! ### Cache-block operations (R277) -/

/-- CBO.INVAL by the privilege level and its CBIE. -/
theorem cboInval_runs (p : Priv) (c : Nat) : exec (.cboInval { hart := h, priv := p, cbie := c } pa) s = .next (s.withBlk
    (if p = .m ∨ c = 3 then s.blk.cbo h pa .invalidate
     else if c = 1 then s.blk.cbo h pa .cleanInvalidate
     else s.blk.trap h (if p = .vs ∨ p = .vu then 22 else 2) 0)) := run_onHart hr _

theorem cboClean_runs : exec (.cboClean h pa) s = .next (s.withBlk (s.blk.cbo h pa .clean)) := run_onHart hr _

theorem cboFlush_runs : exec (.cboFlush h pa) s = .next (s.withBlk (s.blk.cbo h pa .cleanInvalidate)) :=
  run_onHart hr _

theorem cboZero_unmapped (hd : s.blk.dom pa = none) : exec (.cboZero h pa) s = .next (s.withBlk (s.blk.trap h 7 pa)) := by
  rw [exec_cboZero, execCboZero, run_onHart hr, hd, cStoreFault]

theorem cboZero_writes {a : Nat} {c : Block} (hd : s.blk.dom pa = some a)
    (hw : s.blk.write (a / 64) 0xFFFFFFFFFFFFFFFF#64 0 false = .ok c) : exec (.cboZero h pa) s = .next (s.withBlk c) := by
  simp only [exec_cboZero, execCboZero, run_onHart hr, hd, hw]

/-- Below M-mode a CBIE that allows nothing makes an exception of CBO.INVAL: virtual-instruction for the virtual modes. -/
theorem cboInval_excepts {p : Priv} {c : Nat} (hp : p ≠ .m) (h1 : c ≠ 1) (h3 : c ≠ 3) :
    exec (.cboInval { hart := h, priv := p, cbie := c } pa) s =
      .next (s.withBlk (s.blk.trap h (if p = .vs ∨ p = .vu then 22 else 2) 0)) := by
  rw [cboInval_runs hr, if_neg (by tauto), if_neg h1]

/-! ### Waits on a line (R287) -/

theorem wrsNto_waits : exec (.wrsNto h none) s = .next (s.withBlk (s.blk.wrsStall h .nto)) := run_onHart hr _

theorem wrsNto_traps (v : Bool) : exec (.wrsNto h (some v)) s = .next (s.withBlk (s.blk.wrsStall h (.ntoTrap v))) :=
  run_onHart hr _

theorem wrsSto_waits : exec (.wrsSto h) s = .next (s.withBlk (s.blk.wrsStall h .sto)) := run_onHart hr _

end Runs

/-- A range operation on the block of a cache line that nothing makes wait is that operation at the home. -/
theorem cbo_performs {b : Block} {pa a : Nat} {o : RangeOp} (hd : b.dom pa = some a) (hw : b.rangeWaits o (a / 64) = false)
    (h : Nat) : b.cbo h pa o = (({ blk := b } : RangeAcc).op o (a / 64)).blk := by
  simp only [Block.cbo, hd, hw, Bool.false_eq_true, if_false]

theorem cbo_unmapped {b : Block} {pa : Nat} (hd : b.dom pa = none) (h : Nat) (o : RangeOp) : b.cbo h pa o = b.trap h 7 pa := by
  simp only [Block.cbo, hd, cStoreFault]

theorem wrsStall_waits {b : Block} {h : Nat} (hres : (b.hart h).res ≠ none) (hirq : b.irqPending h = false) (w : Wrs) :
    b.wrsStall h w = b.updHart h (fun x => { x with wrs := w }) := by
  rw [Block.wrsStall, if_neg (by simp [hres, hirq])]

theorem wrsStall_unreserved {b : Block} {h : Nat} (hres : (b.hart h).res = none) (w : Wrs) : b.wrsStall h w = b := by
  rw [Block.wrsStall, if_pos (.inl hres)]

theorem wrsTimeout_sto {s : State} {h : Nat} (hw : (s.blk.hart h).wrs = .sto) :
    exec (.wrsTimeout h) s = .next (s.withBlk (s.blk.updHart h (fun x => { x with wrs := .none }))) := by
  simp only [exec_wrsTimeout, execWrsTimeout, State.run_eq, hw]

theorem wrsTimeout_ntoTrap {s : State} {h : Nat} {v : Bool} (hw : (s.blk.hart h).wrs = .ntoTrap v) :
    exec (.wrsTimeout h) s = .next (s.withBlk (s.blk.trap h (if v then 22 else 2) 0)) := by
  simp only [exec_wrsTimeout, execWrsTimeout, State.run_eq, hw, cVirtual, cIllegal]

/-- Settles O37: a hart that does not run by `run_onHart_halted`; atomics and reservations by what their home answers, cache-block
operations by the one range operation that each is, waits by whether the hart stalls. -/
theorem keeperAtomics : Obligations.KeeperAtomics := by
  unfold Obligations.KeeperAtomics
  intro s h pa b
  refine ⟨fun hr => ?halted, fun hr => ?runs, wrsTimeout_sto, wrsTimeout_ntoTrap, wrsTimeout_ntoTrap⟩
  case halted =>
    exact ⟨fun _ _ _ => run_onHart_halted hr _, fun _ _ => run_onHart_halted hr _, fun _ _ _ _ _ => run_onHart_halted hr _,
      fun _ _ => run_onHart_halted hr _, fun _ _ _ => run_onHart_halted hr _, fun _ => run_onHart_halted hr _,
      run_onHart_halted hr _, run_onHart_halted hr _, run_onHart_halted hr _, fun _ => run_onHart_halted hr _,
      run_onHart_halted hr _⟩
  case runs =>
    refine ⟨fun rd op n x y hn => ⟨keeperAmo_unmapped hr hn, fun a hd => keeperAmo_crossing hr hn hd, fun a c old hd hc =>
        ⟨keeperAmo_performs hr hn hd hc, keeperAmo_performs hr hn hd hc⟩⟩,
      fun rd n a hn hd hc => ⟨fun c v => lr_reserves hr hn hd hc, fun v => sc_fails hr hn hd hc, fun v c => sc_stores hr hn hd hc⟩,
      fun rd n v a hn hd hc => ⟨lr_crossing hr hn hd hc, sc_crossing hr hn hd hc⟩, fun a hd => ?block,
      fun c h1 h3 => ?exception, fun hd => ?unmapped, fun hres hirq => ?stalls, fun hres => ?goesOn⟩
    case block =>
      refine ⟨fun hw => ?_, fun hw => ?_, fun p c hp hw => ?_, fun p hp hw => ?_, fun c hw => cboZero_writes hr hd hw⟩
      · rw [cboClean_runs hr, cbo_performs hd hw, RangeAcc.op]
      · rw [cboFlush_runs hr, cbo_performs hd hw, RangeAcc.op]
      · rw [cboInval_runs hr, if_pos hp, cbo_performs hd hw, RangeAcc.op]
      · rw [cboInval_runs hr, if_neg (by simp [hp]), if_pos rfl, cbo_performs hd hw, RangeAcc.op]
    case exception =>
      refine ⟨fun p hp => ?_, fun p hp => ?_⟩
      · rw [cboInval_excepts hr (by rintro rfl; simp at hp) h1 h3, if_neg (by rintro (rfl | rfl) <;> simp at hp)]
      · rw [cboInval_excepts hr (by rintro rfl; simp at hp) h1 h3, if_pos hp]
    case unmapped =>
      refine ⟨?_, ?_, fun c => ?_, cboZero_unmapped hr hd⟩
      · rw [cboClean_runs hr, cbo_unmapped hd]
      · rw [cboFlush_runs hr, cbo_unmapped hd]
      · rw [cboInval_runs hr, if_pos (.inl rfl), cbo_unmapped hd]
    case stalls =>
      refine ⟨?_, fun v => ?_, ?_⟩
      · rw [wrsNto_waits hr, wrsStall_waits hres hirq]
      · rw [wrsNto_traps hr, wrsStall_waits hres hirq]
      · rw [wrsSto_waits hr, wrsStall_waits hres hirq]
    case goesOn => exact ⟨by rw [wrsNto_waits hr, wrsStall_unreserved hres], by rw [wrsSto_waits hr, wrsStall_unreserved hres]⟩

end Sys2Proof

/-! PROOFS. The die firewall (R245, R457, R459): what GUEST_WINDOWS_WRITE answers, which window lets an access pass, what an access that
passes reads or writes, and what one that no window lets pass leaves. -/

namespace Sys2Proof

open Sys2Proof.Machine

/-! ### What the commands run -/

theorem exec_guestWindowsWrite (role : Role) (g i : Nat) (w : GuestWin) (s : State) :
    exec (.guestWindowsWrite role g i w) s = execGuestWindowsWrite role g i w s := rfl
theorem exec_guestRead (g a : Nat) (s : State) : exec (.guestRead g a) s = execGuestRead g a s := rfl
theorem exec_guestWrite (g a : Nat) (m : W64) (d : Line) (p : Bool) (s : State) :
    exec (.guestWrite g a m d p) s = execGuestWrite g a m d p s := rfl

/-! ### Commands of a guest site (R350) -/

/-- A command of a guest site that is let in, on a part with guest sites, runs its body. -/
theorem Admits.guestCmd {b : Block} {role : Role} {g : Nat} (ha : Admits b role .service 0x7C) (hg : g < 2)
    (hp : b.tray.part = .g4t) (f : Block → Block) : b.guestCmd role g f = f b := by
  obtain ⟨hrank, -⟩ := ha.role
  rw [Block.guestCmd, if_neg (Nat.not_le.2 hg), if_neg (Nat.not_lt.2 hrank), if_neg (not_not.2 hp), ha.cmd]

section WindowsWrite

variable {s : State} {role : Role} {g i : Nat} {w : GuestWin} (ha : Admits s.blk role .service 0x7C) (hg : g < 2)
  (hp : s.blk.tray.part = .g4t)
include ha hg hp

theorem guestWindowsWrite_reserved (h0 : w.rsvZero = false) :
    exec (.guestWindowsWrite role g i w) s = .next (s.withBlk (s.blk.refuse .rsvNonzero)) := by
  simp [exec_guestWindowsWrite, execGuestWindowsWrite, ha.guestCmd hg hp, h0]

section Fields

variable (h0 : w.rsvZero = true)
include h0

theorem guestWindowsWrite_outOfRange (hbad : 16 ≤ i ∨ 256 ≤ w.ctx) :
    exec (.guestWindowsWrite role g i w) s = .next (s.withBlk (s.blk.refuse .outOfRange)) := by
  simp [exec_guestWindowsWrite, execGuestWindowsWrite, ha.guestCmd hg hp, h0, hbad]

variable (hi : i < 16) (hc : w.ctx < 256)
include hi hc

/-- A valid window whose fields lie in their ranges and that breaks a rule of R457. -/
theorem guestWindowsWrite_badRange (hv : w.v = true) (hf : w.inField = true) (hok : s.blk.winOk g i w = false) :
    exec (.guestWindowsWrite role g i w) s = .next (s.withBlk (s.blk.refuse .badRange)) := by
  simp [exec_guestWindowsWrite, execGuestWindowsWrite, ha.guestCmd hg hp, h0, Nat.not_le.2 hi, Nat.not_le.2 hc, hv, hf, hok]

/-- A window that is not valid, or that keeps every rule of R457, is put in its place. -/
theorem guestWindowsWrite_sets (hw : w.v = false ∨ (w.inField = true ∧ s.blk.winOk g i w = true)) :
    exec (.guestWindowsWrite role g i w) s = .next (s.withBlk
      ((s.blk.updGuest g (fun x => { x with windows := tput x.windows i w })).refuse .ok)) := by
  have hin : ¬(w.v = true ∧ w.inField = false) := by
    rintro ⟨hv, hf⟩
    simp [hv, hf] at hw
  have hok : ¬(w.v = true ∧ s.blk.winOk g i w = false) := by
    rintro ⟨hv, hk⟩
    simp [hv, hk] at hw
  simp [exec_guestWindowsWrite, execGuestWindowsWrite, ha.guestCmd hg hp, h0, Nat.not_le.2 hi, Nat.not_le.2 hc, hin, hok]

/-- What the write of a window leaves: the window in its place, OK, and nothing else but the reply. -/
theorem guestWindowsWrite_completes (hw : w.v = false ∨ (w.inField = true ∧ s.blk.winOk g i w = true)) :
    Completes (.guestWindowsWrite role g i w) s (fun t => tfind (t.blk.guest g).windows i = some w ∧
      t.blk.cmds.reply.status = .ok ∧ t.blk.mem = s.blk.mem ∧ (t.blk.guest g).st = (s.blk.guest g).st ∧
      ∀ j, j ≠ g → t.blk.guest j = s.blk.guest j) := by
  refine .of_exec (guestWindowsWrite_sets ha hg hp h0 hi hc hw) ⟨?_, rfl, rfl, ?_, fun j hj => ?_⟩
  · simp [tfind_tput_same]
  · simp
  · simp [Block.setGuest_guest_ne _ _ _ _ hj]

end Fields

end WindowsWrite

/-- A window that may be written and not read breaks the rules of R457. -/
theorem winOk_writeOnly {b : Block} {g i : Nat} {w : GuestWin} (hw : w.w = true) (hr : w.r = false) : b.winOk g i w = false := by
  simp [Block.winOk, hw, hr]

/-! ### The window that lets an access pass (R457) -/

/-- It is valid, has the permission, and holds the address. -/
theorem window_allows {b : Block} {g a : Nat} {wr : Bool} {v : GuestWin} (h : b.window g a wr = some v) :
    v.v = true ∧ (if wr then v.w else v.r) = true ∧ v.gbase ≤ a ∧ a < v.gbase + v.length := by
  obtain ⟨e, hfind, rfl⟩ := Option.map_eq_some_iff.1 h
  have hpass := List.find?_some hfind
  simp only [Bool.and_eq_true, decide_eq_true_eq] at hpass
  obtain ⟨⟨⟨hv, hperm⟩, hlow, hhigh⟩, -⟩ := hpass
  exact ⟨hv, hperm, hlow, hhigh⟩

/-! ### An access that no window lets pass (R459) -/

/-- The record of a guest after one more refused access. -/
def deniedGuest (x : Guest) : Guest := { x with denials := x.denials + 1, denialsNow := x.denialsNow + 1, answer := none }

/-- An event of a guest die changes neither the sites nor memory nor a line. -/
theorem guestEvent_frame (b : Block) (g : Nat) (e : Ev) (args : List Nat) :
    (b.guestEvent g e args).guest g = b.guest g ∧ (b.guestEvent g e args).mem = b.mem ∧
      (b.guestEvent g e args).lines = b.lines := by
  simp [Block.guestEvent]

/-- The refused access is counted; memory and the lines stay; at 1,000 in the second the die is in breach. -/
theorem denyGuest_counts (b : Block) (g a : Nat) :
    ∃ d : Block, d.guest g = deniedGuest (b.guest g) ∧ d.mem = b.mem ∧ d.lines = b.lines ∧ b.denyGuest g a =
      if 1000 ≤ (b.guest g).denialsNow + 1 then
        (d.guestEvent g .guestBreach [g, (b.guest g).denialsNow + 1]).holdGuest g true else d := by
  refine ⟨_, ?_, ?_, ?_, rfl⟩
  all_goals
    split
    · simp [guestEvent_frame, deniedGuest]
    · simp [deniedGuest]

theorem denyGuest_refuses {b : Block} {g : Nat} (h : (b.guest g).denialsNow + 1 < 1000) (a : Nat) :
    ((b.denyGuest g a).guest g).denials = (b.guest g).denials + 1 ∧ ((b.denyGuest g a).guest g).answer = none ∧
      ((b.denyGuest g a).guest g).st = (b.guest g).st ∧ (b.denyGuest g a).mem = b.mem ∧ (b.denyGuest g a).lines = b.lines := by
  obtain ⟨d, hguest, hmem, hlines, heq⟩ := denyGuest_counts b g a
  rw [heq, if_neg (Nat.not_le.2 h), hguest]
  exact ⟨rfl, rfl, rfl, hmem, hlines⟩

/-- A die in breach is held, and its windows are closed. -/
theorem denyGuest_breaches {b : Block} {g : Nat} (h : 1000 ≤ (b.guest g).denialsNow + 1) (a : Nat) :
    ((b.denyGuest g a).guest g).st = .held ∧ ((b.denyGuest g a).guest g).windows = [] ∧
      (b.denyGuest g a).mem = b.mem ∧ (b.denyGuest g a).lines = b.lines := by
  obtain ⟨d, -, hmem, hlines, heq⟩ := denyGuest_counts b g a
  obtain ⟨-, hemem, helines⟩ := guestEvent_frame d g .guestBreach [g, (b.guest g).denialsNow + 1]
  rw [heq, if_pos h]
  exact ⟨by simp [Block.holdGuest], by simp [Block.holdGuest], hemem.trans hmem, helines.trans hlines⟩

/-! ### Accesses -/

section Access

variable {s : State} {g a : Nat}

/-- An access of a die that does not run, or of an address that is no line of the guest space. -/
theorem guestRead_idle (h : (s.blk.guest g).st ≠ .running ∨ a % 64 ≠ 0 ∨ 2 ^ 48 ≤ a) : exec (.guestRead g a) s = .next s := by
  rw [exec_guestRead, execGuestRead, State.run_eq, if_pos (.inr h)]

theorem guestWrite_idle (h : (s.blk.guest g).st ≠ .running ∨ a % 64 ≠ 0 ∨ 2 ^ 48 ≤ a) (m : W64) (d : Line) (p : Bool) :
    exec (.guestWrite g a m d p) s = .next s := by
  rw [exec_guestWrite, execGuestWrite, State.run_eq, if_pos (.inr h)]

section Running

variable (ho : ¬(2 ≤ g ∨ (s.blk.guest g).st ≠ .running ∨ a % 64 ≠ 0 ∨ 2 ^ 48 ≤ a))
include ho

theorem guestRead_denied (hw : s.blk.window g a false = none) :
    exec (.guestRead g a) s = .next (s.withBlk (s.blk.denyGuest g a)) := by
  simp only [exec_guestRead, execGuestRead, State.run_eq, if_neg ho, hw]

theorem guestWrite_denied (hw : s.blk.window g a true = none) (m : W64) (d : Line) (p : Bool) :
    exec (.guestWrite g a m d p) s = .next (s.withBlk (s.blk.denyGuest g a)) := by
  simp only [exec_guestWrite, execGuestWrite, State.run_eq, if_neg ho, hw]

section Read

variable {v : GuestWin} {da : Nat} (hw : s.blk.window g a false = some v) (hd : s.blk.dom (v.paBase + (a - v.gbase)) = some da)
include hw hd

/-- Beneath the homes a read answers the memory copy (R245). -/
theorem guestRead_beneath {ln : Line} (hsig : v.signal = false) (hu : s.blk.under (da / 64) = .ok (ln, false)) :
    exec (.guestRead g a) s = .next (s.withBlk (s.blk.updGuest g (fun y => { y with answer := some ln }))) := by
  simp only [exec_guestRead, execGuestRead, State.run_eq, if_neg ho, hw, hd, hsig, hu, Bool.false_eq_true, if_false]

/-- Through a SIGNAL window a read is made at the home. -/
theorem guestRead_atHome {n : Nat} (hsig : v.signal = true) (hread : s.blk.readAt (v.paBase + (a - v.gbase)) 64 = .ok n) :
    exec (.guestRead g a) s = .next (s.withBlk (s.blk.updGuest g (fun y => { y with answer := some (BitVec.ofNat 512 n) }))) := by
  simp only [exec_guestRead, execGuestRead, State.run_eq, if_neg ho, hw, hd, hsig, hread, Except.map, if_true]

/-- A poisoned line is refused, with its event (R396). -/
theorem guestRead_poisoned {ln : Line} (hsig : v.signal = false) (hu : s.blk.under (da / 64) = .ok (ln, true)) :
    exec (.guestRead g a) s = .next (s.withBlk ((({ s.blk with errors := { s.blk.errors with
      consumed := tinc s.blk.errors.consumed 4 1 } }).guestEvent g .guestPoison [g, a]).refuseGuest g)) := by
  simp only [exec_guestRead, execGuestRead, State.run_eq, if_neg ho, hw, hd, hsig, hu, Bool.false_eq_true, if_false, if_true]

theorem guestRead_poisoned_completes {ln : Line} (hsig : v.signal = false) (hu : s.blk.under (da / 64) = .ok (ln, true)) :
    Completes (.guestRead g a) s (fun t =>
      (t.blk.guest g).answer = none ∧ t.blk.mem = s.blk.mem ∧ t.blk.lines = s.blk.lines) := by
  obtain ⟨-, hmem, hlines⟩ := guestEvent_frame { s.blk with errors := { s.blk.errors with
    consumed := tinc s.blk.errors.consumed 4 1 } } g .guestPoison [g, a]
  exact .of_exec (guestRead_poisoned ho hw hd hsig hu) ⟨by simp [Block.refuseGuest], hmem, hlines⟩

end Read

/-- A write that passes is made at the home in a SIGNAL window, beneath it in another (R245, R457). -/
theorem guestWrite_passes {v : GuestWin} {da : Nat} {m : W64} {d : Line} {p : Bool} {c : Block}
    (hw : s.blk.window g a true = some v) (hd : s.blk.dom (v.paBase + (a - v.gbase)) = some da)
    (hput : (if v.signal then s.blk.write (da / 64) m d p else s.blk.putUnder (da / 64) m d p) = .ok c) :
    exec (.guestWrite g a m d p) s = .next (s.withBlk (c.updGuest g (fun y => { y with answer := some d }))) := by
  simp only [exec_guestWrite, execGuestWrite, State.run_eq, if_neg ho, hw, hd, hput]

end Running

end Access

/-- Settles O57: the write of a window by its checks in order, an access by the window that it finds, a refused one by its count. -/
theorem firewall : Obligations.Firewall := by
  unfold Obligations.Firewall
  intro s g hg b x
  refine ⟨fun role i w hp ha => ⟨guestWindowsWrite_reserved ha hg hp, guestWindowsWrite_outOfRange ha hg hp,
      fun h0 hi hc hv hf hw hr => guestWindowsWrite_badRange ha hg hp h0 hi hc hv hf (winOk_writeOnly hw hr),
      guestWindowsWrite_completes ha hg hp⟩,
    fun a wr v => window_allows, fun a m d p h => ⟨guestRead_idle h, guestWrite_idle h m d p⟩,
    fun a hst hline hspace => ?running, fun a h => denyGuest_refuses h a, fun a h => denyGuest_breaches h a⟩
  case running =>
    have ho : ¬(2 ≤ g ∨ x.st ≠ .running ∨ a % 64 ≠ 0 ∨ 2 ^ 48 ≤ a) := by
      simp only [not_or, not_not, not_le]
      exact ⟨hg, hst, hline, hspace⟩
    refine ⟨guestRead_denied ho, fun m d p hw => guestWrite_denied ho hw m d p,
      fun v da hw hd => ⟨fun ln => guestRead_beneath ho hw hd, fun n => guestRead_atHome ho hw hd,
        fun ln => guestRead_poisoned_completes ho hw hd⟩,
      fun v da m d p c hw hd => ⟨fun hsig hput => ?_, fun hsig hput => ?_⟩⟩
    · exact guestWrite_passes ho hw hd (by rw [hsig, if_pos rfl, hput])
    · exact guestWrite_passes ho hw hd (by rw [hsig, if_neg Bool.false_ne_true, hput])

end Sys2Proof

/-! PROOFS. The step itself (log entries 3 and 4), the state at reset (R327, R328, R341) and the gate of the light list (R348, R350). -/

namespace Sys2Proof

open Sys2Proof.Machine

/-! ### The step -/

/-- Settles O1: a step takes the front of the queue; with nothing in it the block idles (log entry 3). -/
theorem stepRunsFront : Obligations.StepRunsFront := by
  unfold Obligations.StepRunsFront
  refine ⟨fun s c => rfl, fun s h => ?_⟩
  unfold step
  rw [h]

/-- Every command answers a block: none faults, none is refused, none reaches the queue, which the block does not hold (log entry 4). -/
theorem exec_answers (i : Instr) (s : State) : ∃ b : Block, exec i s = .next (s.withBlk b) := by
  cases i <;> exact ⟨_, rfl⟩

/-- Settles O2: the answer differs from the state in its block only. -/
theorem everyCommandAnswers : Obligations.EveryCommandAnswers := by
  unfold Obligations.EveryCommandAnswers
  intro i s
  obtain ⟨b, hb⟩ := exec_answers i s
  exact .of_exec hb rfl

/-! ### Reset -/

/-- A cell of a memory that lists nothing reads 0. -/
theorem cellGet_nil (k : Nat) : cellGet [] k = 0 := rfl

/-- Settles O46: at reset every table is empty, so that each entry read is the one a fresh unit has. -/
theorem resetValues : Obligations.ResetValues := by
  unfold Obligations.ResetValues
  refine ⟨⟨rfl, rfl, rfl, rfl, fun _ => rfl, fun _ => rfl, fun _ => rfl, fun _ => rfl, fun _ => ⟨rfl, rfl⟩, fun _ => rfl,
    fun _ => ⟨rfl, rfl⟩, fun _ => rfl, rfl, rfl⟩, nil_memWf, cellGet_nil⟩

/-! ### The gate of the light list -/

/-- A role below the least one is DENIED, whatever the module's state (R348). -/
theorem cmd_denied {role least : Role} (h : roleRank role < roleRank least) (b : Block) (area : Nat) (f : Block → Block) :
    b.cmd role least area f = b.refuse .denied := by
  simp only [Block.cmd, Block.gate, if_pos h]

section Allowed

variable {b : Block} {role least : Role} (hr : roleRank least ≤ roleRank role) (area : Nat) (f : Block → Block)
include hr

/-- At DARK no command is taken (R350). -/
theorem cmd_dark (hd : b.start.level = .dark) : b.cmd role least area f = b.refuse .notNow := by
  simp only [Block.cmd, Block.gate, if_neg (Nat.not_lt.mpr hr), if_pos hd]

variable (hd : b.start.level ≠ .dark)
include hd

/-- The areas that need the main rails answer NOT_NOW while they are off (R350). -/
theorem cmd_railsOff {area : Nat} (ha : area ∉ [0x01, 0x02, 0x60, 0x70, 0x71, 0x78]) (ht : b.tray.rails = false) :
    b.cmd role least area f = b.refuse .notNow := by
  simp only [Block.cmd, Block.gate, if_neg (Nat.not_lt.mpr hr), if_neg hd, List.contains_iff_mem, if_neg ha, ht, Bool.false_eq_true,
    if_false]

/-- Past the gate the command runs. -/
theorem cmd_runs {area : Nat} (ha : area ∈ [0x01, 0x02, 0x60, 0x70, 0x71, 0x78] ∨ b.tray.rails = true) :
    b.cmd role least area f = f b := by
  have hg : b.gate role least area = none := by
    simp only [Block.gate, if_neg (Nat.not_lt.mpr hr), if_neg hd, List.contains_iff_mem]
    rcases ha with ha | ht
    · rw [if_pos ha]
    · rw [ht, if_pos rfl, ite_self]
  exact Admits.cmd hg f

end Allowed

/-- Settles O47: the three checks of the gate in their order; the commands named stand behind it with their least role. -/
theorem commandGate : Obligations.CommandGate := by
  unfold Obligations.CommandGate
  refine ⟨fun b role least area f => ⟨fun h => cmd_denied h b area f, fun h => cmd_dark h area f, fun h hd ha => cmd_railsOff h f hd ha,
    fun h hd ha => cmd_runs h f hd ha⟩, fun s st => rfl, fun s => ⟨fun c => ⟨?_, ?_⟩, fun c d => ?_, fun g d => ?_, fun d => ?_, ?_,
    fun l b => ?_, fun l m => ?_, fun p => ?_, ?_⟩⟩
  all_goals exact congrArg (fun b => Host.Outcome.next (s.withBlk b)) (cmd_denied (by decide) s.blk _ _)

end Sys2Proof

/-! PROOFS. Four statements that fail where a sparse table lists a key twice: a removal takes the first entry of the key, and the second
then answers. The canonical form of memory is an invariant of the model; that a table lists each key once is not a premise of these
statements. -/

namespace Sys2Proof

open Sys2Proof.Machine

/-! ### Two copies of a line at one agent -/

/-- Copies of a line: agent 0 is listed twice, with the same copy. -/
def twoCopies (st : CState) : Tab Copy :=
  [(0, { st := st, data := 0, poison := false }), (0, { st := st, data := 0, poison := false })]

/-- Line 0 is owned by agent 0, which has it E and is listed twice. -/
def ownedTwice : State := { State.reset with blk := { lines := [(0, { dir := .owned 0, copies := twoCopies .e })] } }

/-- Refutes O33: EVICT_CLEAN drops the first copy that the line lists for agent 0; the second one still stands. -/
theorem not_homeRequests : ¬ Obligations.HomeRequests := by
  unfold Obligations.HomeRequests
  rintro ⟨hserve, -, -⟩
  obtain ⟨-, -, -, -, -, -, -, -, -, -, -, -, hevict, -⟩ := hserve ownedTwice 0 0 0 (by decide)
  obtain ⟨t, ht, -, -, hgone, -⟩ := hevict { st := .e, data := 0, poison := false } rfl rfl (by decide) (by decide)
  injection ht with ht
  subst ht
  exact absurd hgone (by decide)

/-- The transaction of a RD_X of agent 1: the owner, agent 0, was sent SNP_FWD_X. -/
def fwdXSent : Txn := { req := { kind := .rdX, agent := 1 }, snoops := [(0, .fwdX)], gives := some .m }

/-- Line 0 with that transaction in flight, and the owner's copy listed twice. -/
def snoopedTwice : State :=
  { State.reset with blk := { lines := [(0, { dir := .owned 1, copies := twoCopies .e, busy := some fwdXSent })] } }

/-- Refutes O34: SNP_FWD_X drops the first copy that the line lists for the snooped agent; the second one is still found. -/
theorem not_snoopsAndResponses : ¬ Obligations.SnoopsAndResponses := by
  unfold Obligations.SnoopsAndResponses
  intro h
  obtain ⟨-, hcopy, -⟩ := h snoopedTwice 0 0 0 fwdXSent (by decide) rfl
  obtain ⟨-, hfwd, -⟩ := hcopy { st := .e, data := 0, poison := false } rfl
  obtain ⟨t, ht, -, hgone, -⟩ := hfwd (by decide)
  injection ht with ht
  subst ht
  exact absurd hgone (by decide)

/-! ### An error bank and an erased slot, each listed twice -/

/-- TENDED, with the error bank of unit 0 listed twice. -/
def bankTwice : State :=
  { State.reset with blk := { start := { level := .tended }, errors := { banks := [(0, [errRec 0 0 0]), (0, [errRec 0 0 0])] } } }

/-- Refutes O50: ERROR_BANK_CLEAR removes the first bank that is listed for unit 0; the second one is then its bank. -/
theorem not_records : ¬ Obligations.Records := by
  unfold Obligations.Records
  intro h
  obtain ⟨-, hclear, -⟩ := h bankTwice .service
  obtain ⟨t, ht, hempty, -⟩ := hclear rfl 0
  injection ht with ht
  subst ht
  exact absurd hempty (by decide)

/-- A slot that holds a record of no setting. -/
def emptySlot : StoreSlot := { seq := 1, record := [], torn := false }

/-- Copy A erases its next slot, slot 0, which is listed twice. -/
def slotTwice : State :=
  { State.reset with blk := { store := { a := { slots := [(0, emptySlot), (0, emptySlot)], last := 47, erasing := true } } } }

/-- Refutes O60: SLOT_ERASE_DONE removes the first slot that is listed under the erased number; the second one is still found. -/
theorem not_storeAndAlerts : ¬ Obligations.StoreAndAlerts := by
  unfold Obligations.StoreAndAlerts
  intro h
  obtain ⟨-, -, herase, -⟩ := h slotTwice .observer
  obtain ⟨t, ht, -, hgone, -⟩ := herase 0 (by decide) (by decide)
  injection ht with ht
  subst ht
  exact absurd hgone (by decide)

end Sys2Proof

/-! PROOFS. Range engines (R263 to R267): the doors, the completion word, CLEAN and INVALIDATE of one line, and the command rings. -/

namespace Sys2Proof

open Sys2Proof.Machine

theorem exec_clean (t : Nat) (d : Door) (s : State) : exec (.clean t d) s = s.run (fun b => b.rangeDoor t d .clean) := rfl
theorem exec_invalidate (t : Nat) (d : Door) (s : State) :
    exec (.invalidate t d) s = s.run (fun b => b.rangeDoor t d .invalidate) := rfl
theorem exec_cleanInvalidate (t : Nat) (d : Door) (s : State) :
    exec (.cleanInvalidate t d) s = s.run (fun b => b.rangeDoor t d .cleanInvalidate) := rfl
theorem exec_rangeCommandDone (t id : Nat) (s : State) : exec (.rangeCommandDone t id) s = execRangeCommandDone t id s := rfl
theorem exec_registerRing (role : Role) (t c header ring log2 : Nat) (s : State) :
    exec (.registerRing role t c header ring log2) s = execRegisterRing role t c header ring log2 s := rfl
theorem exec_removeRing (role : Role) (t i : Nat) (s : State) : exec (.removeRing role t i) s = execRemoveRing role t i s := rfl

/-! ### The doors (R264, R282) -/

/-- An ask of the slot door or of the hart door is run on its whole range, or is left as it stands. -/
theorem rangeDoor_ask {b : Block} {t : Nat} {d : Door} {slot : Option Nat} {a : RangeAsk}
    (hd : d = .hart ∧ slot = none ∨ ∃ k, d = .slot k ∧ slot = some k)
    (ha : (b.tile t).asks.find? (fun (x : RangeAsk) => x.slot == slot) = some a) :
    b.rangeDoor t d a.op = ((b.updTile t (fun y => { y with asks := y.asks.erase a })).rangeRun t
      ((b.updTile t (fun y => { y with asks := y.asks.erase a })).askCmd a)).getD b := by
  obtain ⟨rfl, rfl⟩ | ⟨k, rfl, rfl⟩ := hd <;> simp only [Block.rangeDoor, ha, ne_eq, not_true_eq_false, if_false]

/-- The three range instructions are the door with their operation. -/
theorem exec_rangeDoor {t : Nat} {d : Door} {op : RangeOp} {i : Instr} (hi : i = .clean t d ∧ op = .clean ∨
    i = .invalidate t d ∧ op = .invalidate ∨ i = .cleanInvalidate t d ∧ op = .cleanInvalidate) (s : State) :
    exec i s = .next (s.withBlk (s.blk.rangeDoor t d op)) := by
  obtain ⟨rfl, rfl⟩ | ⟨rfl, rfl⟩ | ⟨rfl, rfl⟩ := hi <;> rfl

/-! ### The completion word (R265) -/

/-- TOKEN, RESULT, the two flags and the valid bit do not overlap. -/
theorem rangeWord_fields {c : RangeCmd} (ht : c.token < 2 ^ 32) (hr : c.result < 8) :
    rangeWord c % 2 ^ 32 = c.token ∧ rangeWord c / 2 ^ 32 % 16 = c.result ∧ (rangeWord c).testBit 36 = c.poisonSeen ∧
      (rangeWord c).testBit 37 = c.dropped ∧ (rangeWord c).testBit 63 = true := by
  simp only [rangeWord, Nat.testBit_eq_decide_div_mod_eq]
  cases c.poisonSeen <;> cases c.dropped <;>
    simp only [decide_eq_true_eq, decide_eq_false_iff_not, Bool.false_eq_true, if_false, if_true] <;> omega

section Done

variable {s : State} {t id : Nat} {c : RangeCmd} (hc : (s.blk.tile t).running.find? (fun x => x.id == id) = some c)
include hc

/-- A ring's command ends: its word is written through the home. -/
theorem rangeCommandDone_written {a : Nat} {b1 : Block} (hd : s.blk.dom c.completion = some a) (hs : c.slot = none)
    (hw : s.blk.write (a / 64) (byteMask (a % 64) 8) (linePut 0 (a % 64) 8 (rangeWord c)) false = .ok b1) :
    exec (.rangeCommandDone t id) s = .next (s.withBlk (b1.updTile t (fun y => { y with
      running := y.running.filter (fun z => z.id != id), done := tinc y.done c.result 1 }))) := by
  simp only [exec_rangeCommandDone, execRangeCommandDone, State.run_eq, hc, hd, hs, hw]

/-- Where no memory takes the word the command ends all the same, with an event. -/
theorem rangeCommandDone_unreachable (hd : s.blk.dom c.completion = none) : Completes (.rangeCommandDone t id) s (fun u =>
    (∀ z ∈ (u.blk.tile t).running, z.id ≠ id) ∧
    (∀ k, c.slot = some k → (Machine.tget {} (u.blk.tile t).slots k).busy = false ∧
      (Machine.tget {} (u.blk.tile t).slots k).lastResult = c.result ∧ (Machine.tget {} (u.blk.tile t).slots k).lastToken = c.token) ∧
    u.blk.events = (s.blk.raise (unitTile t) .rangeCompletionUnreachable [c.completion]).events ∧ u.blk.mem = s.blk.mem) := by
  simp only [Completes, exec_rangeCommandDone, execRangeCommandDone, State.run_eq, hc, hd]
  refine ⟨_, rfl, fun z hz => ?_, fun k hk => ?_, rfl, by simp⟩
  · simp only [Block.updTile_eq, Block.setTile_tile, List.mem_filter] at hz
    simpa using hz.2
  · simp [hk]

end Done

/-! ### One line (R263) -/

/-- Dropping the copy of an agent takes it from the line, and changes no other field of the line. -/
theorem dropCopy_line (b : Block) (a ln : Nat) :
    (b.dropCopy a ln).line ln = { b.line ln with copies := tdel (b.line ln).copies a } := by
  have hl : (b.dropCopy a ln).lines = (b.setLine ln { b.line ln with copies := tdel (b.line ln).copies a }).lines := by
    unfold Block.dropCopy
    dsimp only
    split <;> rfl
  exact (congrArg (fun t => tget ({} : LineSt) t ln) hl).trans (Block.setLine_line ..)

theorem dropCopy_mem (b : Block) (a ln : Nat) : (b.dropCopy a ln).mem = b.mem := by
  unfold Block.dropCopy
  dsimp only
  split <;> rfl

/-- Copies dropped one after the other go from the line's list one after the other. -/
theorem dropCopies_line (es : Tab Copy) (b : Block) (ln : Nat) :
    (es.foldl (fun (c : Block) (e : Nat × Copy) => c.dropCopy e.1 ln) b).line ln =
      { b.line ln with copies := es.foldl (fun (t : Tab Copy) e => tdel t e.1) (b.line ln).copies } := by
  induction es generalizing b with
  | nil => rfl
  | cons e t ih => simp only [List.foldl_cons, ih, dropCopy_line]

theorem dropCopies_mem (es : Tab Copy) (b : Block) (ln : Nat) :
    (es.foldl (fun (c : Block) (e : Nat × Copy) => c.dropCopy e.1 ln) b).mem = b.mem :=
  List.foldlRecOn (motive := fun c : Block => c.mem = b.mem) _ _ rfl (fun c hc e _ => (dropCopy_mem c e.1 ln).trans hc)

/-- A table from which the key of each of its entries is removed once lists nothing. -/
theorem tdel_all {α : Type} (t : Tab α) : t.foldl (fun (u : Tab α) e => tdel u e.1) t = [] := by
  induction t with
  | nil => rfl
  | cons e t ih => simpa [tdel] using ih

/-- A directory entry that becomes untracked gives its way back; the line keeps the rest. -/
theorem setDir_line (b : Block) (ln : Nat) (d : Dir) : (b.setDir ln d).line ln = { b.line ln with dir := d } := by
  have hl : (b.setDir ln d).lines = (b.setLine ln { b.line ln with dir := d }).lines := by
    unfold Block.setDir
    dsimp only
    split <;> rfl
  exact (congrArg (fun t => tget ({} : LineSt) t ln) hl).trans (Block.setLine_line ..)

theorem setDir_mem (b : Block) (ln : Nat) (d : Dir) : (b.setDir ln d).mem = b.mem := by
  unfold Block.setDir
  dsimp only
  split <;> rfl

theorem inval_line (x : RangeAcc) (ln : Nat) :
    (x.inval ln).blk.line ln = { x.blk.line ln with copies := [], dir := .untracked, slice := none } := by
  have hl : (x.inval ln).blk.line ln = { (((x.blk.line ln).copies.foldl (fun (c : Block) (e : Nat × Copy) => c.dropCopy e.1 ln)
      x.blk).setDir ln .untracked).line ln with slice := none } := Block.setLine_line ..
  rw [hl, setDir_line, dropCopies_line, tdel_all]

theorem inval_mem (x : RangeAcc) (ln : Nat) : (x.inval ln).blk.mem = x.blk.mem :=
  (setDir_mem _ ln .untracked).trans (dropCopies_mem ..)

/-- Where no agent has the line M there is no owner whose data CLEAN would place in the slice. -/
theorem noOwner {t : Tab Copy} (h : ∀ e ∈ t, e.2.st ≠ .m) : t.find? (fun (e : Nat × Copy) => e.2.st == .m) = none :=
  List.find?_eq_none.mpr (fun e he => by simpa using h e he)

theorem clean_nothing {x : RangeAcc} {ln : Nat} (hm : ∀ e ∈ (x.blk.line ln).copies, e.2.st ≠ .m)
    (hs : (x.blk.line ln).slice = none) : x.clean ln = x := by
  simp only [RangeAcc.clean, noOwner hm, hs]

theorem sample_frame (b : Block) (ln : Nat) : (b.sample ln).lines = b.lines ∧ (b.sample ln).mem = b.mem := by
  unfold Block.sample
  dsimp only
  split <;> exact ⟨rfl, rfl⟩

/-- A STEADY berth takes the data of a dirty slice line into its frame. -/
theorem writeBack_steady {b : Block} {ln : Nat} (h : (b.berth (ln / 1024)).st = .steady) (v : Line) (p : Bool) :
    b.writeBack ln v p = ((b.putMem ln v p).sample ln, false) := by
  simp only [Block.writeBack, h]

theorem clean_steady {x : RangeAcc} {ln : Nat} {sl : SliceLine} (hm : ∀ e ∈ (x.blk.line ln).copies, e.2.st ≠ .m)
    (hs : (x.blk.line ln).slice = some sl) (hd : sl.dirty = true) (hst : (x.blk.berth (ln / 1024)).st = .steady) :
    ((x.clean ln).blk.line ln).slice = some { sl with dirty := false } ∧
      (x.clean ln).blk.mem = (x.blk.putMem ln sl.data sl.poison).mem ∧ (x.clean ln).poison = (x.poison || sl.poison) := by
  simp only [RangeAcc.clean, noOwner hm, hs, hd, Bool.not_true, Bool.false_eq_true, if_false, writeBack_steady hst]
  exact ⟨by simp, (sample_frame ..).2, trivial⟩

/-! ### Command rings (R266) -/

section Rings

variable {s : State} {role : Role} (ha : Admits s.blk role .operator 0x40)
include ha

section Register

variable {t c : Nat}

theorem registerRing_outOfRange (h : 9 ≤ t ∨ 256 ≤ c) (header ring log2 : Nat) :
    exec (.registerRing role t c header ring log2) s = .next (s.withBlk (s.blk.refuse .outOfRange)) := by
  simp only [exec_registerRing, execRegisterRing, State.run_eq, ha.cmd, if_pos h]

variable (ht : t < 9) (hc : c < 256)
include ht hc

theorem registerRing_badState (hst : (s.blk.ctx c).st ≠ .active) (header ring log2 : Nat) :
    exec (.registerRing role t c header ring log2) s = .next (s.withBlk (s.blk.refuse .badState)) := by
  simp only [exec_registerRing, execRegisterRing, State.run_eq, ha.cmd, if_neg (show ¬(9 ≤ t ∨ 256 ≤ c) by omega), if_pos hst]

variable (hst : (s.blk.ctx c).st = .active) {header ring log2 : Nat}
include hst

theorem registerRing_badQueue (h : log2 < 4 ∨ 16 < log2 ∨ header % 64 ≠ 0 ∨ ring % 4096 ≠ 0) :
    exec (.registerRing role t c header ring log2) s = .next (s.withBlk (s.blk.refuse .badQueue)) := by
  simp only [exec_registerRing, execRegisterRing, State.run_eq, ha.cmd, if_neg (show ¬(9 ≤ t ∨ 256 ≤ c) by omega), hst, ne_eq,
    not_true_eq_false, if_false]
  rw [if_pos (by tauto)]

/-- A ring that can be read and watched is registered under the lowest free number, from its present tail on. -/
theorem registerRing_registers {i ln tail : Nat} {b1 : Block} (hlog : 4 ≤ log2) (hlog' : log2 ≤ 16) (hh : header % 64 = 0)
    (hr : ring % 4096 = 0) (hho : s.blk.rangeOk header 64 = true) (hro : s.blk.rangeOk ring (32 * 2 ^ log2) = true)
    (hi : (List.range 64).find? (fun i => !((s.blk.tile t).rings.any (fun r => r.num == i))) = some i)
    (hl : s.blk.lineAt header = some ln) (htail : s.blk.readAt header 4 = .ok tail) (hw : s.blk.watch (66 + t) ln = some b1) :
    exec (.registerRing role t c header ring log2) s = .next (s.withBlk ((b1.updTile t (fun y => { y with rings := y.rings ++
      [{ num := i, ctx := c, header := header, ring := ring, log2 := log2, pos := tail, notice := false }] })).done 0x40000041 i)) := by
  simp only [exec_registerRing, execRegisterRing, State.run_eq, ha.cmd, if_neg (show ¬(9 ≤ t ∨ 256 ≤ c) by omega), hst, ne_eq,
    not_true_eq_false, if_false, hho, hro, Bool.not_true, Bool.false_eq_true, or_false]
  rw [if_neg (by omega)]
  simp only [hi, hl, htail, hw]
  rfl

end Register

theorem removeRing_unknown {t i : Nat} (h : (s.blk.tile t).rings.find? (fun r => r.num == i) = none) :
    exec (.removeRing role t i) s = .next (s.withBlk (s.blk.refuse .outOfRange)) := by
  simp only [exec_removeRing, execRemoveRing, State.run_eq, ha.cmd, h]

/-- The ring goes, and the watch of its header where no ring of the tile needs it. -/
theorem removeRing_removes {t i : Nat} {r : Ring} (h : (s.blk.tile t).rings.find? (fun r => r.num == i) = some r) :
    Completes (.removeRing role t i) s (fun u => (u.blk.tile t).rings = (s.blk.tile t).rings.filter (fun y => y.num != i) ∧
      u.blk.cmds.reply.status = .ok ∧ u.blk.mem = s.blk.mem ∧ u.blk.hws = s.blk.hws) := by
  simp only [Completes, exec_removeRing, execRemoveRing, State.run_eq, ha.cmd, h]
  refine ⟨_, rfl, ?_⟩
  dsimp only
  split
  · split
    · exact ⟨congrArg Tile.rings (Block.setTile_tile ..), rfl, rfl, rfl⟩
    · exact ⟨congrArg Tile.rings (Block.setTile_tile ..), rfl, rfl, rfl⟩
  · exact ⟨congrArg Tile.rings (Block.setTile_tile ..), rfl, rfl, rfl⟩

end Rings

/-- Settles O35: the doors, the word, the two operations on a line and the commands of the rings, each by its own case. -/
theorem rangeCommands : Obligations.RangeCommands := by
  unfold Obligations.RangeCommands
  refine ⟨fun s t => ⟨fun i op d slot a hi hd ha hop => ?door, fun i => ⟨rfl, rfl, rfl⟩,
      fun id c a b1 hc hd hs => rangeCommandDone_written hc hd hs, fun id c hc => rangeCommandDone_unreachable hc,
      fun c => rangeWord_fields⟩,
    fun x ln => ⟨?inval, clean_nothing, fun sl => clean_steady⟩,
    fun s role t c header ring log2 ha => ⟨fun h => registerRing_outOfRange ha h header ring log2,
      fun ht hc hst => registerRing_badState ha ht hc hst header ring log2, fun ht hc hst => registerRing_badQueue ha ht hc hst,
      fun i ln tail b1 ht hc hst => registerRing_registers ha ht hc hst, fun i => removeRing_unknown ha,
      fun i r => removeRing_removes ha⟩⟩
  case door =>
    subst hop
    rw [exec_rangeDoor hi, rangeDoor_ask hd ha]
    exact ⟨fun c hc => by rw [hc, Option.getD_some], fun hc => by rw [hc, Option.getD_none]⟩
  case inval =>
    rw [inval_line]
    exact ⟨rfl, rfl, rfl, rfl, inval_mem x ln⟩

end Sys2Proof

/-! PROOFS. The Xgsv instructions of a keeper hart (R279 to R283): the words that are illegal for all four, what each does on a good word,
and the CSR instructions on gsvrcw and gsvrtok by privilege. -/

namespace Sys2Proof

open Sys2Proof.Machine

theorem exec_gsvFence (h : Nat) (p : Priv) (w : W32) (s : State) : exec (.gsvFence h p w) s = execGsvFence h p w s := rfl
theorem exec_gsvLdAq (h : Nat) (p : Priv) (w : W32) (s : State) : exec (.gsvLdAq h p w) s = execGsvLdAq h p w s := rfl
theorem exec_gsvSdRl (h : Nat) (p : Priv) (w : W32) (s : State) : exec (.gsvSdRl h p w) s = execGsvSdRl h p w s := rfl
theorem exec_gsvRange (h : Nat) (p : Priv) (w : W32) (s : State) : exec (.gsvRange h p w) s = execGsvRange h p w s := rfl

/-- What CSRRW, CSRRS and CSRRC of a register write to the CSR that they name. -/
def csrNew (b : Block) (h : Nat) (w : W32) : W64 :=
  let x := b.kreg h (fld w 15 5)
  let old := b.gsvCsr h (fld w 20 12)
  if fld w 12 3 = 1 then x else if fld w 12 3 = 2 then old ||| x else old &&& ~~~x

/-- What the instruction does is decided by the privilege alone. -/
theorem csrAccess_eq {b : Block} {h : Nat} {p : Priv} {w : W32} (hc : fld w 20 12 = 0x5C0 ∨ fld w 20 12 = 0x5C1)
    (hf : fld w 12 3 = 1 ∨ fld w 12 3 = 2 ∨ fld w 12 3 = 3) : b.csrAccess h p w = (match p with
    | .u => b.trap h 2 w.toNat
    | .vs => b.trap h 22 w.toNat
    | .vu => b.trap h 22 w.toNat
    | _ => (if fld w 12 3 = 1 ∨ fld w 15 5 ≠ 0 then b.setGsvCsr h (fld w 20 12) (csrNew b h w) else b).setX h (fld w 7 5)
      (b.gsvCsr h (fld w 20 12))) := by
  have hmod : fld w 12 3 % 4 = fld w 12 3 := by omega
  simp only [Block.csrAccess, hmod, if_neg (show ¬fld w 12 3 = 0 by omega), if_neg (show ¬fld w 20 12 = 0xF14 by omega),
    if_neg (show ¬(fld w 20 12 ≠ 0x5C0 ∧ fld w 20 12 ≠ 0x5C1) by omega), if_neg (show ¬4 ≤ fld w 12 3 by omega), csrNew]
  cases p <;> rfl

/-- The ask that GSV.RANGE offers to the engine of T4. -/
def hartAsk (b : Block) (h : Nat) (w : W32) (op : RangeOp) : RangeAsk :=
  { slot := none, op := op, base := (b.kreg h (fld w 15 5)).toNat, length := (b.kreg h (fld w 20 5)).toNat,
    completion := fld (b.hart h).gsvrcw 3 49 * 8, token := (b.hart h).gsvrtok.toNat }

/-- GSV.RANGE where the privilege allows it: 2 for a range or a word that breaks its rules, 1 for a full door, 0 for an ask taken. -/
def rangeAsked (b : Block) (h : Nat) (w : W32) (op : RangeOp) : Block :=
  let a := hartAsk b h w op
  if !b.rangeGood a.base a.length ∨ !b.wordGood a.completion then b.setX h (fld w 7 5) 2
  else if 32 ≤ ((b.tile 4).asks.filter (fun (x : RangeAsk) => x.slot == none)).length then b.setX h (fld w 7 5) 1
  else (b.updTile 4 (fun z => { z with asks := z.asks ++ [a] })).setX h (fld w 7 5) 0

/-- A register write changes neither the tiles nor memory nor the lines. -/
theorem setX_frame (b : Block) (h r : Nat) (v : W64) :
    (b.setX h r v).tiles = b.tiles ∧ (b.setX h r v).mem = b.mem ∧ (b.setX h r v).lines = b.lines := by
  unfold Block.setX
  split <;> exact ⟨rfl, rfl, rfl⟩

/-- A register that is written 0 reads 0, x0 or not. -/
theorem kreg_setX_cleared (b : Block) (h r : Nat) : (b.setX h r 0).kreg h r = 0 := by
  by_cases hr : r = 0
  · rw [hr, kreg_zero]
  · exact kreg_setX_same b h hr 0

section Xgsv

variable {s : State} {h : Nat} {p : Priv} {w : W32} (hr : s.blk.hartRuns h = true)
include hr

/-! ### CSR instructions (R282, R283) -/

section Csr

variable (ho : fld w 0 7 = 0x73) (hc : fld w 20 12 = 0x5C0 ∨ fld w 20 12 = 0x5C1)
include ho

theorem gsvRange_system : exec (.gsvRange h p w) s = .next (s.withBlk (s.blk.csrAccess h p w)) := by
  simp only [exec_gsvRange, execGsvRange, ho, if_true]
  exact run_onHart hr _

variable (hf : fld w 12 3 = 1 ∨ fld w 12 3 = 2 ∨ fld w 12 3 = 3)
include hc hf

theorem csr_user (hp : p = .u) : exec (.gsvRange h p w) s = .next (s.withBlk (s.blk.trap h 2 w.toNat)) := by
  rw [gsvRange_system hr ho, csrAccess_eq hc hf, hp]

theorem csr_virtual (hp : p = .vs ∨ p = .vu) : exec (.gsvRange h p w) s = .next (s.withBlk (s.blk.trap h 22 w.toNat)) := by
  rw [gsvRange_system hr ho, csrAccess_eq hc hf]
  obtain rfl | rfl := hp <;> rfl

/-- In M-mode and HS-mode the instruction reads the CSR, and writes it unless it is CSRRS or CSRRC of x0. -/
theorem csr_privileged (hp : p = .m ∨ p = .hs) : exec (.gsvRange h p w) s = .next (s.withBlk
    ((if fld w 12 3 = 1 ∨ fld w 15 5 ≠ 0 then s.blk.setGsvCsr h (fld w 20 12) (csrNew s.blk h w) else s.blk).setX h (fld w 7 5)
      (s.blk.gsvCsr h (fld w 20 12)))) := by
  rw [gsvRange_system hr ho, csrAccess_eq hc hf]
  obtain rfl | rfl := hp <;> rfl

end Csr

/-! ### Xgsv words (R279) -/

variable (ho : fld w 0 7 = 0x0B)
include ho

/-- A word of funct3 0 to 3 is the instruction of that function, on its reserved fields zero. -/
theorem xgsv_body {f3 : Nat} (hf : fld w 12 3 = f3) (h3 : f3 < 4) {z : Bool} (hz : z = true) (body : Block → Block) :
    s.run (fun b => b.xgsv h w f3 z body) = .next (s.withBlk (body s.blk)) := by
  subst hf hz
  simp only [Block.xgsv]
  rw [run_onHart hr]
  simp only [ho, ne_eq, not_true_eq_false, if_false, if_neg (Nat.not_le.mpr h3), if_true]

/-- funct3 4 to 7 is illegal, whichever of the four it is taken for. -/
theorem xgsv_illegal (hf : 4 ≤ fld w 12 3) (f3 : Nat) (z : Bool) (body : Block → Block) :
    s.run (fun b => b.xgsv h w f3 z body) = .next (s.withBlk (s.blk.trap h 2 w.toNat)) := by
  simp only [Block.xgsv]
  rw [run_onHart hr]
  simp only [ho, ne_eq, not_true_eq_false, if_false, if_pos hf, cIllegal]

/-! ### GSV.FENCE (R280) -/

section Fence

variable (hf : fld w 12 3 = 0) (h7 : fld w 7 5 = 0) (h15 : fld w 15 5 = 0) (h22 : fld w 22 2 = 0) (hsc : fld w 20 2 ≠ 3)
include hf h7 h15 h22 hsc

theorem gsvFence_eq : exec (.gsvFence h p w) s = .next (s.withBlk
    (if (bit w 26 || bit w 27 || bit w 30 || bit w 31) = true ∧ fld w 20 2 ≠ 2 then s.blk.trap h 2 w.toNat
      else if bit w 30 = true ∧ fld w 24 4 ≠ 0 then s.blk.postedAll h else s.blk)) :=
  xgsv_body hr ho hf (by omega) (by simp [h7, h15, h22, hsc]) _

/-- I or O with a scope that does not hold the devices is illegal. -/
theorem gsvFence_narrow (hio : (bit w 26 || bit w 27 || bit w 30 || bit w 31) = true) (hs : fld w 20 2 ≠ 2) :
    exec (.gsvFence h p w) s = .next (s.withBlk (s.blk.trap h 2 w.toNat)) := by
  rw [gsvFence_eq hr ho hf h7 h15 h22 hsc, if_pos ⟨hio, hs⟩]

/-- Without O in PRED there is no posted write to wait for. -/
theorem gsvFence_unposted (hio : (bit w 26 || bit w 27 || bit w 30 || bit w 31) = true → fld w 20 2 = 2) (hb : bit w 30 = false) :
    exec (.gsvFence h p w) s = .next s := by
  rw [gsvFence_eq hr ho hf h7 h15 h22 hsc, if_neg (by tauto), hb, if_neg (by simp)]

theorem gsvFence_posted (hs : fld w 20 2 = 2) (hb : bit w 30 = true) (hsucc : fld w 24 4 ≠ 0) :
    exec (.gsvFence h p w) s = .next (s.withBlk (s.blk.postedAll h)) := by
  rw [gsvFence_eq hr ho hf h7 h15 h22 hsc, if_neg (fun hn => hn.2 hs), if_pos ⟨hb, hsucc⟩]

end Fence

/-! ### GSV.LD.AQ and GSV.SD.RL (R281) -/

theorem gsvLdAq_eq (hf : fld w 12 3 = 1) (h20 : fld w 20 5 = 0) (h28 : fld w 28 4 = 0) :
    let pa := (s.blk.kreg h (fld w 15 5)).toNat
    exec (.gsvLdAq h p w) s = .next (s.withBlk (if pa % 2 ^ fld w 25 2 ≠ 0 then s.blk.trap h 4 pa
      else s.blk.hartLoad h (fld w 7 5) pa (2 ^ fld w 25 2) (!bit w 27))) :=
  xgsv_body hr ho hf (by omega) (by simp [h20, h28]) _

theorem gsvSdRl_eq (hf : fld w 12 3 = 2) (h7 : fld w 7 5 = 0) (h27 : fld w 27 5 = 0) :
    let pa := (s.blk.kreg h (fld w 15 5)).toNat
    exec (.gsvSdRl h p w) s = .next (s.withBlk (if pa % 2 ^ fld w 25 2 ≠ 0 then s.blk.trap h 6 pa
      else s.blk.hartStore h pa (2 ^ fld w 25 2) (s.blk.kreg h (fld w 20 5)))) :=
  xgsv_body hr ho hf (by omega) (by simp [h7, h27]) _

/-! ### GSV.RANGE (R282) -/

/-- A word of funct3 4 to 7 under GSV.RANGE: its opcode is not that of a CSR instruction. -/
theorem gsvRange_illegal (hf : 4 ≤ fld w 12 3) : exec (.gsvRange h p w) s = .next (s.withBlk (s.blk.trap h 2 w.toNat)) := by
  have hsys : fld w 0 7 ≠ 0x73 := by omega
  simp only [exec_gsvRange, execGsvRange, if_neg hsys]
  exact xgsv_illegal hr ho hf _ _ _

section Range

variable (hf : fld w 12 3 = 3) (h27 : fld w 27 5 = 0) (h25 : fld w 25 2 ≠ 0)
include hf h27 h25

theorem gsvRange_user (hp : p = .u) : exec (.gsvRange h p w) s = .next (s.withBlk (s.blk.trap h 2 w.toNat)) := by
  have hsys : fld w 0 7 ≠ 0x73 := by omega
  subst hp
  simp only [exec_gsvRange, execGsvRange, if_neg hsys]
  exact xgsv_body hr ho hf (by omega) (by simp [h27, h25]) _

theorem gsvRange_virtual (hp : p = .vs ∨ p = .vu) : exec (.gsvRange h p w) s = .next (s.withBlk (s.blk.trap h 22 w.toNat)) := by
  have hsys : fld w 0 7 ≠ 0x73 := by omega
  simp only [exec_gsvRange, execGsvRange, if_neg hsys]
  obtain rfl | rfl := hp <;> exact xgsv_body hr ho hf (by omega) (by simp [h27, h25]) _

theorem gsvRange_asks (hp : p ≠ .u) (hp' : p ≠ .vs) (hp'' : p ≠ .vu) {op : RangeOp} (hop : rangeOpOf (fld w 25 2) = some op) :
    exec (.gsvRange h p w) s = .next (s.withBlk (rangeAsked s.blk h w op)) := by
  have hsys : fld w 0 7 ≠ 0x73 := by omega
  simp only [exec_gsvRange, execGsvRange, if_neg hsys]
  rw [xgsv_body hr ho hf (by omega) (by simp [h27, h25])]
  cases p with
  | u => exact absurd rfl hp
  | vs => exact absurd rfl hp'
  | vu => exact absurd rfl hp''
  | m => simp only [hop]; rfl
  | hs => simp only [hop]; rfl

end Range

end Xgsv

/-- Each nonzero code of two bits is an operation (R264). -/
theorem rangeOpOf_some {n : Nat} (h0 : n ≠ 0) (h4 : n < 4) : ∃ op, rangeOpOf n = some op := by
  obtain rfl | rfl | rfl : n = 1 ∨ n = 2 ∨ n = 3 := by omega
  · exact ⟨_, rfl⟩
  · exact ⟨_, rfl⟩
  · exact ⟨_, rfl⟩

section RangeAsked

variable {b : Block} {h : Nat} {w : W32} {op : RangeOp}

theorem rangeAsked_bad (hb : b.rangeGood (hartAsk b h w op).base (hartAsk b h w op).length = false ∨
    b.wordGood (hartAsk b h w op).completion = false) : rangeAsked b h w op = b.setX h (fld w 7 5) 2 := by
  simp only [rangeAsked]
  rw [if_pos (by simpa using hb)]

variable (hg : b.rangeGood (hartAsk b h w op).base (hartAsk b h w op).length = true)
  (hw : b.wordGood (hartAsk b h w op).completion = true)
include hg hw

theorem rangeAsked_full (hn : 32 ≤ ((b.tile 4).asks.filter (fun (x : RangeAsk) => x.slot == none)).length) :
    rangeAsked b h w op = b.setX h (fld w 7 5) 1 := by
  simp only [rangeAsked, hg, hw, Bool.not_true, Bool.false_eq_true, or_self, if_false, if_pos hn]

theorem rangeAsked_taken (hn : ((b.tile 4).asks.filter (fun (x : RangeAsk) => x.slot == none)).length < 32) :
    rangeAsked b h w op = (b.updTile 4 (fun z => { z with asks := z.asks ++ [hartAsk b h w op] })).setX h (fld w 7 5) 0 := by
  simp only [rangeAsked, hg, hw, Bool.not_true, Bool.false_eq_true, or_self, if_false, if_neg (Nat.not_le.mpr hn)]

end RangeAsked

/-- An ask that is taken stands last at the door of T4; rd reads 0 and nothing else of the hart changes. -/
theorem setX_ask (b : Block) (h rd : Nat) (a : RangeAsk) :
    let c := (b.updTile 4 (fun z => { z with asks := z.asks ++ [a] })).setX h rd 0
    (c.tile 4).asks = (b.tile 4).asks ++ [a] ∧ c.kreg h rd = 0 ∧ (∀ q, q ≠ rd → c.kreg h q = b.kreg h q) ∧ c.mem = b.mem ∧
      c.lines = b.lines := by
  intro c
  obtain ⟨htiles, hmem, hlines⟩ := setX_frame (b.updTile 4 (fun z => { z with asks := z.asks ++ [a] })) h rd 0
  refine ⟨?_, kreg_setX_cleared _ h rd, fun q hq => kreg_setX_ne _ h hq 0, hmem, hlines⟩
  have ht : c.tile 4 = (b.updTile 4 (fun z => { z with asks := z.asks ++ [a] })).tile 4 := congrArg (fun t => tget ({} : Tile) t 4) htiles
  rw [ht, Block.updTile_eq, Block.setTile_tile]

/-- Settles O38: a CSR instruction by privilege, then the four functions of the custom opcode, each on its reserved fields zero. -/
theorem keeperExtension : Obligations.KeeperExtension := by
  unfold Obligations.KeeperExtension
  intro s h p w hr
  refine ⟨fun ho hc hf => ⟨csr_user hr ho hc hf, csr_virtual hr ho hc hf, fun hp => ⟨fun hw => ?_, fun h1 h0 => ?_⟩⟩,
    fun ho => ⟨fun hf => ⟨xgsv_illegal hr ho hf _ _ _, xgsv_illegal hr ho hf _ _ _, xgsv_illegal hr ho hf _ _ _, gsvRange_illegal hr ho hf⟩,
      fun hf h7 h15 h22 hsc => ⟨gsvFence_narrow hr ho hf h7 h15 h22 hsc, fun hio => ?_, gsvFence_posted hr ho hf h7 h15 h22 hsc,
        fun hs => gsvFence_unposted hr ho hf h7 h15 h22 hsc (fun _ => hs)⟩,
      fun hf h20 h28 => ⟨fun hm => ?_, fun hm => ?_⟩, fun hf h7 h27 => ⟨fun hm => ?_, fun hm => ?_⟩,
      fun hf h27 h25 => ⟨gsvRange_user hr ho hf h27 h25, gsvRange_virtual hr ho hf h27 h25, fun hp hp' hp'' => ?range⟩⟩⟩
  · rw [csr_privileged hr ho hc hf hp, if_pos hw]
    rfl
  · rw [csr_privileged hr ho hc hf hp, if_neg (by tauto)]
  · exact gsvFence_unposted hr ho hf h7 h15 h22 hsc (fun ht => absurd (hio.symm.trans ht) Bool.false_ne_true)
      (by simp only [Bool.or_eq_false_iff] at hio; exact hio.1.2)
  · rw [gsvLdAq_eq hr ho hf h20 h28, if_pos hm]
  · rw [gsvLdAq_eq hr ho hf h20 h28, if_neg (not_not.mpr hm)]
  · rw [gsvSdRl_eq hr ho hf h7 h27, if_pos hm]
  · rw [gsvSdRl_eq hr ho hf h7 h27, if_neg (not_not.mpr hm)]
  case range =>
    have hask {op : RangeOp} (hop : rangeOpOf (fld w 25 2) = some op) := gsvRange_asks hr ho hf h27 h25 hp hp' hp'' hop
    obtain ⟨op, hop⟩ := rangeOpOf_some h25 (fld_lt w 25 2)
    refine ⟨fun hb => ?_, fun hg hw => ⟨fun hn => ?_, fun op' hn hop' => ?_⟩⟩
    · rw [hask hop, rangeAsked_bad hb]
    · rw [hask hop, rangeAsked_full hg hw hn]
    · refine .of_exec (hask hop') ?_
      rw [rangeAsked_taken hg hw hn]
      exact setX_ask s.blk h (fld w 7 5) _

end Sys2Proof

/-! PROOFS. Starts and stops of the module (R311, R312, R329 to R341, R404): when a cold start runs and what its first step leaves, when
the main rails start, DARK and WARM, and the loss of the hub. -/

namespace Sys2Proof

open Sys2Proof.Machine

theorem exec_coldStart (k : Nat) (i : ColdIn) (s : State) : exec (.coldStart k i) s = execColdStart k i s := rfl
theorem exec_hubRomRetry (i : ColdIn) (s : State) : exec (.hubRomRetry i) s = execHubRomRetry i s := rfl
theorem exec_mainRailsStart (i : RailsIn) (s : State) : exec (.mainRailsStart i) s = execMainRailsStart i s := rfl
theorem exec_warm (role : Role) (i : RailsIn) (c : ColdIn) (s : State) : exec (.warm role i c) s = execWarm role i c s := rfl
theorem exec_dark (role : Role) (s : State) : exec (.dark role) s = execDark role s := rfl
theorem exec_hubLost (s : State) : exec .hubLost s = execHubLost s := rfl

variable {s : State}

/-! ### Cold start (R311, R312, R329, R330, R339) -/

/-- Below 40.5 V nothing starts. -/
theorem coldStart_low {i : ColdIn} (h : i.inputMv < 40500) : exec (.coldStart 0 i) s = .next s := by
  simp only [exec_coldStart, execColdStart, State.run_eq, if_true, if_pos h]

section Power

variable {i : ColdIn} (h : 40500 ≤ i.inputMv)
include h

theorem coldStart_fromDark (hd : s.blk.start.level = .dark) :
    exec (.coldStart 0 i) s = .next (s.withBlk (s.blk.standbyUp.coldSteps 0 i)) := by
  simp only [exec_coldStart, execColdStart, State.run_eq, if_true, if_neg (Nat.not_lt.mpr h), if_pos hd]

/-- Power that comes up above DARK had been lost: an abrupt reset comes first (R312). -/
theorem coldStart_afterLoss (hd : s.blk.start.level ≠ .dark) :
    exec (.coldStart 0 i) s = .next (s.withBlk (s.blk.abruptReset.standbyUp.coldSteps 0 i)) := by
  simp only [exec_coldStart, execColdStart, State.run_eq, if_true, if_neg (Nat.not_lt.mpr h), if_neg hd]

end Power

/-- A store write that waited changes the store and the measurements only. -/
theorem settleStore_start (b : Block) : b.settleStore.start = b.start := by
  unfold Block.settleStore
  split <;> rfl

/-- A start whose first step fails stays where it is, to be tried again. -/
theorem coldSteps_pufBad {i : ColdIn} (hp : i.pufOk = false) (b : Block) (k : Nat) :
    (b.coldSteps k i).start.level = b.start.level ∧ (b.coldSteps k i).start.retry = true ∧ (b.coldSteps k i).start.failStep = 1 := by
  simp only [Block.coldSteps, hp, Bool.not_false, if_true]
  exact ⟨by simp only [Block.updStart, Block.startFail, settleStore_start], rfl, rfl⟩

theorem coldStart_pufBad {i : ColdIn} (h : 40500 ≤ i.inputMv) (hp : i.pufOk = false) : Completes (.coldStart 0 i) s (fun t =>
    t.blk.start.level = .dark ∧ t.blk.start.retry = true ∧ t.blk.start.failStep = 1) := by
  by_cases hd : s.blk.start.level = .dark
  · obtain ⟨hl, hr, hf⟩ := coldSteps_pufBad hp s.blk.standbyUp 0
    exact .of_exec (coldStart_fromDark h hd) ⟨hl.trans hd, hr, hf⟩
  · obtain ⟨hl, hr, hf⟩ := coldSteps_pufBad hp s.blk.abruptReset.standbyUp 0
    have hdark : s.blk.abruptReset.standbyUp.start.level = .dark := rfl
    exact .of_exec (coldStart_afterLoss h hd) ⟨hl.trans hdark, hr, hf⟩

/-- A start after a reset runs where the reset woke the module. -/
theorem coldStart_reset (hd : s.blk.start.level = .dark) (hw : s.blk.start.woken = true) (i : ColdIn) :
    exec (.coldStart 1 i) s = .next (s.withBlk (s.blk.coldSteps 1 i)) := by
  simp [exec_coldStart, execColdStart, hd, hw]

theorem coldStart_notAsked (h : s.blk.start.level ≠ .dark ∨ s.blk.start.woken = false) (i : ColdIn) :
    exec (.coldStart 1 i) s = .next s := by
  simp only [exec_coldStart, execColdStart, State.run_eq, Nat.one_ne_zero, if_false]
  rw [if_pos (by tauto)]

theorem hubRomRetry_runs (hd : s.blk.start.level = .dark) (hr : s.blk.start.retry = true) (i : ColdIn) :
    exec (.hubRomRetry i) s = .next (s.withBlk (s.blk.coldSteps s.blk.start.kind i)) := by
  simp only [exec_hubRomRetry, execHubRomRetry, State.run_eq, if_pos (And.intro hd hr)]

theorem hubRomRetry_idle (h : s.blk.start.level ≠ .dark ∨ s.blk.start.retry = false) (i : ColdIn) :
    exec (.hubRomRetry i) s = .next s := by
  simp only [exec_hubRomRetry, execHubRomRetry, State.run_eq]
  rw [if_neg (fun hn => h.elim (fun hd => hd hn.1) (fun hr => by simp [hr] at hn))]

/-! ### Main rails (R317, R333) -/

theorem mainRailsStart_on (h : s.blk.tray.rails = true) (i : RailsIn) : exec (.mainRailsStart i) s = .next s := by
  simp only [exec_mainRailsStart, execMainRailsStart, State.run_eq, h, if_true]

/-- The block that has taken the filtered tray signals. -/
def traySeen (b : Block) (i : RailsIn) : Block := { b with tray := { b.tray with flowOk := i.flowOk, pwrOk := i.pwrOk } }

/-- What MAIN_RAILS_START does at TENDED with the tray signals taken (R333). -/
def tendedStart (c : Block) (i : RailsIn) : Block :=
  match c.railsHeld with
  | some n =>
    if c.start.heldRaised then c else (c.raise unitModule .startHeld [n]).updStart (fun x => { x with heldRaised := true })
  | none => (c.updStart (fun x => { x with heldRaised := false })).railSteps i true

section Rails

variable (hoff : s.blk.tray.rails = false) {i : RailsIn}
include hoff

theorem mainRailsStart_notTended (h : s.blk.start.level ≠ .tended ∨ s.blk.start.stuck = true) :
    exec (.mainRailsStart i) s = .next (s.withBlk (traySeen s.blk i)) := by
  simp only [exec_mainRailsStart, execMainRailsStart, State.run_eq, hoff, Bool.false_eq_true, if_false, if_pos h, traySeen]

variable (ht : s.blk.start.level = .tended) (hs : s.blk.start.stuck = false)
include ht hs

theorem mainRailsStart_tended : exec (.mainRailsStart i) s = .next (s.withBlk (tendedStart (traySeen s.blk i) i)) := by
  have hgoes : ¬(s.blk.start.level ≠ .tended ∨ s.blk.start.stuck = true) := by simp [ht, hs]
  simp only [exec_mainRailsStart, execMainRailsStart, State.run_eq, if_neg hgoes]
  rw [if_neg (by rw [hoff]; exact Bool.false_ne_true)]
  rfl

theorem mainRailsStart_held {n : Nat} (hn : (traySeen s.blk i).railsHeld = some n) (hh : (traySeen s.blk i).start.heldRaised = false) :
    exec (.mainRailsStart i) s = .next (s.withBlk
      (((traySeen s.blk i).raise unitModule .startHeld [n]).updStart (fun x => { x with heldRaised := true }))) := by
  simp only [mainRailsStart_tended hoff ht hs, tendedStart, hn, hh, Bool.false_eq_true, if_false]

theorem mainRailsStart_heldAgain {n : Nat} (hn : (traySeen s.blk i).railsHeld = some n)
    (hh : (traySeen s.blk i).start.heldRaised = true) : exec (.mainRailsStart i) s = .next (s.withBlk (traySeen s.blk i)) := by
  simp only [mainRailsStart_tended hoff ht hs, tendedStart, hn, hh, if_true]

theorem mainRailsStart_starts (hn : (traySeen s.blk i).railsHeld = none) : exec (.mainRailsStart i) s = .next (s.withBlk
    (((traySeen s.blk i).updStart (fun x => { x with heldRaised := false })).railSteps i true)) := by
  simp only [mainRailsStart_tended hoff ht hs, tendedStart, hn]

end Rails

/-- Rails that do not come up are off again; the start is stuck at step 5, with bit 15 of AlertCauses (R339). -/
theorem railSteps_railFail {i : RailsIn} (h : i.railsOk = false) (b : Block) (scan : Bool) :
    (b.railSteps i scan).start.stuck = true ∧ (b.railSteps i scan).start.failStep = 5 ∧ (b.railSteps i scan).tray.rails = false ∧
      (b.railSteps i scan).alert 15 = true := by
  simp only [Block.railSteps, h, Bool.not_false, if_true, Block.stuckAt]
  exact ⟨rfl, rfl, by simp [Block.startFail, Block.updStart, Block.setAlert], setAlert_alert _ (by decide)⟩

/-! ### DARK, WARM and the loss of the hub (R340, R341, R404) -/

section Commands

variable {role : Role} (ha : Admits s.blk role .operator 0x02)
include ha

section Busy

variable (hb : s.blk.startRuns = true)
include hb

theorem dark_busy : exec (.dark role) s = .next (s.withBlk (s.blk.refuse .busy)) := by
  simp only [exec_dark, execDark, State.run_eq, ha.cmd, hb, if_true]

theorem warm_busy (i : RailsIn) (c : ColdIn) : exec (.warm role i c) s = .next (s.withBlk (s.blk.refuse .busy)) := by
  simp only [exec_warm, execWarm, State.run_eq, ha.cmd, hb, if_true]

end Busy

variable (hb : s.blk.startRuns = false)
include hb

/-- A DARK that is accepted ends with the rails off: no unit keeps its state, no session stands, and the reply stays. -/
theorem dark_accepted : Completes (.dark role) s (fun t => t.blk.start.level = .dark ∧ t.blk.tray.rails = false ∧
    t.blk.contexts = [] ∧ t.blk.hws = [] ∧ t.blk.mem = [] ∧ t.blk.sessions = [] ∧ t.blk.cmds.reply.status = .accepted) := by
  simp only [Completes, exec_dark, execDark, State.run_eq, ha.cmd, hb, Bool.false_eq_true, if_false]
  exact ⟨_, rfl, rfl, rfl, rfl, rfl, rfl, rfl, rfl⟩

theorem warm_accepted (i : RailsIn) (c : ColdIn) : Completes (.warm role i c) s (fun t => t.blk.cmds.reply.status = .accepted) := by
  simp only [Completes, exec_warm, execWarm, State.run_eq, ha.cmd, hb, Bool.false_eq_true, if_false]
  exact ⟨_, rfl, rfl⟩

end Commands

theorem hubLost_resets (h : s.blk.start.level ≠ .dark) : Completes .hubLost s (fun t => t.blk.start.level = .dark ∧
    t.blk.start.hubLost = true ∧ t.blk.tray.rails = false ∧ t.blk.mem = []) := by
  simp only [Completes, exec_hubLost, execHubLost, State.run_eq, if_neg h]
  exact ⟨_, rfl, rfl, rfl, rfl, rfl⟩

theorem hubLost_dark (h : s.blk.start.level = .dark) : exec .hubLost s = .next s := by
  simp only [exec_hubLost, execHubLost, State.run_eq, if_pos h]

/-- Settles O48: each start by the conditions under which it runs, the stops by the state that they leave. -/
theorem starts : Obligations.Starts := by
  unfold Obligations.Starts
  intro s b
  refine ⟨fun i => coldStart_low, fun i h => ⟨coldStart_fromDark h, coldStart_afterLoss h, coldStart_pufBad h⟩,
    fun i => ⟨fun hd hw => coldStart_reset hd hw i, fun h => coldStart_notAsked h i, fun hd hr => hubRomRetry_runs hd hr i,
      fun h => hubRomRetry_idle h i⟩,
    mainRailsStart_on, fun hoff i => ⟨mainRailsStart_notTended hoff, fun ht hs => ⟨fun n => mainRailsStart_held hoff ht hs,
      fun n => mainRailsStart_heldAgain hoff ht hs, mainRailsStart_starts hoff ht hs, fun hn hr =>
        .of_exec (mainRailsStart_starts hoff ht hs hn) (railSteps_railFail hr _ _)⟩⟩,
    fun role i c ha hb => ⟨dark_busy ha hb, warm_busy ha hb i c⟩, fun role => dark_accepted, fun role i c ha hb => warm_accepted ha hb i c,
    hubLost_resets, hubLost_dark⟩

end Sys2Proof

/-! PROOFS. Control of an Ethernet port (R294, R302, R303, R403): ENABLE, the reset, hangs, and the reload of table entries. -/

namespace Sys2Proof

open Sys2Proof.Machine

theorem exec_portEnable (p : Nat) (on : Bool) (s : State) : exec (.portEnable p on) s = execPortEnable p on s := rfl
theorem exec_portReset (r : PortResetReq) (s : State) : exec (.portReset r) s = execPortReset r s := rfl
theorem exec_portHang (p : Nat) (s : State) : exec (.portHang p) s = execPortHang p s := rfl
theorem exec_portHeartbeatLost (p : Nat) (s : State) : exec (.portHeartbeatLost p) s = execPortHeartbeatLost p s := rfl
theorem exec_reloadQp (p i : Nat) (s : State) : exec (.reloadQp p i) s = execReloadQp p i s := rfl
theorem exec_reloadCq (p i : Nat) (s : State) : exec (.reloadCq p i) s = execReloadCq p i s := rfl
theorem exec_reloadMr (p i : Nat) (s : State) : exec (.reloadMr p i) s = execReloadMr p i s := rfl
theorem exec_reloadPostRing (p i : Nat) (s : State) : exec (.reloadPostRing p i) s = execReloadPostRing p i s := rfl
theorem exec_reloadEthQueue (p i : Nat) (s : State) : exec (.reloadEthQueue p i) s = execReloadEthQueue p i s := rfl

/-! ### Entries of a table that change in place -/

/-- A table whose entries of one key change, every one of them. -/
def tchange {α : Type} (t : Tab α) (i : Nat) (f : α → α) : Tab α := t.map (fun e => if e.1 = i then (e.1, f e.2) else e)

theorem tget_tchange_same {α : Type} (d : α) (t : Tab α) (i : Nat) (f : α → α) :
    tget d (tchange t i f) i = f (tget d t i) ∨ tget d (tchange t i f) i = d := by
  induction t with
  | nil => exact .inr rfl
  | cons e t ih =>
    obtain ⟨k, v⟩ := e
    by_cases hk : k = i
    · exact .inl (by simp [tchange, tget, hk])
    · simpa [tchange, tget, hk] using ih

theorem tget_tchange_ne {α : Type} (d : α) (t : Tab α) {i j : Nat} (hj : j ≠ i) (f : α → α) : tget d (tchange t i f) j = tget d t j := by
  induction t with
  | nil => rfl
  | cons e t ih =>
    obtain ⟨k, v⟩ := e
    by_cases hk : k = i
    · have hne : i ≠ j := fun h => hj h.symm
      simpa [tchange, tget, hk, hne] using ih
    · by_cases hkj : k = j
      · simp [tchange, tget, hkj, hj]
      · simpa [tchange, tget, hk, hkj] using ih

/-- The copy of an entry that is dropped in every record of the key is gone. -/
theorem copy_dropped (t : Tab PortQueue) (i : Nat) :
    (tget {} (tchange t i (fun q => { q with copy := none })) i).copy = none := by
  rcases tget_tchange_same {} t i (fun q : PortQueue => { q with copy := none }) with h | h <;> rw [h]

theorem cqCopy_dropped (t : Tab Cq) (i : Nat) : (tget {} (tchange t i (fun q => { q with copy := none })) i).copy = none := by
  rcases tget_tchange_same {} t i (fun q : Cq => { q with copy := none }) with h | h <;> rw [h]

/-- Dropping the copies of a queue keeps its counts. -/
theorem sqProd_kept (t : Tab PortQueue) (i : Nat) :
    (tget {} (tchange t i (fun q => { q with copy := none })) i).sqProd = (tget {} t i).sqProd := by
  induction t with
  | nil => rfl
  | cons e t ih =>
    obtain ⟨k, v⟩ := e
    by_cases hk : k = i
    · simp [tchange, tget, hk]
    · simpa [tchange, tget, hk] using ih

section Port

variable {s : State} {p : Nat} (hp : p < 2) (hon : s.blk.tray.rails = true)

/-! ### Reload (R294) -/

section Reload

include hp hon

/-- A fitted port whose rails are on takes its register writes. -/
theorem port_takes : ¬(2 ≤ p ∨ (!s.blk.tray.rails) = true) := by
  rw [hon]
  simpa using hp

theorem reloadMr_drops (i : Nat) : exec (.reloadMr p i) s = .next (s.withBlk (s.blk.updPort p (fun y => { y with mrs := tdel y.mrs i }))) := by
  simp only [exec_reloadMr, execReloadMr, State.run_eq, if_neg (port_takes hp hon), Block.portReload]

theorem reloadPostRing_again {i : Nat} (hi : i < 64) : exec (.reloadPostRing p i) s = .next (s.withBlk
    (let c := s.blk.dropPost p i; if c.portOn p then c.loadPost p i else c)) := by
  simp only [exec_reloadPostRing, execReloadPostRing, State.run_eq, if_neg (port_takes hp hon), Block.portReload,
    if_neg (Nat.not_le.mpr hi)]

theorem reloadQp_drops {i : Nat} (hi : i < 16384) : exec (.reloadQp p i) s = .next (s.withBlk (s.blk.updPort p (fun x =>
    { x with qps := tchange x.qps i (fun q => { q with copy := none }) }))) := by
  simp only [exec_reloadQp, execReloadQp, State.run_eq, if_neg (port_takes hp hon), Block.portReload, if_neg (Nat.not_le.mpr hi), tchange]

theorem reloadCq_drops {i : Nat} (hi : i < 4096) : exec (.reloadCq p i) s = .next (s.withBlk (s.blk.updPort p (fun x =>
    { x with cqs := tchange x.cqs i (fun q => { q with copy := none }) }))) := by
  simp only [exec_reloadCq, execReloadCq, State.run_eq, if_neg (port_takes hp hon), Block.portReload, if_neg (Nat.not_le.mpr hi), tchange]

theorem reloadEthQueue_drops {i : Nat} (hi : i < 256) : exec (.reloadEthQueue p i) s = .next (s.withBlk (s.blk.updPort p (fun x =>
    { x with eths := tchange x.eths i (fun q => { q with copy := none }) }))) := by
  simp only [exec_reloadEthQueue, execReloadEthQueue, State.run_eq, if_neg (port_takes hp hon), Block.portReload,
    if_neg (Nat.not_le.mpr hi), tchange]

end Reload

/-- The queues that a port holds in a table of its own. -/
theorem pq_setPort (b : Block) (p : Nat) (eth : Bool) (x : Port) (i : Nat) :
    (b.setPort p x).pq p eth i = if eth then tget {} x.eths i else tget {} x.qps i := by
  simp only [Block.pq, Block.setPort_port]

theorem reloadQp_completes (b : Block) (i : Nat) :
    let c := b.updPort p (fun x => { x with qps := tchange x.qps i (fun q => { q with copy := none }) })
    ((c.pq p false i).copy = none ∧ (c.pq p false i).sqProd = (b.pq p false i).sqProd ∧ ∀ j, j ≠ i → c.pq p false j = b.pq p false j) ∧
      c.mem = b.mem := by
  intro c
  simp only [c, Block.updPort_eq, pq_setPort, Bool.false_eq_true, if_false]
  exact ⟨⟨copy_dropped .., sqProd_kept .., fun j hj => tget_tchange_ne _ _ hj _⟩, rfl⟩

theorem reloadEthQueue_completes (b : Block) (i : Nat) :
    let c := b.updPort p (fun x => { x with eths := tchange x.eths i (fun q => { q with copy := none }) })
    (c.pq p true i).copy = none ∧ (∀ j, j ≠ i → c.pq p true j = b.pq p true j) ∧ c.mem = b.mem := by
  intro c
  simp only [c, Block.updPort_eq, pq_setPort, if_true]
  exact ⟨copy_dropped .., fun j hj => tget_tchange_ne _ _ hj _, rfl⟩

/-! ### ENABLE (R294) -/

/-- An engine that is switched on with every ring already in its table reads none. -/
theorem loadPosts_held {c : Block} (h : ∀ i, i < 64 → thas (c.port p).rings i = true) :
    (List.range 64).foldl (fun (a : Block) i => if thas (a.port p).rings i then a else a.loadPost p i) c = c :=
  List.foldlRecOn (motive := fun a : Block => a = c) _ _ rfl (fun a ha i hi => by
    rw [ha, if_pos (h i (List.mem_range.mp hi))])

theorem setEnable_held {b : Block} (h : ∀ i, i < 64 → thas (b.port p).rings i = true) :
    b.setEnable p true = b.updPort p (fun x => { x with enable := true }) := by
  have hrings (i : Nat) (hi : i < 64) : thas ((b.updPort p (fun x => { x with enable := true })).port p).rings i = true := by
    simpa using h i hi
  simp only [Block.setEnable, loadPosts_held hrings, ite_self]

section Enable

include hp hon

theorem portEnable_off : exec (.portEnable p false) s = .next (s.withBlk (s.blk.updPort p (fun y => { y with enable := false }))) := by
  simp only [exec_portEnable, execPortEnable, State.run_eq, if_neg (port_takes hp hon), Block.setEnable, Bool.false_and,
    Bool.false_eq_true, if_false]

/-- An engine that runs goes on as it is. -/
theorem portEnable_again (he : (s.blk.port p).enable = true) :
    exec (.portEnable p true) s = .next (s.withBlk (s.blk.updPort p (fun y => { y with enable := true }))) := by
  simp only [exec_portEnable, execPortEnable, State.run_eq, if_neg (port_takes hp hon), Block.setEnable, he, Bool.not_true,
    Bool.and_false, Bool.false_and, Bool.false_eq_true, if_false]

theorem portEnable_held (h : ∀ i, i < 64 → thas (s.blk.port p).rings i = true) :
    exec (.portEnable p true) s = .next (s.withBlk (s.blk.updPort p (fun x => { x with enable := true }))) := by
  simp only [exec_portEnable, execPortEnable, State.run_eq, if_neg (port_takes hp hon), setEnable_held h]

end Enable

/-! ### Reset (R302) -/

/-- Dropping a ring changes the port's rings and the watch of a header line. -/
theorem dropPost_frame (b : Block) (i : Nat) : (b.dropPost p i).mem = b.mem ∧ (b.dropPost p i).hws = b.hws ∧
    ((b.dropPost p i).port p).resets = (b.port p).resets := by
  have hput : ((b.updPort p (fun y => { y with rings := tdel y.rings i })).port p).resets = (b.port p).resets := by simp
  unfold Block.dropPost
  dsimp only
  split
  · exact ⟨rfl, rfl, hput⟩
  · split
    · exact ⟨rfl, rfl, hput⟩
    · exact ⟨rfl, rfl, hput⟩

theorem dropPosts_frame (l : List Nat) (b : Block) : (l.foldl (fun (c : Block) i => c.dropPost p i) b).mem = b.mem ∧
    (l.foldl (fun (c : Block) i => c.dropPost p i) b).hws = b.hws ∧
    ((l.foldl (fun (c : Block) i => c.dropPost p i) b).port p).resets = (b.port p).resets :=
  List.foldlRecOn (motive := fun c : Block => c.mem = b.mem ∧ c.hws = b.hws ∧ (c.port p).resets = (b.port p).resets) _ _ ⟨rfl, rfl, rfl⟩
    (fun c hc i _ => by
      obtain ⟨hmem, hhws, hresets⟩ := hc
      obtain ⟨hmem', hhws', hresets'⟩ := dropPost_frame (p := p) c i
      exact ⟨hmem'.trans hmem, hhws'.trans hhws, hresets'.trans hresets⟩)

/-- The record of a port that was reset: what it has counted and what it owes stay. -/
def portAfterReset (mode : Nat) (x : Port) : Port :=
  { mode := mode, resets := x.resets + 1, wire := x.wire, owed := x.owed, fecBad := x.fecBad, dropped := x.dropped }

/-- A port that holds no queue has nothing to flush: its record is that of a reset port. -/
theorem resetPort_empty {b : Block} (hq : (b.port p).qps = []) (he : (b.port p).eths = []) :
    (∃ x, x.resets = (b.port p).resets ∧ (b.resetPort p).port p = portAfterReset (b.cfg (objPort p 1) 0 % 4) x) ∧
      (b.resetPort p).mem = b.mem ∧ (b.resetPort p).hws = b.hws := by
  obtain ⟨hmem, hhws, hresets⟩ := dropPosts_frame (p := p) ((b.port p).rings.map Prod.fst) b
  unfold Block.resetPort
  simp only [Block.knownQps, hq, he, List.map_nil, List.foldl_nil]
  generalize ((b.port p).rings.map Prod.fst).foldl (fun (c : Block) i => c.dropPost p i) b = c at hmem hhws hresets ⊢
  have hput : (c.setPort p (portAfterReset (b.cfg (objPort p 1) 0 % 4) (c.port p))).port p =
    portAfterReset (b.cfg (objPort p 1) 0 % 4) (c.port p) := Block.setPort_port ..
  split
  · exact ⟨⟨c.port p, hresets, hput⟩, hmem, hhws⟩
  · simp only [Block.wire_frame]
    exact ⟨⟨c.port p, hresets, hput⟩, hmem, hhws⟩

section Reset

section Running

variable (hr : (s.blk.port p).resetting = false)
include hp hon hr

theorem portReset_register : exec (.portReset { port := p, role := none }) s = .next (s.withBlk (s.blk.resetPort p)) := by
  simp only [exec_portReset, execPortReset, State.run_eq, hon, hr]
  rw [if_neg (by simpa using hp)]

theorem portReset_command {role : Role} (ha : Admits s.blk role .operator 0x50) :
    exec (.portReset { port := p, role := some role }) s = .next (s.withBlk ((s.blk.resetPort p).done (objPort p 4) 0)) := by
  simp only [exec_portReset, execPortReset, State.run_eq, ha.cmd, hon, hr, if_neg (Nat.not_le.mpr hp), Bool.not_true,
    Bool.false_eq_true, if_false]

theorem portHeartbeatLost_resets : exec (.portHeartbeatLost p) s = .next (s.withBlk
    ((s.blk.record (unitPort p) .portHang [p] (errRec 3 0x14 p)).resetPort p)) := by
  simp only [exec_portHeartbeatLost, execPortHeartbeatLost, State.run_eq, hon, hr]
  rw [if_neg (by simpa using hp)]

end Running

variable (hr : (s.blk.port p).resetting = true)
include hr

theorem portReset_registerBusy : exec (.portReset { port := p, role := none }) s = .next s := by
  simp only [exec_portReset, execPortReset, State.run_eq, hr, or_true, if_true]

theorem portHeartbeatLost_resetting : exec (.portHeartbeatLost p) s = .next s := by
  simp only [exec_portHeartbeatLost, execPortHeartbeatLost, State.run_eq, hr, or_true, if_true]

include hp hon in
theorem portReset_commandBusy {role : Role} (ha : Admits s.blk role .operator 0x50) :
    exec (.portReset { port := p, role := some role }) s = .next (s.withBlk (s.blk.refuse .busy)) := by
  simp only [exec_portReset, execPortReset, State.run_eq, ha.cmd, hon, hr, if_neg (Nat.not_le.mpr hp), Bool.not_true,
    Bool.false_eq_true, if_false, if_true]

end Reset

/-! ### Hangs (R302) -/

theorem portHang_working (hon : s.blk.portOn p = true) (hw : ∃ e ∈ (s.blk.port p).qps, e.2.busy = true) :
    exec (.portHang p) s = .next (s.withBlk ((s.blk.record (unitPort p) .portHang [p] (errRec 3 0x14 p)).resetPort p)) := by
  have hany : (s.blk.port p).qps.any (fun (e : Nat × PortQueue) => e.2.busy) = true := List.any_eq_true.mpr hw
  simp [exec_portHang, execPortHang, hon, hany]

/-- An engine without work cannot hang. -/
theorem portHang_idle (hq : ∀ e ∈ (s.blk.port p).qps, e.2.busy = false) (he : ∀ e ∈ (s.blk.port p).eths, e.2.busy = false)
    (hr : ∀ e ∈ (s.blk.port p).rings, s.blk.ringBusy e.2 = false) : exec (.portHang p) s = .next s := by
  have hqs : (s.blk.port p).qps.any (fun (e : Nat × PortQueue) => e.2.busy) = false := List.any_eq_false.mpr (by simpa using hq)
  have hes : (s.blk.port p).eths.any (fun (e : Nat × PortQueue) => e.2.busy) = false := List.any_eq_false.mpr (by simpa using he)
  have hrs : (s.blk.port p).rings.any (fun (e : Nat × PostRing) => s.blk.ringBusy e.2) = false := List.any_eq_false.mpr (by simpa using hr)
  simp only [exec_portHang, execPortHang, State.run_eq, hqs, hes, hrs, Bool.or_self, Bool.not_false, or_true, if_true]

end Port

/-- Where the objects of a port stand in the light list. -/
theorem objPort_eq (p item : Nat) : objPort p item = 0x50000000 + item + p * 0x1000 := by
  unfold objPort
  omega

/-- Settles O40: what a register write or a command does to the port's record, by the state of the engine. -/
theorem portControl : Obligations.PortControl := by
  unfold Obligations.PortControl
  intro s p hp hon b x
  refine ⟨fun i => ⟨portEnable_off hp hon, reloadMr_drops hp hon i, fun hi => .of_exec (reloadQp_drops hp hon hi) (reloadQp_completes b i),
      fun hi => .of_exec (reloadCq_drops hp hon hi) ⟨?_, rfl⟩,
      fun hi => .of_exec (reloadEthQueue_drops hp hon hi) (reloadEthQueue_completes b i), reloadPostRing_again hp hon⟩,
    portEnable_again hp hon, fun he hr hh => .of_exec (portEnable_held hp hon hh) ⟨?_, ?_, rfl, rfl⟩,
    fun hr hq he => .of_exec (portReset_register hp hon hr) ?_,
    fun role ha => ⟨fun hr => ?_, fun hr => portReset_commandBusy hp hon hr ha⟩,
    fun hr => ⟨portReset_register hp hon hr, portHeartbeatLost_resets hp hon hr⟩,
    fun hr => ⟨portReset_registerBusy hr, portHeartbeatLost_resetting hr⟩, portHang_working, portHang_idle⟩
  · simp only [Block.updPort_eq, Block.setPort_port]
    exact cqCopy_dropped ..
  · simp
  · simp [x, b]
  · obtain ⟨⟨y, hy, hport⟩, hmem, hhws⟩ := resetPort_empty hq he
    dsimp only
    rw [show (s.withBlk (s.blk.resetPort p)).blk.port p = _ from hport]
    exact ⟨by rw [← objPort_eq p 1]; rfl, rfl, congrArg (· + 1) hy, rfl, rfl, rfl, rfl, hmem, hhws⟩
  · rw [← objPort_eq p 4]
    exact portReset_command hp hon hr ha

end Sys2Proof

/-! PROOFS. Posting of work to a port (R296) and what it sends (R292, R297, R299, R303): which entry of a ring is taken, and how the
head descriptor of an Ethernet queue or of a queue pair goes on. -/

namespace Sys2Proof

open Sys2Proof.Machine

theorem exec_ethSend (p i : Nat) (s : State) : exec (.ethSend p i) s = execEthSend p i s := rfl

/-- A command answers its block by any equal description of it. -/
theorem exec_answer {i : Instr} {s : State} {b c : Block} (hi : exec i s = .next (s.withBlk b)) (h : b = c) :
    exec i s = .next (s.withBlk c) := by
  rw [hi, h]

/-! ### Post rings (R296) -/

/-- The queues of a kind of post-ring entry. -/
def ringLimit (k : Nat) : Nat := if k = 0 ∨ k = 1 then 16384 else if k = 4 then 4096 else 256

/-- A ring past its entry. -/
def ringPassed (c : Block) (p i : Nat) (x : PostRing) : Block :=
  c.updPort p (fun y => { y with rings := tput y.rings i { x with pos := (x.pos + 1) % 2 ^ 32, notice := false } })

/-- An entry of a post ring is due and can be read: its word, and the block that the read leaves. -/
structure EntryDue (b : Block) (p i : Nat) (b1 : Block) (w : W64) : Prop where
  read : ∃ (e : Line) (tail v : Nat), (Machine.tget {} (b.port p).rings i).copy = some e ∧ bit e 127 = true ∧
    b.peek (fld e 0 52) 4 = some tail ∧ ahead32 tail (Machine.tget {} (b.port p).rings i).pos ≠ 0 ∧
    b.dmaWaits false (fld e 64 52 + 8 * ((Machine.tget {} (b.port p).rings i).pos % 2 ^ fld e 120 4)) 8 = false ∧
    b.dmaWord p (fld e 64 52 + 8 * ((Machine.tget {} (b.port p).rings i).pos % 2 ^ fld e 120 4)) 8 = (b1, some v) ∧
    w = BitVec.ofNat 64 v
  running : b.portOn p = true

section Posting

variable {b b1 : Block} {p i : Nat} {w : W64} (hd : EntryDue b p i b1 w)
include hd

/-- What is done with an entry that is due, by its KIND, its reserved bits and its queue. -/
theorem postTake_due (kind : Nat) (go : Block → Nat → Nat → Block) : b.postTake p i kind go =
    if 5 ≤ fld w 16 3 ∨ fld w 19 13 ≠ 0 ∨ ringLimit (fld w 16 3) ≤ fld w 0 16 then ringPassed b1 p i (Machine.tget {} (b.port p).rings i)
    else if fld w 16 3 ≠ kind then b
    else go (ringPassed b1 p i (Machine.tget {} (b.port p).rings i)) (fld w 0 16) (fld w 32 32) := by
  obtain ⟨⟨e, tail, v, hcopy, hvalid, hpeek, hahead, hwaits, hword, rfl⟩, hon⟩ := hd
  simp only [Block.postTake, hcopy, hon, hvalid, Bool.not_true, Bool.false_eq_true, or_self, if_false, hpeek, if_neg hahead, hwaits, hword,
    ringLimit, ringPassed]

/-- An entry that names no queue is passed over. -/
theorem postTake_passed (h : 5 ≤ fld w 16 3 ∨ fld w 19 13 ≠ 0) (kind : Nat) (go : Block → Nat → Nat → Block) :
    b.postTake p i kind go = ringPassed b1 p i (Machine.tget {} (b.port p).rings i) := by
  rw [postTake_due hd, if_pos (by tauto)]

variable (hr : fld w 19 13 = 0) {kind : Nat} (hq : fld w 0 16 < ringLimit (fld w 16 3))
include hr hq

/-- An entry of the row's KIND is taken. -/
theorem postTake_taken (hk : fld w 16 3 = kind) (h5 : kind < 5) (go : Block → Nat → Nat → Block) : b.postTake p i kind go =
    go (ringPassed b1 p i (Machine.tget {} (b.port p).rings i)) (fld w 0 16) (fld w 32 32) := by
  rw [postTake_due hd, if_neg (by omega), if_neg (not_not.mpr hk)]

/-- An entry of another KIND is left to its own row. -/
theorem postTake_other (h5 : fld w 16 3 < 5) (hk : fld w 16 3 ≠ kind) (go : Block → Nat → Nat → Block) : b.postTake p i kind go = b := by
  rw [postTake_due hd, if_neg (by omega), if_pos hk]

end Posting

/-! ### Ethernet frames (R292, R297, R303) -/

section Eth

variable {s : State} {p i : Nat} {b1 : Block} {h : Head} (hi : i < 256) (hh : ∀ go, s.blk.headDo p true i 1 [1] true go = go b1 h)

section Heads

include hi hh

/-- A queue or descriptor with a fault ends the descriptor with its status. -/
theorem ethSend_fault {st : WcSts} (hst : (ethErr (b1.port p).macs h.r).or (ethDescErr h.d) = some st) :
    exec (.ethSend p i) s = .next (s.withBlk (b1.headEnd p true i h st 0)) := by
  simp only [exec_ethSend, execEthSend, State.run_eq, if_neg (Nat.not_le.mpr hi), hh, hst]

variable (hok : (ethErr (b1.port p).macs h.r).or (ethDescErr h.d) = none)
include hok

theorem ethSend_linkDown (hu : (b1.port p).up (fld h.r 657 3) = false) :
    exec (.ethSend p i) s = .next (s.withBlk (b1.headEnd p true i h .linkDown 0)) := by
  simp only [exec_ethSend, execEthSend, State.run_eq, if_neg (Nat.not_le.mpr hi), hh, hok, hu, Bool.not_false, if_true]

variable (hu : (b1.port p).up (fld h.r 657 3) = true)
include hu

theorem ethSend_paused (hp : (b1.port p).pausedAt (fld h.r 657 3) (fld h.r 19 3) = true) :
    exec (.ethSend p i) s = .next (s.withBlk b1) := by
  simp only [exec_ethSend, execEthSend, State.run_eq, if_neg (Nat.not_le.mpr hi), hh, hok, hu, hp, Bool.not_true, Bool.false_eq_true, if_false, if_true]

/-- A frame that is not segmented is read whole, summed and tagged as asked, and put on the wire. -/
theorem ethSend_sends (hp : (b1.port p).pausedAt (fld h.r 657 3) (fld h.r 19 3) = false) (hseg : bit h.d 11 = false) {b2 : Block}
    {bs : List Byte} (hr : b1.bufRead p (fld h.d 128 32) (fld h.r 288 16) (fld h.d 64 64) (fld h.d 160 32) 0 = (b2, .ok bs)) :
    exec (.ethSend p i) s = .next (s.withBlk ((b2.wireOut p
      { mac := fld h.r 657 3, kind := 0, queue := i, op := 1, psn := 0, bytes := if bit h.d 10 then putSums bs else bs,
        vlan := if bit h.d 12 then some (fld h.d 32 16) else if bit h.r 656 then some (fld h.r 640 16) else none,
        hdr := { prio := fld h.r 19 3 } }).headEnd p true i h .ok bs.length)) := by
  simp only [exec_ethSend, execEthSend, State.run_eq, if_neg (Nat.not_le.mpr hi), hh, hok, hu, hp, hr, hseg, Bool.not_true, Bool.false_eq_true, if_false,
    List.foldl_cons, List.foldl_nil]

end Heads

end Eth

/-! ### RoCE requests (R297, R299, R303) -/

/-- The OP of a request's row, and whether the row takes an OP that the queue does not know. -/
def isRoceRow (p i : Nat) (c : Instr) (op : Nat) (any : Bool) : Prop :=
  c = .roceSend p i ∧ op = 2 ∧ any = true ∨ c = .sendImm p i ∧ op = 3 ∧ any = false ∨ c = .roceWrite p i ∧ op = 4 ∧ any = false ∨
    c = .writeImm p i ∧ op = 5 ∧ any = false ∨ c = .roceRead p i ∧ op = 6 ∧ any = false ∨ c = .fetchAdd p i ∧ op = 7 ∧ any = false ∨
    c = .cmpSwap p i ∧ op = 8 ∧ any = false

/-- The seven rows are one operation. -/
theorem exec_roceRow {p i : Nat} {c : Instr} {op : Nat} {any : Bool} (h : isRoceRow p i c op any) (s : State) :
    exec c s = .next (s.withBlk (s.blk.roceSend p i op any)) := by
  obtain ⟨rfl, rfl, rfl⟩ | ⟨rfl, rfl, rfl⟩ | ⟨rfl, rfl, rfl⟩ | ⟨rfl, rfl, rfl⟩ | ⟨rfl, rfl, rfl⟩ | ⟨rfl, rfl, rfl⟩ | ⟨rfl, rfl, rfl⟩ := h <;>
    rfl

section Roce

variable {b b1 : Block} {p i op : Nat} {any : Bool} {h : Head} (hi : i < 16384)
  (hh : ∀ go, b.headDo p false i op [2, 3, 4, 5, 6, 7, 8] any go = go b1 h)
include hi hh

theorem roceSend_fault {st : WcSts} (hst : (qpErr (b1.port p).macs h.r).or (roceDescErr h.d) = some st) :
    b.roceSend p i op any = b1.headEnd p false i h st 0 := by
  simp only [Block.roceSend, if_neg (Nat.not_le.mpr hi), hh, hst]

variable (hok : (qpErr (b1.port p).macs h.r).or (roceDescErr h.d) = none)
include hok

theorem roceSend_paused (hp : (b1.port p).pausedAt (fld h.r 657 3) (fld h.r 19 3) = true) : b.roceSend p i op any = b1 := by
  simp only [Block.roceSend, if_neg (Nat.not_le.mpr hi), hh, hok, hp, or_true, if_true]

variable (hp : (b1.port p).pausedAt (fld h.r 657 3) (fld h.r 19 3) = false) (hf : bit h.d 9 = false)
include hp hf

/-- A request that is sent takes its packet numbers and is kept until it is acknowledged. -/
theorem roceSend_sent {b2 : Block} {bs : List Byte} (hs : b1.sendReq p i h.r h.d h.q.psn = (b2, .ok bs)) :
    let n := psnsOf h.r (if 7 ≤ fld h.d 0 8 then 0 else fld h.d 160 32)
    b.roceSend p i op any = b2.updPq p false i (fun y => { y with
      sqCons := (y.sqCons + 1) % 2 ^ 32, psn := (y.psn + n) % 2 ^ 24, sent := y.sent ++ [{ psn := y.psn, psns := n, desc := h.d }] }) := by
  simp only [Block.roceSend, if_neg (Nat.not_le.mpr hi), hh, hok, hp, hf, Bool.false_eq_true, false_and, or_self, if_false, hs]

/-- One whose buffer cannot be read ends with the status of the read. -/
theorem roceSend_failed {b2 : Block} {st : WcSts} (hs : b1.sendReq p i h.r h.d h.q.psn = (b2, .err st)) :
    b.roceSend p i op any = (b2.poisonEv p (fld h.d 64 64) st).headEnd p false i h st 0 := by
  simp only [Block.roceSend, if_neg (Nat.not_le.mpr hi), hh, hok, hp, hf, Bool.false_eq_true, false_and, or_self, if_false, hs]

end Roce

/-- Settles O41: the entry of a ring by its KIND and its queue; the head of a queue by its first fault, its link, its pause and its buffer. -/
theorem portRequests : Obligations.PortRequests := by
  unfold Obligations.PortRequests
  refine ⟨?post, ?send⟩
  case post =>
    intro s p i tail v e b1 b x w q n c hcopy hon hvalid hpeek hahead hwaits hword
    have hd : EntryDue s.blk p i b1 w := ⟨⟨e, tail, v, hcopy, hvalid, hpeek, hahead, hwaits, hword, rfl⟩, hon⟩
    refine ⟨fun hr => ⟨fun hq => ⟨fun hk => ?_, fun hk => ?_⟩, fun hq => ⟨fun hk => ?_, fun hk => ?_⟩, fun hq hk => ?_, fun hk hq => ?_⟩,
      fun h => ⟨?_, ?_, ?_, ?_, ?_⟩⟩
    · exact exec_answer rfl (postTake_taken hd hr (by rw [hk]; exact hq) hk (by omega) _)
    · exact exec_answer rfl (postTake_taken hd hr (by rw [hk]; exact hq) hk (by omega) _)
    · exact exec_answer rfl (postTake_taken hd hr (by rw [hk]; exact hq) hk (by omega) _)
    · exact exec_answer rfl (postTake_taken hd hr (by rw [hk]; exact hq) hk (by omega) _)
    · exact exec_answer rfl (postTake_taken hd hr (by rw [hk]; exact hq) hk (by omega) _)
    · exact exec_answer rfl (postTake_other hd hr (by rw [hk]; exact hq) (by omega) (by omega) _)
    all_goals exact exec_answer rfl (postTake_passed hd h _ _)
  case send =>
    intro s p i b1 h b d
    refine ⟨fun hi hh => ⟨fun st => ethSend_fault hi hh, fun hok => ⟨ethSend_linkDown hi hh hok, ethSend_paused hi hh hok,
      fun b2 bs hu hp hseg => ethSend_sends hi hh hok hu hp hseg⟩⟩, fun c op any hrow hi hh => ?_⟩
    have hc := exec_roceRow hrow s
    exact ⟨fun st hst => exec_answer hc (roceSend_fault hi hh hst), fun hok hp => exec_answer hc (roceSend_paused hi hh hok hp),
      fun hok hp hf => ⟨fun b2 bs hs => exec_answer hc (roceSend_sent hi hh hok hp hf hs), fun b2 st hs => exec_answer hc (roceSend_failed hi hh hok hp hf hs)⟩⟩

end Sys2Proof

/-! PROOFS. Lamp cartridges (R303 to R308): how a pair settles after a change, insertion, check, swap, latch, faults and telemetry, and the
links of the MACs that their light carries. -/

namespace Sys2Proof

open Sys2Proof.Machine

theorem exec_cartridgeInsert (c : Nat) (s : State) : exec (.cartridgeInsert c) s = execCartridgeInsert c s := rfl
theorem exec_cartridgeCheckDone (c : Nat) (v : Bool) (s : State) : exec (.cartridgeCheckDone c v) s = execCartridgeCheckDone c v s := rfl
theorem exec_prepareSwap (role : Role) (c : Nat) (s : State) : exec (.prepareSwap role c) s = execPrepareSwap role c s := rfl
theorem exec_latchOpen (c : Nat) (s : State) : exec (.latchOpen c) s = execLatchOpen c s := rfl
theorem exec_cartridgeFault (c : Nat) (s : State) : exec (.cartridgeFault c) s = execCartridgeFault c s := rfl
theorem exec_cartridgePoll (c : Nat) (r : CartRead) (s : State) : exec (.cartridgePoll c r) s = execCartridgePoll c r s := rfl
theorem exec_cartridgeSilent (c : Nat) (s : State) : exec (.cartridgeSilent c) s = execCartridgeSilent c s := rfl
theorem exec_macLinkLoss (p m : Nat) (s : State) : exec (.macLinkLoss p m) s = execMacLinkLoss p m s := rfl
theorem exec_macLinkUp (p m : Nat) (s : State) : exec (.macLinkUp p m) s = execMacLinkUp p m s := rfl

/-! ### How a pair settles (R303, R306) -/

/-- A cartridge is not its own mate. -/
theorem mate_ne (c : Nat) : mate c ≠ c := by
  unfold mate
  split <;> omega

/-- A cartridge that is not lit keeps its state. -/
theorem pairSt_unlit {x : Cart} (h : x.lit = false) (y : Cart) : pairSt x y = x.st := by
  simp [pairSt, h]

/-- A lit one whose mate is dark for good is alone. -/
theorem pairSt_sole {x y : Cart} (hx : x.lit = true) (hy : y.lit = false) (hc : y.st ≠ .checking) : pairSt x y = .sole := by
  simp [pairSt, hx, hy, hc]

/-- A MAC that goes down changes its port and what the wired source reaches. -/
theorem macDown_frame (b : Block) (p m : Nat) :
    (b.macDown p m).carts = b.carts ∧ (b.macDown p m).mem = b.mem ∧ (b.macDown p m).hws = b.hws := by
  unfold Block.macDown
  split
  · simp
  · exact ⟨rfl, rfl, rfl⟩

theorem macsDown_frame (p : Nat) (l : List Nat) (b : Block) :
    let c := l.foldl (fun (a : Block) m => if a.macLit p m then a else a.macDown p m) b
    c.carts = b.carts ∧ c.mem = b.mem ∧ c.hws = b.hws :=
  List.foldlRecOn (motive := fun c : Block => c.carts = b.carts ∧ c.mem = b.mem ∧ c.hws = b.hws) _ _ ⟨rfl, rfl, rfl⟩ (fun a ha m _ => by
    obtain ⟨hcarts, hmem, hhws⟩ := ha
    obtain ⟨hcarts', hmem', hhws'⟩ := macDown_frame a p m
    split
    · exact ⟨hcarts, hmem, hhws⟩
    · exact ⟨hcarts'.trans hcarts, hmem'.trans hmem, hhws'.trans hhws⟩)

/-- The two cartridges of a port with the states that they settle in. -/
def pairSettled (b : Block) (c : Nat) : Block :=
  (b.updCart c (fun z => { z with st := pairSt (b.cart c) (b.cart (mate c)) })).updCart (mate c)
    (fun z => { z with st := pairSt (b.cart (mate c)) (b.cart c) })

/-- A pair that settles changes the states of its two cartridges; memory and programs stay. -/
theorem settleCart_frame (b : Block) (c : Nat) :
    (b.settleCart c).carts = (pairSettled b c).carts ∧ (b.settleCart c).mem = b.mem ∧ (b.settleCart c).hws = b.hws := by
  obtain ⟨hcarts, hmem, hhws⟩ := macsDown_frame (c / 2) (List.range 8) (pairSettled b c)
  unfold Block.settleCart
  dsimp only
  split
  · exact ⟨hcarts, hmem, hhws⟩
  · exact ⟨hcarts, hmem, hhws⟩

theorem settleCart_self (b : Block) (c : Nat) :
    (b.settleCart c).cart c = { b.cart c with st := pairSt (b.cart c) (b.cart (mate c)) } := by
  refine (congrArg (fun t => tget ({} : Cart) t c) (settleCart_frame b c).1).trans ?_
  change (pairSettled b c).cart c = _
  rw [pairSettled, Block.updCart_eq, Block.setCart_cart_ne _ _ _ _ (mate_ne c).symm, Block.updCart_eq, Block.setCart_cart]

theorem settleCart_mate (b : Block) (c : Nat) :
    (b.settleCart c).cart (mate c) = { b.cart (mate c) with st := pairSt (b.cart (mate c)) (b.cart c) } := by
  refine (congrArg (fun t => tget ({} : Cart) t (mate c)) (settleCart_frame b c).1).trans ?_
  change (pairSettled b c).cart (mate c) = _
  rw [pairSettled, Block.updCart_eq, Block.setCart_cart, Block.updCart_eq, Block.setCart_cart_ne _ _ _ _ (mate_ne c)]

/-- A cartridge that is set to a record without light keeps it as it is. -/
theorem settleCart_setUnlit {x : Cart} (h : x.lit = false) (b : Block) (c : Nat) : ((b.setCart c x).settleCart c).cart c = x := by
  rw [settleCart_self, Block.setCart_cart, pairSt_unlit h]

/-- One that is set to a lit record beside an empty bay is alone. -/
theorem settleCart_setSole {x : Cart} (h : x.lit = true) {b : Block} {c : Nat} (hy : (b.cart (mate c)).st = .empty) :
    ((b.setCart c x).settleCart c).cart c = { x with st := .sole } := by
  rw [settleCart_self, Block.setCart_cart, Block.setCart_cart_ne _ _ _ _ (mate_ne c),
    pairSt_sole h (by simp [Cart.lit, hy]) (by simp [hy])]

section Bay

variable {s : State} {c : Nat} (hc : c < 4)

/-! ### An empty bay (R305) -/

section Empty

include hc in
theorem cartridgeInsert_checks (h : (s.blk.cart c).st = .empty) :
    exec (.cartridgeInsert c) s = .next (s.withBlk (((s.blk.setCart c { st := .checking }).settleCart c).wire 8)) := by
  simp only [exec_cartridgeInsert, execCartridgeInsert, State.run_eq, h]
  rw [if_neg (by simpa using hc)]

theorem cartridgeInsert_taken (h : (s.blk.cart c).st ≠ .empty) : exec (.cartridgeInsert c) s = .next s := by
  simp only [exec_cartridgeInsert, execCartridgeInsert, State.run_eq, if_pos (Or.inr h : 4 ≤ c ∨ _)]

variable (h : (s.blk.cart c).st = .empty)
include h

theorem cartridgePoll_empty (r : CartRead) : exec (.cartridgePoll c r) s = .next s := by
  simp only [exec_cartridgePoll, execCartridgePoll, State.run_eq, h, or_true, if_true]

theorem cartridgeSilent_empty : exec (.cartridgeSilent c) s = .next s := by
  simp only [exec_cartridgeSilent, execCartridgeSilent, State.run_eq, h, true_or, or_true, if_true]

theorem latchOpen_empty : exec (.latchOpen c) s = .next s := by
  simp only [exec_latchOpen, execLatchOpen, State.run_eq, h, or_true, if_true]

theorem cartridgeFault_empty : exec (.cartridgeFault c) s = .next s := by
  simp only [exec_cartridgeFault, execCartridgeFault, State.run_eq, h, true_or, or_true, if_true]

end Empty

/-! ### The check of a cartridge (R305) -/

section Check

variable (hst : (s.blk.cart c).st = .checking) (hd : s.blk.start.level ≠ .dark)
include hc hst hd

theorem cartridgeCheck_due : ¬(4 ≤ c ∨ (s.blk.cart c).st ≠ .checking ∨ s.blk.start.level = .dark) := by
  simp only [hst, hd, ne_eq, not_true_eq_false, or_self, or_false]
  omega

/-- A verified cartridge beside an empty bay feeds its lanes alone. -/
theorem cartridgeCheckDone_verified (hy : (s.blk.cart (mate c)).st = .empty) : Completes (.cartridgeCheckDone c true) s (fun t =>
    (t.blk.cart c).verified = true ∧ (t.blk.cart c).st = .sole ∧ t.blk.mem = s.blk.mem ∧ t.blk.hws = s.blk.hws) := by
  simp only [Completes, exec_cartridgeCheckDone, execCartridgeCheckDone, State.run_eq, if_neg (cartridgeCheck_due hc hst hd),
    Bool.not_true, Bool.false_and, Bool.false_eq_true, if_false, if_true, Block.updCart_eq]
  refine ⟨_, rfl, ?_, ?_, (settleCart_frame ..).2.1, (settleCart_frame ..).2.2⟩
  all_goals
    dsimp only
    rw [settleCart_setSole (by rfl) hy]

/-- UnverifiedPolicy 1 keeps an unverified one dark. -/
theorem cartridgeCheckDone_unverified (hpol : s.blk.cfg (0x51000040 + c * 0x1000) 0 = 1) : Completes (.cartridgeCheckDone c false) s
    (fun t => (t.blk.cart c).verified = false ∧ (t.blk.cart c).st = .standby) := by
  simp only [Completes, exec_cartridgeCheckDone, execCartridgeCheckDone, State.run_eq, if_neg (cartridgeCheck_due hc hst hd), hpol,
    Bool.not_false, beq_self_eq_true, Bool.and_self, Bool.false_eq_true, if_false, if_true, Block.updCart_eq]
  refine ⟨_, rfl, ?_⟩
  simp only [Block.wire_frame, Block.raise_frame]
  rw [settleCart_setUnlit (by rfl)]
  exact ⟨rfl, rfl⟩

end Check

/-! ### The swap that is prepared (R307) -/

section Swap

variable {role : Role} (ha : Admits s.blk role .operator 0x51)
include hc ha

theorem prepareSwap_busy (h : (s.blk.cart (mate c)).st ≠ .shared ∨ (s.blk.cart (mate c)).outFaults ≠ []) :
    exec (.prepareSwap role c) s = .next (s.withBlk (s.blk.refuse .busy)) := by
  simp only [exec_prepareSwap, execPrepareSwap, State.run_eq, ha.cmd, if_neg (Nat.not_le.mpr hc), if_pos h]

/-- The cartridge stands by, its mate takes over, and the bay shows blue. -/
theorem prepareSwap_ready (hst : (s.blk.cart (mate c)).st = .shared) (hf : (s.blk.cart (mate c)).outFaults = []) :
    Completes (.prepareSwap role c) s (fun t => (t.blk.cart c).st = .standby ∧ (t.blk.cart (mate c)).st = .sole ∧
      t.blk.bayIndicator c = .blue ∧ t.blk.cmds.reply.status = .ok) := by
  have hself := settleCart_setUnlit (x := { s.blk.cart c with st := .standby, swap := true }) (by rfl) s.blk c
  have hmate := settleCart_mate (s.blk.setCart c { s.blk.cart c with st := .standby, swap := true }) c
  rw [Block.setCart_cart, Block.setCart_cart_ne _ _ _ _ (mate_ne c), pairSt_sole (by simp [Cart.lit, hst]) (by rfl) (by simp)] at hmate
  simp only [Completes, exec_prepareSwap, execPrepareSwap, State.run_eq, ha.cmd, if_neg (Nat.not_le.mpr hc), hst, hf, ne_eq,
    not_true_eq_false, or_self, if_false, Block.updCart_eq]
  refine ⟨_, rfl, congrArg Cart.st hself, congrArg Cart.st hmate, ?_, rfl⟩
  have hswap := congrArg Cart.swap hself
  change (if (Cart.swap _) = true then Indicator.blue else .off) = .blue
  exact if_pos hswap

end Swap

/-! ### Latch, faults and telemetry (R306, R307, R308) -/

section Seated

variable (h : (s.blk.cart c).st ≠ .empty)
include hc h

/-- A cartridge that leaves its bay leaves nothing behind. -/
theorem latchOpen_leaves : Completes (.latchOpen c) s (fun t => (t.blk.cart c) = {} ∧ t.blk.mem = s.blk.mem ∧ t.blk.hws = s.blk.hws) := by
  have hin : ¬(4 ≤ c ∨ (s.blk.cart c).st = .empty) := by simp [h, hc]
  simp only [Completes, exec_latchOpen, execLatchOpen, State.run_eq, if_neg hin]
  refine ⟨_, rfl, ?_⟩
  simp only [Block.wire_frame]
  refine ⟨settleCart_setUnlit (by rfl) _ c, (settleCart_frame ..).2.1.trans ?_, (settleCart_frame ..).2.2.trans ?_⟩
  all_goals
    split
    · rfl
    · simp

theorem cartridgeFault_faults (hf : (s.blk.cart c).st ≠ .fault) : exec (.cartridgeFault c) s = .next (s.withBlk
    ((s.blk.updCart c (fun z => { z with st := .fault })).settleCart c)) := by
  simp only [exec_cartridgeFault, execCartridgeFault, State.run_eq]
  rw [if_neg (by simp [h, hf, hc])]

theorem cartridgeSilent_raises (hs : (s.blk.cart c).stale = false) : exec (.cartridgeSilent c) s = .next (s.withBlk
    ((s.blk.updCart c (fun z => { z with stale := true })).raise (unitCart c) .cartridgeSilent [c])) := by
  simp only [exec_cartridgeSilent, execCartridgeSilent, State.run_eq]
  rw [if_neg (by simp [h, hs, hc])]

/-- What a poll reads stands in the cartridge's record; above 70 °C it is in FAULT (R306, R307). -/
theorem cartridgePoll_reads (r : CartRead) : Completes (.cartridgePoll c r) s (fun t =>
    (t.blk.cart c).hours = r.hours ∧ (t.blk.cart c).caseMilliC = r.caseMilliC ∧ (t.blk.cart c).stale = false ∧
    ((t.blk.cart c).replace = true ↔ (∃ d ∈ r.drift, 300 ≤ d) ∨ 50000 ≤ r.hours) ∧
    (70000 < r.caseMilliC → (t.blk.cart c).st = .fault) ∧ t.blk.mem = s.blk.mem) := by
  have hin : ¬(4 ≤ c ∨ (s.blk.cart c).st = .empty) := by simp [h, hc]
  simp only [Completes, exec_cartridgePoll, execCartridgePoll, State.run_eq, if_neg hin]
  refine ⟨_, rfl, ?_⟩
  have hraised (q : Prop) [Decidable q] (d : Block) (e : Ev) :
      (if q then d.raise (unitCart c) e [c] else d).cart c = d.cart c ∧ (if q then d.raise (unitCart c) e [c] else d).mem = d.mem := by
    split
    · simp
    · exact ⟨rfl, rfl⟩
  simp only [(hraised ..).1, (hraised ..).2]
  rw [settleCart_self, Block.setCart_cart]
  refine ⟨rfl, rfl, rfl, by simp, fun hhot => ?_, (settleCart_frame ..).2.1⟩
  dsimp only
  rw [if_pos hhot]
  exact pairSt_unlit (by rfl) _

end Seated

end Bay

/-! ### Links of the MACs (R303, R308) -/

section Mac

variable {s : State} {p m : Nat}

theorem macLinkLoss_down (hp : p < 2) (hm : m < 8) (hu : (s.blk.port p).up m = true) : exec (.macLinkLoss p m) s = .next (s.withBlk
    ((s.blk.updPort p (fun z => { z with linkUp := z.linkUp &&& ~~~(BitVec.ofNat 8 (2 ^ m)) })).wire (6 + p))) := by
  simp only [exec_macLinkLoss, execMacLinkLoss, State.run_eq, if_neg (show ¬(2 ≤ p ∨ 8 ≤ m) by omega), Block.macDown, hu, if_true]

theorem macLinkLoss_idle (hu : (s.blk.port p).up m = false) : exec (.macLinkLoss p m) s = .next s := by
  simp only [exec_macLinkLoss, execMacLinkLoss, State.run_eq, Block.macDown, hu, Bool.false_eq_true, if_false, ite_self]

theorem macLinkUp_acquires (hp : p < 2) (ht : s.blk.tray.rails = true) (hr : (s.blk.port p).resetting = false)
    (hm : m < (s.blk.port p).macs) (hu : (s.blk.port p).up m = false) (hl : s.blk.macLit p m = true) :
    exec (.macLinkUp p m) s = .next (s.withBlk
      ((s.blk.updPort p (fun z => { z with linkUp := z.linkUp ||| BitVec.ofNat 8 (2 ^ m) })).wire (6 + p))) := by
  simp only [exec_macLinkUp, execMacLinkUp, State.run_eq]
  rw [if_neg (by simp [hp, ht, hr, hm, hu, hl])]

theorem macLinkUp_dark (hl : s.blk.macLit p m = false) : exec (.macLinkUp p m) s = .next s := by
  simp only [exec_macLinkUp, execMacLinkUp, State.run_eq]
  rw [if_pos (by simp [hl])]

end Mac

/-- Settles O43: each row by the state of its bay, the links by the light of their lanes. -/
theorem cartridges : Obligations.Cartridges := by
  unfold Obligations.Cartridges
  intro s c hc b x y
  exact ⟨cartridgeInsert_checks hc, cartridgeInsert_taken, cartridgeCheckDone_verified hc, cartridgeCheckDone_unverified hc,
    fun role ha => prepareSwap_busy hc ha, fun role ha => prepareSwap_ready hc ha, latchOpen_leaves hc, cartridgeFault_faults hc,
    fun h => ⟨cartridgePoll_empty h, cartridgeSilent_empty h, latchOpen_empty h, cartridgeFault_empty h⟩,
    fun r h => cartridgePoll_reads hc h r, cartridgeSilent_raises hc, fun p m => macLinkLoss_down, fun p m => macLinkLoss_idle,
    fun p m hp ht hr hm hu => ⟨macLinkUp_acquires hp ht hr hm hu, macLinkUp_dark⟩⟩

end Sys2Proof

/-! PROOFS. What the power operations leave alone (R273, R375, R385, R387, R389): limits, thermal ceilings, dim steps and clocks change
neither memory nor programs nor sensors. -/

namespace Sys2Proof

open Sys2Proof.Machine

/-- A block agrees with another on what no power operation changes: memory, lines, programs, contexts and sensors, the dim step and the
count of windows. -/
structure SameUnits (b c : Block) : Prop where
  mem : c.mem = b.mem
  lines : c.lines = b.lines
  hws : c.hws = b.hws
  contexts : c.contexts = b.contexts
  sensors : c.sensors = b.sensors
  dim : c.power.dim = b.power.dim
  windows : c.power.windows = b.power.windows

namespace SameUnits

variable {b c d : Block}

theorem refl (b : Block) : SameUnits b b := ⟨rfl, rfl, rfl, rfl, rfl, rfl, rfl⟩

theorem trans (h : SameUnits b c) (k : SameUnits c d) : SameUnits b d :=
  ⟨k.mem.trans h.mem, k.lines.trans h.lines, k.hws.trans h.hws, k.contexts.trans h.contexts, k.sensors.trans h.sensors,
    k.dim.trans h.dim, k.windows.trans h.windows⟩

theorem sensor (h : SameUnits b c) (n : Nat) : c.sensor n = b.sensor n := by
  simp only [Block.sensor, h.sensors]

theorem ite {p : Prop} [Decidable p] (hc : SameUnits b c) (hd : SameUnits b d) : SameUnits b (if p then c else d) := by
  split
  · exact hc
  · exact hd

theorem foldl {α : Type} {f : Block → α → Block} (hf : ∀ a x, SameUnits b a → SameUnits b (f a x)) {l : List α} (hc : SameUnits b c) :
    SameUnits b (l.foldl f c) :=
  List.foldlRecOn (motive := SameUnits b) _ _ hc (fun a ha x _ => hf a x ha)

theorem raise (h : SameUnits b c) (u : Nat) (e : Ev) (args : List Nat) : SameUnits b (c.raise u e args) :=
  h.trans ⟨by simp, by simp, by simp, by simp, by simp, by simp, by simp⟩

theorem wire (h : SameUnits b c) (n : Nat) : SameUnits b (c.wire n) :=
  h.trans ⟨by simp, by simp, by simp, by simp, by simp, by simp, by simp⟩

theorem setAlert (h : SameUnits b c) (i : Nat) : SameUnits b (c.setAlert i) :=
  h.trans ⟨rfl, rfl, rfl, rfl, rfl, rfl, rfl⟩

theorem clearAlert (h : SameUnits b c) (i : Nat) : SameUnits b (c.clearAlert i) :=
  h.trans ⟨rfl, rfl, rfl, rfl, rfl, rfl, rfl⟩

theorem updCluster (h : SameUnits b c) (k : Nat) (f : Cluster → Cluster) : SameUnits b (c.updCluster k f) :=
  h.trans ⟨rfl, rfl, rfl, rfl, rfl, rfl, rfl⟩

theorem updLantern (h : SameUnits b c) (k : Nat) (f : Lantern → Lantern) : SameUnits b (c.updLantern k f) :=
  h.trans ⟨rfl, rfl, rfl, rfl, rfl, rfl, rfl⟩

theorem updPower (h : SameUnits b c) {f : Power → Power} (hd : (f c.power).dim = c.power.dim) (hw : (f c.power).windows = c.power.windows) :
    SameUnits b (c.updPower f) := h.trans ⟨rfl, rfl, rfl, rfl, rfl, hd, hw⟩

/-! ### The operations of `Power` -/

theorem updLimit (h : SameUnits b c) : SameUnits b c.updLimit := by
  have hset : SameUnits b { c with power := { c.power with limit := (lowest c.limits).1, source := (lowest c.limits).2 } } :=
    h.trans ⟨rfl, rfl, rfl, rfl, rfl, rfl, rfl⟩
  exact ite hset ((hset.raise ..).wire _)

theorem regrant (h : SameUnits b c) (cl : Nat) : SameUnits b (c.regrant cl) := ite h (h.updCluster ..)

theorem regrantAll (h : SameUnits b c) : SameUnits b c.regrantAll := foldl (fun _ cl ha => ha.regrant cl) h

theorem reOp (h : SameUnits b c) (l : Nat) : SameUnits b (c.reOp l) := by
  unfold Block.reOp
  exact h.updLantern ..

theorem unboost (h : SameUnits b c) (l : Nat) : SameUnits b (c.unboost l) :=
  ite (((h.updPower rfl rfl).updLantern ..).reOp l) (h.updPower rfl rfl)

theorem boostStep (h : SameUnits b c) (l : Nat) (old : Int) : SameUnits b (c.boostStep l old) :=
  ite (h.unboost l) (ite h (ite (h.updPower rfl rfl) (ite h ((h.updLantern ..).reOp l))))

theorem windowCounts (h : SameUnits b c) (l : Nat) (a : Activity) : SameUnits b (c.windowCounts l a) := h.updPower rfl rfl

theorem heat (h : SameUnits b c) (u : Nat) (t : Int) : SameUnits b (c.heat u t) := by
  unfold Block.heat
  split
  · exact h
  next =>
    dsimp only
    have hclocks {d : Block} (hd : SameUnits b d) : SameUnits b (if 0x400 ≤ u ∧ u < 0x402 then d.regrantAll else d) := ite hd.regrantAll hd
    have hput (y : Thermal) : SameUnits b (c.updPower (fun z => { z with thermal := tput z.thermal u y })) := h.updPower rfl rfl
    have hcount (y : Thermal) : SameUnits b ((c.updPower (fun z => { z with thermal := tput z.thermal u y })).updPower
      (fun z => { z with limits := z.limits + 1 })) := (hput y).updPower rfl rfl
    split
    · have hin (y : Thermal) := ite (p := (c.thermal u).limited = true) (hput y) (((hcount y).raise (thermalUnit u) .thermalLimit [u]).wire 5)
      exact hclocks (ite (((hin _).raise ..).setAlert 7) (hin _))
    · split
      · exact hclocks (ite (hput _) ((hput _).clearAlert 7))
      · exact hput _

theorem shed (h : SameUnits b c) : SameUnits b c.shed := by
  have hrates := ite (p := c.power.dim = 0) h (foldl (l := List.range 64) (f := fun (a : Block) l =>
    (a.unboost l).updLantern l (fun x => { x with rate := min x.rate (a.ceiling l) })) (fun a l ha => (ha.unboost l).updLantern ..) h)
  unfold Block.shed
  dsimp only
  generalize (if c.power.dim = 0 then c else _) = a at hrates ⊢
  exact regrantAll (hrates.trans ⟨rfl, rfl, rfl, rfl, rfl, rfl, rfl⟩)

theorem sensed (h : SameUnits b c) (n : Nat) : SameUnits b (c.sensed n) :=
  ite (h.updPower rfl rfl).updLimit (ite h.updLimit (ite (h.heat ..) h))

end SameUnits

/-! ### The log written, the rails off (R388, R390) -/

theorem setLevel_tray (b : Block) (l : Ready) : (b.setLevel l).tray = b.tray := by
  unfold Block.setLevel
  split
  · rfl
  · simp

theorem logNext_tray (b : Block) (r : EvRec) : (b.logNext r).tray = b.tray := by
  unfold Block.logNext Block.logAppend
  dsimp only
  split <;> rfl

theorem putLog_tray (b : Block) (r : EvRec) : (b.putLog r).tray = b.tray := by
  unfold Block.putLog
  rw [logNext_tray]
  split
  · exact logNext_tray ..
  · rfl

theorem flushLog_tray (b : Block) : b.flushLog.tray = b.tray :=
  List.foldlRecOn (motive := fun c : Block => c.tray = b.tray) _ _ rfl (fun c hc r _ => (putLog_tray c r).trans hc)

theorem dumpBanks_tray (b : Block) : b.dumpBanks.tray = b.tray :=
  List.foldlRecOn (motive := fun c : Block => c.tray = b.tray) _ _ rfl (fun _ hc _ _ =>
    List.foldlRecOn (motive := fun d : Block => d.tray = b.tray) _ _ hc (fun _ hd _ _ => hd))

/-- A stop in order leaves the tray's record but for the rails and the service bus. -/
theorem logAndOff_tray (b : Block) :
    b.logAndOff.tray = { b.tray with rails := false, busTx := false, noBeacon := false, slotTaken := false } := by
  have htray : ((b.setLevel .dark).dumpBanks).flushLog.tray = b.tray := by rw [flushLog_tray, dumpBanks_tray, setLevel_tray]
  rw [← htray]
  rfl

theorem logAndOff_alert (b : Block) (i : Nat) : b.logAndOff.alert i = b.alert i := by
  simp only [Block.alert, logAndOff_tray]

/-- A dark stop leaves the module at DARK, its rails off, memory and programs gone. -/
theorem logAndOff_dark (b : Block) : b.logAndOff.start.level = .dark ∧ b.logAndOff.tray.rails = false ∧ b.logAndOff.mem = [] :=
  ⟨rfl, rfl, rfl⟩

theorem darkStop_alert {b : Block} {i : Nat} (h : b.alert i = true) (e : Ev) (args : List Nat) : (b.darkStop e args).alert i = true := by
  rw [Block.darkStop, logAndOff_alert]
  simpa [Block.alert] using h

end Sys2Proof

/-! PROOFS. The tray (R313, R315, R317 to R321): the warnings of supply and coolant, the stops, the signals, the slot identity, the sensors
and the service bus. -/

namespace Sys2Proof

open Sys2Proof.Machine

theorem exec_supplyHigh (s : State) : exec .supplyHigh s = execSupplyHigh s := rfl
theorem exec_supplyHighClear (s : State) : exec .supplyHighClear s = execSupplyHighClear s := rfl
theorem exec_supplyOvervoltage (s : State) : exec .supplyOvervoltage s = execSupplyOvervoltage s := rfl
theorem exec_coolantWarm (s : State) : exec .coolantWarm s = execCoolantWarm s := rfl
theorem exec_coolantDerateClear (s : State) : exec .coolantDerateClear s = execCoolantDerateClear s := rfl
theorem exec_coolantHot (s : State) : exec .coolantHot s = execCoolantHot s := rfl
theorem exec_coolantLeak (i : Nat) (s : State) : exec (.coolantLeak i) s = execCoolantLeak i s := rfl
theorem exec_flowLost (r : Bool) (s : State) : exec (.flowLost r) s = execFlowLost r s := rfl
theorem exec_trayPowerWarn (s : State) : exec .trayPowerWarn s = execTrayPowerWarn s := rfl
theorem exec_trayReset (n : Nat) (s : State) : exec (.trayReset n) s = execTrayReset n s := rfl
theorem exec_slotIdSample (xs : List Nat) (a : Bool) (s : State) : exec (.slotIdSample xs a) s = execSlotIdSample xs a s := rfl
theorem exec_sensorSample (n : Nat) (r : Int) (s : State) : exec (.sensorSample n r) s = execSensorSample n r s := rfl
theorem exec_sensorInvalid (n : Nat) (s : State) : exec (.sensorInvalid n) s = execSensorInvalid n s := rfl
theorem exec_serviceBusNoBeacon (s : State) : exec .serviceBusNoBeacon s = execServiceBusNoBeacon s := rfl
theorem exec_serviceBusBeacon (s : State) : exec .serviceBusBeacon s = execServiceBusBeacon s := rfl

/-- A cause that is cleared no longer stands. -/
theorem clearAlert_alert (b : Block) {i : Nat} (hi : i < 32) : (b.clearAlert i).alert i = false := by
  have hbit : (BitVec.ofNat 32 (2 ^ i)).getLsbD i = true := by
    rw [BitVec.getLsbD_ofNat, Nat.testBit_two_pow_self]
    simpa using hi
  simp only [Block.alert, Block.clearAlert, BitVec.getLsbD_and, BitVec.getLsbD_not, hbit, Bool.not_true, Bool.and_false]

variable {s : State}

/-! ### Supply (R313) -/

section Supply

theorem supplyHigh_raises (hv : 58000 < s.blk.vHigh) (ha : s.blk.alert 1 = false) (ho : s.blk.start.overvoltage = false) :
    exec .supplyHigh s = .next (s.withBlk ((s.blk.raise unitModule .supplyHigh []).setAlert 1)) := by
  simp only [exec_supplyHigh, execSupplyHigh, State.run_eq, ha, ho, if_neg (show ¬(s.blk.vHigh ≤ 58000 ∨ false = true ∨ false = true) by simpa using hv)]

theorem supplyHigh_silent (h : s.blk.vHigh ≤ 58000 ∨ s.blk.alert 1 = true ∨ s.blk.start.overvoltage = true) :
    exec .supplyHigh s = .next s := by
  simp only [exec_supplyHigh, execSupplyHigh, State.run_eq, if_pos h]

theorem supplyHighClear_clears (hv : s.blk.vLow < 57500) : exec .supplyHighClear s = .next (s.withBlk (s.blk.clearAlert 1)) := by
  simp only [exec_supplyHighClear, execSupplyHighClear, State.run_eq, if_neg (Nat.not_le.mpr hv)]

theorem supplyHighClear_stays (hv : 57500 ≤ s.blk.vLow) : exec .supplyHighClear s = .next s := by
  simp only [exec_supplyHighClear, execSupplyHighClear, State.run_eq, if_pos hv]

/-- The disconnect latches, and what ran is lost (R313). -/
theorem supplyOvervoltage_latches (h : s.blk.tray.latched = false) : Completes .supplyOvervoltage s (fun t =>
    t.blk.tray.latched = true ∧ t.blk.tray.rails = false ∧ t.blk.start.level = .dark ∧ t.blk.start.overvoltage = true ∧ t.blk.mem = [] ∧
    t.blk.hws = [] ∧ t.blk.events.pend = []) := by
  simp only [Completes, exec_supplyOvervoltage, execSupplyOvervoltage, State.run_eq, h, Bool.false_eq_true, if_false]
  exact ⟨_, rfl, rfl, rfl, rfl, rfl, rfl, rfl, rfl⟩

end Supply

/-! ### Coolant (R315) -/

section Coolant

theorem coolantWarm_derates (hi : 40000 < s.blk.inlet) (ha : s.blk.alert 2 = false) : exec .coolantWarm s = .next (s.withBlk
    ((((s.blk.raise unitModule .coolantWarm []).setAlert 2).updPower (fun x => { x with coolant := coolantLimit s.blk.inlet })).updLimit)) := by
  simp only [exec_coolantWarm, execCoolantWarm, State.run_eq]
  rw [if_neg (by simp [ha, hi])]

theorem coolantWarm_silent (h : s.blk.inlet ≤ 40000 ∨ s.blk.alert 2 = true) : exec .coolantWarm s = .next s := by
  simp only [exec_coolantWarm, execCoolantWarm, State.run_eq, if_pos h]

theorem coolantDerateClear_stays (h : 39000 ≤ s.blk.inlet) : exec .coolantDerateClear s = .next s := by
  simp only [exec_coolantDerateClear, execCoolantDerateClear, State.run_eq, if_pos h]

theorem coolantDerateClear_clears (h : s.blk.inlet < 39000) : exec .coolantDerateClear s = .next (s.withBlk
    (((s.blk.clearAlert 2).updPower (fun x => { x with coolant := none })).updLimit)) := by
  simp only [exec_coolantDerateClear, execCoolantDerateClear, State.run_eq, if_neg (Int.not_le.mpr h)]

theorem coolantHot_stays (h : s.blk.inlet ≤ 50000) : exec .coolantHot s = .next s := by
  simp only [exec_coolantHot, execCoolantHot, State.run_eq, if_pos (Or.inl h : _ ∨ s.blk.start.level = .dark)]

/-- A dark stop for the coolant: DARK, the rails off, bit 18 of AlertCauses (R315, R388). -/
theorem stopped_dark (b : Block) (e : Ev) (args : List Nat) : ((b.setAlert 18).darkStop e args).start.level = .dark ∧
    ((b.setAlert 18).darkStop e args).tray.rails = false ∧ ((b.setAlert 18).darkStop e args).alert 18 = true ∧
    ((b.setAlert 18).darkStop e args).mem = [] :=
  ⟨rfl, rfl, darkStop_alert (setAlert_alert b (by decide)) e args, rfl⟩

theorem coolantHot_stops (hi : 50000 < s.blk.inlet) (hd : s.blk.start.level ≠ .dark) : Completes .coolantHot s (fun t =>
    t.blk.start.level = .dark ∧ t.blk.tray.rails = false ∧ t.blk.alert 18 = true ∧ t.blk.mem = []) := by
  simp only [Completes, exec_coolantHot, execCoolantHot, State.run_eq]
  rw [if_neg (by simp [hi, hd])]
  exact ⟨_, rfl, stopped_dark s.blk .coolantHot []⟩

section Leak

variable {i : Nat}

theorem coolantLeak_stops (hi : i < 2) (hv : (s.blk.sensor (5 + i)).valid = true) (hl : 100 ≤ (s.blk.sensor (5 + i)).value)
    (hh : (s.blk.sensor (5 + i)).value < 100000) (hd : s.blk.start.level ≠ .dark) : Completes (.coolantLeak i) s (fun t =>
      t.blk.start.level = .dark ∧ t.blk.tray.rails = false ∧ t.blk.alert 18 = true) := by
  simp only [Completes, exec_coolantLeak, execCoolantLeak, State.run_eq]
  rw [if_neg (by simp [hi, hv, hl, hh, hd])]
  obtain ⟨hdark, hoff, halert, -⟩ := stopped_dark s.blk .coolantLeak [i]
  exact ⟨_, rfl, hdark, hoff, halert⟩

theorem coolantLeak_invalid (hv : (s.blk.sensor (5 + i)).valid = false) : exec (.coolantLeak i) s = .next s := by
  simp only [exec_coolantLeak, execCoolantLeak, State.run_eq, hv, Bool.not_false, true_or, or_true, if_true]

end Leak

end Coolant

/-! ### Tray signals (R317) -/

section Signals

theorem flowLost_glitch (hf : s.blk.tray.flowOk = true) (hd : s.blk.start.level ≠ .dark) :
    exec (.flowLost true) s = .next (s.withBlk (s.blk.raise unitModule .flowGlitch [])) := by
  simp only [exec_flowLost, execFlowLost, State.run_eq, if_true, hf, hd, ne_eq, not_false_eq_true, and_self]

theorem flowLost_noGlitch (h : s.blk.tray.flowOk = false ∨ s.blk.start.level = .dark) : exec (.flowLost true) s = .next s := by
  simp only [exec_flowLost, execFlowLost, State.run_eq, if_true]
  rw [if_neg (fun hn => h.elim (fun hf => Bool.false_ne_true (hf.symm.trans hn.1)) hn.2)]

theorem flowLost_off (h : s.blk.tray.rails = false) :
    exec (.flowLost false) s = .next (s.withBlk { s.blk with tray := { s.blk.tray with flowOk := false } }) := by
  simp only [exec_flowLost, execFlowLost, State.run_eq, h, Bool.false_eq_true, if_false]

theorem flowLost_stops (h : s.blk.tray.rails = true) : Completes (.flowLost false) s (fun t => t.blk.tray.flowOk = false ∧
    t.blk.tray.rails = false ∧ t.blk.start.level = .dark ∧ t.blk.alert 18 = true) := by
  simp only [Completes, exec_flowLost, execFlowLost, State.run_eq, h, Bool.false_eq_true, if_false, if_true]
  refine ⟨_, rfl, ?_, rfl, rfl, darkStop_alert (setAlert_alert _ (by decide)) _ _⟩
  simp only [Block.darkStop, logAndOff_tray, Block.raise_frame, Block.setAlert]

theorem trayPowerWarn_off (h : s.blk.tray.rails = false) :
    exec .trayPowerWarn s = .next (s.withBlk { s.blk with tray := { s.blk.tray with pwrOk := false } }) := by
  simp only [exec_trayPowerWarn, execTrayPowerWarn, State.run_eq, h, Bool.false_eq_true, if_false]

theorem trayPowerWarn_stops (h : s.blk.tray.rails = true) : Completes .trayPowerWarn s (fun t => t.blk.tray.pwrOk = false ∧
    t.blk.tray.rails = false ∧ t.blk.start.level = .dark) := by
  simp only [Completes, exec_trayPowerWarn, execTrayPowerWarn, State.run_eq, h, if_true]
  exact ⟨_, rfl, by simp only [logAndOff_tray, Block.raise_frame], rfl, rfl⟩

section Reset

variable {n : Nat}

theorem trayReset_short (h : n < 1000) : exec (.trayReset n) s = .next s := by
  simp only [exec_trayReset, execTrayReset, State.run_eq, if_pos h]

theorem trayReset_runt (h : 1000 ≤ n) (h' : n < 10000) :
    exec (.trayReset n) s = .next (s.withBlk { s.blk with tray := { s.blk.tray with runts := s.blk.tray.runts + 1 } }) := by
  simp only [exec_trayReset, execTrayReset, State.run_eq, if_neg (Nat.not_lt.mpr h), if_pos h']

/-- A reset of 10 µs and more is an abrupt one; a latched disconnect closes once the input has stood below 58 V for 1 s. -/
theorem trayReset_resets (h : 10000 ≤ n) : Completes (.trayReset n) s (fun t => t.blk.start.level = .dark ∧ t.blk.tray.rails = false ∧
    t.blk.start.woken = true ∧ t.blk.mem = [] ∧ t.blk.contexts = [] ∧
    (s.blk.tray.latched = true → 1000 ≤ s.blk.tray.below58 → t.blk.tray.latched = false) ∧
    ((s.blk.tray.latched = false ∨ s.blk.tray.below58 < 1000) → t.blk.tray.latched = s.blk.tray.latched)) := by
  simp only [Completes, exec_trayReset, execTrayReset, State.run_eq, if_neg (show ¬n < 1000 by omega), if_neg (Nat.not_lt.mpr h)]
  refine ⟨_, rfl, ?_⟩
  by_cases hclose : s.blk.tray.latched = true ∧ 1000 ≤ s.blk.tray.below58
  · simp only [if_pos hclose]
    refine ⟨rfl, rfl, rfl, rfl, rfl, fun _ _ => rfl, fun hn => ?_⟩
    rcases hn with hn | hn
    · exact absurd hclose.1 (by simp [hn])
    · exact absurd hclose.2 (Nat.not_le.mpr hn)
  · simp only [if_neg hclose]
    exact ⟨rfl, rfl, rfl, rfl, rfl, fun hl hb => absurd ⟨hl, hb⟩ hclose, fun _ => rfl⟩

end Reset

end Signals

/-! ### Slot identity (R317, R318, R321) -/

section Slot

variable {xs : List Nat} (hd : s.blk.start.level ≠ .dark)
include hd

section AtStart

variable (ht : s.blk.tray.slotTaken = false)
include ht

theorem slotIdSample_agreed {v : Nat} (hv : agreed 4 xs = some v) : Completes (.slotIdSample xs true) s (fun t =>
    t.blk.tray.slotId = some v ∧ t.blk.tray.slotNow = some v ∧ t.blk.tray.slotTaken = true ∧ t.blk.tray.busTx = true ∧
    t.blk.alert 0 = false ∧ t.blk.mem = s.blk.mem ∧ t.blk.hws = s.blk.hws) := by
  simp only [Completes, exec_slotIdSample, execSlotIdSample, State.run_eq, hd, ht, hv, false_or, Bool.true_eq_false, if_false, if_true,
    Option.isSome_some]
  exact ⟨_, rfl, rfl, rfl, rfl, rfl, clearAlert_alert _ (by decide), rfl, rfl⟩

theorem slotIdSample_invalid (hv : agreed 4 xs = none) : Completes (.slotIdSample xs true) s (fun t =>
    t.blk.tray.slotId = none ∧ t.blk.tray.busTx = false ∧ t.blk.alert 0 = true) := by
  simp only [Completes, exec_slotIdSample, execSlotIdSample, State.run_eq, hd, ht, hv, false_or, Bool.true_eq_false, if_false, if_true,
    Option.isSome_none, Bool.false_eq_true]
  exact ⟨_, rfl, by simp [Block.setAlert], by simp [Block.setAlert], setAlert_alert _ (by decide)⟩

end AtStart

/-- In service a change is noted; the identity in force and the transmitter stay. -/
theorem slotIdSample_inService (ht : s.blk.tray.slotTaken = true) : Completes (.slotIdSample xs false) s (fun t =>
    t.blk.tray.slotId = s.blk.tray.slotId ∧ t.blk.tray.slotNow = agreed 4 xs ∧ t.blk.tray.busTx = s.blk.tray.busTx) := by
  simp only [Completes, exec_slotIdSample, execSlotIdSample, State.run_eq, hd, ht, false_or, Bool.false_eq_true, if_false]
  refine ⟨_, rfl, ?_⟩
  dsimp only
  split
  · exact ⟨rfl, rfl, rfl⟩
  · simp only [Block.raise_frame, and_self]

end Slot

/-! ### Sensors (R320) -/

section Sensors

variable {n : Nat} {lo hi : Int} {r : Int}

/-- What follows from a reading in the alert causes and the count below 58 V changes the tray's record only. -/
theorem belowStep_frame (b : Block) (n : Nat) : SameUnits b (b.belowStep n) := by
  unfold Block.belowStep
  exact .ite ⟨rfl, rfl, rfl, rfl, rfl, rfl, rfl⟩ (.refl b)

theorem sensorAlert_frame (b : Block) : SameUnits b b.sensorAlert := .ite ((SameUnits.refl b).setAlert 5) ((SameUnits.refl b).clearAlert 5)

/-- The block that has taken the record of a sensor. -/
def sensorTaken (b : Block) (n : Nat) (y : Sensor) : Block := ((b.setSensor n y).sensorAlert).belowStep n

theorem sensorTaken_frame (b : Block) (n : Nat) (y : Sensor) : SameUnits (b.setSensor n y) (sensorTaken b n y) :=
  (sensorAlert_frame _).trans (belowStep_frame _ n)

section Valid

variable (hr : sensorRange n = some (lo, hi)) (hlo : lo ≤ r) (hhi : r ≤ hi)
include hr hlo hhi

/-- A valid reading of a sensor in use is its value; the other sensors, memory and programs stay. -/
theorem sensorSample_valid (hsub : (s.blk.sensor n).substituted = false) : Completes (.sensorSample n r) s (fun t =>
    (t.blk.sensor n).value = r ∧ (t.blk.sensor n).valid = true ∧ t.blk.mem = s.blk.mem ∧ t.blk.hws = s.blk.hws ∧
    ∀ j, j ≠ n → t.blk.sensor j = s.blk.sensor j) := by
  have hused := (sensorTaken_frame s.blk n { s.blk.sensor n with value := r, valid := true, good := 0, substituted := false }).sensed n
  simp only [Completes, exec_sensorSample, execSensorSample, State.run_eq, hr, if_pos (And.intro hlo hhi), hsub, Bool.false_eq_true,
    if_false, Bool.false_and, show decide (1000 ≤ 0) = false from rfl, false_and, and_false]
  refine ⟨_, rfl, ?_, ?_, hused.mem, hused.hws, fun j hj => (hused.sensor j).trans (Block.setSensor_sensor_ne _ _ _ _ hj)⟩
  all_goals exact (congrArg _ ((hused.sensor n).trans (Block.setSensor_sensor ..))).trans rfl

/-- A substituted one counts its valid readings until it is used again. -/
theorem sensorSample_counts (hsub : (s.blk.sensor n).substituted = true) (hg : (s.blk.sensor n).good + 1 < 1000) :
    Completes (.sensorSample n r) s (fun t => (t.blk.sensor n).substituted = true ∧ (t.blk.sensor n).good = (s.blk.sensor n).good + 1) := by
  have htaken := (sensorTaken_frame s.blk n
    { s.blk.sensor n with value := r, valid := true, good := (s.blk.sensor n).good + 1, substituted := true }).sensor n
  have hback : decide (1000 ≤ (s.blk.sensor n).good + 1) = false := decide_eq_false (Nat.not_le.mpr hg)
  simp only [Completes, exec_sensorSample, execSensorSample, State.run_eq, hr, if_pos (And.intro hlo hhi), hsub, if_true, hback,
    Bool.not_false, Bool.and_self, Bool.false_eq_true, if_false]
  refine ⟨_, rfl, ?_, ?_⟩
  all_goals exact (congrArg _ (htaken.trans (Block.setSensor_sensor ..))).trans rfl

end Valid

/-- A reading outside the range is counted, and no more than noted. -/
theorem sensorSample_outside (hr : sensorRange n = some (lo, hi)) (h : r < lo ∨ hi < r) : Completes (.sensorSample n r) s (fun t =>
    (t.blk.sensor n).valid = false ∧ (t.blk.sensor n).invalids = (s.blk.sensor n).invalids + 1 ∧
    (t.blk.sensor n).substituted = (s.blk.sensor n).substituted) := by
  have hout : ¬(lo ≤ r ∧ r ≤ hi) := by omega
  simp only [Completes, exec_sensorSample, execSensorSample, State.run_eq, hr, if_neg hout]
  refine ⟨_, rfl, ?_⟩
  rw [(belowStep_frame ..).sensor n, Block.setSensor_sensor]
  exact ⟨rfl, rfl, rfl⟩

/-- A dim step that is set acts on rates, clocks and guest dies only. -/
theorem dimStep_frame (c : Block) (f : Power → Power) :
    (((c.updPower f).wire 4).shed).sensors = c.sensors ∧ (((c.updPower f).wire 4).shed).mem = c.mem :=
  have h := ((SameUnits.refl (c.updPower f)).wire 4).shed
  ⟨h.sensors, h.mem⟩

theorem enterDim_frame (c : Block) {n : Nat} (hn : n < 4) : (c.enterDim n).sensors = c.sensors ∧ (c.enterDim n).mem = c.mem := by
  unfold Block.enterDim
  rw [if_neg (Nat.not_le.mpr hn)]
  exact dimStep_frame c _

/-- A sensor without a valid reading is substituted; both voltages substituted hold dim step 1 (R320). -/
theorem sensorInvalid_substitutes (hr : (sensorRange n).isSome = true) (hv : (s.blk.sensor n).valid = false)
    (hsub : (s.blk.sensor n).substituted = false) :
    Completes (.sensorInvalid n) s (fun t => (t.blk.sensor n).substituted = true ∧ t.blk.mem = s.blk.mem) := by
  have hdue : ¬((sensorRange n).isNone = true ∨ (s.blk.sensor n).valid = true ∨ (s.blk.sensor n).substituted = true) := by
    simp [Option.isNone_iff_eq_none, hv, hsub, Option.isSome_iff_ne_none.mp hr]
  have hsensed := ((((SameUnits.refl (s.blk.setSensor n { s.blk.sensor n with substituted := true, good := 0 })).raise unitModule
    .sensorInvalid [n]).trans (sensorAlert_frame _)).sensed n)
  simp only [Completes, exec_sensorInvalid, execSensorInvalid, State.run_eq, if_neg hdue]
  refine ⟨_, rfl, ?_⟩
  generalize Block.sensed _ n = c at hsensed ⊢
  have hset : (s.blk.setSensor n { s.blk.sensor n with substituted := true, good := 0 }).sensor n =
    { s.blk.sensor n with substituted := true, good := 0 } := Block.setSensor_sensor ..
  have hheld {d : Block} (hd : d.sensors = c.sensors ∧ d.mem = c.mem) : (d.sensor n).substituted = true ∧ d.mem = s.blk.mem := by
    refine ⟨?_, hd.2.trans hsensed.mem⟩
    rw [Block.sensor, hd.1]
    exact congrArg Sensor.substituted ((hsensed.sensor n).trans hset)
  dsimp only
  split
  · split
    · exact hheld (enterDim_frame c (by decide))
    · split
      · exact hheld ⟨rfl, rfl⟩
      · exact hheld (dimStep_frame c _)
  · exact hheld ⟨rfl, rfl⟩

theorem sensorInvalid_not (h : (s.blk.sensor n).valid = true ∨ (s.blk.sensor n).substituted = true) :
    exec (.sensorInvalid n) s = .next s := by
  simp only [exec_sensorInvalid, execSensorInvalid, State.run_eq, if_pos (Or.inr h : (sensorRange n).isNone = true ∨ _)]

end Sensors

/-! ### The service bus (R321) -/

theorem serviceBusNoBeacon_stops (hd : s.blk.start.level ≠ .dark) (hb : s.blk.tray.busTx = true) (hn : s.blk.tray.noBeacon = false) :
    exec .serviceBusNoBeacon s = .next (s.withBlk
      (({ s.blk with tray := { s.blk.tray with noBeacon := true } } : Block).raise unitModule .serviceBusNoBeacon [])) := by
  simp only [exec_serviceBusNoBeacon, execServiceBusNoBeacon, State.run_eq]
  rw [if_neg (by simp [hd, hb, hn])]

/-- Settles O44: each row of the tray by the readings and the level under which it acts. -/
theorem tray : Obligations.Tray := by
  unfold Obligations.Tray
  refine ⟨fun s => ⟨supplyHigh_raises, supplyHigh_silent, supplyHighClear_clears, supplyHighClear_stays, supplyOvervoltage_latches,
      coolantWarm_derates, coolantWarm_silent, coolantDerateClear_stays, coolantDerateClear_clears, coolantHot_stops, coolantHot_stays,
      fun i => coolantLeak_stops, fun i => coolantLeak_invalid, flowLost_glitch, flowLost_noGlitch, flowLost_off, flowLost_stops,
      trayPowerWarn_stops, trayPowerWarn_off, fun n => trayReset_short, fun n => trayReset_runt, fun n => trayReset_resets⟩,
    fun s => ⟨fun xs hd ht v => slotIdSample_agreed hd ht, fun xs => slotIdSample_invalid, fun xs => slotIdSample_inService,
      fun n lo hi r hr hlo hhi => ⟨sensorSample_valid hr hlo hhi, sensorSample_counts hr hlo hhi⟩,
      fun n lo hi r => sensorSample_outside, fun n => sensorInvalid_substitutes, fun n => sensorInvalid_not,
      serviceBusNoBeacon_stops, rfl⟩⟩

end Sys2Proof

/-! PROOFS. Power and temperatures (R375, R380, R382, R387 to R390): the module limit, the windows of the limiter, a reading at a unit's
limit, trips and dim steps. -/

namespace Sys2Proof

open Sys2Proof.Machine

theorem exec_powerWindow (acts : List Activity) (s : State) : exec (.powerWindow acts) s = execPowerWindow acts s := rfl
theorem exec_estimatorRefit (s : State) : exec .estimatorRefit s = execEstimatorRefit s := rfl
theorem exec_disagreementCheck (m e : Nat) (p : Bool) (s : State) : exec (.disagreementCheck m e p) s = execDisagreementCheck m e p s := rfl
theorem exec_thermalSample (u : Nat) (v : Int) (s : State) : exec (.thermalSample u v) s = execThermalSample u v s := rfl
theorem exec_thermalTrip (u : Nat) (s : State) : exec (.thermalTrip u) s = execThermalTrip u s := rfl
theorem exec_dimStepEnter (n : Nat) (s : State) : exec (.dimStepEnter n) s = execDimStepEnter n s := rfl
theorem exec_dimStepExit (n : Nat) (s : State) : exec (.dimStepExit n) s = execDimStepExit n s := rfl

/-! ### The module limit (R375) -/

/-- The lowest of some sources is one of them, and none is lower. -/
theorem lowest_least (x : Nat × Nat) (t : List (Nat × Nat)) :
    lowest (x :: t) ∈ x :: t ∧ ∀ y ∈ x :: t, (lowest (x :: t)).1 ≤ y.1 := by
  induction t generalizing x with
  | nil => simp [lowest]
  | cons z t ih =>
    obtain ⟨hmem, hle⟩ := ih z
    have hlow : lowest (x :: z :: t) = if (lowest (z :: t)).1 < x.1 then lowest (z :: t) else x := rfl
    rw [hlow]
    split
    next h =>
      refine ⟨List.mem_cons_of_mem _ hmem, fun y hy => ?_⟩
      rcases List.mem_cons.mp hy with rfl | hy
      · exact h.le
      · exact hle y hy
    next h =>
      refine ⟨List.mem_cons_self, fun y hy => ?_⟩
      rcases List.mem_cons.mp hy with rfl | hy
      · exact le_rfl
      · exact (Nat.le_of_not_lt h).trans (hle y hy)

/-- The configured limit is always a source. -/
theorem limits_cons (b : Block) : ∃ x t, b.limits = x :: t := ⟨_, _, rfl⟩

theorem updLimit_power (b : Block) :
    b.updLimit.power.limit = (lowest b.limits).1 ∧ b.updLimit.power.source = (lowest b.limits).2 := by
  unfold Block.updLimit
  dsimp only
  split
  · exact ⟨rfl, rfl⟩
  · simp

/-! ### Windows (R382) -/

theorem ceiling_le (b : Block) (l : Nat) : b.ceiling l ≤ 16 := by
  unfold Block.ceiling
  split <;> omega

/-- The rates of the lanterns stand within 16 sixteenths. -/
structure RatesBounded (b : Block) : Prop where
  rate : ∀ l, l < 64 → (b.lantern l).rate ≤ 16

namespace RatesBounded

variable {b c : Block}

/-- Operations that leave the lanterns alone keep the rates. -/
theorem of_lanterns (h : RatesBounded b) (hl : c.lanterns = b.lanterns) : RatesBounded c where
  rate l hlt := by
    rw [Block.lantern, hl]
    exact h.rate l hlt

theorem ite {p : Prop} [Decidable p] (hb : RatesBounded b) (hc : RatesBounded c) : RatesBounded (if p then b else c) := by
  split
  · exact hb
  · exact hc

theorem foldl {α : Type} {f : Block → α → Block} (hf : ∀ a x, RatesBounded a → RatesBounded (f a x)) {l : List α} (h : RatesBounded b) :
    RatesBounded (l.foldl f b) :=
  List.foldlRecOn (motive := RatesBounded) _ _ h (fun a ha x _ => hf a x ha)

theorem updLantern (h : RatesBounded b) (k : Nat) {f : Lantern → Lantern} (hf : ∀ x, (f x).rate = x.rate) :
    RatesBounded (b.updLantern k f) where
  rate l hl := by
    by_cases hk : l = k
    · rw [hk, Block.updLantern_eq, Block.setLantern_lantern, hf]
      exact h.rate k (hk ▸ hl)
    · rw [Block.updLantern_eq, Block.setLantern_lantern_ne _ _ _ _ hk]
      exact h.rate l hl

theorem raise (h : RatesBounded b) (u : Nat) (e : Ev) (args : List Nat) : RatesBounded (b.raise u e args) := h.of_lanterns (by simp)

theorem updPower (h : RatesBounded b) (f : Power → Power) : RatesBounded (b.updPower f) := h.of_lanterns rfl

theorem updCluster (h : RatesBounded b) (k : Nat) (f : Cluster → Cluster) : RatesBounded (b.updCluster k f) := h.of_lanterns rfl

theorem regrant (h : RatesBounded b) (cl : Nat) : RatesBounded (b.regrant cl) := ite h (h.updCluster ..)

theorem regrantAll (h : RatesBounded b) : RatesBounded b.regrantAll := foldl (fun _ cl ha => ha.regrant cl) h

theorem reOp (h : RatesBounded b) (l : Nat) : RatesBounded (b.reOp l) := by
  unfold Block.reOp
  exact h.updLantern l (fun _ => rfl)

theorem setBoost (h : RatesBounded b) (l : Nat) (v : Bool) : RatesBounded (b.updLantern l (fun x => { x with boost := v })) :=
  h.updLantern l (fun _ => rfl)

theorem unboost (h : RatesBounded b) (l : Nat) : RatesBounded (b.unboost l) :=
  ite (((h.updPower ..).setBoost l false).reOp l) (h.updPower ..)

theorem boostStep (h : RatesBounded b) (l : Nat) (old : Int) : RatesBounded (b.boostStep l old) :=
  ite (h.unboost l) (ite h (ite (h.updPower ..) (ite h ((h.setBoost l true).reOp l))))

/-- Rates that are set lantern by lantern under a ceiling are bounded. -/
theorem of_set {α : Type} (key : α → Nat) (rate : α → Nat) (hrate : ∀ x, rate x ≤ 16) (xs : List α) (b : Block)
    (h : ∀ l, l < 64 → l ∈ xs.map key ∨ (b.lantern l).rate ≤ 16) :
    RatesBounded (xs.foldl (fun (c : Block) x => c.updLantern (key x) (fun y => { y with rate := rate x })) b) := by
  induction xs generalizing b with
  | nil => exact ⟨fun l hl => (h l hl).resolve_left (by simp)⟩
  | cons x xs ih =>
    refine ih _ (fun l hl => ?_)
    dsimp only
    by_cases hx : l = key x
    · exact .inr (by rw [hx, Block.updLantern_eq, Block.setLantern_lantern]; exact hrate x)
    · rw [Block.updLantern_eq, Block.setLantern_lantern_ne _ _ _ _ hx]
      exact (h l hl).imp_left (fun hm => (List.mem_cons.mp hm).resolve_left hx)

end RatesBounded

/-- The clusters that are granted less than they ask count the time of a window (R392). -/
def countCapped (b : Block) : Block :=
  (List.range 8).foldl (fun (c : Block) cl =>
    if (c.cluster cl).grant < (c.cluster cl).req then c.updCluster cl (fun x => { x with cappedTime := x.cappedTime + 4 }) else c) b

theorem countCapped_same (b : Block) : SameUnits b (countCapped b) := .foldl (fun _ _ h => .ite (h.updCluster ..) h) (.refl b)

theorem countCapped_rates {b : Block} (h : RatesBounded b) : RatesBounded (countCapped b) := .foldl (fun _ _ h => .ite (h.updCluster ..) h) h

/-- What a window of the limiter leaves: it is counted, memory and programs stay, every rate is within 16 (R382). -/
structure Windowed (b c : Block) : Prop where
  windows : c.power.windows = b.power.windows + 1
  mem : c.mem = b.mem
  lines : c.lines = b.lines
  hws : c.hws = b.hws
  contexts : c.contexts = b.contexts
  rates : RatesBounded c

/-- A window is counted between operations that leave the units alone. -/
theorem Windowed.of_counted {b c d : Block} {f : Power → Power} (h : SameUnits b c) (hf : (f c.power).windows = c.power.windows + 1)
    (hd : SameUnits (c.updPower f) d) (hr : RatesBounded d) : Windowed b d :=
  ⟨(hd.windows.trans hf).trans (by rw [h.windows]), hd.mem.trans h.mem, hd.lines.trans h.lines, hd.hws.trans h.hws,
    hd.contexts.trans h.contexts, hr⟩

section On

variable {s : State} (hon : s.blk.tray.rails = true)
include hon

theorem rails_take : ¬((!s.blk.tray.rails) = true) := by simp [hon]

theorem powerWindow_windowed (acts : List Activity) :
    ∃ c, exec (.powerWindow acts) s = .next (s.withBlk c) ∧ Windowed s.blk c := by
  rw [exec_powerWindow, execPowerWindow, State.run_eq, if_neg (rails_take hon)]
  refine ⟨_, rfl, ?_⟩
  extract_lets b actOf es sum eta k p lim old plan cut floorAll low keepersLow rates b1 b2 b3 stuck b4 b5 b6
  have h1 : SameUnits s.blk b1 := .foldl (fun _ _ h => h.updLantern ..) (SameUnits.refl s.blk).updLimit
  have h2 : SameUnits s.blk b2 := .ite (.foldl (fun _ _ h => h.updCluster ..) h1) (.ite (.foldl (fun _ _ h => h.updCluster ..) h1) h1)
  have h3 : SameUnits s.blk b3 := h2.regrantAll
  have h6 : SameUnits b4 b6 := .foldl (fun _ _ h => (h.boostStep ..).windowCounts ..) (.ite ((SameUnits.refl b4).raise ..) (.refl b4))
  have r1 : RatesBounded b1 := .of_set Prod.fst _ (fun x => (Nat.min_le_right ..).trans (ceiling_le ..)) es b
    (fun l hl => .inl (by simp [es, List.map_map, hl]))
  have r2 : RatesBounded b2 := .ite (.foldl (fun _ _ h => h.updCluster ..) r1) (.ite (.foldl (fun _ _ h => h.updCluster ..) r1) r1)
  have r4 : RatesBounded b4 := r2.regrantAll.updPower _
  have r6 : RatesBounded b6 := .foldl (fun _ _ h => (h.boostStep ..).updPower _) (.ite (r4.raise ..) r4)
  have hend : SameUnits b4 (countCapped b6) := h6.trans (countCapped_same b6)
  change Windowed s.blk (countCapped b6)
  exact .of_counted h3 rfl hend (countCapped_rates r6)

/-! ### Re-fit and disagreement (R379, R380) -/

theorem estimatorRefit_fits (hr : s.blk.readingsBad = false) :
    exec .estimatorRefit s = .next (s.withBlk (s.blk.updPower (fun x => { x with refits := x.refits + 1 }))) := by
  simp only [exec_estimatorRefit, execEstimatorRefit, State.run_eq, hon, hr, Bool.not_true, Bool.false_eq_true, or_self, if_false]

end On

theorem estimatorRefit_bad {s : State} (hr : s.blk.readingsBad = true) : exec .estimatorRefit s = .next s := by
  simp only [exec_estimatorRefit, execEstimatorRefit, State.run_eq, hr, or_true, if_true]

/-- The measured power has been noted; memory and programs are those of a block. -/
structure Measured (b : Block) (m : Nat) (c : Block) : Prop where
  measured : c.power.measured = m
  mem : c.mem = b.mem
  hws : c.hws = b.hws

namespace Measured

variable {b c d : Block} {m : Nat}

theorem ite {p : Prop} [Decidable p] (hc : Measured b m c) (hd : Measured b m d) : Measured b m (if p then c else d) := by
  split
  · exact hc
  · exact hd

theorem updPower (h : Measured b m c) {f : Power → Power} (hf : (f c.power).measured = c.power.measured) : Measured b m (c.updPower f) :=
  ⟨hf.trans h.measured, h.mem, h.hws⟩

theorem raise (h : Measured b m c) (u : Nat) (e : Ev) (args : List Nat) : Measured b m (c.raise u e args) :=
  ⟨by simpa using h.measured, by simpa using h.mem, by simpa using h.hws⟩

end Measured

theorem disagreementCheck_measured {s : State} (hon : s.blk.tray.rails = true) (m e : Nat) (persisted : Bool) :
    ∃ c, exec (.disagreementCheck m e persisted) s = .next (s.withBlk c) ∧ Measured s.blk m c := by
  rw [exec_disagreementCheck, execDisagreementCheck, State.run_eq, if_neg (rails_take hon)]
  refine ⟨_, rfl, ?_⟩
  extract_lets b1 k q note b2
  have h1 : Measured s.blk m b1 := ⟨rfl, rfl, rfl⟩
  have hnote {c : Block} (hc : Measured s.blk m c) (ev : Ev) : Measured s.blk m (note c ev) := (hc.raise ..).updPower rfl
  have h2 : Measured s.blk m b2 :=
    .ite (.ite (hnote (h1.updPower rfl) _) h1) (.ite (.ite (hnote h1 _) h1) (h1.updPower rfl))
  exact .ite h1 (.ite ((h2.raise ..).updPower rfl) (.ite (h2.updPower rfl) h2))

/-! ### Temperatures (R387, R388) -/

section Heat

variable {b : Block} {u : Nat} {lim rel trip v : Int} {most : Nat} (hl : thermalLimits u = some (lim, rel, trip, most))

theorem regrantAll_power (c : Block) : c.regrantAll.power = c.power :=
  List.foldlRecOn (motive := fun d : Block => d.power = c.power) _ _ rfl (fun a ha cl _ => by
    unfold Block.regrant
    dsimp only
    split
    · exact ha
    · exact ha)

/-- What the clusters of a hot keeper die are granted does not touch the thermal records. -/
theorem regranted_thermal {p : Prop} [Decidable p] (c : Block) (j : Nat) : (if p then c.regrantAll else c).thermal j = c.thermal j := by
  split
  · rw [Block.thermal, regrantAll_power]
    rfl
  · rfl

include hl

/-- A reading at the limit: the unit is limited and its ceiling falls a step (R387). -/
theorem heat_limited (hv : lim ≤ v) :
    (b.heat u v).thermal u = { milliC := v, limited := true, lowered := min most ((b.thermal u).lowered + 1) } := by
  unfold Block.heat
  simp only [hl, if_pos hv, regranted_thermal]
  have hraised (c : Block) : (if 0x600 ≤ u ∧ (!(b.thermal u).limited) = true then
      (c.raise (thermalUnit u) .dimmHot [u - 0x600]).setAlert 7 else c).thermal u = c.thermal u := by
    split
    · simp [Block.thermal]
    · rfl
  rw [hraised]
  split
  · exact tget_tput_same ..
  · simp [Block.thermal, Block.updPower]

/-- One below the release: the unit is free again and its ceiling rises a step. -/
theorem heat_released (hv : v < rel) (hrel : rel ≤ lim) :
    (b.heat u v).thermal u = { milliC := v, limited := false, lowered := (b.thermal u).lowered - 1 } := by
  unfold Block.heat
  simp only [hl, if_neg (show ¬lim ≤ v by omega), if_pos hv, regranted_thermal]
  split
  · exact tget_tput_same ..
  · exact tget_tput_same ..

variable {s : State}

theorem thermalTrip_trips (hon : s.blk.tray.rails = true) (ht : trip ≤ (s.blk.thermal u).milliC) : exec (.thermalTrip u) s = .next (s.withBlk
    (((s.blk.updPower (fun x => { x with trips := x.trips + 1 })).raise (thermalUnit u) .thermalTrip [u]).logAndOff)) := by
  simp only [exec_thermalTrip, execThermalTrip, State.run_eq, hl, hon]
  rw [if_neg (by simpa using ht)]

theorem thermalTrip_cool (ht : (s.blk.thermal u).milliC < trip) : exec (.thermalTrip u) s = .next s := by
  simp only [exec_thermalTrip, execThermalTrip, State.run_eq, hl, if_pos (Or.inr ht : _ ∨ _)]

end Heat

/-! ### Dim steps (R389, R390) -/

section Dim

variable {s : State} {n : Nat}

section Enter

variable (hon : s.blk.tray.rails = true) (hn : s.blk.power.dim < n)
include hon hn

theorem dimStepEnter_enters (h4 : n ≤ 4)
    (hs : (s.blk.sensor 0).substituted = false ∨ (s.blk.sensor 1).substituted = false ∨ n = 1) :
    exec (.dimStepEnter n) s = .next (s.withBlk (s.blk.enterDim n)) := by
  simp only [exec_dimStepEnter, execDimStepEnter, State.run_eq, hon]
  rw [if_neg]
  rintro (h | h | h | ⟨h0, h1, hlt⟩)
  · exact absurd h (by decide)
  · omega
  · omega
  · rcases hs with hs | hs | hs
    · simp [hs] at h0
    · simp [hs] at h1
    · omega

theorem dimStepEnter_sheds (h4 : n < 4)
    (hs : (s.blk.sensor 0).substituted = false ∨ (s.blk.sensor 1).substituted = false ∨ n = 1) :
    Completes (.dimStepEnter n) s (fun t => t.blk.power.dim = n ∧ t.blk.mem = s.blk.mem ∧ t.blk.contexts = s.blk.contexts) := by
  refine .of_exec (dimStepEnter_enters hon hn h4.le hs) ?_
  unfold Block.enterDim
  dsimp only
  rw [if_neg (Nat.not_le.mpr h4)]
  have h := ((SameUnits.refl (s.blk.updPower (fun x => { x with
    dim := n, dimEntries := (List.range 4).foldl (fun (t : Tab Nat) i => if x.dim ≤ i ∧ i < n then tinc t i 1 else t) x.dimEntries }))).wire
      4).shed
  exact ⟨h.dim, h.mem, h.contexts⟩

end Enter

/-- Step 4 is the orderly dark (R390). -/
theorem dimStepEnter_dark (hon : s.blk.tray.rails = true) (hn : s.blk.power.dim < 4)
    (hs : (s.blk.sensor 0).substituted = false ∨ (s.blk.sensor 1).substituted = false) :
    Completes (.dimStepEnter 4) s (fun t => t.blk.start.level = .dark ∧ t.blk.tray.rails = false) :=
  .of_exec (dimStepEnter_enters hon hn le_rfl (hs.imp_right .inl)) ⟨rfl, rfl⟩

theorem dimStepEnter_entered (h : n ≤ s.blk.power.dim) : exec (.dimStepEnter n) s = .next s := by
  simp only [exec_dimStepEnter, execDimStepEnter, State.run_eq, h, true_or, or_true, if_true]

theorem dimStepEnter_blind (h : 1 < n) (h0 : (s.blk.sensor 0).substituted = true) (h1 : (s.blk.sensor 1).substituted = true) :
    exec (.dimStepEnter n) s = .next s := by
  simp only [exec_dimStepEnter, execDimStepEnter, State.run_eq, h0, h1, h, and_self, or_true, if_true]

section Exit

variable (hon : s.blk.tray.rails = true) (h1 : 1 ≤ n) (h4 : n < 4) (hn : n ≤ s.blk.power.dim)
  (hs : (s.blk.sensor 0).substituted = false ∨ (s.blk.sensor 1).substituted = false)
include hon h1 h4 hn hs

theorem dimStepExit_exits : exec (.dimStepExit n) s = .next (s.withBlk
    (((s.blk.updPower (fun x => { x with dim := n - 1 })).wire 4).shed)) := by
  simp only [exec_dimStepExit, execDimStepExit, State.run_eq, hon]
  rw [if_neg]
  rintro (h | h | h | h | ⟨h0, h1⟩)
  · exact absurd h (by decide)
  · omega
  · omega
  · omega
  · rcases hs with hs | hs
    · simp [hs] at h0
    · simp [hs] at h1

theorem dimStepExit_leaves : Completes (.dimStepExit n) s (fun t => t.blk.power.dim = n - 1 ∧ t.blk.mem = s.blk.mem) := by
  refine .of_exec (dimStepExit_exits hon h1 h4 hn hs) ?_
  generalize n - 1 = m
  have h := ((SameUnits.refl (s.blk.updPower (fun x => { x with dim := m }))).wire 4).shed
  constructor
  · rw [State.withBlk, h.dim]
    rfl
  · rw [State.withBlk, h.mem]
    rfl

end Exit

end Dim

/-! ### With the rails off -/

section Off

variable {s : State} (hoff : s.blk.tray.rails = false)
include hoff

theorem powerWindow_off (acts : List Activity) : exec (.powerWindow acts) s = .next s := by
  simp only [exec_powerWindow, execPowerWindow, State.run_eq, hoff, Bool.not_false, if_true]

theorem estimatorRefit_off : exec .estimatorRefit s = .next s := by
  simp only [exec_estimatorRefit, execEstimatorRefit, State.run_eq, hoff, Bool.not_false, true_or, if_true]

theorem disagreementCheck_off (m e : Nat) (p : Bool) : exec (.disagreementCheck m e p) s = .next s := by
  simp only [exec_disagreementCheck, execDisagreementCheck, State.run_eq, hoff, Bool.not_false, if_true]

theorem thermalSample_off (u : Nat) (v : Int) : exec (.thermalSample u v) s = .next s := by
  simp only [exec_thermalSample, execThermalSample, State.run_eq, hoff, Bool.not_false, if_true]

theorem thermalTrip_off (u : Nat) : exec (.thermalTrip u) s = .next s := by
  simp only [exec_thermalTrip, execThermalTrip, State.run_eq, hoff, Bool.not_false, true_or, if_true]
  split <;> rfl

theorem dimStep_off (n : Nat) : exec (.dimStepEnter n) s = .next s ∧ exec (.dimStepExit n) s = .next s := by
  simp only [exec_dimStepEnter, execDimStepEnter, exec_dimStepExit, execDimStepExit, State.run_eq, hoff, Bool.not_false, true_or,
    if_true, and_self]

end Off

theorem thermalSample_heats {s : State} (hon : s.blk.tray.rails = true) (u : Nat) (v : Int) :
    exec (.thermalSample u v) s = .next (s.withBlk (s.blk.heat u v)) := by
  simp only [exec_thermalSample, execThermalSample, State.run_eq, if_neg (rails_take hon)]

/-- Settles O45: the limit by its sources, the window and the readings by what they leave, the dim steps by their order. -/
theorem powerLimits : Obligations.PowerLimits := by
  unfold Obligations.PowerLimits
  refine ⟨fun s hon => ⟨?least, ?source, fun acts => ?window, estimatorRefit_fits hon, estimatorRefit_bad,
      fun m e p => ?measured, thermalSample_heats hon,
      fun u lim rel trip most hl => ⟨fun v hv => ?limited, fun v hv hrel => ?released, thermalTrip_trips hl hon, thermalTrip_cool hl⟩,
      fun n hn h4 => dimStepEnter_sheds hon hn h4, dimStepEnter_dark hon, fun n => dimStepEnter_entered, fun n => dimStepEnter_blind,
      fun n h1 h4 hn => dimStepExit_leaves hon h1 h4 hn⟩,
    fun s hoff => ⟨powerWindow_off hoff, estimatorRefit_off hoff, disagreementCheck_off hoff, thermalSample_off hoff, thermalTrip_off hoff,
      dimStep_off hoff⟩⟩
  case least =>
    obtain ⟨x, t, hlim⟩ := limits_cons s.blk
    rw [(updLimit_power s.blk).1, hlim]
    exact (lowest_least x t).2
  case source =>
    obtain ⟨x, t, hlim⟩ := limits_cons s.blk
    rw [(updLimit_power s.blk).1, (updLimit_power s.blk).2, hlim]
    exact ⟨_, (lowest_least x t).1, rfl, rfl⟩
  case window =>
    obtain ⟨c, hc, hw⟩ := powerWindow_windowed hon acts
    exact .of_exec hc ⟨hw.windows, hw.mem, hw.lines, hw.hws, hw.contexts, hw.rates.rate⟩
  case measured =>
    obtain ⟨c, hc, hm⟩ := disagreementCheck_measured hon m e p
    exact .of_exec hc ⟨hm.measured, hm.mem, hm.hws⟩
  case limited =>
    rw [heat_limited hl hv]
    exact ⟨rfl, rfl, rfl⟩
  case released =>
    rw [heat_released hl hv hrel]
    exact ⟨rfl, rfl, rfl⟩

end Sys2Proof

/-! PROOFS. Sessions of the Light List Protocol (R321, R353 to R360): the opening, confirmation and end of a session, and the messages on
one that are dropped, repeated, refused and run. -/

namespace Sys2Proof

open Sys2Proof.Machine

theorem exec_sessionInit (mb : Option Nat) (sl : Nat) (mc : Bool) (body : InitBody) (role : Role) (s : State) :
    exec (.sessionInit mb sl mc body role) s = execSessionInit mb sl mc body role s := rfl
theorem exec_sessionConfirm (n : Nat) (ok : Bool) (s : State) : exec (.sessionConfirm n ok) s = execSessionConfirm n ok s := rfl
theorem exec_sessionClose (n : Nat) (s : State) : exec (.sessionClose n) s = execSessionClose n s := rfl
theorem exec_sessionTimeout (n : Nat) (s : State) : exec (.sessionTimeout n) s = execSessionTimeout n s := rfl

/-- A value put into a table at another key leaves what is found. -/
theorem tfind_tput_ne {α : Type} (t : Tab α) (k j : Nat) (v : α) (h : j ≠ k) : tfind (tput t k v) j = tfind t j := by
  induction t with
  | nil => simp [tput, tfind, Ne.symm h]
  | cons e t ih =>
    obtain ⟨i, w⟩ := e
    unfold tput
    split
    · simp [tfind, Ne.symm h]
    · split
      · subst_vars; simp [tfind, Ne.symm h]
      · simp [tfind, ih]

/-! ### Replies -/

/-- What the sending of a reply leaves alone. -/
structure SameWork (b c : Block) : Prop where
  sessions : c.sessions = b.sessions
  cmds : c.cmds = b.cmds
  store : c.store = b.store
  mem : c.mem = b.mem
  security : c.security = b.security

theorem sendReply_same (b : Block) (place : Nat) (tag : Bool) : SameWork b (b.sendReply place tag) := by
  unfold Block.sendReply
  split
  · exact ⟨rfl, rfl, rfl, rfl, rfl⟩
  · constructor <;> simp

/-- A reply through a mailbox frees it, and waits in its reply window. -/
theorem sendReply_mailbox (b : Block) (k : Nat) (tag : Bool) :
    ((b.sendReply (8 + k) tag).mailbox k).busy = false ∧ ((b.sendReply (8 + k) tag).mailbox k).replyReady = true := by
  simp [Block.sendReply]

theorem replyTo_same (b : Block) (place : Nat) (st : Sts) (body : List Byte) (tag : Bool) :
    SameWork { b with cmds := { b.cmds with reply := { status := st, body := body } } } (b.replyTo place st body tag) :=
  sendReply_same _ _ _

/-- The reply of a request is kept with its session, whose subscription and counter stay. -/
theorem keepReply_keeps (b : Block) (i r : Nat) :
    (b.keepReply i r).cmds = b.cmds ∧ (b.keepReply i r).store = b.store ∧ (b.keepReply i r).mem = b.mem ∧
    ∀ x, tfind b.sessions i = some x → ∃ ks k, tfind (b.keepReply i r).sessions i = some { x with sent := k, kept := ks } := by
  cases hx : tfind b.sessions i with
  | none =>
    simp only [Block.keepReply, hx, true_and]
    simp
  | some x =>
    simp only [Block.keepReply, hx]
    refine ⟨(sendReply_same _ i true).cmds, (sendReply_same _ i true).store, (sendReply_same _ i true).mem, ?_⟩
    rintro y ⟨⟩
    exact ⟨_, _, (congrArg (tfind · i) (sendReply_same _ i true).sessions).trans (tfind_tput_same _ _ _)⟩

/-- A push to a session changes no subscription and no counter. -/
theorem pushTo_keeps (b : Block) (i : Nat) :
    (b.pushTo i).cmds = b.cmds ∧ (b.pushTo i).store = b.store ∧ (b.pushTo i).mem = b.mem ∧
    ∀ x, tfind b.sessions i = some x →
      ∃ w k p, tfind (b.pushTo i).sessions i = some { x with waiting := w, sent := k, pushed := p } := by
  cases hx : tfind b.sessions i with
  | none =>
    simp only [Block.pushTo, hx, true_and]
    simp
  | some x =>
    have hput (w k p) : tfind (tput b.sessions i { x with waiting := w, sent := k, pushed := p }) i =
        some { x with waiting := w, sent := k, pushed := p } := tfind_tput_same _ _ _
    rcases lt_or_ge i 8 with h8 | h8
    · simp only [Block.pushTo, hx, if_pos h8]
      split
      · exact ⟨rfl, rfl, rfl, by rintro y ⟨⟩; exact ⟨_, _, _, hx⟩⟩
      · exact ⟨rfl, rfl, rfl, by rintro y ⟨⟩; exact ⟨_, _, _, hput _ _ _⟩⟩
    · simp only [Block.pushTo, hx, if_neg (Nat.not_lt.2 h8)]
      split
      · exact ⟨rfl, rfl, rfl, by rintro y ⟨⟩; exact ⟨_, _, _, hx⟩⟩
      · refine ⟨by simp, by simp, by simp, ?_⟩
        rintro y ⟨⟩
        exact ⟨_, _, _, by simpa using hput (x.waiting.drop 20) (x.sent + 1) (x.waiting.take 20)⟩

/-! ### SESSION_INIT (R353, R356) -/

/-- SESSION_INIT that is heard, for the place that is free. -/
def initAt (b : Block) (place : Option Nat) (reply : Nat) (body : InitBody) (role : Role) : Block :=
  if 1280 < body.bytes then b.replyTo reply .tooLarge [] false
  else
    match place with
    | none => b.replyTo reply .busy [] false
    | some i =>
      if !body.chainOk then b.replyTo reply .badSignature [] false
      else
        ({ b with
          sessions := tput b.sessions i { number := b.security.nextSession, role := role }
          security := { b.security with nextSession := (b.security.nextSession + 1) % 2 ^ 32 } } : Block).replyTo i .ok
            (leBytes 4 b.security.nextSession ++ Config.recBytes 0x78000001 [b.security.nextSession]) false

section Init

variable {s : State} {sl i reply : Nat} {mc : Bool} {body : InitBody} {role : Role}

theorem sessionInit_dark (hd : s.blk.start.level = .dark) (mb : Option Nat) : exec (.sessionInit mb sl mc body role) s = .next s := by
  simp only [exec_sessionInit, execSessionInit, State.run_eq, hd, true_or, if_true]

/-- A multicast SESSION_INIT of another slot identity, or one that a silent module could not answer, is not heard. -/
theorem sessionInit_unheard (h : s.blk.tray.busTx = false ∨ (sl ≠ 0xFF ∧ s.blk.tray.slotId ≠ some sl)) :
    exec (.sessionInit none sl true body role) s = .next s := by
  simp only [exec_sessionInit, execSessionInit, State.run_eq]
  rw [if_pos]
  rcases h with h | ⟨hf, hid⟩ <;> simp [*]

theorem sessionInit_bus (hd : s.blk.start.level ≠ .dark) (ht : s.blk.tray.busTx = true) (hn : s.blk.tray.noBeacon = false) :
    exec (.sessionInit none sl false body role) s =
      .next (s.withBlk (initAt s.blk ((List.range 8).find? (fun k => !thas s.blk.sessions k)) 0 body role)) := by
  simp only [exec_sessionInit, execSessionInit, State.run_eq]
  rw [if_neg (by simp [hd, ht, hn])]
  rfl

theorem sessionInit_mailbox {m : Nat} (hd : s.blk.start.level ≠ .dark) (hm : m < 4) (hb : (s.blk.mailbox m).busy = true)
    (hf : thas s.blk.sessions (8 + m) = false) :
    exec (.sessionInit (some m) sl mc body role) s = .next (s.withBlk (initAt s.blk (some (8 + m)) (8 + m) body role)) := by
  simp only [exec_sessionInit, execSessionInit, State.run_eq, hf]
  rw [if_neg (by simp [hd, hm, hb])]
  rfl

theorem initAt_tooLarge {b : Block} {place : Option Nat} (h : 1280 < body.bytes) :
    initAt b place reply body role = b.replyTo reply .tooLarge [] false := by
  simp only [initAt, if_pos h]

theorem initAt_full {b : Block} (h : body.bytes ≤ 1280) : initAt b none reply body role = b.replyTo reply .busy [] false := by
  simp only [initAt, if_neg (Nat.not_lt.2 h)]

theorem initAt_badChain {b : Block} (h : body.bytes ≤ 1280) (hc : body.chainOk = false) :
    initAt b (some i) reply body role = b.replyTo reply .badSignature [] false := by
  simp only [initAt, if_neg (Nat.not_lt.2 h), hc, Bool.not_false, if_true]

/-- The session that opens, and what its opening leaves. -/
theorem initAt_opens {b : Block} (h : body.bytes ≤ 1280) (hc : body.chainOk = true) :
    let c := initAt b (some i) reply body role
    tfind c.sessions i = some { number := b.security.nextSession, role := role } ∧
    c.security.nextSession = (b.security.nextSession + 1) % 2 ^ 32 ∧ c.cmds.reply.status = .ok ∧
    (∀ j, j ≠ i → tfind c.sessions j = tfind b.sessions j) ∧ c.mem = b.mem := by
  simp only [initAt, if_neg (Nat.not_lt.2 h), hc, Bool.not_true, Bool.false_eq_true, if_false]
  rw [(replyTo_same _ i _ _ _).sessions, (replyTo_same _ i _ _ _).security, (replyTo_same _ i _ _ _).cmds, (replyTo_same _ i _ _ _).mem]
  exact ⟨tfind_tput_same _ _ _, rfl, rfl, fun j hj => tfind_tput_ne _ _ _ _ hj, rfl⟩

theorem initAt_mailbox {b : Block} {m : Nat} (h : body.bytes ≤ 1280) (hc : body.chainOk = true) :
    ((initAt b (some (8 + m)) reply body role).mailbox m).busy = false ∧
    ((initAt b (some (8 + m)) reply body role).mailbox m).replyReady = true := by
  simp only [initAt, if_neg (Nat.not_lt.2 h), hc, Bool.not_true, Bool.false_eq_true, if_false]
  exact sendReply_mailbox _ _ _

end Init

/-! ### SESSION_CONFIRM, SESSION_CLOSE, SESSION_TIMEOUT (R356) -/

section Place

variable {s : State} {n i : Nat} {x : Session}

theorem session_unknown (h : s.blk.sessionAt n = none) : (∀ ok, exec (.sessionConfirm n ok) s = .next (s.withBlk s.blk.dropMsg)) ∧
    exec (.sessionClose n) s = .next s ∧ exec (.sessionTimeout n) s = .next s := by
  simp only [exec_sessionConfirm, execSessionConfirm, exec_sessionClose, execSessionClose, exec_sessionTimeout, execSessionTimeout,
    State.run_eq, h, implies_true, and_true]

/-- A place that can be answered: on the service bus, or a mailbox with a request in its window. -/
theorem not_noRequest {b : Block} (h : i < 8 ∨ (b.mailbox (i - 8)).busy = true) : ¬(8 ≤ i ∧ (!(b.mailbox (i - 8)).busy) = true) := by
  rintro ⟨h8, hb⟩
  rcases h with h | h
  · omega
  · simp [h] at hb

variable (h : s.blk.sessionAt n = some (i, x))
include h

theorem sessionConfirm_opens (hr : i < 8 ∨ (s.blk.mailbox (i - 8)).busy = true) (ho : x.opened = false) :
    Completes (.sessionConfirm n true) s (fun t =>
      tfind t.blk.sessions i = some { x with opened := true, sent := if s.blk.muted i then x.sent else x.sent + 1 } ∧
      t.blk.cmds.reply.status = .ok ∧ t.blk.mem = s.blk.mem) := by
  simp only [Completes, exec_sessionConfirm, execSessionConfirm, State.run_eq, h, not_noRequest hr, ho, Bool.false_eq_true, or_self,
    if_false, if_true]
  refine ⟨_, rfl, ?_⟩
  dsimp only
  rw [(replyTo_same _ i _ _ _).sessions, (replyTo_same _ i _ _ _).cmds, (replyTo_same _ i _ _ _).mem]
  exact ⟨tfind_tput_same _ _ _, rfl, rfl⟩

theorem sessionConfirm_badSignature (hr : i < 8 ∨ (s.blk.mailbox (i - 8)).busy = true) (ho : x.opened = false) :
    Completes (.sessionConfirm n false) s (fun t => t.blk.sessions = s.blk.sessions ∧ t.blk.cmds.reply.status = .badSignature) := by
  simp only [Completes, exec_sessionConfirm, execSessionConfirm, State.run_eq, h, not_noRequest hr, ho, Bool.false_eq_true, or_self,
    if_false]
  refine ⟨_, rfl, (replyTo_same _ i _ _ _).sessions, ?_⟩
  dsimp only
  rw [(replyTo_same _ i _ _ _).cmds]

theorem sessionConfirm_opened (ho : x.opened = true) (ok : Bool) : exec (.sessionConfirm n ok) s = .next s := by
  simp only [exec_sessionConfirm, execSessionConfirm, State.run_eq, h, ho, or_true, if_true]

theorem session_noRequest (h8 : 8 ≤ i) (hb : (s.blk.mailbox (i - 8)).busy = false) :
    (∀ ok, exec (.sessionConfirm n ok) s = .next s) ∧
    exec (.sessionClose n) s = .next (s.withBlk { s.blk with sessions := tdel s.blk.sessions i }) := by
  simp only [exec_sessionConfirm, execSessionConfirm, exec_sessionClose, execSessionClose, State.run_eq, h]
  constructor
  · intro ok
    rw [if_pos (Or.inl ⟨h8, by rw [hb]; rfl⟩)]
  · rw [if_pos]
    exact ⟨h8, congrArg (!·) hb⟩

theorem sessionClose_closes (hr : i < 8 ∨ (s.blk.mailbox (i - 8)).busy = true) :
    Completes (.sessionClose n) s (fun t => t.blk.sessions = tdel s.blk.sessions i ∧ t.blk.cmds.reply.status = .ok ∧
      t.blk.mem = s.blk.mem) := by
  simp only [Completes, exec_sessionClose, execSessionClose, State.run_eq, h]
  refine ⟨_, rfl, ?_⟩
  dsimp only
  rw [if_neg]
  · rw [(replyTo_same _ i _ _ _).sessions, (replyTo_same _ i _ _ _).cmds, (replyTo_same _ i _ _ _).mem]
    exact ⟨rfl, rfl, rfl⟩
  · exact not_noRequest hr

theorem sessionTimeout_ends : exec (.sessionTimeout n) s = .next (s.withBlk { s.blk with sessions := tdel s.blk.sessions i }) := by
  simp only [exec_sessionTimeout, execSessionTimeout, State.run_eq, h]

end Place

/-! ### Messages on a session (R354, R357, R360) -/

section Message

variable {b : Block} {n i : Nat} {m : Msg} {x : Session} {run : Block → Nat → Session → Option Block}

theorem onSession_version (hv : m.version ≠ 1) : b.onSession n m run = b := by
  cases h : b.sessionAt n with
  | none => simp only [Block.onSession, h, if_neg hv]
  | some e => simp only [Block.onSession, h, hv, not_false_eq_true, ne_eq, or_true, if_true]

theorem onSession_unknown (hv : m.version = 1) (h : b.sessionAt n = none) : b.onSession n m run = b.dropMsg := by
  simp only [Block.onSession, h, if_pos hv]

variable (h : b.sessionAt n = some (i, x))
include h

theorem onSession_noRequest (h8 : 8 ≤ i) (hb : (b.mailbox (i - 8)).busy = false) : b.onSession n m run = b := by
  simp only [Block.onSession, h]
  rw [if_pos (Or.inl ⟨h8, by rw [hb]; rfl⟩)]

variable (hv : m.version = 1) (hr : i < 8 ∨ (b.mailbox (i - 8)).busy = true)
include hv hr

theorem onSession_bad (hm : m.wellFormed = false ∨ x.opened = false ∨ m.counter ≤ x.counter) : b.onSession n m run = b.dropMsg := by
  simp only [Block.onSession, h]
  rw [if_neg (not_or.2 ⟨not_noRequest hr, not_not.2 hv⟩), if_pos (by simpa using hm)]

/-- A good message is a new one on its session: its counter and its encryption are taken. -/
def taken (b : Block) (i : Nat) (x : Session) (m : Msg) : Block :=
  { b with sessions := tput b.sessions i { x with counter := m.counter, enc := m.enc } }

variable (hw : m.wellFormed = true) (ho : x.opened = true) (hc : x.counter < m.counter)
include hw ho hc

theorem onSession_repeated {k : Nat × Sts × List Byte} (hk : x.kept.find? (fun k => k.1 == m.request) = some k) :
    (b.onSession n m run).cmds.reply = { status := k.2.1, body := k.2.2 } ∧
    tfind (b.onSession n m run).sessions i = some { x with
      counter := m.counter, enc := m.enc, sent := if b.muted i then x.sent else x.sent + 1 } ∧
    (b.onSession n m run).store = b.store ∧ (b.onSession n m run).mem = b.mem := by
  simp only [Block.onSession, h, hk]
  rw [if_neg (not_or.2 ⟨not_noRequest hr, not_not.2 hv⟩), if_neg (by simp [hw, ho, hc])]
  rw [(sendReply_same _ i _).cmds, (sendReply_same _ i _).sessions, (sendReply_same _ i _).store, (sendReply_same _ i _).mem]
  exact ⟨rfl, tfind_tput_same _ _ _, rfl, rfl⟩

variable (hk : x.kept.find? (fun k => k.1 == m.request) = none)
include hk

theorem onSession_unencrypted (hq : b.cfg 0x78000052 0 = 1) (he : m.enc = false) :
    b.onSession n m run = ((taken b i x m).refuse .denied).keepReply i m.request := by
  simp only [Block.onSession, h, hk]
  rw [if_neg (not_or.2 ⟨not_noRequest hr, not_not.2 hv⟩), if_neg (by simp [hw, ho, hc]), if_pos]
  · rfl
  · exact ⟨hq, congrArg (!·) he⟩

theorem onSession_runs (hq : b.cfg 0x78000052 0 ≠ 1 ∨ m.enc = true) {d : Block}
    (hrun : run (taken b i x m) i { x with counter := m.counter, enc := m.enc } = some d) :
    b.onSession n m run = d.keepReply i m.request := by
  rw [taken] at hrun
  simp only [Block.onSession, h, hk, hrun]
  rw [if_neg (not_or.2 ⟨not_noRequest hr, not_not.2 hv⟩), if_neg (by simp [hw, ho, hc]), if_neg]
  rintro ⟨h1, h2⟩
  rcases hq with hq | hq
  · exact hq h1
  · simp [hq] at h2

end Message

theorem read_onSession (n : Nat) (m : Msg) (obj off len : Nat) (s : State) : exec (.read n m obj off len) s =
    .next (s.withBlk (s.blk.onSession n m (fun c _ x => some (c.readObj x.role obj off len)))) := rfl

theorem write_onSession (n : Nat) (m : Msg) (obj off : Nat) (v : List Byte) (s : State) : exec (.write n m obj off v) s =
    .next (s.withBlk (s.blk.onSession n m (fun c i x => c.writeMsg i x m obj off v))) := rfl

/-- The filter that SUBSCRIBE puts in force, and the logged records that wait for it. -/
def subscribed (sev from_ : Nat) (areas : List Nat) (c : Block) (i : Nat) (x : Session) : Option Block :=
  let rs := (c.events.log.filter (fun (r : EvRec) =>
    decide (from_ ≤ r.seq ∧ sev ≤ r.sev) && areas.contains (objArea r.unit))).map EvRec.seq
  some (({ c with sessions := tput c.sessions i { x with minsev := sev, areas := areas, waiting := rs.drop (rs.length - 256) } } :
    Block).refuse .ok)

theorem subscribe_onSession {s : State} {n i : Nat} {x : Session} (h : s.blk.sessionAt n = some (i, x)) (m : Msg) (sev from_ : Nat)
    (areas : List Nat) : exec (.subscribe n m sev from_ areas) s =
      .next (s.withBlk ((s.blk.onSession n m (subscribed sev from_ areas)).pushTo i)) := by
  have hx : exec (.subscribe n m sev from_ areas) s = execSubscribe n m sev from_ areas s := rfl
  simp only [hx, execSubscribe, State.run_eq, h]
  rfl

/-- Settles O58, each message by the state of its session. -/
theorem sessions : Obligations.Sessions := by
  unfold Obligations.Sessions
  refine ⟨fun s => ⟨fun hd p sl mc body role => sessionInit_dark hd p, fun hd ht hn sl role body => ⟨fun hl => ?large, fun hl =>
      ⟨fun i hi => ⟨fun hc => ?opens, fun hc => ?badChain⟩, fun hfull => ?full⟩⟩, fun sl body role => sessionInit_unheard,
      fun m sl mc role body hc hl hd hm hb hf => ?mailbox, fun n => session_unknown,
      fun n i x h => ⟨fun hr ho => ⟨sessionConfirm_opens h hr ho, sessionConfirm_badSignature h hr ho⟩, sessionConfirm_opened h,
        session_noRequest h, sessionClose_closes h, sessionTimeout_ends h⟩⟩,
    fun s n m obj off len v from_ sev areas => ⟨fun hv => ?version, fun hv => ⟨fun h => ?unknown, fun i x h hr hm => ?bad,
      fun i x h h8 hb => ?noRequest, ⟨rfl, rfl, rfl, rfl, rfl⟩, fun i x k h hr hw ho hc hk => ?repeated,
      fun i x h hr hw ho hc hk => ⟨fun hq he => ?denied, fun hq => ?subscribes⟩⟩⟩⟩
  case large =>
    refine .of_exec (sessionInit_bus hd ht hn) ?_
    rw [initAt_tooLarge hl]
    exact ⟨(replyTo_same _ _ _ _ _).sessions, congrArg (·.reply.status) (replyTo_same _ _ _ _ _).cmds⟩
  case opens => exact .of_exec (hi ▸ sessionInit_bus hd ht hn) (initAt_opens hl hc)
  case badChain =>
    refine .of_exec (hi ▸ sessionInit_bus hd ht hn) ?_
    rw [initAt_badChain hl hc]
    exact ⟨(replyTo_same _ _ _ _ _).sessions, congrArg (·.reply.status) (replyTo_same _ _ _ _ _).cmds⟩
  case full =>
    have hnone : (List.range 8).find? (fun k => !thas s.blk.sessions k) = none := by
      simpa [List.find?_eq_none] using hfull
    refine .of_exec (hnone ▸ sessionInit_bus hd ht hn) ?_
    rw [initAt_full hl]
    exact ⟨(replyTo_same _ _ _ _ _).sessions, congrArg (·.reply.status) (replyTo_same _ _ _ _ _).cmds⟩
  case mailbox =>
    obtain ⟨hfind, -, -, -, hmem⟩ := initAt_opens (b := s.blk) (i := 8 + m) (reply := 8 + m) (role := role) hl hc
    obtain ⟨hfree, hready⟩ := initAt_mailbox (b := s.blk) (m := m) (reply := 8 + m) (role := role) hl hc
    exact .of_exec (sessionInit_mailbox hd hm hb hf) ⟨hfind, hfree, hready, hmem⟩
  case version =>
    rw [read_onSession, write_onSession, onSession_version hv, onSession_version hv]
    exact ⟨rfl, rfl⟩
  case unknown =>
    rw [read_onSession, write_onSession, onSession_unknown hv h, onSession_unknown hv h]
    exact ⟨rfl, rfl⟩
  case bad =>
    rw [read_onSession, write_onSession, onSession_bad h hv hr hm, onSession_bad h hv hr hm]
    exact ⟨rfl, rfl⟩
  case noRequest =>
    rw [read_onSession, write_onSession, onSession_noRequest h h8 hb, onSession_noRequest h h8 hb]
    exact ⟨rfl, rfl⟩
  case repeated =>
    obtain ⟨hreply, -, hstore, hmem⟩ := onSession_repeated (run := fun c _ x => some (c.readObj x.role obj off len)) h hv hr hw ho hc hk
    exact ⟨.of_exec (write_onSession n m obj off v s) (onSession_repeated h hv hr hw ho hc hk),
      .of_exec (read_onSession n m obj off len s) ⟨hreply, hstore, hmem⟩⟩
  case denied =>
    refine .of_exec (read_onSession n m obj off len s) ?_
    rw [onSession_unencrypted h hv hr hw ho hc hk hq he]
    obtain ⟨hcmds, hstore, hmem, -⟩ := keepReply_keeps ((taken s.blk i x m).refuse .denied) i m.request
    exact ⟨congrArg (·.reply.status) hcmds, hstore, hmem⟩
  case subscribes =>
    refine .of_exec (subscribe_onSession h m sev from_ areas) ?_
    rw [onSession_runs h hv hr hw ho hc hk hq rfl]
    generalize hd : (Block.refuse _ .ok) = d
    obtain ⟨hcmds, -, hmem, hkeep⟩ := keepReply_keeps d i m.request
    obtain ⟨hcmds', -, hmem', hpush⟩ := pushTo_keeps (d.keepReply i m.request) i
    subst hd
    obtain ⟨ks, k, hkept⟩ := hkeep _ (tfind_tput_same _ _ _)
    obtain ⟨w, k', p, hpushed⟩ := hpush _ hkept
    exact ⟨congrArg (·.reply.status) (hcmds'.trans hcmds), hmem'.trans hmem, _, hpushed, rfl, rfl, rfl⟩

end Sys2Proof

/-! PROOFS. SPDM, debug tokens and guest sites (R5, R404, R450, R452, R453, R455 to R460): what a response and a token leave, the checks of
the commands of a guest site, admission, and the samples and the loss that hold a die. -/

namespace Sys2Proof

open Sys2Proof.Machine

theorem exec_spdmExchange (role : Role) (code ver : Nat) (algs : Bool) (s : State) :
    exec (.spdmExchange role code ver algs) s = execSpdmExchange role code ver algs s := rfl
theorem exec_debugAuthorise (role : Role) (tok : Token) (s : State) : exec (.debugAuthorise role tok) s = execDebugAuthorise role tok s := rfl
theorem exec_hold (role : Role) (g : Nat) (s : State) : exec (.hold role g) s = execHold role g s := rfl
theorem exec_guestRelease (role : Role) (g : Nat) (a : Admission) (s : State) :
    exec (.guestRelease role g a) s = execGuestRelease role g a s := rfl
theorem exec_attest (role : Role) (g : Nat) (a : Admission) (s : State) : exec (.attest role g a) s = execAttest role g a s := rfl
theorem exec_guestPowerSample (g m a : Nat) (y z : Bool) (s : State) :
    exec (.guestPowerSample g m a y z) s = execGuestPowerSample g m a y z s := rfl
theorem exec_guestLost (g : Nat) (s : State) : exec (.guestLost g) s = execGuestLost g s := rfl

/-- The completion of a longer command leaves the reply that was given. -/
@[simp] theorem finishSts_reply (b : Block) (o n : Nat) (r : Sts) (t : Nat) : (b.finishSts o n r t).cmds.reply = b.cmds.reply := by
  unfold Block.finishSts Block.finish
  dsimp only
  split <;> simp

/-! ### SPDM and debug tokens (R450, R452, R453) -/

theorem spdmExchange_answers {s : State} {role : Role} (ha : Admits s.blk role .observer 0x78) (code ver : Nat) (algs : Bool) :
    Completes (.spdmExchange role code ver algs) s (fun t =>
      t.blk.security.spdm = (spdmAnswer code ver algs).1 ∧ t.blk.cmds.reply.status = .ok ∧
      t.blk.cmds.reply.ret = (spdmAnswer code ver algs).1 ∧ t.blk.mem = s.blk.mem ∧ t.blk.events = s.blk.events ∧
      t.blk.security.scope = s.blk.security.scope) := by
  simp only [Completes, exec_spdmExchange, execSpdmExchange, State.run_eq, ha.cmd]
  exact ⟨_, rfl, rfl, rfl, rfl, rfl, rfl, rfl⟩

section Token

variable {s : State} {role : Role} {tok : Token} (ha : Admits s.blk role .vendor 0x78)
include ha

theorem debugAuthorise_reserved (h : tok.reservedZero = false) :
    exec (.debugAuthorise role tok) s = .next (s.withBlk (s.blk.refuse .rsvNonzero)) := by
  simp only [exec_debugAuthorise, execDebugAuthorise, State.run_eq, ha.cmd, h, Bool.not_false, if_true]

theorem debugAuthorise_badSignature (h0 : tok.reservedZero = true) (h : tok.levelOk = false ∨ tok.deviceOk = false ∨ tok.sigOk = false ∨
    tok.nonce ≠ Config.debugNonce s.blk.security.nonces ∨ tok.startLimit < s.blk.start.count % 2 ^ 32) :
    exec (.debugAuthorise role tok) s = .next (s.withBlk (s.blk.refuse .badSignature)) := by
  have hbad : (!tok.levelOk) = true ∨ (!tok.deviceOk) = true ∨ tok.nonce ≠ Config.debugNonce s.blk.security.nonces ∨
      tok.startLimit < s.blk.start.count % 2 ^ 32 ∨ (!tok.sigOk) = true := by
    rcases h with h | h | h | h | h
    · exact .inl (by rw [h]; rfl)
    · exact .inr (.inl (by rw [h]; rfl))
    · exact .inr (.inr (.inr (.inr (by rw [h]; rfl))))
    · exact .inr (.inr (.inl h))
    · exact .inr (.inr (.inr (.inl h)))
  simp only [exec_debugAuthorise, execDebugAuthorise, State.run_eq, ha.cmd, h0, Bool.not_true, Bool.false_eq_true, if_false, if_pos hbad]

theorem debugAuthorise_opens (h0 : tok.reservedZero = true) (hl : tok.levelOk = true) (hd : tok.deviceOk = true) (hs : tok.sigOk = true)
    (hn : tok.nonce = Config.debugNonce s.blk.security.nonces) (ht : s.blk.start.count % 2 ^ 32 ≤ tok.startLimit) :
    Completes (.debugAuthorise role tok) s (fun t => t.blk.security.scope = tok.scope ∧
      t.blk.security.nonces = s.blk.security.nonces + 1 ∧ t.blk.cmds.reply.status = .ok ∧ t.blk.mem = s.blk.mem ∧
      t.blk.hws = s.blk.hws) := by
  have hgood : ¬((!tok.levelOk) = true ∨ (!tok.deviceOk) = true ∨ tok.nonce ≠ Config.debugNonce s.blk.security.nonces ∨
      tok.startLimit < s.blk.start.count % 2 ^ 32 ∨ (!tok.sigOk) = true) := by
    simp only [hl, hd, hs, hn, Nat.not_lt.2 ht, Bool.not_true, Bool.false_eq_true, ne_eq, not_true_eq_false, or_self, not_false_eq_true]
  simp only [Completes, exec_debugAuthorise, execDebugAuthorise, State.run_eq, ha.cmd, h0, Bool.not_true, Bool.false_eq_true, if_false,
    if_neg hgood]
  exact ⟨_, rfl, by simp [Block.measure], by simp [Block.measure], rfl, by simp [Block.measure], by simp [Block.measure]⟩

end Token

/-! ### Guest sites (R5, R455) -/

theorem guestCmd_denied {b : Block} {role : Role} {g : Nat} (hg : g < 2) (hr : roleRank role < roleRank .service) (f : Block → Block) :
    b.guestCmd role g f = b.refuse .denied := by
  rw [Block.guestCmd, if_neg (Nat.not_le.2 hg), if_pos hr]

theorem guestCmd_notFitted {b : Block} {role : Role} {g : Nat} (hg : g < 2) (hr : roleRank .service ≤ roleRank role)
    (hp : b.tray.part ≠ .g4t) (f : Block → Block) : b.guestCmd role g f = b.refuse .notFitted := by
  rw [Block.guestCmd, if_neg (Nat.not_le.2 hg), if_neg (Nat.not_lt.2 hr), if_pos hp]

/-- The state of a die after an admission that passed: a dim step of 2 or more suspends it (R460). -/
def admittedSt (b : Block) : GuestSt := if 2 ≤ b.power.dim then .suspended else .running

/-- An admission that passes lets the die run, and is measured. -/
theorem admitGuest_passes {b : Block} {g : Nat} {a : Admission} (h : a.fail = none) :
    ((b.admitGuest g a).guest g).st = admittedSt b ∧ ((b.admitGuest g a).guest g).windows = (b.guest g).windows ∧
    (b.admitGuest g a).mem = b.mem ∧ (b.admitGuest g a).cmds = b.cmds ∧
    (b.admitGuest g a).security.measured = b.security.measured ++ [(13 + g, a.digest)] := by
  have hset (x : Guest) : tget {} (tput b.guests g x) g = x := tget_tput_same _ _ _ _
  simp only [Block.admitGuest, h]
  exact ⟨congrArg Guest.st (hset _), (congrArg Guest.windows (hset _)).trans rfl, rfl, rfl, rfl⟩

/-- An admission that fails holds the die; nothing is measured. -/
theorem admitGuest_fails {b : Block} {g : Nat} {a : Admission} (h : a.fail ≠ none) :
    ((b.admitGuest g a).guest g).st = .held ∧ ((b.admitGuest g a).guest g).windows = (b.guest g).windows ∧
    (b.admitGuest g a).mem = b.mem ∧ (b.admitGuest g a).security = b.security := by
  obtain ⟨n, hn⟩ := Option.ne_none_iff_exists'.1 h
  simp [Block.admitGuest, hn, Block.guestEvent]

section Site

variable {s : State} {role : Role} {g : Nat} (hg : g < 2)
include hg

section Commands

variable (hp : s.blk.tray.part = .g4t) (ha : Admits s.blk role .service 0x7C)
include hp ha

theorem hold_empty (h : (s.blk.guest g).st = .empty) : exec (.hold role g) s = .next (s.withBlk (s.blk.refuse .badState)) := by
  simp only [exec_hold, execHold, State.run_eq, ha.guestCmd hg hp, if_pos h]

theorem hold_holds (h : (s.blk.guest g).st ≠ .empty) :
    exec (.hold role g) s = .next (s.withBlk ((s.blk.holdGuest g false).done (objGuest g) 0)) := by
  simp only [exec_hold, execHold, State.run_eq, ha.guestCmd hg hp, if_neg h]

theorem guestRelease_notHeld (h : (s.blk.guest g).st ≠ .held) (a : Admission) :
    exec (.guestRelease role g a) s = .next (s.withBlk (s.blk.refuse .badState)) := by
  simp only [exec_guestRelease, execGuestRelease, State.run_eq, ha.guestCmd hg hp, if_pos h]

theorem guestRelease_admits (h : (s.blk.guest g).st = .held) (a : Admission) : exec (.guestRelease role g a) s = .next (s.withBlk
    ((((s.blk.accept (objGuest g)).updGuest g (fun x => { x with windows := [] })).admitGuest g a).finishSts (objGuest g)
      (s.blk.cmds.count + 1) (if a.fail.isNone then .ok else .badState))) := by
  simp only [exec_guestRelease, execGuestRelease, State.run_eq, ha.guestCmd hg hp, if_neg (not_not.2 h)]
  rfl

theorem attest_notLive (h : (s.blk.guest g).live = false) (a : Admission) :
    exec (.attest role g a) s = .next (s.withBlk (s.blk.refuse .badState)) := by
  simp only [exec_attest, execAttest, State.run_eq, ha.guestCmd hg hp, h, Bool.not_false, if_true]

theorem attest_admits (h : (s.blk.guest g).live = true) (a : Admission) : exec (.attest role g a) s = .next (s.withBlk
    (((s.blk.accept (objGuest g)).admitGuest g a).finishSts (objGuest g) (s.blk.cmds.count + 1)
      (if a.fail.isNone then .ok else .badState))) := by
  simp only [exec_attest, execAttest, State.run_eq, ha.guestCmd hg hp, h, Bool.not_true, Bool.false_eq_true, if_false]
  rfl

end Commands

omit hg in
theorem guest_notLive (h : (s.blk.guest g).live = false) :
    (∀ m a y z, exec (.guestPowerSample g m a y z) s = .next s) ∧ exec (.guestLost g) s = .next s := by
  simp only [exec_guestPowerSample, execGuestPowerSample, exec_guestLost, execGuestLost, State.run_eq, h, Bool.not_false, or_true,
    if_true, implies_true, and_self]

variable (h : (s.blk.guest g).live = true)
include h

theorem not_notLive : ¬(2 ≤ g ∨ (!(s.blk.guest g).live) = true) := by
  simp [h, hg]

/-- A sample: the average is kept, and one above 75 W asks for a throttle and raises GUEST_POWER once (R458). -/
def sampledGuest (b : Block) (g a : Nat) : Block :=
  let c := b.updGuest g (fun y => { y with power := a, throttled := decide (75000 < a) })
  if decide (75000 < a) ∧ !(b.guest g).throttled then c.guestEvent g .guestPower [g, a] else c

theorem guestPowerSample_keeps (m a : Nat) (y : Bool) (hb : a ≤ 75000 ∨ y = false) :
    exec (.guestPowerSample g m a y false) s = .next (s.withBlk (sampledGuest s.blk g a)) := by
  simp only [exec_guestPowerSample, execGuestPowerSample, State.run_eq, if_neg (not_notLive hg h)]
  rw [if_neg]
  · rfl
  · rcases hb with hb | hb
    · simp [hb]
    · simp [hb]

theorem guestPowerSample_holds (m a : Nat) (y : Bool) :
    exec (.guestPowerSample g m a y true) s = .next (s.withBlk ((sampledGuest s.blk g a).holdGuest g false)) := by
  simp only [exec_guestPowerSample, execGuestPowerSample, State.run_eq, if_neg (not_notLive hg h), true_or, if_true]
  rfl

theorem guestLost_holds : exec (.guestLost g) s = .next (s.withBlk (s.blk.holdGuest g true)) := by
  simp only [exec_guestLost, execGuestLost, State.run_eq, if_neg (not_notLive hg h)]

end Site

/-- What a sample leaves: the die goes on, at most asked to throttle. -/
theorem sampledGuest_leaves (b : Block) (g a : Nat) : ((sampledGuest b g a).guest g).power = a ∧
    ((sampledGuest b g a).guest g).throttled = decide (75000 < a) ∧ ((sampledGuest b g a).guest g).st = (b.guest g).st ∧
    (sampledGuest b g a).mem = b.mem := by
  unfold sampledGuest
  dsimp only
  split <;> simp [Block.guestEvent]

theorem sampledGuest_cool {b : Block} {g a : Nat} (h : a ≤ 75000) : (sampledGuest b g a).events = b.events := by
  simp [sampledGuest, Nat.not_lt.2 h]

theorem holdGuest_guest (b : Block) (g : Nat) (close : Bool) : (b.holdGuest g close).guest g = { b.guest g with
    st := .held, throttled := false, answer := none, windows := if close then [] else (b.guest g).windows } := by
  simp [Block.holdGuest]

/-- Settles O56: SPDM and tokens by their fields, a guest site by its part, its state and the verdict of its admission. -/
theorem spdmDebugGuests : Obligations.SpdmDebugGuests := by
  unfold Obligations.SpdmDebugGuests
  refine ⟨fun s role => ⟨spdmExchange_answers, fun code ver algs hc hv => if_pos ⟨hc, hv⟩, fun ver algs => ?capabilities, by decide,
      fun ha tok => ⟨debugAuthorise_reserved ha, debugAuthorise_badSignature ha, debugAuthorise_opens ha⟩⟩,
    fun s role g hg => ⟨fun hr => ⟨?_, fun p => ⟨?_, ?_⟩⟩, fun hr hp => ⟨?_, fun i w => ?_⟩, fun hp ha => ⟨hold_empty hg hp ha,
        fun h => ?holds, guestRelease_notHeld hg hp ha, fun h => ⟨fun a hf => ?released, fun a hf => ?releaseFails⟩,
        attest_notLive hg hp ha, fun h => ⟨fun a hf => ?attested, fun a hf => ?attestFails⟩⟩, guest_notLive,
      fun h => ⟨fun m a y ha => ?cool, fun m a ha => ?hot, fun m a y => ?above, ?lost⟩⟩⟩
  case capabilities => simp [spdmAnswer, spdmCode]
  · rw [exec_hold, execHold, State.run_eq, guestCmd_denied hg hr]
  · rw [exec_guestRelease, execGuestRelease, State.run_eq, guestCmd_denied hg hr]
  · rw [exec_attest, execAttest, State.run_eq, guestCmd_denied hg hr]
  · rw [exec_hold, execHold, State.run_eq, guestCmd_notFitted hg hr hp]
  · rw [exec_guestWindowsWrite, execGuestWindowsWrite, State.run_eq, guestCmd_notFitted hg hr hp]
  case holds =>
    refine .of_exec (hold_holds hg hp ha h) ⟨by simp [holdGuest_guest], by simp [holdGuest_guest], rfl, by simp [Block.holdGuest], ?_⟩
    intro j hj
    exact tget_tput_ne _ _ _ _ _ hj
  case released =>
    refine .of_exec (guestRelease_admits hg hp ha h a) ?_
    obtain ⟨hst, hwin, hmem, hcmds, hmeas⟩ :=
      admitGuest_passes (b := (s.blk.accept (objGuest g)).updGuest g (fun x => { x with windows := [] })) (g := g) hf
    simp only [Block.finishSts_frame, finishSts_reply, hst, hwin, hmem, hcmds, hmeas]
    simp [admittedSt, accept_reply]
  case releaseFails =>
    refine .of_exec (guestRelease_admits hg hp ha h a) ?_
    obtain ⟨hst, hwin, hmem, hsec⟩ := admitGuest_fails (b := (s.blk.accept (objGuest g)).updGuest g (fun x => { x with windows := [] })) (g := g) hf
    simp only [Block.finishSts_frame, hst, hwin, hmem, hsec]
    simp
  case attested =>
    refine .of_exec (attest_admits hg hp ha h a) ?_
    obtain ⟨hst, hwin, hmem, -, -⟩ := admitGuest_passes (b := s.blk.accept (objGuest g)) (g := g) hf
    simp only [Block.finishSts_frame, hst, hwin, hmem]
    simp [admittedSt]
  case attestFails =>
    refine .of_exec (attest_admits hg hp ha h a) ?_
    obtain ⟨hst, -, hmem, -⟩ := admitGuest_fails (b := s.blk.accept (objGuest g)) (g := g) hf
    simp only [Block.finishSts_frame, hst, hmem]
    simp
  case cool =>
    obtain ⟨hpower, hthr, hst, hmem⟩ := sampledGuest_leaves s.blk g a
    exact .of_exec (guestPowerSample_keeps hg h m a y (.inl ha)) ⟨hpower, hthr.trans (by simp [ha]), hst, hmem, sampledGuest_cool ha⟩
  case hot =>
    obtain ⟨-, hthr, hst, hmem⟩ := sampledGuest_leaves s.blk g a
    exact .of_exec (guestPowerSample_keeps hg h m a false (.inr rfl)) ⟨hthr.trans (by simp [ha]), hst, hmem⟩
  case above =>
    obtain ⟨-, -, -, hmem⟩ := sampledGuest_leaves s.blk g a
    exact .of_exec (guestPowerSample_holds hg h m a y) ⟨by simp [holdGuest_guest], hmem⟩
  case lost =>
    exact .of_exec (guestLost_holds hg h) ⟨by simp [holdGuest_guest], by simp [holdGuest_guest], rfl, rfl⟩

end Sys2Proof

/-! PROOFS. Guards of the ageing-margin mode (R442): a re-plan changes guards, boost and events, and what waits for a lantern's quiescent
point is left as it was. -/

namespace Sys2Proof

open Sys2Proof.Machine

/-- A block agrees with another up to guards, boost and events. -/
structure Planned (b c : Block) : Prop where
  shape : ∃ pw lan ev, c = { b with power := pw, lanterns := lan, events := ev }
  model : c.power.model = b.power.model
  slowdown : c.power.slowdown = b.power.slowdown
  lantern : ∀ j, ∃ p q, c.lantern j = { b.lantern j with boost := p, opPending := q }

namespace Planned

variable {b c d : Block}

theorem refl (b : Block) : Planned b b := ⟨⟨_, _, _, rfl⟩, rfl, rfl, fun _ => ⟨_, _, rfl⟩⟩

theorem trans (h : Planned b c) (k : Planned c d) : Planned b d where
  shape := by
    obtain ⟨_, _, _, rfl⟩ := h.shape
    obtain ⟨_, _, _, rfl⟩ := k.shape
    exact ⟨_, _, _, rfl⟩
  model := k.model.trans h.model
  slowdown := k.slowdown.trans h.slowdown
  lantern j := by
    obtain ⟨_, _, hj⟩ := h.lantern j
    obtain ⟨p, q, kj⟩ := k.lantern j
    exact ⟨p, q, by rw [kj, hj]⟩

theorem mem (h : Planned b c) : c.mem = b.mem := by obtain ⟨_, _, _, rfl⟩ := h.shape; rfl
theorem hws (h : Planned b c) : c.hws = b.hws := by obtain ⟨_, _, _, rfl⟩ := h.shape; rfl
theorem lines (h : Planned b c) : c.lines = b.lines := by obtain ⟨_, _, _, rfl⟩ := h.shape; rfl
theorem store (h : Planned b c) : c.store = b.store := by obtain ⟨_, _, _, rfl⟩ := h.shape; rfl
theorem cmds (h : Planned b c) : c.cmds = b.cmds := by obtain ⟨_, _, _, rfl⟩ := h.shape; rfl
theorem silent (h : Planned b c) : c.silent = b.silent := by obtain ⟨_, _, _, rfl⟩ := h.shape; rfl
theorem tray (h : Planned b c) : c.tray = b.tray := by obtain ⟨_, _, _, rfl⟩ := h.shape; rfl
theorem beams (h : Planned b c) : c.beams = b.beams := by obtain ⟨_, _, _, rfl⟩ := h.shape; rfl

theorem siteOf (h : Planned b c) (l : Nat) : c.siteOf l = b.siteOf l := by
  obtain ⟨_, _, hl⟩ := h.lantern l
  simp only [Block.siteOf, hl]

theorem ite {p : Prop} [Decidable p] (hc : Planned b c) (hd : Planned b d) : Planned b (if p then c else d) := by
  split
  · exact hc
  · exact hd

theorem foldl {α : Type} {f : Block → α → Block} (hf : ∀ a x, Planned b a → Planned b (f a x)) {l : List α} (hc : Planned b c) :
    Planned b (l.foldl f c) :=
  List.foldlRecOn (motive := Planned b) _ _ hc (fun a ha x _ => hf a x ha)

theorem raise (h : Planned b c) (u : Nat) (e : Ev) (args : List Nat) : Planned b (c.raise u e args) := by
  obtain ⟨ev, hev⟩ := c.raise_shape u e args
  rw [hev]
  exact h.trans ⟨⟨_, _, _, rfl⟩, rfl, rfl, fun _ => ⟨_, _, rfl⟩⟩

/-- A change of the guards, the waiting guards and the record of boost. -/
theorem withPower (h : Planned b c) (pw : Power) (hm : pw.model = c.power.model) (hs : pw.slowdown = c.power.slowdown) :
    Planned b { c with power := pw } :=
  h.trans ⟨⟨_, _, _, rfl⟩, hm, hs, fun _ => ⟨_, _, rfl⟩⟩

/-- A change of a lantern's boost or of its point. -/
theorem updLantern (h : Planned b c) (l : Nat) (f : Lantern → Lantern)
    (hf : ∃ p q, f (c.lantern l) = { c.lantern l with boost := p, opPending := q }) : Planned b (c.updLantern l f) := by
  refine h.trans ⟨⟨_, _, _, rfl⟩, rfl, rfl, fun j => ?_⟩
  rw [Block.updLantern_eq]
  rcases eq_or_ne j l with rfl | hj
  · rw [Block.setLantern_lantern]
    exact hf
  · rw [Block.setLantern_lantern_ne _ _ _ _ hj]
    exact ⟨_, _, rfl⟩

theorem reOp (h : Planned b c) (l : Nat) : Planned b (c.reOp l) := by
  unfold Block.reOp
  exact h.updLantern l _ ⟨_, _, rfl⟩

theorem applyGuard (h : Planned b c) (l : Nat) : Planned b (c.applyGuard l) := by
  unfold Block.applyGuard
  dsimp only
  split
  · exact h
  next g _ =>
    have hguard : Planned b { c with power := { c.power with
        guard := tput c.power.guard (c.siteOf l) g, guardNext := tdel c.power.guardNext (c.siteOf l) } } := h.withPower _ rfl rfl
    split
    · refine reOp (updLantern (hguard.withPower _ ?_ ?_) l _ ?_) l
      · rfl
      · rfl
      · exact ⟨_, _, rfl⟩
    · exact hguard

/-- Past its limit a die loses boost, with an event. -/
theorem pastLimit (h : Planned b c) (l site : Nat) (p : Prop) [Decidable p] : Planned b
    ((({ c with power := { c.power with noBoost := addLast c.power.noBoost site } }).updLantern l (fun x =>
      if p then { x with boost := false } else x)).raise (unitLantern l) .ageingLimit [l]) := by
  refine ((h.withPower { c.power with noBoost := addLast c.power.noBoost site } rfl rfl).updLantern l _ ?_).raise ..
  split <;> exact ⟨_, _, rfl⟩

theorem planGuard (h : Planned b c) (l site g : Nat) (past : Bool) : Planned b (c.planGuard l site g past) := by
  have hput : Planned b { c with power := { c.power with guardNext := tput c.power.guardNext site g } } := h.withPower _ rfl rfl
  have hlim := ite (p := past = true ∧ (!c.power.noBoost.contains site) = true) (hput.pastLimit l site (c.siteOf l = site)) hput
  exact ite (hlim.withPower _ rfl rfl) (ite (hlim.applyGuard l) hlim)

theorem replanSite (h : Planned b c) (l site : Nat) : Planned b (c.replanSite l site) := ite h (h.planGuard ..)

theorem replan (h : Planned b c) (l : Nat) : Planned b (c.replan l) := h.replanSite ..

end Planned

theorem Planned.quiet {b c : Block} (h : Planned b c) (l : Nat) : c.quiet l = b.quiet l := by
  simp only [Block.quiet, Block.hw, h.hws]

/-- The guard that waits for a lantern's die is put in force. -/
theorem applyGuard_guard {b : Block} {l g : Nat} (h : tfind b.power.guardNext (b.siteOf l) = some g) (d : Nat) :
    tget d (b.applyGuard l).power.guard (b.siteOf l) = g := by
  simp only [Block.applyGuard, h]
  split <;> exact tget_tput_same _ _ _ _

/-- A guard planned for the die of a lantern at its quiescent point is in force. -/
theorem planGuard_quiet {b : Block} {l : Nat} (hq : b.quiet l = true) (g : Nat) (past : Bool) (d : Nat) :
    tget d (b.planGuard l (b.siteOf l) g past).power.guard (b.siteOf l) = g := by
  have hput : Planned b { b with power := { b.power with guardNext := tput b.power.guardNext (b.siteOf l) g } } :=
    (Planned.refl b).withPower _ rfl rfl
  have hfind := tfind_tput_same b.power.guardNext (b.siteOf l) g
  have hforce {c : Block} (hc : Planned b c) (hg : tfind c.power.guardNext (b.siteOf l) = some g) :
      tget d (if c.quiet l then c.applyGuard l else c).power.guard (b.siteOf l) = g := by
    rw [if_pos (by rw [hc.quiet, hq]), ← hc.siteOf l]
    exact applyGuard_guard (by rw [hc.siteOf l, hg]) d
  unfold Block.planGuard
  dsimp only
  rw [if_neg (not_not.2 rfl)]
  by_cases hp : past = true ∧ (!b.power.noBoost.contains (b.siteOf l)) = true
  · rw [if_pos hp]
    refine hforce (hput.pastLimit l (b.siteOf l) (b.siteOf l = b.siteOf l)) ?_
    simpa using hfind
  · rw [if_neg hp]
    exact hforce hput hfind

/-- A guard that the mode has applied is never lowered by a re-plan (R442). -/
theorem replan_guard {b : Block} {l : Nat} (hq : b.quiet l = true) (hn : tfind b.power.guardNext (b.siteOf l) = none) :
    tget 0 b.power.guard (b.siteOf l) ≤ tget 0 (b.replan l).power.guard (b.siteOf l) := by
  simp only [Block.replan, Block.replanSite, hn]
  split
  · exact le_rfl
  · rw [planGuard_quiet hq]
    exact le_max_right _ _

end Sys2Proof

/-! PROOFS. Channels and ageing (R322, R352, R440, R442, R443): a DDR5 channel that goes out, is trained and returns, and the commands of the
ageing-margin mode. -/

namespace Sys2Proof

open Sys2Proof.Machine

theorem exec_takeOut (role : Role) (c : Nat) (s : State) : exec (.takeOut role c) s = execTakeOut role c s := rfl
theorem exec_bringIn (role : Role) (c : Nat) (s : State) : exec (.bringIn role c) s = execBringIn role c s := rfl
theorem exec_channelEvacuated (c : Nat) (s : State) : exec (.channelEvacuated c) s = execChannelEvacuated c s := rfl
theorem exec_channelTrained (c : Nat) (x : DimmTrain) (s : State) : exec (.channelTrained c x) s = execChannelTrained c x s := rfl
theorem exec_channelReturned (c : Nat) (s : State) : exec (.channelReturned c) s = execChannelReturned c s := rfl
theorem exec_measure (role : Role) (l x : Nat) (s : State) : exec (.measure role l x) s = execMeasure role l x s := rfl
theorem exec_replan (role : Role) (l : Nat) (s : State) : exec (.replan role l) s = execReplan role l s := rfl
theorem exec_resetGuard (role : Role) (l : Nat) (s : State) : exec (.resetGuard role l) s = execResetGuard role l s := rfl
theorem exec_ageingImport (role : Role) (ok : Bool) (cs : List V3Record) (s : State) :
    exec (.ageingImport role ok cs) s = execAgeingImport role ok cs s := rfl
theorem exec_ageingModeWrite (role : Role) (on : Bool) (s : State) : exec (.ageingModeWrite role on) s = execAgeingModeWrite role on s := rfl

/-! ### A DDR5 channel out and back (R440) -/

/-- The command of a channel completes: nothing of the channel changes but the command it names. -/
theorem chanDone_frame (b : Block) (ch : Nat) (r : Sts) :
    (b.chanDone ch r).mem = b.mem ∧ (b.chanDone ch r).tray = b.tray ∧
    ∃ q, (b.chanDone ch r).channel ch = { b.channel ch with cmd := q } := by
  unfold Block.chanDone
  split
  · exact ⟨by simp, by simp, none, by simp⟩
  · exact ⟨rfl, rfl, _, rfl⟩

section Channel

variable {s : State} {role : Role} {c : Nat}

section Commands

variable (ha : Admits s.blk role .service 0x31)
include ha

theorem takeOut_outOfRange (hc : 16 ≤ c) : exec (.takeOut role c) s = .next (s.withBlk (s.blk.refuse .outOfRange)) := by
  simp only [exec_takeOut, execTakeOut, State.run_eq, ha.cmd, if_pos hc]

theorem bringIn_outOfRange (hc : 16 ≤ c) : exec (.bringIn role c) s = .next (s.withBlk (s.blk.refuse .outOfRange)) := by
  simp only [exec_bringIn, execBringIn, State.run_eq, ha.cmd, if_pos hc]

variable (hc : c < 16)
include hc

theorem takeOut_refused {e : Sts} (h : s.blk.takeOutStart (256 + c) = .error e) :
    exec (.takeOut role c) s = .next (s.withBlk (s.blk.refuse e)) := by
  simp only [exec_takeOut, execTakeOut, State.run_eq, ha.cmd, if_neg (Nat.not_le.2 hc), h]

theorem takeOut_starts {d : Block} (h : s.blk.takeOutStart (256 + c) = .ok d) : Completes (.takeOut role c) s (fun t =>
    (t.blk.channel (256 + c)).cmd = some (d.cmds.count + 1, objBulk) ∧ (t.blk.channel (256 + c)).svc = (d.channel (256 + c)).svc ∧
    t.blk.cmds.reply.status = .accepted ∧ t.blk.mem = d.mem) := by
  simp only [Completes, exec_takeOut, execTakeOut, State.run_eq, ha.cmd, if_neg (Nat.not_le.2 hc), h]
  exact ⟨_, rfl, by simp; rfl, by simp, rfl, rfl⟩

theorem bringIn_refused (h : (s.blk.channel (256 + c)).svc ≠ .out) :
    exec (.bringIn role c) s = .next (s.withBlk (s.blk.refuse .badState)) := by
  simp only [exec_bringIn, execBringIn, State.run_eq, ha.cmd, if_neg (Nat.not_le.2 hc), if_pos h]

theorem bringIn_trains (h : (s.blk.channel (256 + c)).svc = .out) : Completes (.bringIn role c) s (fun t =>
    (t.blk.channel (256 + c)).svc = .training ∧ (t.blk.channel (256 + c)).cmd = some (s.blk.cmds.count + 1, objBulk) ∧
    t.blk.cmds.reply.status = .accepted ∧ t.blk.mem = s.blk.mem ∧ t.blk.lines = s.blk.lines) := by
  simp only [Completes, exec_bringIn, execBringIn, State.run_eq, ha.cmd, if_neg (Nat.not_le.2 hc), if_neg (not_not.2 h)]
  exact ⟨_, rfl, by simp, by simp; rfl, rfl, rfl, rfl⟩

end Commands

theorem takeOutStart_notInUse {b : Block} {k : Nat} (h : (b.channel k).svc ≠ .inUse ∨ (b.channel (partner k)).svc ≠ .inUse) :
    b.takeOutStart k = .error .badState := by
  simp only [Block.takeOutStart, if_pos h]

theorem channelEvacuated_stays (h : (s.blk.channel (256 + c)).svc ≠ .evacuating) : exec (.channelEvacuated c) s = .next s := by
  simp only [exec_channelEvacuated, execChannelEvacuated, State.run_eq]
  rw [if_pos (.inr (.inl h))]

theorem channelTrained_stays (h : (s.blk.channel (256 + c)).svc ≠ .training) (x : DimmTrain) :
    exec (.channelTrained c x) s = .next s := by
  simp only [exec_channelTrained, execChannelTrained, State.run_eq]
  rw [if_pos (.inr h)]

theorem channelReturned_stays (h : (s.blk.channel (256 + c)).svc ≠ .returning) : exec (.channelReturned c) s = .next s := by
  simp only [exec_channelReturned, execChannelReturned, State.run_eq]
  rw [if_pos (.inr h)]

variable (hc : c < 16)
include hc

/-- Every half is on the partner: the socket goes off, or is trained where it goes out for repair. -/
theorem channelEvacuated_goesOff (h : (s.blk.channel (256 + c)).svc = .evacuating)
    (hu : s.blk.bulkUsed (chanDomain (256 + c)) ≤ s.blk.singleFrames - 64) : Completes (.channelEvacuated c) s (fun t =>
      (t.blk.channel (256 + c)).svc = (if (s.blk.channel (256 + c)).repair then .training else .out) ∧
      (t.blk.channel (256 + c)).st = .offline ∧ t.blk.alert 11 = true ∧ t.blk.mem = s.blk.mem) := by
  simp only [Completes, exec_channelEvacuated, execChannelEvacuated, State.run_eq]
  rw [if_neg (by simp [hc, h, hu])]
  refine ⟨_, rfl, ?_⟩
  dsimp only
  generalize hd : Block.setAlert _ 11 = d
  obtain ⟨hmem, htray, q, hq⟩ := chanDone_frame d (256 + c) .ok
  rw [hmem, hq, Block.alert, htray]
  subst hd
  exact ⟨by simp, by simp, setAlert_alert _ (by decide), by simp⟩

section Trained

variable (h : (s.blk.channel (256 + c)).svc = .training) (x : DimmTrain)
include h

theorem channelTrained_returns (hg : x.gib = s.blk.dimmGiB) (ha : x.approved = true) (ht : x.trained = true) :
    Completes (.channelTrained c x) s (fun t => (t.blk.channel (256 + c)).svc = .returning ∧ (t.blk.channel (256 + c)).st = .up ∧
      tfind t.blk.tray.dimmIds c = some x.identity ∧ t.blk.mem = s.blk.mem ∧ t.blk.events = s.blk.events) := by
  have hgib : ¬x.gib ≠ ({ s.blk with tray := { s.blk.tray with dimmIds := tput s.blk.tray.dimmIds c x.identity } } : Block).dimmGiB :=
    not_not.2 hg
  simp only [Completes, exec_channelTrained, execChannelTrained, State.run_eq]
  rw [if_neg (by simp [hc, h]), if_neg hgib, if_neg (by simp [ha]), if_neg (by simp [ht])]
  exact ⟨_, rfl, by simp, by simp, tfind_tput_same _ _ _, rfl, rfl⟩

/-- A DIMM that fails a check: its channel stays OUT, with an event of what failed (R322). -/
theorem channelTrained_fails (hbad : x.gib ≠ s.blk.dimmGiB ∨ x.approved = false ∨ x.trained = false) :
    Completes (.channelTrained c x) s (fun t => (t.blk.channel (256 + c)).svc = .out ∧
      (t.blk.channel (256 + c)).st = (s.blk.channel (256 + c)).st ∧ tfind t.blk.tray.dimmIds c = some x.identity ∧
      t.blk.mem = s.blk.mem) := by
  have hout (e : Ev) : ∀ d : Block, d = ((({ s.blk with tray := { s.blk.tray with
        dimmIds := tput s.blk.tray.dimmIds c x.identity } } : Block).updChannel (256 + c) (fun y =>
          { y with svc := .out, repair := false })).raise (unitChannel (256 + c)) e [c]).chanDone (256 + c) .badState →
      (d.channel (256 + c)).svc = .out ∧ (d.channel (256 + c)).st = (s.blk.channel (256 + c)).st ∧
        tfind d.tray.dimmIds c = some x.identity ∧ d.mem = s.blk.mem := by
    rintro d rfl
    obtain ⟨hmem, htray, q, hq⟩ := chanDone_frame ((({ s.blk with tray := { s.blk.tray with
        dimmIds := tput s.blk.tray.dimmIds c x.identity } } : Block).updChannel (256 + c) (fun y =>
          { y with svc := .out, repair := false })).raise (unitChannel (256 + c)) e [c]) (256 + c) .badState
    rw [hmem, hq, htray]
    exact ⟨by simp, by simp; rfl, by simpa using tfind_tput_same _ _ _, by simp⟩
  simp only [Completes, exec_channelTrained, execChannelTrained, State.run_eq]
  rw [if_neg (by simp [hc, h])]
  refine ⟨_, rfl, ?_⟩
  dsimp only
  split
  · exact hout _ _ rfl
  next hg =>
    have hg' : x.gib = s.blk.dimmGiB := not_not.1 hg
    split
    · exact hout _ _ rfl
    next ha =>
      split
      · exact hout _ _ rfl
      next ht => simp_all

end Trained

theorem channelReturned_returns (h : (s.blk.channel (256 + c)).svc = .returning) : Completes (.channelReturned c) s (fun t =>
    (t.blk.channel (256 + c)).svc = .inUse ∧ (t.blk.channel (256 + c)).repair = false ∧
    ((∀ i, i < 16 → (s.blk.channel (256 + i)).st = .up) → t.blk.alert 11 = false) ∧ t.blk.mem = s.blk.mem) := by
  simp only [Completes, exec_channelReturned, execChannelReturned, State.run_eq]
  rw [if_neg (by simp [hc, h])]
  refine ⟨_, rfl, ?_⟩
  dsimp only
  generalize hd : (if (List.range 16).all _ = true then _ else _ : Block) = d
  obtain ⟨hmem, htray, q, hq⟩ := chanDone_frame d (256 + c) .ok
  rw [hmem, hq, Block.alert, htray]
  subst hd
  refine ⟨?_, ?_, fun hup => ?_, ?_⟩
  · split <;> simp
  · split <;> simp
  · rw [if_pos]
    · exact clearAlert_alert _ (by decide)
    · simp only [List.all_eq_true, List.mem_range, Bool.or_eq_true, beq_iff_eq]
      intro i hi
      rcases eq_or_ne i c with rfl | hne
      · exact .inl (by simp [hup i hi])
      · exact .inl (by rw [Block.updChannel_eq, Block.setChannel_channel_ne _ _ _ _ (by omega), hup i hi])
  · split <;> simp

end Channel

/-! ### The commands of the ageing-margin mode (R442, R443) -/

section Mode

variable {s : State} {role : Role} {l : Nat}

section Service

variable (ha : Admits s.blk role .service 0x10)
include ha

theorem measure_outOfRange (hl : 64 ≤ l) (x : Nat) : exec (.measure role l x) s = .next (s.withBlk (s.blk.refuse .outOfRange)) := by
  simp only [exec_measure, execMeasure, State.run_eq, ha.cmd, if_pos hl]

theorem replan_outOfRange (hl : 64 ≤ l) : exec (.replan role l) s = .next (s.withBlk (s.blk.refuse .outOfRange)) := by
  simp only [exec_replan, execReplan, State.run_eq, ha.cmd, if_pos hl]

theorem ageingImport_badSignature (cs : List V3Record) :
    exec (.ageingImport role false cs) s = .next (s.withBlk (s.blk.refuse .badSignature)) := by
  simp only [exec_ageingImport, execAgeingImport, State.run_eq, ha.cmd, Bool.not_false, if_true]

theorem ageingImport_fits (cs : List V3Record) : Completes (.ageingImport role true cs) s (fun t =>
    t.blk.power.model = fitAgeing cs ∧ t.blk.cmds.reply.status = .ok ∧ t.blk.mem = s.blk.mem ∧ t.blk.hws = s.blk.hws) := by
  have h := Planned.foldl (f := fun (e : Block) l => e.replan l) (fun _ l hb => hb.replan l) (l := List.range 64)
    (Planned.refl { s.blk with power := { s.blk.power with model := fitAgeing cs } })
  simp only [Completes, exec_ageingImport, execAgeingImport, State.run_eq, ha.cmd, Bool.not_true, Bool.false_eq_true, if_false]
  generalize (List.range 64).foldl _ _ = d at h ⊢
  exact ⟨_, rfl, h.model, rfl, h.mem, h.hws⟩

variable (hl : l < 64)
include hl

theorem replan_off (hm : s.blk.cfg 0x10000050 0 ≠ 1) : exec (.replan role l) s = .next (s.withBlk (s.blk.refuse .badState)) := by
  simp only [exec_replan, execReplan, State.run_eq, ha.cmd, if_neg (Nat.not_le.2 hl), if_pos hm]

theorem replan_plans (hm : s.blk.cfg 0x10000050 0 = 1) :
    exec (.replan role l) s = .next (s.withBlk ((s.blk.replan l).done objAgeing 0)) := by
  simp only [exec_replan, execReplan, State.run_eq, ha.cmd, if_neg (Nat.not_le.2 hl), if_neg (not_not.2 hm)]

theorem measure_notAlive (hv : (s.blk.lantern l).loss ≠ .alive) (x : Nat) :
    exec (.measure role l x) s = .next (s.withBlk (s.blk.refuse .badState)) := by
  simp only [exec_measure, execMeasure, State.run_eq, ha.cmd, if_neg (Nat.not_le.2 hl), if_pos hv]

variable (hv : (s.blk.lantern l).loss = .alive)
include hv

theorem measure_waited (hw : (s.blk.lantern l).measureWaits ≠ none) (x : Nat) :
    exec (.measure role l x) s = .next (s.withBlk (s.blk.refuse .busy)) := by
  simp only [exec_measure, execMeasure, State.run_eq, ha.cmd, if_neg (Nat.not_le.2 hl), if_neg (not_not.2 hv),
    if_pos (Option.isSome_iff_ne_none.2 hw)]

variable (hw : (s.blk.lantern l).measureWaits = none)
include hw

/-- A measurement that waits for the quiescent point. -/
def measureAsked (b : Block) (l x : Nat) : Block :=
  (b.accept objAgeing).updLantern l (fun y => { y with measureWaits := some (x, b.cmds.count + 1) })

theorem measure_asks (x : Nat) : exec (.measure role l x) s = .next (s.withBlk ((measureAsked s.blk l x).settle l)) := by
  simp only [exec_measure, execMeasure, State.run_eq, ha.cmd, if_neg (Nat.not_le.2 hl), if_neg (not_not.2 hv), hw,
    Option.isSome_none, Bool.false_eq_true, if_false]
  rfl

theorem measure_waits (hq : s.blk.quiet l = false) (x : Nat) : Completes (.measure role l x) s (fun t =>
    (t.blk.lantern l).measureWaits = some (x, s.blk.cmds.count + 1) ∧ t.blk.power = s.blk.power ∧ t.blk.cmds.reply.status = .accepted ∧
    t.blk.mem = s.blk.mem ∧ t.blk.hws = s.blk.hws ∧ ∀ j, j ≠ l → t.blk.lantern j = s.blk.lantern j) := by
  refine .of_exec (measure_asks ha hl hv hw x) ?_
  have hq' : (measureAsked s.blk l x).quiet l = false := hq
  rw [Block.settle, if_pos (by rw [hq']; rfl)]
  exact ⟨by simp [measureAsked], rfl, rfl, rfl, rfl, fun j hj => tget_tput_ne _ _ _ _ _ hj⟩

end Service

/-- A measurement is taken: the slowdown of the die at the lantern's site. -/
def measureTaken (b : Block) (l x : Nat) : Block :=
  let c := b.updLantern l (fun y => { y with measureWaits := none })
  { c with power := { c.power with slowdown := tput c.power.slowdown (c.siteOf l) x } }

theorem measured_eq (b : Block) (l x n : Nat) : b.measured l x n = ((measureTaken b l x).replan l).finishSts objAgeing n .ok := rfl

theorem measureTaken_lantern (b : Block) (l x : Nat) : (measureTaken b l x).lantern l = { b.lantern l with measureWaits := none } :=
  tget_tput_same _ _ _ _

theorem measureTaken_slowdown (b : Block) (l x d : Nat) : tget d (measureTaken b l x).power.slowdown (b.siteOf l) = x := by
  have hsite : (b.updLantern l (fun y => { y with measureWaits := none })).siteOf l = b.siteOf l := by simp [Block.siteOf]
  rw [← hsite]
  exact tget_tput_same _ _ _ _

/-- A measurement changes nothing of what waits for the quiescent point but itself. -/
theorem measured_lantern (b : Block) (l x n : Nat) : ∃ p q, (b.measured l x n).lantern l =
    { b.lantern l with measureWaits := none, boost := p, opPending := q } := by
  obtain ⟨p, q, h⟩ := ((Planned.refl (measureTaken b l x)).replan l).lantern l
  refine ⟨p, q, ?_⟩
  simp only [measured_eq, Block.finishSts_frame, h, measureTaken_lantern]

/-- At the quiescent point nothing but the measurement waits: it is taken at once. -/
theorem settle_measured {b : Block} {m : Nat × Nat} (hq : b.quiet l = true) (hm : (b.lantern l).measureWaits = some m)
    (hp : (b.lantern l).promoteTo = none) (hr : (b.lantern l).relightWaits = false) (hb : b.silent.retireBeams = []) :
    b.settle l = (b.measured l m.1 m.2).applyGuard l := by
  have hsilent : (b.measured l m.1 m.2).silent.retireBeams = [] := by
    rw [measured_eq]
    simp only [Block.finishSts_frame, ((Planned.refl (measureTaken b l m.1)).replan l).silent]
    exact hb
  have hretire : (b.measured l m.1 m.2).retirePending l = b.measured l m.1 m.2 := by
    simp [Block.retirePending, hsilent]
  obtain ⟨p, q, hlant⟩ := measured_lantern b l m.1 m.2
  obtain ⟨p', q', hguard⟩ := ((Planned.refl (b.measured l m.1 m.2)).applyGuard l).lantern l
  simp only [Block.settle, hq, Bool.not_true, Bool.false_eq_true, if_false, hm, hretire, hguard, hlant, hp, hr]

theorem measure_taken (ha : Admits s.blk role .service 0x10) (hl : l < 64) (hv : (s.blk.lantern l).loss = .alive)
    (hw : (s.blk.lantern l).measureWaits = none) (hq : s.blk.quiet l = true) (hp : (s.blk.lantern l).promoteTo = none)
    (hr : (s.blk.lantern l).relightWaits = false) (hb : s.blk.silent.retireBeams = []) (x : Nat) :
    Completes (.measure role l x) s (fun t => tget 0 t.blk.power.slowdown (s.blk.siteOf l) = x ∧
      (t.blk.lantern l).measureWaits = none ∧ t.blk.cmds.reply.status = .accepted ∧ t.blk.mem = s.blk.mem ∧
      t.blk.hws = s.blk.hws) := by
  refine .of_exec (measure_asks ha hl hv hw x) ?_
  have hwait : (measureAsked s.blk l x).lantern l = { s.blk.lantern l with measureWaits := some (x, s.blk.cmds.count + 1) } :=
    tget_tput_same _ _ _ _
  have hsite : (measureAsked s.blk l x).siteOf l = s.blk.siteOf l := by simp only [Block.siteOf, hwait]
  rw [settle_measured (b := measureAsked s.blk l x) (m := (x, s.blk.cmds.count + 1)) hq (by rw [hwait]) (by rw [hwait]; exact hp) (by rw [hwait]; exact hr) hb]
  have hplan := (Planned.refl (measureTaken (measureAsked s.blk l x) l x)).replan l
  have hput := (Planned.refl ((measureAsked s.blk l x).measured l x (s.blk.cmds.count + 1))).applyGuard l
  obtain ⟨p, q, hlant⟩ := measured_lantern (measureAsked s.blk l x) l x (s.blk.cmds.count + 1)
  obtain ⟨p', q', hguard⟩ := hput.lantern l
  refine ⟨?_, ?_, ?_, ?_, ?_⟩
  · rw [State.withBlk, hput.slowdown, measured_eq]
    simp only [Block.finishSts_frame, hplan.slowdown]
    rw [← hsite]
    exact measureTaken_slowdown ..
  · rw [State.withBlk, hguard, hlant]
  · rw [State.withBlk, hput.cmds, measured_eq, finishSts_reply, hplan.cmds]
    rfl
  · rw [State.withBlk, hput.mem, measured_eq]
    simp only [Block.finishSts_frame, hplan.mem]
    rfl
  · rw [State.withBlk, hput.hws, measured_eq]
    simp only [Block.finishSts_frame, hplan.hws]
    rfl

theorem resetGuard_outOfRange (ha : Admits s.blk role .vendor 0x10) (hl : 64 ≤ l) :
    exec (.resetGuard role l) s = .next (s.withBlk (s.blk.refuse .outOfRange)) := by
  simp only [exec_resetGuard, execResetGuard, State.run_eq, ha.cmd, if_pos hl]

/-- The guard that waits for a lantern's die is dropped, and boost is allowed again where the plan lies within its limit. -/
def guardCleared (b : Block) (l : Nat) : Block :=
  { b with power := { b.power with
    guardNext := tdel b.power.guardNext (b.siteOf l)
    noBoost := if b.plannedGuard (b.siteOf l) ≤ 40 then b.power.noBoost.filter (· != b.siteOf l) else b.power.noBoost } }

theorem guardCleared_planned (b : Block) (l : Nat) : Planned b (guardCleared b l) := (Planned.refl b).withPower _ rfl rfl

theorem resetGuard_plans (ha : Admits s.blk role .vendor 0x10) (hl : l < 64) : exec (.resetGuard role l) s = .next (s.withBlk
    (((guardCleared s.blk l).planGuard l (s.blk.siteOf l)
      (if s.blk.cfg 0x10000050 0 = 1 then min 40 (s.blk.plannedGuard (s.blk.siteOf l)) else 25)
      (decide (s.blk.cfg 0x10000050 0 = 1 ∧ 40 < s.blk.plannedGuard (s.blk.siteOf l)))).done objAgeing 0)) := by
  simp only [exec_resetGuard, execResetGuard, State.run_eq, ha.cmd, if_neg (Nat.not_le.2 hl)]
  rfl

/-- RESET_GUARD at the quiescent point puts in force what R442 gives now. -/
theorem resetGuard_resets (ha : Admits s.blk role .vendor 0x10) (hl : l < 64) (hq : s.blk.quiet l = true) :
    Completes (.resetGuard role l) s (fun t => tget 25 t.blk.power.guard (s.blk.siteOf l) =
        (if s.blk.cfg 0x10000050 0 = 1 then min 40 (s.blk.plannedGuard (s.blk.siteOf l)) else 25) ∧
      t.blk.cmds.reply.status = .ok ∧ t.blk.mem = s.blk.mem) := by
  refine .of_exec (resetGuard_plans ha hl) ?_
  have hclear := guardCleared_planned s.blk l
  rw [← hclear.quiet] at hq
  rw [← hclear.siteOf]
  refine ⟨?_, rfl, ?_⟩
  · simp only [Block.done_frame]
    exact planGuard_quiet hq _ _ _
  · simp only [Block.done_frame]
    exact (hclear.planGuard ..).mem

/-- An object written into force and into the persisted set, where a flash device works and the effect leaves the store. -/
theorem persistWrite_inForce {b : Block} {obj : Nat} {v : List Byte} {f : Block → Block} (hf : ¬(b.tray.sf0Failed = true ∧ b.tray.sf1Failed = true))
    {c : Block} (hc : f { b with store := { b.store with inForce := tput b.store.inForce obj v } } = c)
    (hs : c.store = { b.store with inForce := tput b.store.inForce obj v }) (d : Nat) :
    (b.persistWrite obj v true f).cfg obj d = leNat v ∧ (b.persistWrite obj v true f).cmds.reply.status = .ok ∧
    (b.persistWrite obj v true f).mem = c.mem ∧ (b.persistWrite obj v true f).hws = c.hws := by
  have hw : b.persistWrite obj v true f = { c.persistValue obj v with
      cmds := { c.cmds with reply := { status := .ok, ret := (c.persistValue obj v).store.nextSeq } } } := by
    rw [Block.persistWrite, if_pos rfl, hc, if_neg hf]
    rfl
  rw [hw]
  refine ⟨?_, rfl, rfl, rfl⟩
  simp only [Block.cfg, Block.persistValue, hs, tfind_tput_same]

theorem ageingModeWrite_writes (ha : Admits s.blk role .operator 0x70) (on : Bool)
    (hf : s.blk.tray.sf0Failed = false ∨ s.blk.tray.sf1Failed = false) : Completes (.ageingModeWrite role on) s (fun t =>
      t.blk.cfg 0x10000050 0 = (if on then 1 else 0) ∧ t.blk.cmds.reply.status = .ok ∧ t.blk.mem = s.blk.mem ∧
      t.blk.hws = s.blk.hws) := by
  have hboth : ¬(s.blk.tray.sf0Failed = true ∧ s.blk.tray.sf1Failed = true) := by
    rintro ⟨h0, h1⟩
    simp [h0, h1] at hf
  simp only [Completes, exec_ageingModeWrite, execAgeingModeWrite, State.run_eq, ha.cmd, Block.writeAgeing]
  refine ⟨_, rfl, ?_⟩
  dsimp only
  cases on with
  | false =>
    obtain ⟨hcfg, hst, hmem, hhws⟩ := persistWrite_inForce (obj := 0x10000050) (v := [0]) hboth (f := fun d => { d with power := { d.power with
      guard := d.power.guard.map (fun e => (e.1, max 25 e.2)), guardNext := d.power.guardNext.map (fun e => (e.1, max 25 e.2)) } }) rfl rfl 0
    exact ⟨hcfg, hst, hmem, hhws⟩
  | true =>
    have hplan := Planned.ite (p := s.blk.cfg 0x10000050 0 = 1)
      (Planned.refl { s.blk with store := { s.blk.store with inForce := tput s.blk.store.inForce 0x10000050 [1] } })
      (Planned.foldl (f := fun (e : Block) l => e.replan l) (fun _ l hb => hb.replan l) (l := List.range 64) (Planned.refl _))
    obtain ⟨hcfg, hst, hmem, hhws⟩ := persistWrite_inForce (obj := 0x10000050) (v := [1]) hboth (f := fun d =>
      if s.blk.cfg 0x10000050 0 = 1 then d else (List.range 64).foldl (fun (e : Block) l => e.replan l) d) rfl hplan.store 0
    exact ⟨hcfg, hst, hmem.trans hplan.mem, hhws.trans hplan.hws⟩

end Mode

/-- Settles O55: a channel by its service state, the ageing-margin mode by what a re-plan keeps. -/
theorem channelsAndAgeing : Obligations.ChannelsAndAgeing := by
  unfold Obligations.ChannelsAndAgeing
  exact ⟨fun s role => ⟨fun ha => ⟨fun c hc => ⟨takeOut_outOfRange ha hc, bringIn_outOfRange ha hc⟩, fun c e hc => takeOut_refused ha hc,
        fun c hc => takeOutStart_notInUse, fun c d hc => takeOut_starts ha hc, fun c hc => bringIn_refused ha hc,
        fun c hc => bringIn_trains ha hc⟩,
      fun c hc => channelEvacuated_goesOff hc, fun c hc => channelEvacuated_stays,
      fun c hc h => ⟨channelTrained_returns hc h, channelTrained_fails hc h⟩, fun c x hc h => channelTrained_stays h x,
      fun c hc => channelReturned_returns hc, fun c hc => channelReturned_stays⟩,
    fun s role => ⟨fun ha => ⟨fun l hl => ⟨measure_outOfRange ha hl, replan_outOfRange ha hl⟩,
        fun l x hl hv => measure_notAlive ha hl hv x, fun l x hl hv hw => measure_waited ha hl hv hw x,
        fun l x hl hv hw => ⟨fun hq => measure_waits ha hl hv hw hq x, fun hq hp hr hb => measure_taken ha hl hv hw hq hp hr hb x⟩,
        fun l => replan_off ha, fun l => replan_plans ha, ageingImport_badSignature ha, ageingImport_fits ha⟩,
      fun ha => ⟨fun l => resetGuard_outOfRange ha, fun l => resetGuard_resets ha⟩, ageingModeWrite_writes,
      fun l _ => replan_guard⟩⟩

end Sys2Proof

/-! PROOFS. Firmware slots and switches (R430 to R433, R446, R451): the candidate slot's bytes, the checks of VERIFY, the commands that
send units between slots, and a unit's switch point. -/

namespace Sys2Proof

open Sys2Proof.Machine

theorem exec_slotWindow (role : Role) (u : Nat) (bs : List Byte) (s : State) : exec (.slotWindow role u bs) s = execSlotWindow role u bs s := rfl
theorem exec_verify (role : Role) (u : Nat) (v : ImageSeal) (s : State) : exec (.verify role u v) s = execVerify role u v s := rfl
theorem exec_activate (role : Role) (u : Nat) (m : W64) (s : State) : exec (.activate role u m) s = execActivate role u m s := rfl
theorem exec_revert (role : Role) (u : Nat) (m : W64) (s : State) : exec (.revert role u m) s = execRevert role u m s := rfl
theorem exec_commit (role : Role) (u : Nat) (s : State) : exec (.commit role u) s = execCommit role u s := rfl
theorem exec_unitSwitch (c u : Nat) (s : State) : exec (.unitSwitch c u) s = execUnitSwitch c u s := rfl
theorem exec_firmwareSwitchSkipped (c u : Nat) (s : State) : exec (.firmwareSwitchSkipped c u) s = execFirmwareSwitchSkipped c u s := rfl
theorem exec_firmwareReverted (c u : Nat) (s : State) : exec (.firmwareReverted c u) s = execFirmwareReverted c u s := rfl

/-! ### The candidate slot (R432) -/

/-- Bytes put in a row at consecutive keys: each is found at its own, and any other key as before. -/
theorem tfind_putRow {α : Type} (k n : Nat) (bs : List α) (j : Nat) (t : Tab α) :
    tfind ((bs.zipIdx j).foldl (fun (t : Tab α) e => tput t (k + e.2) e.1) t) n =
      if k + j ≤ n then (bs[n - (k + j)]?).or (tfind t n) else tfind t n := by
  induction bs generalizing j t with
  | nil => simp
  | cons x bs ih =>
    rw [List.zipIdx_cons, List.foldl_cons, ih]
    rcases lt_trichotomy n (k + j) with hn | rfl | hn
    · rw [if_neg (by omega), if_neg (by omega), tfind_tput_ne _ _ _ _ (by omega)]
    · rw [if_neg (by omega), if_pos le_rfl, tfind_tput_same]
      simp
    · obtain ⟨m, rfl⟩ := Nat.exists_eq_add_of_lt hn
      rw [if_pos (by omega), if_pos (by omega), tfind_tput_ne _ _ _ _ (by omega), show k + j + m + 1 - (k + (j + 1)) = m by omega,
        show k + j + m + 1 - (k + j) = m + 1 by omega, List.getElem?_cons_succ]

section Window

variable {s : State} {role : Role} {u : Nat} (ha : Admits s.blk role .service 0x71)
include ha

theorem slotWindow_notFound (hu : 6 ≤ u) (bs : List Byte) : exec (.slotWindow role u bs) s = .next (s.withBlk (s.blk.refuse .notFound)) := by
  simp only [exec_slotWindow, execSlotWindow, State.run_eq, ha.cmd, if_pos hu]

variable (hu : u < 6) {bs : List Byte}
include hu

theorem slotWindow_runs : exec (.slotWindow role u bs) s = .next (s.withBlk (s.blk.slotWindow u bs)) := by
  simp only [exec_slotWindow, execSlotWindow, State.run_eq, ha.cmd, if_neg (Nat.not_le.2 hu)]

theorem slotWindow_tooLarge (hl : 2 ^ 20 < bs.length) : exec (.slotWindow role u bs) s = .next (s.withBlk (s.blk.refuse .tooLarge)) := by
  rw [slotWindow_runs ha hu, Block.slotWindow, if_pos hl]

theorem slotWindow_busy (hl : bs.length ≤ 2 ^ 20) (hb : s.blk.candBusy u = true) :
    exec (.slotWindow role u bs) s = .next (s.withBlk (s.blk.refuse .busy)) := by
  rw [slotWindow_runs ha hu, Block.slotWindow, if_neg (Nat.not_lt.2 hl), if_pos hb]

end Window

/-- The record of a class with a chunk programmed into its candidate slot. -/
def programmed (f : Firmware) (base : Nat) (bs : List Byte) : Firmware :=
  ({ f with
    cand := 1, bytes := (bs.zipIdx).foldl (fun (t : Tab Byte) (e : Byte × Nat) =>
      tput t ((1 - f.boot) * 2 ^ 24 + base + e.2) e.1) f.bytes }).setVer (1 - f.boot) 0

theorem setVer_frame (f : Firmware) (k v : Nat) : (f.setVer k v).cand = f.cand ∧ (f.setVer k v).boot = f.boot ∧
    (f.setVer k v).onCand = f.onCand ∧ (f.setVer k v).bytes = f.bytes ∧ (f.setVer k v).candSec = f.candSec ∧
    (f.setVer k v).floor = f.floor := by
  unfold Firmware.setVer
  split <;> exact ⟨rfl, rfl, rfl, rfl, rfl, rfl⟩

theorem slotWindow_programs {b : Block} {u : Nat} {bs : List Byte} (hl : bs.length ≤ 2 ^ 20) (hb : b.candBusy u = false)
    (hs : b.cfg (unitNo 0x71 u + 0x11) 0 + bs.length ≤ slotBytes u) :
    b.slotWindow u bs = (b.setFw u (programmed (b.fw u) (b.cfg (unitNo 0x71 u + 0x11) 0) bs)).refuse .ok := by
  simp only [Block.slotWindow, if_neg (Nat.not_lt.2 hl), hb, Bool.false_eq_true, if_false, if_neg (Nat.not_lt.2 hs)]
  rfl

theorem programmed_frame (f : Firmware) (base : Nat) (bs : List Byte) : (programmed f base bs).cand = 1 ∧
    (programmed f base bs).boot = f.boot ∧ (programmed f base bs).onCand = f.onCand := by
  obtain ⟨hcand, hboot, hon, -, -, -⟩ := setVer_frame { f with
    cand := 1, bytes := (bs.zipIdx).foldl (fun (t : Tab Byte) (e : Byte × Nat) =>
      tput t ((1 - f.boot) * 2 ^ 24 + base + e.2) e.1) f.bytes } (1 - f.boot) 0
  exact ⟨hcand, hboot, hon⟩

theorem programmed_byte (f : Firmware) (base n : Nat) (bs : List Byte) : tfind (programmed f base bs).bytes ((1 - f.boot) * 2 ^ 24 + n) =
    if base ≤ n then (bs[n - base]?).or (tfind f.bytes ((1 - f.boot) * 2 ^ 24 + n)) else tfind f.bytes ((1 - f.boot) * 2 ^ 24 + n) := by
  obtain ⟨-, -, -, hbytes, -, -⟩ := setVer_frame { f with
    cand := 1, bytes := (bs.zipIdx).foldl (fun (t : Tab Byte) (e : Byte × Nat) =>
      tput t ((1 - f.boot) * 2 ^ 24 + base + e.2) e.1) f.bytes } (1 - f.boot) 0
  rw [programmed, hbytes, tfind_putRow]
  generalize (1 - f.boot) * 2 ^ 24 = k
  simp only [Nat.add_zero, Nat.add_le_add_iff_left, Nat.add_sub_add_left]

/-- A chunk in the candidate slot: its bytes are read there, and every other byte of the slot as before. -/
theorem slotWindow_completes {s : State} {role : Role} {u : Nat} (ha : Admits s.blk role .service 0x71) (hu : u < 6) {bs : List Byte}
    (hl : bs.length ≤ 2 ^ 20) (hb : s.blk.candBusy u = false)
    (hs : s.blk.cfg (unitNo 0x71 u + 0x11) 0 + bs.length ≤ slotBytes u) :
    Completes (.slotWindow role u bs) s (fun t => (t.blk.fw u).cand = 1 ∧ (t.blk.fw u).boot = (s.blk.fw u).boot ∧
      (t.blk.fw u).onCand = (s.blk.fw u).onCand ∧ t.blk.cmds.reply.status = .ok ∧
      (∀ i v, bs[i]? = some v → t.blk.slotByte u (1 - (s.blk.fw u).boot) (s.blk.cfg (unitNo 0x71 u + 0x11) 0 + i) = v) ∧
      (∀ i, (i < s.blk.cfg (unitNo 0x71 u + 0x11) 0 ∨ s.blk.cfg (unitNo 0x71 u + 0x11) 0 + bs.length ≤ i) →
        t.blk.slotByte u (1 - (s.blk.fw u).boot) i = s.blk.slotByte u (1 - (s.blk.fw u).boot) i) ∧
      t.blk.mem = s.blk.mem ∧ ∀ v, v ≠ u → t.blk.fw v = s.blk.fw v) := by
  refine .of_exec ((slotWindow_runs ha hu).trans (by rw [slotWindow_programs hl hb hs])) ?_
  generalize s.blk.cfg (unitNo 0x71 u + 0x11) 0 = base
  have hfw : ((s.blk.setFw u (programmed (s.blk.fw u) base bs)).refuse .ok).fw u = programmed (s.blk.fw u) base bs := by simp
  obtain ⟨hcand, hboot, hon⟩ := programmed_frame (s.blk.fw u) base bs
  refine ⟨?_, ?_, ?_, rfl, fun i v hi => ?_, fun i hi => ?_, rfl, fun v hv => tget_tput_ne _ _ _ _ _ hv⟩
  · rw [State.withBlk, hfw, hcand]
  · rw [State.withBlk, hfw, hboot]
  · rw [State.withBlk, hfw, hon]
  · simp only [Block.slotByte, hfw, programmed_byte]
    rw [if_pos (Nat.le_add_right _ _), Nat.add_sub_cancel_left, hi]
    rfl
  · have hout : (if base ≤ i then (bs[i - base]?).or (tfind (s.blk.fw u).bytes ((1 - (s.blk.fw u).boot) * 2 ^ 24 + i))
        else tfind (s.blk.fw u).bytes ((1 - (s.blk.fw u).boot) * 2 ^ 24 + i)) =
        tfind (s.blk.fw u).bytes ((1 - (s.blk.fw u).boot) * 2 ^ 24 + i) := by
      split
      · rw [List.getElem?_eq_none (by omega), Option.none_or]
      · rfl
    simp only [Block.slotByte, hfw, programmed_byte, hout]

/-! ### VERIFY (R431, R432, R451) -/

section Verify

variable {s : State} {role : Role} {u : Nat} {v : ImageSeal} (ha : Admits s.blk role .service 0x71)
include ha

theorem verify_outOfRange (hu : 6 ≤ u) : exec (.verify role u v) s = .next (s.withBlk (s.blk.refuse .outOfRange)) := by
  simp only [exec_verify, execVerify, State.run_eq, ha.cmd, if_pos hu]

variable (hu : u < 6)
include hu

theorem verify_invalid (hc : (s.blk.fw u).cand = 0) : exec (.verify role u v) s = .next (s.withBlk (s.blk.refuse .badState)) := by
  simp only [exec_verify, execVerify, State.run_eq, ha.cmd, if_neg (Nat.not_le.2 hu), if_pos hc]

variable (hc : (s.blk.fw u).cand ≠ 0)
include hc

theorem verify_badSignature (hs : v.sigOk = false ∨ v.digestOk = false) :
    exec (.verify role u v) s = .next (s.withBlk (s.blk.refuse .badSignature)) := by
  have hbad : (!v.sigOk || !v.digestOk) = true := by
    rcases hs with hs | hs <;> simp [hs]
  simp only [exec_verify, execVerify, State.run_eq, ha.cmd, if_neg (Nat.not_le.2 hu), if_neg hc, if_pos hbad]

variable (hs : v.sigOk = true) (hd : v.digestOk = true)
include hs hd

theorem verify_reserved (h0 : (s.blk.imageHdr u (1 - (s.blk.fw u).boot)).reservedZero = false) :
    exec (.verify role u v) s = .next (s.withBlk (s.blk.refuse .rsvNonzero)) := by
  simp only [exec_verify, execVerify, State.run_eq, ha.cmd, if_neg (Nat.not_le.2 hu), if_neg hc, hs, hd, Bool.not_true, Bool.or_self,
    Bool.false_eq_true, if_false, h0, Bool.not_false, if_true]

variable (h0 : (s.blk.imageHdr u (1 - (s.blk.fw u).boot)).reservedZero = true)
include h0

theorem verify_level (hl : (s.blk.imageHdr u (1 - (s.blk.fw u).boot)).level ≠ 1 ∨
    (s.blk.imageHdr u (1 - (s.blk.fw u).boot)).levels &&& supportedLevels ≠ supportedLevels) :
    exec (.verify role u v) s = .next (s.withBlk (s.blk.refuse .levelReject)) := by
  simp only [exec_verify, execVerify, State.run_eq, ha.cmd, if_neg (Nat.not_le.2 hu), if_neg hc, hs, hd, Bool.not_true, Bool.or_self,
    Bool.false_eq_true, if_false, h0, if_pos hl]

variable (hl : ¬((s.blk.imageHdr u (1 - (s.blk.fw u).boot)).level ≠ 1 ∨
  (s.blk.imageHdr u (1 - (s.blk.fw u).boot)).levels &&& supportedLevels ≠ supportedLevels))
include hl

/-- The checks of the header against the class: what fails one of them. -/
def misfit (b : Block) (u : Nat) (h : FwHdr) : Prop :=
  h.magic ≠ 0x46575347 ∨ h.cls ≠ u ∨ slotBytes u - 256 < h.length ∨ b.ifOk u h = false ∨ h.secVersion < (b.fw u).floor

theorem verify_misfit (hm : misfit s.blk u (s.blk.imageHdr u (1 - (s.blk.fw u).boot))) :
    exec (.verify role u v) s = .next (s.withBlk (s.blk.refuse .badState)) := by
  simp only [exec_verify, execVerify, State.run_eq, ha.cmd, if_neg (Nat.not_le.2 hu), if_neg hc, hs, hd, Bool.not_true, Bool.or_self,
    Bool.false_eq_true, if_false, h0, if_neg hl]
  rw [if_pos]
  rcases hm with h | h | h | h | h
  · exact .inl h
  · exact .inr (.inl h)
  · exact .inr (.inr (.inl h))
  · exact .inr (.inr (.inr (.inl (by rw [h]; rfl))))
  · exact .inr (.inr (.inr (.inr h)))

theorem verify_passes (hm : ¬misfit s.blk u (s.blk.imageHdr u (1 - (s.blk.fw u).boot))) :
    Completes (.verify role u v) s (fun t => (t.blk.fw u).cand = 2 ∧
      (t.blk.fw u).candSec = (s.blk.imageHdr u (1 - (s.blk.fw u).boot)).secVersion ∧ (t.blk.fw u).boot = (s.blk.fw u).boot ∧
      t.blk.cmds.reply.status = .ok ∧ ∀ v, v ≠ u → t.blk.fw v = s.blk.fw v) := by
  simp only [Completes, exec_verify, execVerify, State.run_eq, ha.cmd, if_neg (Nat.not_le.2 hu), if_neg hc, hs, hd, Bool.not_true,
    Bool.or_self, Bool.false_eq_true, if_false, h0, if_neg hl]
  rw [if_neg]
  · refine ⟨_, rfl, ?_⟩
    dsimp only
    refine ⟨?_, ?_, ?_, rfl, fun v hv => tget_tput_ne _ _ _ _ _ hv⟩
    all_goals simp only [Block.done_frame, Block.updFw_eq, Block.setFw_fw, setVer_frame]
  · rintro (h | h | h | h | h)
    · exact hm (.inl h)
    · exact hm (.inr (.inl h))
    · exact hm (.inr (.inr (.inl h)))
    · exact hm (.inr (.inr (.inr (.inl (by simpa using h)))))
    · exact hm (.inr (.inr (.inr (.inr h))))

end Verify

/-! ### ACTIVATE, REVERT and COMMIT (R432) -/

theorem setBits_ne_nil {m : W64} (h : m ≠ 0) : setBits m 64 ≠ [] := by
  intro hnil
  refine h (BitVec.eq_of_getLsbD_eq fun i hi => ?_)
  have hi' := List.filter_eq_nil_iff.1 hnil i (List.mem_range.2 hi)
  simpa using hi'

/-- Units that go to a slot wait for their switch points; the command runs on. -/
theorem switchUnits_waits {b : Block} {u slot : Nat} {units : List Nat} (h : units ≠ []) :
    b.switchUnits u slot units = (b.accept objFirmware).updFw u (fun x => { x with
      switching := units.map (fun i => (i, slot)), paused := [], tries := [], cmd := some (b.cmds.count + 1), result := .ok }) := by
  have hne : units.map (fun i => (i, slot)) ≠ [] := by simpa using h
  simp only [Block.switchUnits, Block.switchesDone, Block.updFw_eq, Block.setFw_fw, if_neg hne]
  rfl

theorem switchUnits_leaves {b : Block} {u slot : Nat} {units : List Nat} (h : units ≠ []) :
    ((b.switchUnits u slot units).fw u).switching = units.map (fun i => (i, slot)) ∧
    ((b.switchUnits u slot units).fw u).cmd = some (b.cmds.count + 1) ∧
    (b.switchUnits u slot units).cmds.reply.status = .accepted ∧ (b.switchUnits u slot units).mem = b.mem ∧
    (b.switchUnits u slot units).hws = b.hws := by
  rw [switchUnits_waits h]
  exact ⟨by simp, by simp, rfl, rfl, rfl⟩

section Commands

variable {s : State} {role : Role} {u : Nat} {m : W64} (ha : Admits s.blk role .service 0x71)
include ha

theorem switch_outOfRange (hu : 6 ≤ u) : exec (.activate role u m) s = .next (s.withBlk (s.blk.refuse .outOfRange)) ∧
    exec (.revert role u m) s = .next (s.withBlk (s.blk.refuse .outOfRange)) := by
  simp only [exec_activate, execActivate, exec_revert, execRevert, State.run_eq, ha.cmd, hu, true_or, if_true, and_self]

theorem commit_outOfRange (hu : 6 ≤ u) : exec (.commit role u) s = .next (s.withBlk (s.blk.refuse .outOfRange)) := by
  simp only [exec_commit, execCommit, State.run_eq, ha.cmd, if_pos hu]

variable (hu : u < 6)
include hu

section Mask

variable (hr : s.blk.tray.rails = true) (hm : m.toNat < 2 ^ fwUnits u)
include hr hm

theorem activate_runs : exec (.activate role u m) s = .next (s.withBlk (
    if (s.blk.fw u).cand ≠ 2 then s.blk.refuse .badState
    else if (s.blk.fw u).cmd.isSome then s.blk.refuse .busy
    else s.blk.switchUnits u (1 - (s.blk.fw u).boot) ((setBits m 64).filter (fun i => !(s.blk.fw u).onCand.contains i)))) := by
  simp only [exec_activate, execActivate, State.run_eq, ha.cmd]
  rw [if_neg (not_or.2 ⟨Nat.not_le.2 hu, Nat.not_le.2 hm⟩), if_neg (by simp [hr])]

theorem revert_runs : exec (.revert role u m) s = .next (s.withBlk (
    if (s.blk.fw u).cmd.isSome then s.blk.refuse .busy
    else s.blk.switchUnits u (s.blk.fw u).boot ((setBits m 64).filter (fun i => (s.blk.fw u).onCand.contains i)))) := by
  simp only [exec_revert, execRevert, State.run_eq, ha.cmd]
  rw [if_neg (not_or.2 ⟨Nat.not_le.2 hu, Nat.not_le.2 hm⟩), if_neg (by simp [hr])]

theorem activate_notValid (hc : (s.blk.fw u).cand ≠ 2) : exec (.activate role u m) s = .next (s.withBlk (s.blk.refuse .badState)) := by
  rw [activate_runs ha hu hr hm, if_pos hc]

theorem activate_busy (hc : (s.blk.fw u).cand = 2) (hn : (s.blk.fw u).cmd.isSome = true) :
    exec (.activate role u m) s = .next (s.withBlk (s.blk.refuse .busy)) := by
  rw [activate_runs ha hu hr hm, if_neg (not_not.2 hc), if_pos hn]

theorem activate_switches (hc : (s.blk.fw u).cand = 2) (hn : (s.blk.fw u).cmd = none) (ho : (s.blk.fw u).onCand = []) (h0 : m ≠ 0) :
    Completes (.activate role u m) s (fun t => (t.blk.fw u).switching = (setBits m 64).map (fun i => (i, 1 - (s.blk.fw u).boot)) ∧
      (t.blk.fw u).cmd = some (s.blk.cmds.count + 1) ∧ t.blk.cmds.reply.status = .accepted ∧ t.blk.mem = s.blk.mem ∧
      t.blk.hws = s.blk.hws) := by
  have hall : (setBits m 64).filter (fun i => !(s.blk.fw u).onCand.contains i) = setBits m 64 := by simp [ho]
  refine .of_exec (activate_runs ha hu hr hm) ?_
  rw [if_neg (not_not.2 hc), if_neg (by simp [hn]), hall]
  exact switchUnits_leaves (setBits_ne_nil h0)

theorem revert_busy (hn : (s.blk.fw u).cmd.isSome = true) : exec (.revert role u m) s = .next (s.withBlk (s.blk.refuse .busy)) := by
  rw [revert_runs ha hu hr hm, if_pos hn]

theorem revert_switches (hn : (s.blk.fw u).cmd = none) (ho : ∀ i, m.getLsbD i = true → i ∈ (s.blk.fw u).onCand) (h0 : m ≠ 0) :
    Completes (.revert role u m) s (fun t => (t.blk.fw u).switching = (setBits m 64).map (fun i => (i, (s.blk.fw u).boot)) ∧
      (t.blk.fw u).cmd = some (s.blk.cmds.count + 1) ∧ t.blk.cmds.reply.status = .accepted ∧ t.blk.mem = s.blk.mem) := by
  have hall : (setBits m 64).filter (fun i => (s.blk.fw u).onCand.contains i) = setBits m 64 := by
    refine List.filter_eq_self.2 fun i hi => ?_
    simpa using ho i (List.mem_filter.1 hi).2
  refine .of_exec (revert_runs ha hu hr hm) ?_
  rw [if_neg (by simp [hn]), hall]
  obtain ⟨hsw, hcmd, hst, hmem, -⟩ := switchUnits_leaves (b := s.blk) (u := u) (slot := (s.blk.fw u).boot) (setBits_ne_nil h0)
  exact ⟨hsw, hcmd, hst, hmem⟩

end Mask

theorem commit_notAll (h : ∃ i, i < fwUnits u ∧ i ∉ (s.blk.fw u).onCand) :
    exec (.commit role u) s = .next (s.withBlk (s.blk.refuse .badState)) := by
  obtain ⟨i, hi, hnot⟩ := h
  simp only [exec_commit, execCommit, State.run_eq, ha.cmd, if_neg (Nat.not_le.2 hu)]
  rw [if_pos]
  left
  simp only [Bool.not_eq_true', List.all_eq_false, List.mem_range, List.contains_eq_mem, decide_eq_true_eq]
  exact ⟨i, hi, hnot⟩

theorem commit_commits (hn : (s.blk.fw u).cmd = none) (h : ∀ i, i < fwUnits u → i ∈ (s.blk.fw u).onCand) :
    Completes (.commit role u) s (fun t => (t.blk.fw u).boot = 1 - (s.blk.fw u).boot ∧ (t.blk.fw u).cand = 0 ∧ (t.blk.fw u).onCand = [] ∧
      (t.blk.fw u).floor = (if s.blk.cfg 0x78000011 1 = 1 ∧ (s.blk.fw u).floor < (s.blk.fw u).candSec then (s.blk.fw u).candSec
        else (s.blk.fw u).floor) ∧
      t.blk.cmds.reply.status = .ok ∧ ∀ v, v ≠ u → t.blk.fw v = s.blk.fw v) := by
  simp only [Completes, exec_commit, execCommit, State.run_eq, ha.cmd, if_neg (Nat.not_le.2 hu)]
  rw [if_neg (by simpa [hn] using h)]
  refine ⟨_, rfl, ?_⟩
  dsimp only
  generalize hd : Block.updFw s.blk u _ = d
  have hfw (e : Block) (he : e = d ∨ ∃ i v, e = d.measure i v) (o r v : Nat) : (e.done o r).fw v = d.fw v := by
    rcases he with rfl | ⟨i, v, rfl⟩ <;> rfl
  have he : ∀ p : Prop, ∀ _ : Decidable p, ∀ v, (if p then d.measure 8 v else d) = d ∨
      ∃ i v', (if p then d.measure 8 v else d) = d.measure i v' := by
    intro p _ v
    split
    · exact .inr ⟨_, _, rfl⟩
    · exact .inl rfl
  simp only [hfw _ (he _ _ _)]
  subst hd
  simp only [Block.updFw_eq, Block.setFw_fw, setVer_frame, decide_eq_true_eq, true_and]
  exact ⟨rfl, fun v hv => tget_tput_ne _ _ _ _ _ hv⟩

end Commands

/-! ### Switch points (R433, R446) -/

section Switch

variable {s : State} {c u : Nat}

theorem switch_notWaiting (h : (s.blk.fw c).switching.find? (fun e => e.1 == u) = none) :
    exec (.unitSwitch c u) s = .next s ∧ exec (.firmwareReverted c u) s = .next s := by
  have hany : (s.blk.fw c).switching.any (fun e => e.1 == u) = false := by
    rw [List.any_eq_false]
    exact List.find?_eq_none.1 h
  simp only [exec_unitSwitch, execUnitSwitch, exec_firmwareReverted, execFirmwareReverted, State.run_eq, h, hany, Bool.not_false, true_or,
    if_true, and_self]

section Waiting

variable {e : Nat × Nat} (h : (s.blk.fw c).switching.find? (fun e => e.1 == u) = some e)
include h

theorem unitSwitch_switches (ha : s.blk.atSwitch c u = true) :
    exec (.unitSwitch c u) s = .next (s.withBlk (((s.blk.loadImage c u).nowRuns c u e.2).switchesDone c)) := by
  simp only [exec_unitSwitch, execUnitSwitch, State.run_eq, h, ha, if_true]

theorem unitSwitch_retries (ha : s.blk.atSwitch c u = false) : exec (.unitSwitch c u) s = .next (s.withBlk
    (s.blk.updFw c (fun x => { x with paused := x.paused.filter (· != u) }))) := by
  simp only [exec_unitSwitch, execUnitSwitch, State.run_eq, h, ha, Bool.false_eq_true, if_false]

end Waiting

theorem firmwareReverted_notThere (ha : s.blk.atSwitch c u = false) : exec (.firmwareReverted c u) s = .next s := by
  simp only [exec_firmwareReverted, execFirmwareReverted, State.run_eq, ha, Bool.not_false, or_true, if_true]

/-- A unit that runs a slot from now on, and what that leaves. -/
theorem nowRuns_leaves (b : Block) (slot v : Nat) :
    ((b.nowRuns c u slot).fw c).switching = (b.fw c).switching.filter (fun e => e.1 != u) ∧
    (slot = (b.fw c).boot → ((b.nowRuns c u slot).fw c).onCand = (b.fw c).onCand.filter (· != u)) ∧
    (b.nowRuns c u slot).mem = b.mem ∧ (v ≠ c → (b.nowRuns c u slot).fw v = b.fw v) := by
  have hfw : (b.nowRuns c u slot).fw c = { b.fw c with
      switching := (b.fw c).switching.filter (fun e => e.1 != u), paused := (b.fw c).paused.filter (· != u)
      onCand := if slot = (b.fw c).boot then (b.fw c).onCand.filter (· != u) else sput (b.fw c).onCand u } := tget_tput_same _ _ _ _
  rw [hfw]
  exact ⟨rfl, fun hs => if_pos hs, rfl, fun hv => tget_tput_ne _ _ _ _ _ hv⟩

/-- No command waits for the units of a class: none completes. -/
theorem switchesDone_idle {b : Block} (h : (b.fw c).cmd = none) : b.switchesDone c = b := by
  simp only [Block.switchesDone, h]

/-- A tile whose new image does not start runs the boot slot (R433). -/
theorem firmwareReverted_tile {e : Nat × Nat} (h : (s.blk.fw 1).switching.find? (fun e => e.1 == u) = some e)
    (ha : s.blk.atSwitch 1 u = true) (hn : (s.blk.fw 1).cmd = none) : Completes (.firmwareReverted 1 u) s (fun t =>
      (t.blk.fw 1).result = .badState ∧ (t.blk.fw 1).onCand = (s.blk.fw 1).onCand.filter (· != u) ∧ t.blk.mem = s.blk.mem ∧
      t.blk.hws = s.blk.hws) := by
  have hany : (s.blk.fw 1).switching.any (fun e => e.1 == u) = true := by
    exact List.any_eq_true.2 ⟨e, List.mem_of_find?_eq_some h, List.find?_some (p := fun (e : Nat × Nat) => e.1 == u) h⟩
  have hfw : (s.blk.nowRuns 1 u (s.blk.fw 1).boot).fw 1 = { s.blk.fw 1 with
      switching := (s.blk.fw 1).switching.filter (fun e => e.1 != u), paused := (s.blk.fw 1).paused.filter (· != u)
      onCand := (s.blk.fw 1).onCand.filter (· != u) } := (tget_tput_same _ _ _ _).trans (by simp)
  simp only [Completes, exec_firmwareReverted, execFirmwareReverted, State.run_eq]
  rw [if_neg (by simp [hany, ha])]
  refine ⟨_, rfl, ?_⟩
  dsimp only
  have hload : s.blk.loadImage 1 u = s.blk := rfl
  rw [hload, switchesDone_idle (by simp [hfw, hn])]
  refine ⟨by simp, by simp [hfw], ?_, ?_⟩
  · simp only [Block.updFw_eq, Block.setFw_frame, Block.raise_frame]
    rfl
  · simp only [Block.updFw_eq, Block.setFw_frame, Block.raise_frame]
    rfl

theorem firmwareSwitchSkipped_other (h : c ≠ 2 ∧ c ≠ 3) : exec (.firmwareSwitchSkipped c u) s = .next s := by
  simp only [exec_firmwareSwitchSkipped, execFirmwareSwitchSkipped, State.run_eq, h, ne_eq, not_false_eq_true, and_self, true_or, if_true]

section Skipped

variable (hc : c = 2 ∨ c = 3) (hd : (s.blk.fw c).draining u = true) (hn : (s.blk.fw c).cmd = none)
include hc hd hn

/-- The record of a class whose unit has had a switch skipped for the `n`-th time. -/
def skippedFw (x : Firmware) (u n : Nat) : Firmware :=
  if n < 16 then { x with tries := tput x.tries u n, paused := addLast x.paused u }
  else { x with tries := tput x.tries u n, switching := x.switching.filter (fun e => e.1 != u),
                result := if x.result = .badState then .badState else .busy }

theorem firmwareSwitchSkipped_skips : exec (.firmwareSwitchSkipped c u) s = .next (s.withBlk
    ((s.blk.setFw c (skippedFw (s.blk.fw c) u (tget 0 (s.blk.fw c).tries u + 1))).raise
      (if c = 2 then unitNo 0x30 u else unitLantern u) .firmwareSwitchSkipped [c, u])) := by
  have hcmd (n : Nat) : (skippedFw (s.blk.fw c) u n).cmd = none := by
    unfold skippedFw
    split <;> exact hn
  have hx : exec (.firmwareSwitchSkipped c u) s = .next (s.withBlk
      (((s.blk.setFw c (skippedFw (s.blk.fw c) u (tget 0 (s.blk.fw c).tries u + 1))).raise
        (if c = 2 then unitNo 0x30 u else unitLantern u) .firmwareSwitchSkipped [c, u]).switchesDone c)) := by
    simp only [exec_firmwareSwitchSkipped, execFirmwareSwitchSkipped, State.run_eq]
    rw [if_neg (not_or.2 ⟨by omega, by simp [hd]⟩)]
    rfl
  rw [hx, switchesDone_idle (by simpa using hcmd _)]

theorem firmwareSwitchSkipped_again (hlt : tget 0 (s.blk.fw c).tries u + 1 < 16) : Completes (.firmwareSwitchSkipped c u) s (fun t =>
    tget 0 (t.blk.fw c).tries u = tget 0 (s.blk.fw c).tries u + 1 ∧ (t.blk.fw c).switching = (s.blk.fw c).switching ∧
    u ∈ (t.blk.fw c).paused ∧ t.blk.mem = s.blk.mem) := by
  refine .of_exec (firmwareSwitchSkipped_skips hc hd hn) ?_
  have hpaused : u ∈ addLast (s.blk.fw c).paused u := by
    unfold addLast
    split
    next h => simpa using h
    next => simp
  simp only [Block.raise_frame, Block.setFw_frame, Block.setFw_fw, skippedFw, if_pos hlt]
  exact ⟨tget_tput_same _ _ _ _, trivial, hpaused, trivial⟩

theorem firmwareSwitchSkipped_gives (hge : 16 ≤ tget 0 (s.blk.fw c).tries u + 1) (hr : (s.blk.fw c).result ≠ .badState) :
    Completes (.firmwareSwitchSkipped c u) s (fun t =>
      (t.blk.fw c).switching = (s.blk.fw c).switching.filter (fun e => e.1 != u) ∧ (t.blk.fw c).result = .busy) := by
  refine .of_exec (firmwareSwitchSkipped_skips hc hd hn) ?_
  simp only [Block.raise_frame, Block.setFw_fw, skippedFw, if_neg (Nat.not_lt.2 hge), if_neg hr, and_self]

end Skipped

end Switch

/-- Settles O53: the slots by the order of their checks, the switches by what waits and where a unit stands. -/
theorem firmware : Obligations.Firmware := by
  unfold Obligations.Firmware
  refine ⟨fun s role ha => ⟨fun u hu => ⟨slotWindow_notFound ha hu, fun h => verify_outOfRange ha hu, fun m => switch_outOfRange ha hu,
      commit_outOfRange ha hu⟩, fun u hu => ⟨fun bs => slotWindow_tooLarge ha hu, fun bs => slotWindow_busy ha hu,
      fun bs => slotWindow_completes ha hu, fun v => verify_invalid ha hu, fun v => verify_badSignature ha hu,
      fun hc v hs hd => ⟨verify_reserved ha hu hc hs hd, verify_level ha hu hc hs hd, fun h0 hl hls =>
        ⟨fun hm => verify_misfit ha hu hc hs hd h0 (by simp [hl, hls]) hm,
          fun hm hcl hlen hif hfl => verify_passes ha hu hc hs hd h0 (by simp [hl, hls]) ?fits⟩⟩,
      fun hr m hm => ⟨activate_notValid ha hu hr hm, activate_busy ha hu hr hm, activate_switches ha hu hr hm, revert_busy ha hu hr hm,
        revert_switches ha hu hr hm⟩, commit_notAll ha hu, commit_commits ha hu⟩⟩,
    fun s c u => ⟨switch_notWaiting, fun e h => ⟨unitSwitch_switches h, fun ha => ⟨firmwareReverted_notThere ha, unitSwitch_retries h ha⟩⟩,
      fun v slot => nowRuns_leaves s.blk slot v, ?tile, firmwareSwitchSkipped_other,
      fun hc hd hn => ⟨firmwareSwitchSkipped_again hc hd hn, firmwareSwitchSkipped_gives hc hd hn⟩⟩⟩
  case fits =>
    rintro (h | h | h | h | h)
    · exact h hm
    · exact h hcl
    · exact absurd hlen (Nat.not_le.2 h)
    · exact absurd h (by rw [hif]; decide)
    · exact absurd hfl (Nat.not_le.2 h)
  case tile =>
    rintro e h ha rfl hn
    exact firmwareReverted_tile h ha hn

end Sys2Proof

/-! PROOFS. Bearing checks and service states (R419 to R421, R424 to R426): the recipe, the verdicts, a check that expires, and DRAIN,
RESUME, the drain limit and the condemnation. -/

namespace Sys2Proof

open Sys2Proof.Machine

theorem exec_checkCapture (l id : Nat) (s : State) : exec (.checkCapture l id) s = execCheckCapture l id s := rfl
theorem exec_checkerDone (id : Nat) (s : State) : exec (.checkerDone id) s = execCheckerDone id s := rfl
theorem exec_voterDone (id : Nat) (s : State) : exec (.voterDone id) s = execVoterDone id s := rfl
theorem exec_checkExpired (id : Nat) (s : State) : exec (.checkExpired id) s = execCheckExpired id s := rfl
theorem exec_drain (role : Role) (s : State) : exec (.drain role) s = execDrain role s := rfl
theorem exec_resume (role : Role) (s : State) : exec (.resume role) s = execResume role s := rfl
theorem exec_drainLimit (s : State) : exec .drainLimit s = execDrainLimit s := rfl
theorem exec_moduleCondemned (s : State) : exec .moduleCondemned s = execModuleCondemned s := rfl

/-! ### What the ending of a request and of a check leaves -/

theorem withdrawSinks_silent (b : Block) (k : Nat) : (b.withdrawSinks k).silent = b.silent := by
  unfold Block.withdrawSinks
  refine List.foldlRecOn (motive := fun c : Block => c.silent = b.silent) _ _ ?_ (fun c hc o _ => hc)
  split <;> rfl

theorem endReq_silent (b : Block) (k st d : Nat) : (b.endReq k st d).silent = b.silent := by
  obtain h | h := endReq_eq_or_stops b k st d
  · rw [h]
  · rw [h]
    exact withdrawSinks_silent b k

/-- A check that is dropped is counted; nothing else of the silent-error record changes, and memory does not. -/
theorem dropCheck_frame (b : Block) (id : Nat) : (b.dropCheck id).mem = b.mem ∧ ∃ n, (b.dropCheck id).silent = { b.silent with dropped := n } := by
  unfold Block.dropCheck
  split
  · exact ⟨rfl, _, rfl⟩
  · dsimp only
    split
    · rw [endReq_silent, (endReq_frame ..).mem]
      split <;> exact ⟨rfl, _, rfl⟩
    · split <;> exact ⟨rfl, _, rfl⟩

/-! ### Recipes and captures (R419, R420) -/

/-- No byte is read where none is asked for. -/
theorem readVa_zero (b : Block) (l c va : Nat) : b.readVa l c va 0 = some (some []) := by
  simp [Block.readVa, chunksOf, linesOf]

section Capture

variable {s : State} {l id : Nat}

theorem checkCapture_none (h : s.blk.checks.find? (fun (x : Check) => x.id == id && x.lantern == l && x.stage == 0) = none) :
    exec (.checkCapture l id) s = .next s := by
  simp only [exec_checkCapture, execCheckCapture, State.run_eq, h]

variable {x : Check} (h : s.blk.checks.find? (fun (x : Check) => x.id == id && x.lantern == l && x.stage == 0) = some x)
include h

theorem checkCapture_misaligned (hk : x.key.toNat % 64 ≠ 0) : exec (.checkCapture l id) s = .next (s.withBlk (s.blk.badRecipe x)) := by
  simp only [exec_checkCapture, execCheckCapture, State.run_eq, h, if_pos hk]

variable {bs : List Byte} (hk : x.key.toNat % 64 = 0) (hr : s.blk.readVa l x.ctx x.key.toNat 64 = some (some bs))
include hk hr

theorem checkCapture_badRecipe (hbad : recipeOk (lineOf bs) = false) :
    exec (.checkCapture l id) s = .next (s.withBlk (s.blk.badRecipe x)) := by
  simp only [exec_checkCapture, execCheckCapture, State.run_eq, h, if_neg (not_not.2 hk), hr, hbad, Bool.not_false, if_true]

theorem checkCapture_noInputs (hok : recipeOk (lineOf bs) = true) (h0 : fld (lineOf bs) 8 3 = 0) :
    exec (.checkCapture l id) s = .next (s.withBlk (s.blk.capture x (lineOf bs) [])) := by
  simp only [exec_checkCapture, execCheckCapture, State.run_eq, h, if_neg (not_not.2 hk), hr, hok, Bool.not_true, Bool.false_eq_true,
    if_false, h0, Nat.mul_zero, readVa_zero, List.range_zero, List.map_nil, List.all_nil]

end Capture

theorem recipeOk_fields {r : Line} (h : recipeOk r = true) : fld r 0 4 = 1 ∧ fld r 8 3 ≤ 4 ∧ fld r 192 25 % 64 = 0 := by
  simp only [recipeOk, Bool.and_eq_true, beq_iff_eq, decide_eq_true_eq] at h
  obtain ⟨⟨⟨⟨⟨⟨hlevel, -⟩, -⟩, -⟩, -⟩, hn⟩, hres⟩ := h
  exact ⟨hlevel, hn, hres⟩

/-! ### Verdicts (R420, R421) -/

section Verdict

variable {s : State} {id : Nat}

theorem checkerDone_none (h : s.blk.checks.find? (fun (x : Check) => x.id == id && x.stage == 1) = none) :
    exec (.checkerDone id) s = .next s := by
  simp only [exec_checkerDone, execCheckerDone, State.run_eq, h]

theorem voterDone_none (h : s.blk.checks.find? (fun (x : Check) => x.id == id && x.stage == 2) = none) :
    exec (.voterDone id) s = .next s := by
  simp only [exec_voterDone, execVoterDone, State.run_eq, h]

theorem checkExpired_none (h : s.blk.checks.find? (fun (x : Check) => x.id == id) = none) : exec (.checkExpired id) s = .next s := by
  simp only [exec_checkExpired, execCheckExpired, State.run_eq, h]

/-- The number of a check that is found by its number and its stage. -/
theorem find_id {cs : List Check} {x : Check} {n : Nat} (h : cs.find? (fun (x : Check) => x.id == id && x.stage == n) = some x) :
    x.id = id := by
  have hx := List.find?_some h
  simp only [Bool.and_eq_true, beq_iff_eq] at hx
  exact hx.1

/-- The checks with those of one number replaced. -/
def replaced (cs : List Check) (id : Nat) (y : Check) : List Check := cs.map (fun (z : Check) => if z.id = id then y else z)

theorem replaced_replaced (cs : List Check) {y : Check} (w : Check) (hy : y.id = id) :
    replaced (replaced cs id y) id w = replaced cs id w := by
  rw [replaced, replaced, replaced, List.map_map]
  refine List.map_congr_left fun z _ => ?_
  by_cases hz : z.id = id
  · simp [hz, hy]
  · simp [hz]

theorem replaced_find {cs : List Check} {y : Check} (hz : ∃ z ∈ cs, z.id = id) (hy : y.id = id) :
    (replaced cs id y).find? (fun (z : Check) => z.id == id) = some y := by
  obtain ⟨z, hz, hzid⟩ := hz
  have hsome : ((replaced cs id y).find? (fun (z : Check) => z.id == id)).isSome := by
    rw [List.find?_isSome]
    exact ⟨y, List.mem_map.2 ⟨z, hz, if_pos hzid⟩, by simpa using hy⟩
  obtain ⟨u, hu⟩ := Option.isSome_iff_exists.1 hsome
  obtain ⟨w, -, hw⟩ := List.mem_map.1 (List.mem_of_find?_eq_some hu)
  have huid := List.find?_some hu
  by_cases hwid : w.id = id
  · rw [hu, ← hw, if_pos hwid]
  · rw [if_neg hwid] at hw
    subst hw
    exact absurd (by simpa using huid) hwid

/-- A block with other checks. -/
def withChecks (b : Block) (cs : List Check) : Block := { b with checks := cs }

/-- The lantern whose turn it is on a check takes its recipe. -/
def handOver (b : Block) (id : Nat) : Block :=
  match (b.checks.find? (fun (z : Check) => z.id == id)).bind Check.turn with
  | some l => b.takeCheck l
  | none => b

/-- A voter is chosen for a check whose checker disagrees. -/
theorem assignCheck_voter {b : Block} {y : Check} {v : Nat} (cs : List Check) (hst : y.stage = 2)
    (hv : b.chooseChecker y (y.checker.getD y.lantern) [y.lantern, y.checker.getD y.lantern] = some v) :
    (withChecks b (replaced cs y.id y)).assignCheck y = withChecks b (replaced cs y.id { y with voter := some v }) := by
  have hv' : (withChecks b (replaced cs y.id y)).chooseChecker y (y.checker.getD y.lantern) [y.lantern, y.checker.getD y.lantern] =
      some v := hv
  unfold Block.assignCheck
  dsimp only
  rw [if_neg (by omega), hv']
  exact congrArg (withChecks b) (replaced_replaced cs { y with voter := some v } rfl)

section Checker

variable {x : Check} {b1 : Block} {sum : W64} (h : s.blk.checks.find? (fun (x : Check) => x.id == id && x.stage == 1) = some x)
  (hend : ∀ go : Block → W64 → Block, s.blk.programEnd x (x.checker.getD 0) go = go b1 sum)
include h hend

theorem checkerDone_passes (hs : sum = x.sum) : exec (.checkerDone id) s = .next (s.withBlk (b1.verdict id 0)) := by
  simp only [exec_checkerDone, execCheckerDone, State.run_eq, h, hend, if_pos hs]

/-- A check whose checker disagrees, with the voter that is chosen for it. -/
def voted (x : Check) (sum : W64) (v : Nat) : Check := { x with stage := 2, checkerSum := sum, voter := some v }

/-- A different checksum: the voter that is chosen takes the recipe. -/
theorem checkerDone_votes (hs : sum ≠ x.sum) {v : Nat} (hv : b1.chooseChecker { x with stage := 2, checkerSum := sum }
      (x.checker.getD x.lantern) [x.lantern, x.checker.getD x.lantern] = some v) (hz : ∃ z ∈ b1.checks, z.id = id) :
    exec (.checkerDone id) s = .next (s.withBlk (({ b1 with
      checks := b1.checks.map (fun (z : Check) => if z.id = id then voted x sum v else z) } : Block).takeCheck v)) := by
  obtain rfl : x.id = id := find_id h
  have hx : exec (.checkerDone x.id) s = .next (s.withBlk (handOver ((withChecks b1 (replaced b1.checks x.id
      { x with stage := 2, checkerSum := sum })).assignCheck { x with stage := 2, checkerSum := sum }) x.id)) := by
    simp only [exec_checkerDone, execCheckerDone, State.run_eq, h, hend, if_neg hs]
    rfl
  have hassign : (withChecks b1 (replaced b1.checks x.id { x with stage := 2, checkerSum := sum })).assignCheck
      { x with stage := 2, checkerSum := sum } = withChecks b1 (replaced b1.checks x.id (voted x sum v)) :=
    assignCheck_voter b1.checks rfl hv
  have hfind : (withChecks b1 (replaced b1.checks x.id (voted x sum v))).checks.find? (fun (z : Check) => z.id == x.id) =
      some (voted x sum v) := replaced_find hz rfl
  rw [hx, hassign, handOver, hfind]
  rfl

end Checker

section Voter

variable {x : Check} {b1 : Block} {sum : W64} {again : Option (List W64)}
  (h : s.blk.checks.find? (fun (x : Check) => x.id == id && x.stage == 2) = some x)
  (hsums : s.blk.regionSums (x.voter.getD 0) x.ctx (x.inputs.map (fun e => (e.1, e.2.1))) = some again)
  (hend : ∀ go : Block → W64 → Block, s.blk.programEnd x (x.voter.getD 0) go = go b1 sum)
include h hsums hend

theorem voterDone_changed (hc : again ≠ some (x.inputs.map (fun e => e.2.2))) : exec (.voterDone id) s = .next (s.withBlk
    ((b1.verdict id 1).raise (unitLantern x.lantern) .checkInputsChanged [x.ctx, x.lantern])) := by
  simp only [exec_voterDone, execVoterDone, State.run_eq, h, hsums, hend, if_pos hc]

theorem voterDone_confirms (hc : again = some (x.inputs.map (fun e => e.2.2))) :
    exec (.voterDone id) s = .next (s.withBlk (b1.confirmMismatch x sum)) := by
  simp only [exec_voterDone, execVoterDone, State.run_eq, h, hsums, hend, if_neg (not_not.2 hc)]

end Voter

/-- A module that is suspect while it is in service drains for a fault, with bit 13 (R424). -/
theorem suspect_inService {b : Block} (h : b.silent.svc = .inService) (c : Ev) (as : List Nat) :
    (b.suspect c as).silent.svc = .draining ∧ (b.suspect c as).silent.fault = true ∧ (b.suspect c as).alert 13 = true ∧
    (b.suspect c as).silent.verdicts = b.silent.verdicts ∧ (b.suspect c as).checks = b.checks ∧ (b.suspect c as).mem = b.mem ∧
    (b.suspect c as).hws = b.hws := by
  simp only [Block.suspect, if_pos h]
  refine ⟨by simp, by simp, ?_, by simp, by simp, by simp, by simp⟩
  simp only [Block.alert, Block.wire_frame]
  exact setAlert_alert _ (by decide)

/-- A further fault of a module that drains is noted (R428). -/
theorem suspect_draining {b : Block} (h : b.silent.svc = .draining) (c : Ev) (as : List Nat) :
    (b.suspect c as).silent.svc = .draining ∧ ∃ n, (b.suspect c as).silent.faults = b.silent.faults ++ [(c, n, as)] := by
  simp only [Block.suspect, h, reduceCtorEq, if_false, true_and]
  exact ⟨_, rfl⟩

/-- A confirmed mismatch: the check is over, and a module in service drains for a fault (R421, R424). -/
theorem confirmMismatch_suspects {b : Block} (h : b.silent.svc = .inService) (x : Check) (sum : W64) :
    (b.confirmMismatch x sum).silent.verdicts = tinc b.silent.verdicts 2 1 ∧ (∀ y ∈ (b.confirmMismatch x sum).checks, y.id ≠ x.id) ∧
    (b.confirmMismatch x sum).silent.svc = .draining ∧ (b.confirmMismatch x sum).silent.fault = true ∧
    (b.confirmMismatch x sum).alert 13 = true ∧ (b.confirmMismatch x sum).mem = b.mem ∧ (b.confirmMismatch x sum).hws = b.hws := by
  have hover (u : Nat) (as : List Nat) : ((b.verdict x.id 2).raise u .bearingMismatch as).silent.svc = .inService := by
    simpa [Block.verdict] using h
  unfold Block.confirmMismatch
  dsimp only
  obtain ⟨hsvc, hfault, halert, hverd, hchecks, hmem, hhws⟩ := suspect_inService (hover _ _) .bearingMismatch _
  refine ⟨hverd.trans (by simp [Block.verdict]), fun y hy => ?_, hsvc, hfault, halert, hmem.trans (by simp [Block.verdict]),
    hhws.trans (by simp [Block.verdict])⟩
  rw [hchecks] at hy
  simp only [Block.raise_frame, Block.verdict, List.mem_filter, bne_iff_ne] at hy
  exact hy.2

end Verdict

/-! ### A check that expires (R420) -/

/-- The entries of a table after a value is put into it. -/
theorem mem_tput {α : Type} {t : Tab α} {k : Nat} {v : α} {e : Nat × α} (h : e ∈ tput t k v) : e = (k, v) ∨ e ∈ t := by
  induction t with
  | nil => exact .inl (by simpa [tput] using h)
  | cons a t ih =>
    obtain ⟨j, w⟩ := a
    unfold tput at h
    split at h
    · exact (List.mem_cons.1 h).imp_right id
    · split at h
      · exact (List.mem_cons.1 h).imp_right (List.mem_cons_of_mem _)
      · rcases List.mem_cons.1 h with h | h
        · exact .inr (h ▸ List.mem_cons_self)
        · exact (ih h).imp_right (List.mem_cons_of_mem _)

/-- What a table gives for a key is listed, or is the reset record. -/
theorem tget_mem_or {α : Type} (d : α) (t : Tab α) (k : Nat) : (k, tget d t k) ∈ t ∨ tget d t k = d := by
  induction t with
  | nil => exact .inr rfl
  | cons a t ih =>
    obtain ⟨j, w⟩ := a
    unfold tget
    split
    next h => exact .inl (h ▸ List.mem_cons_self)
    next => exact ih.imp_left (List.mem_cons_of_mem _)

/-- A tile that leaves the scoreboard starts no program of a check. -/
theorem boardDel_checkHw {b : Block} {id : Nat} (h : b.checkHw id = none) (k n : Nat) : (b.boardDel k n).checkHw id = none := by
  simp only [Block.checkHw, Option.map_eq_none_iff, List.find?_eq_none] at h ⊢
  intro e he
  rcases mem_tput he with rfl | he
  · show ¬((b.hw k).check == some id && (b.hw k).phase != .free) = true
    rcases tget_mem_or {} b.hws k with hmem | hreset
    · exact h (k, b.hw k) hmem
    · rw [show b.hw k = {} from hreset]
      simp
  · exact h e he

/-- A selected check without a program is dropped and counted. -/
theorem dropCheck_selected {b : Block} {id : Nat} {x : Check} (h : b.checks.find? (fun (x : Check) => x.id == id) = some x)
    (hst : x.stage = 0) (hno : b.checkHw id = none) : b.dropCheck id = ({ b with
      checks := b.checks.filter (fun (y : Check) => y.id != id)
      silent := { b.silent with dropped := b.silent.dropped + 1 } } : Block).boardDel (hwNo x.lantern x.hw) id := by
  have hhw : (({ b with
      checks := b.checks.filter (fun (y : Check) => y.id != id)
      silent := { b.silent with dropped := b.silent.dropped + 1 } } : Block).boardDel (hwNo x.lantern x.hw) id).checkHw id = none :=
    boardDel_checkHw hno _ _
  simp only [Block.dropCheck, h, hst, if_true, hhw]

theorem checkExpired_drops {s : State} {id : Nat} {x : Check} (h : s.blk.checks.find? (fun (x : Check) => x.id == id) = some x)
    (hst : x.stage = 0) (hno : s.blk.checkHw id = none) : Completes (.checkExpired id) s (fun t => (∀ y ∈ t.blk.checks, y.id ≠ id) ∧
      t.blk.silent.dropped = s.blk.silent.dropped + 1 ∧ t.blk.silent.verdicts = tinc s.blk.silent.verdicts 4 1 ∧
      t.blk.mem = s.blk.mem ∧ t.blk.lines = s.blk.lines) := by
  simp only [Completes, exec_checkExpired, execCheckExpired, State.run_eq, h, dropCheck_selected h hst hno]
  refine ⟨_, rfl, fun y hy => ?_, ?_, ?_, ?_, ?_⟩
  · simp only [Block.raise_frame] at hy
    simpa using (List.mem_filter.1 hy).2
  all_goals simp only [Block.raise_frame]; rfl

/-! ### Service states (R424 to R426) -/

section Service

variable {s : State} {role : Role}

section Commands

variable (ha : Admits s.blk role .operator 0x61)
include ha

theorem drain_drains (h : s.blk.silent.svc = .inService) : Completes (.drain role) s (fun t => t.blk.silent.svc = .draining ∧
    t.blk.silent.fault = s.blk.silent.fault ∧ t.blk.alert 13 = true ∧ t.blk.cmds.reply.status = .ok ∧ t.blk.mem = s.blk.mem ∧
    t.blk.hws = s.blk.hws ∧ t.blk.contexts = s.blk.contexts) := by
  simp only [Completes, exec_drain, execDrain, State.run_eq, ha.cmd, h, ne_eq, not_true_eq_false, if_false]
  refine ⟨_, rfl, by simp [Block.updSilent], by simp [Block.updSilent], ?_, rfl, by simp [Block.updSilent], by simp [Block.updSilent],
    by simp [Block.updSilent]⟩
  simp only [Block.alert, Block.done_frame, Block.wire_frame]
  exact setAlert_alert _ (by decide)

theorem drain_refused (h : s.blk.silent.svc ≠ .inService) : exec (.drain role) s = .next (s.withBlk (s.blk.refuse .badState)) := by
  simp only [exec_drain, execDrain, State.run_eq, ha.cmd, if_pos h]

theorem resume_resumes (h : s.blk.silent.svc = .draining) (hf : s.blk.silent.fault = false) : Completes (.resume role) s (fun t =>
    t.blk.silent.svc = .inService ∧ t.blk.alert 13 = false ∧ t.blk.cmds.reply.status = .ok ∧ t.blk.mem = s.blk.mem ∧
    t.blk.hws = s.blk.hws) := by
  simp only [Completes, exec_resume, execResume, State.run_eq, ha.cmd, h, hf, ne_eq, not_true_eq_false, Bool.false_eq_true, or_self,
    if_false]
  refine ⟨_, rfl, by simp [Block.updSilent], ?_, rfl, by simp [Block.updSilent], by simp [Block.updSilent]⟩
  simp only [Block.alert, Block.done_frame, Block.wire_frame]
  exact clearAlert_alert _ (by decide)

theorem resume_refused (h : s.blk.silent.svc ≠ .draining ∨ s.blk.silent.fault = true) :
    exec (.resume role) s = .next (s.withBlk (s.blk.refuse .badState)) := by
  simp only [exec_resume, execResume, State.run_eq, ha.cmd, if_pos h]

end Commands

theorem drainLimit_other (h : s.blk.silent.svc ≠ .draining) : exec .drainLimit s = .next s := by
  simp only [exec_drainLimit, execDrainLimit, State.run_eq, if_pos h]

theorem runsRequest_running {w : Hw} (hr : w.phase = .running) (hc : w.check = none) : w.runsRequest = true := by
  simp [Hw.runsRequest, hr, hc]

/-- A program that still runs at the drain limit ends with CANCELLED, DETAIL 1. -/
theorem drainLimit_ends {k : Nat} (h : s.blk.silent.svc = .draining) (hr : (s.blk.hw k).phase = .running)
    (hc : (s.blk.hw k).check = none) : Completes .drainLimit s (fun t => (t.blk.hw k).phase = .ended 8 1 ∧ t.blk.mem = s.blk.mem ∧
      t.blk.lines = s.blk.lines ∧ t.blk.silent.svc = .draining) := by
  have hk : k ∈ (s.blk.hws.filter (fun (e : Nat × Hw) => e.2.runsRequest)).map Prod.fst := by
    rcases tget_mem_or {} s.blk.hws k with hmem | hreset
    · exact List.mem_map.2 ⟨(k, s.blk.hw k), List.mem_filter.2 ⟨hmem, runsRequest_running hr hc⟩, rfl⟩
    · exact absurd hr (by rw [Block.hw, hreset]; decide)
  simp only [Completes, exec_drainLimit, execDrainLimit, State.run_eq, h, ne_eq, not_true_eq_false, if_false]
  rw [show (s.blk.hws.filter (fun (e : Nat × Hw) => e.2.runsRequest)).foldl (fun (c : Block) (e : Nat × Hw) => c.endReq e.1 8 1) s.blk =
    ((s.blk.hws.filter (fun (e : Nat × Hw) => e.2.runsRequest)).map Prod.fst).foldl (fun (c : Block) k => c.endReq k 8 1) s.blk from
      by rw [List.foldl_map]]
  have hkept := List.foldlRecOn (motive := fun c : Block => c.mem = s.blk.mem ∧ c.lines = s.blk.lines ∧ c.silent = s.blk.silent)
    ((s.blk.hws.filter (fun (e : Nat × Hw) => e.2.runsRequest)).map Prod.fst) (fun (c : Block) k => c.endReq k 8 1) ⟨rfl, rfl, rfl⟩
    (fun c ⟨hm, hl, hs⟩ k _ => ⟨(endReq_frame c k 8 1).mem.trans hm, (endReq_frame c k 8 1).lines.trans hl,
      (endReq_silent c k 8 1).trans hs⟩)
  obtain ⟨hmem, hlines, hsilent⟩ := hkept
  exact ⟨_, rfl, endReqs_running (by decide) 1 hk hr, hmem, hlines, (congrArg Silent.svc hsilent).trans h⟩

theorem moduleCondemned_condemns (h : s.blk.silent.svc = .draining) (hf : s.blk.silent.fault = true) (hh : s.blk.hws = []) :
    exec .moduleCondemned s = .next (s.withBlk (s.blk.condemn ((s.blk.silent.cause).getD .moduleSuspect))) := by
  simp only [exec_moduleCondemned, execModuleCondemned, State.run_eq, h, hf, hh, List.all_nil, and_self, if_true]

theorem moduleCondemned_stays (h : s.blk.silent.svc ≠ .draining ∨ s.blk.silent.fault = false) : exec .moduleCondemned s = .next s := by
  simp only [exec_moduleCondemned, execModuleCondemned, State.run_eq]
  rw [if_neg]
  rintro ⟨hd, hf, -⟩
  rcases h with h | h
  · exact h hd
  · rw [h] at hf
    exact absurd hf (by decide)

end Service

theorem setLevel_frame (b : Block) (l : Ready) : (b.setLevel l).silent = b.silent ∧ (b.setLevel l).mem = b.mem := by
  unfold Block.setLevel
  split
  · exact ⟨rfl, rfl⟩
  · exact ⟨by simp, by simp⟩

/-- CONDEMNED: the record of the condemnation is written, and bit 14 stands (R426). -/
theorem condemn_leaves (b : Block) (c : Ev) : (b.condemn c).silent.svc = .condemned ∧ (b.condemn c).alert 14 = true ∧
    (b.condemn c).mem = b.mem ∧ (b.silent.condemned = none →
      ∃ n, (b.condemn c).silent.condemned = some { cause := c, seq := n, faults := b.silent.faults }) := by
  unfold Block.condemn
  extract_lets b1 b2 b3
  have hdrop : b2.mem = b1.mem ∧ ∃ n, b2.silent = { b1.silent with dropped := n } :=
    List.foldlRecOn (motive := fun d : Block => d.mem = b1.mem ∧ ∃ n, d.silent = { b1.silent with dropped := n }) _ _ ⟨rfl, _, rfl⟩
      (fun d ⟨hm, n, hs⟩ x _ => by
        obtain ⟨hmem, m, hsil⟩ := dropCheck_frame d x.id
        exact ⟨hmem.trans hm, m, by rw [hsil, hs]⟩)
  have hlevel : b3.mem = b2.mem ∧ b3.silent = b2.silent := by
    unfold b3
    split
    · exact ⟨(setLevel_frame b2 .charted).2, (setLevel_frame b2 .charted).1⟩
    · exact ⟨rfl, rfl⟩
  obtain ⟨hmem, n, hsil⟩ := hdrop
  have hb1 : b1.mem = b.mem := rfl
  have hsvc : b3.silent.svc = .condemned := by rw [hlevel.2, hsil]; rfl
  have hcond : b3.silent.condemned = b.silent.condemned.or
      (some { cause := c, seq := b.events.next + b.events.pend.length, faults := b.silent.faults }) := by rw [hlevel.2, hsil]; rfl
  refine ⟨by simpa using hsvc, ?_, by simpa using (hlevel.1.trans hmem).trans hb1, fun hnone => ⟨b.events.next + b.events.pend.length, ?_⟩⟩
  · simp only [Block.alert, Block.wire_frame]
    exact setAlert_alert _ (by decide)
  · rw [hnone] at hcond
    simpa using hcond

/-- Settles O52: checks by what is found of them, the service states by the state and the fault. -/
theorem bearingChecks : Obligations.BearingChecks := by
  unfold Obligations.BearingChecks
  refine ⟨fun s id => ⟨fun l => checkCapture_none, fun l x h => ⟨checkCapture_misaligned h, fun bs hk hr => checkCapture_badRecipe h hk hr,
        fun bs hk hr => checkCapture_noInputs h hk hr⟩, fun r => recipeOk_fields, checkerDone_none,
      fun x b1 sum h hend => ⟨checkerDone_passes h hend, fun hs v => checkerDone_votes h hend hs⟩, voterDone_none,
      fun x b1 sum again h hsums hend => ⟨voterDone_changed h hsums hend, fun hc hsvc => ?mismatch⟩, checkExpired_none,
      fun x => checkExpired_drops⟩,
    fun s role => ⟨fun ha => ⟨drain_drains ha, drain_refused ha, resume_resumes ha, resume_refused ha⟩, drainLimit_other,
      fun k => drainLimit_ends, moduleCondemned_condemns, fun c _ => condemn_leaves s.blk c, fun c as h => suspect_draining h c as,
      moduleCondemned_stays⟩⟩
  case mismatch =>
    obtain rfl : x.id = id := find_id h
    exact .of_exec (voterDone_confirms h hsums hend hc) (confirmMismatch_suspects hsvc x sum)

end Sys2Proof

/-! PROOFS. Losses and unit resets (R400, R404, R405, R409): the loss of a lantern with nothing in flight, and the resets of lanterns, keeper
clusters, ports, memory channels and tiles. -/

namespace Sys2Proof

open Sys2Proof.Machine

theorem exec_lanternLost (l : Nat) (c : LossCause) (s : State) : exec (.lanternLost l c) s = execLanternLost l c s := rfl
theorem exec_unitResetLantern (role : Role) (l m : Nat) (s : State) :
    exec (.unitResetLantern role l m) s = execUnitResetLantern role l m s := rfl
theorem exec_unitResetKeeperCluster (role : Role) (cl m : Nat) (s : State) :
    exec (.unitResetKeeperCluster role cl m) s = execUnitResetKeeperCluster role cl m s := rfl
theorem exec_unitResetPort (role : Role) (p m : Nat) (s : State) : exec (.unitResetPort role p m) s = execUnitResetPort role p m s := rfl
theorem exec_unitResetStackChannel (role : Role) (ch m : Nat) (s : State) :
    exec (.unitResetStackChannel role ch m) s = execUnitResetStackChannel role ch m s := rfl
theorem exec_unitResetBulkChannel (role : Role) (ch m : Nat) (s : State) :
    exec (.unitResetBulkChannel role ch m) s = execUnitResetBulkChannel role ch m s := rfl
theorem exec_unitResetTile (role : Role) (t m : Nat) (s : State) : exec (.unitResetTile role t m) s = execUnitResetTile role t m s := rfl

/-! ### The loss of a lantern with nothing in flight (R405) -/

theorem record_shape (b : Block) (u : Nat) (e : Ev) (args : List Nat) (r : ErrRec) :
    ∃ er ev, b.record u e args r = { b with errors := er, events := ev } := by
  obtain ⟨ev, hev⟩ := b.raise_shape u e args
  unfold Block.record
  dsimp only
  rw [hev]
  split
  · exact ⟨_, _, rfl⟩
  · split
    · exact ⟨_, _, rfl⟩
    · split
      · exact ⟨_, _, rfl⟩
      · obtain ⟨ev', hev'⟩ := Block.raise_shape { { b with events := ev } with
          errors := { b.errors with overflows := b.errors.overflows + 1 } } u .errorBankOverflow [u]
        exact ⟨_, ev', hev'⟩

/-- Nothing is in flight: no program, no line in use, no check, no group and no withdrawal. -/
structure Idle (b : Block) : Prop where
  hws : b.hws = []
  lines : b.lines = []
  checks : b.checks = []
  groups : b.groups = []
  withdrawals : b.withdrawals = []

/-- A block with nothing in flight, with another's memory, tray and store. -/
structure IdleAs (b c : Block) : Prop extends Idle c where
  mem : c.mem = b.mem
  tray : c.tray = b.tray
  store : c.store = b.store

namespace IdleAs

variable {b c : Block}

theorem refl (h : Idle b) : IdleAs b b := ⟨h, rfl, rfl, rfl⟩

/-- A change of what is neither in flight nor memory, tray or store. -/
theorem same {d : Block} (h : IdleAs b c) (hws : d.hws = c.hws := by rfl) (lines : d.lines = c.lines := by rfl)
    (checks : d.checks = c.checks := by rfl) (groups : d.groups = c.groups := by rfl)
    (withdrawals : d.withdrawals = c.withdrawals := by rfl) (mem : d.mem = c.mem := by rfl) (tray : d.tray = c.tray := by rfl)
    (store : d.store = c.store := by rfl) : IdleAs b d :=
  ⟨⟨hws.trans h.hws, lines.trans h.lines, checks.trans h.checks, groups.trans h.groups, withdrawals.trans h.withdrawals⟩,
    mem.trans h.mem, tray.trans h.tray, store.trans h.store⟩

theorem fenceTraffic (h : IdleAs b c) (l : Nat) : IdleAs b (c.fenceTraffic l) := h.same

theorem updLantern (h : IdleAs b c) (l : Nat) (f : Lantern → Lantern) : IdleAs b (c.updLantern l f) := h.same

theorem updBeam (h : IdleAs b c) (k : Nat) (f : Beam → Beam) : IdleAs b (c.updBeam k f) := h.same

theorem updChart (h : IdleAs b c) (k : Nat) (f : Chart → Chart) : IdleAs b (c.updChart k f) := h.same

theorem updSilent (h : IdleAs b c) (f : Silent → Silent) : IdleAs b (c.updSilent f) := h.same

/-- With no program to lose one. -/
theorem noHws (h : IdleAs b c) : IdleAs b { c with hws := [] } := h.same h.hws.symm

theorem finishSts (h : IdleAs b c) (o n : Nat) (r : Sts) : IdleAs b (c.finishSts o n r) :=
  h.same (by simp) (by simp) (by simp) (by simp) (by simp) (by simp) (by simp) (by simp)

theorem foldl {α : Type} {f : Block → α → Block} (hf : ∀ a x, IdleAs b a → IdleAs b (f a x)) {l : List α} (hc : IdleAs b c) :
    IdleAs b (l.foldl f c) :=
  List.foldlRecOn (motive := IdleAs b) _ _ hc (fun a ha x _ => hf a x ha)

end IdleAs

theorem sweepAgent_idle {b : Block} (h : Idle b) (a : Nat) : b.sweepAgent a = b := by
  simp [Block.sweepAgent, h.lines]

theorem sweepWatches_idle {b : Block} (h : Idle b) (l : Nat) :
    b.sweepWatches l = { b.updChart l (fun t => { t with resume := [] }) with hws := [] } := by
  have hl : (b.updChart l (fun t => { t with resume := [] })).lines = [] := h.lines
  have hh : (b.updChart l (fun t => { t with resume := [] })).hws = [] := h.hws
  simp only [Block.sweepWatches, hh, hl, List.map_nil, List.filter_nil, List.foldl_nil]

theorem tryDrops_idle {b : Block} (h : Idle b) : b.tryDrops = b := by
  simp [Block.tryDrops, h.withdrawals]

theorem dropMember_idle {b : Block} (h : Idle b) (l : Nat) : b.dropMember l = b :=
  List.foldl_fixed' (fun g => by simp [Block.group, h.groups, tget]) _

theorem lostChecks_idle {b : Block} (h : Idle b) (l : Nat) : b.lostChecks l = b := by
  simp [Block.lostChecks, h.checks]

theorem lostHw_idle {b : Block} (h : Idle b) (l d i : Nat) : b.lostHw l d i = b := by
  simp [Block.lostHw, Block.hw, h.hws, tget]

/-- The losses of a lantern's programs, where none runs. -/
theorem lostHws_idle {b : Block} (h : Idle b) (l d : Nat) : [0, 1, 2, 3].foldl (fun (c : Block) i => c.lostHw l d i) b = b :=
  List.foldl_fixed' (fun i => lostHw_idle h l d i) _

theorem updLantern_lantern_same (b : Block) (l : Nat) (f : Lantern → Lantern) :
    (b.updLantern l f).lantern l = f (b.lantern l) := tget_tput_same _ _ _ _

theorem updSilent_lantern (b : Block) (f : Silent → Silent) (l : Nat) : (b.updSilent f).lantern l = b.lantern l := rfl

theorem loseLantern_idle {b : Block} (hi : Idle b) {l : Nat} (d : Nat) (hcmd : (b.lantern l).cmd = none) (hcfg : b.cfg 0x20000042 1 ≠ 1) :
    ((b.loseLantern l d).lantern l).loss = .lost ∧ ((b.loseLantern l d).lantern l).lossDetail = d ∧
    (b.loseLantern l d).alert 17 = true ∧ (b.loseLantern l d).mem = b.mem := by
  unfold Block.loseLantern
  extract_lets cmd b1 b2 b3 b4 b5 b6 b7 b8 b9
  have h1 : IdleAs (b.setAlert 17) b1 := by
    obtain ⟨er, ev, hrec⟩ := record_shape b (unitLantern l) .dieLost [l, d] (errRec 3 0x14 l 0xFF 0x70 d)
    unfold b1
    rw [hrec]
    exact (IdleAs.refl (b := b.setAlert 17) ⟨hi.hws, hi.lines, hi.checks, hi.groups, hi.withdrawals⟩).same
  have h2 : IdleAs (b.setAlert 17) b2 := (h1.fenceTraffic l).updLantern l _
  have hdetail : (b2.lantern l).lossDetail = d := congrArg Lantern.lossDetail (tget_tput_same _ _ _ _)
  clear_value b1 b2
  have h3l : b3.lantern l = b2.lantern l :=
    List.foldlRecOn (motive := fun a : Block => a.lantern l = b2.lantern l) _ _ rfl (fun _ ha _ _ => ha)
  have h3 : IdleAs (b.setAlert 17) b3 := IdleAs.foldl (fun a i ha => ha.updBeam _ _) h2
  clear_value b3
  have h4 : b4 = { b3.updChart l (fun t => { t with resume := [] }) with hws := [] } := by
    unfold b4
    rw [sweepAgent_idle h3.toIdle, sweepWatches_idle h3.toIdle]
  have h4' : IdleAs (b.setAlert 17) b4 := by
    rw [h4]
    exact (h3.updChart l _).noHws
  have h4l : b4.lantern l = b2.lantern l := by
    rw [h4]
    exact h3l
  clear_value b4
  have h5 : b5 = b4.updChart l (fun t => { t with refs := [] }) := by
    have hc : IdleAs (b.setAlert 17) (b4.updChart l (fun t => { t with refs := [] })) := h4'.updChart l _
    unfold b5
    rw [tryDrops_idle hc.toIdle, dropMember_idle hc.toIdle]
  clear_value b5
  have hlant : b6.lantern l = { b2.lantern l with loss := .lost } := by
    have h5l : b5.lantern l = b2.lantern l := by
      rw [h5]
      exact h4l
    rw [← h5l]
    exact updLantern_lantern_same ..
  have h6 : IdleAs (b.setAlert 17) b6 := by
    unfold b6
    rw [h5]
    exact (h4'.updChart l _).updLantern l _
  clear_value b6
  have h7 : IdleAs (b.setAlert 17) b7 ∧ b7.lantern l = b6.lantern l := by
    unfold b7
    rw [lostChecks_idle h6.toIdle, lostHws_idle (h6.updSilent _).toIdle]
    exact ⟨h6.updSilent _, updSilent_lantern ..⟩
  have h8 : b8 = b7 := by
    unfold b8 cmd
    rw [hcmd]
  have h9 : IdleAs (b.setAlert 17) b9 ∧ b9.lantern l = b6.lantern l := by
    unfold b9
    rw [h8]
    split
    · exact ⟨h7.1.finishSts .., by simpa using h7.2⟩
    · exact h7
  obtain ⟨h9, hlant9⟩ := h9
  have hneed : b9.needSpare l = b9 := by
    have hcfg9 : b9.cfg 0x20000042 1 ≠ 1 := by
      rw [Block.cfg, h9.store]
      exact hcfg
    rw [Block.needSpare, if_neg (fun h => hcfg9 h.1)]
  rw [hneed, hlant9, hlant, h9.mem, Block.alert, h9.tray]
  exact ⟨rfl, hdetail, setAlert_alert b (by decide), rfl⟩

/-! ### The commands (R403, R405, R409) -/

/-- A channel that is up is held for a retrain. -/
theorem resetChannel_holds {b : Block} (hr : b.tray.rails = true) {ch : Nat} (hv : (b.channel ch).st = .up) :
    b.resetChannel ch 0 = (b.accept objReset).holdChannel ch (some (b.cmds.count + 1, objReset)) := by
  simp only [Block.resetChannel, hr, hv, ne_eq, not_true_eq_false, if_false, Bool.not_true, Bool.false_eq_true, reduceCtorEq]
  rfl

theorem holdChannel_leaves (b : Block) (ch : Nat) (c : Option (Nat × Nat)) : ((b.holdChannel ch c).channel ch).st = .held ∧
    ((b.holdChannel ch c).channel ch).cmd = c ∧ (b.holdChannel ch c).cmds = b.cmds ∧ (b.holdChannel ch c).mem = b.mem := by
  simp [Block.holdChannel]

section Reset

variable {s : State} {role : Role}

theorem lanternLost_loses {l : Nat} (c : LossCause) (hl : l < 64) (hr : s.blk.tray.rails = true) (ha : (s.blk.lantern l).loss = .alive) :
    exec (.lanternLost l c) s = .next (s.withBlk (s.blk.loseLantern l (lossDetail c))) := by
  simp only [exec_lanternLost, execLanternLost, State.run_eq, Nat.not_le.2 hl, hr, ha, Bool.not_true, Bool.false_eq_true, ne_eq,
    not_true_eq_false, or_self, if_false]

theorem lanternLost_stays {l : Nat} (c : LossCause) (h : 64 ≤ l ∨ s.blk.tray.rails = false ∨ (s.blk.lantern l).loss ≠ .alive) :
    exec (.lanternLost l c) s = .next s := by
  simp only [exec_lanternLost, execLanternLost, State.run_eq]
  rw [if_pos (by simpa using h)]

variable (ha : Admits s.blk role .service 0x60)
include ha

theorem unitResetLantern_outOfRange {l : Nat} (m : Nat) (hl : 64 ≤ l) :
    exec (.unitResetLantern role l m) s = .next (s.withBlk (s.blk.refuse .outOfRange)) := by
  simp only [exec_unitResetLantern, execUnitResetLantern, State.run_eq, ha.cmd, hl, true_or, if_true]

theorem unitResetStackChannel_outOfRange {ch m : Nat} (h : m ≠ 0 ∨ 256 ≤ ch) :
    exec (.unitResetStackChannel role ch m) s = .next (s.withBlk (s.blk.refuse .outOfRange)) := by
  simp only [exec_unitResetStackChannel, execUnitResetStackChannel, State.run_eq, ha.cmd]
  split
  · rfl
  next hch => rw [Block.resetChannel, if_pos (h.resolve_right hch)]

variable (hr : s.blk.tray.rails = true)
include hr

theorem unitResetLantern_resets {l : Nat} (hl : l < 64) (hv : (s.blk.lantern l).loss = .alive)
    (hw : (s.blk.lantern l).relightWaits = false) (hp : (s.blk.lantern l).promoteTo = none) :
    exec (.unitResetLantern role l 0) s = .next (s.withBlk (((s.blk.accept 0x60000040).updLantern l (fun y =>
      { y with relightWaits := true, cmd := some ((s.blk.accept 0x60000040).cmds.count, 0x60000040) })).settle l)) ∧
    exec (.unitResetLantern role l 1) s = .next (s.withBlk (((s.blk.accept 0x60000040).loseLantern l 4).finishSts 0x60000040
      (s.blk.accept 0x60000040).cmds.count .ok)) := by
  simp only [exec_unitResetLantern, execUnitResetLantern, State.run_eq, ha.cmd, Nat.not_le.2 hl, hr, hv, hw, hp, objReset,
    Nat.reduceLeDiff, or_self, if_false, Bool.not_true, Bool.false_eq_true, Option.isSome_none, reduceCtorEq, if_true, one_ne_zero, and_self]

theorem unitResetKeeperCluster_resets {cl : Nat} (hc : cl < 8) (hv : (s.blk.cluster cl).st = .running) :
    exec (.unitResetKeeperCluster role cl 0) s = .next (s.withBlk ((((s.blk.accept 0x60000040).drainCluster cl).resetCluster cl).updCluster cl
      (fun x => { x with cmd := some ((s.blk.accept 0x60000040).cmds.count, 0x60000040) }))) ∧
    exec (.unitResetKeeperCluster role cl 1) s = .next (s.withBlk (((s.blk.accept 0x60000040).loseCluster cl).updCluster cl
      (fun x => { x with cmd := some ((s.blk.accept 0x60000040).cmds.count, 0x60000040) }))) := by
  simp only [exec_unitResetKeeperCluster, execUnitResetKeeperCluster, State.run_eq, ha.cmd, Nat.not_le.2 hc, hr, hv, objReset,
    Nat.reduceLeDiff, or_self, if_false, Bool.not_true, Bool.false_eq_true, ne_eq, not_true_eq_false, if_true, one_ne_zero, and_self]

theorem unitResetPort_resets {p m : Nat} (hp : p < 2) (hm : m < 2) (hv : (s.blk.port p).resetting = false) :
    exec (.unitResetPort role p m) s = .next (s.withBlk (((s.blk.accept 0x60000040).resetPort p).finishSts 0x60000040
      (s.blk.accept 0x60000040).cmds.count .ok)) := by
  simp only [exec_unitResetPort, execUnitResetPort, State.run_eq, ha.cmd, Nat.not_le.2 hp, Nat.not_le.2 hm, hr, hv, objReset, or_self,
    if_false, Bool.not_true, Bool.false_eq_true]

theorem unitResetStackChannel_holds {ch : Nat} (hc : ch < 256) (hv : (s.blk.channel ch).st = .up) :
    Completes (.unitResetStackChannel role ch 0) s (fun t => (t.blk.channel ch).st = .held ∧
      (t.blk.channel ch).cmd = some (s.blk.cmds.count + 1, 0x60000040) ∧ t.blk.cmds.reply.status = .accepted ∧
      t.blk.mem = s.blk.mem) := by
  simp only [Completes, exec_unitResetStackChannel, execUnitResetStackChannel, State.run_eq, ha.cmd, if_neg (Nat.not_le.2 hc),
    resetChannel_holds hr hv]
  obtain ⟨hst, hcmd, hcmds, hmem⟩ := holdChannel_leaves (s.blk.accept objReset) ch (some (s.blk.cmds.count + 1, objReset))
  exact ⟨_, rfl, hst, hcmd, congrArg (·.reply.status) hcmds, hmem⟩

theorem unitResetBulkChannel_holds {ch : Nat} (hc : ch < 16) (hv : (s.blk.channel (256 + ch)).st = .up) :
    Completes (.unitResetBulkChannel role ch 0) s (fun t => (t.blk.channel (256 + ch)).st = .held ∧
      t.blk.cmds.reply.status = .accepted ∧ t.blk.mem = s.blk.mem) := by
  simp only [Completes, exec_unitResetBulkChannel, execUnitResetBulkChannel, State.run_eq, ha.cmd, if_neg (Nat.not_le.2 hc),
    resetChannel_holds hr hv]
  obtain ⟨hst, -, hcmds, hmem⟩ := holdChannel_leaves (s.blk.accept objReset) (256 + ch) (some (s.blk.cmds.count + 1, objReset))
  exact ⟨_, rfl, hst, congrArg (·.reply.status) hcmds, hmem⟩

theorem unitResetTile_refused {t : Nat} (h : s.blk.tileEmpty t = false ∨ t = 4) (ht : t < 9) :
    exec (.unitResetTile role t 0) s = .next (s.withBlk (s.blk.refuse .badState)) := by
  have hbad : t = 4 ∨ (!s.blk.tileEmpty t) = true := h.symm.imp_right (by simp [·])
  simp only [exec_unitResetTile, execUnitResetTile, State.run_eq, ha.cmd, Nat.not_le.2 ht, hr, ne_eq, not_true_eq_false, or_self, if_false,
    Bool.not_true, Bool.false_eq_true, if_pos hbad]

theorem unitResetTile_resets {t : Nat} (ht : t < 9) (h4 : t ≠ 4) (he : s.blk.tileEmpty t = true) :
    exec (.unitResetTile role t 0) s = .next (s.withBlk (((s.blk.accept 0x60000040).resetTile t).finishSts 0x60000040
      (s.blk.accept 0x60000040).cmds.count .ok)) := by
  simp only [exec_unitResetTile, execUnitResetTile, State.run_eq, ha.cmd, Nat.not_le.2 ht, hr, h4, he, objReset, ne_eq, not_true_eq_false,
    or_self, if_false, Bool.not_true, Bool.false_eq_true]

end Reset

/-- Settles O49: a loss with nothing in flight step by step, the unit resets by the order of their checks. -/
theorem lossesAndResets : Obligations.LossesAndResets := by
  unfold Obligations.LossesAndResets
  exact fun s => ⟨fun l c => lanternLost_loses c, fun l c => lanternLost_stays c,
    fun l d _ hh hl hc hg hw hcmd => loseLantern_idle ⟨hh, hl, hc, hg, hw⟩ d hcmd,
    fun role m ha => ⟨fun l => unitResetLantern_outOfRange ha m, fun hr l => unitResetLantern_resets ha hr,
      fun hr cl => unitResetKeeperCluster_resets ha hr, fun hr p => unitResetPort_resets ha hr,
      fun ch => unitResetStackChannel_outOfRange ha, fun hr ch => unitResetStackChannel_holds ha hr,
      fun hr ch => unitResetBulkChannel_holds ha hr, fun hr => unitResetTile_refused ha hr, fun hr t => unitResetTile_resets ha hr⟩⟩

end Sys2Proof

/-! PROOFS. What no operation of a line's home touches (R254 to R262): the beams, the configuration store, the keeper clusters, the tray,
the silent-fault state, the commands and the completion queues of the ports. One lemma per operation of the model, of the operation's name. -/

namespace Sys2Proof

open Sys2Proof.Machine

/-- The parts of a block that no operation of a line's home touches. -/
structure Beyond where
  beams : Tab Beam
  store : Store
  clusters : Tab Cluster
  tray : Tray
  silent : Silent
  cmds : Commands
  cqs : Nat → Tab Cq

def beyond (b : Block) : Beyond where
  beams := b.beams
  store := b.store
  clusters := b.clusters
  tray := b.tray
  silent := b.silent
  cmds := b.cmds
  cqs p := (b.port p).cqs

/-- A block with the given parts beyond its lines' homes. -/
def Stays (kept : Beyond) (b : Block) : Prop := beyond b = kept

/-- So is the block that an operation may answer. -/
def StaysOpt (kept : Beyond) (o : Option Block) : Prop := ∀ c ∈ o, Stays kept c

/-- So is the block that an operation answers, whether it succeeds or not. -/
def StaysRes {ε : Type} (kept : Beyond) : Except (ε × Block) Block → Prop
  | .error e => Stays kept e.2
  | .ok c => Stays kept c

variable {kept : Beyond}

namespace StaysOpt

theorem none : StaysOpt kept none := fun _ h => nomatch h
theorem some {c : Block} (h : Stays kept c) : StaysOpt kept (some c) := fun _ hd => Option.some.inj hd ▸ h

theorem getD {o : Option Block} {b : Block} (h : StaysOpt kept o) (hb : Stays kept b) : Stays kept (o.getD b) := by
  cases o with
  | none => exact hb
  | some c => exact h c rfl

theorem map {α : Type} {o : Option α} {f : α → Block} (h : ∀ a, Stays kept (f a)) : StaysOpt kept (o.map f) := by
  cases o with
  | none => exact none
  | some a => exact some (h a)

theorem ite {P : Prop} {_ : Decidable P} {o t : Option Block} (h : StaysOpt kept o) (ht : StaysOpt kept t) :
    StaysOpt kept (if P then o else t) := by
  split
  · exact h
  · exact ht

end StaysOpt

namespace StaysRes

variable {ε : Type} {r t : Except (ε × Block) Block}

theorem ok {c : Block} (h : StaysRes kept r) (he : r = .ok c) : Stays kept c := by subst he; exact h
theorem error {e : ε × Block} (h : StaysRes kept r) (he : r = .error e) : Stays kept e.2 := by subst he; exact h

theorem ite {P : Prop} {_ : Decidable P} (h : StaysRes kept r) (ht : StaysRes kept t) : StaysRes kept (if P then r else t) := by
  split
  · exact h
  · exact ht

end StaysRes

namespace Stays

variable {b c : Block}

theorem refl (b : Block) : Stays (beyond b) b := rfl

/-- A change of what is not beyond the homes. -/
theorem same (h : Stays kept b) (he : beyond c = beyond b := by rfl) : Stays kept c := he.trans h

theorem ite {p : Prop} {_ : Decidable p} (h : Stays kept b) (hc : Stays kept c) : Stays kept (if p then b else c) := by
  split
  · exact h
  · exact hc

theorem foldl {α : Type} {f : Block → α → Block} {l : List α} (hf : ∀ c, Stays kept c → ∀ x, Stays kept (f c x)) (h : Stays kept b) :
    Stays kept (l.foldl f b) :=
  List.foldlRecOn (motive := Stays kept) _ _ h (fun a ha x _ => hf a ha x)

/-! ### Changes of parts that are not beyond -/

theorem withPicks {v} (h : Stays kept b) : Stays kept { b with picks := v } := h
theorem withHarts {v} (h : Stays kept b) : Stays kept { b with harts := v } := h
theorem withHws {v} (h : Stays kept b) : Stays kept { b with hws := v } := h
theorem withErrors {v} (h : Stays kept b) : Stays kept { b with errors := v } := h
theorem withSinkers {v} (h : Stays kept b) : Stays kept { b with sinkers := v } := h
theorem withImsic {v} (h : Stays kept b) : Stays kept { b with imsic := v } := h
theorem updBerth {k f} (h : Stays kept b) : Stays kept (b.updBerth k f) := h
theorem updDomain {k f} (h : Stays kept b) : Stays kept (b.updDomain k f) := h
theorem updLine {k f} (h : Stays kept b) : Stays kept (b.updLine k f) := h
theorem updPset {k f} (h : Stays kept b) : Stays kept (b.updPset k f) := h
theorem updTile {k f} (h : Stays kept b) : Stays kept (b.updTile k f) := h
theorem updHart {k f} (h : Stays kept b) : Stays kept (b.updHart k f) := h
theorem updHw {k f} (h : Stays kept b) : Stays kept (b.updHw k f) := h
theorem updLantern {k f} (h : Stays kept b) : Stays kept (b.updLantern k f) := h
theorem updChart {k f} (h : Stays kept b) : Stays kept (b.updChart k f) := h

/-- A port may change, but for its completion queues. -/
theorem updPort {k : Nat} {f : Port → Port} (h : Stays kept b) (hf : ∀ x : Port, (f x).cqs = x.cqs := by intro _; rfl) :
    Stays kept (b.updPort k f) := by
  refine h.same ?_
  have hq : (fun p => ((b.updPort k f).port p).cqs) = fun p => (b.port p).cqs := by
    funext p
    by_cases hp : p = k
    · subst hp
      exact (congrArg Port.cqs (tget_tput_same {} b.ports p _)).trans (hf _)
    · exact congrArg Port.cqs (tget_tput_ne ({} : Port) b.ports _ _ _ hp)
  exact congrArg (fun q => { beyond b with cqs := q }) hq

theorem raise {u e args} (h : Stays kept b) : Stays kept (b.raise u e args) := by
  obtain ⟨ev, hev⟩ := b.raise_shape u e args
  rw [hev]
  exact h

theorem pend {pa id} (h : Stays kept b) : Stays kept (b.pend pa id) := h.withImsic.updHart
theorem msi {pa id lostEv args} (h : Stays kept b) : Stays kept (b.msi pa id lostEv args) := .ite h.pend h.raise

/-! ### The operations of `Home` and `Serve` -/

theorem back {n} (hb : Stays kept b) : StaysRes kept (Block.back b n) := by
  unfold Block.back
  dsimp only
  split
  · exact hb.updBerth.withPicks
  · exact hb.raise

theorem putFrame {tier d frame i v p} (hb : Stays kept b) : Stays kept (b.putFrame tier d frame i v p) :=
  hb.same

theorem putMem {ln v p} (hb : Stays kept b) : Stays kept (Block.putMem b ln v p) := by
  unfold Block.putMem
  dsimp only
  split
  · exact hb
  · exact hb
  · exact hb.putFrame
  · exact hb.putFrame.putFrame
  · exact hb.putFrame.updBerth

theorem sample {ln} (hb : Stays kept b) : Stays kept (Block.sample b ln) := .ite hb.updDomain.updBerth hb.updDomain

theorem writeBack {ln v p} (hb : Stays kept b) : Stays kept (Block.writeBack b ln v p).1 := by
  unfold Block.writeBack
  dsimp only
  split
  · exact hb.raise
  · split
    next c he1 => exact ((hb.back.ok he1).putMem).sample
    next e he1 => exact (hb.back.error he1).raise
  · exact hb.putMem.sample

theorem unplace {key ln} (hb : Stays kept b) : Stays kept (Block.unplace b key ln) := hb.updPset

theorem loseRes {ln keep} (hb : Stays kept b) : Stays kept (Block.loseRes b ln keep) := hb.withHarts

theorem setDir {ln d} (hb : Stays kept b) : Stays kept (Block.setDir b ln d) := .ite hb.updLine.unplace hb.updLine

theorem dropCopy {a ln} (hb : Stays kept b) : Stays kept (Block.dropCopy b a ln) := .ite hb.updLine.unplace.loseRes hb.updLine.unplace

theorem evictSlice {ln} (hb : Stays kept b) : Stays kept (Block.evictSlice b ln) := by
  unfold Block.evictSlice
  dsimp only
  split
  · exact hb
  · exact .ite hb.updLine.unplace.writeBack hb.updLine.unplace

theorem placeSlice {touch ln v dirty p} (hb : Stays kept b) : Stays kept (Block.placeSlice b touch ln v dirty p) := by
  unfold Block.placeSlice
  dsimp only
  refine .ite hb.updPset.updLine ?_
  split
  · exact .ite hb.writeBack hb
  · exact Stays.updLine (Stays.updPset (by
      split
      · exact hb.evictSlice
      · exact hb))

theorem putSlice {ln v dirty p} (hb : Stays kept b) : Stays kept (Block.putSlice b ln v dirty p) := hb.placeSlice

theorem fetchSlice {ln} (hb : Stays kept b) : Stays kept (Block.fetchSlice b ln) := by
  unfold Block.fetchSlice
  dsimp only
  split
  · exact hb.updPset
  · exact .ite hb hb.sample.putSlice

theorem mergeCopy {a ln} (hb : Stays kept b) : Stays kept (Block.mergeCopy b a ln) := by
  unfold Block.mergeCopy
  split
  · exact .ite hb.putSlice hb
  · exact hb

theorem recallAll {ln} (hb : Stays kept b) : Stays kept (Block.recallAll b ln) :=
    Stays.setDir (Stays.foldl (fun _ h0 _ => h0.mergeCopy.dropCopy) hb)

theorem dirEntry {ln} (hb : Stays kept b) : StaysOpt kept (Block.dirEntry b ln) := by
  unfold Block.dirEntry
  dsimp only
  refine StaysOpt.ite (StaysOpt.some hb.updPset) ?_
  refine StaysOpt.ite (StaysOpt.some hb) ?_
  exact StaysOpt.map (fun _ => Stays.updPset (by
    split
    · exact hb.recallAll.updTile
    · exact hb))

theorem undir {a ln} (hb : Stays kept b) : Stays kept (Block.undir b a ln) := .ite hb.updLine hb.setDir

theorem evictCopy {a ln} (hb : Stays kept b) : Stays kept (Block.evictCopy b a ln) := by
  unfold Block.evictCopy
  dsimp only
  split
  · exact hb.unplace
  · exact .ite hb.mergeCopy.dropCopy hb.mergeCopy.dropCopy.undir

theorem place {a ln c} (hb : Stays kept b) : Stays kept (Block.place b a ln c) := by
  unfold Block.place
  dsimp only
  refine .ite hb.updPset.updLine ?_
  split
  · exact Stays.undir (Stays.ite hb.putSlice hb)
  · exact Stays.updLine (Stays.updPset (by
      split
      · exact hb.evictCopy
      · exact hb))

theorem moveCopy {a a' ln} (hb : Stays kept b) : Stays kept (Block.moveCopy b a a' ln) := by
  unfold Block.moveCopy
  dsimp only
  split
  · exact hb
  · exact hb.dropCopy.updLine.place

theorem install {a ln c} (hb : Stays kept b) : Stays kept (Block.install b a ln c) := by
  unfold Block.install
  dsimp only
  refine .ite ?_ hb.place
  exact Stays.place (Stays.ite hb (by
    split
    · split
      · exact hb.moveCopy
      · exact hb
    · exact hb))

theorem deliver {ln id} (hb : Stays kept b) : Stays kept (Block.deliver b ln id) :=
    .ite hb.updLantern.withHws.updChart (.ite hb.updPort (.ite hb.updTile hb))

theorem notify {ln} (hb : Stays kept b) : Stays kept (Block.notify b ln) := .foldl (fun _ h0 _ => h0.deliver) hb

theorem watch {id ln} (hb : Stays kept b) : StaysOpt kept (Block.watch b id ln) := StaysOpt.ite StaysOpt.none (StaysOpt.some hb.updLine)

theorem watchRefused {ln} (hb : Stays kept b) : Stays kept (Block.watchRefused b ln) := hb.updTile

theorem unwatch {id ln} (hb : Stays kept b) : Stays kept (Block.unwatch b id ln) := hb.updLine

theorem queueReq {ln r} (hb : Stays kept b) : Stays kept (Block.queueReq b ln r) := .ite hb hb.updLine

theorem ensure {ln} (hb : Stays kept b) : StaysRes kept (Block.ensure b ln) := by
  unfold Block.ensure
  refine StaysRes.ite ?_ hb
  split
  next c he => exact (hb.back.ok he).same
  next e he => exact hb.back.error he

theorem lend {a ln} (hb : Stays kept b) : Stays kept (Block.lend b a ln) := by
  unfold Block.lend
  dsimp only
  refine .ite hb ?_
  split
  · exact hb.notify
  · exact hb.putSlice.updLine.notify

theorem fill {a ln} (hb : Stays kept b) : Stays kept (Block.fill b a ln) := by
  unfold Block.fill
  dsimp only
  refine .ite ?_ hb
  split
  · exact hb.dropCopy.updLine.install
  · exact hb

theorem storeHit {a ln mask v keep c} (hb : Stays kept b) : Stays kept (Block.storeHit b a ln mask v keep c) :=
    Stays.loseRes (Stays.ite hb.updPset.updLine hb.updPset.updLine.lend)

theorem storeMiss {a ln mask v keep} (hb : Stays kept b) : StaysRes kept (Block.storeMiss b a ln mask v keep) := by
  unfold Block.storeMiss
  dsimp only
  split
  · exact hb
  · split
    · exact hb
    next _ he1 => exact Stays.loseRes (Stays.lend (Stays.install (Stays.updLine (Stays.foldl (fun _ h2 _ => h2.dropCopy) (.ite
      (hb.dirEntry _ he1) ((hb.dirEntry _ he1).fetchSlice))))))

theorem storeLine {b0 a ln mask v keep} (hb : Stays kept b0) : StaysRes kept (Block.storeLine b0 a ln mask v keep)
    := by
  unfold Block.storeLine
  dsimp only
  refine StaysRes.ite hb ?_
  split
  · exact hb.storeHit
  · refine StaysRes.ite hb.queueReq ?_
    split
    next e he1 => exact (hb.ensure.error he1).same
    next _ he1 =>
      split
      · exact StaysRes.ite (((hb.ensure.ok he1).fill).storeMiss) (((hb.ensure.ok he1).fill).storeHit)
      · exact ((hb.ensure.ok he1).fill).storeMiss

theorem write {ln mask v p} (hb : Stays kept b) : StaysRes kept (Block.write b ln mask v p) := by
  unfold Block.write
  dsimp only
  split
  · exact hb
  · split
    next e he1 => exact (hb.ensure.error he1).same
    next _ he1 => exact Stays.loseRes (Stays.notify (Stays.putSlice (Stays.setDir (Stays.foldl (fun _ h2 _ => h2.dropCopy)
      (hb.ensure.ok he1)))))

theorem setTxn {ln t} (hb : Stays kept b) : Stays kept (Block.setTxn b ln t) := hb.updLine

theorem updTxn {ln f} (hb : Stays kept b) : Stays kept (Block.updTxn b ln f) := hb.updLine

theorem applyWrite {ln r} (hb : Stays kept b) : Stays kept (Block.applyWrite b ln r) := hb.setDir.putSlice.notify.loseRes

theorem applyAtom {ln r} (hb : Stays kept b) : Stays kept (Block.applyAtom b ln r) :=
    .ite hb.setDir.fetchSlice.updLine hb.setDir.fetchSlice.updLine.putSlice.updTile.notify.loseRes

theorem serveX {ln r} (hb : Stays kept b) : Stays kept (Block.serveX b ln r) := by
  unfold Block.serveX
  dsimp only
  split
  next e he => exact hb.ensure.error he
  next _ he =>
    split
    · refine .ite (Stays.setTxn (Stays.updLine (Stays.fetchSlice (StaysOpt.getD ((hb.ensure.ok he).dirEntry) (hb.ensure.ok he)))))
        ?_
      exact Stays.setTxn (Stays.updLine (StaysOpt.getD ((hb.ensure.ok he).dirEntry) (hb.ensure.ok he)))
    · exact Stays.setTxn (Stays.updLine (Stays.fetchSlice (StaysOpt.getD ((hb.ensure.ok he).dirEntry) (hb.ensure.ok he))))
    · exact Stays.setTxn (Stays.updLine (Stays.fetchSlice (StaysOpt.getD ((hb.ensure.ok he).dirEntry) (hb.ensure.ok he))))

theorem serve {ln r} (hb : Stays kept b) : Stays kept (Block.serve b ln r) := by
  unfold Block.serve
  dsimp only
  refine .ite hb ?_
  split
  · split
    · refine .ite (Stays.setTxn (Stays.updLine (Stays.fetchSlice (StaysOpt.getD hb.dirEntry hb)))) ?_
      exact Stays.setTxn (StaysOpt.getD hb.dirEntry hb)
    · exact Stays.setTxn (Stays.updLine (Stays.fetchSlice (StaysOpt.getD hb.dirEntry hb)))
    · exact Stays.setTxn (Stays.updLine (Stays.fetchSlice (StaysOpt.getD hb.dirEntry hb)))
  · exact hb.serveX
  · split
    · refine .ite ?_ hb.serveX
      split
      next e he2 => exact hb.ensure.error he2
      next _ he2 => exact ((hb.ensure.ok he2).updLine).setTxn
    · exact hb.serveX
  · split
    · exact hb.setTxn
    · exact hb.fetchSlice.updLine.setTxn
  · split
    next e he1 => exact hb.ensure.error he1
    next _ he1 =>
      split
      · exact (hb.ensure.ok he1).setTxn
      · exact (hb.ensure.ok he1).setTxn
      · exact .ite ((hb.ensure.ok he1).applyAtom) ((hb.ensure.ok he1).applyWrite)
  · split
    next e he1 => exact hb.ensure.error he1
    next _ he1 =>
      split
      · exact (hb.ensure.ok he1).setTxn
      · exact (hb.ensure.ok he1).setTxn
      · exact .ite ((hb.ensure.ok he1).applyAtom) ((hb.ensure.ok he1).applyWrite)
  · split
    next e he1 => exact hb.ensure.error he1
    next _ he1 =>
      split
      · exact (hb.ensure.ok he1).setTxn
      · exact (hb.ensure.ok he1).setTxn
      · exact .ite ((hb.ensure.ok he1).applyAtom) ((hb.ensure.ok he1).applyWrite)
  · exact StaysOpt.getD hb.watch hb.watchRefused
  · exact hb.unwatch

theorem serveNext {ln k} (hb : Stays kept b) : Stays kept (Block.serveNext ln k b) := by
  induction k generalizing b with
  | zero => exact hb
  | succ k ih =>
    unfold Block.serveNext
    dsimp only
    split
    · exact .ite hb (ih hb.updLine.serve)
    · exact hb

theorem serveWaiting (hb : Stays kept b) : Stays kept (Block.serveWaiting b) := .foldl (fun _ h0 _ => h0.serveNext) hb

theorem payOwed {p k} (hb : Stays kept b) : Stays kept (Block.payOwed p k b) := by
  induction k generalizing b with
  | zero => exact hb
  | succ k ih =>
    unfold Block.payOwed
    split
    · exact hb
    · dsimp only
      split
      · exact ih hb.updPort
      · split
        · exact hb
        next he => exact ih (hb.write.error he).updPort
        next he =>
          refine ih ?_
          split
          · exact (hb.write.ok he).updPort.msi
          · exact (hb.write.ok he).updPort

theorem endTxn {ln} (hb : Stays kept b) : Stays kept (Block.endTxn b ln) := .foldl (fun _ h0 _ => h0.payOwed) hb.updLine.serveNext.serveWaiting

theorem progress {ln} (hb : Stays kept b) : Stays kept (Block.progress b ln) := by
  unfold Block.progress
  split
  · exact hb
  · refine .ite hb ?_
    split
    · exact hb.applyWrite.endTxn
    · exact hb.applyWrite.endTxn
    · exact hb.applyAtom.endTxn
    · exact hb

/-! ### Programs, stores and losses -/

theorem boardDel {k id} (hb : Stays kept b) : Stays kept (Block.boardDel b k id) := hb.updHw
theorem tallyDown {k i} (hb : Stays kept b) : Stays kept (Block.tallyDown b k i) := hb.updHw
theorem dropRef {l id} (hb : Stays kept b) : Stays kept (Block.dropRef b l id) := hb.updChart

theorem withdrawSinks {k} (hb : Stays kept b) : Stays kept (Block.withdrawSinks b k) :=
    .foldl (fun _ h0 _ => h0.boardDel.dropRef.tallyDown) (.ite hb hb.withSinkers)

theorem endReq {k status detail} (hb : Stays kept b) : Stays kept (Block.endReq b k status detail) := by
  unfold Block.endReq
  dsimp only
  split
  · exact hb
  · exact .ite hb hb.withdrawSinks.updHw.updLantern
  · exact hb
  · exact .ite hb hb.withdrawSinks.updHw.updLantern
  · exact hb.withdrawSinks.updHw.updLantern

theorem memErr {k e pa} (hb : Stays kept b) : Stays kept (Block.memErr b k e pa) := by
  unfold Block.memErr
  dsimp only
  split
  · split
    · exact .ite hb.updHw hb
    · exact hb
  · exact hb.raise.endReq
  · exact hb.endReq
  · exact hb.endReq

theorem performStore {l s} (hb : Stays kept b) : StaysRes kept (Block.performStore b l s) := by
  unfold Block.performStore
  split
  · exact hb
  · exact hb.storeLine

theorem performOldest {l} (hb : Stays kept b) : Stays kept (Block.performOldest b l) := by
  unfold Block.performOldest
  dsimp only
  split
  · exact hb
  · split
    next c he1 => exact (hb.performStore.ok he1).updLantern
    next c he1 => exact hb.performStore.error he1
    next e c he1 => exact ((hb.performStore.error he1).updLantern).memErr

theorem drainStores {l} (hb : Stays kept b) : Stays kept (Block.drainStores b l) := .foldl (fun _ h0 _ => h0.performOldest) hb
theorem flushDie {a} (hb : Stays kept b) : Stays kept (Block.flushDie b a) := .foldl (fun _ h0 _ => h0.evictCopy) hb

theorem postedPerform {h} (hb : Stays kept b) : Stays kept (Block.postedPerform b h) := by
  unfold Block.postedPerform
  split
  · exact hb
  · exact hb.updHart.msi

theorem postedAll {h} (hb : Stays kept b) : Stays kept (Block.postedAll b h) := .foldl (fun _ h0 _ => h0.postedPerform) hb

theorem drainCluster {cl} (hb : Stays kept b) : Stays kept (Block.drainCluster b cl) :=
    Stays.flushDie (Stays.foldl (fun _ h0 _ => h0.postedAll) hb)

theorem sweepCopy {a ln} (hb : Stays kept b) : Stays kept (Block.sweepCopy b a ln) := by
  unfold Block.sweepCopy
  dsimp only
  split
  · exact hb
  · exact Stays.undir (Stays.dropCopy (Stays.ite hb hb.putSlice.withErrors))

theorem poisonSlice {ln v} (hb : Stays kept b) : Stays kept (Block.poisonSlice b ln v) := hb.putSlice.withErrors

theorem sweepRequester {ln t} (hb : Stays kept b) : Stays kept (Block.sweepRequester b ln t) := by
  unfold Block.sweepRequester
  dsimp only
  exact Stays.endTxn (Stays.recallAll (by
    split
    · exact .ite hb.poisonSlice hb
    · exact hb))

theorem sweepSnoops {a ln t} (hb : Stays kept b) : Stays kept (Block.sweepSnoops b a ln t) :=
    .ite hb (Stays.progress (Stays.ite hb.updTxn.updLine hb.updTxn))

theorem sweepLine {a ln} (hb : Stays kept b) : Stays kept (Block.sweepLine b a ln) := by
  unfold Block.sweepLine
  dsimp only
  split
  · exact hb.sweepCopy.updLine
  · exact .ite hb.sweepCopy.updLine.sweepRequester hb.sweepCopy.updLine.sweepSnoops

theorem sweepAgent {a} (hb : Stays kept b) : Stays kept (Block.sweepAgent b a) := .foldl (fun _ h0 _ => h0.sweepLine) hb

end Stays

end Sys2Proof

/-! PROOFS. Keeper clocks, mailboxes and interrupt files (R273, R284, R286, R288, R363), and what the reset of a cluster leaves (R272). -/

namespace Sys2Proof

open Sys2Proof.Machine

/-! ### The reset of a cluster (R14, R272, R273) -/

/-- An entry of a table under a key that a filter drops is the default again. -/
theorem tget_filter_dropped {α : Type} (d : α) {keep : Nat × α → Bool} {k : Nat} (hk : ∀ v, keep (k, v) = false) (t : Tab α) :
    tget d (t.filter keep) k = d := by
  induction t with
  | nil => rfl
  | cons e t ih =>
    by_cases he : keep e = true
    · have hne : e.1 ≠ k := by
        rintro rfl
        exact absurd he (by simp [hk])
      rw [List.filter_cons_of_pos he, tget, if_neg hne, ih]
    · rw [List.filter_cons_of_neg he, ih]

theorem resetCluster_hart (b : Block) {cl h : Nat} (hh : h / 16 = cl) : (b.resetCluster cl).hart h = {} :=
  tget_filter_dropped (α := Hart) {} (fun _ => by simp [hh]) b.harts

theorem resetCluster_cluster (b : Block) (cl : Nat) : (b.resetCluster cl).cluster cl =
    { b.cluster cl with st := .reset, relocking := true, stopped := false, req := 34, grant := min 34 (b.cluster cl).limit } :=
  tget_tput_same _ _ _ _

/-- The record of an error touches nothing beyond the lines' homes. -/
theorem Stays.record {kept : Beyond} {b : Block} {u e args r} (h : Stays kept b) : Stays kept (b.record u e args r) := by
  obtain ⟨er, ev, hrec⟩ := record_shape b u e args r
  rw [hrec]
  exact h

theorem setAlert_keeps (b : Block) (i : Nat) :
    (b.setAlert i).clusters = b.clusters ∧ (b.setAlert i).silent = b.silent ∧ (b.setAlert i).cmds = b.cmds := ⟨rfl, rfl, rfl⟩

/-- What a lost cluster leaves, the end of its UnitReset included (R272, R404). -/
theorem loseCluster_leaves (b : Block) (cl : Nat) :
    ((b.loseCluster cl).cluster cl).st = .reset ∧ ((b.loseCluster cl).cluster cl).relocking = true ∧ (b.loseCluster cl).alert 16 = true ∧
    ((b.loseCluster cl).cluster cl).heartbeatResets = (b.cluster cl).heartbeatResets + 1 ∧
    ∀ h, h / 16 = cl → (b.loseCluster cl).hart h = {} := by
  unfold Block.loseCluster
  extract_lets cmd b1 b2 b3
  have hrec : Stays (beyond b) (b.record (unitCluster cl) .keeperClusterLost [cl] (errRec 3 0x14 cl)) := (Stays.refl b).record
  have hswept : Stays (beyond b1) (b1.sweepAgent (64 + cl)) := (Stays.refl b1).sweepAgent
  have hcluster : b2.cluster cl =
      { b.cluster cl with st := .reset, relocking := true, stopped := false, req := 34, grant := min 34 (b.cluster cl).limit } := by
    have hk : (b1.sweepAgent (64 + cl)).clusters = b.clusters := by
      calc (b1.sweepAgent (64 + cl)).clusters
        _ = b1.clusters := congrArg Beyond.clusters hswept
        _ = b.clusters := congrArg Beyond.clusters hrec
    have hcl : (b1.sweepAgent (64 + cl)).cluster cl = b.cluster cl := congrArg (tget ({} : Cluster) · cl) hk
    exact (resetCluster_cluster (b1.sweepAgent (64 + cl)) cl).trans (by rw [hcl])
  have halert : b2.alert 16 = true := by
    have ht : b2.tray = b1.tray := congrArg Beyond.tray hswept
    rw [Block.alert, ht]
    exact setAlert_alert _ (by decide)
  have hharts : ∀ h, h / 16 = cl → b2.hart h = {} := fun h hh => resetCluster_hart (b1.sweepAgent (64 + cl)) hh
  clear_value b2
  have h3 : b3.cluster cl = { b2.cluster cl with heartbeatResets := (b2.cluster cl).heartbeatResets + 1, cmd := none } :=
    tget_tput_same _ _ _ _
  have h3' : b3.tray = b2.tray ∧ b3.harts = b2.harts := ⟨rfl, rfl⟩
  clear_value b3
  rw [hcluster] at h3
  have hend : (b3.cluster cl).st = .reset ∧ (b3.cluster cl).relocking = true ∧ b3.alert 16 = true ∧
      (b3.cluster cl).heartbeatResets = (b.cluster cl).heartbeatResets + 1 ∧ ∀ h, h / 16 = cl → b3.hart h = {} := by
    refine ⟨congrArg Cluster.st h3, congrArg Cluster.relocking h3, ?_, congrArg Cluster.heartbeatResets h3, fun h hh => ?_⟩
    · rw [Block.alert, h3'.1]
      exact halert
    · rw [Block.hart, h3'.2]
      exact hharts h hh
  cases cmd with
  | some c => simpa [Block.cluster, Block.alert, Block.hart] using hend
  | none => exact hend

/-! ### The commands -/

section Platform

variable {s : State}

theorem exec_perfWrite (cl : Nat) (v : W64) (s : State) : exec (.perfWrite cl v) s = execPerfWrite cl v s := rfl
theorem exec_pllRelockDone (cl : Nat) (s : State) : exec (.pllRelockDone cl) s = execPllRelockDone cl s := rfl
theorem exec_mailboxSend (m len h : Nat) (s : State) : exec (.mailboxSend m len h) s = execMailboxSend m len h s := rfl
theorem exec_replyDone (m : Nat) (s : State) : exec (.replyDone m) s = execReplyDone m s := rfl
theorem exec_eventDone (m : Nat) (s : State) : exec (.eventDone m) s = execEventDone m s := rfl
theorem exec_interruptWrite (pa n : Nat) (v : W32) (fh : Bool) (s : State) :
    exec (.interruptWrite pa n v fh) s = execInterruptWrite pa n v fh s := rfl
theorem exec_keeperClusterLost (cl : Nat) (s : State) : exec (.keeperClusterLost cl) s = execKeeperClusterLost cl s := rfl

theorem perfWrite_asks {cl : Nat} (v : W64) (hc : cl < 8) (hr : s.blk.tray.rails = true) : exec (.perfWrite cl v) s =
    .next (s.withBlk ((s.blk.updCluster cl (fun x => { x with req := max 8 (min 34 (fld v 0 6)) })).regrant cl)) := by
  simp only [exec_perfWrite, execPerfWrite, State.run_eq, Nat.not_le.2 hc, hr, Bool.not_true, Bool.false_eq_true, or_self, if_false,
    Block.perfStore]

theorem perfWrite_stays {cl : Nat} (v : W64) (h : 8 ≤ cl ∨ s.blk.tray.rails = false) : exec (.perfWrite cl v) s = .next s := by
  rw [exec_perfWrite, execPerfWrite, State.run_eq, if_pos (by simpa using h)]

theorem pllRelockDone_running {cl : Nat} (hc : cl < 8) (hl : (s.blk.cluster cl).relocking = true)
    (hr : (s.blk.cluster cl).st = .running) : exec (.pllRelockDone cl) s =
      .next (s.withBlk (s.blk.setCluster cl { s.blk.cluster cl with relocking := false })) := by
  simp only [exec_pllRelockDone, execPllRelockDone, State.run_eq, Nat.not_le.2 hc, hl, hr, Bool.not_true, Bool.false_eq_true, or_self,
    if_false, ne_eq, reduceCtorEq, not_false_eq_true, if_true]

theorem pllRelockDone_restarts {cl : Nat} (hc : cl < 8) (hl : (s.blk.cluster cl).relocking = true)
    (hr : (s.blk.cluster cl).st = .reset) : Completes (.pllRelockDone cl) s (fun t =>
      (t.blk.cluster cl).st = .running ∧ (t.blk.cluster cl).relocking = false ∧ t.blk.mem = s.blk.mem ∧ t.blk.lines = s.blk.lines) := by
  simp only [Completes, exec_pllRelockDone, execPllRelockDone, State.run_eq, Nat.not_le.2 hc, hl, hr, Bool.not_true, Bool.false_eq_true,
    or_self, if_false, ne_eq, not_true_eq_false]
  refine ⟨_, rfl, ?_⟩
  cases (s.blk.cluster cl).cmd <;> simp [Block.cluster, Block.setCluster, Block.restartLocal]

theorem pllRelockDone_stays {cl : Nat} (h : (s.blk.cluster cl).relocking = false) : exec (.pllRelockDone cl) s = .next s := by
  simp only [exec_pllRelockDone, execPllRelockDone, State.run_eq, h, Bool.not_false, or_true, if_true]

theorem mailboxSend_takes {m len h : Nat} (hm : m < 4) (hh : s.blk.hartRuns h = true) (hb : (s.blk.mailbox m).busy = false)
    (hr : (s.blk.mailbox m).replyReady = false) : exec (.mailboxSend m len h) s = .next (s.withBlk
      (s.blk.setMailbox m { s.blk.mailbox m with busy := true, reqLen := len % 2 ^ 16 })) := by
  refine (run_onHart hh _).trans ?_
  simp only [if_neg (Nat.not_le.2 hm), Block.mailSend, hb, hr, Bool.or_self, Bool.false_eq_true, if_false]

theorem mailboxSend_traps {m len h : Nat} (hm : m < 4) (hh : s.blk.hartRuns h = true)
    (hb : (s.blk.mailbox m).busy = true ∨ (s.blk.mailbox m).replyReady = true) : exec (.mailboxSend m len h) s = .next (s.withBlk
      (s.blk.trap h 7 (0x4000000600000 + m * 0x2000))) := by
  refine (run_onHart hh _).trans ?_
  simp only [if_neg (Nat.not_le.2 hm), Block.mailSend, Bool.or_eq_true, hb, if_true, cStoreFault]

theorem windowsDone {m : Nat} (hm : m < 4) :
    exec (.replyDone m) s = .next (s.withBlk (s.blk.updMailbox m (fun x => { x with replyReady := false, replyLen := 0 }))) ∧
    exec (.eventDone m) s = .next (s.withBlk ((s.blk.updMailbox m (fun x =>
      { x with eventPending := false, event := [], eventLen := 0 })).pushTo (8 + m))) := by
  simp only [exec_replyDone, execReplyDone, exec_eventDone, execEventDone, State.run_eq, if_neg (Nat.not_le.2 hm), Block.mailReplyDone,
    Block.mailEventDone, and_self]

theorem windowsDone_stay {m : Nat} (hm : 4 ≤ m) : exec (.replyDone m) s = .next s ∧ exec (.eventDone m) s = .next s := by
  simp only [exec_replyDone, execReplyDone, exec_eventDone, execEventDone, State.run_eq, if_pos hm, and_self]

theorem interruptWrite_pends {pa : Nat} {v : W32} (hr : s.blk.tray.rails = true) (hf : isFile pa = true) (ht : s.blk.fileTakes pa = true)
    (h1 : 1 ≤ v.toNat) (hn : v.toNat ≤ 2047) (fh : Bool) :
    exec (.interruptWrite pa 4 v fh) s = .next (s.withBlk (s.blk.pend pa v.toNat)) := by
  simp only [exec_interruptWrite, execInterruptWrite, State.run_eq, hr, hf, Block.msi, ht, h1, hn, Bool.not_true, Bool.false_eq_true,
    if_false, and_self, if_true, decide_true, Bool.and_self]

theorem interruptWrite_size {pa n : Nat} (v : W32) (hr : s.blk.tray.rails = true) (hn : n ≠ 4) :
    exec (.interruptWrite pa n v true) s = .next s ∧
    exec (.interruptWrite pa n v false) s = .next (s.withBlk (s.blk.raise unitModule .deviceWriteLost [pa])) := by
  simp only [exec_interruptWrite, execInterruptWrite, State.run_eq, hr, hn, Bool.not_true, Bool.false_eq_true, if_false, false_and, if_true,
    and_true]

theorem keeperClusterLost_loses {cl : Nat} (hc : cl < 8) (hr : s.blk.tray.rails = true) (hv : (s.blk.cluster cl).st = .running) :
    exec (.keeperClusterLost cl) s = .next (s.withBlk (s.blk.loseCluster cl)) := by
  simp only [exec_keeperClusterLost, execKeeperClusterLost, State.run_eq, Nat.not_le.2 hc, hr, hv, Bool.not_true, Bool.false_eq_true,
    ne_eq, not_true_eq_false, or_self, if_false]

theorem keeperClusterLost_stays {cl : Nat} (h : (s.blk.cluster cl).st ≠ .running) : exec (.keeperClusterLost cl) s = .next s := by
  rw [exec_keeperClusterLost, execKeeperClusterLost, State.run_eq, if_pos (.inr (.inr h))]

end Platform

/-- Settles O39: each command by the cases of its own lemma; the loss of a cluster from what the sweep of its lines does not touch. -/
theorem keeperPlatform : Obligations.KeeperPlatform := by
  unfold Obligations.KeeperPlatform
  exact fun s => ⟨fun cl v => perfWrite_asks v, fun cl v => perfWrite_stays v, fun cl => pllRelockDone_running,
    fun cl => pllRelockDone_restarts, fun cl => pllRelockDone_stays,
    fun m len h hm hh => ⟨mailboxSend_takes hm hh, mailboxSend_traps hm hh⟩, fun m => windowsDone, fun m => windowsDone_stay,
    fun hr pa v => ⟨interruptWrite_pends hr, fun n => interruptWrite_size v hr⟩,
    fun cl hc hr hv => .of_exec (keeperClusterLost_loses hc hr hv) (loseCluster_leaves s.blk cl), fun cl => keeperClusterLost_stays⟩

end Sys2Proof

/-! PROOFS. A lantern die that starts afresh (R66, R251, R435): its state, its beams but for their bypass masks and hosts, its sets and its
chart; a tile's reset (R409) leaves the silent-fault state and the commands. -/

namespace Sys2Proof

open Sys2Proof.Machine

/-- A lantern whose die has started afresh. -/
def reborn (x : Lantern) : Lantern :=
  { x with
    lens := [], lensPoison := [], stores := [], claimers := [], op := 0, opPending := none, relightWaits := false,
    promoteTo := none, loss := .alive, lossDetail := 0 }

/-- A beam of a die that has started afresh. -/
def rebornBeam (y : Beam) : Beam :=
  { y with queue := [], run := none, halves := [], loaded := none, issues := 0, busyCycles := 0, stalls := [], zeroGated := 0 }

/-- A beam with the bypass mask, wanted mask and host of another (R47, R49). -/
structure SameMarks (x y : Beam) : Prop where
  mask : y.mask = x.mask
  want : y.want = x.want
  host : y.host = x.host

/-- A change of beams that leaves their marks, one beam after the other. -/
theorem foldl_updBeam_shape (b : Block) (key : Nat → Nat) {f : Beam → Beam} (hf : ∀ x, SameMarks x (f x)) (l : List Nat) :
    ∃ bs, l.foldl (fun (c : Block) i => c.updBeam (key i) f) b = { b with beams := bs } ∧
      ∀ j, SameMarks (b.beam j) (tget {} bs j) := by
  refine List.foldlRecOn (motive := fun c : Block => ∃ bs, c = { b with beams := bs } ∧ ∀ j, SameMarks (b.beam j) (tget {} bs j)) l _
    ⟨b.beams, rfl, fun _ => ⟨rfl, rfl, rfl⟩⟩ ?_
  rintro _ ⟨bs, rfl, hbs⟩ i -
  refine ⟨tput bs (key i) (f (tget {} bs (key i))), rfl, fun j => ?_⟩
  by_cases hj : j = key i
  · subst hj
    rw [tget_tput_same]
    obtain ⟨hm, hw, hh⟩ := hbs (key i)
    obtain ⟨fm, fw, fh⟩ := hf (tget {} bs (key i))
    exact ⟨fm.trans hm, fw.trans hw, fh.trans hh⟩
  · rw [tget_tput_ne _ _ _ _ _ hj]
    exact hbs j

theorem foldl_setAccSet_shape (b : Block) (key : Nat → Nat) (v : AccSet) (l : List Nat) :
    ∃ ss, l.foldl (fun (c : Block) i => c.setAccSet (key i) v) b = { b with sets := ss } :=
  List.foldlRecOn (motive := fun c : Block => ∃ ss, c = { b with sets := ss }) l _ ⟨_, rfl⟩
    (by rintro _ ⟨ss, rfl⟩ i -; exact ⟨_, rfl⟩)

theorem foldl_restartLocal_shape (b : Block) (us : List Nat) :
    ∃ ev, us.foldl (fun (c : Block) u => c.restartLocal u) b = { b with events := ev } :=
  List.foldlRecOn (motive := fun c : Block => ∃ ev, c = { b with events := ev }) us _ ⟨_, rfl⟩
    (by rintro _ ⟨ev, rfl⟩ u -; exact ⟨_, rfl⟩)

theorem freshDie_shape (b : Block) (l : Nat) : ∃ bs ss cs ev er, b.freshDie l =
      { b with lanterns := tput b.lanterns l (reborn (b.lantern l)), beams := bs, sets := ss, charts := cs, events := ev, errors := er } ∧
    ∀ j, SameMarks (b.beam j) (tget {} bs j) := by
  unfold Block.freshDie
  extract_lets b1 b2 b3 b4
  have h1 : b1 = { b with lanterns := tput b.lanterns l (reborn (b.lantern l)) } := rfl
  clear_value b1
  obtain ⟨bs, h2, hbs⟩ : ∃ bs, b2 = { b1 with beams := bs } ∧ ∀ j, SameMarks (b1.beam j) (tget {} bs j) :=
    foldl_updBeam_shape b1 (beamNo l) (f := rebornBeam) (fun _ => ⟨rfl, rfl, rfl⟩) (List.range 16)
  clear_value b2
  obtain ⟨ss, h3⟩ : ∃ ss, b3 = { b2 with sets := ss } := foldl_setAccSet_shape b2 (fun i => l * 32 + i) {} (List.range 32)
  clear_value b3
  obtain ⟨cs, h4⟩ : ∃ cs, b4 = { b3 with charts := cs } := ⟨_, rfl⟩
  clear_value b4
  obtain ⟨ev, h5⟩ := foldl_restartLocal_shape { b4 with errors := { b4.errors with banks := tdel b4.errors.banks (unitLantern l) } }
    (lanternUnits l)
  subst h4 h3 h2 h1
  exact ⟨bs, ss, cs, ev, _, h5, hbs⟩

theorem freshDie_lantern (b : Block) (l : Nat) : (b.freshDie l).lantern l = reborn (b.lantern l) := by
  obtain ⟨_, _, _, _, _, h, -⟩ := freshDie_shape b l
  rw [h]
  exact tget_tput_same _ _ _ _

theorem freshDie_lantern_ne (b : Block) {l j : Nat} (hj : j ≠ l) : (b.freshDie l).lantern j = b.lantern j := by
  obtain ⟨_, _, _, _, _, h, -⟩ := freshDie_shape b l
  rw [h]
  exact tget_tput_ne ({} : Lantern) b.lanterns _ _ _ hj

theorem freshDie_beam (b : Block) (l j : Nat) : SameMarks (b.beam j) ((b.freshDie l).beam j) := by
  obtain ⟨_, _, _, _, _, h, hbs⟩ := freshDie_shape b l
  rw [h]
  exact hbs j

/-- What a fresh die leaves: memory, programs, the store, the silent-fault state and the commands. -/
theorem freshDie_keeps (b : Block) (l : Nat) : (b.freshDie l).mem = b.mem ∧ (b.freshDie l).hws = b.hws ∧ (b.freshDie l).store = b.store ∧
    (b.freshDie l).silent = b.silent ∧ (b.freshDie l).cmds = b.cmds := by
  obtain ⟨_, _, _, _, _, h, -⟩ := freshDie_shape b l
  rw [h]
  exact ⟨rfl, rfl, rfl, rfl, rfl⟩

/-! ### The reset of a tile (R409) -/

/-- A block with the silent-fault state and the commands of another. -/
structure SameScan (b c : Block) : Prop where
  silent : c.silent = b.silent
  cmds : c.cmds = b.cmds

namespace SameScan

variable {b c d : Block}

theorem refl (b : Block) : SameScan b b := ⟨rfl, rfl⟩

theorem trans (h : SameScan b c) (k : SameScan c d) : SameScan b d := ⟨k.silent.trans h.silent, k.cmds.trans h.cmds⟩

theorem foldl {α : Type} {f : Block → α → Block} (hf : ∀ a x, SameScan b a → SameScan b (f a x)) {l : List α} (hc : SameScan b c) :
    SameScan b (l.foldl f c) :=
  List.foldlRecOn (motive := SameScan b) _ _ hc (fun a ha x _ => hf a x ha)

theorem of_stays (h : Stays (beyond b) c) : SameScan b c := ⟨congrArg Beyond.silent h, congrArg Beyond.cmds h⟩

theorem flushDie (h : SameScan b c) (a : Nat) : SameScan b (c.flushDie a) := h.trans (.of_stays (Stays.refl c).flushDie)

theorem freshDie (h : SameScan b c) (l : Nat) : SameScan b (c.freshDie l) := by
  obtain ⟨-, -, -, hsilent, hcmds⟩ := freshDie_keeps c l
  exact h.trans ⟨hsilent, hcmds⟩

theorem initDomain (h : SameScan b c) (d : Nat) : SameScan b (c.initDomain d) := by
  have hdrop : Stays (beyond c) ((c.lines.filter (fun (e : Nat × LineSt) => e.1 / 2 ^ 34 == d)).foldl
      (fun (x : Block) (e : Nat × LineSt) => e.2.copies.foldl (fun (a : Block) (y : Nat × Copy) => a.dropCopy y.1 e.1) x) c) :=
    .foldl (fun _ hx _ => .foldl (fun _ ha _ => ha.dropCopy) hx) (.refl c)
  obtain ⟨hsilent, hcmds⟩ := of_stays hdrop
  unfold Block.initDomain
  exact h.trans ⟨hsilent, hcmds⟩

theorem updChannel (h : SameScan b c) (k : Nat) (f : Channel → Channel) : SameScan b (c.updChannel k f) := h.trans ⟨rfl, rfl⟩

/-- A unit's error bank is emptied and its LOCAL starts again. -/
theorem restartUnit (h : SameScan b c) (u : Nat) :
    SameScan b (({ c with errors := { c.errors with banks := tdel c.errors.banks u } }).restartLocal u) := h.trans ⟨rfl, rfl⟩

theorem resetTile (h : SameScan b c) (t : Nat) : SameScan b (c.resetTile t) := by
  unfold Block.resetTile
  extract_lets d b1 b2 b3 b4
  have h1 : SameScan b b1 := by
    unfold b1
    exact .foldl (fun _ i hx => (hx.flushDie (d * 8 + i)).freshDie (d * 8 + i)) h
  clear_value b1
  have h2 : SameScan b b2 := h1.initDomain d
  clear_value b2
  have h3 : SameScan b b3 := by
    unfold b3
    exact .foldl (fun _ ch hx => hx.updChannel ch _) h2
  clear_value b3
  have h4 : SameScan b b4 := h3.trans ⟨rfl, rfl⟩
  clear_value b4
  exact .foldl (fun _ u hx => hx.restartUnit u) h4

end SameScan

end Sys2Proof

/-! PROOFS. The off-watch rotation (R414, R415) and the scans of engines, clusters and tiles (R409, R416, R417, R424). -/

namespace Sys2Proof

open Sys2Proof.Machine

theorem exec_offwatchSlot (s : State) : exec .offwatchSlot s = execOffwatchSlot s := rfl
theorem exec_offwatchDrainLimit (s : State) : exec .offwatchDrainLimit s = execOffwatchDrainLimit s := rfl
theorem exec_offwatchSwap (v : Bool) (s : State) : exec (.offwatchSwap v) s = execOffwatchSwap v s := rfl
theorem exec_offwatchScanDone (pass : Bool) (slow : Nat) (s : State) :
    exec (.offwatchScanDone pass slow) s = execOffwatchScanDone pass slow s := rfl
theorem exec_sinkerScan (k g : Nat) (pass : Bool) (s : State) : exec (.sinkerScan k g pass) s = execSinkerScan k g pass s := rfl
theorem exec_keeperScan (role : Role) (k : Nat) (pass : Bool) (s : State) :
    exec (.keeperScan role k pass) s = execKeeperScan role k pass s := rfl
theorem exec_tileScan (role : Role) (k : Nat) (pass : Bool) (s : State) :
    exec (.tileScan role k pass) s = execTileScan role k pass s := rfl
theorem exec_keeperScanDue (k : Nat) (s : State) : exec (.keeperScanDue k) s = execKeeperScanDue k s := rfl
theorem exec_tileScanDue (k : Nat) (s : State) : exec (.tileScanDue k) s = execTileScanDue k s := rfl

/-! ### The rotation (R414, R415) -/

/-- A slot that leaves its lantern where it is counts it, and nothing else of the rotation changes. -/
theorem watchSkip_shape (b : Block) (l : Nat) : ∃ ev,
    b.watchSkip l = { b with silent := { b.silent with skipped := tinc b.silent.skipped l 1 }, events := ev } :=
  Block.raise_shape ..

theorem watchPick_onWatch {b : Block} {l : Nat} (h : b.watchPick = some l) : b.onWatch l = true := by
  rcases Option.or_eq_some_iff.1 h with h | ⟨-, h⟩ <;> exact List.find?_some h

theorem watchPick_serves {b : Block} {l : Nat} (h : b.watchPick = some l) : (b.lantern l).loss = .alive ∧ b.outOfService l = false := by
  simpa [Block.onWatch] using watchPick_onWatch h

/-- A lantern of a tile waits for its quiescent point, to be relit or promoted. -/
def tileWaits (b : Block) (t : Nat) : Bool :=
  (List.range 64).any (fun m => lampTile m == t && ((b.lantern m).relightWaits || (b.lantern m).promoteTo.isSome))

theorem tileWaits_iff {b : Block} {t : Nat} : tileWaits b t = true ↔
    ∃ m < 64, lampTile m = t ∧ ((b.lantern m).relightWaits = true ∨ (b.lantern m).promoteTo ≠ none) := by
  simp [tileWaits, Option.isSome_iff_ne_none]

/-- The rotation once a lantern's slot has fallen due. -/
def slotTaken (b : Block) (l : Nat) : Block :=
  b.updSilent (fun x => { x with
    head := x.head.filter (· != l), next := if b.silent.head.contains l then x.next else (l + 1) % 64 })

/-- The step of a slot that names a lantern. -/
def slotStep (b : Block) (l : Nat) : Block :=
  match b.spareSite (lampTile l) with
  | some sp => if tileWaits b (lampTile l) then (slotTaken b l).watchSkip l
      else (slotTaken b l).updSilent (fun x => { x with watch := .drain l sp })
  | none => (slotTaken b l).watchSkip l

section Rotation

variable {s : State}

/-- A slot may name a lantern. -/
def MayWatch (b : Block) : Prop :=
  b.silent.svc = .inService ∧ b.start.level = .lit ∧ b.cfg 0x61000010 24 ≠ 0 ∧ b.silent.watch = .idle ∧ b.tray.sf0Failed = false

theorem offwatchSlot_stays (h : ¬ MayWatch s.blk) : exec .offwatchSlot s = .next s := by
  simp only [exec_offwatchSlot, execOffwatchSlot, State.run_eq]
  rw [if_pos ?_]
  by_contra hn
  simp only [not_or, ne_eq, not_not, Bool.not_eq_true] at hn
  exact h hn

theorem offwatchSlot_none (h : MayWatch s.blk) (hp : s.blk.watchPick = none) : exec .offwatchSlot s = .next s := by
  obtain ⟨hsvc, hlit, hcfg, hidle, hsf⟩ := h
  simp only [exec_offwatchSlot, execOffwatchSlot, State.run_eq, hsvc, hlit, hcfg, hidle, hsf, hp, ne_eq, not_true_eq_false,
    Bool.false_eq_true, or_self, if_false]

theorem offwatchSlot_names (h : MayWatch s.blk) {l : Nat} (hp : s.blk.watchPick = some l) :
    exec .offwatchSlot s = .next (s.withBlk (slotStep s.blk l)) := by
  obtain ⟨hsvc, hlit, hcfg, hidle, hsf⟩ := h
  simp only [exec_offwatchSlot, execOffwatchSlot, State.run_eq, hsvc, hlit, hcfg, hidle, hsf, hp, ne_eq, not_true_eq_false,
    Bool.false_eq_true, or_self, if_false]
  rfl

/-- A slot that passes its lantern over. -/
theorem slotTaken_skip {b : Block} (hi : b.silent.watch = .idle) (l : Nat) :
    ((slotTaken b l).watchSkip l).silent.watch = .idle ∧ ((slotTaken b l).watchSkip l).silent.skipped = tinc b.silent.skipped l 1 ∧
    ((slotTaken b l).watchSkip l).lanterns = b.lanterns ∧ ((slotTaken b l).watchSkip l).mem = b.mem ∧
    ((slotTaken b l).watchSkip l).hws = b.hws := by
  obtain ⟨ev, h⟩ := watchSkip_shape (slotTaken b l) l
  rw [h]
  exact ⟨hi, rfl, rfl, rfl, rfl⟩

theorem offwatchSlot_noSpare (h : MayWatch s.blk) {l : Nat} (hp : s.blk.watchPick = some l)
    (hs : s.blk.spareSite (lampTile l) = none) : Completes .offwatchSlot s (fun t =>
      t.blk.silent.watch = .idle ∧ t.blk.silent.skipped = tinc s.blk.silent.skipped l 1 ∧ t.blk.lanterns = s.blk.lanterns ∧
      t.blk.mem = s.blk.mem ∧ t.blk.hws = s.blk.hws) := by
  have hstep : slotStep s.blk l = (slotTaken s.blk l).watchSkip l := by rw [slotStep, hs]
  refine .of_exec (offwatchSlot_names h hp) ?_
  rw [hstep]
  exact slotTaken_skip h.2.2.2.1 l

theorem offwatchSlot_waits (h : MayWatch s.blk) {l m sp : Nat} (hp : s.blk.watchPick = some l)
    (hs : s.blk.spareSite (lampTile l) = some sp) (hm : m < 64) (ht : lampTile m = lampTile l)
    (hw : (s.blk.lantern m).relightWaits = true ∨ (s.blk.lantern m).promoteTo ≠ none) : Completes .offwatchSlot s (fun t =>
      t.blk.silent.watch = .idle ∧ t.blk.silent.skipped = tinc s.blk.silent.skipped l 1 ∧ t.blk.lanterns = s.blk.lanterns ∧
      t.blk.mem = s.blk.mem) := by
  have hstep : slotStep s.blk l = (slotTaken s.blk l).watchSkip l := by
    rw [slotStep, hs]
    exact if_pos (tileWaits_iff.2 ⟨m, hm, ht, hw⟩)
  obtain ⟨hwatch, hskipped, hlan, hmem, -⟩ := slotTaken_skip h.2.2.2.1 l
  rw [← hstep] at hwatch hskipped hlan hmem
  exact .of_exec (offwatchSlot_names h hp) ⟨hwatch, hskipped, hlan, hmem⟩

theorem offwatchSlot_drains (h : MayWatch s.blk) {l sp : Nat} (hp : s.blk.watchPick = some l)
    (hs : s.blk.spareSite (lampTile l) = some sp)
    (hw : ∀ m, m < 64 → lampTile m = lampTile l → (s.blk.lantern m).relightWaits = false ∧ (s.blk.lantern m).promoteTo = none) :
    Completes .offwatchSlot s (fun t => t.blk.silent.watch = .drain l sp ∧ t.blk.silent.skipped = s.blk.silent.skipped ∧
      t.blk.lanterns = s.blk.lanterns ∧ t.blk.mem = s.blk.mem ∧ t.blk.hws = s.blk.hws ∧ t.blk.events = s.blk.events) := by
  have hstep : slotStep s.blk l = (slotTaken s.blk l).updSilent (fun x => { x with watch := .drain l sp }) := by
    rw [slotStep, hs]
    refine if_neg fun hn => ?_
    obtain ⟨m, hm, ht, hor⟩ := tileWaits_iff.1 hn
    obtain ⟨hrelight, hpromote⟩ := hw m hm ht
    exact hor.elim (fun hr => absurd hrelight (by simp [hr])) (fun hr => hr hpromote)
  refine .of_exec (offwatchSlot_names h hp) ?_
  rw [hstep]
  exact ⟨rfl, rfl, rfl, rfl, rfl, rfl⟩

theorem offwatchDrainLimit_abandons {l sp : Nat} (h : s.blk.silent.watch = .drain l sp) :
    Completes .offwatchDrainLimit s (fun t => t.blk.silent.watch = .idle ∧ t.blk.silent.head.head? = some l ∧
      t.blk.silent.skipped = tinc s.blk.silent.skipped l 1 ∧ t.blk.lanterns = s.blk.lanterns ∧ t.blk.mem = s.blk.mem ∧
      t.blk.hws = s.blk.hws) := by
  simp only [Completes, exec_offwatchDrainLimit, execOffwatchDrainLimit, State.run_eq, h]
  obtain ⟨ev, hskip⟩ := watchSkip_shape (s.blk.updSilent (fun x => { x with watch := .idle, head := l :: x.head.filter (· != l) })) l
  rw [hskip]
  exact ⟨_, rfl, rfl, rfl, rfl, rfl, rfl, rfl⟩

theorem offwatchSwap_busy {l sp : Nat} (h : s.blk.silent.watch = .drain l sp) (hq : s.blk.quiet l = false) (v : Bool) :
    exec (.offwatchSwap v) s = .next s := by
  simp only [exec_offwatchSwap, execOffwatchSwap, State.run_eq, h, hq, Bool.not_false, if_true]

theorem offwatchSwap_skips {l sp : Nat} (h : s.blk.silent.watch = .drain l sp) (hq : s.blk.quiet l = true)
    (hn : s.blk.onWatch l = false ∨ s.blk.spareSite (lampTile l) ≠ some sp) (v : Bool) : Completes (.offwatchSwap v) s (fun t =>
      t.blk.silent.watch = .idle ∧ t.blk.silent.skipped = tinc s.blk.silent.skipped l 1 ∧ t.blk.lanterns = s.blk.lanterns) := by
  have hbad : s.blk.spareSite (lampTile l) ≠ some sp ∨ (!s.blk.onWatch l) = true := hn.symm.imp_right (by simp [·])
  simp only [Completes, exec_offwatchSwap, execOffwatchSwap, State.run_eq, h, hq, Bool.not_true, Bool.false_eq_true, if_false, if_pos hbad]
  obtain ⟨ev, hskip⟩ := watchSkip_shape (s.blk.updSilent (fun x => { x with watch := .idle })) l
  rw [hskip]
  exact ⟨_, rfl, rfl, rfl, rfl⟩

theorem offwatchSwap_swaps {l sp : Nat} (h : s.blk.silent.watch = .drain l sp) (hq : s.blk.quiet l = true)
    (hw : s.blk.onWatch l = true) (hs : s.blk.spareSite (lampTile l) = some sp) (v : Bool) :
    exec (.offwatchSwap v) s = .next (s.withBlk
      (s.blk.swapTo l (fun c => (((c.reseat l (lampTile l * 16 + sp)).updSilent (fun x => { x with
        spares := tput x.spares (lampTile l) none, watch := .scan l (s.blk.siteOf l) })).updLantern l (fun x =>
          { x with vectorsBad := !v }))))) := by
  simp only [exec_offwatchSwap, execOffwatchSwap, State.run_eq, h, hq, hw, hs, Bool.not_true, Bool.false_eq_true, if_false, ne_eq,
    not_true_eq_false, or_self]

theorem drain_stays (h : ∀ l sp, s.blk.silent.watch ≠ .drain l sp) :
    exec .offwatchDrainLimit s = .next s ∧ ∀ v, exec (.offwatchSwap v) s = .next s := by
  simp only [exec_offwatchDrainLimit, execOffwatchDrainLimit, exec_offwatchSwap, execOffwatchSwap, State.run_eq, implies_true, and_self]

/-- A pass leaves its mark; a failure, an event (R417). -/
theorem scanResult_shape (b : Block) (u key : Nat) (pass : Bool) : ∃ lp ev,
    b.scanResult u key pass = { b with silent := { b.silent with lastPass := lp }, events := ev } ∧
    if pass then lp = tput b.silent.lastPass key b.seqNow else lp = b.silent.lastPass := by
  cases pass with
  | true => exact ⟨_, b.events, rfl, rfl⟩
  | false =>
    obtain ⟨ev, hev⟩ := b.raise_shape u .scanFail [key, tget 0 b.silent.lastPass key]
    exact ⟨b.silent.lastPass, ev, hev, rfl⟩

theorem offwatchScanDone_ends {l site : Nat} (h : s.blk.silent.watch = .scan l site) (pass : Bool) (slow : Nat) :
    Completes (.offwatchScanDone pass slow) s (fun t =>
      t.blk.silent.watch = .idle ∧ t.blk.silent.completed = tinc s.blk.silent.completed l 1 ∧
      t.blk.silent.spares = tput s.blk.silent.spares (site / 16) (if pass then some (site % 16) else none) ∧
      t.blk.silent.retired = (if pass then s.blk.silent.retired else addLast s.blk.silent.retired site) ∧ t.blk.mem = s.blk.mem ∧
      t.blk.hws = s.blk.hws) := by
  simp only [Completes, exec_offwatchScanDone, execOffwatchScanDone, State.run_eq, h]
  have hplan := (Planned.refl { s.blk with power := { s.blk.power with slowdown := tput s.blk.power.slowdown site slow } }).replanSite l site
  generalize Block.replanSite _ l site = b1 at hplan ⊢
  obtain ⟨lp, ev, hscan, -⟩ := scanResult_shape (b1.updSilent (fun x => { x with
    watch := .idle, completed := tinc x.completed l 1
    spares := tput x.spares (site / 16) (if pass then some (site % 16) else none)
    retired := if pass then x.retired else addLast x.retired site })) (unitLantern l) site pass
  obtain ⟨sto, sec, hnote⟩ := noteRepair_shape (Block.scanResult (b1.updSilent (fun x => { x with
    watch := .idle, completed := tinc x.completed l 1
    spares := tput x.spares (site / 16) (if pass then some (site % 16) else none)
    retired := if pass then x.retired else addLast x.retired site })) (unitLantern l) site pass)
  rw [hnote, hscan]
  have hsilent : b1.silent = s.blk.silent := hplan.silent
  refine ⟨_, rfl, rfl, ?_, ?_, ?_, hplan.mem, hplan.hws⟩
  · simp [Block.updSilent, hsilent]
  · simp [Block.updSilent, hsilent]
  · simp [Block.updSilent, hsilent]

theorem scan_stays (h : ∀ l site, s.blk.silent.watch ≠ .scan l site) (pass : Bool) (slow : Nat) :
    exec (.offwatchScanDone pass slow) s = .next s := by
  simp only [exec_offwatchScanDone, execOffwatchScanDone, State.run_eq]

end Rotation

/-! ### Scans of engines (R416, R417) -/

section Engines

variable {s : State} {k g : Nat}

theorem sinkerScan_passes (hk : k < 16) (hg : g < 4) (hf : s.blk.tray.sf1Failed = false) (hl : (s.blk.sinker k).lost = false)
    (he : (s.blk.sinker k).engines.getLsbD g = true) (hlit : s.blk.start.level = .lit) :
    exec (.sinkerScan k g true) s = .next (s.withBlk (s.blk.updSilent (fun x => { x with
      lastPass := tput x.lastPass (0x400 + 4 * k + g) s.blk.seqNow }))) := by
  simp only [exec_sinkerScan, execSinkerScan, State.run_eq, Nat.not_le.2 hk, Nat.not_le.2 hg, hf, hl, he, hlit, Bool.not_true,
    Bool.false_eq_true, ne_eq, not_true_eq_false, or_self, if_false, if_true, Block.scanResult]

/-- An engine's bit, and no other, is cleared. -/
theorem engine_cleared (v : BitVec 4) (g : Nat) : (v &&& ~~~(BitVec.ofNat 4 (2 ^ g))).getLsbD g = false ∧
    ∀ j, j ≠ g → (v &&& ~~~(BitVec.ofNat 4 (2 ^ g))).getLsbD j = v.getLsbD j := by
  have hbit (j : Nat) : (v &&& ~~~(BitVec.ofNat 4 (2 ^ g))).getLsbD j =
      (v.getLsbD j && (decide (j < 4) && !(decide (j < 4) && decide (g = j)))) := by
    rw [BitVec.getLsbD_and, BitVec.getLsbD_not, BitVec.getLsbD_ofNat, Nat.testBit_two_pow]
  refine ⟨by rw [hbit]; simp, fun j hj => ?_⟩
  rw [hbit]
  by_cases h4 : j < 4
  · simp [h4, Ne.symm hj]
  · simp [BitVec.getLsbD_of_ge _ _ (Nat.not_lt.1 h4)]

/-- An engine that fails its scan is retired, and the repair map is written anew. -/
theorem engineRetired_shape (b : Block) (k g : Nat) (args : List Nat) : ∃ ev sto sec,
    (((b.raise (unitNo 0x30 k) .scanFail args).updSinker k (fun x => { x with engines := x.engines &&& ~~~(BitVec.ofNat 4 (2 ^ g)) })).raise
      (unitNo 0x30 k) .sinkerEngineRetired [k, g]).noteRepair =
    { b with sinkers := tput b.sinkers k { b.sinker k with engines := (b.sinker k).engines &&& ~~~(BitVec.ofNat 4 (2 ^ g)) },
             events := ev, store := sto, security := sec } ∧ sto.mapSeq = b.store.mapSeq + 1 := by
  obtain ⟨ev1, h1⟩ := b.raise_shape (unitNo 0x30 k) .scanFail args
  obtain ⟨ev2, h2⟩ := Block.raise_shape ({ b with events := ev1 }.updSinker k (fun x =>
    { x with engines := x.engines &&& ~~~(BitVec.ofNat 4 (2 ^ g)) })) (unitNo 0x30 k) .sinkerEngineRetired [k, g]
  rw [h1, h2]
  exact ⟨_, _, _, rfl, rfl⟩

theorem sinkerScan_fails (hk : k < 16) (hg : g < 4) (hf : s.blk.tray.sf1Failed = false) (hl : (s.blk.sinker k).lost = false)
    (he : (s.blk.sinker k).engines.getLsbD g = true) (hlit : s.blk.start.level = .lit) :
    Completes (.sinkerScan k g false) s (fun t => (t.blk.sinker k).engines.getLsbD g = false ∧
      (∀ j, j ≠ g → (t.blk.sinker k).engines.getLsbD j = (s.blk.sinker k).engines.getLsbD j) ∧
      (∀ j, j ≠ k → t.blk.sinker j = s.blk.sinker j) ∧ t.blk.silent.lastPass = s.blk.silent.lastPass ∧ t.blk.mem = s.blk.mem ∧
      t.blk.store.mapSeq = s.blk.store.mapSeq + 1) := by
  simp only [Completes, exec_sinkerScan, execSinkerScan, State.run_eq, Nat.not_le.2 hk, Nat.not_le.2 hg, hf, hl, he, hlit, Bool.not_true,
    Bool.false_eq_true, ne_eq, not_true_eq_false, or_self, if_false, Block.scanResult]
  obtain ⟨ev, sto, sec, hend, hseq⟩ := engineRetired_shape s.blk k g [0x400 + 4 * k + g, tget 0 s.blk.silent.lastPass (0x400 + 4 * k + g)]
  rw [hend]
  obtain ⟨hclear, hkeep⟩ := engine_cleared (s.blk.sinker k).engines g
  have hsame : (tget {} (tput s.blk.sinkers k { s.blk.sinker k with
      engines := (s.blk.sinker k).engines &&& ~~~(BitVec.ofNat 4 (2 ^ g)) }) k).engines =
      (s.blk.sinker k).engines &&& ~~~(BitVec.ofNat 4 (2 ^ g)) := congrArg Sinker.engines (tget_tput_same _ _ _ _)
  refine ⟨_, rfl, ?_, fun j hj => ?_, fun j hj => tget_tput_ne ({} : Sinker) s.blk.sinkers _ _ _ hj, rfl, rfl, hseq⟩
  · exact (congrArg (BitVec.getLsbD · g) hsame).trans hclear
  · exact (congrArg (BitVec.getLsbD · j) hsame).trans (hkeep j hj)

theorem sinkerScan_stays (pass : Bool) (h : (s.blk.sinker k).engines.getLsbD g = false) : exec (.sinkerScan k g pass) s = .next s := by
  simp only [exec_sinkerScan, execSinkerScan, State.run_eq, h, Bool.not_false, true_or, or_true, if_true]

end Engines

/-! ### Scans of clusters (R416, R417) -/

section Scans

variable {s : State} {role : Role} {k : Nat}

theorem keeperScan_outOfRange (ha : Admits s.blk role .operator 0x61) (pass : Bool) (hk : 8 ≤ k) :
    exec (.keeperScan role k pass) s = .next (s.withBlk (s.blk.refuse .outOfRange)) := by
  simp only [exec_keeperScan, execKeeperScan, State.run_eq, ha.cmd, hk, if_true]

theorem keeperScan_badState (ha : Admits s.blk role .operator 0x61) (pass : Bool) (hk : k < 8) (hs : (s.blk.cluster k).stopped = false) :
    exec (.keeperScan role k pass) s = .next (s.withBlk (s.blk.refuse .badState)) := by
  simp only [exec_keeperScan, execKeeperScan, State.run_eq, ha.cmd, Nat.not_le.2 hk, hs, Bool.not_false, true_or, or_true, if_true,
    if_false]

/-- The scan of a cluster once its harts have drained: reset, result, and no longer due. -/
def clusterScanned (b : Block) (k : Nat) (pass : Bool) : Block :=
  (((b.drainCluster k).resetCluster k).scanResult (unitCluster k) (0x200 + k) pass).updSilent (fun x => { x with
    dueClusters := x.dueClusters.filter (· != k) })

theorem clusterScanned_leaves (b : Block) (k : Nat) (pass : Bool) :
    ((clusterScanned b k pass).cluster k).st = .reset ∧ ((clusterScanned b k pass).cluster k).relocking = true ∧
    (clusterScanned b k pass).cmds = b.cmds ∧ (∀ h, h / 16 = k → (clusterScanned b k pass).hart h = {}) ∧
    (pass = true → ∃ n, (clusterScanned b k pass).silent.lastPass = tput b.silent.lastPass (0x200 + k) n) := by
  have hdrain : SameScan b (b.drainCluster k) := .of_stays (Stays.refl b).drainCluster
  generalize hd : b.drainCluster k = d at hdrain
  have hcluster := resetCluster_cluster d k
  obtain ⟨lp, ev, hscan, hlp⟩ := scanResult_shape (d.resetCluster k) (unitCluster k) (0x200 + k) pass
  have hend : clusterScanned b k pass = { d.resetCluster k with
      silent := { (d.resetCluster k).silent with lastPass := lp, dueClusters := (d.resetCluster k).silent.dueClusters.filter (· != k) },
      events := ev } := by
    rw [clusterScanned, hd, hscan]
    rfl
  rw [hend]
  refine ⟨congrArg Cluster.st hcluster, congrArg Cluster.relocking hcluster, hdrain.cmds, fun h hh => resetCluster_hart d hh,
    fun hp => ?_⟩
  subst hp
  have hsilent : (d.resetCluster k).silent = b.silent := hdrain.silent
  rw [if_pos rfl, hsilent] at hlp
  exact ⟨_, hlp⟩

theorem keeperScan_scans (ha : Admits s.blk role .operator 0x61) (pass : Bool) (hk : k < 8) (hr : (s.blk.cluster k).st = .running)
    (hs : (s.blk.cluster k).stopped = true) (hf : s.blk.tray.sf1Failed = false) : Completes (.keeperScan role k pass) s (fun t =>
      (t.blk.cluster k).st = .reset ∧ (t.blk.cluster k).relocking = pass ∧ t.blk.cmds.reply.status = .accepted ∧
      (∀ h, h / 16 = k → t.blk.hart h = {}) ∧
      (pass = true → ∃ n, t.blk.silent.lastPass = tput s.blk.silent.lastPass (0x200 + k) n)) := by
  obtain ⟨hst, hlock, hcmds, hharts, hpass⟩ := clusterScanned_leaves (s.blk.accept 0x61000021) k pass
  have hreply : (clusterScanned (s.blk.accept 0x61000021) k pass).cmds.reply.status = .accepted := by rw [hcmds]; rfl
  have hexec : exec (.keeperScan role k pass) s = .next (s.withBlk (
      if pass then (clusterScanned (s.blk.accept 0x61000021) k pass).updCluster k (fun x =>
        { x with cmd := some ((s.blk.accept 0x61000021).cmds.count, 0x61000021) })
      else ((clusterScanned (s.blk.accept 0x61000021) k pass).updCluster k (fun x => { x with relocking := false })).finishSts 0x61000021
        (s.blk.accept 0x61000021).cmds.count .badState)) := by
    simp only [exec_keeperScan, execKeeperScan, State.run_eq, ha.cmd, Nat.not_le.2 hk, hr, hs, hf, ne_eq, not_true_eq_false, Bool.not_true,
      Bool.false_eq_true, or_self, if_false]
    rfl
  refine .of_exec hexec ?_
  generalize clusterScanned (s.blk.accept 0x61000021) k pass = e at hst hlock hreply hharts hpass
  cases pass with
  | true => exact ⟨by simpa using hst, by simpa using hlock, hreply, hharts, hpass⟩
  | false =>
    refine ⟨by simpa using hst, by simp, ?_, fun h hh => ?_, fun hp => nomatch hp⟩
    · simpa using hreply
    · simpa [Block.hart] using hharts h hh

/-! ### Scans of tiles (R409, R416, R417, R424) -/

theorem tileScan_outOfRange (ha : Admits s.blk role .service 0x61) (pass : Bool) (hk : 9 ≤ k) :
    exec (.tileScan role k pass) s = .next (s.withBlk (s.blk.refuse .outOfRange)) := by
  simp only [exec_tileScan, execTileScan, State.run_eq, ha.cmd, hk, if_true]

theorem tileScan_badState (ha : Admits s.blk role .service 0x61) (pass : Bool) (hk : k < 9) (h : k = 4 ∨ s.blk.tileEmpty k = false) :
    exec (.tileScan role k pass) s = .next (s.withBlk (s.blk.refuse .badState)) := by
  have hbad : k = 4 ∨ (!s.blk.tileEmpty k) = true ∨ s.blk.tray.sf0Failed = true := h.imp_right (by simp [·])
  simp only [exec_tileScan, execTileScan, State.run_eq, ha.cmd, if_neg (Nat.not_le.2 hk), if_pos hbad]

/-- The scan of a tile once it is reset: its result, and no longer due. -/
def tileScanned (b : Block) (k : Nat) (pass : Bool) : Block :=
  ((b.resetTile k).scanResult (unitTile k) (0x300 + k) pass).updSilent (fun x => { x with dueTiles := x.dueTiles.filter (· != k) })

theorem tileScanned_leaves (b : Block) (k : Nat) (pass : Bool) :
    (tileScanned b k pass).silent.svc = b.silent.svc ∧ (tileScanned b k pass).cmds = b.cmds ∧
    if pass then ∃ n, (tileScanned b k pass).silent.lastPass = tput b.silent.lastPass (0x300 + k) n
    else (tileScanned b k pass).silent.lastPass = b.silent.lastPass := by
  have hreset : SameScan b (b.resetTile k) := (SameScan.refl b).resetTile k
  generalize hd : b.resetTile k = d at hreset
  obtain ⟨lp, ev, hscan, hlp⟩ := scanResult_shape d (unitTile k) (0x300 + k) pass
  have hend : tileScanned b k pass =
      { d with silent := { d.silent with lastPass := lp, dueTiles := d.silent.dueTiles.filter (· != k) }, events := ev } := by
    rw [tileScanned, hd, hscan]
    rfl
  rw [hend]
  have hsvc : d.silent.svc = b.silent.svc := congrArg Silent.svc hreset.silent
  refine ⟨hsvc, hreset.cmds, ?_⟩
  rw [hreset.silent] at hlp
  cases pass with
  | true => exact ⟨_, hlp⟩
  | false => exact hlp

theorem tileScan_runs (ha : Admits s.blk role .service 0x61) (pass : Bool) (hk : k < 9) (h4 : k ≠ 4) (he : s.blk.tileEmpty k = true)
    (hf : s.blk.tray.sf0Failed = false) : exec (.tileScan role k pass) s = .next (s.withBlk (
      if pass then (tileScanned (s.blk.accept 0x61000023) k pass).finishSts 0x61000023 (s.blk.accept 0x61000023).cmds.count .ok
      else ((tileScanned (s.blk.accept 0x61000023) k pass).suspect .scanFail [k]).finishSts 0x61000023
        (s.blk.accept 0x61000023).cmds.count .badState)) := by
  simp only [exec_tileScan, execTileScan, State.run_eq, ha.cmd, Nat.not_le.2 hk, h4, he, hf, Bool.not_true, Bool.false_eq_true, or_self,
    if_false]
  rfl

theorem tileScan_passes (ha : Admits s.blk role .service 0x61) (hk : k < 9) (h4 : k ≠ 4) (he : s.blk.tileEmpty k = true)
    (hf : s.blk.tray.sf0Failed = false) : Completes (.tileScan role k true) s (fun t =>
      (∃ n, t.blk.silent.lastPass = tput s.blk.silent.lastPass (0x300 + k) n) ∧ t.blk.silent.svc = s.blk.silent.svc ∧
      t.blk.cmds.reply.status = .accepted) := by
  obtain ⟨hsvc, hcmds, hpass⟩ := tileScanned_leaves (s.blk.accept 0x61000023) k true
  refine .of_exec (tileScan_runs ha true hk h4 he hf) ?_
  generalize tileScanned (s.blk.accept 0x61000023) k true = e at hsvc hcmds hpass
  have hreply : e.cmds.reply.status = .accepted := by rw [hcmds]; rfl
  exact ⟨by simpa using hpass, by simpa using hsvc, by simpa using hreply⟩

theorem suspect_lastPass (b : Block) (c : Ev) (as : List Nat) : (b.suspect c as).silent.lastPass = b.silent.lastPass := by
  simp only [Block.suspect]
  split <;> simp

theorem tileScan_fails (ha : Admits s.blk role .service 0x61) (hk : k < 9) (h4 : k ≠ 4) (he : s.blk.tileEmpty k = true)
    (hf : s.blk.tray.sf0Failed = false) (hs : s.blk.silent.svc = .inService) : Completes (.tileScan role k false) s (fun t =>
      t.blk.silent.lastPass = s.blk.silent.lastPass ∧ t.blk.silent.svc = .draining ∧ t.blk.silent.fault = true ∧
      t.blk.alert 13 = true) := by
  obtain ⟨hsvc, hcmds, hpass⟩ := tileScanned_leaves (s.blk.accept 0x61000023) k false
  refine .of_exec (tileScan_runs ha false hk h4 he hf) ?_
  generalize tileScanned (s.blk.accept 0x61000023) k false = e at hsvc hcmds hpass
  obtain ⟨hdrain, hfault, halert, -, -, -, -⟩ := suspect_inService (hsvc.trans hs) .scanFail [k]
  have hlast := (suspect_lastPass e .scanFail [k]).trans hpass
  generalize e.suspect .scanFail [k] = f at hdrain hfault halert hlast
  exact ⟨by simpa using hlast, by simpa using hdrain, by simpa using hfault, by simpa [Block.alert] using halert⟩

/-! ### Scans that fall due (R416) -/

theorem keeperScanDue_raises (hl : s.blk.start.level = .lit) (hk : k < 8) (hn : k ∉ s.blk.silent.dueClusters) :
    exec (.keeperScanDue k) s = .next (s.withBlk
      ((s.blk.updSilent (fun x => { x with dueClusters := addLast x.dueClusters k })).raise (unitCluster k) .keeperScanDue [k])) := by
  simp only [exec_keeperScanDue, execKeeperScanDue, State.run_eq, Nat.not_le.2 hk, List.contains_iff_mem, hn, hl, ne_eq,
    not_true_eq_false, or_self, if_false]

theorem keeperScanDue_stays (h : 8 ≤ k ∨ k ∈ s.blk.silent.dueClusters) : exec (.keeperScanDue k) s = .next s := by
  simp only [exec_keeperScanDue, execKeeperScanDue, State.run_eq, List.contains_iff_mem]
  rw [if_pos (h.imp_right .inl)]

theorem tileScanDue_raises (hl : s.blk.start.level = .lit) (hk : k < 9) (h4 : k ≠ 4) (hn : k ∉ s.blk.silent.dueTiles) :
    exec (.tileScanDue k) s = .next (s.withBlk
      ((s.blk.updSilent (fun x => { x with dueTiles := addLast x.dueTiles k })).raise (unitTile k) .tileScanDue [k])) := by
  simp only [exec_tileScanDue, execTileScanDue, State.run_eq, Nat.not_le.2 hk, h4, List.contains_iff_mem, hn, hl, ne_eq,
    not_true_eq_false, or_self, if_false]

theorem tileScanDue_stays (h : 9 ≤ k ∨ k = 4 ∨ k ∈ s.blk.silent.dueTiles) : exec (.tileScanDue k) s = .next s := by
  simp only [exec_tileScanDue, execTileScanDue, State.run_eq, List.contains_iff_mem]
  rw [if_pos (h.imp_right (.imp_right .inl))]

end Scans

/-- Settles O51: the rotation by its state and the choice of its slot, each scan by its result. -/
theorem offWatchAndScans : Obligations.OffWatchAndScans := by
  unfold Obligations.OffWatchAndScans
  refine ⟨fun s => ⟨offwatchSlot_stays, fun h l => offwatchSlot_noSpare h, fun h l sp => offwatchSlot_drains h,
    fun h l m sp => offwatchSlot_waits h, offwatchSlot_none, fun l => watchPick_serves,
    fun l sp h => ⟨offwatchDrainLimit_abandons h, offwatchSwap_busy h, offwatchSwap_skips h, offwatchSwap_swaps h⟩, drain_stays,
    fun l site pass slow h => offwatchScanDone_ends h pass slow, scan_stays⟩,
    fun s role => ⟨fun k g hk hg hf hl he hlit => ⟨sinkerScan_passes hk hg hf hl he hlit, sinkerScan_fails hk hg hf hl he hlit⟩,
      fun k g => sinkerScan_stays,
      fun ha => ⟨fun k => keeperScan_outOfRange ha, fun k => keeperScan_badState ha, fun k => keeperScan_scans ha⟩,
      fun ha => ⟨fun k => tileScan_outOfRange ha, fun k => tileScan_badState ha, fun k => tileScan_passes ha,
        fun k => tileScan_fails ha⟩,
      fun k => keeperScanDue_raises, fun k => keeperScanDue_stays, fun k => tileScanDue_raises, fun k => tileScanDue_stays⟩⟩

end Sys2Proof

/-! PROOFS. Promotion, relight and bypass of a lantern (R406, R408, R435, R436, R437). -/

namespace Sys2Proof

open Sys2Proof.Machine

theorem exec_promote (role : Role) (l : Nat) (s : State) : exec (.promote role l) s = execPromote role l s := rfl
theorem exec_relight (role : Role) (l : Nat) (ok : Bool) (s : State) : exec (.relight role l ok) s = execRelight role l ok s := rfl
theorem exec_bypass (role : Role) (l m : Nat) (v : BitVec 512) (s : State) : exec (.bypass role l m v) s = execBypass role l m v s := rfl
theorem exec_bypassApplied (l : Nat) (s : State) : exec (.bypassApplied l) s = execBypassApplied l s := rfl

/-! ### What a retired beam leaves (R49, R50) -/

/-- A block with the lanterns, memory and store of another, and with its beams but for new hosts. -/
structure Rehosted (b c : Block) : Prop where
  lanterns : c.lanterns = b.lanterns
  store : c.store = b.store
  mem : c.mem = b.mem
  mask : ∀ j, (c.beam j).mask = (b.beam j).mask
  want : ∀ j, (c.beam j).want = (b.beam j).want
  host : ∀ j, (b.beam j).host ≠ none → (c.beam j).host ≠ none

namespace Rehosted

variable {b c d : Block}

theorem refl (b : Block) : Rehosted b b := ⟨rfl, rfl, rfl, fun _ => rfl, fun _ => rfl, fun _ h => h⟩

theorem trans (h : Rehosted b c) (k : Rehosted c d) : Rehosted b d where
  lanterns := k.lanterns.trans h.lanterns
  store := k.store.trans h.store
  mem := k.mem.trans h.mem
  mask j := (k.mask j).trans (h.mask j)
  want j := (k.want j).trans (h.want j)
  host j hj := k.host j (h.host j hj)

theorem ite {p : Prop} [Decidable p] (hc : Rehosted b c) (hd : Rehosted b d) : Rehosted b (if p then c else d) := by
  split
  · exact hc
  · exact hd

theorem foldl {α : Type} {f : Block → α → Block} (hf : ∀ a x, Rehosted b a → Rehosted b (f a x)) {l : List α} (hc : Rehosted b c) :
    Rehosted b (l.foldl f c) :=
  List.foldlRecOn (motive := Rehosted b) _ _ hc (fun a ha x _ => hf a x ha)

theorem raise (h : Rehosted b c) (u : Nat) (e : Ev) (args : List Nat) : Rehosted b (c.raise u e args) := by
  obtain ⟨ev, hev⟩ := c.raise_shape u e args
  rw [hev]
  exact h.trans ⟨rfl, rfl, rfl, fun _ => rfl, fun _ => rfl, fun _ h => h⟩

theorem dropFrom (h : Rehosted b c) (g : Nat) (f : Group → Group) : Rehosted b ((c.unbind g).updGroup g f) :=
  h.trans ⟨rfl, rfl, rfl, fun _ => rfl, fun _ => rfl, fun _ h => h⟩

theorem dropMember (h : Rehosted b c) (l : Nat) : Rehosted b (c.dropMember l) := by
  unfold Block.dropMember
  exact foldl (fun _ g ha => ite ((ha.dropFrom g _).raise ..) ha) h

/-- A beam gets a host. -/
theorem hosted (h : Rehosted b c) (k p : Nat) : Rehosted b (c.updBeam k (fun x => { x with host := some p, loaded := none })) := by
  have hbeam (j : Nat) : (c.updBeam k (fun x => { x with host := some p, loaded := none })).beam j =
      if j = k then { c.beam k with host := some p, loaded := none } else c.beam j := by
    split
    next hj => rw [hj]; exact tget_tput_same _ _ _ _
    next hj => exact tget_tput_ne ({} : Beam) c.beams _ _ _ hj
  refine h.trans ⟨rfl, rfl, rfl, fun j => ?_, fun j => ?_, fun j hj => ?_⟩ <;> rw [hbeam]
  · split
    next hj => rw [hj]
    next => rfl
  · split
    next hj => rw [hj]
    next => rfl
  · split
    next => exact nofun
    next => exact hj

end Rehosted

/-- A beam that is retired has a host, and every beam keeps its masks. -/
theorem retireBeam_leaves (b : Block) (l p : Nat) :
    Rehosted b (b.retireBeam l p) ∧ ((b.retireBeam l p).beam (beamNo l p)).host ≠ none := by
  unfold Block.retireBeam
  split
  next h => exact ⟨.refl b, Option.isSome_iff_ne_none.1 h⟩
  next h =>
    extract_lets b1 hosted b2
    have h1 : Rehosted b b1 := (Rehosted.refl b).hosted ..
    have hhost : (b1.beam (beamNo l p)).host ≠ none := by
      have hb : b1.beam (beamNo l p) = _ := tget_tput_same _ _ _ _
      rw [hb]
      exact nofun
    clear_value b1
    have h2 : Rehosted b1 b2 := by
      unfold b2
      exact .foldl (fun c m hc => hc.hosted (beamNo l m) (c.hostFor l m)) (.refl b1)
    clear_value b2
    have h3 : Rehosted b1 (if b2.retiredBeams l = 2 then b2.raise (unitLantern l) .spareCandidate [l]
        else if b2.retiredBeams l = 3 ∧ (!(b.lantern l).out) = true then b2.dropMember l else b2) :=
      .ite (h2.raise ..) (.ite (h2.dropMember l) h2)
    exact ⟨h1.trans h3, h3.host _ hhost⟩

/-- A mask comes into force: the beam has it and wants no other, and one below 448 lanes has a host (R437). -/
theorem applyMask_leaves (b : Block) (l m : Nat) (v : Line) :
    ((b.applyMask l m v).beam (beamNo l m)).mask = v ∧ ((b.applyMask l m v).beam (beamNo l m)).want = none ∧
    (512 - popBelow v 512 < 448 → ((b.applyMask l m v).beam (beamNo l m)).host ≠ none) ∧
    (b.applyMask l m v).lanterns = b.lanterns ∧ (b.applyMask l m v).store = b.store := by
  unfold Block.applyMask
  extract_lets x below c d e
  have hc : c.beam (beamNo l m) = { b.beam (beamNo l m) with mask := v, want := none, wantCmd := none } := tget_tput_same _ _ _ _
  have hcl : c.lanterns = b.lanterns ∧ c.store = b.store := ⟨rfl, rfl⟩
  clear_value c
  have hd : (d.beam (beamNo l m)).mask = v ∧ (d.beam (beamNo l m)).want = none ∧
      (512 - popBelow v 512 < 448 → (d.beam (beamNo l m)).host ≠ none) ∧ d.lanterns = c.lanterns ∧ d.store = c.store := by
    unfold d
    by_cases hv : 512 - popBelow v 512 < 448
    · obtain ⟨hre, hhost⟩ := retireBeam_leaves c l m
      rw [if_pos (decide_eq_true hv)]
      exact ⟨(hre.mask _).trans (by rw [hc]), (hre.want _).trans (by rw [hc]), fun _ => hhost, hre.lanterns, hre.store⟩
    · rw [if_neg (fun h => hv (of_decide_eq_true h))]
      split
      · have hu : (c.updBeam (beamNo l m) (fun y => { y with host := none, loaded := none })).beam (beamNo l m) =
            { c.beam (beamNo l m) with host := none, loaded := none } := tget_tput_same _ _ _ _
        rw [hu, hc]
        exact ⟨rfl, rfl, fun h => absurd h hv, rfl, rfl⟩
      · rw [hc]
        exact ⟨rfl, rfl, fun h => absurd h hv, rfl, rfl⟩
  clear_value d
  obtain ⟨ev, hev⟩ := d.raise_shape (unitBeam l m) .bypassApplied [l, m, 512 - popBelow v 512]
  have he : e = { d with events := ev } := hev
  clear_value e
  subst he
  obtain ⟨hmask, hwant, hhost, hlan, hsto⟩ := hd
  cases x.wantCmd with
  | none => exact ⟨hmask, hwant, hhost, hlan.trans hcl.1, hsto.trans hcl.2⟩
  | some n =>
    have hbeam : (Block.finishSts { d with events := ev } objLamp n .ok).beam (beamNo l m) = d.beam (beamNo l m) := by
      simp [Block.beam]
    simp only [hbeam, Block.finishSts_frame]
    exact ⟨hmask, hwant, hhost, hlan.trans hcl.1, hsto.trans hcl.2⟩

theorem autoPromote_off {b : Block} (h : b.cfg 0x20000042 1 ≠ 1) (l : Nat) : b.autoPromote l = b := by
  rw [Block.autoPromote, if_neg (fun hn => h hn.1)]

/-! ### The commands -/

section Service

variable {s : State} {role : Role} {l : Nat}

section Admitted

variable (ha : Admits s.blk role .service 0x20)
include ha

theorem lampService_outOfRange (hl : 64 ≤ l) : exec (.promote role l) s = .next (s.withBlk (s.blk.refuse .outOfRange)) ∧
    (∀ ok, exec (.relight role l ok) s = .next (s.withBlk (s.blk.refuse .outOfRange))) ∧
    (∀ m x, exec (.bypass role l m x) s = .next (s.withBlk (s.blk.refuse .outOfRange))) := by
  simp only [exec_promote, execPromote, exec_relight, execRelight, exec_bypass, execBypass, State.run_eq, ha.cmd, hl, true_or, if_true,
    implies_true, and_self]

theorem promote_busy (hl : l < 64) (h : s.blk.watchOn (lampTile l) = true ∨ (s.blk.lantern l).relightWaits = true ∨
    (s.blk.lantern l).promoteTo ≠ none ∨ (s.blk.lantern l).loss = .fencing ∨ (s.blk.lantern l).loss = .relighting) :
    exec (.promote role l) s = .next (s.withBlk (s.blk.refuse .busy)) := by
  rw [← Option.isSome_iff_ne_none] at h
  simp only [exec_promote, execPromote, State.run_eq, ha.cmd, if_neg (Nat.not_le.2 hl), if_pos h]

/-- Nothing holds a promotion of a lantern back (R435). -/
def MayPromote (b : Block) (l : Nat) : Prop :=
  b.watchOn (lampTile l) = false ∧ (b.lantern l).relightWaits = false ∧ (b.lantern l).promoteTo = none ∧ (b.lantern l).loss ≠ .fencing ∧
    (b.lantern l).loss ≠ .relighting

theorem promote_badState (hl : l < 64) (h : MayPromote s.blk l) (hs : s.blk.spareSite (lampTile l) = none) :
    exec (.promote role l) s = .next (s.withBlk (s.blk.refuse .badState)) := by
  obtain ⟨hw, hr, hp, hf, hg⟩ := h
  simp only [exec_promote, execPromote, State.run_eq, ha.cmd, Nat.not_le.2 hl, hw, hr, hp, hf, hg, hs, Bool.false_eq_true,
    Option.isSome_none, or_self, if_false]

theorem promote_atOnce (hl : l < 64) (h : MayPromote s.blk l) {sp : Nat} (hs : s.blk.spareSite (lampTile l) = some sp)
    (ho : (s.blk.lantern l).loss = .lost ∨ (s.blk.lantern l).out = true) : exec (.promote role l) s = .next (s.withBlk
      (((((s.blk.accept objLamp).freshDie l).takeSpare l sp).replan l).finishSts objLamp (s.blk.cmds.count + 1) .ok)) := by
  obtain ⟨hw, hr, hp, hf, hg⟩ := h
  simp only [exec_promote, execPromote, State.run_eq, ha.cmd, Nat.not_le.2 hl, hw, hr, hp, hf, hg, hs, Bool.false_eq_true,
    Option.isSome_none, or_self, if_false, if_pos ho]
  rfl

theorem promote_waits (hl : l < 64) (h : MayPromote s.blk l) {sp : Nat} (hs : s.blk.spareSite (lampTile l) = some sp)
    (hv : (s.blk.lantern l).loss = .alive) (ho : (s.blk.lantern l).out = false) (hq : s.blk.quiet l = false) :
    Completes (.promote role l) s (fun t => (t.blk.lantern l).promoteTo = some sp ∧
      (t.blk.lantern l).cmd = some (s.blk.cmds.count + 1, objLamp) ∧ (t.blk.lantern l).site = (s.blk.lantern l).site ∧
      t.blk.cmds.reply.status = .accepted ∧ t.blk.mem = s.blk.mem ∧ t.blk.hws = s.blk.hws) := by
  obtain ⟨hw, hr, hp, hf, hg⟩ := h
  have hexec : exec (.promote role l) s = .next (s.withBlk ((s.blk.accept objLamp).updLantern l (fun y =>
      { y with promoteTo := some sp, cmd := some (s.blk.cmds.count + 1, objLamp) }))) := by
    have hsettle (f : Lantern → Lantern) :
        ((s.blk.accept objLamp).updLantern l f).settle l = (s.blk.accept objLamp).updLantern l f := by
      have hq' : ((s.blk.accept objLamp).updLantern l f).quiet l = false := hq
      rw [Block.settle, hq']
      rfl
    simp only [exec_promote, execPromote, State.run_eq, ha.cmd, Nat.not_le.2 hl, hw, hr, hp, hv, ho, hs, Bool.false_eq_true,
      Option.isSome_none, reduceCtorEq, or_self, if_false, hsettle]
    rfl
  refine .of_exec hexec ?_
  have hlan : ((s.blk.accept objLamp).updLantern l (fun y =>
      { y with promoteTo := some sp, cmd := some (s.blk.cmds.count + 1, objLamp) })).lantern l =
      { s.blk.lantern l with promoteTo := some sp, cmd := some (s.blk.cmds.count + 1, objLamp) } := tget_tput_same _ _ _ _
  exact ⟨congrArg Lantern.promoteTo hlan, congrArg Lantern.cmd hlan, (congrArg Lantern.site hlan :), rfl, rfl, rfl⟩

theorem relight_badState (hl : l < 64) (hv : (s.blk.lantern l).loss ≠ .lost) (ho : s.blk.outOfService l = false) (ok : Bool) :
    exec (.relight role l ok) s = .next (s.withBlk (s.blk.refuse .badState)) := by
  simp only [exec_relight, execRelight, State.run_eq, ha.cmd, Nat.not_le.2 hl, hv, ho, ne_eq, not_false_eq_true, Bool.not_false, and_self,
    if_true, if_false]

theorem relight_busy (hl : l < 64) (hv : (s.blk.lantern l).loss = .lost) (hq : s.blk.quiet l = false) (ok : Bool) :
    exec (.relight role l ok) s = .next (s.withBlk (s.blk.refuse .busy)) := by
  simp only [exec_relight, execRelight, State.run_eq, ha.cmd, Nat.not_le.2 hl, hv, hq, ne_eq, not_true_eq_false, false_and, Bool.not_false,
    if_true, if_false]

theorem relight_lights (hl : l < 64) (hv : (s.blk.lantern l).loss = .lost) (hq : s.blk.quiet l = true) :
    Completes (.relight role l true) s (fun t => (t.blk.lantern l).loss = .alive ∧ (t.blk.lantern l).out = false ∧
      (t.blk.lantern l).vectorsBad = false ∧ (t.blk.lantern l).lens = [] ∧ t.blk.cmds.reply.status = .accepted ∧
      t.blk.mem = s.blk.mem ∧ t.blk.hws = s.blk.hws ∧ ∀ j, j ≠ l → t.blk.lantern j = s.blk.lantern j) := by
  have hexec : exec (.relight role l true) s = .next (s.withBlk ((((s.blk.accept objLamp).freshDie l).updLantern l (fun x =>
      { x with out := false, vectorsBad := false })).finishSts objLamp (s.blk.accept objLamp).cmds.count .ok)) := by
    simp only [exec_relight, execRelight, State.run_eq, ha.cmd, Nat.not_le.2 hl, hv, hq, ne_eq, not_true_eq_false, false_and,
      Bool.not_true, Bool.false_eq_true, if_true, if_false]
  refine .of_exec hexec ?_
  have hself := freshDie_lantern (s.blk.accept objLamp) l
  have hother (j : Nat) (hj : j ≠ l) := freshDie_lantern_ne (s.blk.accept objLamp) hj
  obtain ⟨hmem, hhws, -, -, hcmds⟩ := freshDie_keeps (s.blk.accept objLamp) l
  generalize (s.blk.accept objLamp).freshDie l = d at hself hother hmem hhws hcmds
  have hreply : d.cmds.reply.status = .accepted := by rw [hcmds]; rfl
  refine ⟨by simp [hself, reborn], by simp, by simp, by simp [hself, reborn], by simpa using hreply, by simpa using hmem,
    by simpa using hhws, fun j hj => ?_⟩
  have hj' := hother j hj
  have hset : (d.updLantern l (fun x => { x with out := false, vectorsBad := false })).lantern j = d.lantern j :=
    tget_tput_ne ({} : Lantern) d.lanterns _ _ _ hj
  calc _
    _ = (d.updLantern l (fun x => { x with out := false, vectorsBad := false })).lantern j := by simp [Block.lantern]
    _ = s.blk.lantern j := hset.trans hj'

theorem relight_fails (hl : l < 64) (hv : (s.blk.lantern l).loss = .lost) (hq : s.blk.quiet l = true)
    (hp : s.blk.cfg 0x20000042 1 ≠ 1) : Completes (.relight role l false) s (fun t => (t.blk.lantern l).out = true ∧
      (t.blk.lantern l).loss = .lost ∧ t.blk.mem = s.blk.mem) := by
  have hexec : exec (.relight role l false) s = .next (s.withBlk (((((s.blk.accept objLamp).updLantern l (fun x =>
      { x with out := true })).dropMember l).autoPromote l).finishSts objLamp (s.blk.accept objLamp).cmds.count .badState)) := by
    simp only [exec_relight, execRelight, State.run_eq, ha.cmd, Nat.not_le.2 hl, hv, hq, ne_eq, not_true_eq_false, false_and,
      Bool.not_true, Bool.false_eq_true, if_false]
  refine .of_exec hexec ?_
  have hdrop := (Rehosted.refl ((s.blk.accept objLamp).updLantern l (fun x => { x with out := true }))).dropMember l
  generalize Block.dropMember _ l = d at hdrop ⊢
  have hcfg : d.cfg 0x20000042 1 ≠ 1 := by
    rw [Block.cfg, hdrop.store]
    exact hp
  have hlan : d.lantern l = { s.blk.lantern l with out := true } := by
    rw [Block.lantern, hdrop.lanterns]
    exact tget_tput_same _ _ _ _
  have hmem : d.mem = s.blk.mem := hdrop.mem
  rw [autoPromote_off hcfg]
  simp [hlan, hv, hmem]

theorem bypass_outOfRange {m : Nat} (v : BitVec 512) (hm : 16 ≤ m) :
    exec (.bypass role l m v) s = .next (s.withBlk (s.blk.refuse .outOfRange)) := by
  simp only [exec_bypass, execBypass, State.run_eq, ha.cmd, hm, or_true, if_true]

theorem bypass_denied (hl : l < 64) {m : Nat} {v : BitVec 512} (hm : m < 16) (hv : (s.blk.beam (beamNo l m)).mask &&& ~~~v ≠ 0)
    (hr : role ≠ .vendor) : exec (.bypass role l m v) s = .next (s.withBlk (s.blk.refuse .denied)) := by
  simp only [exec_bypass, execBypass, State.run_eq, ha.cmd, Nat.not_le.2 hl, Nat.not_le.2 hm, or_self, if_false,
    if_pos (And.intro hv hr)]

theorem bypass_waits (hl : l < 64) {m : Nat} {v : BitVec 512} (hm : m < 16) (hv : (s.blk.beam (beamNo l m)).mask &&& ~~~v = 0)
    (hs : (s.blk.lantern l).loss = .alive) (hw : (s.blk.beam (beamNo l m)).want = none) :
    Completes (.bypass role l m v) s (fun t => (t.blk.beam (beamNo l m)).want = some v ∧
      (t.blk.beam (beamNo l m)).mask = (s.blk.beam (beamNo l m)).mask ∧ t.blk.cmds.reply.status = .accepted ∧
      t.blk.mem = s.blk.mem ∧ ∀ j, j ≠ beamNo l m → t.blk.beam j = s.blk.beam j) := by
  have hexec : exec (.bypass role l m v) s = .next (s.withBlk ((s.blk.accept objLamp).updBeam (beamNo l m) (fun z =>
      { z with want := some v, wantCmd := some (s.blk.accept objLamp).cmds.count }))) := by
    simp only [exec_bypass, execBypass, State.run_eq, ha.cmd, Nat.not_le.2 hl, Nat.not_le.2 hm, hv, hs, hw, or_self, if_false, ne_eq,
      not_true_eq_false, false_and, reduceCtorEq, Option.isSome_none, Bool.false_eq_true]
  refine .of_exec hexec ?_
  have hbeam : ((s.blk.accept objLamp).updBeam (beamNo l m) (fun z =>
      { z with want := some v, wantCmd := some (s.blk.accept objLamp).cmds.count })).beam (beamNo l m) =
      { s.blk.beam (beamNo l m) with want := some v, wantCmd := some (s.blk.accept objLamp).cmds.count } := tget_tput_same _ _ _ _
  exact ⟨congrArg Beam.want hbeam, (congrArg Beam.mask hbeam :), rfl, rfl, fun j hj => tget_tput_ne ({} : Beam) s.blk.beams _ _ _ hj⟩

end Admitted

/-! ### The masks that wait (R51, R437) -/

/-- The beams of a lantern whose masks wait. -/
def maskWaits (b : Block) (l : Nat) : List Nat := (List.range 16).filter (fun m => (b.beam (beamNo l m)).want.isSome)

theorem bypassApplied_none (h : ∀ m, m < 16 → (s.blk.beam (beamNo l m)).want = none) : exec (.bypassApplied l) s = .next s := by
  have hnone : maskWaits s.blk l = [] := List.filter_eq_nil_iff.2 (fun m hm => by simp [h m (List.mem_range.1 hm)])
  rw [exec_bypassApplied, execBypassApplied, State.run_eq, if_pos (.inr (.inl hnone))]

theorem bypassApplied_busy (h : s.blk.quiet l = false) : exec (.bypassApplied l) s = .next s := by
  simp only [exec_bypassApplied, execBypassApplied, State.run_eq, h, Bool.not_false, true_or, or_true, if_true]

theorem maskWaits_one {b : Block} {m : Nat} {v : Line} (hm : m < 16) (hw : (b.beam (beamNo l m)).want = some v)
    (ho : ∀ j, j < 16 → j ≠ m → (b.beam (beamNo l j)).want = none) : maskWaits b l = [m] := by
  have hiff : maskWaits b l = (List.range 16).filter (fun j => j == m) := by
    refine List.filter_congr (fun j hj => ?_)
    by_cases hjm : j = m
    · simp [hjm, hw]
    · simp [ho j (List.mem_range.1 hj) hjm, hjm]
  have hone : ∀ m < 16, (List.range 16).filter (fun j => j == m) = [m] := by decide
  rw [hiff, hone m hm]

theorem bypassApplied_applies (hl : l < 64) {m : Nat} {v : BitVec 512} (hm : m < 16) (hq : s.blk.quiet l = true)
    (hs : (s.blk.lantern l).loss = .alive) (hw : (s.blk.beam (beamNo l m)).want = some v)
    (ho : ∀ j, j < 16 → j ≠ m → (s.blk.beam (beamNo l j)).want = none) (hp : s.blk.cfg 0x20000042 1 ≠ 1) :
    Completes (.bypassApplied l) s (fun t =>
      (t.blk.beam (beamNo l m)).mask = v ∧ (t.blk.beam (beamNo l m)).want = none ∧
      (512 - popBelow v 512 < 448 → (t.blk.beam (beamNo l m)).host ≠ none) ∧ (t.blk.lantern l).lens = []) := by
  have hlist : (List.range 16).filter (fun m => (s.blk.beam (beamNo l m)).want.isSome) = [m] := maskWaits_one hm hw ho
  simp only [Completes, exec_bypassApplied, execBypassApplied, State.run_eq, Nat.not_le.2 hl, hlist, hq, hs, Bool.not_true,
    Bool.false_eq_true, ne_eq, not_true_eq_false, reduceCtorEq, or_self, if_false, List.foldl_cons, List.foldl_nil]
  have hkeep : Stays (beyond s.blk) ((s.blk.drainStores l).flushDie l) := (Stays.refl s.blk).drainStores.flushDie
  generalize (s.blk.drainStores l).flushDie l = c at hkeep ⊢
  have hbeams : c.beams = s.blk.beams := congrArg Beyond.beams hkeep
  have hstore : c.store = s.blk.store := congrArg Beyond.store hkeep
  have hwant : ((c.freshDie l).beam (beamNo l m)).want = some v := by
    rw [(freshDie_beam c l (beamNo l m)).want, Block.beam, hbeams]
    exact hw
  obtain ⟨-, -, hsto, -, -⟩ := freshDie_keeps c l
  have hlan := freshDie_lantern c l
  simp only [hwant]
  obtain ⟨hmask, hnone, hhost, hlan', hsto'⟩ := applyMask_leaves (c.freshDie l) l m v
  generalize (c.freshDie l).applyMask l m v = d at hmask hnone hhost hlan' hsto' ⊢
  have hcfg : d.noteRepair.cfg 0x20000042 1 ≠ 1 := by
    have hc : d.noteRepair.cfg 0x20000042 1 = d.cfg 0x20000042 1 := rfl
    rw [hc, Block.cfg, hsto', hsto, hstore]
    exact hp
  rw [autoPromote_off hcfg]
  refine ⟨_, rfl, hmask, hnone, hhost, ?_⟩
  have hd : d.lantern l = reborn (c.lantern l) := by rw [← hlan, Block.lantern, hlan']; rfl
  exact congrArg Lantern.lens hd

end Service

/-- Settles O54: the refusals in the order of their checks; a die that starts afresh, and a mask that comes into force. -/
theorem lanternService : Obligations.LanternService := by
  unfold Obligations.LanternService
  refine fun s role ha => ⟨fun l => lampService_outOfRange ha, fun l hl => ⟨promote_busy ha hl,
    fun hw hr hp hf hg => ⟨promote_badState ha hl ⟨hw, hr, hp, hf, hg⟩, fun sp => promote_atOnce ha hl ⟨hw, hr, hp, hf, hg⟩,
      fun sp => promote_waits ha hl ⟨hw, hr, hp, hf, hg⟩⟩,
    relight_badState ha hl, relight_busy ha hl, fun hv hq => ⟨relight_lights ha hl hv hq, relight_fails ha hl hv hq⟩,
    fun m => bypass_outOfRange ha, fun m v => bypass_denied ha hl, fun m v => bypass_waits ha hl, bypassApplied_none, bypassApplied_busy,
    fun m v => bypassApplied_applies hl⟩⟩

end Sys2Proof

/-! PROOFS. Receiving of frames, the responder and the requester of a queue pair, congestion control, and completion entries
(R292, R297 to R301). -/

namespace Sys2Proof

open Sys2Proof.Machine

theorem exec_ethFrameRx (p mac : Nat) (g : EthFrame) (s : State) : exec (.ethFrameRx p mac g) s = execEthFrameRx p mac g s := rfl
theorem exec_roceRequestRx (p : Nat) (q : RoceReq) (s : State) : exec (.roceRequestRx p q) s = execRoceRequestRx p q s := rfl
theorem exec_roceResponseRx (p : Nat) (q : RoceResp) (s : State) : exec (.roceResponseRx p q) s = execRoceResponseRx p q s := rfl
theorem exec_ackTimeout (p i : Nat) (s : State) : exec (.ackTimeout p i) s = execAckTimeout p i s := rfl
theorem exec_cnpRx (p i : Nat) (s : State) : exec (.cnpRx p i) s = execCnpRx p i s := rfl
theorem exec_ccTimer (p i : Nat) (e : CcEvent) (s : State) : exec (.ccTimer p i e) s = execCcTimer p i e s := rfl

/-! ### Frames (R292, R297) -/

section Frames

variable {s : State} {p mac : Nat} {g : EthFrame}

theorem ethFrameRx_off (h : s.blk.portOn p = false ∨ (s.blk.port p).up mac = false) : exec (.ethFrameRx p mac g) s = .next s := by
  rw [exec_ethFrameRx, execEthFrameRx, State.run_eq, if_pos (by simpa using h)]

variable (hp : s.blk.portOn p = true) (hm : (s.blk.port p).up mac = true)
include hp hm

theorem ethFrameRx_fecBad (hf : g.fecBad = true) : exec (.ethFrameRx p mac g) s =
    .next (s.withBlk (s.blk.updPort p (fun x => { x with fecBad := x.fecBad + 1 }))) := by
  rw [exec_ethFrameRx, execEthFrameRx, State.run_eq, if_neg (by simp [hp, hm]), if_pos hf]

variable (hf : g.fecBad = false)
include hf

theorem ethFrameRx_pauses {named held : Byte} (hpfc : pfcOf (stripTag g.bytes).2 = some (named, held)) :
    exec (.ethFrameRx p mac g) s = .next (s.withBlk (s.blk.updPort p (fun x => { x with
      paused := tput x.paused mac ((tget 0 x.paused mac &&& ~~~named) |||
        (held &&& BitVec.ofNat 8 (s.blk.cfg (0x50000005 + p * 0x1000) 0))) }))) := by
  simp only [exec_ethFrameRx, execEthFrameRx, State.run_eq, hp, hm, hf, hpfc, objPort_eq, Bool.not_true, Bool.false_eq_true, or_self,
    if_false, Nat.reduceAdd]

/-- The hash of a frame, and the queue that it is steered to (R297). -/
def frameHash (b : Block) (p : Nat) (f : List Byte) : Nat := toeplitz (b.cfgBytes (0x50000020 + p * 0x1000)) (rssTuple f)
def frameQueue (b : Block) (p : Nat) (f : List Byte) : Nat :=
  if toQp1 f then 0 else ((b.cfgBytes (0x50000021 + p * 0x1000)).getD (frameHash b p f % 128) 0).toNat

variable (hpfc : pfcOf (stripTag g.bytes).2 = none) {r : BitVec 1024}
  (hcopy : ((s.blk.loadPq p true (frameQueue s.blk p (stripTag g.bytes).2)).pq p true (frameQueue s.blk p (stripTag g.bytes).2)).copy = some r)
  (herr : ethErr ((s.blk.loadPq p true (frameQueue s.blk p (stripTag g.bytes).2)).port p).macs r = none)
  (hlen : (stripTag g.bytes).2.length ≤ 9216)
include hpfc hcopy herr hlen

theorem ethFrameRx_noBuffer (hh : (s.blk.loadPq p true (frameQueue s.blk p (stripTag g.bytes).2)).recvHead
      ((s.blk.loadPq p true (frameQueue s.blk p (stripTag g.bytes).2)).pq p true (frameQueue s.blk p (stripTag g.bytes).2)) r = .none) :
    exec (.ethFrameRx p mac g) s =
      .next (s.withBlk ((s.blk.loadPq p true (frameQueue s.blk p (stripTag g.bytes).2)).dropFrame p)) := by
  simp only [frameQueue, frameHash] at hcopy herr hh ⊢
  simp only [exec_ethFrameRx, execEthFrameRx, State.run_eq, hp, hm, hf, hpfc, objPort_eq, Bool.not_true, Bool.false_eq_true, or_self,
    if_false, Nat.reduceAdd, hcopy, herr, Option.isSome_none, Nat.not_lt.2 hlen, hh]

theorem ethFrameRx_tooLong {d : BitVec 256} (hh : (s.blk.loadPq p true (frameQueue s.blk p (stripTag g.bytes).2)).recvHead
      ((s.blk.loadPq p true (frameQueue s.blk p (stripTag g.bytes).2)).pq p true (frameQueue s.blk p (stripTag g.bytes).2)) r = .ok d)
    (hd : fld d 96 32 < (stripTag g.bytes).2.length) :
    exec (.ethFrameRx p mac g) s =
      .next (s.withBlk ((s.blk.loadPq p true (frameQueue s.blk p (stripTag g.bytes).2)).dropFrame p)) := by
  simp only [frameQueue, frameHash] at hcopy herr hh ⊢
  simp only [exec_ethFrameRx, execEthFrameRx, State.run_eq, hp, hm, hf, hpfc, objPort_eq, Bool.not_true, Bool.false_eq_true, or_self,
    if_false, Nat.reduceAdd, hcopy, herr, Option.isSome_none, Nat.not_lt.2 hlen, hh, hd, if_true]

theorem ethFrameRx_completes {d : BitVec 256} (hh : (s.blk.loadPq p true (frameQueue s.blk p (stripTag g.bytes).2)).recvHead
      ((s.blk.loadPq p true (frameQueue s.blk p (stripTag g.bytes).2)).pq p true (frameQueue s.blk p (stripTag g.bytes).2)) r = .ok d)
    {c : Block} (hd : (stripTag g.bytes).2.length ≤ fld d 96 32)
    (hw : (s.blk.loadPq p true (frameQueue s.blk p (stripTag g.bytes).2)).bufWrite p (fld d 64 32) (fld r 288 16) (fld d 0 64)
      (stripTag g.bytes).2 1 = (c, .ok [])) :
    exec (.ethFrameRx p mac g) s = .next (s.withBlk ((c.recvTake p true (frameQueue s.blk p (stripTag g.bytes).2)).complete p (fld r 272 12)
      { wrId := fld d 128 64, op := 0x83, st := .ok, queue := frameQueue s.blk p (stripTag g.bytes).2, eth := true,
        bytes := (stripTag g.bytes).2.length, csumOk := sumsOk (stripTag g.bytes).2, ce := ceMarked (stripTag g.bytes).2,
        hash := if toQp1 (stripTag g.bytes).2 then 0 else frameHash s.blk p (stripTag g.bytes).2,
        vlan := (stripTag g.bytes).1.getD 0 })) := by
  simp only [frameQueue, frameHash] at hcopy herr hh hw ⊢
  simp only [exec_ethFrameRx, execEthFrameRx, State.run_eq, hp, hm, hf, hpfc, objPort_eq, Bool.not_true, Bool.false_eq_true, or_self,
    if_false, Nat.reduceAdd, hcopy, herr, Option.isSome_none, Nat.not_lt.2 hlen, hh, Nat.not_lt.2 hd, hw]

end Frames

/-! ### The responder (R298, R299) -/

section Responder

variable {s : State} {p : Nat} {q : RoceReq} {r : BitVec 1024}

/-- The responder of a queue pair may serve a request: its record is held, valid, in RTR or RTS, and its MAC has its link. -/
structure Serves (b : Block) (p i : Nat) (r : BitVec 1024) : Prop where
  copy : (b.pq p false i).copy = some r
  st : (b.pq p false i).st = 2 ∨ (b.pq p false i).st = 3
  err : qpErr (b.port p).macs r = none
  up : (b.port p).up (fld r 657 3) = true

variable (hp : s.blk.portOn p = true) (hq : q.qpn < 16384) (h : Serves (s.blk.loadPq p false q.qpn) p q.qpn r)
include hp hq h

/-- The request that the responder expects. -/
theorem roceRequestRx_expected (he : q.psn % 2 ^ 24 = ((s.blk.loadPq p false q.qpn).pq p false q.qpn).epsn) :
    exec (.roceRequestRx p q) s = .next (s.withBlk (match q.op with
      | 2 | 3 => ((s.blk.loadPq p false q.qpn).owesCnp p q.qpn r q.ce).rxSend p q.qpn r q
      | 4 | 5 => ((s.blk.loadPq p false q.qpn).owesCnp p q.qpn r q.ce).rxWrite p q.qpn r q
      | 6 => ((s.blk.loadPq p false q.qpn).owesCnp p q.qpn r q.ce).rxRead p q.qpn r q true
      | 7 | 8 => ((s.blk.loadPq p false q.qpn).owesCnp p q.qpn r q.ce).rxAtomic p q.qpn r q
      | _ => (s.blk.loadPq p false q.qpn).owesCnp p q.qpn r q.ce)) := by
  have hst : (!(((s.blk.loadPq p false q.qpn).pq p false q.qpn).st == 2 ||
      ((s.blk.loadPq p false q.qpn).pq p false q.qpn).st == 3)) = false := by
    rcases h.st with h | h <;> simp [h]
  simp only [exec_roceRequestRx, execRoceRequestRx, State.run_eq, hp, Nat.not_le.2 hq, h.copy, hst, h.err, h.up, he, Option.isSome_none,
    Bool.not_true, Bool.or_self, Bool.false_eq_true, or_self, if_false, if_true] <;> rfl

/-- A request that was served before, or one from ahead. -/
theorem roceRequestRx_other (he : q.psn % 2 ^ 24 ≠ ((s.blk.loadPq p false q.qpn).pq p false q.qpn).epsn) :
    exec (.roceRequestRx p q) s = .next (s.withBlk (
      if psnDiff ((s.blk.loadPq p false q.qpn).pq p false q.qpn).epsn q.psn < 2 ^ 23 then
        match q.op with
        | 6 => ((s.blk.loadPq p false q.qpn).owesCnp p q.qpn r q.ce).rxRead p q.qpn r q false
        | 7 | 8 =>
          (match ((s.blk.loadPq p false q.qpn).pq p false q.qpn).lastAtomic with
            | some (n, old) => if n = q.psn then ((s.blk.loadPq p false q.qpn).owesCnp p q.qpn r q.ce).respond p q.qpn r 2 q.psn
                (leBytes 8 old.toNat) else (s.blk.loadPq p false q.qpn).owesCnp p q.qpn r q.ce
            | none => (s.blk.loadPq p false q.qpn).owesCnp p q.qpn r q.ce)
        | _ => ((s.blk.loadPq p false q.qpn).owesCnp p q.qpn r q.ce).respond p q.qpn r 0 q.psn []
      else (s.blk.loadPq p false q.qpn).owesCnp p q.qpn r q.ce)) := by
  have hst : (!(((s.blk.loadPq p false q.qpn).pq p false q.qpn).st == 2 ||
      ((s.blk.loadPq p false q.qpn).pq p false q.qpn).st == 3)) = false := by
    rcases h.st with h | h <;> simp [h]
  simp only [exec_roceRequestRx, execRoceRequestRx, State.run_eq, hp, Nat.not_le.2 hq, h.copy, hst, h.err, h.up, he, Option.isSome_none,
    Bool.not_true, Bool.or_self, Bool.false_eq_true, or_self, if_false] <;> rfl

theorem roceRequestRx_serves (he : q.psn % 2 ^ 24 = ((s.blk.loadPq p false q.qpn).pq p false q.qpn).epsn) :
    ((q.op = 2 ∨ q.op = 3) → exec (.roceRequestRx p q) s =
      .next (s.withBlk (((s.blk.loadPq p false q.qpn).owesCnp p q.qpn r q.ce).rxSend p q.qpn r q))) ∧
    ((q.op = 4 ∨ q.op = 5) → exec (.roceRequestRx p q) s =
      .next (s.withBlk (((s.blk.loadPq p false q.qpn).owesCnp p q.qpn r q.ce).rxWrite p q.qpn r q))) ∧
    (q.op = 6 → exec (.roceRequestRx p q) s =
      .next (s.withBlk (((s.blk.loadPq p false q.qpn).owesCnp p q.qpn r q.ce).rxRead p q.qpn r q true))) ∧
    ((q.op = 7 ∨ q.op = 8) → exec (.roceRequestRx p q) s =
      .next (s.withBlk (((s.blk.loadPq p false q.qpn).owesCnp p q.qpn r q.ce).rxAtomic p q.qpn r q))) := by
  rw [roceRequestRx_expected hp hq h he]
  refine ⟨fun ho => ?_, fun ho => ?_, fun ho => by simp only [ho], fun ho => ?_⟩
  · rcases ho with ho | ho <;> simp only [ho]
  · rcases ho with ho | ho <;> simp only [ho]
  · rcases ho with ho | ho <;> simp only [ho]

/-- A duplicate is answered again. -/
theorem roceRequestRx_again (he : q.psn % 2 ^ 24 ≠ ((s.blk.loadPq p false q.qpn).pq p false q.qpn).epsn)
    (hd : psnDiff ((s.blk.loadPq p false q.qpn).pq p false q.qpn).epsn q.psn < 2 ^ 23) :
    ((q.op = 2 ∨ q.op = 3 ∨ q.op = 4 ∨ q.op = 5) → exec (.roceRequestRx p q) s =
      .next (s.withBlk (((s.blk.loadPq p false q.qpn).owesCnp p q.qpn r q.ce).respond p q.qpn r 0 q.psn []))) ∧
    (q.op = 6 → exec (.roceRequestRx p q) s =
      .next (s.withBlk (((s.blk.loadPq p false q.qpn).owesCnp p q.qpn r q.ce).rxRead p q.qpn r q false))) := by
  rw [roceRequestRx_other hp hq h he, if_pos hd]
  refine ⟨fun ho => ?_, fun ho => by simp only [ho]⟩
  rcases ho with ho | ho | ho | ho <;> simp only [ho]

theorem roceRequestRx_ahead (he : q.psn % 2 ^ 24 ≠ ((s.blk.loadPq p false q.qpn).pq p false q.qpn).epsn)
    (hd : 2 ^ 23 ≤ psnDiff ((s.blk.loadPq p false q.qpn).pq p false q.qpn).epsn q.psn) : exec (.roceRequestRx p q) s =
      .next (s.withBlk ((s.blk.loadPq p false q.qpn).owesCnp p q.qpn r q.ce)) := by
  rw [roceRequestRx_other hp hq h he, if_neg (Nat.not_lt.2 hd)]

end Responder

/-! ### The requester (R299) -/

section Requester

variable {s : State} {p i : Nat} {r : BitVec 1024}

/-- The response to a request of a queue pair in RTS. -/
theorem roceResponseRx_takes (hi : i < 16384) (hp : s.blk.portOn p = true) {q : RoceResp} (hq : q.qpn = i)
    (hcopy : ((s.blk.loadPq p false i).pq p false i).copy = some r) (hst : ((s.blk.loadPq p false i).pq p false i).st = 3)
    (hup : ((s.blk.loadPq p false i).port p).up (fld r 657 3) = true) :
    exec (.roceResponseRx p q) s = .next (s.withBlk (
      let b := s.blk.loadPq p false i
      let n := (b.pq p false i).sent.length
      let before := (q.psn + 2 ^ 24 - 1) % 2 ^ 24
      match q.kind with
      | 0 => Block.ackTo p i r q.psn n b
      | 1 => (Block.ackTo p i r before n b).gotData p i r q.psn q.data false
      | 2 => (Block.ackTo p i r before n b).gotData p i r q.psn q.data true
      | k =>
        let c := Block.ackTo p i r before n b
        let y := c.pq p false i
        match y.sent with
        | [] => c
        | h :: _ =>
          if h.psn ≠ q.psn then c
          else if k = 3 then
            (if fld r 11 3 = 7 then c.goBack p i r
             else if y.rnrRetries < fld r 11 3 then
               (c.updPq p false i (fun z => { z with rnrRetries := z.rnrRetries + 1 })).goBack p i r
             else c.sentEnd p i r .rnrRetryExceeded)
          else if k = 4 then c.sentEnd p i r .remoteAccess
          else if k = 5 then c.sentEnd p i r .remoteOperation
          else c)) := by
  subst hq
  simp only [exec_roceResponseRx, execRoceResponseRx, State.run_eq, hp, Nat.not_le.2 hi, hcopy, hst, hup, Bool.not_true,
    Bool.false_eq_true, or_self, if_false, ne_eq, not_true_eq_false] <;> rfl

section Response

variable (hi : i < 16384) (hp : s.blk.portOn p = true) {q : RoceResp} (hq : q.qpn = i)
  (hcopy : ((s.blk.loadPq p false i).pq p false i).copy = some r) (hst : ((s.blk.loadPq p false i).pq p false i).st = 3)
  (hup : ((s.blk.loadPq p false i).port p).up (fld r 657 3) = true)
include hi hp hq hcopy hst hup

/-- An ACK, and the data of a READ or of an atomic. -/
theorem roceResponseRx_acks :
    (q.kind = 0 → exec (.roceResponseRx p q) s = .next (s.withBlk (Block.ackTo p i r q.psn
      ((s.blk.loadPq p false i).pq p false i).sent.length (s.blk.loadPq p false i)))) ∧
    (q.kind = 1 → exec (.roceResponseRx p q) s = .next (s.withBlk ((Block.ackTo p i r ((q.psn + 2 ^ 24 - 1) % 2 ^ 24)
      ((s.blk.loadPq p false i).pq p false i).sent.length (s.blk.loadPq p false i)).gotData p i r q.psn q.data false))) ∧
    (q.kind = 2 → exec (.roceResponseRx p q) s = .next (s.withBlk ((Block.ackTo p i r ((q.psn + 2 ^ 24 - 1) % 2 ^ 24)
      ((s.blk.loadPq p false i).pq p false i).sent.length (s.blk.loadPq p false i)).gotData p i r q.psn q.data true))) := by
  rw [roceResponseRx_takes hi hp hq hcopy hst hup]
  exact ⟨fun hk => by simp only [hk], fun hk => by simp only [hk], fun hk => by simp only [hk]⟩

/-- A NAK of the oldest request. -/
theorem roceResponseRx_naks {z : Sent} {rest : List Sent} (hz : ((s.blk.loadPq p false i).pq p false i).sent = z :: rest)
    (hpsn : z.psn = q.psn) (hack : Block.ackTo p i r ((q.psn + 2 ^ 24 - 1) % 2 ^ 24)
      ((s.blk.loadPq p false i).pq p false i).sent.length (s.blk.loadPq p false i) = s.blk.loadPq p false i) :
    (q.kind = 4 → exec (.roceResponseRx p q) s = .next (s.withBlk ((s.blk.loadPq p false i).sentEnd p i r .remoteAccess))) ∧
    (q.kind = 5 → exec (.roceResponseRx p q) s = .next (s.withBlk ((s.blk.loadPq p false i).sentEnd p i r .remoteOperation))) ∧
    (q.kind = 3 → fld r 11 3 ≠ 7 → fld r 11 3 ≤ ((s.blk.loadPq p false i).pq p false i).rnrRetries →
      exec (.roceResponseRx p q) s = .next (s.withBlk ((s.blk.loadPq p false i).sentEnd p i r .rnrRetryExceeded))) ∧
    (q.kind = 3 → fld r 11 3 = 7 → exec (.roceResponseRx p q) s = .next (s.withBlk ((s.blk.loadPq p false i).goBack p i r))) := by
  rw [roceResponseRx_takes hi hp hq hcopy hst hup]
  rw [hz] at hack
  refine ⟨fun hk => ?_, fun hk => ?_, fun hk h7 hn => ?_, fun hk h7 => ?_⟩
  · simp only [hk, hack, hz, hpsn, ne_eq, not_true_eq_false, if_false, Nat.reduceEqDiff, if_true]
  · simp only [hk, hack, hz, hpsn, ne_eq, not_true_eq_false, if_false, Nat.reduceEqDiff, if_true]
  · simp only [hk, hack, hz, hpsn, ne_eq, not_true_eq_false, if_false, if_true, h7, Nat.not_lt.2 hn]
  · simp only [hk, hack, hz, hpsn, ne_eq, not_true_eq_false, if_false, if_true, h7]

end Response

theorem ackTimeout_ends (hp : s.blk.portOn p = true) (hcopy : (s.blk.pq p false i).copy = some r) (hst : (s.blk.pq p false i).st = 3)
    (hsent : (s.blk.pq p false i).sent ≠ []) :
    ((s.blk.pq p false i).retries < fld r 8 3 → exec (.ackTimeout p i) s = .next (s.withBlk
      ((s.blk.updPq p false i (fun y => { y with retries := y.retries + 1 })).goBack p i r))) ∧
    (fld r 8 3 ≤ (s.blk.pq p false i).retries → exec (.ackTimeout p i) s = .next (s.withBlk (s.blk.sentEnd p i r .retryExceeded))) := by
  simp only [exec_ackTimeout, execAckTimeout, State.run_eq, hp, hcopy, hst, hsent, Bool.not_true, Bool.false_eq_true, ne_eq,
    not_true_eq_false, or_self, if_false]
  exact ⟨fun h => by rw [if_pos h], fun h => by rw [if_neg (Nat.not_lt.2 h)]⟩

theorem ackTimeout_stays (h : (s.blk.pq p false i).sent = []) : exec (.ackTimeout p i) s = .next s := by
  simp only [exec_ackTimeout, execAckTimeout, State.run_eq, h, or_true, if_true]
  split <;> rfl

/-! ### Congestion control (R301) -/

theorem updPq_qp_same (b : Block) (p i : Nat) (f : PortQueue → PortQueue) :
    (b.updPq p false i f).pq p false i = f (b.pq p false i) := by
  have hport : (b.updPq p false i f).port p = { b.port p with qps := tput (b.port p).qps i (f (tget {} (b.port p).qps i)) } :=
    tget_tput_same _ _ _ _
  rw [Block.pq, hport]
  exact tget_tput_same _ _ _ _

theorem updPq_qp_ne (b : Block) (p : Nat) {i j : Nat} (f : PortQueue → PortQueue) (hj : j ≠ i) :
    (b.updPq p false i f).pq p false j = b.pq p false j := by
  have hport : (b.updPq p false i f).port p = { b.port p with qps := tput (b.port p).qps i (f (tget {} (b.port p).qps i)) } :=
    tget_tput_same _ _ _ _
  rw [Block.pq, hport]
  exact tget_tput_ne ({} : PortQueue) (b.port p).qps _ _ _ hj

variable (hi : i < 16384) (hp : s.blk.portOn p = true)
include hi hp

theorem cnpRx_cuts : Completes (.cnpRx p i) s (fun t =>
    let g := s.blk.ccGain p
    let y := s.blk.pq p false i
    let rc := y.rc.getD (((s.blk.port p).lineRate : Nat) : Rat)
    (t.blk.pq p false i).rt = some rc ∧ (t.blk.pq p false i).alpha = (1 - g) * y.alpha + g ∧
    (t.blk.pq p false i).rc = some (max (rc * (1 - y.alpha / 2)) ((s.blk.cfg (0x50000035 + p * 0x1000) 100 : Nat) : Rat)) ∧
    (t.blk.pq p false i).stage = 0 ∧ t.blk.mem = s.blk.mem ∧ ∀ j, j ≠ i → t.blk.pq p false j = s.blk.pq p false j) := by
  simp only [Completes, exec_cnpRx, execCnpRx, State.run_eq, hp, Nat.not_le.2 hi, Bool.not_true, Bool.false_eq_true, or_self, if_false,
    objPort_eq, Nat.reduceAdd]
  refine ⟨_, rfl, ?_⟩
  simp only [updPq_qp_same, true_and]
  exact ⟨rfl, fun j hj => updPq_qp_ne _ _ _ hj⟩

/-- The end of a timer period, of the byte counter or of the CNP interval. -/
theorem ccTimer_runs (e : CcEvent) : exec (.ccTimer p i e) s = .next (s.withBlk (s.blk.updPq p false i (fun y =>
    match e with
    | .timer since => { y.recover (((s.blk.port p).lineRate : Nat) : Rat) ((s.blk.cfg (0x50000034 + p * 0x1000) 5000 : Nat) : Rat) with
        alpha := if since then y.alpha else (1 - s.blk.ccGain p) * y.alpha }
    | .bytes => y.recover (((s.blk.port p).lineRate : Nat) : Rat) ((s.blk.cfg (0x50000034 + p * 0x1000) 5000 : Nat) : Rat)
    | .cnpInterval => { y with cnpDue := false }))) := by
  simp only [exec_ccTimer, execCcTimer, State.run_eq, hp, Nat.not_le.2 hi, Bool.not_true, Bool.false_eq_true, or_self, if_false,
    objPort_eq, Nat.reduceAdd] <;> rfl

/-- The rate that a queue pair recovers to (R301). -/
def recoveredTo (b : Block) (p : Nat) (y : PortQueue) : Rat :=
  if 5 < y.stage + 1 then
    min (y.rt.getD (((b.port p).lineRate : Nat) : Rat) + ((b.cfg (0x50000034 + p * 0x1000) 5000 : Nat) : Rat)) (((b.port p).lineRate : Nat) : Rat)
  else y.rt.getD (((b.port p).lineRate : Nat) : Rat)

theorem ccTimer_recovers :
    (∀ since, Completes (.ccTimer p i (.timer since)) s (fun t =>
      (t.blk.pq p false i).stage = (s.blk.pq p false i).stage + 1 ∧
      (t.blk.pq p false i).rt = some (recoveredTo s.blk p (s.blk.pq p false i)) ∧
      (t.blk.pq p false i).rc = some ((recoveredTo s.blk p (s.blk.pq p false i) +
        (s.blk.pq p false i).rc.getD (((s.blk.port p).lineRate : Nat) : Rat)) / 2) ∧
      (t.blk.pq p false i).cnpDue = (s.blk.pq p false i).cnpDue ∧
      (since = true → (t.blk.pq p false i).alpha = (s.blk.pq p false i).alpha) ∧
      (since = false → (t.blk.pq p false i).alpha = (1 - s.blk.ccGain p) * (s.blk.pq p false i).alpha) ∧ t.blk.mem = s.blk.mem)) ∧
    Completes (.ccTimer p i .bytes) s (fun t =>
      (t.blk.pq p false i).stage = (s.blk.pq p false i).stage + 1 ∧
      (t.blk.pq p false i).rt = some (recoveredTo s.blk p (s.blk.pq p false i)) ∧
      (t.blk.pq p false i).rc = some ((recoveredTo s.blk p (s.blk.pq p false i) +
        (s.blk.pq p false i).rc.getD (((s.blk.port p).lineRate : Nat) : Rat)) / 2) ∧
      (t.blk.pq p false i).alpha = (s.blk.pq p false i).alpha ∧ t.blk.mem = s.blk.mem) ∧
    Completes (.ccTimer p i .cnpInterval) s (fun t =>
      (t.blk.pq p false i).cnpDue = false ∧ (t.blk.pq p false i).rc = (s.blk.pq p false i).rc ∧
      (t.blk.pq p false i).stage = (s.blk.pq p false i).stage ∧ t.blk.mem = s.blk.mem) := by
  refine ⟨fun since => .of_exec (ccTimer_runs hi hp _) ?_, .of_exec (ccTimer_runs hi hp _) ?_, .of_exec (ccTimer_runs hi hp _) ?_⟩
  · simp only [updPq_qp_same]
    exact ⟨rfl, rfl, rfl, rfl, fun h => if_pos h, fun h => if_neg (by simp [h]), rfl⟩
  · simp only [updPq_qp_same]
    exact ⟨rfl, rfl, rfl, rfl, rfl⟩
  · simp only [updPq_qp_same, true_and]
    rfl

end Requester

/-! ### Completion entries (R299, R300) -/

theorem fld_ofNat {n : Nat} (v : Nat) {lo len : Nat} (h : lo + len ≤ n) : fld (BitVec.ofNat n v) lo len = v / 2 ^ lo % 2 ^ len := by
  rw [fld, BitVec.toNat_ofNat, Nat.shiftRight_eq_div_pow]
  have hn : 2 ^ n = 2 ^ lo * 2 ^ (n - lo) := by rw [← pow_add]; congr 1; omega
  have hd : 2 ^ len ∣ 2 ^ (n - lo) := pow_dvd_pow 2 (by omega)
  rw [hn, Nat.mod_mul_right_div_self, Nat.mod_mod_of_dvd _ hd]

theorem bit_ofNat {n : Nat} (v : Nat) {k : Nat} (h : k < n) : bit (BitVec.ofNat n v) k = decide (v / 2 ^ k % 2 = 1) := by
  rw [bit, BitVec.getLsbD_ofNat, decide_eq_true h, Bool.true_and, Nat.testBit_eq_decide_div_mod_eq]

theorem wcCode_lt (st : WcSts) : wcCode st < 2 ^ 8 := by
  cases st <;> decide

theorem flag_eq (p : Bool) (i : Nat) : (if p then 2 ^ i else 0) = p.toNat * 2 ^ i := by
  cases p <;> simp

theorem decide_toNat_eq_one (p : Bool) : decide (p.toNat = 1) = p := by
  cases p <;> rfl

/-- The number that a completion entry spells. -/
def wcNat (w : Wc) (ph : Bool) : Nat :=
  w.wrId + w.op * 2 ^ 64 + wcCode w.st * 2 ^ 72 + w.queue * 2 ^ 80 + w.eth.toNat * 2 ^ 96 + ph.toNat * 2 ^ 97 + w.csumOk.toNat * 2 ^ 98 +
    w.ce.toNat * 2 ^ 99 + (w.bytes % 2 ^ 32) * 2 ^ 128 + w.imm * 2 ^ 160 + w.hash * 2 ^ 192 + w.vlan * 2 ^ 224

theorem wcWord_eq (w : Wc) (ph : Bool) : w.word ph = BitVec.ofNat 256 (wcNat w ph) := by
  simp only [Wc.word, wcNat, flag_eq]

theorem fld_wcWord (w : Wc) (ph : Bool) {lo len : Nat} (h : lo + len ≤ 256) :
    fld (w.word ph) lo len = wcNat w ph / 2 ^ lo % 2 ^ len := by
  rw [wcWord_eq, fld_ofNat _ h]

theorem bit_wcWord {w : Wc} {ph p : Bool} {k : Nat} (h : k < 256) (hp : wcNat w ph / 2 ^ k % 2 = p.toNat) : bit (w.word ph) k = p := by
  rw [wcWord_eq, bit_ofNat _ h, hp, decide_toNat_eq_one]

theorem wcWord_fields (w : Wc) (ph : Bool) (hid : w.wrId < 2 ^ 64) (hop : w.op < 2 ^ 8) (hq : w.queue < 2 ^ 16) (hi : w.imm < 2 ^ 32)
    (hh : w.hash < 2 ^ 32) (hv : w.vlan < 2 ^ 16) :
    fld (w.word ph) 0 64 = w.wrId ∧ fld (w.word ph) 64 8 = w.op ∧ fld (w.word ph) 72 8 = wcCode w.st ∧
    fld (w.word ph) 80 16 = w.queue ∧ bit (w.word ph) 96 = w.eth ∧ bit (w.word ph) 97 = ph ∧ bit (w.word ph) 98 = w.csumOk ∧
    bit (w.word ph) 99 = w.ce ∧ fld (w.word ph) 128 32 = w.bytes % 2 ^ 32 ∧ fld (w.word ph) 160 32 = w.imm ∧
    fld (w.word ph) 192 32 = w.hash ∧ fld (w.word ph) 224 16 = w.vlan := by
  have hst := wcCode_lt w.st
  have hb : w.bytes % 2 ^ 32 < 2 ^ 32 := Nat.mod_lt _ (by decide)
  have heth := w.eth.toNat_le
  have hph := ph.toNat_le
  have hsum := w.csumOk.toNat_le
  have hce := w.ce.toNat_le
  refine ⟨?_, ?_, ?_, ?_, bit_wcWord (by decide) ?_, bit_wcWord (by decide) ?_, bit_wcWord (by decide) ?_, bit_wcWord (by decide) ?_,
    ?_, ?_, ?_, ?_⟩
  iterate 4 (· rw [fld_wcWord w ph (by decide), wcNat]; omega)
  iterate 4 (· rw [wcNat]; omega)
  iterate 4 (· rw [fld_wcWord w ph (by decide), wcNat]; omega)

theorem owe_cqs (b : Block) (p : Nat) (o : PortOwed) (i : Nat) : ((b.owe p o).port i).cqs = (b.port i).cqs := by
  have h : Stays (beyond b) (b.owe p o) := Stays.payOwed ((Stays.refl b).updPort)
  exact congrFun (congrArg Beyond.cqs h) i

theorem pushWc_full {b : Block} {p i : Nat} {w : Wc} {e : Line} (hcopy : (tget {} ((b.loadCq p i).port p).cqs i).copy = some e)
    (hv : cqValid e = true) (hfull : 2 ^ fld e 56 4 ≤ ahead32 (tget {} ((b.loadCq p i).port p).cqs i).prod
      (tget {} ((b.loadCq p i).port p).cqs i).cons) : b.pushWc p i w = (b.loadCq p i, true) := by
  simp only [Block.pushWc, hcopy, hv, Bool.not_true, Bool.false_eq_true, if_false, hfull, if_true]

theorem updCq_same (b : Block) (p i : Nat) (f : Cq → Cq) : tget {} ((b.updCq p i f).port p).cqs i = f (tget {} (b.port p).cqs i) := by
  have hport : (b.updCq p i f).port p = { b.port p with cqs := tput (b.port p).cqs i (f (tget {} (b.port p).cqs i)) } :=
    tget_tput_same _ _ _ _
  rw [hport]
  exact tget_tput_same _ _ _ _

theorem pushWc_pushes {b : Block} {p i : Nat} (w : Wc) {e : Line} (hcopy : (tget {} ((b.loadCq p i).port p).cqs i).copy = some e)
    (hv : cqValid e = true) (hroom : ahead32 (tget {} ((b.loadCq p i).port p).cqs i).prod
      (tget {} ((b.loadCq p i).port p).cqs i).cons < 2 ^ fld e 56 4) :
    (b.pushWc p i w).2 = false ∧
    (tget {} ((b.pushWc p i w).1.port p).cqs i).prod = ((tget {} ((b.loadCq p i).port p).cqs i).prod + 1) % 2 ^ 32 ∧
    (tget {} ((b.pushWc p i w).1.port p).cqs i).armed = false := by
  simp only [Block.pushWc, hcopy, hv, Bool.not_true, Bool.false_eq_true, if_false, Nat.not_le.2 hroom, owe_cqs, updCq_same, and_self]

/-- Settles O42: a frame by its queue and buffer, the responder and the requester by the order of their checks, the rates from the update
of one queue pair, a completion entry as the sum of its fields. -/
theorem portReceiving : Obligations.PortReceiving := by
  unfold Obligations.PortReceiving
  refine ⟨fun s p => ⟨fun mac g => ethFrameRx_off, fun mac g => ethFrameRx_fecBad, fun mac g hp hm hf => ⟨fun named held =>
      ethFrameRx_pauses hp hm hf, fun hpfc r hcopy herr hlen => ⟨ethFrameRx_noBuffer hp hm hf hpfc hcopy herr hlen, fun d hh =>
        ⟨ethFrameRx_tooLong hp hm hf hpfc hcopy herr hlen hh, fun c => ethFrameRx_completes hp hm hf hpfc hcopy herr hlen hh⟩⟩⟩,
      fun q r hp hq hcopy hst herr hup => ?request⟩,
    fun s p i r hi hp => ⟨fun q hq hcopy hst hup => ?response, ackTimeout_ends hp, ackTimeout_stays, cnpRx_cuts hi hp,
      ccTimer_recovers hi hp⟩,
    fun w ph => wcWord_fields w ph, fun b p i w e hcopy hv => ⟨pushWc_full hcopy hv, pushWc_pushes w hcopy hv⟩⟩
  case request =>
    have h : Serves (s.blk.loadPq p false q.qpn) p q.qpn r := ⟨hcopy, hst, herr, hup⟩
    exact ⟨roceRequestRx_serves hp hq h, roceRequestRx_again hp hq h, roceRequestRx_ahead hp hq h⟩
  case response =>
    obtain ⟨hack, hread, hatomic⟩ := roceResponseRx_acks hi hp hq hcopy hst hup
    exact ⟨hack, hread, hatomic, fun z rest => roceResponseRx_naks hi hp hq hcopy hst hup⟩

end Sys2Proof
